-- ==== Sys2Proof/Word.lean ====
section
/-!
DEFINITION. The word types of the PZ-K48 (spec/00_scope.md R11, R12): registers are 32-bit words,
loop-engine words and 64-bit counters are 64 bits wide, accumulators 112 bits (R111).
-/
namespace Sys2Proof

/-- One byte of memory. -/
abbrev Byte := BitVec 8
/-- A bridge-link word (R29). -/
abbrev Half := BitVec 16
/-- A register or lane-link word. -/
abbrev Word := BitVec 32
/-- A loop-engine data word. -/
abbrev DWord := BitVec 64
/-- A loop-engine instruction word without its spare bits (R137). -/
abbrev Code := BitVec 58
/-- A loop-engine accumulator (R111). -/
abbrev Acc112 := BitVec 112

end Sys2Proof
end

