-- ==== Sys2Proof/Syntax.lean ====
section
/-!
DEFINITION. The commands of the PZ-K48, one constructor per row of spec/opcode_table.json, with their
operands. The spec's rows name what happens; the operands (which lane, which instance, which words
arrived, what was measured) are what the rule of the row says the step depends on.
-/
namespace Sys2Proof

/-- The two processing lanes (R16). -/
inductive Lane where
  | A | B
  deriving DecidableEq, Repr

/-- The lane other than the one described (spec/00_scope.md, Names). -/
def Lane.peer : Lane → Lane
  | .A => .B
  | .B => .A

/-- 0 for Lane A and 1 for Lane B, as BLKID.INSTANCE[7] shows it (R49). -/
def Lane.num : Lane → Nat
  | .A => 0
  | .B => 1

/-- The bus agents of a lane (R61): each hart, the transfer engine, the debug port; the host SPI target
and the start-up sequencer also access registers (R354, R464). -/
inductive Agent where
  | hart (n : Fin 4) | xfr | dbg | host | boot
  deriving DecidableEq, Repr

/-- The link receivers that R33 and R36 describe: a lane's end of the lane link, a lane's end of its
bridge link, and the bridge die's end of a lane's bridge link. -/
inductive LinkEnd where
  | laneLink (l : Lane) | bridgeUp (l : Lane) | bridgeDown (l : Lane)
  deriving DecidableEq, Repr

/-- A bus access: byte address, size in bytes, and the value if it is a write. -/
structure Access where
  addr : Nat
  size : Nat
  wdata : Option DWord
  deriving DecidableEq, Repr

/-- An access that the comparator passed (R88, R96): a bus access, an access to the IMSIC file through
mireg or mtopei (with the value written, if any), or a logged counter read with the value it returned. -/
inductive DevAccess where
  | bus (a : Access)
  | imsic (csr : Nat) (write : Option DWord)
  | vcsr (csr : Nat) (value : DWord)
  deriving DecidableEq, Repr

/-- What an atomic memory operation computes (R79, the A extension). -/
inductive AmoOp where
  | swap | add | xor | and | or | min | max | minu | maxu
  deriving DecidableEq, Repr

/-- How a hart stores to working memory (R82, R94): a store, an atomic operation, or the load and the store of an LR and SC
pair. -/
inductive WorkOp where
  | store | amo (f : AmoOp) | lr | sc
  deriving DecidableEq, Repr

/-- What a PWM boundary finds (R20, R24): for each lane, engine cycles since the output phase of its
staged command, and nanoseconds since its verdict was staged. -/
structure BoundaryTimes where
  leadA : Nat
  leadB : Nat
  verdA : Nat
  verdB : Nat
  deriving DecidableEq, Repr

/-- A change of a hart's registers that an instruction makes (R105): general, floating-point or
control register number, and the value. -/
inductive RegChange where
  | gpr (n : Nat) (v : DWord) | fpr (n : Nat) (v : DWord) | csr (n : Nat) (v : DWord)
  deriving DecidableEq, Repr

/-- A SELECT word (R226): per bridge a code and an action, the active-half mask, the sequence number,
whether its CRC-8 is correct, how many half-copies arrived, and whether they are identical. -/
structure SelectWord where
  codes : List Nat
  acts : List Nat
  mask : Nat
  seq : Nat
  crcOk : Bool
  copies : Nat
  same : Bool
  deriving DecidableEq, Repr

/-- What aborts an entry into DOZE or PARK (R445): a wake source, a debug halt request, a host SPI frame, or a
PSREQ write. -/
inductive Stopper where
  | wake (ss : Fin 8) | debug | host | psreq
  deriving DecidableEq, Repr

/-- A CAN frame on the bus (R342): identifier as word 0 holds it, extended, remote, DLC, FDF, BRS, ESI and data bytes. -/
structure CanFrame where
  id : BitVec 29
  xtd : Bool
  rtr : Bool
  dlc : BitVec 4
  fdf : Bool
  brs : Bool
  esi : Bool
  data : List (BitVec 8)
  deriving DecidableEq, Repr

/-- How an event reaches a collector (R399, R410): in the cycle of the one before, and whether its condition still lasts. -/
structure EventMark where
  sameCycle : Bool
  cause : Bool
  deriving DecidableEq, Repr

/-- The supply that a bridge's monitor measures, in the unit of BSTAT (R256). -/
structure BridgeVolts where
  bridge : Fin 8
  vbr : Nat
  deriving DecidableEq, Repr

/-- A fall of a bootstrap supply (R249, R251): when in the period it began, the level, and the level after a refresh. -/
structure VbsCourse where
  start : Nat
  vbs : Nat
  after : Nat
  deriving DecidableEq, Repr

/-- A frame that a CAN controller received `ago` µs before (R344, R346). -/
structure CanReceipt where
  frame : CanFrame
  ago : Nat
  deriving DecidableEq, Repr

/-- A pair and the instructions it has retired at a commit (R98). -/
structure CommitPoint where
  pair : Fin 4
  retired : Nat
  deriving DecidableEq, Repr

/-- ARG of a CURRENT frame (R30) and the engine cycle of its receipt (R157). -/
structure CurrentMark where
  arg : BitVec 9
  cycle : Nat
  deriving DecidableEq, Repr

/-- A transfer channel's descriptor fetch (R420): whether the bus answered with an error, and its latencies (R488). -/
structure ChannelFetch where
  chan : Fin 16
  err : Bool
  lats : List Nat
  deriving DecidableEq, Repr

/-- A transfer channel's descriptor write-back and the latencies of its reads (R420, R488). -/
structure ChannelWriteBack where
  chan : Fin 16
  lats : List Nat
  deriving DecidableEq, Repr

/-- A burst (R427): whether its request was withdrawn, and its latencies (R488). -/
structure BurstMark where
  withdrawn : Bool
  lats : List Nat
  deriving DecidableEq, Repr

/-- A change at a channel's balls (R269): how many samples the new level has stood, and the time since the last step. -/
structure HeldTime where
  held : Nat
  t : Nat
  deriving DecidableEq, Repr

/-- A level that a ball has shown for `held` samples (R269). -/
structure HeldLevel where
  level : Bool
  held : Nat
  deriving DecidableEq, Repr

/-- A level that a channel's ball has shown for `held` samples, `t` after the last edge that counted (R269, R275, R276). -/
structure HeldEdge where
  level : Bool
  held : Nat
  t : Nat
  deriving DecidableEq, Repr

/-- The balls of A and B of a channel (R269). -/
structure LinePair where
  a : Bool
  b : Bool
  deriving DecidableEq, Repr

/-- A host frame that asserts HSCS_N early, and one whose bus access meets bad parity (R353). -/
structure HostMark where
  early : Bool
  parity : Bool
  deriving DecidableEq, Repr

/-- The way of an interrupt message: from a page to the IMSIC of a hart (R66). -/
structure MessagePath where
  page : Nat
  hart : Nat
  deriving DecidableEq, Repr

/-- A sensor port, and whether its line carries the frame inverted (R284, R285). -/
structure SensorLine where
  port : Fin 4
  inv : Bool
  deriving DecidableEq, Repr

/-- The instant of a received Strata frame in its cycle, in microticks (R309), and its age when it was stored (R314). -/
structure StrataTime where
  ts : Int
  lat : Nat
  deriving DecidableEq, Repr

/-- What a hart stores to working memory, and where (R82). -/
structure WorkTarget where
  op : WorkOp
  addr : Nat
  size : Nat
  deriving DecidableEq, Repr

/-- The commands, one per row of spec/opcode_table.json. -/
inductive Instr where
  /-- PHASE_CMD_RECEIVED (R19). -/
  | phaseCmdReceived (l : Lane) (n : Fin 8) (arg : BitVec 9) (u v w : Half)
  /-- VERDICT_RECEIVED (R24). -/
  | verdictReceived (l : Lane) (arg : BitVec 9) (payload : Half)
  /-- DUPLEX_OUT_RECEIVED (R23). -/
  | duplexOutReceived (l : Lane) (slot rot : Nat) (fn : Word) (outs : List DWord)
  /-- VERDICT_DEADLINE (R24). -/
  | verdictDeadline (l : Lane) (slot : Fin 48)
  /-- PWM_PERIOD_BOUNDARY (R20). -/
  | pwmPeriodBoundary (n : Fin 8) (t : BoundaryTimes)
  /-- BRIDGE_TERMINAL_ENTRY (R28). -/
  | bridgeTerminalEntry (n : Fin 8)
  /-- BRIDGE_LINK_FRAME_RECEIVED (R33). -/
  | bridgeLinkFrameReceived (l : Lane) (up : Bool) (words : List Half) (parityOk : Bool)
  /-- LANE_LINK_FRAME_RECEIVED (R36). -/
  | laneLinkFrameReceived (l : Lane) (words : List Word) (parityOk : Bool)
  /-- LINK_SILENCE_TIMEOUT (R33). -/
  | linkSilenceTimeout (e : LinkEnd)
  /-- LINK_COUNTING_INTERVAL_END (R532). -/
  | linkCountingIntervalEnd (e : LinkEnd)
  /-- SYNC_ABSENCE_INTERVAL_TIMEOUT (R531). -/
  | syncAbsenceIntervalTimeout (l : Lane)
  /-- LANE_LINK_FRAME_START (R37). -/
  | laneLinkFrameStart (l : Lane) (cycle : Nat)
  /-- BRIDGE_SYNC_RECEIVED (R22). -/
  | bridgeSyncReceived (l : Lane) (arg : BitVec 9) (payload : Half)
  /-- LANE_LINK_SYNC_RECEIVED (R144). -/
  | laneLinkSyncReceived (l : Lane) (fnLo fnHi cyc corr : Word)
  /-- MASTER_PERIOD_BOUNDARY (R245). -/
  | masterPeriodBoundary
  /-- CURRENT_CONVERSION_START (R260). -/
  | currentConversionStart (samples : List Half)
  /-- CURRENT_FRAME_RECEIVED (R157). -/
  | currentFrameReceived (l : Lane) (n : Fin 8) (m : CurrentMark) (u v w : Half)
  /-- OVERCURRENT_DETECTED (R256). -/
  | overcurrentDetected (n : Fin 8) (p : Fin 3)
  /-- STATUS_FRAME_RECEIVED (R266). -/
  | statusFrameReceived (l : Lane) (n : Fin 8) (arg : BitVec 9) (payload : Half)
  /-- REG_WR_RECEIVED (R70). -/
  | regWrReceived (l : Lane) (n : Fin 8) (offset : Half) (data : Word) (parityOk : Bool)
  /-- REG_RD_RECEIVED (R68). -/
  | regRdReceived (l : Lane) (n : Fin 8) (offset : Half)
  /-- REG_RSP_RECEIVED (R68). -/
  | regRspReceived (l : Lane) (data : Word)
  /-- BRIDGE_WINDOW_WRITE (R68). -/
  | bridgeWindowWrite (l : Lane) (g : Agent) (a : Access)
  /-- BRIDGE_WINDOW_READ (R68). -/
  | bridgeWindowRead (l : Lane) (g : Agent) (a : Access)
  /-- BRIDGE_READ_TIMEOUT (R68). -/
  | bridgeReadTimeout (l : Lane) (g : Agent)
  /-- REGISTER_WRITE (R56), with the bytes whose parity is wrong (R63). -/
  | registerWrite (l : Lane) (g : Agent) (a : Access) (bad : Byte)
  /-- READ_PARITY_ERROR (R63). -/
  | readParityError (l : Lane) (g : Agent) (addr : Nat)
  /-- SOFT_RESET (R52). -/
  | softReset (l : Lane) (g : Agent) (page : Nat)
  /-- BLOCK_RUN (R51). -/
  | blockRun (l : Lane) (g : Agent) (page : Nat)
  /-- BLOCK_STOP_REQUEST (R53). -/
  | blockStopRequest (l : Lane) (g : Agent) (page : Nat)
  /-- BLOCK_STOP_COMPLETE (R53). -/
  | blockStopComplete (l : Lane) (page : Nat)
  /-- LOCKKEY_WRITE (R59). -/
  | lockkeyWrite (l : Lane) (g : Agent) (page : Nat) (v : Word)
  /-- COUNTER_LOW_READ (R61). -/
  | counterLowRead (l : Lane) (g : Agent) (addr : Nat)
  /-- COUNTER_HIGH_WRITE (R62). -/
  | counterHighWrite (l : Lane) (g : Agent) (addr : Nat) (v : Word)
  /-- COUNTER_LOW_WRITE (R62). -/
  | counterLowWrite (l : Lane) (g : Agent) (addr : Nat) (v : Word)
  /-- IMSIC_MESSAGE_DELIVERY (R66). -/
  | imsicMessageDelivery (l : Lane) (w : MessagePath) (ident : BitVec 8)
  /-- NOP (R72). -/
  | nop (l : Lane)
  /-- RENEW (R219). -/
  | renew (l : Lane)
  /-- RELEASE (R219). -/
  | release (l : Lane)
  /-- STANDBY (R219). -/
  | standby (l : Lane)
  /-- DRIVE_ON (R219). -/
  | driveOn (l : Lane)
  /-- DRIVE_OFF (R219). -/
  | driveOff (l : Lane)
  /-- PARK (R437). -/
  | park (l : Lane)
  /-- FAULT_ACK (R412). -/
  | faultAck (l : Lane)
  /-- FAULT_CLEAR (R412). -/
  | faultClear (l : Lane)
  /-- GO_SAFE (R219). -/
  | goSafe (l : Lane)
  /-- PEER_WINDOW_READ (R75). -/
  | peerWindowRead (l : Lane) (g : Agent) (a : Access)
  /-- PEER_RD_REQ_RECEIVED (R76). -/
  | peerRdReqReceived (l : Lane) (tag : Half) (addrLo addrHi count : Word)
  /-- PEER_RD_RSP_RECEIVED (R75). -/
  | peerRdRspReceived (l : Lane) (tag : Half) (words : List Word)
  /-- PEER_READ_TIMEOUT (R75). -/
  | peerReadTimeout (l : Lane) (g : Agent)
  /-- PRZ_CKPT (R85). -/
  | przCkpt (l : Lane) (p : Fin 4) (w : Word)
  /-- PRZ_CKSN (R85). -/
  | przCksn (l : Lane) (p : Fin 4) (w : Word)
  /-- PRZ_LOGFREE (R85). -/
  | przLogfree (l : Lane) (p : Fin 4) (w : Word)
  /-- CHECKPOINT_TIMER_EXPIRY (R89). -/
  | checkpointTimerExpiry (l : Lane) (p : Fin 4)
  /-- PAIRCMD_CKPT (R108). -/
  | paircmdCkpt (l : Lane) (g : Agent) (p : Fin 4)
  /-- PAIRCMD_REVIVE (R103). -/
  | paircmdRevive (l : Lane) (g : Agent) (p : Fin 4)
  /-- CHECKPOINT_COMMIT (R91). -/
  | checkpointCommit (l : Lane) (c : CommitPoint)
  /-- FORCE_CHECKPOINT_SET (R95). -/
  | forceCheckpointSet (l : Lane) (p : Fin 4) (addr : Nat)
  /-- FORCE_CHECKPOINT_SNOOP (R95). -/
  | forceCheckpointSnoop (l : Lane) (p : Fin 4) (addr : Nat)
  /-- DEVICE_ACCESS_RELEASE (R88). -/
  | deviceAccessRelease (l : Lane) (p : Fin 4) (d : DevAccess)
  /-- LOCKSTEP_MISMATCH (R100). -/
  | lockstepMismatch (l : Lane) (p : Fin 4) (group : Fin 16) (eic : Nat)
  /-- CHECKPOINT_RESTART_COMPLETE (R101). -/
  | checkpointRestartComplete (l : Lane) (p : Fin 4)
  /-- REPLAY_DIVERGENCE (R99). -/
  | replayDivergence (l : Lane) (p : Fin 4)
  /-- REPLAY_END (R98). -/
  | replayEnd (l : Lane) (p : Fin 4)
  /-- CACHE_CORRECTABLE_ERROR (R84). -/
  | cacheCorrectableError (l : Lane) (p : Fin 4)
  /-- CACHE_UNCORRECTABLE_ERROR (R84). -/
  | cacheUncorrectableError (l : Lane) (p : Fin 4) (addr : Nat) (l2 : Bool)
  /-- DEBUG_HALT_REQUEST (R104). -/
  | debugHaltRequest (l : Lane) (p : Fin 4) (cause : Fin 8)
  /-- DEBUG_MODE_ENTRY (R104). -/
  | debugModeEntry (l : Lane) (p : Fin 4)
  /-- DEBUG_RESUME (R363). -/
  | debugResume (l : Lane) (p : Fin 4)
  /-- DEBUG_ACCESS_REGISTER (R105). -/
  | debugAccessRegister (l : Lane) (p : Fin 4) (regno : Nat) (write : Option DWord)
  /-- DEBUG_PROGRAM_BUFFER (R105). -/
  | debugProgramBuffer (l : Lane) (p : Fin 4) (changes : List RegChange)
  /-- DEBUG_SYSTEM_BUS_ACCESS (R364). -/
  | debugSystemBusAccess (l : Lane) (a : Access)
  /-- DEBUG_HARTRESET (R363). -/
  | debugHartreset (l : Lane) (p : Fin 4)
  /-- DEBUG_NDMRESET (R363). -/
  | debugNdmreset (l : Lane)
  /-- MAC (R141). -/
  | eMac (l : Lane) (w : Code)
  /-- MSU (R141). -/
  | eMsu (l : Lane) (w : Code)
  /-- MPY (R141). -/
  | eMpy (l : Lane) (w : Code)
  /-- VMAC (R141). -/
  | eVmac (l : Lane) (w : Code)
  /-- VMPY (R141). -/
  | eVmpy (l : Lane) (w : Code)
  /-- ADDA (R141). -/
  | eAdda (l : Lane) (w : Code)
  /-- LDA (R141). -/
  | eLda (l : Lane) (w : Code)
  /-- VCLR (R141). -/
  | eVclr (l : Lane) (w : Code)
  /-- MOVE (R141). -/
  | eMove (l : Lane) (w : Code)
  /-- RND (R121). -/
  | eRnd (l : Lane) (w : Code)
  /-- LDI (R141). -/
  | eLdi (l : Lane) (w : Code)
  /-- LDIH (R141). -/
  | eLdih (l : Lane) (w : Code)
  /-- MACI (R141). -/
  | eMaci (l : Lane) (w : Code)
  /-- MPYI (R141). -/
  | eMpyi (l : Lane) (w : Code)
  /-- ADDI (R141). -/
  | eAddi (l : Lane) (w : Code)
  /-- MOV (R141). -/
  | eMov (l : Lane) (w : Code)
  /-- ADD (R141). -/
  | eAdd (l : Lane) (w : Code)
  /-- SUB (R141). -/
  | eSub (l : Lane) (w : Code)
  /-- ADDS (R122). -/
  | eAdds (l : Lane) (w : Code)
  /-- SUBS (R122). -/
  | eSubs (l : Lane) (w : Code)
  /-- AND (R141). -/
  | eAnd (l : Lane) (w : Code)
  /-- OR (R141). -/
  | eOr (l : Lane) (w : Code)
  /-- XOR (R141). -/
  | eXor (l : Lane) (w : Code)
  /-- SHL (R141). -/
  | eShl (l : Lane) (w : Code)
  /-- SAR (R141). -/
  | eSar (l : Lane) (w : Code)
  /-- SHR (R141). -/
  | eShr (l : Lane) (w : Code)
  /-- MIN (R141). -/
  | eMin (l : Lane) (w : Code)
  /-- MAX (R141). -/
  | eMax (l : Lane) (w : Code)
  /-- CLAMP (R141). -/
  | eClamp (l : Lane) (w : Code)
  /-- ABS (R122). -/
  | eAbs (l : Lane) (w : Code)
  /-- NEG (R122). -/
  | eNeg (l : Lane) (w : Code)
  /-- AGCFG (R126). -/
  | eAgcfg (l : Lane) (w : Code)
  /-- AGSET (R126). -/
  | eAgset (l : Lane) (w : Code)
  /-- AGGET (R141). -/
  | eAgget (l : Lane) (w : Code)
  /-- XLD (R141). -/
  | eXld (l : Lane) (w : Code)
  /-- XST (R141). -/
  | eXst (l : Lane) (w : Code)
  /-- CRDROT (R134). -/
  | eCrdrot (l : Lane) (w : Code)
  /-- CRDVEC (R134). -/
  | eCrdvec (l : Lane) (w : Code)
  /-- CORDIC_RESULT_READY (R135). -/
  | cordicResultReady (l : Lane)
  /-- CRDGET (R135). -/
  | eCrdget (l : Lane) (w : Code)
  /-- GETSW (R136). -/
  | eGetsw (l : Lane) (w : Code)
  /-- CLRSW (R136). -/
  | eClrsw (l : Lane) (w : Code)
  /-- BR (R133). -/
  | eBr (l : Lane) (w : Code)
  /-- LOOP (R130). -/
  | eLoop (l : Lane) (w : Code)
  /-- END (R114). -/
  | eEnd (l : Lane) (w : Code)
  /-- FRAME_START (R165). -/
  | frameStart (l : Lane) (lateCommit : Bool) (lateSwaps : List Nat)
  /-- TABLE_COMMIT_REQUEST (R165). -/
  | tableCommitRequest (l : Lane) (v : Word)
  /-- COEFFICIENT_SWAP_REQUEST (R164). -/
  | coefficientSwapRequest (l : Lane) (c : Fin 128) (v : Word)
  /-- LOOP_ENGINE_RUN (R143). -/
  | loopEngineRun (l : Lane) (v : Word)
  /-- SLOT_SNAPSHOT (R148). -/
  | slotSnapshot (l : Lane) (n : Fin 48)
  /-- SLOT_ENTRY (R113). -/
  | slotEntry (l : Lane)
  /-- SLOT_OVERRUN (R149). -/
  | slotOverrun (l : Lane)
  /-- SLOT_OUTPUT_STAGE (R148). -/
  | slotOutputStage (l : Lane)
  /-- SLOT_LAUNCH (R160). -/
  | slotLaunch (l : Lane) (n : Fin 48)
  /-- TRACKER_ANALYSIS_COMPLETE (R174). -/
  | trackerAnalysisComplete (l : Lane) (k : Fin 4) (cycles : Nat)
  /-- TRACKER_ACCEPT (R175). -/
  | trackerAccept (l : Lane) (k : Fin 4) (bin : BitVec 9)
  /-- TRACKER_REJECT (R175). -/
  | trackerReject (l : Lane) (k : Fin 4) (bin : BitVec 9)
  /-- TRKCFG_WRITE (R172). -/
  | trkcfgWrite (l : Lane) (k : Fin 4) (v : Word)
  /-- PLC_COMMIT (R205). -/
  | plcCommit (l : Lane)
  /-- PLC_REPLACE (R205). -/
  | plcReplace (l : Lane)
  /-- INIT_REFILL_COMPLETE (R203). -/
  | initRefillComplete (l : Lane)
  /-- PLACEMENT_RUN_START (R203). -/
  | placementRunStart (l : Lane) (fn : DWord)
  /-- PLACE_TRIG_RECEIVED (R203). -/
  | placeTrigReceived (l : Lane) (mask fn : Word)
  /-- PLACE_INPUT_RECEIVED (R204). -/
  | placeInputReceived (l : Lane) (run digest slots rest holders : Word)
  /-- PLACE_RESULT_RECEIVED (R204). -/
  | placeResultReceived (l : Lane) (run digest lead : Word)
  /-- STATE_LOAD_COMPLETE (R203). -/
  | stateLoadComplete (l : Lane)
  /-- PLACEMENT_EFFECT (R203). -/
  | placementEffect (l : Lane)
  /-- PLACE_SNAP_RECEIVED (R197). -/
  | placeSnapReceived (l : Lane) (c : Fin 128) (fn : Word)
  /-- MIRROR_FRAME_RECEIVED (R199). -/
  | mirrorFrameReceived (l : Lane) (c : Fin 128) (offset : Nat) (words : List Word)
  /-- PLACE_PLCSTATE_RECEIVED (R206). -/
  | placePlcstateReceived (l : Lane) (first : Nat) (words : List Word)
  /-- PLACE_SYNCED_RECEIVED (R206). -/
  | placeSyncedReceived (l : Lane) (c : Fin 128)
  /-- RAMP_OUTPUT (R201). -/
  | rampOutput (l : Lane) (c : Fin 128)
  /-- LANE_HEARTBEAT_START (R215). -/
  | laneHeartbeatStart (l : Lane)
  /-- HEARTBEAT_MISSING (R215). -/
  | heartbeatMissing (l : Lane)
  /-- LANE_START_UP_COMPLETE (R215). -/
  | laneStartUpComplete (l : Lane) (us : Nat)
  /-- START_TIMEOUT (R470). -/
  | startTimeout
  /-- KILN_FAIL_WIRE (R215). -/
  | kilnFailWire (l : Lane)
  /-- LANE_DOWN_FLAG (R407). -/
  | laneDownFlag (l : Lane)
  /-- LEASE_EXPIRY (R221). -/
  | leaseExpiry (d : Fin 8)
  /-- STANDBY_READY_EXPIRY (R218). -/
  | standbyReadyExpiry (l : Lane) (d : Fin 8)
  /-- SELF_DIAGNOSIS_RISE (R221). -/
  | selfDiagnosisRise (l : Lane) (d : Fin 8)
  /-- SELECT_RECEIVED (R226). -/
  | selectReceived (w : SelectWord)
  /-- SELECT_ACK (R221). -/
  | selectAck (codes acts : List Nat) (cycles : List Nat)
  /-- SELECT_REPEAT (R224). -/
  | selectRepeat
  /-- SELECT_PERIODIC (R226). -/
  | selectPeriodic
  /-- SELECT_TIMEOUT (R233). -/
  | selectTimeout
  /-- ORPHAN_TIMEOUT (R227). -/
  | orphanTimeout
  /-- BEDROCK_HALF_RETIRE (R225). -/
  | bedrockHalfRetire (h0 h1 : Bool)
  /-- FEED_POWER_ON_RISE (R43). -/
  | feedPowerOnRise (l : Lane) (tst tstd : Bool)
  /-- FEED_POWER_ON_FALL (R43). -/
  | feedPowerOnFall (l : Lane)
  /-- FEED_UNDERVOLTAGE_FALL (R230). -/
  | feedUndervoltageFall (l : Lane)
  /-- FEED_UNDERVOLTAGE_RISE (R230). -/
  | feedUndervoltageRise (l : Lane)
  /-- GATE_SUPPLY_FALL (R231). -/
  | gateSupplyFall (l : Lane)
  /-- GATE_SUPPLY_RISE (R231). -/
  | gateSupplyRise (l : Lane)
  /-- GATE_SUPPLIES_LOST_TIMEOUT (R231). -/
  | gateSuppliesLostTimeout
  /-- BOOTSTRAP_UNDERVOLTAGE (R251). -/
  | bootstrapUndervoltage (n : Fin 8) (p : Fin 3) (v : VbsCourse)
  /-- BOOTUV_FAULT_LATCH (R251). -/
  | bootuvFaultLatch (n : Fin 8) (p : Fin 3)
  /-- PRECHARGE_END (R252). -/
  | prechargeEnd (n : Fin 8)
  /-- COMMUTATION_CODE_CHANGE (R253). -/
  | commutationCodeChange (n : Fin 8) (pins : Fin 8)
  /-- INTERLOCK_REFUSAL (R255). -/
  | interlockRefusal (n : Fin 8) (p : Fin 3)
  /-- DESAT_DETECTED (R256). -/
  | desatDetected (n : Fin 8) (sw : Fin 6)
  /-- BRIDGE_SUPPLY_UNDERVOLTAGE (R256). -/
  | bridgeSupplyUndervoltage (v : BridgeVolts)
  /-- BRIDGE_SUPPLY_OVERVOLTAGE (R256). -/
  | bridgeSupplyOvervoltage (v : BridgeVolts)
  /-- OVERTEMPERATURE (R256). -/
  | overtemperature (n : Fin 8) (temp : BitVec 8)
  /-- TEMPERATURE_WARNING (R256). -/
  | temperatureWarning (n : Fin 8) (temp : BitVec 8)
  /-- BEN_FALL (R258). -/
  | benFall (n : Fin 8)
  /-- BEN_LOW_TIMEOUT (R258). -/
  | benLowTimeout (n : Fin 8)
  /-- BEN_RISE (R258). -/
  | benRise (n : Fin 8) (lowNs : Nat) (vbsOk : BitVec 3) (uvOk ovOk tempOk : Bool)
  /-- TERMINAL_REQUEST (R259). -/
  | terminalRequest (l : Lane) (n : Fin 8) (key : Half)
  /-- MASTER_TIMEBASE_START (R267). -/
  | masterTimebaseStart
  /-- BRIDGE_PLL_LOCK_LOSS (R267). -/
  | bridgePllLockLoss
  /-- BRIDGE_PLL_LOCK (R267). -/
  | bridgePllLock
  /-- ORPH_STRAP_SAMPLE (R507). -/
  | orphStrapSample (samples : List (BitVec 8))
  /-- QUADRATURE_STATE_CHANGE (R273). -/
  | quadratureStateChange (l : Lane) (k : Fin 16) (was code : Fin 4) (h : HeldTime)
  /-- HALL_CODE_CHANGE (R274). -/
  | hallCodeChange (l : Lane) (k : Fin 16) (code : Fin 8) (h : HeldTime)
  /-- TOOTH_EDGE (R275). -/
  | toothEdge (l : Lane) (k : Fin 16) (e : HeldEdge)
  /-- PDIR_PULSE (R276). -/
  | pdirPulse (l : Lane) (k : Fin 16) (v b : Bool) (h : HeldTime)
  /-- DUTY_RISING_EDGE (R276). -/
  | dutyRisingEdge (l : Lane) (k : Fin 16) (e : HeldEdge) (high : Nat)
  /-- FREQ_RISING_EDGE (R276). -/
  | freqRisingEdge (l : Lane) (k : Fin 16) (e : HeldEdge)
  /-- FEEDBACK_TIMEOUT (R279). -/
  | feedbackTimeout (l : Lane) (k : Fin 16)
  /-- SPEED_WINDOW_END (R279). -/
  | speedWindowEnd (l : Lane) (k : Fin 16)
  /-- CHANNEL_CONFIG_RESET (R272). -/
  | channelConfigReset (l : Lane) (k : Fin 16) (reg : Fin 3) (v : Word)
  /-- POS_WRITE (R272). -/
  | posWrite (l : Lane) (k : Fin 16) (v : Word)
  /-- CHEVT_READ (R288). -/
  | chevtRead (l : Lane) (g : Agent) (k : Fin 16)
  /-- DIVIDED_OUTPUT_STEP (R282). -/
  | dividedOutputStep (l : Lane) (j : Fin 4)
  /-- SENT_FRAME_RECEIVED (R284). -/
  | sentFrameReceived (l : Lane) (p : SensorLine) (cal : Nat) (nibs : List Nat) (pause : Option Nat)
  /-- PSI5_FRAME_RECEIVED (R285). -/
  | psi5FrameReceived (l : Lane) (p : SensorLine) (t : Nat) (bits : List Bool) (crc : BitVec 3) (viol : Bool)
  /-- PSI5_SYNC_TRIGGER (R285). -/
  | psi5SyncTrigger (l : Lane) (p : Fin 4)
  /-- SENSOR_LOST_TIMEOUT (R286). -/
  | sensorLostTimeout (l : Lane) (p : Fin 4)
  /-- PEVT_READ (R291). -/
  | pevtRead (l : Lane) (g : Agent) (p : Fin 4)
  /-- ADCSTART_GO (R294). -/
  | adcstartGo (l : Lane) (v : Word)
  /-- ADC_FRAME_TRIGGER (R294). -/
  | adcFrameTrigger (l : Lane)
  /-- ADC_CONVERSION_COMPLETE (R295). -/
  | adcConversionComplete (l : Lane) (value : Half)
  /-- ADC_CALIBRATION_COMPLETE (R296). -/
  | adcCalibrationComplete (l : Lane) (ok : Bool)
  /-- ADCFIFO_READ (R295). -/
  | adcfifoRead (l : Lane) (g : Agent)
  /-- PORT_RUN (R308). -/
  | portRun (l : Lane) (p : Fin 2) (v : Word)
  /-- PORT_STOP (R316). -/
  | portStop (l : Lane) (p : Fin 2)
  /-- TRANSMIT_DEADLINE (R310). -/
  | transmitDeadline (l : Lane) (p : Fin 2) (n : Fin 64)
  /-- ACTION_POINT (R309). -/
  | actionPoint (l : Lane) (p : Fin 2) (n : Fin 64) (carrier : Bool)
  /-- STRATA_COLLISION (R309). -/
  | strataCollision (l : Lane) (p : Fin 2)
  /-- STRATA_FRAME_RECEIVED (R311). -/
  | strataFrameReceived (l : Lane) (p : Fin 2) (bytes : List Byte) (fcsOk : Bool) (t : StrataTime)
  /-- SAFETY_PAIR_TIMEOUT (R328). -/
  | safetyPairTimeout (l : Lane) (n : Fin 64)
  /-- COLDSTART_FRAME_RECEIVED (R317). -/
  | coldstartFrameReceived (l : Lane) (p : Fin 2) (bytes : List Byte) (fcsOk : Bool)
  /-- SLOT_END (R312). -/
  | slotEnd (l : Lane) (p : Fin 2) (n : Fin 64)
  /-- CYCLE_END (R313). -/
  | cycleEnd (l : Lane) (p : Fin 2)
  /-- SYNC_WINDOW_START (R321). -/
  | syncWindowStart (l : Lane) (p : Fin 2)
  /-- LISTEN_TIMEOUT (R316). -/
  | listenTimeout (l : Lane) (p : Fin 2)
  /-- COLDSTART_ATTEMPT (R318). -/
  | coldstartAttempt (l : Lane) (p : Fin 2)
  /-- COLDSTART_BACKOFF_END (R318). -/
  | coldstartBackoffEnd (l : Lane) (p : Fin 2)
  /-- INTEGRATE_TIMEOUT (R316). -/
  | integrateTimeout (l : Lane) (p : Fin 2)
  /-- CYCLE_POINT (R330). -/
  | cyclePoint (l : Lane) (j : Fin 8)
  /-- TXRDY_WRITE (R310). -/
  | txrdyWrite (l : Lane) (k : Fin 4) (v : Word)
  /-- RXQ_READ (R314). -/
  | rxqRead (l : Lane) (g : Agent) (p : Fin 2)
  /-- SAFEQ_READ (R329). -/
  | safeqRead (l : Lane) (g : Agent)
  /-- CAN_BUS_INTEGRATED (R341). -/
  | canBusIntegrated (l : Lane) (n : Fin 2)
  /-- CAN_TXREQ (R343). -/
  | canTxreq (l : Lane) (n : Fin 2) (v : Word)
  /-- CAN_TXABORT (R343). -/
  | canTxabort (l : Lane) (n : Fin 2) (v : Word) (bus : Option Nat)
  /-- CAN_FRAME_SENT (R343). -/
  | canFrameSent (l : Lane) (n : Fin 2) (late ago : Nat)
  /-- CAN_ARBITRATION_LOST (R343). -/
  | canArbitrationLost (l : Lane) (n : Fin 2) (late : Nat) (err : Option Nat)
  /-- CAN_FRAME_RECEIVED (R344). -/
  | canFrameReceived (l : Lane) (n : Fin 2) (errs : List Nat) (f : CanReceipt)
  /-- CAN_RXPOP (R344). -/
  | canRxpop (l : Lane) (n : Fin 2) (v : Word)
  /-- CAN_BUS_OFF (R345). -/
  | canBusOff (l : Lane) (n : Fin 2)
  /-- CAN_BUS_OFF_RECOVERY (R345). -/
  | canBusOffRecovery (l : Lane) (n : Fin 2)
  /-- TXPOLL (R349). -/
  | txpoll (l : Lane) (v : Word)
  /-- ETH_FRAME_TRANSMITTED (R349). -/
  | ethFrameTransmitted (l : Lane) (ago stop : Nat) (busErr : Bool)
  /-- ETH_FRAME_RECEIVED (R347). -/
  | ethFrameReceived (l : Lane) (frame : List (BitVec 8)) (fcsOk : Bool) (ago stop : Nat) (busErr : Bool)
  /-- PTPADJ_WRITE (R350). -/
  | ptpadjWrite (l : Lane) (v : Word) (ticks : Nat) (sameTick : Bool)
  /-- MDIO_ACCESS (R351). -/
  | mdioAccess (l : Lane) (v : Word)
  /-- MDIO_COMPLETE (R351). -/
  | mdioComplete (l : Lane) (data : Half)
  /-- HSPI_NOP (R353). -/
  | hspiNop (l : Lane) (frame : List (BitVec 8)) (early : Bool)
  /-- HSPI_READ32 (R354). -/
  | hspiRead32 (l : Lane) (frame : List (BitVec 8)) (m : HostMark)
  /-- HSPI_WRITE32 (R354). -/
  | hspiWrite32 (l : Lane) (frame : List (BitVec 8)) (m : HostMark)
  /-- WAKE_PORT_WRITE (R356). -/
  | wakePortWrite (l : Lane) (addr : BitVec 7) (bytes : List (BitVec 8))
  /-- WAKE_PORT_READ (R356). -/
  | wakePortRead (l : Lane) (addr : BitVec 7)
  /-- GPIO_EDGE (R360). -/
  | gpioEdge (l : Lane) (k : Fin 16) (e : HeldLevel)
  /-- GOUTSET (R359). -/
  | goutset (l : Lane) (v : Word)
  /-- GOUTCLR (R359). -/
  | goutclr (l : Lane) (v : Word)
  /-- SAFETY_INPUT_CHANGE (R374). -/
  | safetyInputChange (a b : BitVec 16) (srst : Bool) (rawA rawB : BitVec 16) (rawSrst : Bool) (sample : Nat)
  /-- DISCREPANCY_TIMEOUT (R372). -/
  | discrepancyTimeout (e : Fin 8) (second : Bool)
  /-- LCURT_OFF_TOLERANCE_EXPIRY (R371). -/
  | lcurtOffToleranceExpiry (e : Fin 8) (chB : Bool)
  /-- TWOHAND_TIMEOUT (R374). -/
  | twohandTimeout (e : Fin 8)
  /-- TEST_PULSE_START (R369). -/
  | testPulseStart (j : Fin 8) (preA preB : BitVec 16)
  /-- TEST_PULSE_CHECK (R369). -/
  | testPulseCheck (j : Fin 8) (lastA lastB endA endB : BitVec 16) (rbFault : Bool)
  /-- RESET_PULSE_END (R377). -/
  | resetPulseEnd (src : Fin 17) (sample : Nat) (rbOk : BitVec 8)
  /-- SDEMAND_WRITE (R380). -/
  | sdemandWrite (l : Lane) (g : Agent) (v : Word) (parityOk : Bool)
  /-- DEMAND_TIMEOUT (R381). -/
  | demandTimeout (l : Lane)
  /-- LANE_DISCREPANCY_TIMEOUT (R381). -/
  | laneDiscrepancyTimeout (k : Fin 8)
  /-- PATH_DISCREPANCY_TIMEOUT (R381). -/
  | pathDiscrepancyTimeout (k : Fin 8)
  /-- SAFE_OUTPUT_TEST_PULSE (R383). -/
  | safeOutputTestPulse (k : Fin 8) (chB : Bool) (readbackHigh : Bool)
  /-- OUTPUT_READBACK_FAULT (R383). -/
  | outputReadbackFault (k : Fin 8) (chB : Bool) (level : Bool)
  /-- FAULT_SOURCE_EVENT (R399). -/
  | faultSourceEvent (l : Lane) (src unit : Nat) (sameCycle cause : Bool)
  /-- LANE_DOWN_RESET (R407). -/
  | laneDownReset (l : Lane)
  /-- BUCKET_LEAVE (R400). -/
  | bucketLeave (l : Lane) (src : BitVec 8)
  /-- SHADOW_EXPIRY (R403). -/
  | shadowExpiry (l : Lane) (src : BitVec 8)
  /-- WIRE_FAULT (R395). -/
  | wireFault (l : Lane) (src : BitVec 8)
  /-- MASKED_END (R395). -/
  | maskedEnd (l : Lane) (src : BitVec 8)
  /-- SPINE_TOKEN_TIMEOUT (R406). -/
  | spineTokenTimeout (l : Lane)
  /-- LANE_LINK_FAULT_RECEIVED (R409). -/
  | laneLinkFaultReceived (l : Lane) (src sev : Word)
  /-- CLRCMD_ACK (R411). -/
  | clrcmdAck (l : Lane) (src : BitVec 8)
  /-- CLRCMD_CLEAR (R411). -/
  | clrcmdClear (l : Lane) (src : BitVec 8)
  /-- BEDROCK_FAULT_EVENT (R410). -/
  | bedrockFaultEvent (src : Nat) (l : Option Lane) (m : EventMark)
  /-- CHKICK (R423). -/
  | chkick (l : Lane) (c : Fin 16) (v : Word)
  /-- DESCRIPTOR_FETCH_COMPLETE (R420). -/
  | descriptorFetchComplete (l : Lane) (f : ChannelFetch)
  /-- PACED_BURST_GRANT (R427). -/
  | pacedBurstGrant (l : Lane) (c : Fin 16) (m : BurstMark)
  /-- TRANSFER_BUS_ERROR (R429). -/
  | transferBusError (l : Lane) (c : Fin 16) (bytes : Nat) (read : Bool)
  /-- DESCRIPTOR_WRITE_BACK (R420). -/
  | descriptorWriteBack (l : Lane) (w : ChannelWriteBack)
  /-- CHANNEL_ENABLE (R431). -/
  | channelEnable (l : Lane) (c : Fin 16) (v : Word)
  /-- CHANNEL_DISABLE (R431). -/
  | channelDisable (l : Lane) (c : Fin 16) (v : Word) (bytes : Nat)
  /-- PSREQ_DOZE (R436). -/
  | psreqDoze (l : Lane) (g : Agent)
  /-- WFI_TIMEOUT (R436). -/
  | wfiTimeout (l : Lane)
  /-- DOZE_EXIT (R436). -/
  | dozeExit (l : Lane)
  /-- PSREQ_PARK (R438). -/
  | psreqPark (l : Lane) (g : Agent)
  /-- PARK_ABORT (R438). -/
  | parkAbort (l : Lane) (who : Stopper) (us : Nat)
  /-- PARK_GRANT (R439). -/
  | parkGrant
  /-- BEDROCK_CLOCK_STOP (R439). -/
  | bedrockClockStop
  /-- WAKE_EVENT (R446). -/
  | wakeEvent (l : Lane) (ss : Fin 8)
  /-- WAKE_REGULATORS_READY (R447). -/
  | wakeRegulatorsReady (l : Lane)
  /-- WAKE_REFERENCE_READY (R447). -/
  | wakeReferenceReady (l : Lane)
  /-- REFERENCE_CRYSTAL_TIMEOUT (R442). -/
  | referenceCrystalTimeout (l : Lane)
  /-- REFERENCE_CRYSTAL_STOP (R442). -/
  | referenceCrystalStop (l : Lane)
  /-- WAKE_PLL_LOCK (R447). -/
  | wakePllLock (l : Lane)
  /-- WAKE_MEMORIES_DONE (R449). -/
  | wakeMemoriesDone (l : Lane) (corr uncorr : BitVec 64)
  /-- WAKE_FAILED (R448). -/
  | wakeFailed (l : Lane)
  /-- CRUST_TIMER_MATCH (R446). -/
  | crustTimerMatch (l : Lane)
  /-- CLOCK_MONITOR_EXCURSION (R441). -/
  | clockMonitorExcursion (l : Lane) (k : Fin 12) (off : Bool)
  /-- FSEL_WRITE (R444). -/
  | fselWrite (l : Lane) (v : Word)
  /-- VSEL_WRITE (R444). -/
  | vselWrite (l : Lane) (v : Word)
  /-- CORE_RAIL_SETTLED (R444). -/
  | coreRailSettled (l : Lane)
  /-- RSTCMD_LANE (R452). -/
  | rstcmdLane (l : Lane)
  /-- RSTCMD_WARM (R452). -/
  | rstcmdWarm (l : Lane)
  /-- PEERWAKE (R446). -/
  | peerwake (l : Lane) (v : Word)
  /-- LOSTBANK_CLEAR (R450). -/
  | lostbankClear (l : Lane) (high : Bool) (v : Word)
  /-- RESET_RELEASE (R452). -/
  | resetRelease (l : Lane)
  /-- BEDROCK_LOAD_GRANT (R465). -/
  | bedrockLoadGrant (ra rb : Bool)
  /-- BEDROCK_LOAD_DONE (R465). -/
  | bedrockLoadDone
  /-- BEDROCK_LOAD_HOLDER_LOSS (R465). -/
  | bedrockLoadHolderLoss
  /-- START_UP_FAILURE (R469). -/
  | startUpFailure (l : Lane) (power : Bool)
  /-- MRAM_PROGRAM (R460). -/
  | mramProgram (l : Lane) (g : Agent) (v : Word)
  /-- MRAM_PROGRAM_COMPLETE (R460). -/
  | mramProgramComplete (l : Lane)
  /-- KILN_BLOCK_COMPLETE (R472). -/
  | kilnBlockComplete (l : Lane) (ok : Bool) (misr : Word)
  /-- KILN_SLICE_COMPLETE (R473). -/
  | kilnSliceComplete (l : Lane) (us : Nat)
  /-- SAMPLER_ENABLE (R485). -/
  | samplerEnable (l : Lane) (v : Word)
  /-- SAMPLE_TAG (R485). -/
  | sampleTag (l : Lane) (p : Fin 4)
  /-- SAMPLE_RECORD_APPEND (R486). -/
  | sampleRecordAppend (l : Lane) (p : Fin 4) (retired : Bool) (pc : BitVec 40) (kind : Fin 6) (flags : BitVec 4) (daddr : Word) (cycles dataCycles : Nat)
  /-- SMPACK (R486). -/
  | smpack (l : Lane) (v : Word)
  /-- HISTCLR (R488). -/
  | histclr (l : Lane) (u : Fin 4) (v : Word)
  /-- INDEX_INPUT_EDGE (R277). -/
  | indexInputEdge (l : Lane) (k : Fin 16) (i : HeldLevel) (ab : LinePair)
  /-- PTPSEC_CARRY (R350). -/
  | ptpsecCarry (l : Lane) (ticks : Nat)
  /-- FREQUENCY_SWITCH_COMPLETE (R444). -/
  | frequencySwitchComplete (l : Lane)
  /-- REQCMD_WRITE (R73). -/
  | reqcmdWrite (l : Lane) (g : Agent) (v : Word)
  /-- WORKING_STORE (R94). -/
  | workingStore (l : Lane) (p : Fin 4) (w : WorkTarget) (data : DWord) (lats : List Nat)
  /-- INTERRUPT_TAKEN (R96). -/
  | interruptTaken (l : Lane) (p : Fin 4) (eic latency : Nat)
  /-- WFI_ENTRY (R436). -/
  | wfiEntry (l : Lane) (p : Fin 4)
  /-- WAKE_INPUT_CHANGE (R67). -/
  | wakeInputChange (l : Lane) (pin : Fin 4) (level : Bool)
  deriving DecidableEq, Repr

end Sys2Proof
end

