-- ==== Sys2Proof/Decode.lean ====
section
/-!
DEFINITION. The commands that a word spells by the bits of spec/opcode_table.json. The table gives no row any bits: its
commands are events and register accesses, so every word spells none. The loop engine's instruction words are decoded
where its commands act, in Machine/Engine.lean (R137, R138).
-/
namespace Sys2Proof

/-- The command that an `nbits`-bit word spells. -/
def decodeTableWord (_nbits _w : Nat) : Option Instr := none

end Sys2Proof
end

