-- ==== Sys2Proof/Config.lean ====
section
/-!
DEFINITION. What an implementation fixes and the values the spec leaves open. Each constant is opaque:
it has no body, so a statement that holds does so whatever the value is.
-/
namespace Sys2Proof

/-- BLKCAP of the page at `page * 0x1000` (R50: capabilities per block; no block states a value). -/
opaque Config.blkCap : Nat → Word
/-- Which of the values within the spec's bound a CORDIC result takes (R134), by result and operands. -/
opaque Config.cordicError : Nat → Word → Word → Word → Int
/-- Which of the values within 2 LSB a notch coefficient takes (R175), by coefficient, bin, decimation and pole
radius; and the coefficient itself where it falls outside Q2.30, which R171 forbids the designer. -/
opaque Config.notchError : Nat → Nat → Nat → Word → Int
/-- By how much a tracker's FFT power differs from the exact one (R173: the arithmetic is not stated), by the count of free
values and the bin. -/
opaque Config.fftError : Nat → Nat → Int
/-- The words of the trackers' Y work area after an analysis (R173), by the count of free values and the index. -/
opaque Config.trackerWork : Nat → Nat → DWord
/-- How many IDLE frames a sender sends before its next frame (R29, R34): the senders are the lanes on the lane link (0, 1),
the lanes on their bridge links (2, 3) and the bridge die to each lane (4, 5); by the frames it has sent so far. -/
opaque Config.idleFrames : Nat → Nat → Nat
/-- Whether a trigger of Sieve arises at or after cycle F − 1,600 of its frame (R203; commands carry no frame cycle), by
lane and the count of such choices. -/
opaque Config.lateTrigger : Nat → Nat → Bool
/-- A fresh free value, by the count of free values drawn before it. -/
opaque Config.freeWord : Nat → DWord
/-- Filtered levels of pins that no command has named: by lane and unit, and by what tells two readings apart. -/
opaque Config.pinLevels : Nat → Nat → Nat → Nat
/-- A step period of 2^32 × 10 ns or more in PERIOD (R279), by its length. -/
opaque Config.longPeriod : Nat → Word
/-- A tooth ratio against a quotient of 0 (R275), by the period. -/
opaque Config.toothRatio : Nat → Nat
/-- Whether a SENT nibble midway between two tick counts is taken as the longer (R284), by its length and the
calibration pulse. -/
opaque Config.sentTie : Nat → Nat → Bool

end Sys2Proof
end

