-- ==== Sys2Proof/Machine/State.lean ====
section
/-!
DEFINITION. The state of the PZ-K48 as plain data: two lane dies with their memories, the Bedrock die,
the bridge die, and the queue of commands that wait. Registers live in sparse register files keyed by
their address; a register's unlisted value is its reset value.
-/
namespace Sys2Proof.Machine
open Sys2Proof

/-- A sparse map: pairs of a key and a value, keys rising (see Machine/Table.lean). -/
abbrev Table (V : Type) := List (Nat × V)

/-- The place of a field: register address, least significant bit, width. -/
structure Fld where
  addr : Nat
  lo : Nat
  width : Nat
  deriving DecidableEq, Repr

/-- A register file: the lane its per-lane reset values belong to, and the registers that differ from
their reset values. -/
structure RegFile where
  own : Lane
  tab : Table Word
  deriving DecidableEq, Repr

/-- A fault-source event on its way to the lane collector: the source and, for the sources whose fence
unit the event names (R396), the slot or bank; for WIRE, the source whose pair broke (R395). -/
structure SrcEvent where
  src : Nat
  unit : Nat
  deriving DecidableEq, Repr

/-- An interrupt message on its way to an IMSIC, with the page that raised it (R66). -/
structure Msg where
  page : Nat
  hart : Nat
  ident : Nat
  deriving DecidableEq, Repr

/-- The units a FENCE reaction isolates (R396, R405). -/
inductive FenceUnit where
  | lane | block (page : Nat) | engine | slot (s : Nat) | pair (n : Nat) | bank (k : Nat)
  | bridge (n : Nat) | bridges | port (p : Nat) | blink | llink
  deriving DecidableEq, Repr

/-- What an agent's last bus access returned. -/
inductive Resp where
  | none | waiting | done | data (w : DWord) | error
  deriving DecidableEq, Repr

/-- A link receiver (R33, R36, R531, R532): the expected sequence number, the discards of the running
counting interval, whether the link is held down, whether the running interval began after the last down condition,
and whether its interval has ended. -/
structure LinkRx where
  expect : Nat
  discards : Nat
  down : Bool
  whole : Bool
  due : Bool
  deriving DecidableEq, Repr

/-- After a reset a receiver has declared nothing: its link is up from the first valid frame (R39, R532). -/
def LinkRx.reset : LinkRx := ⟨0, 0, false, false, false⟩

/-- A DUPLEX run's outputs waiting for the peer's (R23, R24). -/
structure DupOwn where
  rot : Nat
  fn : Word
  outs : List DWord
  bridges : Nat
  sent : Bool
  deriving DecidableEq, Repr

/-- The peer's DUPLEX_OUT frame of a slot (R23). -/
structure DupPeer where
  rot : Nat
  fn : Word
  outs : List DWord
  deriving DecidableEq, Repr

/-- A lane-link frame without its sequence number and CRC (R34), and whether it has been postponed or, for a
DUPLEX_OUT, has waited (R37). -/
structure LLFrame where
  typ : Nat
  arg : Half
  payload : List Word
  held : Bool
  deriving DecidableEq, Repr

/-- A lane's two links: receivers, the sequence numbers that follow the last frames sent and the count of those frames, IDLE
excluded, the cycle at which the DUPLEX_OUT frame that was started last has been launched, while no other frame has
started since (R37), frames ready on the lane link in the order they
became ready, frames launched and not yet received (to the peer, from the bridge die, to the bridge die),
the agents whose bridge-window reads are pending (R68) and whose peer-window reads are, by tag (R75), and what duplex comparison holds. -/
structure Links where
  llRx : LinkRx
  blRx : LinkRx
  llSeq : Nat
  blSeq : Nat
  llSent : Nat
  blSent : Nat
  dupEnd : Option Nat
  ready : List LLFrame
  llWire : List (List Word)
  blUp : List (List Half)
  blDown : List (List Half)
  pendRd : List (Agent × Access)
  peerTag : Nat
  peerPend : List (Nat × Agent × Access)
  dupOwn : Table (Option DupOwn)
  dupPeer : Table (Option DupPeer)
  deriving DecidableEq, Repr

def Links.reset : Links := ⟨.reset, .reset, 0, 0, 0, 0, none, [], [], [], [], [], 0, [], [], []⟩

/-- Privilege modes of a hart (R79). -/
inductive Priv where
  | user | machine
  deriving DecidableEq, Repr

/-- The architectural state of a hart (R79 to R81): x0 is not stored; an unlisted register reads as its
reset value. -/
structure Hart where
  pc : DWord
  priv : Priv
  gpr : Table DWord
  fpr : Table DWord
  csr : Table DWord
  deriving DecidableEq, Repr

def Hart.reset : Hart := ⟨0, .machine, [], [], []⟩

/-- An entry of a replay log (R96). -/
inductive LogEntry where
  | devwr (addr size : Nat) (data : DWord)
  | devrd (addr size : Nat) (data : Option DWord)
  | imsic (csr : Nat) (miselect : DWord) (write : Option DWord) (value : DWord)
  | vcsr (csr : Nat) (value : DWord)
  | trap (mcause : DWord) (eic : Nat)
  deriving DecidableEq, Repr

/-- A hart's IMSIC interrupt file (R67): pending and enabled identities in rising order, delivery and
threshold. -/
structure Imsic where
  pend : List Nat
  enab : List Nat
  delivery : Bool
  threshold : Nat
  deriving DecidableEq, Repr

def Imsic.reset : Imsic := ⟨[], [], false, 0⟩

/-- A line of a pair's data cache that differs from L2 (R83, R94): line number, uncommitted bit U, its 64 bytes. -/
structure CLine where
  line : Nat
  u : Bool
  data : List (BitVec 8)
  deriving DecidableEq, Repr

/-- A hart pair (R77 to R106): its hart, the two checkpoint buffers, a checkpoint request that waits, whether PRZ.CKPT
waits for it to retire, dirty lines of the data cache, the replay log with the number of entries consumed and whether it replays, EIC, the LR
reservation, WFI, released from reset, halt requested, a MISMATCH of fencing severity counted while halted, the
debugger's next command to end with cmderr = 7, cmderr of the last command, the IMSIC interrupt file and the
count of corrected cache errors. -/
structure Pair where
  hart : Hart
  cb0 : Hart
  cb1 : Hart
  ckptReq : Bool
  przReq : Bool
  lines : List CLine
  log : List LogEntry
  logPos : Nat
  replay : Bool
  eic : Nat
  resv : Option Nat
  wfi : Bool
  released : Bool
  haltReq : Bool
  haltMis : Bool
  dbgNext : Bool
  cmderr : Nat
  imsic : Imsic
  ceCount : Nat
  deriving DecidableEq, Repr

def Pair.reset : Pair :=
  ⟨.reset, .reset, .reset, false, false, [], [], 0, false, 0, none, false, false, false, false, false, 0, .reset, 0⟩

/-- The debug port beyond the harts (R362 to R365): the TAP's instruction register, its BYPASS bit and its DMI register (7
address, 32 data and 2 operation bits); the debug module, enabled by the image: dmactive, hartsel, the system bus master's
address and data, and sberror. -/
structure DebugMod where
  ir : Nat
  bypass : Bool
  dmi : Nat
  enabled : Bool
  active : Bool
  hartsel : Nat
  sbAddr : Nat
  sbData : DWord
  sberror : Nat
  deriving DecidableEq, Repr

/-- IDCODE is selected (R362, IEEE 1149.1), and the module is not active. -/
def DebugMod.reset : DebugMod := ⟨1, false, 0, false, false, 0, 0, 0, 0⟩


/-- What a placement decides for a context (R190, R193, R211): PLCREP[14:0] and the cause of a shed one. -/
structure PlcEntry where
  rep : Nat
  cause : Nat
  deriving DecidableEq, Repr

/-- Where a placement run stands (R203): it waits for the peer's INPUT, for the peer's RESULT, for its state to be
loaded, or for the frame start at which it takes effect. -/
inductive PlcStage where
  | input | result | load | commit
  deriving DecidableEq, Repr

/-- A placement run (R203): its frame, triggers, whether it is PAIRED, its stage, the inputs of this lane as it
started (fenced slots and pairs, domains held and their holders as masks, lanes that are up), the placement by
context, the starts in this lane (R195), the successors of fenced pairs, the lead, and the frame at which it takes
effect. -/
structure PlcRun where
  fn : Nat
  mask : Nat
  paired : Bool
  stage : PlcStage
  fslots : Nat
  fpairs : Nat
  held : Nat
  holderB : Nat
  up : Nat
  plan : List PlcEntry
  starts : Table Nat
  succ : List (Nat × Nat)
  lead : Nat
  eff : Nat
  deriving DecidableEq, Repr

/-- The peer's INPUT of a run (R205): run number, descriptor digest, fenced slots and pairs. -/
structure PlcInput where
  run : Nat
  digest : Word
  fslots : Nat
  fpairs : Nat
  deriving DecidableEq, Repr

/-- A snapshot being received (R199): its frame number, the snapshot buffer, and the bytes received. -/
structure MirRx where
  fn : Word
  buf : Nat
  bytes : Nat
  deriving DecidableEq, Repr

/-- A lane's Sieve beyond its registers (R182 to R208). Triggers: those of the present frame, those that a PLACE TRIG
message names for the next one, those that a run is to handle, and those of commands whose refill runs. `desc` holds
the descriptors, templates and areas captured at the last accepted command, `placed` the descriptors each context was
last placed with. Then the run under way and its number, the peer's INPUT and RESULT, a command written while BUSY,
the INIT store's fill, the buffers by number (0 MIR, 1 INIT, 2 to 5 TRK, 6 LOG) as 4 KiB blocks, current snapshots as
buffer and FN, snapshots being received, the frame base of the last snapshot sent, ramps as word and value, ramps that
stepped in this frame, the lanes a context was last placed in, the frame of its last run here plus 1, whether the frame is
past the cycle from which triggers count in the next one and the count of free choices of it, DUPLEX contexts whose snapshots are sent until SYNCED,
whether a lane coming up is being synchronised, fenced pairs whose successor is written, whether the peer's first
INPUT has come, and whether this instance has yet to announce itself. -/
structure SieveState where
  trigs : Nat
  next : Nat
  ripe : Nat
  filling : Nat
  desc : RegFile
  placed : RegFile
  run : Option PlcRun
  runNo : Nat
  peerIn : Option PlcInput
  peerRes : Option (Word × Nat)
  queued : Nat
  initFull : Bool
  bufs : Table (Option Nat)
  mirCur : Table (Option (Nat × Word))
  mirRx : Table (Option MirRx)
  snapBase : Table (Option Nat)
  ramps : Table (Option (List (Nat × Int)))
  rampDue : List Nat
  last : Table Nat
  ran : Table Nat
  late : Bool
  drawn : Nat
  syncSend : List Nat
  syncing : Bool
  redir : List Nat
  peerSeen : Bool
  announce : Bool
  deriving DecidableEq, Repr

def SieveState.reset : SieveState :=
  { trigs := 0, next := 0, ripe := 0, filling := 0, desc := ⟨.A, []⟩, placed := ⟨.A, []⟩, run := none, runNo := 0,
    peerIn := none, peerRes := none, queued := 0, initFull := false, bufs := [], mirCur := [], mirRx := [],
    snapBase := [], ramps := [], rampDue := [], last := [], ran := [], late := false, drawn := 0, syncSend := [], syncing := false, redir := [],
    peerSeen := false, announce := false }


/-- Three values, one per phase. -/
structure Tri (α : Type) where
  u : α
  v : α
  w : α
  deriving DecidableEq, Repr

/-- The result of a lane's VERDICT for a command (R24). -/
inductive Verdict where
  | none | agree | disagree
  deriving DecidableEq, Repr

/-- A staged phase command (R19, R24): modes as PHASE_CMD.ARG[5:0], duty words, whether it comes from a
DUPLEX run, and its lane's verdict. -/
structure Staged where
  modes : Nat
  duty : Tri Nat
  duplex : Bool
  verdict : Verdict
  deriving DecidableEq, Repr

/-- What a phase's switches do in a PWM period (R247): a constant pair of high and low request, or
edges in sub-steps from the boundary. -/
inductive PhaseDrive where
  | both (hi lo : Bool)
  | edges (loOff hiOn hiOff loOn : Int)
  deriving DecidableEq, Repr

/-- The requests for a phase's high and low gate from an instant of the period on, in sub-steps from its boundary. -/
structure GateSeg where
  start : Int
  hi : Bool
  lo : Bool
  deriving DecidableEq, Repr

/-- The mechanisms of one bridge beyond its registers (R243 to R263). `live` says that the hold-latch
content is applied; `allLow` that the gates of the rank in force are all low. Per phase: what the rank in force calls for
in this period, the gate requests that refreshes and the interlock make of it, whether its turn-on waits until the other
switch has been off for DT (R248), whether the boundary that began the period had a periodic refresh, the starved count
(R250), whether the low side was on and a dropped pulse was counted in this period, the interlock's refusal and the delay
that it owes the next turn-on (R255), the instants of this period's UV refreshes, whether one took place, those in a row
that ended with VBS low, the monitor's output (R249, R251), and the run lengths of samples (R256). Then the commutation
pins and their code. -/
structure BridgeUnit where
  benLow : Bool
  benOff : Bool
  treq : Bool
  live : Bool
  allLow : Bool
  drive : Tri PhaseDrive
  gates : Tri (List GateSeg)
  delayed : Tri Bool
  refreshed : Tri Bool
  starved : Tri Nat
  lowSeen : Tri Bool
  dropSeen : Tri Bool
  intlk : Tri Bool
  dtNext : Tri Bool
  uvAt : Tri (List Int)
  uvSeen : Tri Bool
  uvRuns : Tri Nat
  vbsLow : Tri Bool
  ocOver : Tri Nat
  ocBelow : Tri Nat
  pins : Nat
  code : Nat
  evIntlk : Bool
  evCode : Bool
  evBuvref : Bool
  evClrref : Bool
  sent : Nat × Nat
  deriving DecidableEq, Repr

/-- A Bedrock fault-source event: the source and the lane it was raised against, for LANEDIS and DMDTMO
(R398). -/
structure BedEvent where
  src : Nat
  lane : Option Lane
  deriving DecidableEq, Repr

/-- An evaluator's mechanisms (R371 to R387): the OSSD levels that count, whether it has entered STOP
from OFF and seen no sample yet, the samples at which the buttons were pressed, the causes recorded since
the lockout began, and the channels that must pass a test (channel 2n + 0 for A, 2n + 1 for B of pair n). -/
structure EvalState where
  osA : Bool
  osB : Bool
  fresh : Bool
  press0 : Option Nat
  press1 : Option Nat
  causes : List Nat
  needPass : List Nat
  deriving DecidableEq, Repr

/-- A lane's processor path (R380, R381): the demand and inhibit of its last accepted word, whether
it has matched the hardwired demand since it last left the join, and whether that word is no older than DMDTMO. -/
structure PathLane where
  dmd : Nat
  inh : Nat
  joinOk : Bool
  live : Bool
  deriving DecidableEq, Repr

/-- The safety block beyond its registers (R366 to R387): evaluators, the sample of each reset source's
rising edge, the filtered SRST level, the raw levels that the lanes mirror (R392), open test-pulse windows, the raw levels before
each window, the channels that showed CROSS in an earlier window of the period of their next test, and the lanes' processor paths. -/
structure SafetyState where
  evals : Table EvalState
  rises : Table (Option Nat)
  srst : Bool
  mirA : BitVec 16
  mirB : BitVec 16
  mirSrst : Bool
  windows : List Nat
  tpPre : Table Nat
  crossed : List Nat
  pathA : PathLane
  pathB : PathLane
  deriving DecidableEq, Repr

def SafetyState.reset : SafetyState := ⟨[], [], false, 0, 0, false, [], [], [], ⟨0, 0, false, false⟩, ⟨0, 0, false, false⟩⟩

/-- An address generator (R112): pointer, base, length, step and mode (0 LIN, 1 CIRC, 2 BREV). -/
structure AddrGen where
  p : Nat
  b : Nat
  l : Nat
  m : Int
  mode : Nat
  deriving DecidableEq, Repr

/-- A hardware loop (R130): first and last index of the body, and the passes left, the running one included. -/
structure LoopLevel where
  start : Nat
  stop : Nat
  passes : Nat
  deriving DecidableEq, Repr

/-- The loop engine (R112): accumulators, the direction of each one's saturation since its last load (true is
positive), data registers, address generators, the sticky bits ESW[3:0], program counter, active loops (innermost
first), the loop buffer by instruction index, the CORDIC's results, the cycle at which they are ready, and the
engine cycles since slot entry. -/
structure Engine where
  acc : Vector Acc112 4
  sat : Vector (Option Bool) 4
  d : Vector DWord 8
  ag : Vector AddrGen 8
  sticky : BitVec 4
  pc : Nat
  loops : List LoopLevel
  buf : Table (Option DWord)
  crd0 : DWord
  crd1 : DWord
  crdReady : Nat
  cyc : Nat
  deriving DecidableEq, Repr

def Engine.reset : Engine :=
  ⟨.replicate 4 0, .replicate 4 none, .replicate 8 0, .replicate 8 ⟨0, 0, 16384, 1, 0⟩, 0, 0, [], [], 0, 0, 0, 0⟩

/-- Where a slot run stands (R148). -/
inductive RunStage where
  | sampled | running | ended | aborted
  deriving DecidableEq, Repr

/-- The slot run under way (R148, R151): slot, context, rotation, entry point, whether its context is DUPLEX, the
BINDA words of the output bindings it uses, and its stage. -/
structure Run where
  slot : Nat
  ctx : Nat
  rot : Nat
  entry : Nat
  duplex : Bool
  outs : List Word
  stage : RunStage
  deriving DecidableEq, Repr

/-- The phase command of a bridge, as the output stage builds it (R160). -/
structure PhaseOut where
  bridge : Nat
  modes : Nat
  duty : Tri Nat
  deriving DecidableEq, Repr

/-- Outputs held for launch (R148, R159 to R161): Strata words as index, payload word and value. -/
structure Launch where
  slot : Nat
  ctx : Nat
  rot : Nat
  duplex : Bool
  phases : List PhaseOut
  strata : List (Nat × Nat × DWord)
  words : List DWord
  deriving DecidableEq, Repr

/-- The newest update of a binding source (R155): its raw value and the µs count of the update. -/
structure SrcUpd where
  value : DWord
  at_ : Nat
  deriving DecidableEq, Repr

/-- A received CURRENT frame (R157): the frame and the frame cycle of its reception, and the three samples. -/
structure CurSample where
  gen : Nat
  cycle : Nat
  u : Half
  v : Half
  w : Half
  deriving DecidableEq, Repr

/-- A resonance tracker beyond its registers (R172): runs since its last sample, samples in its ring, and whether the swap
that it requested is still to come. -/
structure Tracker where
  runs : Nat
  count : Nat
  swap : Bool
  deriving DecidableEq, Repr

/-- The loop engine's frame and slot machinery (R142 to R175): whether a frame runs, the engine, the run under way,
outputs held for launch, slots of this frame that have not sampled yet, binding sources, held IN words by
24 c + word, CURRENT samples by 512 n + counter, frames begun, whether the peer's FN is still to be taken (1; 2 before the
first frame start tells), the peer's FN, trackers, the one whose analysis is under way, the cycles slot programs took in
this frame, and the µs at which it began. -/
structure LoopState where
  framing : Bool
  eng : Engine
  run : Option Run
  held : List Launch
  due : List Nat
  srcs : Table (Option SrcUpd)
  inHeld : Table (Option DWord)
  cur : Table (Option CurSample)
  gen : Nat
  adopt : Nat
  peerFn : Option DWord
  trk : Table Tracker
  analysing : Option Nat
  used : Nat
  frameAt : Nat
  deriving DecidableEq, Repr

def LoopState.reset : LoopState := ⟨false, .reset, none, [], [], [], [], [], 0, 0, none, [], none, 0, 0⟩


/-- A feedback channel beyond its registers (R273 to R279): the reference code (QUAD, HALL), whether the Hall code is
impossible, the direction of the last counted step since a reset (true is down), whether an edge has been seen since a
reset (TOOTH, DUTY, FREQ), the period against which the next ratio is formed, the periods (TOOTH) or edges (DUTY, FREQ)
since a reset or a TMO, and the steps of the window under way. -/
structure FbkChan where
  code : Option Nat
  bad : Bool
  dir : Option Bool
  seen : Bool
  last : Nat
  runs : Nat
  win : Int
  told : Bool
  deriving DecidableEq, Repr

def FbkChan.reset : FbkChan := ⟨none, false, none, false, 0, 0, 0, false⟩

/-- An element of a divided output's queue (R282): an up step, a down step, or an index marker. -/
inductive OutItem where
  | up | down | mark
  deriving DecidableEq, Repr

/-- A divided-pulse output (R282): accumulator, queue oldest first, and the levels of FBOA, FBOB and FBOI. -/
structure FbkOut where
  acc : Int
  queue : List OutItem
  pinA : Bool
  pinB : Bool
  pinI : Bool
  deriving DecidableEq, Repr

def FbkOut.reset : FbkOut := ⟨0, [], false, false, false⟩

/-- A sensor port beyond its registers (R284, R285): the last accepted calibration pulse, the status nibbles of the
slow message under assembly, the PSI5 slots used in this sync period, and the sync triggers sent. -/
structure SnsPort where
  cal : Option Nat
  slow : List Nat
  used : List Nat
  syncs : Nat
  deriving DecidableEq, Repr

def SnsPort.reset : SnsPort := ⟨none, [], [], 0⟩

/-- The converter beyond its registers (R294, R295): the channels of the running scan that are still to complete, the
result FIFO oldest first, and whether an entry was overwritten since the last read. -/
structure AdcState where
  scan : List Nat
  fifo : List (Nat × Nat)
  ovr : Bool
  deriving DecidableEq, Repr

def AdcState.reset : AdcState := ⟨[], [], false⟩

/-- The feedback unit, the sensor ports and the converter (R268 to R297). -/
structure FeedState where
  chans : Table FbkChan
  outs : Table FbkOut
  ports : Table SnsPort
  adc : AdcState
  deriving DecidableEq, Repr

def FeedState.reset : FeedState := ⟨[], [], [], .reset⟩

/-- A Strata frame (R302, R303): kind, slot, node, the flags SYNC, CSTART and NULL, cycle, AGE, LEN, SAFEID, payload
words, and for a SAFE frame its sequence number and whether its CRC-32C is correct. -/
structure StrFrame where
  kind : Nat
  slot : Nat
  node : Nat
  sync : Bool
  cstart : Bool
  null : Bool
  cycle : Word
  age : Nat
  len : Nat
  safeid : Nat
  payload : List DWord
  seq : Word
  crcOk : Bool
  deriving DecidableEq, Repr

/-- A Strata port beyond its registers (R305 to R324): the frame latched for the next action point, the frame on the
medium, words latched earlier by slot, deviations of this cycle and of the cycle before by node, slots that stored a
frame in this cycle, slots with a cause recorded in it, the receive queue with its overflow, whether INTEGRATE was
entered from LISTENONLY, the measured cycle (0 none yet, 1 even, 2 odd), double cycles in PASSIVE without a condition
and in all, the step of a cold start (0 to attempt, 1 under way, 2 back-off), whether the last sync window found a
condition, and the cycle's local time: it was `ofs` microticks at µs `since`. -/
structure StrPort where
  out : Option StrFrame
  air : Option StrFrame
  latched : Table (Option (List DWord))
  dev : List (Nat × Int)
  prev : List (Nat × Int)
  stored : List Nat
  caused : List Nat
  rxq : List (Nat × Nat)
  ovf : Bool
  fromLO : Bool
  meas : Nat
  good : Nat
  passive : Nat
  cs : Nat
  cond : Bool
  since : Nat
  ofs : Nat
  deriving DecidableEq, Repr

def StrPort.reset : StrPort :=
  ⟨none, none, [], [], [], [], [], [], false, false, 0, 0, 0, 0, false, 0, 0⟩

/-- The record of a safety transmit message (R327): SEQ, payload, and the header AGE of each port's last send of it. -/
structure SafeRec where
  seq : Word
  payload : List DWord
  ageX : Option Nat
  ageY : Option Nat
  deriving DecidableEq, Repr

/-- A pending copy of a safety receive message (R328). -/
structure SafePend where
  port : Nat
  seq : Word
  payload : List DWord
  deriving DecidableEq, Repr

/-- The Strata controller (R298 to R331): ports X and Y, transmit records by their home entry, the last sequence
number sent, pending copies, LASTSEQ and the last number out of sequence by message, and the safety queue with its
overflow. -/
structure StrataState where
  px : StrPort
  py : StrPort
  recs : Table (Option SafeRec)
  pend : Table (Option SafePend)
  last : Table Nat
  cand : Table (Option Nat)
  safeq : List Nat
  safeOvf : Bool
  deriving DecidableEq, Repr

def StrataState.reset : StrataState := ⟨.reset, .reset, [], [], [], [], [], false⟩

/-- A CAN controller beyond its registers (R341 to R346): whether it has joined the bus, the receive FIFO, each record 18
words, oldest first, and the µs at which TSCNT was 0. -/
structure CanState where
  joined : Bool
  fifo : List (List Word)
  zero : Nat
  deriving DecidableEq, Repr

def CanState.reset : CanState := ⟨false, [], 0⟩

/-- The Ethernet MAC beyond its registers (R349, R350): positions in the rings, whether the transmitter found a
descriptor to send, the last frame sent with its FCS, the fraction of the PTP clock in 2^-24 ns, and the 8 ns tick at which
the clock's registers and fraction show the time. -/
structure EthState where
  tx : Nat
  rx : Nat
  txOn : Bool
  sent : List (BitVec 8)
  frac : Nat
  tick : Nat
  deriving DecidableEq, Repr

def EthState.reset : EthState := ⟨0, 0, false, [], 0, 0⟩

/-- The host SPI target beyond its registers (R352, R353): STAT and read data of the previous frame, frames executed
modulo 256, and the ten bytes last sent to the host. -/
structure HspiState where
  stat : Nat
  data : Word
  execd : Nat
  reply : List (BitVec 8)
  deriving DecidableEq, Repr

def HspiState.reset : HspiState := ⟨0, 0, 0, []⟩

/-- The ports of ch. 11: both CAN controllers, Ethernet, host SPI, the status byte that the wake port last returned, and
the filtered levels of the GPIO pins that are known, as masks: levels, and which are known (R358). -/
structure PortState where
  can0 : CanState
  can1 : CanState
  eth : EthState
  hspi : HspiState
  wakeOut : Option Nat
  gpio : Nat
  gpioSeen : Nat
  deriving DecidableEq, Repr

def PortState.reset : PortState := ⟨.reset, .reset, .reset, .reset, none, 0, 0⟩

/-- A transfer-engine channel beyond its registers (R420 to R431): the descriptor in progress as fetched and its
address, whether a kick came during the fetch, the cause of a bad descriptor (0 none), the CRC register, whether it holds a running value
since the channel was enabled, and the extra bursts of the descriptor. -/
structure XChan where
  desc : Option (List Word)
  home : Nat
  kick : Bool
  cause : Nat
  crc : Word
  ran : Bool
  extra : Nat
  deriving DecidableEq, Repr

def XChan.reset : XChan := ⟨none, 0, false, 0, 0xFFFFFFFF, false, 0⟩

/-- The transfer engine beyond its registers: channels, and the pacing requests that are latched (R427), by REQSEL
code. -/
structure XfrState where
  chans : Table XChan
  latch : List Nat
  deriving DecidableEq, Repr

def XfrState.reset : XfrState := ⟨[], []⟩

/-- The lane fault collector beyond its registers (R395, R400, R403, R407): events in each source's bucket,
the openers of the shadows that are open, the sources whose pair is broken, the LANE_DOWN flag, and
whether FIRST was written in the fabric cycle being processed. -/
structure Collector where
  buckets : Table Nat
  shadows : List Nat
  broken : List Nat
  laneDown : Bool
  firstNow : Bool
  deriving DecidableEq, Repr

def Collector.reset : Collector := ⟨[], [], [], false, false⟩

/-- Where a start-up stands (R467): not begun, in its Kiln slices, before the image is verified and applied, with the
image applied, failed, complete, or in service mode. -/
inductive Boot where
  | none | kiln | image | load | failed (cause : Nat) | complete | service
  deriving DecidableEq, Repr

/-- A lane's power and clock controller beyond its registers (R434 to R469): feed above its power-on and
undervoltage thresholds, the reset hold, rails off (PARK or OFF), the start-up's stage, the Kiln-fail wire,
the entry under way (0 none, 1 DOZE waiting for WFI, 2 PARK waiting for WFI, 3 PARK in Kiln), park-ready,
the step of the wake sequence (0 none, 2 regulators, 3 reference, 4 PLLs, 5 memories), the wake event
latched, the µs count at which TIME was 0, whether the lane
sampled its production-test strap high (R509), whether the present PARK retains no bank whatever RETMASK holds
(R439), the MISR of a failing block of the running Kiln slice (R473), what aborts the Kiln portion once it stops (R475), the µs count at which CRCNT was 0, and the
lasting causes that hold outside every command (R397). -/
structure Power where
  feedOn : Bool
  feedUv : Bool
  held : Bool
  railsOff : Bool
  boot : Boot
  kilnWire : Bool
  entry : Nat
  parkReady : Bool
  wakeStep : Nat
  wakeSrc : Nat
  timeBase : Int
  tst : Bool
  retainNone : Bool
  kilnFail : Option Word
  abortBy : Option Stopper
  crustBase : Nat
  outer : List Nat
  deriving DecidableEq, Repr
/-- The random-tag sampler of a pair (R485): LFSR, countdown, whether a tagged instruction is in flight and
whether it was tagged during replay. -/
structure Sampler where
  lfsr : Nat
  count : Nat
  flight : Bool
  inReplay : Bool
  deriving DecidableEq, Repr

/-- A sampler record (R486). -/
structure SampleRec where
  w0 : Word
  w1 : Word
  w2 : Word
  w3 : Word
  deriving DecidableEq, Repr

/-- The PMU beyond its registers: samplers and the record buffer, oldest first. -/
structure PmuState where
  samplers : Table (Option Sampler)
  recs : List SampleRec
  deriving DecidableEq, Repr

def PmuState.reset : PmuState := ⟨[], []⟩


/-- One lane die with its memory (R16): register file, the active copy of
the slot tables, CTXCFG and bindings (R165), memory (a byte per lane address, unlisted bytes
read 0), addresses whose stored parity is broken, and the mechanisms of its units; among them the bytes that
other masters store to lines held uncommitted, oldest first, which wait for the holder's checkpoint (R95). -/
structure LaneState where
  regs : RegFile
  active : RegFile
  mem : List Host.Cell
  badPar : List Nat
  resp : Table Resp
  shadowR : Table (Option Word)
  shadowW : Table (Option Word)
  lockSeq : List Nat
  events : List SrcEvent
  msgs : List Msg
  fences : List (Nat × FenceUnit)
  links : Links
  pairs : Table Pair
  l2 : Table (Option (List (BitVec 8)))
  uStores : List (Nat × BitVec 8)
  dm : DebugMod
  aplicIn : List Nat
  loop : LoopState
  sieve : SieveState
  strata : StrataState
  feed : FeedState
  ports : PortState
  xfr : XfrState
  pmu : PmuState
  col : Collector
  power : Power
  deriving DecidableEq, Repr

/-- A lane with every register at its reset value and every mechanism as a reset leaves it, with the
memory and the power controller given (R453). -/
def LaneState.fresh (x : Lane) (mem : List Host.Cell) (p : Power) : LaneState :=
  { regs := ⟨x, []⟩, active := ⟨x, []⟩, mem := mem, badPar := [], resp := [], shadowR := [], shadowW := [],
    lockSeq := [], events := [], msgs := [], fences := [], links := .reset, pairs := [], l2 := [], uStores := [],
    dm := .reset, aplicIn := [], loop := .reset, sieve := .reset, strata := .reset, feed := .reset, ports := .reset,
    xfr := .reset, pmu := .reset, col := .reset, power := p }

/-- A captured request of a lane's BREQ mailbox (R73), and whether the peer's request was waiting when it was captured
(R74). -/
structure Request where
  op : Nat
  arg : Nat
  tag : Nat
  d0 : Word
  d1 : Word
  behind : Bool
  deriving DecidableEq, Repr

/-- The Bedrock die: registers (BSYS to BREQ), whether it is supplied, captured requests, events on their
way to the fault log, which lanes' last vote was negative per domain, when each lease was loaded (µs), the SELECT sequence, the word that awaits its acknowledgement, words and
acknowledgements on the way (with the sequence number of the word acknowledged), the sequence number of the first word that
names each domain's present selection, whether FIRST was written in the cycle being processed, whether its 100 MHz clocks are stopped, BTIME (µs), the holder of the
configuration load (R465), the domains whose handover is under way (R224), whether TSTD was sampled high
(R509), the lane wires that are broken (R398), and the safety block. -/
structure BedState where
  regs : RegFile
  on : Bool
  reqA : Option Request
  reqB : Option Request
  events : List BedEvent
  negA : List Nat
  negB : List Nat
  leaseAt : Table Nat
  selSeq : Nat
  selOut : Option SelectWord
  selWire : List SelectWord
  ackWire : List (Nat × List Nat × List Nat)
  domSeq : Table Nat
  firstNow : Bool
  clockOff : Bool
  btime : Nat
  grant : Option Lane
  hand : List Nat
  tstd : Bool
  wires : List Nat
  safety : SafetyState
  deriving DecidableEq, Repr

/-- The bridge die: registers (bridge pages and BCOM), lock sequences begun, its ends of the bridge
links with the sequence numbers that follow the last frames sent and the counts of those frames, staged commands per lane and bridge, the bridges' mechanisms, the expected SELECT sequence,
whether the loss of lock still holds the bridges at rank 2 and whether lock was ever reached, the copy
of BENV's ENVMODE words (R226), the sample counter, whether the straps are
latched, the master period counter and whether the next master boundary is the first. -/
structure BrgState where
  regs : RegFile
  lockSeq : List Nat
  rxA : LinkRx
  rxB : LinkRx
  seqA : Nat
  seqB : Nat
  sentA : Nat
  sentB : Nat
  stA : Table (Option Staged)
  stB : Table (Option Staged)
  units : Table BridgeUnit
  selExpect : Nat
  pllHold : Bool
  locked : Bool
  envCopy : Table Word
  sampleK : Nat
  strapped : Bool
  pcnt : Nat
  fresh : Bool
  deriving DecidableEq, Repr

/-- The device: both lanes, Bedrock, the bridge die, the time since the device left OFF (the model's own
clock, in microseconds), the count of free values drawn (the model's own), and the commands that wait,
first in first out. -/
structure State where
  a : LaneState
  b : LaneState
  bed : BedState
  brg : BrgState
  nowUs : Nat
  freeCtr : Nat
  pending : List Instr
  deriving DecidableEq, Repr

/-- A lane's power controller right after a POR: feed up, held in reset, start-up to follow (R452, R467). -/
def Power.reset : Power := ⟨true, true, true, false, .none, false, 0, false, 0, 0, 0, false, false, none, none, 0, []⟩

def LaneState.reset (x : Lane) : LaneState := .fresh x [] .reset

def BedState.reset : BedState :=
  { regs := ⟨.A, [(0x50000100, 0x030F0001)]⟩, on := true, reqA := none, reqB := none, events := [], negA := [],
    negB := [], leaseAt := [], selSeq := 0, selOut := none, selWire := [], ackWire := [], domSeq := [], firstNow := false, clockOff := false,
    btime := 0, grant := none, hand := [], tstd := false, wires := [], safety := .reset }

def BrgState.reset : BrgState :=
  { regs := ⟨.A, []⟩, lockSeq := [], rxA := .reset, rxB := .reset, seqA := 0, seqB := 0, sentA := 0, sentB := 0, stA := [], stB := [],
    units := [], selExpect := 0, pllHold := false, locked := false, envCopy := [], sampleK := 0, strapped := false,
    pcnt := 0, fresh := false }

/-- The device right after it left OFF for START (R43): every supply above its threshold, both lanes held in
their POR reset, every register at its reset value, memory with nothing listed, no command waiting. -/
def State.reset : State :=
  { a := .reset .A, b := .reset .B, bed := .reset, brg := .reset, nowUs := 0, freeCtr := 0, pending := [] }

/-- Why the machine would stop: no command of this machine stops it. -/
inductive Fault where
  /-- Raised by no command: every effect the spec gives is taken. Safe. -/
  | unreachable
  deriving DecidableEq, Repr

/-- Why a command has no meaning. -/
inductive Refusal where
  /-- Raised by the dispatcher for a row that has no meaning yet. Safe: the machine stops. -/
  | notModelled (mnemonic : String)
  deriving DecidableEq, Repr

end Sys2Proof.Machine
end

