-- ==== Sys2Proof/Machine/RegMap.lean ====
section
/-!
DEFINITION. The address of every register (`R.PAGE_REGISTER`) and the place of every field
(`F.PAGE_REGISTER_FIELD`), as the register and field tables of spec/ give them (chapters 01 to 17).
An index argument is the instance index the manual writes after an underscore.
-/
namespace Sys2Proof.Machine

def R.LNK_LSTAT : Nat := 0x4000c100
def R.LNK_LLTX : Nat := 0x4000c104
def R.LNK_LLRX : Nat := 0x4000c108
def R.LNK_LLDISC : Nat := 0x4000c10c
def R.LNK_LLWAIT : Nat := 0x4000c110
def R.LNK_BLTX : Nat := 0x4000c114
def R.LNK_BLRX : Nat := 0x4000c118
def R.LNK_BLDISC : Nat := 0x4000c11c
def R.LNK_VERDCNT : Nat := 0x4000c120
def R.LNK_DOWNCNT : Nat := 0x4000c124
def R.LNK_DUPLATE : Nat := 0x4000c128
def R.BREQ_REQDATA_0 : Nat := 0x50005100
def R.BREQ_REQDATA_1 : Nat := 0x50005104
def R.BREQ_REQCMD : Nat := 0x50005108
def R.BREQ_REQSTAT : Nat := 0x5000510c
def R.BREQ_REQCNT : Nat := 0x50005110
def R.CKP_PAIRCFG (i : Nat) : Nat := 0x4000d100 + 0x4 * i
def R.CKP_PAIRSTAT (i : Nat) : Nat := 0x4000d110 + 0x4 * i
def R.CKP_CKSN_LO (i : Nat) : Nat := 0x4000d120 + 0x8 * i
def R.CKP_CKSN_HI (i : Nat) : Nat := 0x4000d124 + 0x8 * i
def R.CKP_RSTCNT (i : Nat) : Nat := 0x4000d140 + 0x4 * i
def R.CKP_FORCECNT (i : Nat) : Nat := 0x4000d150 + 0x4 * i
def R.CKP_LASTMIS (i : Nat) : Nat := 0x4000d160 + 0x4 * i
def R.CKP_REDIRECT : Nat := 0x4000d170
def R.CKP_PAIRCMD : Nat := 0x4000d180
def R.LE_FRAMECFG : Nat := 0x40008100
def R.LE_FRAMESTAT : Nat := 0x40008104
def R.LE_FN_LO : Nat := 0x40008108
def R.LE_FN_HI : Nat := 0x4000810c
def R.LE_TBLCTRL : Nat := 0x40008110
def R.LE_SWAPAT : Nat := 0x40008114
def R.LE_SPARE : Nat := 0x40008118
def R.LE_STALECNT : Nat := 0x4000811c
def R.LE_ABORTCNT : Nat := 0x40008120
def R.LE_CTXCFG (i : Nat) : Nat := 0x40008200 + 0x8 * i
def R.LE_CTXCOEF (i : Nat) : Nat := 0x40008204 + 0x8 * i
def R.LE_BINDA (i : Nat) : Nat := 0x40008600 + 0x8 * i
def R.LE_BINDB (i : Nat) : Nat := 0x40008604 + 0x8 * i
def R.LE_SETPT_LO (i : Nat) : Nat := 0x40008e00 + 0x8 * i
def R.LE_SETPT_HI (i : Nat) : Nat := 0x40008e04 + 0x8 * i
def R.LE_TRKCFG (i : Nat) : Nat := 0x40008f00 + 0x40 * i
def R.LE_TRKBAND (i : Nat) : Nat := 0x40008f04 + 0x40 * i
def R.LE_TRKLIM (i : Nat) : Nat := 0x40008f08 + 0x40 * i
def R.LE_TRKRHO (i : Nat) : Nat := 0x40008f0c + 0x40 * i
def R.LE_TRKSTAT (i : Nat) : Nat := 0x40008f10 + 0x40 * i
def R.LE_TRKPROP (i : Nat) : Nat := 0x40008f14 + 0x40 * i
def R.LE_TRKACK (i : Nat) : Nat := 0x40008f18 + 0x40 * i
def R.LE_TRKBUF (i : Nat) : Nat := 0x40008f1c + 0x40 * i
def R.LESLOT_SPHASE (s : Nat) : Nat := 0x40009100 + 0x1000 * (s / 16) + 0x40 * (s % 16)
def R.LESLOT_OPHASE (s : Nat) : Nat := 0x40009104 + 0x1000 * (s / 16) + 0x40 * (s % 16)
def R.LESLOT_SLOTCFG (s : Nat) : Nat := 0x40009108 + 0x1000 * (s / 16) + 0x40 * (s % 16)
def R.LESLOT_SLOTSTAT (s : Nat) : Nat := 0x4000910c + 0x1000 * (s / 16) + 0x40 * (s % 16)
def R.LESLOT_ROT (s i : Nat) : Nat := 0x40009110 + 0x1000 * (s / 16) + 0x40 * (s % 16) + 0x4 * i
def R.LESLOT_EXITESW (s : Nat) : Nat := 0x40009130 + 0x1000 * (s / 16) + 0x40 * (s % 16)
def R.LESLOT_CYCLES (s : Nat) : Nat := 0x40009134 + 0x1000 * (s / 16) + 0x40 * (s % 16)
def R.LESLOT_SLOTMSG (s : Nat) : Nat := 0x40009138 + 0x1000 * (s / 16) + 0x40 * (s % 16)
def R.LESLOT_ABORTS (s : Nat) : Nat := 0x4000913c + 0x1000 * (s / 16) + 0x40 * (s % 16)
def R.PLC_CMD : Nat := 0x40004100
def R.PLC_STAT : Nat := 0x40004104
def R.PLC_RUNCNT : Nat := 0x40004108
def R.PLC_LASTRUN : Nat := 0x4000410c
def R.PLC_EFFFN : Nat := 0x40004110
def R.PLC_SLOTPOOL_L : Nat := 0x40004118
def R.PLC_SLOTPOOL_H : Nat := 0x4000411c
def R.PLC_YAREA : Nat := 0x40004120
def R.PLC_XAREA : Nat := 0x40004124
def R.PLC_BANKPOOL_L : Nat := 0x40004128
def R.PLC_BANKPOOL_H : Nat := 0x4000412c
def R.PLC_MIRBLK : Nat := 0x40004130
def R.PLC_INITBLK : Nat := 0x40004134
def R.PLC_LOGBLK : Nat := 0x40004138
def R.PLC_LOGIDX : Nat := 0x4000413c
def R.PLC_PAIRLOAD : Nat := 0x40004140
def R.PLC_DIGEST : Nat := 0x40004144
def R.PLC_DDIGEST : Nat := 0x40004148
def R.PLC_PLCREP (i : Nat) : Nat := 0x40007100 + 0x8 * i
def R.PLC_PLCMIR (i : Nat) : Nat := 0x40007104 + 0x8 * i
def R.PLC_BTA (i : Nat) : Nat := 0x40007500 + 0x8 * i
def R.PLC_BTB (i : Nat) : Nat := 0x40007504 + 0x8 * i
def R.BSYS_DEVSTAT : Nat := 0x50000100
def R.BSYS_BCFG : Nat := 0x50000104
def R.BSYS_SUPCNT : Nat := 0x50000108
def R.BSYS_SAFECAUSE : Nat := 0x5000010c
def R.BSYS_BTIME_LO : Nat := 0x50000110
def R.BSYS_BTIME_HI : Nat := 0x50000114
def R.BSYS_LANECAUSE : Nat := 0x50000118
def R.BLEASE_LSTAT (i : Nat) : Nat := 0x50001100 + 0x10 * i
def R.BLEASE_LCFG (i : Nat) : Nat := 0x50001104 + 0x10 * i
def R.BLEASE_LCNT (i : Nat) : Nat := 0x50001108 + 0x10 * i
def R.BLEASE_LLAST (i : Nat) : Nat := 0x5000110c + 0x10 * i
def R.BLEASE_RSEQ_A : Nat := 0x50001180
def R.BLEASE_RSEQ_B : Nat := 0x50001184
def R.BLEASE_VOTECNT : Nat := 0x50001188
def R.BLEASE_HOLD (i : Nat) : Nat := 0x50001200 + 0x4 * i
def R.BENV_ENVCFG (i : Nat) : Nat := 0x50002100 + 0x10 * i
def R.BENV_ENVMODE (i : Nat) : Nat := 0x50002104 + 0x10 * i
def R.BENV_ENVFAIL (i : Nat) : Nat := 0x50002108 + 0x10 * i
def R.BENV_VERD (i : Nat) : Nat := 0x5000210c + 0x10 * i
def R.BENV_OVWR (i : Nat) : Nat := 0x50002180 + 0x4 * i
def R.BFLT_ACT_L : Nat := 0x50004100
def R.BFLT_ACT_H : Nat := 0x50004104
def R.BFLT_ACK_L : Nat := 0x50004108
def R.BFLT_ACK_H : Nat := 0x5000410c
def R.BFLT_FIRST : Nat := 0x50004110
def R.BFLT_FIRSTT : Nat := 0x50004114
def R.BFLT_SEV (i : Nat) : Nat := 0x50004120 + 0x4 * i
def R.BRG_BRGCFG (n : Nat) : Nat := 0x60000100 + 0x1000 * n
def R.BRG_DEADT (n : Nat) : Nat := 0x60000104 + 0x1000 * n
def R.BRG_PULSE (n : Nat) : Nat := 0x60000108 + 0x1000 * n
def R.BRG_BOOT (n : Nat) : Nat := 0x6000010c + 0x1000 * n
def R.BRG_DESAT (n : Nat) : Nat := 0x60000110 + 0x1000 * n
def R.BRG_OCCFG (n : Nat) : Nat := 0x60000114 + 0x1000 * n
def R.BRG_VBRCFG (n : Nat) : Nat := 0x60000118 + 0x1000 * n
def R.BRG_TEMPCFG (n : Nat) : Nat := 0x6000011c + 0x1000 * n
def R.BRG_COMCFG (n : Nat) : Nat := 0x60000120 + 0x1000 * n
def R.BRG_TREQ (n : Nat) : Nat := 0x60000124 + 0x1000 * n
def R.BRG_GATEOVR (n : Nat) : Nat := 0x60000128 + 0x1000 * n
def R.BRG_FLTLAT (n : Nat) : Nat := 0x60000130 + 0x1000 * n
def R.BRG_FLTCAUSE (n : Nat) : Nat := 0x60000134 + 0x1000 * n
def R.BRG_EVT (n : Nat) : Nat := 0x60000138 + 0x1000 * n
def R.BRG_INTLKCNT (n : Nat) : Nat := 0x6000013c + 0x1000 * n
def R.BRG_REFCNT (n : Nat) : Nat := 0x60000140 + 0x1000 * n
def R.BRG_BSTAT (n : Nat) : Nat := 0x60000144 + 0x1000 * n
def R.BRG_CLRCNT (n : Nat) : Nat := 0x60000148 + 0x1000 * n
def R.BRG_CSCFG (n i : Nat) : Nat := 0x60000150 + 0x1000 * n + 0x8 * i
def R.BRG_CSLAST (n i : Nat) : Nat := 0x60000154 + 0x1000 * n + 0x8 * i
def R.BRG_HLMODE (n : Nat) : Nat := 0x60000170 + 0x1000 * n
def R.BRG_HLDUTY_0 (n : Nat) : Nat := 0x60000174 + 0x1000 * n
def R.BRG_HLDUTY_1 (n : Nat) : Nat := 0x60000178 + 0x1000 * n
def R.BCOM_MPER : Nat := 0x60008100
def R.BCOM_TBSTAT : Nat := 0x60008104
def R.BCOM_STRAPS : Nat := 0x60008108
def R.BCOM_LINKDISC : Nat := 0x6000810c
def R.BCOM_REFUSED : Nat := 0x60008110
def R.FBKCH_CHCFG (c : Nat) : Nat := 0x40012100 + 0x1000 * (c / 8) + 0x100 * (c % 8)
def R.FBKCH_CPR (c : Nat) : Nat := 0x40012104 + 0x1000 * (c / 8) + 0x100 * (c % 8)
def R.FBKCH_CHEVT (c : Nat) : Nat := 0x40012108 + 0x1000 * (c / 8) + 0x100 * (c % 8)
def R.FBKCH_POS (c : Nat) : Nat := 0x4001210c + 0x1000 * (c / 8) + 0x100 * (c % 8)
def R.FBKCH_IDXPOS (c : Nat) : Nat := 0x40012110 + 0x1000 * (c / 8) + 0x100 * (c % 8)
def R.FBKCH_IDXTOL (c : Nat) : Nat := 0x40012114 + 0x1000 * (c / 8) + 0x100 * (c % 8)
def R.FBKCH_IDXDELTA (c : Nat) : Nat := 0x40012118 + 0x1000 * (c / 8) + 0x100 * (c % 8)
def R.FBKCH_ERRCNT (c : Nat) : Nat := 0x4001211c + 0x1000 * (c / 8) + 0x100 * (c % 8)
def R.FBKCH_TOOTHCFG (c : Nat) : Nat := 0x40012120 + 0x1000 * (c / 8) + 0x100 * (c % 8)
def R.FBKCH_SPDCFG (c : Nat) : Nat := 0x40012124 + 0x1000 * (c / 8) + 0x100 * (c % 8)
def R.FBKCH_PERIOD (c : Nat) : Nat := 0x40012128 + 0x1000 * (c / 8) + 0x100 * (c % 8)
def R.FBKCH_WINCNT (c : Nat) : Nat := 0x4001212c + 0x1000 * (c / 8) + 0x100 * (c % 8)
def R.FBKCH_DUTY (c : Nat) : Nat := 0x40012130 + 0x1000 * (c / 8) + 0x100 * (c % 8)
def R.FBKCH_HIGHT (c : Nat) : Nat := 0x40012134 + 0x1000 * (c / 8) + 0x100 * (c % 8)
def R.FBKCH_FREQ (c : Nat) : Nat := 0x40012138 + 0x1000 * (c / 8) + 0x100 * (c % 8)
def R.FBKCH_STATE (c : Nat) : Nat := 0x4001213c + 0x1000 * (c / 8) + 0x100 * (c % 8)
def R.FBKCH_CHMSG (c : Nat) : Nat := 0x40012140 + 0x1000 * (c / 8) + 0x100 * (c % 8)
def R.FBKCH_CHIEN (c : Nat) : Nat := 0x40012144 + 0x1000 * (c / 8) + 0x100 * (c % 8)
def R.FBK_OUTCFG (i : Nat) : Nat := 0x40011100 + 0x10 * i
def R.FBK_OUTRATIO (i : Nat) : Nat := 0x40011104 + 0x10 * i
def R.FBK_OUTSTAT (i : Nat) : Nat := 0x40011108 + 0x10 * i
def R.SNS_PCFG (i : Nat) : Nat := 0x40014100 + 0x80 * i
def R.SNS_SENTCFG (i : Nat) : Nat := 0x40014104 + 0x80 * i
def R.SNS_PSI5CFG (i : Nat) : Nat := 0x40014108 + 0x80 * i
def R.SNS_SYNCCFG (i : Nat) : Nat := 0x4001410c + 0x80 * i
def R.SNS_SYNCPH (i : Nat) : Nat := 0x40014110 + 0x80 * i
def R.SNS_SLOTST_0 (i : Nat) : Nat := 0x40014114 + 0x80 * i
def R.SNS_SLOTST_1 (i : Nat) : Nat := 0x40014118 + 0x80 * i
def R.SNS_DATA (i j : Nat) : Nat := 0x40014120 + 0x80 * i + 0x4 * j
def R.SNS_SLOW (i : Nat) : Nat := 0x40014130 + 0x80 * i
def R.SNS_PEVT (i : Nat) : Nat := 0x40014134 + 0x80 * i
def R.SNS_OKCNT (i : Nat) : Nat := 0x40014138 + 0x80 * i
def R.SNS_ERRCNT (i : Nat) : Nat := 0x4001413c + 0x80 * i
def R.SNS_PORTMSG (i : Nat) : Nat := 0x40014140 + 0x80 * i
def R.SNS_PIEN (i : Nat) : Nat := 0x40014144 + 0x80 * i
def R.ADC_ADCCFG : Nat := 0x40015100
def R.ADC_ADCSCAN : Nat := 0x40015104
def R.ADC_ADCTRIG : Nat := 0x40015108
def R.ADC_ADCSTART : Nat := 0x4001510c
def R.ADC_ADCFEN : Nat := 0x40015110
def R.ADC_ADCFIFO : Nat := 0x40015114
def R.ADC_ADCSTAT : Nat := 0x40015118
def R.ADC_ADCOVR : Nat := 0x4001511c
def R.ADC_ADCRES (i : Nat) : Nat := 0x40015140 + 0x4 * i
def R.STR_PCTL (i : Nat) : Nat := 0x40020100 + 0x80 * i
def R.STR_CYCCFG (i : Nat) : Nat := 0x40020104 + 0x80 * i
def R.STR_SLOTTIM (i : Nat) : Nat := 0x40020108 + 0x80 * i
def R.STR_WINCFG (i : Nat) : Nat := 0x4002010c + 0x80 * i
def R.STR_SYNCCFG (i : Nat) : Nat := 0x40020110 + 0x80 * i
def R.STR_STRTCFG (i : Nat) : Nat := 0x40020114 + 0x80 * i
def R.STR_MACDST_L (i : Nat) : Nat := 0x40020118 + 0x80 * i
def R.STR_MACDST_H (i : Nat) : Nat := 0x4002011c + 0x80 * i
def R.STR_MACSRC_L (i : Nat) : Nat := 0x40020120 + 0x80 * i
def R.STR_MACSRC_H (i : Nat) : Nat := 0x40020124 + 0x80 * i
def R.STR_PSTAT (i : Nat) : Nat := 0x40020130 + 0x80 * i
def R.STR_CYCCNT (i : Nat) : Nat := 0x40020134 + 0x80 * i
def R.STR_MTCNT (i : Nat) : Nat := 0x40020138 + 0x80 * i
def R.STR_OCORR (i : Nat) : Nat := 0x4002013c + 0x80 * i
def R.STR_RTERM (i : Nat) : Nat := 0x40020140 + 0x80 * i
def R.STR_RXOK (i : Nat) : Nat := 0x40020144 + 0x80 * i
def R.STR_RXDISC (i : Nat) : Nat := 0x40020148 + 0x80 * i
def R.STR_TXCNT (i : Nat) : Nat := 0x4002014c + 0x80 * i
def R.STR_TXFAIL (i : Nat) : Nat := 0x40020150 + 0x80 * i
def R.STR_STRANGER (i : Nat) : Nat := 0x40020154 + 0x80 * i
def R.STR_PASSCNT (i : Nat) : Nat := 0x40020158 + 0x80 * i
def R.STR_RXQ (i : Nat) : Nat := 0x4002015c + 0x80 * i
def R.STR_RXQMSG (i : Nat) : Nat := 0x40020160 + 0x80 * i
def R.STR_CPT (i : Nat) : Nat := 0x40020200 + 0x8 * i
def R.STR_CPMSG (i : Nat) : Nat := 0x40020204 + 0x8 * i
def R.STR_TXRDY_XL : Nat := 0x40020240
def R.STR_TXRDY_XH : Nat := 0x40020244
def R.STR_TXRDY_YL : Nat := 0x40020248
def R.STR_TXRDY_YH : Nat := 0x4002024c
def R.STR_SAFEQ : Nat := 0x40020250
def R.STR_SAFEQMSG : Nat := 0x40020254
def R.STR_SAFEOK : Nat := 0x40020258
def R.STR_SAFEERR : Nat := 0x4002025c
def R.STR_SAFECFG : Nat := 0x40020260
def R.STR_PEERCYC : Nat := 0x40020264
def R.STR_PEERCORR : Nat := 0x40020268
def R.CAN_NBT (u : Nat) : Nat := 0x40030100 + 0x1000 * u
def R.CAN_DBT (u : Nat) : Nat := 0x40030104 + 0x1000 * u
def R.CAN_MODE (u : Nat) : Nat := 0x40030108 + 0x1000 * u
def R.CAN_ECNT (u : Nat) : Nat := 0x4003010c + 0x1000 * u
def R.CAN_TXREQ (u : Nat) : Nat := 0x40030110 + 0x1000 * u
def R.CAN_TXABORT (u : Nat) : Nat := 0x40030114 + 0x1000 * u
def R.CAN_TXDONE (u : Nat) : Nat := 0x40030118 + 0x1000 * u
def R.CAN_RXSTAT (u : Nat) : Nat := 0x4003011c + 0x1000 * u
def R.CAN_RXPOP (u : Nat) : Nat := 0x40030120 + 0x1000 * u
def R.CAN_TSCNT (u : Nat) : Nat := 0x40030124 + 0x1000 * u
def R.CAN_FID (u i : Nat) : Nat := 0x40030180 + 0x1000 * u + 0x8 * i
def R.CAN_FMASK (u i : Nat) : Nat := 0x40030184 + 0x1000 * u + 0x8 * i
def R.CAN_TXBUF (u i j : Nat) : Nat := 0x40030400 + 0x1000 * u + 0x50 * i + 0x4 * j
def R.CAN_RXHEAD (u i : Nat) : Nat := 0x40030800 + 0x1000 * u + 0x4 * i
def R.ETH_MACCFG : Nat := 0x40032100
def R.ETH_MACADDR_L : Nat := 0x40032104
def R.ETH_MACADDR_H : Nat := 0x40032108
def R.ETH_TXRING : Nat := 0x4003210c
def R.ETH_RXRING : Nat := 0x40032110
def R.ETH_RINGLEN : Nat := 0x40032114
def R.ETH_TXPOLL : Nat := 0x40032118
def R.ETH_MDIO : Nat := 0x4003211c
def R.ETH_PTPNS : Nat := 0x40032120
def R.ETH_PTPSEC : Nat := 0x40032124
def R.ETH_PTPINCR : Nat := 0x40032128
def R.ETH_PTPADJ : Nat := 0x4003212c
def R.ETH_TXOK : Nat := 0x40032130
def R.ETH_RXOK : Nat := 0x40032134
def R.ETH_RXERR : Nat := 0x40032138
def R.ETH_RXDROP : Nat := 0x4003213c
def R.HSPI_HWBASE (i : Nat) : Nat := 0x40033100 + 0x8 * i
def R.HSPI_HWCFG (i : Nat) : Nat := 0x40033104 + 0x8 * i
def R.HSPI_HCNT : Nat := 0x40033120
def R.HSPI_HLAST : Nat := 0x40033124
def R.HSPI_HADDR : Nat := 0x40033128
def R.WAKE_WCFG : Nat := 0x40034100
def R.WAKE_WCODE : Nat := 0x40034104
def R.WAKE_WSTAT : Nat := 0x40034108
def R.GPIO_GDIR : Nat := 0x40035100
def R.GPIO_GOUT : Nat := 0x40035104
def R.GPIO_GOUTSET : Nat := 0x40035108
def R.GPIO_GOUTCLR : Nat := 0x4003510c
def R.GPIO_GIN : Nat := 0x40035110
def R.GPIO_GODR : Nat := 0x40035114
def R.GPIO_GPULL : Nat := 0x40035118
def R.GPIO_GEDGE : Nat := 0x4003511c
def R.GPIO_GEVT : Nat := 0x40035120
def R.GPIO_GCFG : Nat := 0x40035124
def R.BSAFE_SCFG : Nat := 0x50003100
def R.BSAFE_TPCFG : Nat := 0x50003104
def R.BSAFE_SOTCFG : Nat := 0x50003108
def R.BSAFE_SISTAT : Nat := 0x5000310c
def R.BSAFE_SOSTAT : Nat := 0x50003110
def R.BSAFE_PSTAT : Nat := 0x50003114
def R.BSAFE_RSTCNT : Nat := 0x50003118
def R.BSAFE_TPSTAT : Nat := 0x5000311c
def R.BSAFE_SICFG (i : Nat) : Nat := 0x50003140 + 0x4 * i
def R.BSAFE_EVCFG (i : Nat) : Nat := 0x50003180 + 0x10 * i
def R.BSAFE_EVOUT (i : Nat) : Nat := 0x50003184 + 0x10 * i
def R.BSAFE_EVSTAT (i : Nat) : Nat := 0x50003188 + 0x10 * i
def R.BSAFE_EVCNT (i : Nat) : Nat := 0x5000318c + 0x10 * i
def R.SYS_SDEMAND : Nat := 0x40000800
def R.SYS_SIMIR : Nat := 0x40000804
def R.SYS_SOMIR : Nat := 0x40000808
def R.FLT_FLTCFG : Nat := 0x40003100
def R.FLT_FIRST : Nat := 0x40003104
def R.FLT_FIRSTT : Nat := 0x40003108
def R.FLT_PFIRST : Nat := 0x4000310c
def R.FLT_PFIRSTT : Nat := 0x40003110
def R.FLT_CLRCMD : Nat := 0x40003114
def R.FLT_CLRSTAT : Nat := 0x40003118
def R.FLT_WIRESTAT : Nat := 0x4000311c
def R.FLT_LOGSTAT : Nat := 0x40003120
def R.FLT_PEERLAST : Nat := 0x40003124
def R.FLT_TIME_LO : Nat := 0x40003128
def R.FLT_TIME_HI : Nat := 0x4000312c
def R.FLT_ACT (i : Nat) : Nat := 0x40003140 + 0x4 * i
def R.FLT_ACK (i : Nat) : Nat := 0x40003160 + 0x4 * i
def R.FLT_LIVE (i : Nat) : Nat := 0x40003180 + 0x4 * i
def R.FLT_LOGT (i : Nat) : Nat := 0x40003200 + 0x8 * i
def R.FLT_LOGE (i : Nat) : Nat := 0x40003204 + 0x8 * i
def R.FLT_SSTAT (i : Nat) : Nat := 0x40003400 + 0x4 * i
def R.FLT_SRCCFG (i : Nat) : Nat := 0x40003800 + 0x8 * i
def R.FLT_DEPMASK (i : Nat) : Nat := 0x40003804 + 0x8 * i
def R.XFR_XSTAT : Nat := 0x40010100
def R.XFR_XBYTES_LO : Nat := 0x40010108
def R.XFR_XBYTES_HI : Nat := 0x4001010c
def R.XFR_CHCTRL (i : Nat) : Nat := 0x40010200 + 0x20 * i
def R.XFR_CHRBASE (i : Nat) : Nat := 0x40010204 + 0x20 * i
def R.XFR_CHRLEN (i : Nat) : Nat := 0x40010208 + 0x20 * i
def R.XFR_CHKICK (i : Nat) : Nat := 0x4001020c + 0x20 * i
def R.XFR_CHSTAT (i : Nat) : Nat := 0x40010210 + 0x20 * i
def R.XFR_CHPOS (i : Nat) : Nat := 0x40010214 + 0x20 * i
def R.XFR_CHCNT (i : Nat) : Nat := 0x40010218 + 0x20 * i
def R.XFR_CHMSG (i : Nat) : Nat := 0x4001021c + 0x20 * i
def R.CLK_CORECLK : Nat := 0x40001100
def R.CLK_CLKSTAT : Nat := 0x40001104
def R.CLK_MONSTAT : Nat := 0x40001108
def R.PWR_PSREQ : Nat := 0x40002100
def R.PWR_PSTAT : Nat := 0x40002104
def R.PWR_COREV : Nat := 0x40002108
def R.PWR_VSTAT : Nat := 0x4000210c
def R.PWR_PSCFG : Nat := 0x40002110
def R.PWR_PSCNT : Nat := 0x40002114
def R.PWR_PSLAST : Nat := 0x40002118
def R.PWR_OPREF : Nat := 0x4000211c
def R.PWR_RSTCAUSE : Nat := 0x40002120
def R.PWR_RSTHIST : Nat := 0x40002124
def R.PWR_RSTCMD : Nat := 0x40002128
def R.PWR_PEERWAKE : Nat := 0x4000212c
def R.PWR_WAKEEN : Nat := 0x40002140
def R.PWR_WAKESTAT : Nat := 0x40002144
def R.PWR_LOSTBANK_L : Nat := 0x40002148
def R.PWR_LOSTBANK_H : Nat := 0x4000214c
def R.PWR_RETMASK_L : Nat := 0x40002150
def R.PWR_RETMASK_H : Nat := 0x40002154
def R.PWR_CRCMP : Nat := 0x40002158
def R.PWR_CRCNT_LO : Nat := 0x40002160
def R.PWR_CRCNT_HI : Nat := 0x40002164
def R.PWR_BANKSIG (i : Nat) : Nat := 0x40002200 + 0x4 * i
def R.KILN_KCTRL : Nat := 0x40050100
def R.KILN_KSTAT : Nat := 0x40050104
def R.KILN_KREC : Nat := 0x40050108
def R.KILN_KRUN : Nat := 0x4005010c
def R.KILN_KSLICE (i : Nat) : Nat := 0x40050110 + 0x4 * i
def R.KILN_KFAIL : Nat := 0x40050120
def R.KILN_KFAILMISR : Nat := 0x40050124
def R.KILN_KABORT : Nat := 0x40050128
def R.KILN_KTIME : Nat := 0x4005012c
def R.SYS_BOOTSTAT : Nat := 0x40000900
def R.SYS_IMGSEQ : Nat := 0x40000904
def R.SYS_BOOTTIME : Nat := 0x40000908
def R.SYS_MPADDR : Nat := 0x40000910
def R.SYS_MPDATA_L : Nat := 0x40000914
def R.SYS_MPDATA_H : Nat := 0x40000918
def R.SYS_MPCMD : Nat := 0x4000091c
def R.SYS_MPSTAT : Nat := 0x40000920
def R.PMU_SMPCTL : Nat := 0x40040100
def R.PMU_SMPINT : Nat := 0x40040104
def R.PMU_SMPSEED : Nat := 0x40040108
def R.PMU_SMPSTAT : Nat := 0x4004010c
def R.PMU_SMPSEL : Nat := 0x40040110
def R.PMU_SMPACK : Nat := 0x40040114
def R.PMU_SMPSKIP : Nat := 0x40040118
def R.PMU_SMPREC (i : Nat) : Nat := 0x40040120 + 0x4 * i
def R.PMU_HISTCFG (i : Nat) : Nat := 0x40040200 + 0x100 * i
def R.PMU_HISTSTAT (i : Nat) : Nat := 0x40040204 + 0x100 * i
def R.PMU_HISTCLR (i : Nat) : Nat := 0x40040208 + 0x100 * i
def R.PMU_EDGE (i j : Nat) : Nat := 0x40040240 + 0x100 * i + 4 * j
def R.PMU_BIN (i j : Nat) : Nat := 0x40040280 + 0x100 * i + 0x4 * j
def R.PLC_DESC_0 (c : Nat) : Nat := 0x40005100 + 0x1000 * (c / 64) + 0x20 * (c % 64)
def R.PLC_DESC_1 (c : Nat) : Nat := 0x40005104 + 0x1000 * (c / 64) + 0x20 * (c % 64)
def R.PLC_DESC_2 (c : Nat) : Nat := 0x40005108 + 0x1000 * (c / 64) + 0x20 * (c % 64)
def R.PLC_DESC_3 (c : Nat) : Nat := 0x4000510c + 0x1000 * (c / 64) + 0x20 * (c % 64)
def R.PLC_DESC_4 (c : Nat) : Nat := 0x40005110 + 0x1000 * (c / 64) + 0x20 * (c % 64)
def R.PLC_DESC_5 (c : Nat) : Nat := 0x40005114 + 0x1000 * (c / 64) + 0x20 * (c % 64)
def R.PLC_DESC_6 (c : Nat) : Nat := 0x40005118 + 0x1000 * (c / 64) + 0x20 * (c % 64)
def R.PLC_DESC_7 (c : Nat) : Nat := 0x4000511c + 0x1000 * (c / 64) + 0x20 * (c % 64)
def R.SCH_SCHX (i : Nat) : Nat := 0x40021100 + 0x8 * i
def R.SCH_SCHY (i : Nat) : Nat := 0x40021300 + 0x8 * i
def R.SCH_SSTX (i : Nat) : Nat := 0x40021104 + 0x8 * i
def R.SCH_SSTY (i : Nat) : Nat := 0x40021304 + 0x8 * i
def R.SCH_SAFERX (i : Nat) : Nat := 0x40021500 + 0x8 * i
def R.SCH_SAFEST (i : Nat) : Nat := 0x40021504 + 0x8 * i

def F.LNK_LSTAT_LLUP : Fld := ⟨R.LNK_LSTAT, 0, 1⟩
def F.LNK_LSTAT_BLUP : Fld := ⟨R.LNK_LSTAT, 1, 1⟩
def F.LNK_LSTAT_LLSEEN : Fld := ⟨R.LNK_LSTAT, 2, 1⟩
def F.LNK_LLTX_COUNT : Fld := ⟨R.LNK_LLTX, 0, 32⟩
def F.LNK_LLRX_COUNT : Fld := ⟨R.LNK_LLRX, 0, 32⟩
def F.LNK_BLTX_COUNT : Fld := ⟨R.LNK_BLTX, 0, 32⟩
def F.LNK_BLRX_COUNT : Fld := ⟨R.LNK_BLRX, 0, 32⟩
def F.LNK_LLDISC_PAR : Fld := ⟨R.LNK_LLDISC, 0, 8⟩
def F.LNK_BLDISC_PAR : Fld := ⟨R.LNK_BLDISC, 0, 8⟩
def F.LNK_LLDISC_CRC : Fld := ⟨R.LNK_LLDISC, 8, 8⟩
def F.LNK_BLDISC_CRC : Fld := ⟨R.LNK_BLDISC, 8, 8⟩
def F.LNK_LLDISC_SEQ : Fld := ⟨R.LNK_LLDISC, 16, 8⟩
def F.LNK_BLDISC_SEQ : Fld := ⟨R.LNK_BLDISC, 16, 8⟩
def F.LNK_LLDISC_TYPE : Fld := ⟨R.LNK_LLDISC, 24, 8⟩
def F.LNK_BLDISC_TYPE : Fld := ⟨R.LNK_BLDISC, 24, 8⟩
def F.LNK_LLWAIT_POSTPONED : Fld := ⟨R.LNK_LLWAIT, 0, 16⟩
def F.LNK_LLWAIT_DUPWAIT : Fld := ⟨R.LNK_LLWAIT, 16, 16⟩
def F.LNK_VERDCNT_COMPARED : Fld := ⟨R.LNK_VERDCNT, 0, 16⟩
def F.LNK_VERDCNT_NONE : Fld := ⟨R.LNK_VERDCNT, 16, 16⟩
def F.LNK_DOWNCNT_LLDOWN : Fld := ⟨R.LNK_DOWNCNT, 0, 16⟩
def F.LNK_DOWNCNT_BLDOWN : Fld := ⟨R.LNK_DOWNCNT, 16, 16⟩
def F.LNK_DUPLATE_COUNT : Fld := ⟨R.LNK_DUPLATE, 0, 32⟩
def F.BREQ_REQCMD_OP : Fld := ⟨R.BREQ_REQCMD, 0, 8⟩
def F.BREQ_REQCMD_ARG : Fld := ⟨R.BREQ_REQCMD, 8, 8⟩
def F.BREQ_REQCMD_TAG : Fld := ⟨R.BREQ_REQCMD, 16, 4⟩
def F.BREQ_REQSTAT_BUSY : Fld := ⟨R.BREQ_REQSTAT, 0, 1⟩
def F.BREQ_REQSTAT_RESULT : Fld := ⟨R.BREQ_REQSTAT, 4, 4⟩
def F.BREQ_REQSTAT_OP : Fld := ⟨R.BREQ_REQSTAT, 8, 8⟩
def F.BREQ_REQSTAT_TAG : Fld := ⟨R.BREQ_REQSTAT, 16, 4⟩
def F.CKP_PAIRCFG_PERIOD (i : Nat) : Fld := ⟨R.CKP_PAIRCFG i, 0, 14⟩
def F.CKP_PAIRCFG_PEREN (i : Nat) : Fld := ⟨R.CKP_PAIRCFG i, 16, 1⟩
def F.CKP_PAIRCFG_UCKPT (i : Nat) : Fld := ⟨R.CKP_PAIRCFG i, 17, 1⟩
def F.CKP_PAIRSTAT_STATE (i : Nat) : Fld := ⟨R.CKP_PAIRSTAT i, 0, 3⟩
def F.CKP_PAIRSTAT_BUF (i : Nat) : Fld := ⟨R.CKP_PAIRSTAT i, 3, 1⟩
def F.CKP_PAIRSTAT_LOGUSED (i : Nat) : Fld := ⟨R.CKP_PAIRSTAT i, 4, 9⟩
def F.CKP_PAIRSTAT_DBGRST (i : Nat) : Fld := ⟨R.CKP_PAIRSTAT i, 13, 1⟩
def F.CKP_CKSN_LO_COUNT (i : Nat) : Fld := ⟨R.CKP_CKSN_LO i, 0, 32⟩
def F.CKP_CKSN_HI_COUNT (i : Nat) : Fld := ⟨R.CKP_CKSN_HI i, 0, 32⟩
def F.CKP_RSTCNT_COUNT (i : Nat) : Fld := ⟨R.CKP_RSTCNT i, 0, 16⟩
def F.CKP_RSTCNT_REPLAYED (i : Nat) : Fld := ⟨R.CKP_RSTCNT i, 16, 9⟩
def F.CKP_FORCECNT_SET (i : Nat) : Fld := ⟨R.CKP_FORCECNT i, 0, 10⟩
def F.CKP_FORCECNT_LOG (i : Nat) : Fld := ⟨R.CKP_FORCECNT i, 10, 10⟩
def F.CKP_FORCECNT_SNOOP (i : Nat) : Fld := ⟨R.CKP_FORCECNT i, 20, 10⟩
def F.CKP_LASTMIS_GROUP (i : Nat) : Fld := ⟨R.CKP_LASTMIS i, 0, 4⟩
def F.CKP_LASTMIS_EIC (i : Nat) : Fld := ⟨R.CKP_LASTMIS i, 8, 24⟩
def F.CKP_REDIRECT_SUCC (m : Nat) : Fld := ⟨R.CKP_REDIRECT, 8 * m, 8⟩
def F.CKP_PAIRCMD_PAIR : Fld := ⟨R.CKP_PAIRCMD, 0, 2⟩
def F.CKP_PAIRCMD_CMD : Fld := ⟨R.CKP_PAIRCMD, 4, 4⟩
def F.LE_FRAMECFG_FRAME : Fld := ⟨R.LE_FRAMECFG, 0, 20⟩
def F.LE_FRAMESTAT_CYCLE : Fld := ⟨R.LE_FRAMESTAT, 0, 20⟩
def F.LE_FRAMESTAT_SYNCED : Fld := ⟨R.LE_FRAMESTAT, 31, 1⟩
def F.LE_TBLCTRL_COMMIT : Fld := ⟨R.LE_TBLCTRL, 0, 1⟩
def F.LE_SWAPAT_FN : Fld := ⟨R.LE_SWAPAT, 0, 16⟩
def F.LE_SWAPAT_EN : Fld := ⟨R.LE_SWAPAT, 16, 1⟩
def F.LE_SPARE_CYCLES : Fld := ⟨R.LE_SPARE, 0, 20⟩
def F.LE_CTXCFG_YBASE (i : Nat) : Fld := ⟨R.LE_CTXCFG i, 0, 14⟩
def F.LE_CTXCFG_BFIRST (i : Nat) : Fld := ⟨R.LE_CTXCFG i, 16, 8⟩
def F.LE_CTXCFG_BCOUNT (i : Nat) : Fld := ⟨R.LE_CTXCFG i, 24, 5⟩
def F.LE_CTXCOEF_XBASE (i : Nat) : Fld := ⟨R.LE_CTXCOEF i, 0, 14⟩
def F.LE_CTXCOEF_BSIZE (i : Nat) : Fld := ⟨R.LE_CTXCOEF i, 16, 6⟩
def F.LE_CTXCOEF_BANK (i : Nat) : Fld := ⟨R.LE_CTXCOEF i, 24, 1⟩
def F.LE_CTXCOEF_SWAP (i : Nat) : Fld := ⟨R.LE_CTXCOEF i, 25, 1⟩
def F.LE_BINDA_EN (i : Nat) : Fld := ⟨R.LE_BINDA i, 0, 1⟩
def F.LE_BINDA_DIR (i : Nat) : Fld := ⟨R.LE_BINDA i, 1, 1⟩
def F.LE_BINDA_TYPE (i : Nat) : Fld := ⟨R.LE_BINDA i, 2, 4⟩
def F.LE_BINDA_INDEX (i : Nat) : Fld := ⟨R.LE_BINDA i, 6, 7⟩
def F.LE_BINDA_SEL (i : Nat) : Fld := ⟨R.LE_BINDA i, 13, 3⟩
def F.LE_BINDA_ZW (i : Nat) : Fld := ⟨R.LE_BINDA i, 16, 5⟩
def F.LE_BINDA_SHIFT (i : Nat) : Fld := ⟨R.LE_BINDA i, 21, 6⟩
def F.LE_BINDA_STALE (i : Nat) : Fld := ⟨R.LE_BINDA i, 27, 2⟩
def F.LE_BINDA_SIGNED (i : Nat) : Fld := ⟨R.LE_BINDA i, 29, 1⟩
def F.LE_BINDB_MAXAGE (i : Nat) : Fld := ⟨R.LE_BINDB i, 0, 16⟩
def F.LE_TRKCFG_EN (i : Nat) : Fld := ⟨R.LE_TRKCFG i, 0, 1⟩
def F.LE_TRKCFG_ACKREQ (i : Nat) : Fld := ⟨R.LE_TRKCFG i, 1, 1⟩
def F.LE_TRKCFG_ZW (i : Nat) : Fld := ⟨R.LE_TRKCFG i, 2, 5⟩
def F.LE_TRKCFG_CTX (i : Nat) : Fld := ⟨R.LE_TRKCFG i, 8, 7⟩
def F.LE_TRKCFG_DEC (i : Nat) : Fld := ⟨R.LE_TRKCFG i, 16, 4⟩
def F.LE_TRKCFG_NOFS (i : Nat) : Fld := ⟨R.LE_TRKCFG i, 24, 6⟩
def F.LE_TRKBAND_KLO (i : Nat) : Fld := ⟨R.LE_TRKBAND i, 0, 9⟩
def F.LE_TRKBAND_KHI (i : Nat) : Fld := ⟨R.LE_TRKBAND i, 9, 9⟩
def F.LE_TRKBAND_THRESH (i : Nat) : Fld := ⟨R.LE_TRKBAND i, 18, 12⟩
def F.LE_TRKLIM_NLO (i : Nat) : Fld := ⟨R.LE_TRKLIM i, 0, 9⟩
def F.LE_TRKLIM_NHI (i : Nat) : Fld := ⟨R.LE_TRKLIM i, 9, 9⟩
def F.LE_TRKLIM_STEP (i : Nat) : Fld := ⟨R.LE_TRKLIM i, 18, 6⟩
def F.LE_TRKRHO_RHO (i : Nat) : Fld := ⟨R.LE_TRKRHO i, 0, 32⟩
def F.LE_TRKSTAT_STATE (i : Nat) : Fld := ⟨R.LE_TRKSTAT i, 0, 3⟩
def F.LE_TRKSTAT_RESULT (i : Nat) : Fld := ⟨R.LE_TRKSTAT i, 4, 3⟩
def F.LE_TRKSTAT_PEAK (i : Nat) : Fld := ⟨R.LE_TRKSTAT i, 16, 9⟩
def F.LE_TRKPROP_CUR (i : Nat) : Fld := ⟨R.LE_TRKPROP i, 0, 9⟩
def F.LE_TRKPROP_PROP (i : Nat) : Fld := ⟨R.LE_TRKPROP i, 16, 9⟩
def F.LE_TRKACK_ACT (i : Nat) : Fld := ⟨R.LE_TRKACK i, 0, 2⟩
def F.LE_TRKACK_BIN (i : Nat) : Fld := ⟨R.LE_TRKACK i, 16, 9⟩
def F.LE_TRKBUF_BLOCK (i : Nat) : Fld := ⟨R.LE_TRKBUF i, 0, 14⟩
def F.LESLOT_SPHASE_P (s : Nat) : Fld := ⟨R.LESLOT_SPHASE s, 0, 20⟩
def F.LESLOT_OPHASE_O (s : Nat) : Fld := ⟨R.LESLOT_OPHASE s, 0, 20⟩
def F.LESLOT_SLOTCFG_DIV (s : Nat) : Fld := ⟨R.LESLOT_SLOTCFG s, 0, 7⟩
def F.LESLOT_SLOTCFG_EN (s : Nat) : Fld := ⟨R.LESLOT_SLOTCFG s, 8, 1⟩
def F.LESLOT_SLOTCFG_EXITMSG (s : Nat) : Fld := ⟨R.LESLOT_SLOTCFG s, 9, 1⟩
def F.LESLOT_SLOTCFG_ABORTMSG (s : Nat) : Fld := ⟨R.LESLOT_SLOTCFG s, 10, 1⟩
def F.LESLOT_SLOTSTAT_CAUSE (s : Nat) : Fld := ⟨R.LESLOT_SLOTSTAT s, 0, 3⟩
def F.LESLOT_SLOTSTAT_FENCED (s : Nat) : Fld := ⟨R.LESLOT_SLOTSTAT s, 3, 1⟩
def F.LESLOT_SLOTSTAT_CTX (s : Nat) : Fld := ⟨R.LESLOT_SLOTSTAT s, 4, 7⟩
def F.LESLOT_SLOTSTAT_ROT (s : Nat) : Fld := ⟨R.LESLOT_SLOTSTAT s, 11, 3⟩
def F.LESLOT_SLOTSTAT_PC (s : Nat) : Fld := ⟨R.LESLOT_SLOTSTAT s, 19, 13⟩
def F.LESLOT_ROT_CTX (s i : Nat) : Fld := ⟨R.LESLOT_ROT s i, 0, 7⟩
def F.LESLOT_ROT_VALID (s i : Nat) : Fld := ⟨R.LESLOT_ROT s i, 7, 1⟩
def F.LESLOT_ROT_ENTRY (s i : Nat) : Fld := ⟨R.LESLOT_ROT s i, 8, 13⟩
def F.LESLOT_EXITESW_ESW (s : Nat) : Fld := ⟨R.LESLOT_EXITESW s, 0, 32⟩
def F.LESLOT_CYCLES_LAST (s : Nat) : Fld := ⟨R.LESLOT_CYCLES s, 0, 9⟩
def F.LESLOT_CYCLES_MAX (s : Nat) : Fld := ⟨R.LESLOT_CYCLES s, 16, 9⟩
def F.PLC_CMD_OP : Fld := ⟨R.PLC_CMD, 0, 2⟩
def F.PLC_STAT_BUSY : Fld := ⟨R.PLC_STAT, 0, 1⟩
def F.PLC_STAT_MODE : Fld := ⟨R.PLC_STAT, 1, 2⟩
def F.PLC_STAT_SYNCDONE : Fld := ⟨R.PLC_STAT, 3, 1⟩
def F.PLC_STAT_SHED : Fld := ⟨R.PLC_STAT, 8, 8⟩
def F.PLC_STAT_PLACED : Fld := ⟨R.PLC_STAT, 16, 8⟩
def F.PLC_LASTRUN_TRIG : Fld := ⟨R.PLC_LASTRUN, 0, 10⟩
def F.PLC_LASTRUN_RESULT : Fld := ⟨R.PLC_LASTRUN, 12, 3⟩
def F.PLC_LASTRUN_RUN : Fld := ⟨R.PLC_LASTRUN, 16, 16⟩
def F.PLC_SLOTPOOL_L_POOL : Fld := ⟨R.PLC_SLOTPOOL_L, 0, 32⟩
def F.PLC_SLOTPOOL_H_POOL : Fld := ⟨R.PLC_SLOTPOOL_H, 0, 16⟩
def F.PLC_YAREA_YCELL : Fld := ⟨R.PLC_YAREA, 0, 7⟩
def F.PLC_YAREA_YLO : Fld := ⟨R.PLC_YAREA, 16, 14⟩
def F.PLC_XAREA_XCELL : Fld := ⟨R.PLC_XAREA, 0, 8⟩
def F.PLC_XAREA_XLO : Fld := ⟨R.PLC_XAREA, 16, 14⟩
def F.PLC_BANKPOOL_L_POOL : Fld := ⟨R.PLC_BANKPOOL_L, 0, 32⟩
def F.PLC_BANKPOOL_H_POOL : Fld := ⟨R.PLC_BANKPOOL_H, 0, 32⟩
def F.PLC_MIRBLK_BLOCK : Fld := ⟨R.PLC_MIRBLK, 0, 14⟩
def F.PLC_INITBLK_BLOCK : Fld := ⟨R.PLC_INITBLK, 0, 14⟩
def F.PLC_LOGBLK_BLOCK : Fld := ⟨R.PLC_LOGBLK, 0, 14⟩
def F.PLC_MIRBLK_VALID : Fld := ⟨R.PLC_MIRBLK, 31, 1⟩
def F.PLC_INITBLK_VALID : Fld := ⟨R.PLC_INITBLK, 31, 1⟩
def F.PLC_LOGBLK_VALID : Fld := ⟨R.PLC_LOGBLK, 31, 1⟩
def F.PLC_LOGIDX_NEXT : Fld := ⟨R.PLC_LOGIDX, 0, 7⟩
def F.PLC_PAIRLOAD_LOAD (m : Nat) : Fld := ⟨R.PLC_PAIRLOAD, 8 * m, 7⟩
def F.PLC_PLCREP_STATE (i : Nat) : Fld := ⟨R.PLC_PLCREP i, 0, 2⟩
def F.PLC_PLCREP_INA (i : Nat) : Fld := ⟨R.PLC_PLCREP i, 2, 1⟩
def F.PLC_PLCREP_INB (i : Nat) : Fld := ⟨R.PLC_PLCREP i, 3, 1⟩
def F.PLC_PLCREP_SLOT (i : Nat) : Fld := ⟨R.PLC_PLCREP i, 4, 6⟩
def F.PLC_PLCREP_ROT (i : Nat) : Fld := ⟨R.PLC_PLCREP i, 10, 3⟩
def F.PLC_PLCREP_PAIR (i : Nat) : Fld := ⟨R.PLC_PLCREP i, 13, 2⟩
def F.PLC_PLCREP_START (i : Nat) : Fld := ⟨R.PLC_PLCREP i, 16, 3⟩
def F.PLC_PLCREP_CAUSE (i : Nat) : Fld := ⟨R.PLC_PLCREP i, 20, 3⟩
def F.PLC_PLCREP_MIRSKIP (i : Nat) : Fld := ⟨R.PLC_PLCREP i, 23, 1⟩
def F.PLC_PLCREP_RAMP (i : Nat) : Fld := ⟨R.PLC_PLCREP i, 24, 1⟩
def F.PLC_PLCREP_RAMPFULL (i : Nat) : Fld := ⟨R.PLC_PLCREP i, 25, 1⟩
def F.BSYS_DEVSTAT_DEVSTATE : Fld := ⟨R.BSYS_DEVSTAT, 0, 3⟩
def F.BSYS_DEVSTAT_LANEA : Fld := ⟨R.BSYS_DEVSTAT, 4, 3⟩
def F.BSYS_DEVSTAT_LANEB : Fld := ⟨R.BSYS_DEVSTAT, 8, 3⟩
def F.BSYS_DEVSTAT_CAPA : Fld := ⟨R.BSYS_DEVSTAT, 12, 1⟩
def F.BSYS_DEVSTAT_CAPB : Fld := ⟨R.BSYS_DEVSTAT, 13, 1⟩
def F.BSYS_DEVSTAT_FEEDA : Fld := ⟨R.BSYS_DEVSTAT, 16, 1⟩
def F.BSYS_DEVSTAT_FEEDB : Fld := ⟨R.BSYS_DEVSTAT, 17, 1⟩
def F.BSYS_DEVSTAT_VGDA : Fld := ⟨R.BSYS_DEVSTAT, 18, 1⟩
def F.BSYS_DEVSTAT_VGDB : Fld := ⟨R.BSYS_DEVSTAT, 19, 1⟩
def F.BSYS_DEVSTAT_SUPSEL : Fld := ⟨R.BSYS_DEVSTAT, 20, 1⟩
def F.BSYS_DEVSTAT_H0OK : Fld := ⟨R.BSYS_DEVSTAT, 24, 1⟩
def F.BSYS_DEVSTAT_H1OK : Fld := ⟨R.BSYS_DEVSTAT, 25, 1⟩
def F.BSYS_BCFG_LOADED : Fld := ⟨R.BSYS_BCFG, 0, 1⟩
def F.BSYS_BCFG_NETVOTE : Fld := ⟨R.BSYS_BCFG, 1, 1⟩
def F.BSYS_BCFG_SINGLEOK : Fld := ⟨R.BSYS_BCFG, 2, 1⟩
def F.BSYS_SUPCNT_SWITCH : Fld := ⟨R.BSYS_SUPCNT, 0, 16⟩
def F.BSYS_SUPCNT_VGDLOSS : Fld := ⟨R.BSYS_SUPCNT, 16, 16⟩
def F.BSYS_SAFECAUSE_CAUSE : Fld := ⟨R.BSYS_SAFECAUSE, 0, 3⟩
def F.BSYS_LANECAUSE_CAUSEA : Fld := ⟨R.BSYS_LANECAUSE, 0, 3⟩
def F.BSYS_LANECAUSE_CAUSEB : Fld := ⟨R.BSYS_LANECAUSE, 4, 3⟩
def F.BLEASE_LSTAT_STATE (i : Nat) : Fld := ⟨R.BLEASE_LSTAT i, 0, 3⟩
def F.BLEASE_LSTAT_HOLDER (i : Nat) : Fld := ⟨R.BLEASE_LSTAT i, 3, 1⟩
def F.BLEASE_LSTAT_RDYA (i : Nat) : Fld := ⟨R.BLEASE_LSTAT i, 4, 1⟩
def F.BLEASE_LSTAT_RDYB (i : Nat) : Fld := ⟨R.BLEASE_LSTAT i, 5, 1⟩
def F.BLEASE_LSTAT_DIAGA (i : Nat) : Fld := ⟨R.BLEASE_LSTAT i, 6, 1⟩
def F.BLEASE_LSTAT_DIAGB (i : Nat) : Fld := ⟨R.BLEASE_LSTAT i, 7, 1⟩
def F.BLEASE_LSTAT_LEFT (i : Nat) : Fld := ⟨R.BLEASE_LSTAT i, 16, 13⟩
def F.BLEASE_LCFG_LEASEP (i : Nat) : Fld := ⟨R.BLEASE_LCFG i, 0, 13⟩
def F.BLEASE_LCFG_PREF (i : Nat) : Fld := ⟨R.BLEASE_LCFG i, 16, 1⟩
def F.BLEASE_LCFG_BRIDGES (i : Nat) : Fld := ⟨R.BLEASE_LCFG i, 24, 8⟩
def F.BLEASE_LCNT_HANDOVER (i : Nat) : Fld := ⟨R.BLEASE_LCNT i, 0, 16⟩
def F.BLEASE_LCNT_GAPS (i : Nat) : Fld := ⟨R.BLEASE_LCNT i, 16, 16⟩
def F.BLEASE_LLAST_CAUSE (i : Nat) : Fld := ⟨R.BLEASE_LLAST i, 0, 3⟩
def F.BLEASE_LLAST_FROM (i : Nat) : Fld := ⟨R.BLEASE_LLAST i, 4, 1⟩
def F.BLEASE_LLAST_CYCLES (i : Nat) : Fld := ⟨R.BLEASE_LLAST i, 8, 8⟩
def F.BLEASE_RSEQ_A_SEQ : Fld := ⟨R.BLEASE_RSEQ_A, 0, 32⟩
def F.BLEASE_RSEQ_B_SEQ : Fld := ⟨R.BLEASE_RSEQ_B, 0, 32⟩
def F.BLEASE_VOTECNT_NEGA : Fld := ⟨R.BLEASE_VOTECNT, 0, 16⟩
def F.BLEASE_VOTECNT_NEGB : Fld := ⟨R.BLEASE_VOTECNT, 16, 16⟩
def F.BLEASE_HOLD_COUNT (i : Nat) : Fld := ⟨R.BLEASE_HOLD i, 0, 7⟩
def F.BLEASE_HOLD_TERM (i : Nat) : Fld := ⟨R.BLEASE_HOLD i, 7, 1⟩
def F.BLEASE_HOLD_TSTATE (i : Nat) : Fld := ⟨R.BLEASE_HOLD i, 8, 2⟩
def F.BLEASE_HOLD_DOMAIN (i : Nat) : Fld := ⟨R.BLEASE_HOLD i, 16, 3⟩
def F.BLEASE_HOLD_ASSIGNED (i : Nat) : Fld := ⟨R.BLEASE_HOLD i, 19, 1⟩
def F.BENV_ENVCFG_DMAX (i : Nat) : Fld := ⟨R.BENV_ENVCFG i, 0, 16⟩
def F.BENV_ENVCFG_DSTEP (i : Nat) : Fld := ⟨R.BENV_ENVCFG i, 16, 16⟩
def F.BENV_ENVMODE_PLAUS (i : Nat) : Fld := ⟨R.BENV_ENVMODE i, 0, 2⟩
def F.BENV_ENVMODE_TERM (i : Nat) : Fld := ⟨R.BENV_ENVMODE i, 2, 2⟩
def F.BENV_ENVMODE_BLKDIR (i : Nat) : Fld := ⟨R.BENV_ENVMODE i, 4, 1⟩
def F.BENV_ENVMODE_MAXHOLD (i : Nat) : Fld := ⟨R.BENV_ENVMODE i, 8, 7⟩
def F.BENV_ENVMODE_BLKDUTY (i : Nat) : Fld := ⟨R.BENV_ENVMODE i, 16, 16⟩
def F.BENV_ENVFAIL_FAILA (i : Nat) : Fld := ⟨R.BENV_ENVFAIL i, 0, 16⟩
def F.BENV_ENVFAIL_FAILB (i : Nat) : Fld := ⟨R.BENV_ENVFAIL i, 16, 16⟩
def F.BENV_VERD_DISAGREE (i : Nat) : Fld := ⟨R.BENV_VERD i, 0, 16⟩
def F.BENV_VERD_NONE (i : Nat) : Fld := ⟨R.BENV_VERD i, 16, 16⟩
def F.BENV_OVWR_OVWRA (i : Nat) : Fld := ⟨R.BENV_OVWR i, 0, 16⟩
def F.BENV_OVWR_OVWRB (i : Nat) : Fld := ⟨R.BENV_OVWR i, 16, 16⟩
def F.BFLT_FIRST_SRC : Fld := ⟨R.BFLT_FIRST, 0, 6⟩
def F.BFLT_FIRST_SEV : Fld := ⟨R.BFLT_FIRST, 8, 3⟩
def F.BFLT_FIRST_VALID : Fld := ⟨R.BFLT_FIRST, 15, 1⟩
def F.BFLT_FIRST_SAME : Fld := ⟨R.BFLT_FIRST, 16, 8⟩
def F.BFLT_SEV_SEV (i m : Nat) : Fld := ⟨R.BFLT_SEV i, 4 * m, 3⟩
def F.BRG_BRGCFG_PDIV (n : Nat) : Fld := ⟨R.BRG_BRGCFG n, 0, 7⟩
def F.BRG_BRGCFG_CMODE (n : Nat) : Fld := ⟨R.BRG_BRGCFG n, 8, 1⟩
def F.BRG_BRGCFG_FSTATE (n : Nat) : Fld := ⟨R.BRG_BRGCFG n, 9, 1⟩
def F.BRG_DEADT_DT (n : Nat) : Fld := ⟨R.BRG_DEADT n, 0, 10⟩
def F.BRG_PULSE_MINON (n : Nat) : Fld := ⟨R.BRG_PULSE n, 0, 10⟩
def F.BRG_PULSE_MINOFF (n : Nat) : Fld := ⟨R.BRG_PULSE n, 16, 12⟩
def F.BRG_BOOT_REFPER (n : Nat) : Fld := ⟨R.BRG_BOOT n, 0, 6⟩
def F.BRG_BOOT_BSUV (n : Nat) : Fld := ⟨R.BRG_BOOT n, 8, 3⟩
def F.BRG_BOOT_BUVN (n : Nat) : Fld := ⟨R.BRG_BOOT n, 12, 4⟩
def F.BRG_BOOT_PRECHG (n : Nat) : Fld := ⟨R.BRG_BOOT n, 16, 8⟩
def F.BRG_DESAT_DSTH (n : Nat) : Fld := ⟨R.BRG_DESAT n, 0, 4⟩
def F.BRG_DESAT_DSBLK (n : Nat) : Fld := ⟨R.BRG_DESAT n, 8, 5⟩
def F.BRG_OCCFG_OCTH (n : Nat) : Fld := ⟨R.BRG_OCCFG n, 0, 15⟩
def F.BRG_OCCFG_OCCNT (n : Nat) : Fld := ⟨R.BRG_OCCFG n, 16, 4⟩
def F.BRG_VBRCFG_UVTH (n : Nat) : Fld := ⟨R.BRG_VBRCFG n, 0, 8⟩
def F.BRG_VBRCFG_OVTH (n : Nat) : Fld := ⟨R.BRG_VBRCFG n, 8, 8⟩
def F.BRG_TEMPCFG_TWARN (n : Nat) : Fld := ⟨R.BRG_TEMPCFG n, 0, 8⟩
def F.BRG_COMCFG_COMFLT (n : Nat) : Fld := ⟨R.BRG_COMCFG n, 0, 8⟩
def F.BRG_COMCFG_PINV (n : Nat) : Fld := ⟨R.BRG_COMCFG n, 8, 1⟩
def F.BRG_TREQ_KEY (n : Nat) : Fld := ⟨R.BRG_TREQ n, 0, 16⟩
def F.BRG_GATEOVR_ON (n : Nat) : Fld := ⟨R.BRG_GATEOVR n, 0, 6⟩
def F.BRG_GATEOVR_EN (n : Nat) : Fld := ⟨R.BRG_GATEOVR n, 8, 1⟩
def F.BRG_FLTLAT_DESAT (n : Nat) : Fld := ⟨R.BRG_FLTLAT n, 0, 6⟩
def F.BRG_FLTCAUSE_DESAT (n : Nat) : Fld := ⟨R.BRG_FLTCAUSE n, 0, 6⟩
def F.BRG_FLTLAT_OC (n : Nat) : Fld := ⟨R.BRG_FLTLAT n, 8, 3⟩
def F.BRG_FLTCAUSE_OC (n : Nat) : Fld := ⟨R.BRG_FLTCAUSE n, 8, 3⟩
def F.BRG_FLTLAT_BOOTUV (n : Nat) : Fld := ⟨R.BRG_FLTLAT n, 12, 3⟩
def F.BRG_FLTCAUSE_BOOTUV (n : Nat) : Fld := ⟨R.BRG_FLTCAUSE n, 12, 3⟩
def F.BRG_FLTLAT_VBRUV (n : Nat) : Fld := ⟨R.BRG_FLTLAT n, 16, 1⟩
def F.BRG_FLTLAT_VBROV (n : Nat) : Fld := ⟨R.BRG_FLTLAT n, 17, 1⟩
def F.BRG_FLTLAT_OTEMP (n : Nat) : Fld := ⟨R.BRG_FLTLAT n, 18, 1⟩
def F.BRG_FLTCAUSE_VBRUV (n : Nat) : Fld := ⟨R.BRG_FLTCAUSE n, 16, 1⟩
def F.BRG_FLTCAUSE_VBROV (n : Nat) : Fld := ⟨R.BRG_FLTCAUSE n, 17, 1⟩
def F.BRG_FLTCAUSE_OTEMP (n : Nat) : Fld := ⟨R.BRG_FLTCAUSE n, 18, 1⟩
def F.BRG_EVT_INTLK (n : Nat) : Fld := ⟨R.BRG_EVT n, 0, 1⟩
def F.BRG_EVT_CODE (n : Nat) : Fld := ⟨R.BRG_EVT n, 1, 1⟩
def F.BRG_EVT_BUVREF (n : Nat) : Fld := ⟨R.BRG_EVT n, 2, 1⟩
def F.BRG_EVT_TWARN (n : Nat) : Fld := ⟨R.BRG_EVT n, 3, 1⟩
def F.BRG_EVT_CLRREF (n : Nat) : Fld := ⟨R.BRG_EVT n, 4, 1⟩
def F.BRG_EVT_DROP (n : Nat) : Fld := ⟨R.BRG_EVT n, 5, 1⟩
def F.BRG_INTLKCNT_INTLK (n : Nat) : Fld := ⟨R.BRG_INTLKCNT n, 0, 16⟩
def F.BRG_INTLKCNT_CODE (n : Nat) : Fld := ⟨R.BRG_INTLKCNT n, 16, 16⟩
def F.BRG_REFCNT_PER (n : Nat) : Fld := ⟨R.BRG_REFCNT n, 0, 16⟩
def F.BRG_REFCNT_UV (n : Nat) : Fld := ⟨R.BRG_REFCNT n, 16, 16⟩
def F.BRG_BSTAT_DRIVE (n : Nat) : Fld := ⟨R.BRG_BSTAT n, 0, 4⟩
def F.BRG_BSTAT_BEN (n : Nat) : Fld := ⟨R.BRG_BSTAT n, 4, 1⟩
def F.BRG_BSTAT_SEL (n : Nat) : Fld := ⟨R.BRG_BSTAT n, 5, 3⟩
def F.BRG_BSTAT_ACT (n : Nat) : Fld := ⟨R.BRG_BSTAT n, 8, 2⟩
def F.BRG_BSTAT_TERM (n : Nat) : Fld := ⟨R.BRG_BSTAT n, 10, 1⟩
def F.BRG_BSTAT_TSTATE (n : Nat) : Fld := ⟨R.BRG_BSTAT n, 11, 2⟩
def F.BRG_BSTAT_PRE (n : Nat) : Fld := ⟨R.BRG_BSTAT n, 13, 1⟩
def F.BRG_BSTAT_HOLDCNT (n : Nat) : Fld := ⟨R.BRG_BSTAT n, 16, 7⟩
def F.BRG_BSTAT_TEMP (n : Nat) : Fld := ⟨R.BRG_BSTAT n, 24, 8⟩
def F.BRG_CLRCNT_ACC (n : Nat) : Fld := ⟨R.BRG_CLRCNT n, 0, 16⟩
def F.BRG_CLRCNT_REF (n : Nat) : Fld := ⟨R.BRG_CLRCNT n, 16, 16⟩
def F.BRG_CSCFG_GAIN (n i : Nat) : Fld := ⟨R.BRG_CSCFG n i, 0, 2⟩
def F.BRG_CSCFG_OFFS (n i : Nat) : Fld := ⟨R.BRG_CSCFG n i, 16, 16⟩
def F.BRG_CSLAST_SAMPLE (n i : Nat) : Fld := ⟨R.BRG_CSLAST n i, 0, 16⟩
def F.BRG_CSLAST_CNT (n i : Nat) : Fld := ⟨R.BRG_CSLAST n i, 16, 9⟩
def F.BRG_HLMODE_MODES (n : Nat) : Fld := ⟨R.BRG_HLMODE n, 0, 6⟩
def F.BRG_HLDUTY_0_U (n : Nat) : Fld := ⟨R.BRG_HLDUTY_0 n, 0, 16⟩
def F.BRG_HLDUTY_0_V (n : Nat) : Fld := ⟨R.BRG_HLDUTY_0 n, 16, 16⟩
def F.BRG_HLDUTY_1_W (n : Nat) : Fld := ⟨R.BRG_HLDUTY_1 n, 0, 16⟩
def F.BCOM_MPER_PER : Fld := ⟨R.BCOM_MPER, 0, 19⟩
def F.BCOM_TBSTAT_LOCK : Fld := ⟨R.BCOM_TBSTAT, 0, 1⟩
def F.BCOM_TBSTAT_ARMED : Fld := ⟨R.BCOM_TBSTAT, 1, 1⟩
def F.BCOM_TBSTAT_ORPHLAT : Fld := ⟨R.BCOM_TBSTAT, 2, 1⟩
def F.BCOM_TBSTAT_HMASK : Fld := ⟨R.BCOM_TBSTAT, 4, 2⟩
def F.BCOM_TBSTAT_PCNT : Fld := ⟨R.BCOM_TBSTAT, 8, 24⟩
def F.BCOM_STRAPS_ORPH : Fld := ⟨R.BCOM_STRAPS, 0, 8⟩
def F.BCOM_LINKDISC_DISCA : Fld := ⟨R.BCOM_LINKDISC, 0, 16⟩
def F.BCOM_LINKDISC_DISCB : Fld := ⟨R.BCOM_LINKDISC, 16, 16⟩
def F.BCOM_REFUSED_REFA : Fld := ⟨R.BCOM_REFUSED, 0, 16⟩
def F.BCOM_REFUSED_REFB : Fld := ⟨R.BCOM_REFUSED, 16, 16⟩
def F.FBKCH_CHCFG_MODE (c : Nat) : Fld := ⟨R.FBKCH_CHCFG c, 0, 3⟩
def F.FBKCH_CHCFG_DIR (c : Nat) : Fld := ⟨R.FBKCH_CHCFG c, 3, 1⟩
def F.FBKCH_CHCFG_INV (c : Nat) : Fld := ⟨R.FBKCH_CHCFG c, 4, 3⟩
def F.FBKCH_CHCFG_EDGE (c : Nat) : Fld := ⟨R.FBKCH_CHCFG c, 7, 1⟩
def F.FBKCH_CHCFG_FLT (c : Nat) : Fld := ⟨R.FBKCH_CHCFG c, 8, 8⟩
def F.FBKCH_CHCFG_IDXMODE (c : Nat) : Fld := ⟨R.FBKCH_CHCFG c, 16, 2⟩
def F.FBKCH_CHCFG_IDXQ (c : Nat) : Fld := ⟨R.FBKCH_CHCFG c, 18, 1⟩
def F.FBKCH_CHCFG_IDXEN (c : Nat) : Fld := ⟨R.FBKCH_CHCFG c, 19, 1⟩
def F.FBKCH_CPR_CPR (c : Nat) : Fld := ⟨R.FBKCH_CPR c, 0, 32⟩
def F.FBKCH_CHEVT_QERR (c : Nat) : Fld := ⟨R.FBKCH_CHEVT c, 0, 1⟩
def F.FBKCH_CHEVT_HALLERR (c : Nat) : Fld := ⟨R.FBKCH_CHEVT c, 1, 1⟩
def F.FBKCH_CHEVT_IDXERR (c : Nat) : Fld := ⟨R.FBKCH_CHEVT c, 2, 1⟩
def F.FBKCH_CHEVT_IDXOUT (c : Nat) : Fld := ⟨R.FBKCH_CHEVT c, 3, 1⟩
def F.FBKCH_CHEVT_REF (c : Nat) : Fld := ⟨R.FBKCH_CHEVT c, 4, 1⟩
def F.FBKCH_CHEVT_TMO (c : Nat) : Fld := ⟨R.FBKCH_CHEVT c, 5, 1⟩
def F.FBKCH_CHEVT_WRAP (c : Nat) : Fld := ⟨R.FBKCH_CHEVT c, 6, 1⟩
def F.FBKCH_POS_POS (c : Nat) : Fld := ⟨R.FBKCH_POS c, 0, 32⟩
def F.FBKCH_IDXPOS_IDXPOS (c : Nat) : Fld := ⟨R.FBKCH_IDXPOS c, 0, 32⟩
def F.FBKCH_IDXTOL_TOL (c : Nat) : Fld := ⟨R.FBKCH_IDXTOL c, 0, 16⟩
def F.FBKCH_IDXDELTA_DELTA (c : Nat) : Fld := ⟨R.FBKCH_IDXDELTA c, 0, 32⟩
def F.FBKCH_ERRCNT_LINE (c : Nat) : Fld := ⟨R.FBKCH_ERRCNT c, 0, 16⟩
def F.FBKCH_ERRCNT_IDX (c : Nat) : Fld := ⟨R.FBKCH_ERRCNT c, 16, 16⟩
def F.FBKCH_TOOTHCFG_MISS (c : Nat) : Fld := ⟨R.FBKCH_TOOTHCFG c, 0, 2⟩
def F.FBKCH_TOOTHCFG_TYPE (c : Nat) : Fld := ⟨R.FBKCH_TOOTHCFG c, 4, 1⟩
def F.FBKCH_TOOTHCFG_GAPHI (c : Nat) : Fld := ⟨R.FBKCH_TOOTHCFG c, 8, 8⟩
def F.FBKCH_TOOTHCFG_GAPLO (c : Nat) : Fld := ⟨R.FBKCH_TOOTHCFG c, 16, 8⟩
def F.FBKCH_SPDCFG_WIN (c : Nat) : Fld := ⟨R.FBKCH_SPDCFG c, 0, 16⟩
def F.FBKCH_SPDCFG_PTMO (c : Nat) : Fld := ⟨R.FBKCH_SPDCFG c, 16, 16⟩
def F.FBKCH_PERIOD_TIME (c : Nat) : Fld := ⟨R.FBKCH_PERIOD c, 0, 32⟩
def F.FBKCH_HIGHT_TIME (c : Nat) : Fld := ⟨R.FBKCH_HIGHT c, 0, 32⟩
def F.FBKCH_WINCNT_COUNT (c : Nat) : Fld := ⟨R.FBKCH_WINCNT c, 0, 32⟩
def F.FBKCH_DUTY_DUTY (c : Nat) : Fld := ⟨R.FBKCH_DUTY c, 0, 16⟩
def F.FBKCH_FREQ_FREQ (c : Nat) : Fld := ⟨R.FBKCH_FREQ c, 0, 32⟩
def F.FBKCH_STATE_LVL (c : Nat) : Fld := ⟨R.FBKCH_STATE c, 0, 3⟩
def F.FBKCH_STATE_DIRN (c : Nat) : Fld := ⟨R.FBKCH_STATE c, 3, 1⟩
def F.FBKCH_STATE_REFOK (c : Nat) : Fld := ⟨R.FBKCH_STATE c, 4, 1⟩
def F.FBKCH_STATE_SECTOR (c : Nat) : Fld := ⟨R.FBKCH_STATE c, 8, 3⟩
def F.FBKCH_CHIEN_EN (c : Nat) : Fld := ⟨R.FBKCH_CHIEN c, 0, 7⟩
def F.FBK_OUTCFG_SRC (i : Nat) : Fld := ⟨R.FBK_OUTCFG i, 0, 4⟩
def F.FBK_OUTCFG_EN (i : Nat) : Fld := ⟨R.FBK_OUTCFG i, 4, 1⟩
def F.FBK_OUTCFG_FMT (i : Nat) : Fld := ⟨R.FBK_OUTCFG i, 5, 1⟩
def F.FBK_OUTCFG_IDXEN (i : Nat) : Fld := ⟨R.FBK_OUTCFG i, 6, 1⟩
def F.FBK_OUTCFG_MINST (i : Nat) : Fld := ⟨R.FBK_OUTCFG i, 8, 8⟩
def F.FBK_OUTRATIO_N (i : Nat) : Fld := ⟨R.FBK_OUTRATIO i, 0, 16⟩
def F.FBK_OUTRATIO_M (i : Nat) : Fld := ⟨R.FBK_OUTRATIO i, 16, 16⟩
def F.FBK_OUTSTAT_PEND (i : Nat) : Fld := ⟨R.FBK_OUTSTAT i, 0, 9⟩
def F.FBK_OUTSTAT_STEPS (i : Nat) : Fld := ⟨R.FBK_OUTSTAT i, 16, 16⟩
def F.SNS_PCFG_PROT (i : Nat) : Fld := ⟨R.SNS_PCFG i, 0, 2⟩
def F.SNS_PCFG_RATE (i : Nat) : Fld := ⟨R.SNS_PCFG i, 4, 1⟩
def F.SNS_PCFG_INV (i : Nat) : Fld := ⟨R.SNS_PCFG i, 5, 1⟩
def F.SNS_PCFG_TMO (i : Nat) : Fld := ⟨R.SNS_PCFG i, 8, 8⟩
def F.SNS_SENTCFG_TICK (i : Nat) : Fld := ⟨R.SNS_SENTCFG i, 0, 13⟩
def F.SNS_SENTCFG_NIB (i : Nat) : Fld := ⟨R.SNS_SENTCFG i, 16, 3⟩
def F.SNS_SENTCFG_F1N (i : Nat) : Fld := ⟨R.SNS_SENTCFG i, 20, 3⟩
def F.SNS_SENTCFG_F2REV (i : Nat) : Fld := ⟨R.SNS_SENTCFG i, 23, 1⟩
def F.SNS_SENTCFG_CRCV (i : Nat) : Fld := ⟨R.SNS_SENTCFG i, 24, 1⟩
def F.SNS_SENTCFG_PAUSE (i : Nat) : Fld := ⟨R.SNS_SENTCFG i, 25, 1⟩
def F.SNS_SENTCFG_SLOW (i : Nat) : Fld := ⟨R.SNS_SENTCFG i, 26, 2⟩
def F.SNS_SENTCFG_SCC (i : Nat) : Fld := ⟨R.SNS_SENTCFG i, 28, 1⟩
def F.SNS_PSI5CFG_SLOTS (i : Nat) : Fld := ⟨R.SNS_PSI5CFG i, 0, 2⟩
def F.SNS_PSI5CFG_LEN (i : Nat) : Fld := ⟨R.SNS_PSI5CFG i, 8, 5⟩
def F.SNS_SYNCCFG_EN (i : Nat) : Fld := ⟨R.SNS_SYNCCFG i, 0, 1⟩
def F.SNS_SYNCCFG_SRC (i : Nat) : Fld := ⟨R.SNS_SYNCCFG i, 1, 1⟩
def F.SNS_SYNCCFG_PER (i : Nat) : Fld := ⟨R.SNS_SYNCCFG i, 16, 16⟩
def F.SNS_SYNCPH_CYCLE (i : Nat) : Fld := ⟨R.SNS_SYNCPH i, 0, 20⟩
def F.SNS_DATA_VALUE (i j : Nat) : Fld := ⟨R.SNS_DATA i j, 0, 24⟩
def F.SNS_SLOW_DATA (i : Nat) : Fld := ⟨R.SNS_SLOW i, 0, 16⟩
def F.SNS_SLOW_ID (i : Nat) : Fld := ⟨R.SNS_SLOW i, 16, 8⟩
def F.SNS_SLOW_FMT (i : Nat) : Fld := ⟨R.SNS_SLOW i, 24, 2⟩
def F.SNS_PEVT_CAL (i : Nat) : Fld := ⟨R.SNS_PEVT i, 0, 1⟩
def F.SNS_PEVT_NIB (i : Nat) : Fld := ⟨R.SNS_PEVT i, 1, 1⟩
def F.SNS_PEVT_LEN (i : Nat) : Fld := ⟨R.SNS_PEVT i, 2, 1⟩
def F.SNS_PEVT_CRC (i : Nat) : Fld := ⟨R.SNS_PEVT i, 3, 1⟩
def F.SNS_PEVT_WIN (i : Nat) : Fld := ⟨R.SNS_PEVT i, 4, 1⟩
def F.SNS_PEVT_LOST (i : Nat) : Fld := ⟨R.SNS_PEVT i, 5, 1⟩
def F.SNS_PEVT_SLOWCRC (i : Nat) : Fld := ⟨R.SNS_PEVT i, 6, 1⟩
def F.SNS_PEVT_SLOWNEW (i : Nat) : Fld := ⟨R.SNS_PEVT i, 7, 1⟩
def F.SNS_OKCNT_COUNT (i : Nat) : Fld := ⟨R.SNS_OKCNT i, 0, 32⟩
def F.SNS_ERRCNT_COUNT (i : Nat) : Fld := ⟨R.SNS_ERRCNT i, 0, 32⟩
def F.SNS_PIEN_EN (i : Nat) : Fld := ⟨R.SNS_PIEN i, 0, 8⟩
def F.ADC_ADCCFG_TRIG : Fld := ⟨R.ADC_ADCCFG, 0, 2⟩
def F.ADC_ADCCFG_WMARK : Fld := ⟨R.ADC_ADCCFG, 8, 6⟩
def F.ADC_ADCSCAN_SCAN : Fld := ⟨R.ADC_ADCSCAN, 0, 16⟩
def F.ADC_ADCTRIG_CYCLE : Fld := ⟨R.ADC_ADCTRIG, 0, 20⟩
def F.ADC_ADCSTART_GO : Fld := ⟨R.ADC_ADCSTART, 0, 1⟩
def F.ADC_ADCFEN_EN : Fld := ⟨R.ADC_ADCFEN, 0, 16⟩
def F.ADC_ADCFIFO_VALUE : Fld := ⟨R.ADC_ADCFIFO, 0, 16⟩
def F.ADC_ADCFIFO_CH : Fld := ⟨R.ADC_ADCFIFO, 16, 4⟩
def F.ADC_ADCFIFO_DEPTH : Fld := ⟨R.ADC_ADCFIFO, 24, 5⟩
def F.ADC_ADCFIFO_OVR : Fld := ⟨R.ADC_ADCFIFO, 30, 1⟩
def F.ADC_ADCFIFO_VALID : Fld := ⟨R.ADC_ADCFIFO, 31, 1⟩
def F.ADC_ADCSTAT_SCANNING : Fld := ⟨R.ADC_ADCSTAT, 0, 1⟩
def F.ADC_ADCSTAT_CAL : Fld := ⟨R.ADC_ADCSTAT, 1, 1⟩
def F.ADC_ADCSTAT_CALFAIL : Fld := ⟨R.ADC_ADCSTAT, 2, 1⟩
def F.ADC_ADCSTAT_LEVEL : Fld := ⟨R.ADC_ADCSTAT, 8, 6⟩
def F.ADC_ADCSTAT_MISSED : Fld := ⟨R.ADC_ADCSTAT, 16, 16⟩
def F.ADC_ADCOVR_COUNT : Fld := ⟨R.ADC_ADCOVR, 0, 32⟩
def F.ADC_ADCRES_VALUE (i : Nat) : Fld := ⟨R.ADC_ADCRES i, 0, 16⟩
def F.ADC_ADCRES_COUNT (i : Nat) : Fld := ⟨R.ADC_ADCRES i, 16, 16⟩
def F.STR_PCTL_RUN (i : Nat) : Fld := ⟨R.STR_PCTL i, 0, 1⟩
def F.STR_PCTL_NODE (i : Nat) : Fld := ⟨R.STR_PCTL i, 8, 5⟩
def F.STR_PCTL_SYNCN (i : Nat) : Fld := ⟨R.STR_PCTL i, 16, 1⟩
def F.STR_PCTL_CSN (i : Nat) : Fld := ⟨R.STR_PCTL i, 17, 1⟩
def F.STR_PCTL_CSSLOT (i : Nat) : Fld := ⟨R.STR_PCTL i, 24, 6⟩
def F.STR_CYCCFG_CYCLEN (i : Nat) : Fld := ⟨R.STR_CYCCFG i, 0, 16⟩
def F.STR_CYCCFG_NSLOTS (i : Nat) : Fld := ⟨R.STR_CYCCFG i, 16, 7⟩
def F.STR_SLOTTIM_SLOTLEN (i : Nat) : Fld := ⟨R.STR_SLOTTIM i, 0, 12⟩
def F.STR_SLOTTIM_APO (i : Nat) : Fld := ⟨R.STR_SLOTTIM i, 16, 12⟩
def F.STR_WINCFG_SYNCW (i : Nat) : Fld := ⟨R.STR_WINCFG i, 0, 12⟩
def F.STR_WINCFG_ACCW (i : Nat) : Fld := ⟨R.STR_WINCFG i, 16, 12⟩
def F.STR_SYNCCFG_OCLIM (i : Nat) : Fld := ⟨R.STR_SYNCCFG i, 0, 10⟩
def F.STR_SYNCCFG_RCLIM (i : Nat) : Fld := ⟨R.STR_SYNCCFG i, 10, 12⟩
def F.STR_SYNCCFG_SYNCMIN (i : Nat) : Fld := ⟨R.STR_SYNCCFG i, 22, 4⟩
def F.STR_SYNCCFG_RECOV (i : Nat) : Fld := ⟨R.STR_SYNCCFG i, 26, 4⟩
def F.STR_STRTCFG_DELAYCOMP (i : Nat) : Fld := ⟨R.STR_STRTCFG i, 0, 8⟩
def F.STR_STRTCFG_LISTEN (i : Nat) : Fld := ⟨R.STR_STRTCFG i, 8, 4⟩
def F.STR_MACDST_L_ADDR (i : Nat) : Fld := ⟨R.STR_MACDST_L i, 0, 32⟩
def F.STR_MACDST_H_ADDR (i : Nat) : Fld := ⟨R.STR_MACDST_H i, 0, 16⟩
def F.STR_MACSRC_L_ADDR (i : Nat) : Fld := ⟨R.STR_MACSRC_L i, 0, 32⟩
def F.STR_MACSRC_H_ADDR (i : Nat) : Fld := ⟨R.STR_MACSRC_H i, 0, 16⟩
def F.STR_PSTAT_STATE (i : Nat) : Fld := ⟨R.STR_PSTAT i, 0, 3⟩
def F.STR_PSTAT_CSATT (i : Nat) : Fld := ⟨R.STR_PSTAT i, 4, 2⟩
def F.STR_PSTAT_NSYNC (i : Nat) : Fld := ⟨R.STR_PSTAT i, 8, 4⟩
def F.STR_PSTAT_CFGERR (i : Nat) : Fld := ⟨R.STR_PSTAT i, 12, 1⟩
def F.STR_PSTAT_PASSCAUSE (i : Nat) : Fld := ⟨R.STR_PSTAT i, 16, 2⟩
def F.STR_CYCCNT_CYCLE (i : Nat) : Fld := ⟨R.STR_CYCCNT i, 0, 32⟩
def F.STR_MTCNT_MT (i : Nat) : Fld := ⟨R.STR_MTCNT i, 0, 16⟩
def F.STR_OCORR_VALUE (i : Nat) : Fld := ⟨R.STR_OCORR i, 0, 32⟩
def F.STR_RTERM_VALUE (i : Nat) : Fld := ⟨R.STR_RTERM i, 0, 32⟩
def F.STR_RXOK_COUNT (i : Nat) : Fld := ⟨R.STR_RXOK i, 0, 32⟩
def F.STR_RXDISC_COUNT (i : Nat) : Fld := ⟨R.STR_RXDISC i, 0, 32⟩
def F.STR_TXCNT_COUNT (i : Nat) : Fld := ⟨R.STR_TXCNT i, 0, 32⟩
def F.STR_STRANGER_COUNT (i : Nat) : Fld := ⟨R.STR_STRANGER i, 0, 32⟩
def F.STR_TXFAIL_DEFER (i : Nat) : Fld := ⟨R.STR_TXFAIL i, 0, 16⟩
def F.STR_TXFAIL_COLL (i : Nat) : Fld := ⟨R.STR_TXFAIL i, 16, 16⟩
def F.STR_PASSCNT_PASSIVE (i : Nat) : Fld := ⟨R.STR_PASSCNT i, 0, 16⟩
def F.STR_PASSCNT_RESTART (i : Nat) : Fld := ⟨R.STR_PASSCNT i, 16, 16⟩
def F.STR_RXQ_SLOT (i : Nat) : Fld := ⟨R.STR_RXQ i, 0, 6⟩
def F.STR_RXQ_CYC (i : Nat) : Fld := ⟨R.STR_RXQ i, 8, 8⟩
def F.STR_RXQ_DEPTH (i : Nat) : Fld := ⟨R.STR_RXQ i, 16, 5⟩
def F.STR_RXQ_OVF (i : Nat) : Fld := ⟨R.STR_RXQ i, 30, 1⟩
def F.STR_RXQ_VALID (i : Nat) : Fld := ⟨R.STR_RXQ i, 31, 1⟩
def F.STR_CPT_MT (i : Nat) : Fld := ⟨R.STR_CPT i, 0, 16⟩
def F.STR_CPT_PORT (i : Nat) : Fld := ⟨R.STR_CPT i, 16, 1⟩
def F.STR_CPT_EN (i : Nat) : Fld := ⟨R.STR_CPT i, 17, 1⟩
def F.STR_TXRDY_XL_READY : Fld := ⟨R.STR_TXRDY_XL, 0, 32⟩
def F.STR_TXRDY_XH_READY : Fld := ⟨R.STR_TXRDY_XH, 0, 32⟩
def F.STR_TXRDY_YL_READY : Fld := ⟨R.STR_TXRDY_YL, 0, 32⟩
def F.STR_TXRDY_YH_READY : Fld := ⟨R.STR_TXRDY_YH, 0, 32⟩
def F.STR_SAFEQ_MSG : Fld := ⟨R.STR_SAFEQ, 0, 6⟩
def F.STR_SAFEQ_DEPTH : Fld := ⟨R.STR_SAFEQ, 16, 5⟩
def F.STR_SAFEQ_OVF : Fld := ⟨R.STR_SAFEQ, 30, 1⟩
def F.STR_SAFEQ_VALID : Fld := ⟨R.STR_SAFEQ, 31, 1⟩
def F.STR_SAFEOK_COUNT : Fld := ⟨R.STR_SAFEOK, 0, 32⟩
def F.STR_SAFEERR_DIS : Fld := ⟨R.STR_SAFEERR, 0, 8⟩
def F.STR_SAFEERR_MISS : Fld := ⟨R.STR_SAFEERR, 8, 8⟩
def F.STR_SAFEERR_SEQ : Fld := ⟨R.STR_SAFEERR, 16, 8⟩
def F.STR_SAFEERR_GAP : Fld := ⟨R.STR_SAFEERR, 24, 8⟩
def F.STR_SAFECFG_PAIRTMO : Fld := ⟨R.STR_SAFECFG, 0, 16⟩
def F.STR_PEERCYC_CYCLE : Fld := ⟨R.STR_PEERCYC, 0, 32⟩
def F.STR_PEERCORR_NS : Fld := ⟨R.STR_PEERCORR, 0, 32⟩
def F.CAN_NBT_BRP (u : Nat) : Fld := ⟨R.CAN_NBT u, 0, 6⟩
def F.CAN_NBT_TSEG1 (u : Nat) : Fld := ⟨R.CAN_NBT u, 8, 8⟩
def F.CAN_NBT_TSEG2 (u : Nat) : Fld := ⟨R.CAN_NBT u, 16, 7⟩
def F.CAN_NBT_SJW (u : Nat) : Fld := ⟨R.CAN_NBT u, 24, 7⟩
def F.CAN_DBT_BRP (u : Nat) : Fld := ⟨R.CAN_DBT u, 0, 6⟩
def F.CAN_DBT_TSEG1 (u : Nat) : Fld := ⟨R.CAN_DBT u, 8, 5⟩
def F.CAN_DBT_TSEG2 (u : Nat) : Fld := ⟨R.CAN_DBT u, 16, 4⟩
def F.CAN_DBT_SJW (u : Nat) : Fld := ⟨R.CAN_DBT u, 24, 4⟩
def F.CAN_MODE_FDEN (u : Nat) : Fld := ⟨R.CAN_MODE u, 0, 1⟩
def F.CAN_MODE_LISTEN (u : Nat) : Fld := ⟨R.CAN_MODE u, 1, 1⟩
def F.CAN_MODE_LOOP (u : Nat) : Fld := ⟨R.CAN_MODE u, 2, 1⟩
def F.CAN_MODE_ARECOV (u : Nat) : Fld := ⟨R.CAN_MODE u, 3, 1⟩
def F.CAN_MODE_ONESHOT (u : Nat) : Fld := ⟨R.CAN_MODE u, 4, 1⟩
def F.CAN_MODE_TDCEN (u : Nat) : Fld := ⟨R.CAN_MODE u, 5, 1⟩
def F.CAN_MODE_TDCO (u : Nat) : Fld := ⟨R.CAN_MODE u, 8, 7⟩
def F.CAN_ECNT_TEC (u : Nat) : Fld := ⟨R.CAN_ECNT u, 0, 8⟩
def F.CAN_ECNT_REC (u : Nat) : Fld := ⟨R.CAN_ECNT u, 8, 8⟩
def F.CAN_ECNT_STATE (u : Nat) : Fld := ⟨R.CAN_ECNT u, 16, 2⟩
def F.CAN_TXREQ_BUF (u : Nat) : Fld := ⟨R.CAN_TXREQ u, 0, 8⟩
def F.CAN_TXABORT_BUF (u : Nat) : Fld := ⟨R.CAN_TXABORT u, 0, 8⟩
def F.CAN_TXDONE_SENT (u : Nat) : Fld := ⟨R.CAN_TXDONE u, 0, 8⟩
def F.CAN_TXDONE_ABORTED (u : Nat) : Fld := ⟨R.CAN_TXDONE u, 8, 8⟩
def F.CAN_RXSTAT_LEVEL (u : Nat) : Fld := ⟨R.CAN_RXSTAT u, 0, 6⟩
def F.CAN_RXSTAT_OVF (u : Nat) : Fld := ⟨R.CAN_RXSTAT u, 16, 16⟩
def F.CAN_RXPOP_POP (u : Nat) : Fld := ⟨R.CAN_RXPOP u, 0, 1⟩
def F.CAN_TSCNT_US (u : Nat) : Fld := ⟨R.CAN_TSCNT u, 0, 16⟩
def F.CAN_FID_ID (u i : Nat) : Fld := ⟨R.CAN_FID u i, 0, 29⟩
def F.CAN_FID_XTD (u i : Nat) : Fld := ⟨R.CAN_FID u i, 29, 1⟩
def F.CAN_FID_EN (u i : Nat) : Fld := ⟨R.CAN_FID u i, 31, 1⟩
def F.CAN_FMASK_MASK (u i : Nat) : Fld := ⟨R.CAN_FMASK u i, 0, 29⟩
def F.ETH_MACCFG_SPEED : Fld := ⟨R.ETH_MACCFG, 0, 2⟩
def F.ETH_MACCFG_TXDLY : Fld := ⟨R.ETH_MACCFG, 4, 1⟩
def F.ETH_MACCFG_RXDLY : Fld := ⟨R.ETH_MACCFG, 5, 1⟩
def F.ETH_MACCFG_PROMISC : Fld := ⟨R.ETH_MACCFG, 8, 1⟩
def F.ETH_MACADDR_L_ADDR : Fld := ⟨R.ETH_MACADDR_L, 0, 32⟩
def F.ETH_MACADDR_H_ADDR : Fld := ⟨R.ETH_MACADDR_H, 0, 16⟩
def F.ETH_TXRING_BASE : Fld := ⟨R.ETH_TXRING, 0, 32⟩
def F.ETH_RXRING_BASE : Fld := ⟨R.ETH_RXRING, 0, 32⟩
def F.ETH_RINGLEN_TXN : Fld := ⟨R.ETH_RINGLEN, 0, 9⟩
def F.ETH_RINGLEN_RXN : Fld := ⟨R.ETH_RINGLEN, 16, 9⟩
def F.ETH_TXPOLL_POLL : Fld := ⟨R.ETH_TXPOLL, 0, 1⟩
def F.ETH_MDIO_REG : Fld := ⟨R.ETH_MDIO, 0, 5⟩
def F.ETH_MDIO_PHYAD : Fld := ⟨R.ETH_MDIO, 5, 5⟩
def F.ETH_MDIO_WRITE : Fld := ⟨R.ETH_MDIO, 10, 1⟩
def F.ETH_MDIO_GO : Fld := ⟨R.ETH_MDIO, 15, 1⟩
def F.ETH_MDIO_DATA : Fld := ⟨R.ETH_MDIO, 16, 16⟩
def F.ETH_PTPNS_NS : Fld := ⟨R.ETH_PTPNS, 0, 30⟩
def F.ETH_PTPSEC_SEC : Fld := ⟨R.ETH_PTPSEC, 0, 32⟩
def F.ETH_PTPINCR_INCR : Fld := ⟨R.ETH_PTPINCR, 0, 32⟩
def F.ETH_PTPADJ_NS : Fld := ⟨R.ETH_PTPADJ, 0, 32⟩
def F.HSPI_HWBASE_BASE (i : Nat) : Fld := ⟨R.HSPI_HWBASE i, 12, 20⟩
def F.HSPI_HWCFG_SIZE (i : Nat) : Fld := ⟨R.HSPI_HWCFG i, 0, 12⟩
def F.HSPI_HWCFG_RD (i : Nat) : Fld := ⟨R.HSPI_HWCFG i, 16, 1⟩
def F.HSPI_HWCFG_WR (i : Nat) : Fld := ⟨R.HSPI_HWCFG i, 17, 1⟩
def F.HSPI_HCNT_EXEC : Fld := ⟨R.HSPI_HCNT, 0, 16⟩
def F.HSPI_HCNT_REFUSED : Fld := ⟨R.HSPI_HCNT, 16, 16⟩
def F.HSPI_HLAST_STAT : Fld := ⟨R.HSPI_HLAST, 0, 8⟩
def F.HSPI_HLAST_CMD : Fld := ⟨R.HSPI_HLAST, 8, 8⟩
def F.HSPI_HADDR_ADDR : Fld := ⟨R.HSPI_HADDR, 0, 32⟩
def F.WAKE_WCFG_ADDR : Fld := ⟨R.WAKE_WCFG, 0, 7⟩
def F.WAKE_WCFG_EN : Fld := ⟨R.WAKE_WCFG, 8, 1⟩
def F.WAKE_WCODE_CODE : Fld := ⟨R.WAKE_WCODE, 0, 8⟩
def F.WAKE_WCODE_RCVD : Fld := ⟨R.WAKE_WCODE, 8, 8⟩
def F.WAKE_WSTAT_NEW : Fld := ⟨R.WAKE_WSTAT, 0, 1⟩
def F.WAKE_WSTAT_OVR : Fld := ⟨R.WAKE_WSTAT, 1, 1⟩
def F.GPIO_GDIR_OUT : Fld := ⟨R.GPIO_GDIR, 0, 16⟩
def F.GPIO_GOUT_LVL : Fld := ⟨R.GPIO_GOUT, 0, 16⟩
def F.GPIO_GOUTSET_SET : Fld := ⟨R.GPIO_GOUTSET, 0, 16⟩
def F.GPIO_GOUTCLR_CLR : Fld := ⟨R.GPIO_GOUTCLR, 0, 16⟩
def F.GPIO_GIN_LVL : Fld := ⟨R.GPIO_GIN, 0, 16⟩
def F.GPIO_GODR_OD : Fld := ⟨R.GPIO_GODR, 0, 16⟩
def F.GPIO_GPULL_PULL (m : Nat) : Fld := ⟨R.GPIO_GPULL, 2 * m, 2⟩
def F.GPIO_GEDGE_EDGE (m : Nat) : Fld := ⟨R.GPIO_GEDGE, 2 * m, 2⟩
def F.GPIO_GEVT_EVT : Fld := ⟨R.GPIO_GEVT, 0, 16⟩
def F.GPIO_GCFG_FLT : Fld := ⟨R.GPIO_GCFG, 0, 8⟩
def F.BSAFE_SCFG_DMDTMO : Fld := ⟨R.BSAFE_SCFG, 0, 8⟩
def F.BSAFE_SCFG_PATHTOL : Fld := ⟨R.BSAFE_SCFG, 8, 8⟩
def F.BSAFE_TPCFG_TPW : Fld := ⟨R.BSAFE_TPCFG, 0, 8⟩
def F.BSAFE_TPCFG_TPPER : Fld := ⟨R.BSAFE_TPCFG, 8, 8⟩
def F.BSAFE_TPCFG_TPEN : Fld := ⟨R.BSAFE_TPCFG, 16, 8⟩
def F.BSAFE_SOTCFG_SOTPW : Fld := ⟨R.BSAFE_SOTCFG, 0, 8⟩
def F.BSAFE_SOTCFG_SOTPER : Fld := ⟨R.BSAFE_SOTCFG, 8, 8⟩
def F.BSAFE_SISTAT_A (m : Nat) : Fld := ⟨R.BSAFE_SISTAT, 2 * m, 1⟩
def F.BSAFE_SISTAT_B (m : Nat) : Fld := ⟨R.BSAFE_SISTAT, 2 * m + 1, 1⟩
def F.BSAFE_SOSTAT_HWDMD : Fld := ⟨R.BSAFE_SOSTAT, 0, 8⟩
def F.BSAFE_SOSTAT_RBA : Fld := ⟨R.BSAFE_SOSTAT, 8, 8⟩
def F.BSAFE_SOSTAT_RBB : Fld := ⟨R.BSAFE_SOSTAT, 16, 8⟩
def F.BSAFE_SOSTAT_CMD : Fld := ⟨R.BSAFE_SOSTAT, 24, 8⟩
def F.BSAFE_PSTAT_DMD : Fld := ⟨R.BSAFE_PSTAT, 0, 8⟩
def F.BSAFE_PSTAT_INH : Fld := ⟨R.BSAFE_PSTAT, 8, 8⟩
def F.BSAFE_PSTAT_JOINA : Fld := ⟨R.BSAFE_PSTAT, 16, 1⟩
def F.BSAFE_PSTAT_JOINB : Fld := ⟨R.BSAFE_PSTAT, 17, 1⟩
def F.BSAFE_PSTAT_CURA : Fld := ⟨R.BSAFE_PSTAT, 18, 1⟩
def F.BSAFE_PSTAT_CURB : Fld := ⟨R.BSAFE_PSTAT, 19, 1⟩
def F.BSAFE_PSTAT_LDISA : Fld := ⟨R.BSAFE_PSTAT, 20, 1⟩
def F.BSAFE_PSTAT_LDISB : Fld := ⟨R.BSAFE_PSTAT, 21, 1⟩
def F.BSAFE_PSTAT_DTMOA : Fld := ⟨R.BSAFE_PSTAT, 22, 1⟩
def F.BSAFE_PSTAT_DTMOB : Fld := ⟨R.BSAFE_PSTAT, 23, 1⟩
def F.BSAFE_RSTCNT_ACC : Fld := ⟨R.BSAFE_RSTCNT, 0, 10⟩
def F.BSAFE_RSTCNT_REFUSED : Fld := ⟨R.BSAFE_RSTCNT, 10, 10⟩
def F.BSAFE_RSTCNT_BADLEN : Fld := ⟨R.BSAFE_RSTCNT, 20, 10⟩
def F.BSAFE_TPSTAT_CMD : Fld := ⟨R.BSAFE_TPSTAT, 0, 8⟩
def F.BSAFE_TPSTAT_RB : Fld := ⟨R.BSAFE_TPSTAT, 8, 8⟩
def F.BSAFE_SICFG_FLT (i : Nat) : Fld := ⟨R.BSAFE_SICFG i, 0, 8⟩
def F.BSAFE_SICFG_TPSELA (i : Nat) : Fld := ⟨R.BSAFE_SICFG i, 8, 4⟩
def F.BSAFE_SICFG_TPSELB (i : Nat) : Fld := ⟨R.BSAFE_SICFG i, 12, 4⟩
def F.BSAFE_EVCFG_TYPE (i : Nat) : Fld := ⟨R.BSAFE_EVCFG i, 0, 3⟩
def F.BSAFE_EVCFG_RSTM (i : Nat) : Fld := ⟨R.BSAFE_EVCFG i, 3, 1⟩
def F.BSAFE_EVCFG_INP0 (i : Nat) : Fld := ⟨R.BSAFE_EVCFG i, 8, 4⟩
def F.BSAFE_EVCFG_INP1 (i : Nat) : Fld := ⟨R.BSAFE_EVCFG i, 12, 4⟩
def F.BSAFE_EVCFG_RSTSRC (i : Nat) : Fld := ⟨R.BSAFE_EVCFG i, 16, 5⟩
def F.BSAFE_EVCFG_DISC (i : Nat) : Fld := ⟨R.BSAFE_EVCFG i, 24, 8⟩
def F.BSAFE_EVOUT_OUTMASK (i : Nat) : Fld := ⟨R.BSAFE_EVOUT i, 0, 8⟩
def F.BSAFE_EVOUT_TPTOL (i : Nat) : Fld := ⟨R.BSAFE_EVOUT i, 16, 7⟩
def F.BSAFE_EVSTAT_STATE (i : Nat) : Fld := ⟨R.BSAFE_EVSTAT i, 0, 3⟩
def F.BSAFE_EVSTAT_CAUSE (i : Nat) : Fld := ⟨R.BSAFE_EVSTAT i, 4, 4⟩
def F.BSAFE_EVSTAT_DISCRUN (i : Nat) : Fld := ⟨R.BSAFE_EVSTAT i, 8, 1⟩
def F.BSAFE_EVCNT_LOCKOUTS (i : Nat) : Fld := ⟨R.BSAFE_EVCNT i, 0, 16⟩
def F.BSAFE_EVCNT_DEMANDS (i : Nat) : Fld := ⟨R.BSAFE_EVCNT i, 16, 16⟩
def F.SYS_SDEMAND_DMD : Fld := ⟨R.SYS_SDEMAND, 0, 8⟩
def F.SYS_SDEMAND_DMDN : Fld := ⟨R.SYS_SDEMAND, 8, 8⟩
def F.SYS_SDEMAND_INH : Fld := ⟨R.SYS_SDEMAND, 16, 8⟩
def F.SYS_SDEMAND_INHN : Fld := ⟨R.SYS_SDEMAND, 24, 8⟩
def F.SYS_SIMIR_A (m : Nat) : Fld := ⟨R.SYS_SIMIR, 2 * m, 1⟩
def F.SYS_SIMIR_B (m : Nat) : Fld := ⟨R.SYS_SIMIR, 2 * m + 1, 1⟩
def F.SYS_SOMIR_SOA : Fld := ⟨R.SYS_SOMIR, 0, 8⟩
def F.SYS_SOMIR_SOB : Fld := ⟨R.SYS_SOMIR, 8, 8⟩
def F.SYS_SOMIR_SRST : Fld := ⟨R.SYS_SOMIR, 16, 1⟩
def F.SYS_SOMIR_TP : Fld := ⟨R.SYS_SOMIR, 24, 8⟩
def F.FLT_FLTCFG_THRESH : Fld := ⟨R.FLT_FLTCFG, 0, 3⟩
def F.FLT_FLTCFG_SHADOW : Fld := ⟨R.FLT_FLTCFG, 16, 13⟩
def F.FLT_FIRST_SRC : Fld := ⟨R.FLT_FIRST, 0, 8⟩
def F.FLT_PFIRST_SRC : Fld := ⟨R.FLT_PFIRST, 0, 8⟩
def F.FLT_FIRST_SEV : Fld := ⟨R.FLT_FIRST, 8, 3⟩
def F.FLT_PFIRST_SEV : Fld := ⟨R.FLT_PFIRST, 8, 3⟩
def F.FLT_FIRST_VALID : Fld := ⟨R.FLT_FIRST, 15, 1⟩
def F.FLT_PFIRST_VALID : Fld := ⟨R.FLT_PFIRST, 15, 1⟩
def F.FLT_FIRST_SAME : Fld := ⟨R.FLT_FIRST, 16, 8⟩
def F.FLT_PFIRST_SAME : Fld := ⟨R.FLT_PFIRST, 16, 8⟩
def F.FLT_FIRSTT_TIME : Fld := ⟨R.FLT_FIRSTT, 0, 32⟩
def F.FLT_PFIRSTT_TIME : Fld := ⟨R.FLT_PFIRSTT, 0, 32⟩
def F.FLT_CLRCMD_SRC : Fld := ⟨R.FLT_CLRCMD, 0, 8⟩
def F.FLT_CLRCMD_OP : Fld := ⟨R.FLT_CLRCMD, 8, 2⟩
def F.FLT_CLRSTAT_SRC : Fld := ⟨R.FLT_CLRSTAT, 0, 8⟩
def F.FLT_CLRSTAT_OP : Fld := ⟨R.FLT_CLRSTAT, 8, 2⟩
def F.FLT_CLRSTAT_RESULT : Fld := ⟨R.FLT_CLRSTAT, 12, 2⟩
def F.FLT_CLRSTAT_REFUSED : Fld := ⟨R.FLT_CLRSTAT, 16, 16⟩
def F.FLT_WIRESTAT_SRC : Fld := ⟨R.FLT_WIRESTAT, 0, 8⟩
def F.FLT_WIRESTAT_NOW : Fld := ⟨R.FLT_WIRESTAT, 8, 1⟩
def F.FLT_WIRESTAT_COUNT : Fld := ⟨R.FLT_WIRESTAT, 16, 16⟩
def F.FLT_LOGSTAT_NEXT : Fld := ⟨R.FLT_LOGSTAT, 0, 6⟩
def F.FLT_LOGSTAT_WRAPS : Fld := ⟨R.FLT_LOGSTAT, 16, 16⟩
def F.FLT_PEERLAST_SRC : Fld := ⟨R.FLT_PEERLAST, 0, 8⟩
def F.FLT_PEERLAST_SEV : Fld := ⟨R.FLT_PEERLAST, 8, 3⟩
def F.FLT_PEERLAST_COUNT : Fld := ⟨R.FLT_PEERLAST, 16, 16⟩
def F.FLT_ACT_W (i : Nat) : Fld := ⟨R.FLT_ACT i, 0, 32⟩
def F.FLT_ACK_W (i : Nat) : Fld := ⟨R.FLT_ACK i, 0, 32⟩
def F.FLT_LIVE_W (i : Nat) : Fld := ⟨R.FLT_LIVE i, 0, 32⟩
def F.FLT_LOGE_SRC (i : Nat) : Fld := ⟨R.FLT_LOGE i, 0, 8⟩
def F.FLT_LOGE_SEV (i : Nat) : Fld := ⟨R.FLT_LOGE i, 8, 3⟩
def F.FLT_LOGE_BASE (i : Nat) : Fld := ⟨R.FLT_LOGE i, 12, 3⟩
def F.FLT_LOGE_COUNTED (i : Nat) : Fld := ⟨R.FLT_LOGE i, 16, 1⟩
def F.FLT_LOGE_ESC (i : Nat) : Fld := ⟨R.FLT_LOGE i, 17, 1⟩
def F.FLT_LOGE_CONSQ (i : Nat) : Fld := ⟨R.FLT_LOGE i, 18, 1⟩
def F.FLT_LOGE_SAMECYC (i : Nat) : Fld := ⟨R.FLT_LOGE i, 19, 1⟩
def F.FLT_LOGE_OPENER (i : Nat) : Fld := ⟨R.FLT_LOGE i, 24, 8⟩
def F.FLT_SSTAT_LEVEL (i : Nat) : Fld := ⟨R.FLT_SSTAT i, 0, 4⟩
def F.FLT_SSTAT_STATE (i : Nat) : Fld := ⟨R.FLT_SSTAT i, 4, 2⟩
def F.FLT_SSTAT_ACTSEV (i : Nat) : Fld := ⟨R.FLT_SSTAT i, 8, 3⟩
def F.FLT_SSTAT_LIVE (i : Nat) : Fld := ⟨R.FLT_SSTAT i, 12, 1⟩
def F.FLT_SSTAT_MASKED (i : Nat) : Fld := ⟨R.FLT_SSTAT i, 13, 1⟩
def F.FLT_SSTAT_FENCING (i : Nat) : Fld := ⟨R.FLT_SSTAT i, 14, 1⟩
def F.FLT_SSTAT_CLASS (i : Nat) : Fld := ⟨R.FLT_SSTAT i, 16, 4⟩
def F.FLT_SRCCFG_SEV (i : Nat) : Fld := ⟨R.FLT_SRCCFG i, 0, 3⟩
def F.FLT_SRCCFG_CSEV (i : Nat) : Fld := ⟨R.FLT_SRCCFG i, 4, 3⟩
def F.FLT_SRCCFG_ESC (i : Nat) : Fld := ⟨R.FLT_SRCCFG i, 7, 1⟩
def F.FLT_SRCCFG_CNTN (i : Nat) : Fld := ⟨R.FLT_SRCCFG i, 8, 4⟩
def F.FLT_SRCCFG_GROUP (i : Nat) : Fld := ⟨R.FLT_SRCCFG i, 12, 4⟩
def F.FLT_SRCCFG_CNTW (i : Nat) : Fld := ⟨R.FLT_SRCCFG i, 16, 16⟩
def F.FLT_DEPMASK_MASK (i : Nat) : Fld := ⟨R.FLT_DEPMASK i, 0, 16⟩
def F.XFR_XSTAT_LAST : Fld := ⟨R.XFR_XSTAT, 0, 4⟩
def F.XFR_XSTAT_BUSY : Fld := ⟨R.XFR_XSTAT, 4, 1⟩
def F.XFR_XSTAT_READY : Fld := ⟨R.XFR_XSTAT, 16, 16⟩
def F.XFR_XBYTES_LO_COUNT : Fld := ⟨R.XFR_XBYTES_LO, 0, 32⟩
def F.XFR_XBYTES_HI_COUNT : Fld := ⟨R.XFR_XBYTES_HI, 0, 32⟩
def F.XFR_CHCTRL_EN (i : Nat) : Fld := ⟨R.XFR_CHCTRL i, 0, 1⟩
def F.XFR_CHCTRL_PRIO (i : Nat) : Fld := ⟨R.XFR_CHCTRL i, 1, 3⟩
def F.XFR_CHCTRL_BADMSG (i : Nat) : Fld := ⟨R.XFR_CHCTRL i, 4, 1⟩
def F.XFR_CHRBASE_BASE (i : Nat) : Fld := ⟨R.XFR_CHRBASE i, 0, 32⟩
def F.XFR_CHRLEN_N (i : Nat) : Fld := ⟨R.XFR_CHRLEN i, 0, 9⟩
def F.XFR_CHKICK_KICK (i : Nat) : Fld := ⟨R.XFR_CHKICK i, 0, 1⟩
def F.XFR_CHSTAT_STATE (i : Nat) : Fld := ⟨R.XFR_CHSTAT i, 0, 3⟩
def F.XFR_CHSTAT_IDX (i : Nat) : Fld := ⟨R.XFR_CHSTAT i, 8, 8⟩
def F.XFR_CHSTAT_EXTRA (i : Nat) : Fld := ⟨R.XFR_CHSTAT i, 16, 16⟩
def F.XFR_CHPOS_DONE (i : Nat) : Fld := ⟨R.XFR_CHPOS i, 0, 24⟩
def F.XFR_CHCNT_OK (i : Nat) : Fld := ⟨R.XFR_CHCNT i, 0, 16⟩
def F.XFR_CHCNT_BAD (i : Nat) : Fld := ⟨R.XFR_CHCNT i, 16, 16⟩
def F.CLK_CORECLK_FSEL : Fld := ⟨R.CLK_CORECLK, 0, 2⟩
def F.CLK_CLKSTAT_XTALOK : Fld := ⟨R.CLK_CLKSTAT, 0, 1⟩
def F.CLK_CLKSTAT_XTALFB : Fld := ⟨R.CLK_CLKSTAT, 1, 1⟩
def F.CLK_CLKSTAT_LOCK : Fld := ⟨R.CLK_CLKSTAT, 2, 3⟩
def F.CLK_CLKSTAT_FBUSY : Fld := ⟨R.CLK_CLKSTAT, 5, 1⟩
def F.CLK_CLKSTAT_CURF : Fld := ⟨R.CLK_CLKSTAT, 8, 2⟩
def F.CLK_CLKSTAT_XTALCNT : Fld := ⟨R.CLK_CLKSTAT, 16, 16⟩
def F.CLK_MONSTAT_OFFNOM : Fld := ⟨R.CLK_MONSTAT, 0, 12⟩
def F.PWR_PSREQ_TARGET : Fld := ⟨R.PWR_PSREQ, 0, 2⟩
def F.PWR_PSTAT_STATE : Fld := ⟨R.PWR_PSTAT, 0, 3⟩
def F.PWR_PSTAT_CONSENT : Fld := ⟨R.PWR_PSTAT, 4, 1⟩
def F.PWR_COREV_VSEL : Fld := ⟨R.PWR_COREV, 0, 2⟩
def F.PWR_VSTAT_CURV : Fld := ⟨R.PWR_VSTAT, 0, 2⟩
def F.PWR_VSTAT_SETTLED : Fld := ⟨R.PWR_VSTAT, 4, 1⟩
def F.PWR_PSCFG_WFITMO : Fld := ⟨R.PWR_PSCFG, 0, 10⟩
def F.PWR_PSCNT_REFUSED : Fld := ⟨R.PWR_PSCNT, 0, 16⟩
def F.PWR_PSCNT_ABORTED : Fld := ⟨R.PWR_PSCNT, 16, 16⟩
def F.PWR_PSLAST_REFUSER : Fld := ⟨R.PWR_PSLAST, 0, 24⟩
def F.PWR_PSLAST_REASON : Fld := ⟨R.PWR_PSLAST, 24, 2⟩
def F.PWR_PSLAST_TARGET : Fld := ⟨R.PWR_PSLAST, 28, 2⟩
def F.PWR_OPREF_COUNT : Fld := ⟨R.PWR_OPREF, 0, 16⟩
def F.PWR_OPREF_REG : Fld := ⟨R.PWR_OPREF, 16, 1⟩
def F.PWR_OPREF_VAL : Fld := ⟨R.PWR_OPREF, 18, 2⟩
def F.PWR_OPREF_OTHER : Fld := ⟨R.PWR_OPREF, 20, 2⟩
def F.PWR_RSTCAUSE_KIND : Fld := ⟨R.PWR_RSTCAUSE, 0, 3⟩
def F.PWR_RSTCAUSE_LSRC : Fld := ⟨R.PWR_RSTCAUSE, 4, 2⟩
def F.PWR_RSTHIST_SEEN : Fld := ⟨R.PWR_RSTHIST, 0, 5⟩
def F.PWR_RSTCMD_KIND : Fld := ⟨R.PWR_RSTCMD, 0, 2⟩
def F.PWR_RSTCMD_KEY : Fld := ⟨R.PWR_RSTCMD, 8, 8⟩
def F.PWR_PEERWAKE_KEY : Fld := ⟨R.PWR_PEERWAKE, 0, 8⟩
def F.PWR_WAKEEN_EN : Fld := ⟨R.PWR_WAKEEN, 0, 8⟩
def F.PWR_WAKEEN_WPOL : Fld := ⟨R.PWR_WAKEEN, 8, 4⟩
def F.PWR_WAKESTAT_SRC : Fld := ⟨R.PWR_WAKESTAT, 0, 8⟩
def F.PWR_WAKESTAT_XTALFB : Fld := ⟨R.PWR_WAKESTAT, 8, 1⟩
def F.PWR_WAKESTAT_WAKEFAIL : Fld := ⟨R.PWR_WAKESTAT, 9, 1⟩
def F.PWR_WAKESTAT_STEP : Fld := ⟨R.PWR_WAKESTAT, 10, 2⟩
def F.PWR_WAKESTAT_LOSTCNT : Fld := ⟨R.PWR_WAKESTAT, 16, 8⟩
def F.PWR_WAKESTAT_FAILCNT : Fld := ⟨R.PWR_WAKESTAT, 24, 8⟩
def F.PWR_LOSTBANK_L_LOST : Fld := ⟨R.PWR_LOSTBANK_L, 0, 32⟩
def F.PWR_LOSTBANK_H_LOST : Fld := ⟨R.PWR_LOSTBANK_H, 0, 32⟩
def F.PWR_RETMASK_L_RET : Fld := ⟨R.PWR_RETMASK_L, 0, 32⟩
def F.PWR_RETMASK_H_RET : Fld := ⟨R.PWR_RETMASK_H, 0, 32⟩
def F.PWR_CRCMP_VALUE : Fld := ⟨R.PWR_CRCMP, 0, 32⟩
def F.PWR_CRCNT_LO_COUNT : Fld := ⟨R.PWR_CRCNT_LO, 0, 32⟩
def F.PWR_CRCNT_HI_COUNT : Fld := ⟨R.PWR_CRCNT_HI, 0, 32⟩
def F.PWR_BANKSIG_SIG (i : Nat) : Fld := ⟨R.PWR_BANKSIG i, 0, 32⟩
def F.KILN_KCTRL_SAVEBANK : Fld := ⟨R.KILN_KCTRL, 0, 6⟩
def F.KILN_KCTRL_EN : Fld := ⟨R.KILN_KCTRL, 8, 1⟩
def F.KILN_KSTAT_STATE : Fld := ⟨R.KILN_KSTAT, 0, 3⟩
def F.KILN_KSTAT_SLICE : Fld := ⟨R.KILN_KSTAT, 8, 6⟩
def F.KILN_KSTAT_BLOCK : Fld := ⟨R.KILN_KSTAT, 16, 6⟩
def F.KILN_KSTAT_SKIP : Fld := ⟨R.KILN_KSTAT, 24, 1⟩
def F.KILN_KREC_RSTATE : Fld := ⟨R.KILN_KREC, 0, 3⟩
def F.KILN_KREC_PASSN : Fld := ⟨R.KILN_KREC, 8, 7⟩
def F.KILN_KREC_FAILN : Fld := ⟨R.KILN_KREC, 16, 7⟩
def F.KILN_KREC_NOTRUNN : Fld := ⟨R.KILN_KREC, 24, 7⟩
def F.KILN_KRUN_RUN : Fld := ⟨R.KILN_KRUN, 0, 32⟩
def F.KILN_KSLICE_RES (i : Nat) : Fld := ⟨R.KILN_KSLICE i, 0, 32⟩
def F.KILN_KFAIL_SLICE : Fld := ⟨R.KILN_KFAIL, 0, 6⟩
def F.KILN_KFAIL_VALID : Fld := ⟨R.KILN_KFAIL, 7, 1⟩
def F.KILN_KFAILMISR_MISR : Fld := ⟨R.KILN_KFAILMISR, 0, 32⟩
def F.KILN_KABORT_COUNT : Fld := ⟨R.KILN_KABORT, 0, 16⟩
def F.KILN_KABORT_LAST : Fld := ⟨R.KILN_KABORT, 16, 6⟩
def F.KILN_KTIME_US : Fld := ⟨R.KILN_KTIME, 0, 32⟩
def F.SYS_BOOTSTAT_PATH : Fld := ⟨R.SYS_BOOTSTAT, 0, 2⟩
def F.SYS_BOOTSTAT_SLOT : Fld := ⟨R.SYS_BOOTSTAT, 4, 1⟩
def F.SYS_BOOTSTAT_SERVICE : Fld := ⟨R.SYS_BOOTSTAT, 5, 1⟩
def F.SYS_BOOTSTAT_FAIL : Fld := ⟨R.SYS_BOOTSTAT, 8, 4⟩
def F.SYS_IMGSEQ_SEQ : Fld := ⟨R.SYS_IMGSEQ, 0, 32⟩
def F.SYS_BOOTTIME_US : Fld := ⟨R.SYS_BOOTTIME, 0, 32⟩
def F.SYS_MPADDR_ADDR : Fld := ⟨R.SYS_MPADDR, 0, 24⟩
def F.SYS_MPDATA_L_DATA : Fld := ⟨R.SYS_MPDATA_L, 0, 32⟩
def F.SYS_MPDATA_H_DATA : Fld := ⟨R.SYS_MPDATA_H, 0, 32⟩
def F.SYS_MPCMD_GO : Fld := ⟨R.SYS_MPCMD, 0, 1⟩
def F.SYS_MPCMD_KEY : Fld := ⟨R.SYS_MPCMD, 8, 8⟩
def F.SYS_MPSTAT_BUSY : Fld := ⟨R.SYS_MPSTAT, 0, 1⟩
def F.SYS_MPSTAT_RESULT : Fld := ⟨R.SYS_MPSTAT, 4, 2⟩
def F.SYS_MPSTAT_COUNT : Fld := ⟨R.SYS_MPSTAT, 16, 16⟩
def F.PMU_SMPCTL_EN : Fld := ⟨R.PMU_SMPCTL, 0, 1⟩
def F.PMU_SMPCTL_HARTS : Fld := ⟨R.PMU_SMPCTL, 4, 4⟩
def F.PMU_SMPCTL_STOPFULL : Fld := ⟨R.PMU_SMPCTL, 8, 1⟩
def F.PMU_SMPCTL_WMARK : Fld := ⟨R.PMU_SMPCTL, 16, 8⟩
def F.PMU_SMPINT_BASE : Fld := ⟨R.PMU_SMPINT, 0, 16⟩
def F.PMU_SMPINT_RMASK : Fld := ⟨R.PMU_SMPINT, 16, 16⟩
def F.PMU_SMPSEED_SEED : Fld := ⟨R.PMU_SMPSEED, 0, 16⟩
def F.PMU_SMPSTAT_COUNT : Fld := ⟨R.PMU_SMPSTAT, 0, 9⟩
def F.PMU_SMPSTAT_OVW : Fld := ⟨R.PMU_SMPSTAT, 16, 1⟩
def F.PMU_SMPSEL_IDX : Fld := ⟨R.PMU_SMPSEL, 0, 8⟩
def F.PMU_SMPACK_N : Fld := ⟨R.PMU_SMPACK, 0, 9⟩
def F.PMU_SMPSKIP_COUNT : Fld := ⟨R.PMU_SMPSKIP, 0, 32⟩
def F.PMU_HISTCFG_EN (i : Nat) : Fld := ⟨R.PMU_HISTCFG i, 0, 1⟩
def F.PMU_HISTCFG_FREEZE (i : Nat) : Fld := ⟨R.PMU_HISTCFG i, 1, 1⟩
def F.PMU_HISTCFG_SRC (i : Nat) : Fld := ⟨R.PMU_HISTCFG i, 2, 3⟩
def F.PMU_HISTCFG_SEL (i : Nat) : Fld := ⟨R.PMU_HISTCFG i, 8, 6⟩
def F.PMU_HISTCFG_IDENT (i : Nat) : Fld := ⟨R.PMU_HISTCFG i, 16, 8⟩
def F.PMU_HISTSTAT_SAT (i : Nat) : Fld := ⟨R.PMU_HISTSTAT i, 0, 1⟩
def F.PMU_HISTSTAT_MISSED (i : Nat) : Fld := ⟨R.PMU_HISTSTAT i, 16, 16⟩
def F.PMU_HISTCLR_CLR (i : Nat) : Fld := ⟨R.PMU_HISTCLR i, 0, 1⟩
def F.PMU_EDGE_E (i j : Nat) : Fld := ⟨R.PMU_EDGE i j, 0, 20⟩
def F.PMU_BIN_COUNT (i j : Nat) : Fld := ⟨R.PMU_BIN i j, 0, 32⟩
def F.PLC_DESC_0_CLASS (c : Nat) : Fld := ⟨R.PLC_DESC_0 c, 0, 3⟩
def F.PLC_DESC_0_PRIO (c : Nat) : Fld := ⟨R.PLC_DESC_0 c, 4, 4⟩
def F.PLC_DESC_0_DIV (c : Nat) : Fld := ⟨R.PLC_DESC_0 c, 8, 7⟩
def F.PLC_DESC_0_DOMAIN (c : Nat) : Fld := ⟨R.PLC_DESC_0 c, 16, 3⟩
def F.PLC_DESC_0_AUTHEN (c : Nat) : Fld := ⟨R.PLC_DESC_0 c, 19, 1⟩
def F.PLC_DESC_0_WARM (c : Nat) : Fld := ⟨R.PLC_DESC_0 c, 20, 1⟩
def F.PLC_DESC_0_MIRK (c : Nat) : Fld := ⟨R.PLC_DESC_0 c, 24, 8⟩
def F.PLC_DESC_1_ENTRY (c : Nat) : Fld := ⟨R.PLC_DESC_1 c, 0, 13⟩
def F.PLC_DESC_1_STWORDS (c : Nat) : Fld := ⟨R.PLC_DESC_1 c, 16, 7⟩
def F.PLC_DESC_1_NCOEF (c : Nat) : Fld := ⟨R.PLC_DESC_1 c, 24, 6⟩
def F.PLC_DESC_1_DBANK (c : Nat) : Fld := ⟨R.PLC_DESC_1 c, 30, 1⟩
def F.PLC_DESC_2_TFIRST (c : Nat) : Fld := ⟨R.PLC_DESC_2 c, 0, 8⟩
def F.PLC_DESC_2_TCOUNT (c : Nat) : Fld := ⟨R.PLC_DESC_2 c, 8, 5⟩
def F.PLC_DESC_3_SLOTLO (c : Nat) : Fld := ⟨R.PLC_DESC_3 c, 0, 6⟩
def F.PLC_DESC_3_SLOTHI (c : Nat) : Fld := ⟨R.PLC_DESC_3 c, 8, 6⟩
def F.PLC_DESC_3_SLANE (c : Nat) : Fld := ⟨R.PLC_DESC_3 c, 16, 2⟩
def F.PLC_DESC_3_SPAIR (c : Nat) : Fld := ⟨R.PLC_DESC_3 c, 20, 2⟩
def F.PLC_DESC_3_SLOAD (c : Nat) : Fld := ⟨R.PLC_DESC_3 c, 24, 7⟩
def F.PLC_DESC_4_FBMODE (c : Nat) : Fld := ⟨R.PLC_DESC_4 c, 0, 2⟩
def F.PLC_DESC_4_RSHIFT (c : Nat) : Fld := ⟨R.PLC_DESC_4 c, 8, 6⟩
def F.PLC_DESC_4_RSTEP (c : Nat) : Fld := ⟨R.PLC_DESC_4 c, 16, 16⟩
def F.PLC_DESC_5_RTARGET (c : Nat) : Fld := ⟨R.PLC_DESC_5 c, 0, 32⟩
def F.PLC_DESC_6_INITOFS (c : Nat) : Fld := ⟨R.PLC_DESC_6 c, 0, 21⟩
def F.PLC_DESC_7_TAG (c : Nat) : Fld := ⟨R.PLC_DESC_7 c, 0, 32⟩
def F.SCH_SCHX_DIR (i : Nat) : Fld := ⟨R.SCH_SCHX i, 0, 2⟩
def F.SCH_SCHY_DIR (i : Nat) : Fld := ⟨R.SCH_SCHY i, 0, 2⟩
def F.SCH_SCHX_SYNC (i : Nat) : Fld := ⟨R.SCH_SCHX i, 2, 1⟩
def F.SCH_SCHY_SYNC (i : Nat) : Fld := ⟨R.SCH_SCHY i, 2, 1⟩
def F.SCH_SCHX_KIND (i : Nat) : Fld := ⟨R.SCH_SCHX i, 3, 1⟩
def F.SCH_SCHY_KIND (i : Nat) : Fld := ⟨R.SCH_SCHY i, 3, 1⟩
def F.SCH_SCHX_LEN (i : Nat) : Fld := ⟨R.SCH_SCHX i, 4, 4⟩
def F.SCH_SCHY_LEN (i : Nat) : Fld := ⟨R.SCH_SCHY i, 4, 4⟩
def F.SCH_SCHX_SAFEID (i : Nat) : Fld := ⟨R.SCH_SCHX i, 8, 6⟩
def F.SCH_SCHY_SAFEID (i : Nat) : Fld := ⟨R.SCH_SCHY i, 8, 6⟩
def F.SCH_SCHX_NODE (i : Nat) : Fld := ⟨R.SCH_SCHX i, 16, 5⟩
def F.SCH_SCHY_NODE (i : Nat) : Fld := ⟨R.SCH_SCHY i, 16, 5⟩
def F.SCH_SCHX_NODECHK (i : Nat) : Fld := ⟨R.SCH_SCHX i, 21, 1⟩
def F.SCH_SCHY_NODECHK (i : Nat) : Fld := ⟨R.SCH_SCHY i, 21, 1⟩
def F.SCH_SCHX_NOTIFY (i : Nat) : Fld := ⟨R.SCH_SCHX i, 22, 1⟩
def F.SCH_SCHY_NOTIFY (i : Nat) : Fld := ⟨R.SCH_SCHY i, 22, 1⟩
def F.SCH_SCHX_AGEMAX (i : Nat) : Fld := ⟨R.SCH_SCHX i, 24, 8⟩
def F.SCH_SCHY_AGEMAX (i : Nat) : Fld := ⟨R.SCH_SCHY i, 24, 8⟩
def F.SCH_SSTX_AGE (i : Nat) : Fld := ⟨R.SCH_SSTX i, 0, 8⟩
def F.SCH_SSTY_AGE (i : Nat) : Fld := ⟨R.SCH_SSTY i, 0, 8⟩
def F.SCH_SSTX_SRCAGE (i : Nat) : Fld := ⟨R.SCH_SSTX i, 8, 8⟩
def F.SCH_SSTY_SRCAGE (i : Nat) : Fld := ⟨R.SCH_SSTY i, 8, 8⟩
def F.SCH_SSTX_CAUSE (i : Nat) : Fld := ⟨R.SCH_SSTX i, 16, 4⟩
def F.SCH_SSTY_CAUSE (i : Nat) : Fld := ⟨R.SCH_SSTY i, 16, 4⟩
def F.SCH_SSTX_READY (i : Nat) : Fld := ⟨R.SCH_SSTX i, 20, 1⟩
def F.SCH_SSTY_READY (i : Nat) : Fld := ⟨R.SCH_SSTY i, 20, 1⟩
def F.SCH_SSTX_CYC (i : Nat) : Fld := ⟨R.SCH_SSTX i, 24, 8⟩
def F.SCH_SSTY_CYC (i : Nat) : Fld := ⟨R.SCH_SSTY i, 24, 8⟩
def F.SCH_SAFERX_XSLOT (i : Nat) : Fld := ⟨R.SCH_SAFERX i, 0, 6⟩
def F.SCH_SAFERX_YSLOT (i : Nat) : Fld := ⟨R.SCH_SAFERX i, 8, 6⟩
def F.SCH_SAFERX_EN (i : Nat) : Fld := ⟨R.SCH_SAFERX i, 16, 1⟩
def F.SCH_SAFERX_SINGLE (i : Nat) : Fld := ⟨R.SCH_SAFERX i, 17, 1⟩
def F.SCH_SAFERX_NOTIFY (i : Nat) : Fld := ⟨R.SCH_SAFERX i, 18, 1⟩
def F.SCH_SAFERX_SEQWIN (i : Nat) : Fld := ⟨R.SCH_SAFERX i, 24, 8⟩
def F.SCH_SAFEST_LASTSEQ (i : Nat) : Fld := ⟨R.SCH_SAFEST i, 0, 24⟩
def F.SCH_SAFEST_CAUSE (i : Nat) : Fld := ⟨R.SCH_SAFEST i, 24, 4⟩
def F.SCH_SAFEST_REF (i : Nat) : Fld := ⟨R.SCH_SAFEST i, 28, 1⟩
def F.SNS_SLOTST_0_START0 (i : Nat) : Fld := ⟨R.SNS_SLOTST_0 i, 0, 10⟩
def F.SNS_SLOTST_0_START1 (i : Nat) : Fld := ⟨R.SNS_SLOTST_0 i, 16, 10⟩
def F.SNS_SLOTST_1_START0 (i : Nat) : Fld := ⟨R.SNS_SLOTST_1 i, 0, 10⟩
def F.SNS_SLOTST_1_START1 (i : Nat) : Fld := ⟨R.SNS_SLOTST_1 i, 16, 10⟩

/-- A message register has the layout of IRQMSG (R65): IDENTITY. -/
def F.identity (r : Nat) : Fld := ⟨r, 0, 8⟩
/-- A message register has the layout of IRQMSG (R65): HART. -/
def F.hart (r : Nat) : Fld := ⟨r, 16, 8⟩

end Sys2Proof.Machine
end

