-- ==== Sys2Proof/Machine/RegRows.lean ====
section
/-!
DEFINITION. What the register and field tables of spec/ say of every register: its offset, its
instances, its reset value and, for every field that a write may change, its access code (R13) and
its legal range (R15). Fields that are RO stand in no row. A row's `dims` lists the instance count and
stride of each index.
-/
namespace Sys2Proof.Machine

/-- The access codes of R13; `cfg` is a Bedrock configuration field, RO but for the load of R465. -/
inductive AccCode where
  | rw | wo | w1c | w1s | rc | rwl | rws | cfg
  deriving DecidableEq, Repr

/-- The legal ranges that depend on other fields, registers or the lane; the rule that gives each
stands where it is interpreted (`legalValue`). -/
inductive DepRule where
  | dbtTseg1 | frame | bcount | xbase | bsize | bindType | bindIndex | bindSel | bindZw | nofs | klo | khi | nlo
  | nhi | trkBin | sphase | ophase | ylo | xlo | bridges | pdiv | ovth | posCpr | ratioN | f1n
  | frameCycle | slotStart | slotStartPrev | apo | macBit8 (b : Nat) | macReset (b r : Nat) | sjw | txring | rxring | ringTx | ringRx
  | hwbase | hwsize | sevMin | csev | chrbase | chrlen | mult8 | histSel | edge | tcount | slothi | hartId
  deriving DecidableEq, Repr

/-- The legal range of a field (R15, R56). `codes` is an enumeration with its reset value. -/
inductive Legal where
  | any
  | rng (lo hi : Nat)
  | signed (lo hi : Int)
  | codes (cs : List Nat) (rst : Nat)
  | dep (r : DepRule)
  deriving DecidableEq, Repr

/-- One writable field: least significant bit, width, access code, legal range. -/
structure FieldRow where
  lo : Nat
  width : Nat
  acc : AccCode
  legal : Legal
  deriving DecidableEq, Repr

/-- A reset value: a number, one number per lane, or one computed from the register's address. -/
inductive RstVal where
  | val (n : Nat)
  | byLane (a b : Nat)
  | msg | sphase | ophase | bedSev | macSrc | srcCfg | depMask | sstat | edge
  deriving DecidableEq, Repr

/-- One row of a register table. -/
structure RegRow where
  off : Nat
  dims : List (Nat × Nat)
  rst : RstVal
  fields : List FieldRow
  deriving DecidableEq, Repr

/-- Rows of the LNK page (01_three_lanes.md R38). -/
def rowsLNK : List RegRow :=
  [⟨0x100, [], .val 0x0, []⟩,
   ⟨0x104, [], .val 0x0, []⟩,
   ⟨0x108, [], .val 0x0, []⟩,
   ⟨0x10c, [], .val 0x0, []⟩,
   ⟨0x110, [], .val 0x0, []⟩,
   ⟨0x114, [], .val 0x0, []⟩,
   ⟨0x118, [], .val 0x0, []⟩,
   ⟨0x11c, [], .val 0x0, []⟩,
   ⟨0x120, [], .val 0x0, []⟩,
   ⟨0x124, [], .val 0x0, []⟩,
   ⟨0x128, [], .val 0x0, []⟩]

/-- Rows of the BREQ page (02_address_map_and_register_pages.md R72). -/
def rowsBREQ : List RegRow :=
  [⟨0x100, [], .val 0x0, [⟨0,32,.rw,.any⟩]⟩,
   ⟨0x104, [], .val 0x0, [⟨0,32,.rw,.any⟩]⟩,
   ⟨0x108, [], .val 0x0, [⟨0,8,.wo,.codes [0,1,2,3,4,5,6,7,8,9] 0⟩, ⟨8,8,.wo,.any⟩, ⟨16,4,.wo,.any⟩]⟩,
   ⟨0x10c, [], .val 0x0, []⟩,
   ⟨0x110, [], .val 0x0, []⟩]

/-- Rows of the CKP page (03_application_cores_and_lockstep.md R107). -/
def rowsCKP : List RegRow :=
  [⟨0x100, [(4,4)], .val 0x103e8, [⟨0,14,.rwl,.rng 10 10000⟩, ⟨16,1,.rwl,.any⟩, ⟨17,1,.rwl,.any⟩]⟩,
   ⟨0x110, [(4,4)], .val 0x0, []⟩,
   ⟨0x120, [(4,8)], .val 0x0, []⟩,
   ⟨0x124, [(4,8)], .val 0x0, []⟩,
   ⟨0x140, [(4,4)], .val 0x0, []⟩,
   ⟨0x150, [(4,4)], .val 0x0, []⟩,
   ⟨0x160, [(4,4)], .val 0x0, []⟩,
   ⟨0x170, [], .byLane 0x03020100 0x13121110, []⟩,
   ⟨0x180, [], .val 0x0, [⟨0,2,.wo,.any⟩, ⟨4,4,.wo,.codes [0, 1, 2] 0⟩]⟩]

/-- Rows of the LE page (05_loop_slots_and_control_laws.md R176). -/
def rowsLE : List RegRow :=
  [⟨0x100, [], .val 0x3e80, [⟨0,20,.rws,.dep .frame⟩]⟩,
   ⟨0x104, [], .val 0x0, []⟩,
   ⟨0x108, [], .val 0x0, []⟩,
   ⟨0x10c, [], .val 0x0, []⟩,
   ⟨0x110, [], .val 0x0, [⟨0,1,.w1s,.any⟩]⟩,
   ⟨0x114, [], .val 0x0, [⟨0,16,.rw,.any⟩, ⟨16,1,.rw,.any⟩]⟩,
   ⟨0x118, [], .val 0x0, []⟩,
   ⟨0x11c, [], .val 0x0, []⟩,
   ⟨0x120, [], .val 0x0, []⟩,
   ⟨0x200, [(128,8)], .val 0x0, [⟨0,14,.rw,.rng 0 16320⟩, ⟨16,8,.rw,.any⟩, ⟨24,5,.rw,.dep .bcount⟩]⟩,
   ⟨0x204, [(128,8)], .val 0x0, [⟨0,14,.rw,.dep .xbase⟩, ⟨16,6,.rw,.dep .bsize⟩, ⟨25,1,.w1s,.any⟩]⟩,
   ⟨0x600, [(256,8)], .val 0x0, [⟨0,1,.rw,.any⟩, ⟨1,1,.rw,.any⟩, ⟨2,4,.rw,.dep .bindType⟩, ⟨6,7,.rw,.dep .bindIndex⟩, ⟨13,3,.rw,.dep .bindSel⟩, ⟨16,5,.rw,.dep .bindZw⟩, ⟨21,6,.rw,.rng 0 47⟩, ⟨27,2,.rw,.codes [0,1,2] 0⟩, ⟨29,1,.rw,.any⟩]⟩,
   ⟨0x604, [(256,8)], .val 0x0, [⟨0,16,.rw,.any⟩]⟩,
   ⟨0xe00, [(32,8)], .val 0x0, [⟨0,32,.rw,.any⟩]⟩,
   ⟨0xe04, [(32,8)], .val 0x0, [⟨0,32,.rw,.any⟩]⟩,
   ⟨0xf00, [(4,64)], .val 0x10000, [⟨0,1,.rw,.any⟩, ⟨1,1,.rw,.any⟩, ⟨2,5,.rw,.rng 0 23⟩, ⟨8,7,.rw,.any⟩, ⟨16,4,.rw,.rng 1 15⟩, ⟨24,6,.rw,.dep .nofs⟩]⟩,
   ⟨0xf04, [(4,64)], .val 0x1010001, [⟨0,9,.rw,.dep .klo⟩, ⟨9,9,.rw,.dep .khi⟩, ⟨18,12,.rw,.rng 16 4095⟩]⟩,
   ⟨0xf08, [(4,64)], .val 0x400201, [⟨0,9,.rw,.dep .nlo⟩, ⟨9,9,.rw,.dep .nhi⟩, ⟨18,6,.rw,.rng 1 63⟩]⟩,
   ⟨0xf0c, [(4,64)], .val 0x3e000000, [⟨0,32,.rw,.rng 536870912 1073741823⟩]⟩,
   ⟨0xf10, [(4,64)], .val 0x0, []⟩,
   ⟨0xf14, [(4,64)], .val 0x1, [⟨0,9,.rw,.dep .trkBin⟩]⟩,
   ⟨0xf18, [(4,64)], .val 0x0, [⟨0,2,.wo,.codes [0, 1, 2] 0⟩, ⟨16,9,.wo,.dep .trkBin⟩]⟩,
   ⟨0xf1c, [(4,64)], .val 0x0, [⟨0,14,.rw,.any⟩]⟩]

/-- Rows of the LESLOT page (05_loop_slots_and_control_laws.md R179). -/
def rowsLESLOT : List RegRow :=
  [⟨0x100, [(16,64)], .sphase, [⟨0,20,.rw,.dep .sphase⟩]⟩,
   ⟨0x104, [(16,64)], .ophase, [⟨0,20,.rw,.dep .ophase⟩]⟩,
   ⟨0x108, [(16,64)], .val 0x1, [⟨0,7,.rw,.rng 1 64⟩, ⟨8,1,.rw,.any⟩, ⟨9,1,.rw,.any⟩, ⟨10,1,.rw,.any⟩]⟩,
   ⟨0x10c, [(16,64)], .val 0x0, []⟩,
   ⟨0x110, [(16,64), (8,4)], .val 0x0, [⟨0,7,.rw,.any⟩, ⟨7,1,.rw,.any⟩, ⟨8,13,.rw,.any⟩]⟩,
   ⟨0x130, [(16,64)], .val 0x0, []⟩,
   ⟨0x134, [(16,64)], .val 0x0, []⟩,
   ⟨0x138, [(16,64)], .msg, [⟨0,8,.rw,.any⟩, ⟨16,8,.rw,.dep .hartId⟩]⟩,
   ⟨0x13c, [(16,64)], .val 0x0, []⟩]

/-- Rows of the PLC0 page (06_work_placement.md R209). -/
def rowsPLC0 : List RegRow :=
  [⟨0x100, [], .val 0x0, [⟨0,2,.wo,.codes [0, 1, 2] 0⟩]⟩,
   ⟨0x104, [], .val 0x0, []⟩,
   ⟨0x108, [], .val 0x0, []⟩,
   ⟨0x10c, [], .val 0x0, []⟩,
   ⟨0x110, [], .val 0x0, []⟩,
   ⟨0x118, [], .val 0xffffffff, [⟨0,32,.rws,.any⟩]⟩,
   ⟨0x11c, [], .val 0xffff, [⟨0,16,.rws,.any⟩]⟩,
   ⟨0x120, [], .val 0x20, [⟨0,7,.rws,.rng 1 64⟩, ⟨16,14,.rws,.dep .ylo⟩]⟩,
   ⟨0x124, [], .val 0x20, [⟨0,8,.rws,.rng 1 128⟩, ⟨16,14,.rws,.dep .xlo⟩]⟩,
   ⟨0x128, [], .val 0x0, [⟨0,32,.rws,.any⟩]⟩,
   ⟨0x12c, [], .val 0xff000000, [⟨0,32,.rws,.any⟩]⟩,
   ⟨0x130, [], .val 0x0, []⟩,
   ⟨0x134, [], .val 0x0, []⟩,
   ⟨0x138, [], .val 0x0, []⟩,
   ⟨0x13c, [], .val 0x0, []⟩,
   ⟨0x140, [], .val 0x0, []⟩,
   ⟨0x144, [], .val 0x0, []⟩,
   ⟨0x148, [], .val 0x0, []⟩]

/-- Rows of the PLC3 page (06_work_placement.md R211). -/
def rowsPLC3 : List RegRow :=
  [⟨0x100, [(128,8)], .val 0x0, []⟩,
   ⟨0x104, [(128,8)], .val 0xffffffff, []⟩,
   ⟨0x500, [(256,8)], .val 0x0, [⟨0,1,.rw,.any⟩, ⟨1,1,.rw,.any⟩, ⟨2,4,.rw,.dep .bindType⟩, ⟨6,7,.rw,.dep .bindIndex⟩, ⟨13,3,.rw,.dep .bindSel⟩, ⟨16,5,.rw,.dep .bindZw⟩, ⟨21,6,.rw,.rng 0 47⟩, ⟨27,2,.rw,.codes [0,1,2] 0⟩, ⟨29,1,.rw,.any⟩]⟩,
   ⟨0x504, [(256,8)], .val 0x0, [⟨0,16,.rw,.any⟩]⟩]

/-- Rows of the BSYS page (07_authority_lease_and_failover.md R236). -/
def rowsBSYS : List RegRow :=
  [⟨0x100, [], .val 0x03000001, []⟩,
   ⟨0x104, [], .val 0x2, [⟨1,1,.cfg,.any⟩, ⟨2,1,.cfg,.any⟩]⟩,
   ⟨0x108, [], .val 0x0, []⟩,
   ⟨0x10c, [], .val 0x0, []⟩,
   ⟨0x110, [], .val 0x0, []⟩,
   ⟨0x114, [], .val 0x0, []⟩,
   ⟨0x118, [], .val 0x0, []⟩]

/-- Rows of the BLEASE page (07_authority_lease_and_failover.md R237). -/
def rowsBLEASE : List RegRow :=
  [⟨0x100, [(8,16)], .val 0x0, []⟩,
   ⟨0x104, [(8,16)], .val 0x3e8, [⟨0,13,.cfg,.rng 50 5000⟩, ⟨16,1,.cfg,.any⟩, ⟨24,8,.cfg,.dep .bridges⟩]⟩,
   ⟨0x108, [(8,16)], .val 0x0, []⟩,
   ⟨0x10c, [(8,16)], .val 0x0, []⟩,
   ⟨0x180, [], .val 0x0, []⟩,
   ⟨0x184, [], .val 0x0, []⟩,
   ⟨0x188, [], .val 0x0, []⟩,
   ⟨0x200, [(8,4)], .val 0x0, []⟩]

/-- Rows of the BENV page (07_authority_lease_and_failover.md R238). -/
def rowsBENV : List RegRow :=
  [⟨0x100, [(8,16)], .val 0xffffffff, [⟨0,16,.cfg,.any⟩, ⟨16,16,.cfg,.rng 1 65535⟩]⟩,
   ⟨0x104, [(8,16)], .val 0x400, [⟨0,2,.cfg,.codes [0,1,2] 0⟩, ⟨2,2,.cfg,.codes [0,1,2] 0⟩, ⟨4,1,.cfg,.any⟩, ⟨8,7,.cfg,.rng 1 64⟩, ⟨16,16,.cfg,.any⟩]⟩,
   ⟨0x108, [(8,16)], .val 0x0, []⟩,
   ⟨0x10c, [(8,16)], .val 0x0, []⟩,
   ⟨0x180, [(8,4)], .val 0x0, []⟩]

/-- Rows of the BFLT page (07_authority_lease_and_failover.md R239). -/
def rowsBFLT : List RegRow :=
  [⟨0x100, [], .val 0x0, []⟩,
   ⟨0x104, [], .val 0x0, []⟩,
   ⟨0x108, [], .val 0x0, []⟩,
   ⟨0x10c, [], .val 0x0, []⟩,
   ⟨0x110, [], .val 0x0, []⟩,
   ⟨0x114, [], .val 0x0, []⟩,
   ⟨0x120, [(8,4)], .bedSev, [⟨0,3,.cfg,.rng 0 4⟩, ⟨4,3,.cfg,.rng 0 4⟩, ⟨8,3,.cfg,.rng 0 4⟩, ⟨12,3,.cfg,.rng 0 4⟩, ⟨16,3,.cfg,.rng 0 4⟩, ⟨20,3,.cfg,.rng 0 4⟩, ⟨24,3,.cfg,.rng 0 4⟩, ⟨28,3,.cfg,.rng 0 4⟩]⟩]

/-- Rows of the BRG page (08_bridge_drivers.md R264). -/
def rowsBRG : List RegRow :=
  [⟨0x100, [], .val 0x1, [⟨0,7,.rws,.dep .pdiv⟩, ⟨8,1,.rws,.any⟩, ⟨9,1,.rw,.any⟩]⟩,
   ⟨0x104, [], .val 0x28, [⟨0,10,.rws,.rng 4 1000⟩]⟩,
   ⟨0x108, [], .val 0xa00008, [⟨0,10,.rws,.rng 0 1000⟩, ⟨16,12,.rws,.rng 40 4000⟩]⟩,
   ⟨0x10c, [], .val 0x144308, [⟨0,6,.rw,.rng 1 63⟩, ⟨8,3,.rw,.any⟩, ⟨12,4,.rw,.rng 1 15⟩, ⟨16,8,.rw,.any⟩]⟩,
   ⟨0x110, [], .val 0xa06, [⟨0,4,.rw,.any⟩, ⟨8,5,.rw,.rng 1 31⟩]⟩,
   ⟨0x114, [], .val 0x26000, [⟨0,15,.rw,.rng 256 32767⟩, ⟨16,4,.rw,.rng 1 15⟩]⟩,
   ⟨0x118, [], .val 0x8210, [⟨0,8,.rw,.rng 12 100⟩, ⟨8,8,.rw,.dep .ovth⟩]⟩,
   ⟨0x11c, [], .val 0x8c, [⟨0,8,.rw,.rng 100 160⟩]⟩,
   ⟨0x120, [], .val 0x28, [⟨0,8,.rw,.any⟩, ⟨8,1,.rw,.any⟩]⟩,
   ⟨0x124, [], .val 0x0, [⟨0,16,.wo,.codes [0,0x7E81] 0⟩]⟩,
   ⟨0x128, [], .val 0x0, [⟨0,6,.rw,.any⟩, ⟨8,1,.rw,.any⟩]⟩,
   ⟨0x130, [], .val 0x0, []⟩,
   ⟨0x134, [], .val 0x0, []⟩,
   ⟨0x138, [], .val 0x0, [⟨0,1,.w1c,.any⟩, ⟨1,1,.w1c,.any⟩, ⟨2,1,.w1c,.any⟩, ⟨3,1,.w1c,.any⟩, ⟨4,1,.w1c,.any⟩, ⟨5,1,.w1c,.any⟩]⟩,
   ⟨0x13c, [], .val 0x0, []⟩,
   ⟨0x140, [], .val 0x0, []⟩,
   ⟨0x144, [], .val 0x00000167, []⟩,
   ⟨0x148, [], .val 0x0, []⟩,
   ⟨0x150, [(3,8)], .val 0x1, [⟨0,2,.rw,.any⟩, ⟨16,16,.rw,.signed (-4096) 4095⟩]⟩,
   ⟨0x154, [(3,8)], .val 0x0, []⟩,
   ⟨0x170, [], .val 0x0, []⟩,
   ⟨0x174, [], .val 0x0, []⟩,
   ⟨0x178, [], .val 0x0, []⟩]

/-- Rows of the BCOM page (08_bridge_drivers.md R267). -/
def rowsBCOM : List RegRow :=
  [⟨0x100, [], .val 0x1f40, [⟨0,19,.rws,.rng 8000 400000⟩]⟩,
   ⟨0x104, [], .val 0x0, []⟩,
   ⟨0x108, [], .val 0, []⟩,
   ⟨0x10c, [], .val 0x0, []⟩,
   ⟨0x110, [], .val 0x0, []⟩]

/-- Rows of the FBKCH page (09_position_feedback_and_sensor_ports.md R287). -/
def rowsFBKCH : List RegRow :=
  [⟨0x100, [(8,256)], .val 0x400, [⟨0,3,.rw,.codes [0, 1, 2, 3, 4, 5, 6] 0⟩, ⟨3,1,.rw,.any⟩, ⟨4,3,.rw,.any⟩, ⟨7,1,.rw,.any⟩, ⟨8,8,.rw,.rng 1 255⟩, ⟨16,2,.rw,.codes [0, 1, 2] 0⟩, ⟨18,1,.rw,.any⟩, ⟨19,1,.rw,.any⟩]⟩,
   ⟨0x104, [(8,256)], .val 0x1000, [⟨0,32,.rw,.rng 2 2147483648⟩]⟩,
   ⟨0x108, [(8,256)], .val 0x0, [⟨0,1,.rc,.any⟩, ⟨1,1,.rc,.any⟩, ⟨2,1,.rc,.any⟩, ⟨3,1,.rc,.any⟩, ⟨4,1,.rc,.any⟩, ⟨5,1,.rc,.any⟩, ⟨6,1,.rc,.any⟩]⟩,
   ⟨0x10c, [(8,256)], .val 0x0, [⟨0,32,.rw,.dep .posCpr⟩]⟩,
   ⟨0x110, [(8,256)], .val 0x0, [⟨0,32,.rw,.dep .posCpr⟩]⟩,
   ⟨0x114, [(8,256)], .val 0x0, [⟨0,16,.rw,.any⟩]⟩,
   ⟨0x118, [(8,256)], .val 0x0, []⟩,
   ⟨0x11c, [(8,256)], .val 0x0, []⟩,
   ⟨0x120, [(8,256)], .val 0xa2001, [⟨0,2,.rw,.rng 1 3⟩, ⟨4,1,.rw,.any⟩, ⟨8,8,.rw,.rng 24 255⟩, ⟨16,8,.rw,.rng 1 15⟩]⟩,
   ⟨0x124, [(8,256)], .val 0x6403e8, [⟨0,16,.rw,.rng 1 65535⟩, ⟨16,16,.rw,.rng 1 65535⟩]⟩,
   ⟨0x128, [(8,256)], .val 0xffffffff, []⟩,
   ⟨0x12c, [(8,256)], .val 0x0, []⟩,
   ⟨0x130, [(8,256)], .val 0x0, []⟩,
   ⟨0x134, [(8,256)], .val 0x0, []⟩,
   ⟨0x138, [(8,256)], .val 0x0, []⟩,
   ⟨0x13c, [(8,256)], .val 0x700, []⟩,
   ⟨0x140, [(8,256)], .msg, [⟨0,8,.rw,.any⟩, ⟨16,8,.rw,.dep .hartId⟩]⟩,
   ⟨0x144, [(8,256)], .val 0x0, [⟨0,7,.rw,.any⟩]⟩]

/-- Rows of the FBK page (09_position_feedback_and_sensor_ports.md R290). -/
def rowsFBK : List RegRow :=
  [⟨0x100, [(4,16)], .val 0x100, [⟨0,4,.rw,.any⟩, ⟨4,1,.rw,.any⟩, ⟨5,1,.rw,.any⟩, ⟨6,1,.rw,.any⟩, ⟨8,8,.rw,.rng 1 255⟩]⟩,
   ⟨0x104, [(4,16)], .val 0x10001, [⟨0,16,.rw,.dep .ratioN⟩, ⟨16,16,.rw,.rng 1 65535⟩]⟩,
   ⟨0x108, [(4,16)], .val 0x0, []⟩]

/-- Rows of the SNS page (09_position_feedback_and_sensor_ports.md R291). -/
def rowsSNS : List RegRow :=
  [⟨0x100, [(4,128)], .val 0xa00, [⟨0,2,.rw,.any⟩, ⟨4,1,.rw,.any⟩, ⟨5,1,.rw,.any⟩, ⟨8,8,.rw,.rng 1 255⟩]⟩,
   ⟨0x104, [(4,128)], .val 0x36012c, [⟨0,13,.rw,.rng 300 9000⟩, ⟨16,3,.rw,.rng 1 6⟩, ⟨20,3,.rw,.dep .f1n⟩, ⟨23,1,.rw,.any⟩, ⟨24,1,.rw,.any⟩, ⟨25,1,.rw,.any⟩, ⟨26,2,.rw,.codes [0, 1, 2] 0⟩, ⟨28,1,.rw,.any⟩]⟩,
   ⟨0x108, [(4,128)], .val 0x1000, [⟨0,2,.rw,.any⟩, ⟨8,5,.rw,.rng 10 24⟩]⟩,
   ⟨0x10c, [(4,128)], .val 0x1f40000, [⟨0,1,.rw,.any⟩, ⟨1,1,.rw,.any⟩, ⟨16,16,.rw,.rng 100 65535⟩]⟩,
   ⟨0x110, [(4,128)], .val 0x0, [⟨0,20,.rw,.dep .frameCycle⟩]⟩,
   ⟨0x114, [(4,128)], .val 0x0, [⟨0,10,.rw,.rng 0 1023⟩, ⟨16,10,.rw,.dep .slotStart⟩]⟩,
   ⟨0x118, [(4,128)], .val 0x0, [⟨0,10,.rw,.dep .slotStartPrev⟩, ⟨16,10,.rw,.dep .slotStart⟩]⟩,
   ⟨0x120, [(4,128), (4,4)], .val 0x0, []⟩,
   ⟨0x130, [(4,128)], .val 0x0, []⟩,
   ⟨0x134, [(4,128)], .val 0x0, [⟨0,1,.rc,.any⟩, ⟨1,1,.rc,.any⟩, ⟨2,1,.rc,.any⟩, ⟨3,1,.rc,.any⟩, ⟨4,1,.rc,.any⟩, ⟨5,1,.rc,.any⟩, ⟨6,1,.rc,.any⟩, ⟨7,1,.rc,.any⟩]⟩,
   ⟨0x138, [(4,128)], .val 0x0, []⟩,
   ⟨0x13c, [(4,128)], .val 0x0, []⟩,
   ⟨0x140, [(4,128)], .msg, [⟨0,8,.rw,.any⟩, ⟨16,8,.rw,.dep .hartId⟩]⟩,
   ⟨0x144, [(4,128)], .val 0x0, [⟨0,8,.rw,.any⟩]⟩]

/-- Rows of the ADC page (09_position_feedback_and_sensor_ports.md R297). -/
def rowsADC : List RegRow :=
  [⟨0x100, [], .val 0x1000, [⟨0,2,.rws,.codes [0, 1, 2] 0⟩, ⟨8,6,.rws,.rng 1 32⟩]⟩,
   ⟨0x104, [], .val 0x0, [⟨0,16,.rws,.any⟩]⟩,
   ⟨0x108, [], .val 0x0, [⟨0,20,.rw,.dep .frameCycle⟩]⟩,
   ⟨0x10c, [], .val 0x0, [⟨0,1,.w1s,.any⟩]⟩,
   ⟨0x110, [], .val 0x0, [⟨0,16,.rw,.any⟩]⟩,
   ⟨0x114, [], .val 0x0, [⟨0,16,.rc,.any⟩, ⟨16,4,.rc,.any⟩, ⟨24,5,.rc,.any⟩, ⟨30,1,.rc,.any⟩, ⟨31,1,.rc,.any⟩]⟩,
   ⟨0x118, [], .val 0x0, []⟩,
   ⟨0x11c, [], .val 0x0, []⟩,
   ⟨0x140, [(16,4)], .val 0x0, []⟩]

/-- Rows of the STR page (10_strata_network.md R333). -/
def rowsSTR : List RegRow :=
  [⟨0x100, [(2,128)], .val 0x1000000, [⟨0,1,.rw,.any⟩, ⟨8,5,.rws,.any⟩, ⟨16,1,.rws,.any⟩, ⟨17,1,.rws,.any⟩, ⟨24,6,.rws,.rng 1 63⟩]⟩,
   ⟨0x104, [(2,128)], .val 0x803e8, [⟨0,16,.rws,.rng 500 64000⟩, ⟨16,7,.rws,.rng 1 64⟩]⟩,
   ⟨0x108, [(2,128)], .val 0xa0064, [⟨0,12,.rws,.rng 60 4000⟩, ⟨16,12,.rws,.dep .apo⟩]⟩,
   ⟨0x10c, [(2,128)], .val 0x640032, [⟨0,12,.rws,.rng 20 4000⟩, ⟨16,12,.rws,.rng 1 2000⟩]⟩,
   ⟨0x110, [(2,128)], .val 0x8819064, [⟨0,10,.rws,.rng 1 1000⟩, ⟨10,12,.rws,.rng 1 4095⟩, ⟨22,4,.rws,.rng 1 15⟩, ⟨26,4,.rws,.rng 1 15⟩]⟩,
   ⟨0x114, [(2,128)], .val 0x200, [⟨0,8,.rws,.any⟩, ⟨8,4,.rws,.rng 2 15⟩]⟩,
   ⟨0x118, [(2,128)], .val 0x54520000, [⟨0,32,.rws,.any⟩]⟩,
   ⟨0x11c, [(2,128)], .val 0x353, [⟨0,16,.rws,.dep (.macReset 1 0x353)⟩]⟩,
   ⟨0x120, [(2,128)], .macSrc, [⟨0,32,.rws,.any⟩]⟩,
   ⟨0x124, [(2,128)], .val 0x253, [⟨0,16,.rws,.dep (.macReset 0 0x253)⟩]⟩,
   ⟨0x130, [(2,128)], .val 0x0, []⟩,
   ⟨0x134, [(2,128)], .val 0x0, []⟩,
   ⟨0x138, [(2,128)], .val 0x0, []⟩,
   ⟨0x13c, [(2,128)], .val 0x0, []⟩,
   ⟨0x140, [(2,128)], .val 0x0, []⟩,
   ⟨0x144, [(2,128)], .val 0x0, []⟩,
   ⟨0x148, [(2,128)], .val 0x0, []⟩,
   ⟨0x14c, [(2,128)], .val 0x0, []⟩,
   ⟨0x150, [(2,128)], .val 0x0, []⟩,
   ⟨0x154, [(2,128)], .val 0x0, []⟩,
   ⟨0x158, [(2,128)], .val 0x0, []⟩,
   ⟨0x15c, [(2,128)], .val 0x0, [⟨0,6,.rc,.any⟩, ⟨8,8,.rc,.any⟩, ⟨16,5,.rc,.any⟩, ⟨30,1,.rc,.any⟩, ⟨31,1,.rc,.any⟩]⟩,
   ⟨0x160, [(2,128)], .msg, [⟨0,8,.rw,.any⟩, ⟨16,8,.rw,.dep .hartId⟩]⟩,
   ⟨0x200, [(8,8)], .val 0x0, [⟨0,16,.rw,.rng 0 63999⟩, ⟨16,1,.rw,.any⟩, ⟨17,1,.rw,.any⟩]⟩] ++
  [⟨0x204, [(8,8)], .msg, [⟨0,8,.rw,.any⟩, ⟨16,8,.rw,.dep .hartId⟩]⟩,
   ⟨0x240, [], .val 0x0, [⟨0,32,.w1s,.any⟩]⟩,
   ⟨0x244, [], .val 0x0, [⟨0,32,.w1s,.any⟩]⟩,
   ⟨0x248, [], .val 0x0, [⟨0,32,.w1s,.any⟩]⟩,
   ⟨0x24c, [], .val 0x0, [⟨0,32,.w1s,.any⟩]⟩,
   ⟨0x250, [], .val 0x0, [⟨0,6,.rc,.any⟩, ⟨16,5,.rc,.any⟩, ⟨30,1,.rc,.any⟩, ⟨31,1,.rc,.any⟩]⟩,
   ⟨0x254, [], .msg, [⟨0,8,.rw,.any⟩, ⟨16,8,.rw,.dep .hartId⟩]⟩,
   ⟨0x258, [], .val 0x0, []⟩,
   ⟨0x25c, [], .val 0x0, []⟩,
   ⟨0x260, [], .val 0x7d0, [⟨0,16,.rws,.rng 100 65535⟩]⟩,
   ⟨0x264, [], .val 0x0, []⟩,
   ⟨0x268, [], .val 0x0, []⟩]

/-- Rows of the CAN page (11_vehicle_and_host_ports.md R346). -/
def rowsCAN : List RegRow :=
  [⟨0x100, [], .val 0x20207f01, [⟨0,6,.rws,.rng 1 32⟩, ⟨8,8,.rws,.rng 2 255⟩, ⟨16,7,.rws,.rng 1 127⟩, ⟨24,7,.rws,.dep .sjw⟩]⟩,
   ⟨0x104, [], .val 0xa0a1d01, [⟨0,6,.rws,.rng 1 32⟩, ⟨8,5,.rws,.dep .dbtTseg1⟩, ⟨16,4,.rws,.rng 1 15⟩, ⟨24,4,.rws,.dep .sjw⟩]⟩,
   ⟨0x108, [], .val 0x1429, [⟨0,1,.rws,.any⟩, ⟨1,1,.rws,.any⟩, ⟨2,1,.rws,.any⟩, ⟨3,1,.rws,.any⟩, ⟨4,1,.rws,.any⟩, ⟨5,1,.rws,.any⟩, ⟨8,7,.rws,.any⟩]⟩,
   ⟨0x10c, [], .val 0x0, []⟩,
   ⟨0x110, [], .val 0x0, [⟨0,8,.w1s,.any⟩]⟩,
   ⟨0x114, [], .val 0x0, [⟨0,8,.w1s,.any⟩]⟩,
   ⟨0x118, [], .val 0x0, [⟨0,8,.w1c,.any⟩, ⟨8,8,.w1c,.any⟩]⟩,
   ⟨0x11c, [], .val 0x0, []⟩,
   ⟨0x120, [], .val 0x0, [⟨0,1,.w1s,.any⟩]⟩,
   ⟨0x124, [], .val 0x0, []⟩,
   ⟨0x180, [(16,8)], .val 0x0, [⟨0,29,.rw,.any⟩, ⟨29,1,.rw,.any⟩, ⟨31,1,.rw,.any⟩]⟩,
   ⟨0x184, [(16,8)], .val 0x0, [⟨0,29,.rw,.any⟩]⟩,
   ⟨0x400, [(8,80)], .val 0x0, [⟨0,31,.rw,.any⟩]⟩,
   ⟨0x404, [(8,80)], .val 0x0, [⟨0,7,.rw,.any⟩]⟩,
   ⟨0x408, [(8,80), (16,4)], .val 0x0, [⟨0,32,.rw,.any⟩]⟩,
   ⟨0x800, [(18,4)], .val 0x0, []⟩]

/-- Rows of the ETH page (11_vehicle_and_host_ports.md R351). -/
def rowsETH : List RegRow :=
  [⟨0x100, [], .val 0x2, [⟨0,2,.rws,.codes [0, 1, 2] 2⟩, ⟨4,1,.rws,.any⟩, ⟨5,1,.rws,.any⟩, ⟨8,1,.rws,.any⟩]⟩,
   ⟨0x104, [], .val 0x0, [⟨0,32,.rws,.any⟩]⟩,
   ⟨0x108, [], .val 0x0, [⟨0,16,.rws,.dep (.macBit8 0)⟩]⟩,
   ⟨0x10c, [], .val 0x10000000, [⟨0,32,.rws,.dep .txring⟩]⟩,
   ⟨0x110, [], .val 0x10000000, [⟨0,32,.rws,.dep .rxring⟩]⟩,
   ⟨0x114, [], .val 0x10001, [⟨0,9,.rws,.dep .ringTx⟩, ⟨16,9,.rws,.dep .ringRx⟩]⟩,
   ⟨0x118, [], .val 0x0, [⟨0,1,.w1s,.any⟩]⟩,
   ⟨0x11c, [], .val 0x0, [⟨0,5,.rw,.any⟩, ⟨5,5,.rw,.any⟩, ⟨10,1,.rw,.any⟩, ⟨15,1,.w1s,.any⟩, ⟨16,16,.rw,.any⟩]⟩,
   ⟨0x120, [], .val 0x0, [⟨0,30,.rw,.rng 0 999999999⟩]⟩,
   ⟨0x124, [], .val 0x0, [⟨0,32,.rw,.any⟩]⟩,
   ⟨0x128, [], .val 0x8000000, [⟨0,32,.rw,.rng 117440512 150994944⟩]⟩,
   ⟨0x12c, [], .val 0x0, [⟨0,32,.wo,.signed (-500000000) 500000000⟩]⟩,
   ⟨0x130, [], .val 0x0, []⟩,
   ⟨0x134, [], .val 0x0, []⟩,
   ⟨0x138, [], .val 0x0, []⟩,
   ⟨0x13c, [], .val 0x0, []⟩]

/-- Rows of the HSPI page (11_vehicle_and_host_ports.md R355). -/
def rowsHSPI : List RegRow :=
  [⟨0x100, [(4,8)], .val 0x0, [⟨12,20,.rwl,.dep .hwbase⟩]⟩,
   ⟨0x104, [(4,8)], .val 0x0, [⟨0,12,.rwl,.dep .hwsize⟩, ⟨16,1,.rwl,.any⟩, ⟨17,1,.rwl,.any⟩]⟩,
   ⟨0x120, [], .val 0x0, []⟩,
   ⟨0x124, [], .val 0x0, []⟩,
   ⟨0x128, [], .val 0x0, []⟩]

/-- Rows of the WAKE page (11_vehicle_and_host_ports.md R357). -/
def rowsWAKE : List RegRow :=
  [⟨0x100, [], .byLane 0x12A 0x12B, [⟨0,7,.rwl,.rng 8 119⟩, ⟨8,1,.rwl,.any⟩]⟩,
   ⟨0x104, [], .val 0x0, []⟩,
   ⟨0x108, [], .val 0x0, [⟨0,1,.w1c,.any⟩, ⟨1,1,.w1c,.any⟩]⟩]

/-- Rows of the GPIO page (11_vehicle_and_host_ports.md R361). -/
def rowsGPIO : List RegRow :=
  [⟨0x100, [], .val 0x0, [⟨0,16,.rw,.any⟩]⟩,
   ⟨0x104, [], .val 0x0, [⟨0,16,.rw,.any⟩]⟩,
   ⟨0x108, [], .val 0x0, [⟨0,16,.wo,.any⟩]⟩,
   ⟨0x10c, [], .val 0x0, [⟨0,16,.wo,.any⟩]⟩,
   ⟨0x110, [], .val 0, []⟩,
   ⟨0x114, [], .val 0x0, [⟨0,16,.rw,.any⟩]⟩,
   ⟨0x118, [], .val 0x55555555, [⟨0,2,.rw,.codes [0, 1, 2] 1⟩, ⟨2,2,.rw,.codes [0, 1, 2] 1⟩, ⟨4,2,.rw,.codes [0, 1, 2] 1⟩, ⟨6,2,.rw,.codes [0, 1, 2] 1⟩, ⟨8,2,.rw,.codes [0, 1, 2] 1⟩, ⟨10,2,.rw,.codes [0, 1, 2] 1⟩, ⟨12,2,.rw,.codes [0, 1, 2] 1⟩, ⟨14,2,.rw,.codes [0, 1, 2] 1⟩, ⟨16,2,.rw,.codes [0, 1, 2] 1⟩, ⟨18,2,.rw,.codes [0, 1, 2] 1⟩, ⟨20,2,.rw,.codes [0, 1, 2] 1⟩, ⟨22,2,.rw,.codes [0, 1, 2] 1⟩, ⟨24,2,.rw,.codes [0, 1, 2] 1⟩, ⟨26,2,.rw,.codes [0, 1, 2] 1⟩, ⟨28,2,.rw,.codes [0, 1, 2] 1⟩, ⟨30,2,.rw,.codes [0, 1, 2] 1⟩]⟩,
   ⟨0x11c, [], .val 0x0, [⟨0,2,.rw,.any⟩, ⟨2,2,.rw,.any⟩, ⟨4,2,.rw,.any⟩, ⟨6,2,.rw,.any⟩, ⟨8,2,.rw,.any⟩, ⟨10,2,.rw,.any⟩, ⟨12,2,.rw,.any⟩, ⟨14,2,.rw,.any⟩, ⟨16,2,.rw,.any⟩, ⟨18,2,.rw,.any⟩, ⟨20,2,.rw,.any⟩, ⟨22,2,.rw,.any⟩, ⟨24,2,.rw,.any⟩, ⟨26,2,.rw,.any⟩, ⟨28,2,.rw,.any⟩, ⟨30,2,.rw,.any⟩]⟩,
   ⟨0x120, [], .val 0x0, [⟨0,16,.w1c,.any⟩]⟩,
   ⟨0x124, [], .val 0x4, [⟨0,8,.rw,.rng 1 255⟩]⟩]

/-- Rows of the BSAFE page (12_machine_safety_functions.md R389). -/
def rowsBSAFE : List RegRow :=
  [⟨0x100, [], .val 0x3214, [⟨0,8,.cfg,.rng 5 255⟩, ⟨8,8,.cfg,.rng 5 255⟩]⟩,
   ⟨0x104, [], .val 0xa1e, [⟨0,8,.cfg,.rng 10 100⟩, ⟨8,8,.cfg,.rng 5 255⟩, ⟨16,8,.cfg,.any⟩]⟩,
   ⟨0x108, [], .val 0xa14, [⟨0,8,.cfg,.rng 5 50⟩, ⟨8,8,.cfg,.rng 0 60⟩]⟩,
   ⟨0x10c, [], .val 0x0, []⟩,
   ⟨0x110, [], .val 0x0, []⟩,
   ⟨0x114, [], .val 0x0, []⟩,
   ⟨0x118, [], .val 0x0, []⟩,
   ⟨0x11c, [], .val 0x0, []⟩,
   ⟨0x140, [(16,4)], .val 0x3, [⟨0,8,.cfg,.rng 1 255⟩, ⟨8,4,.cfg,.rng 0 8⟩, ⟨12,4,.cfg,.rng 0 8⟩]⟩,
   ⟨0x180, [(8,16)], .val 0xa000008, [⟨0,3,.cfg,.codes [0, 1, 2, 3, 4] 0⟩, ⟨3,1,.cfg,.any⟩, ⟨8,4,.cfg,.any⟩, ⟨12,4,.cfg,.any⟩, ⟨16,5,.cfg,.rng 0 16⟩, ⟨24,8,.cfg,.rng 1 255⟩]⟩,
   ⟨0x184, [(8,16)], .val 0x0, [⟨0,8,.cfg,.any⟩, ⟨16,7,.cfg,.rng 0 100⟩]⟩,
   ⟨0x188, [(8,16)], .val 0x0, []⟩,
   ⟨0x18c, [(8,16)], .val 0x0, []⟩]

/-- Rows of the SYS page (12_machine_safety_functions.md R392). -/
def rowsSYS : List RegRow :=
  [⟨0x800, [], .val 0xff00ff00, [⟨0,8,.rw,.any⟩, ⟨8,8,.rw,.any⟩, ⟨16,8,.rw,.any⟩, ⟨24,8,.rw,.any⟩]⟩,
   ⟨0x804, [], .val 0x0, []⟩,
   ⟨0x808, [], .val 0x0, []⟩,
   ⟨0x900, [], .val 0, []⟩,
   ⟨0x904, [], .val 0, []⟩,
   ⟨0x908, [], .val 0, []⟩,
   ⟨0x910, [], .val 0x0, [⟨0,24,.rw,.dep .mult8⟩]⟩,
   ⟨0x914, [], .val 0x0, [⟨0,32,.rw,.any⟩]⟩,
   ⟨0x918, [], .val 0x0, [⟨0,32,.rw,.any⟩]⟩,
   ⟨0x91c, [], .val 0x0, [⟨0,1,.wo,.any⟩, ⟨8,8,.wo,.codes [0,0x96] 0⟩]⟩,
   ⟨0x920, [], .val 0x0, []⟩]

/-- Rows of the FLT page (13_fault_collection.md R416). -/
def rowsFLT : List RegRow :=
  [⟨0x100, [], .val 0x1000001, [⟨0,3,.rwl,.rng 0 4⟩, ⟨16,13,.rwl,.rng 16 4096⟩]⟩,
   ⟨0x104, [], .val 0x0, []⟩,
   ⟨0x108, [], .val 0x0, []⟩,
   ⟨0x10c, [], .val 0x0, []⟩,
   ⟨0x110, [], .val 0x0, []⟩,
   ⟨0x114, [], .val 0x0, [⟨0,8,.wo,.any⟩, ⟨8,2,.wo,.codes [0, 1, 2] 0⟩]⟩,
   ⟨0x118, [], .val 0x0, []⟩,
   ⟨0x11c, [], .val 0x0, []⟩,
   ⟨0x120, [], .val 0x0, []⟩,
   ⟨0x124, [], .val 0x0, []⟩,
   ⟨0x128, [], .val 0x0, []⟩,
   ⟨0x12c, [], .val 0x0, []⟩,
   ⟨0x140, [(8,4)], .val 0x0, []⟩,
   ⟨0x160, [(8,4)], .val 0x0, []⟩,
   ⟨0x180, [(8,4)], .val 0x0, []⟩,
   ⟨0x200, [(64,8)], .val 0x0, []⟩,
   ⟨0x204, [(64,8)], .val 0x0, []⟩,
   ⟨0x400, [(256,4)], .sstat, []⟩,
   ⟨0x800, [(256,8)], .srcCfg, [⟨0,3,.rwl,.dep .sevMin⟩, ⟨4,3,.rwl,.dep .csev⟩, ⟨7,1,.rwl,.any⟩, ⟨8,4,.rwl,.any⟩, ⟨12,4,.rwl,.any⟩, ⟨16,16,.rwl,.rng 1 10000⟩]⟩,
   ⟨0x804, [(256,8)], .depMask, [⟨0,16,.rwl,.any⟩]⟩]

/-- Rows of the XFR page (14_transfer_engine.md R432). -/
def rowsXFR : List RegRow :=
  [⟨0x100, [], .val 0x0, []⟩,
   ⟨0x108, [], .val 0x0, []⟩,
   ⟨0x10c, [], .val 0x0, []⟩,
   ⟨0x200, [(16,32)], .val 0x0, [⟨0,1,.rw,.any⟩, ⟨1,3,.rw,.any⟩, ⟨4,1,.rw,.any⟩]⟩,
   ⟨0x204, [(16,32)], .val 0x10000000, [⟨0,32,.rws,.dep .chrbase⟩]⟩,
   ⟨0x208, [(16,32)], .val 0x1, [⟨0,9,.rws,.dep .chrlen⟩]⟩,
   ⟨0x20c, [(16,32)], .val 0x0, [⟨0,1,.w1s,.any⟩]⟩,
   ⟨0x210, [(16,32)], .val 0x0, []⟩,
   ⟨0x214, [(16,32)], .val 0x0, []⟩,
   ⟨0x218, [(16,32)], .val 0x0, []⟩,
   ⟨0x21c, [(16,32)], .msg, [⟨0,8,.rw,.any⟩, ⟨16,8,.rw,.dep .hartId⟩]⟩]

/-- Rows of the CLK page (15_power_clocks_and_retention.md R454). -/
def rowsCLK : List RegRow :=
  [⟨0x100, [], .val 0x3, [⟨0,2,.rw,.any⟩]⟩,
   ⟨0x104, [], .val 0x0000031D, []⟩,
   ⟨0x108, [], .val 0x0, []⟩]

/-- Rows of the PWR page (15_power_clocks_and_retention.md R455). -/
def rowsPWR : List RegRow :=
  [⟨0x100, [], .val 0x0, [⟨0,2,.wo,.codes [0, 1, 2] 0⟩]⟩,
   ⟨0x104, [], .val 0x0, []⟩,
   ⟨0x108, [], .val 0x3, [⟨0,2,.rw,.any⟩]⟩,
   ⟨0x10c, [], .val 0x13, []⟩,
   ⟨0x110, [], .val 0x64, [⟨0,10,.rw,.rng 1 1000⟩]⟩,
   ⟨0x114, [], .val 0x0, []⟩,
   ⟨0x118, [], .val 0x0, []⟩,
   ⟨0x11c, [], .val 0x0, []⟩,
   ⟨0x120, [], .val 0, []⟩,
   ⟨0x124, [], .val 1, [⟨0,5,.w1c,.any⟩]⟩,
   ⟨0x128, [], .val 0x0, [⟨0,2,.wo,.codes [0, 1, 2] 0⟩, ⟨8,8,.wo,.codes [0,0xC3] 0⟩]⟩,
   ⟨0x12c, [], .val 0x0, [⟨0,8,.wo,.codes [0,0xA5] 0⟩]⟩,
   ⟨0x140, [], .val 0x1, [⟨0,8,.rw,.any⟩, ⟨8,4,.rw,.any⟩]⟩,
   ⟨0x144, [], .val 0x0, [⟨9,1,.w1c,.any⟩]⟩,
   ⟨0x148, [], .val 0x0, [⟨0,32,.w1c,.any⟩]⟩,
   ⟨0x14c, [], .val 0x0, [⟨0,32,.w1c,.any⟩]⟩,
   ⟨0x150, [], .val 0x0, [⟨0,32,.rw,.any⟩]⟩,
   ⟨0x154, [], .val 0x0, [⟨0,32,.rw,.any⟩]⟩,
   ⟨0x158, [], .val 0x0, [⟨0,32,.rw,.any⟩]⟩,
   ⟨0x160, [], .val 0x0, []⟩,
   ⟨0x164, [], .val 0x0, []⟩,
   ⟨0x200, [(64,4)], .val 0x0, []⟩]

/-- Rows of the KILN page (16_startup_and_shutdown_test.md R478). -/
def rowsKILN : List RegRow :=
  [⟨0x100, [], .val 0x130, [⟨0,6,.rwl,.any⟩, ⟨8,1,.rwl,.any⟩]⟩,
   ⟨0x104, [], .val 0x0, []⟩,
   ⟨0x108, [], .val 0, []⟩,
   ⟨0x10c, [], .val 0, []⟩,
   ⟨0x110, [(4,4)], .val 0, []⟩,
   ⟨0x120, [], .val 0, []⟩,
   ⟨0x124, [], .val 0, []⟩,
   ⟨0x128, [], .val 0x0, []⟩,
   ⟨0x12c, [], .val 0, []⟩]

/-- Rows of the PMU page (17_performance_monitoring.md R489). -/
def rowsPMU : List RegRow :=
  [⟨0x100, [], .val 0x800000, [⟨0,1,.rw,.any⟩, ⟨4,4,.rw,.any⟩, ⟨8,1,.rw,.any⟩, ⟨16,8,.rw,.rng 1 255⟩]⟩,
   ⟨0x104, [], .val 0xff03e8, [⟨0,16,.rw,.rng 1 65535⟩, ⟨16,16,.rw,.any⟩]⟩,
   ⟨0x108, [], .val 0xace1, [⟨0,16,.rw,.rng 1 65535⟩]⟩,
   ⟨0x10c, [], .val 0x0, [⟨16,1,.w1c,.any⟩]⟩,
   ⟨0x110, [], .val 0x0, [⟨0,8,.rw,.any⟩]⟩,
   ⟨0x114, [], .val 0x0, [⟨0,9,.wo,.rng 0 256⟩]⟩,
   ⟨0x118, [], .val 0x0, []⟩,
   ⟨0x120, [(4,4)], .val 0x0, []⟩,
   ⟨0x200, [(4,256)], .val 0x0, [⟨0,1,.rw,.any⟩, ⟨1,1,.rw,.any⟩, ⟨2,3,.rw,.codes [0, 1, 2, 3, 4] 0⟩, ⟨8,6,.rw,.dep .histSel⟩, ⟨16,8,.rw,.any⟩]⟩,
   ⟨0x204, [(4,256)], .val 0x0, []⟩,
   ⟨0x208, [(4,256)], .val 0x0, [⟨0,1,.w1s,.any⟩]⟩,
   ⟨0x244, [(4,256), (15,4)], .edge, [⟨0,20,.rw,.dep .edge⟩]⟩,
   ⟨0x280, [(4,256), (16,4)], .val 0x0, []⟩]

/-- Rows of the PLCD page (06_work_placement.md R182). -/
def rowsPLCD : List RegRow :=
  [⟨0x100, [(64,32)], .val 0x1000100, [⟨0,3,.rw,.codes [0, 1, 2, 3, 4, 5] 0⟩, ⟨4,4,.rw,.any⟩, ⟨8,7,.rw,.rng 1 64⟩, ⟨16,3,.rw,.any⟩, ⟨19,1,.rw,.any⟩, ⟨20,1,.rw,.any⟩, ⟨24,8,.rw,.rng 1 255⟩]⟩,
   ⟨0x104, [(64,32)], .val 0x0, [⟨0,13,.rw,.any⟩, ⟨16,7,.rw,.rng 0 64⟩, ⟨24,6,.rw,.any⟩, ⟨30,1,.rw,.any⟩]⟩,
   ⟨0x108, [(64,32)], .val 0x0, [⟨0,8,.rw,.any⟩, ⟨8,5,.rw,.dep .tcount⟩]⟩,
   ⟨0x10c, [(64,32)], .val 0x1002f00, [⟨0,6,.rw,.rng 0 47⟩, ⟨8,6,.rw,.dep .slothi⟩, ⟨16,2,.rw,.codes [0, 1, 2] 0⟩, ⟨20,2,.rw,.any⟩, ⟨24,7,.rw,.rng 1 100⟩]⟩,
   ⟨0x110, [(64,32)], .val 0x10000, [⟨0,2,.rw,.codes [0, 1, 2] 0⟩, ⟨8,6,.rw,.rng 0 47⟩, ⟨16,16,.rw,.rng 1 65535⟩]⟩,
   ⟨0x114, [(64,32)], .val 0x0, [⟨0,32,.rw,.any⟩]⟩,
   ⟨0x118, [(64,32)], .val 0x0, [⟨0,21,.rw,.any⟩]⟩,
   ⟨0x11c, [(64,32)], .val 0x0, [⟨0,32,.rw,.any⟩]⟩]

/-- Rows of the SCH page (10_strata_network.md R336). -/
def rowsSCH : List RegRow :=
  [⟨0x100, [(64,8)], .val 0x0, [⟨0,2,.rws,.codes [0, 1, 2] 0⟩, ⟨2,1,.rws,.any⟩, ⟨3,1,.rws,.any⟩, ⟨4,4,.rws,.rng 0 8⟩, ⟨8,6,.rws,.any⟩, ⟨16,5,.rws,.any⟩, ⟨21,1,.rws,.any⟩, ⟨22,1,.rws,.any⟩, ⟨24,8,.rws,.any⟩]⟩,
   ⟨0x300, [(64,8)], .val 0x0, [⟨0,2,.rws,.codes [0, 1, 2] 0⟩, ⟨2,1,.rws,.any⟩, ⟨3,1,.rws,.any⟩, ⟨4,4,.rws,.rng 0 8⟩, ⟨8,6,.rws,.any⟩, ⟨16,5,.rws,.any⟩, ⟨21,1,.rws,.any⟩, ⟨22,1,.rws,.any⟩, ⟨24,8,.rws,.any⟩]⟩,
   ⟨0x104, [(64,8)], .val 0xff, []⟩,
   ⟨0x304, [(64,8)], .val 0xff, []⟩,
   ⟨0x500, [(64,8)], .val 0x4020000, [⟨0,6,.rws,.any⟩, ⟨8,6,.rws,.any⟩, ⟨16,1,.rws,.any⟩, ⟨17,1,.rws,.any⟩, ⟨18,1,.rws,.any⟩, ⟨24,8,.rws,.rng 1 255⟩]⟩,
   ⟨0x504, [(64,8)], .val 0x0, []⟩]

/-- Rows of STRSCH_1 to STRSCH_4: slot buffers (10_strata_network.md R336). -/
def rowsBUF : List RegRow :=
  [⟨0x100, [(32,0x40), (16,4)], .val 0, [⟨0,32,.rw,.any⟩]⟩]

/-- Rows of STRSCH_5 and STRSCH_6: delivered safety payloads (R336). -/
def rowsSBUF : List RegRow :=
  [⟨0x100, [(32,0x40), (16,4)], .val 0, []⟩]

/-- One page: BLKID.TYPE and index (R49, R71, R265), its rows, the base and count of its fault sources
(FLTSRC, R54), how many EVTSEL codes it defines, and whether it always runs. -/
structure PageInfo where
  typ : Nat
  index : Nat
  rows : List RegRow
  fltBase : Nat
  fltCount : Nat
  events : Nat
  always : Bool
  deriving DecidableEq, Repr

/-- Every page of the lane, Bedrock and bridge-die maps, by address / 0x1000 (R49, R71, R46). -/
def pageTable : List (Nat × PageInfo) :=
  [(0x40000, ⟨0x1, 0, rowsSYS, 0, 8, 0, false⟩),
   (0x40001, ⟨0x2, 0, rowsCLK, 8, 5, 2, true⟩),
   (0x40002, ⟨0x3, 0, rowsPWR, 13, 6, 3, true⟩),
   (0x40003, ⟨0x4, 0, rowsFLT, 19, 5, 3, true⟩),
   (0x40004, ⟨0x5, 0, rowsPLC0, 24, 5, 5, false⟩),
   (0x40005, ⟨0x5, 1, rowsPLCD, 29, 2, 0, false⟩),
   (0x40006, ⟨0x5, 2, rowsPLCD, 31, 2, 0, false⟩),
   (0x40007, ⟨0x5, 3, rowsPLC3, 33, 2, 0, false⟩),
   (0x40008, ⟨0x6, 0, rowsLE, 35, 7, 7, false⟩),
   (0x40009, ⟨0x7, 0, rowsLESLOT, 42, 2, 1, false⟩),
   (0x4000a, ⟨0x7, 1, rowsLESLOT, 44, 2, 1, false⟩),
   (0x4000b, ⟨0x7, 2, rowsLESLOT, 46, 2, 1, false⟩),
   (0x4000c, ⟨0x8, 0, rowsLNK, 48, 6, 6, true⟩),
   (0x4000d, ⟨0x9, 0, rowsCKP, 54, 14, 5, true⟩),
   (0x40010, ⟨0xa, 0, rowsXFR, 68, 4, 5, false⟩),
   (0x40011, ⟨0xb, 0, rowsFBK, 72, 3, 2, false⟩),
   (0x40012, ⟨0xc, 0, rowsFBKCH, 75, 5, 4, false⟩),
   (0x40013, ⟨0xc, 1, rowsFBKCH, 80, 5, 4, false⟩),
   (0x40014, ⟨0xd, 0, rowsSNS, 85, 4, 3, false⟩),
   (0x40015, ⟨0xe, 0, rowsADC, 89, 4, 4, false⟩),
   (0x40020, ⟨0xf, 0, rowsSTR, 93, 7, 7, false⟩),
   (0x40021, ⟨0x10, 0, rowsSCH, 100, 2, 0, true⟩),
   (0x40022, ⟨0x10, 1, rowsBUF, 102, 2, 0, true⟩),
   (0x40023, ⟨0x10, 2, rowsBUF, 104, 2, 0, true⟩),
   (0x40024, ⟨0x10, 3, rowsBUF, 106, 2, 0, true⟩),
   (0x40025, ⟨0x10, 4, rowsBUF, 108, 2, 0, true⟩),
   (0x40026, ⟨0x10, 5, rowsSBUF, 110, 2, 0, true⟩),
   (0x40027, ⟨0x10, 6, rowsSBUF, 112, 2, 0, true⟩),
   (0x40030, ⟨0x11, 0, rowsCAN, 114, 3, 4, false⟩),
   (0x40031, ⟨0x11, 1, rowsCAN, 117, 3, 4, false⟩),
   (0x40032, ⟨0x12, 0, rowsETH, 120, 3, 4, false⟩),
   (0x40033, ⟨0x13, 0, rowsHSPI, 123, 3, 2, false⟩),
   (0x40034, ⟨0x14, 0, rowsWAKE, 126, 2, 1, false⟩),
   (0x40035, ⟨0x15, 0, rowsGPIO, 128, 2, 2, false⟩),
   (0x40040, ⟨0x16, 0, rowsPMU, 130, 2, 3, true⟩),
   (0x40050, ⟨0x17, 0, rowsKILN, 132, 3, 3, true⟩),
   (0x50000, ⟨0x20, 0, rowsBSYS, 0, 12, 0, true⟩),
   (0x50001, ⟨0x21, 0, rowsBLEASE, 12, 6, 0, true⟩),
   (0x50002, ⟨0x22, 0, rowsBENV, 18, 4, 0, true⟩),
   (0x50003, ⟨0x23, 0, rowsBSAFE, 22, 10, 0, true⟩),
   (0x50004, ⟨0x24, 0, rowsBFLT, 32, 2, 0, true⟩),
   (0x50005, ⟨0x25, 0, rowsBREQ, 34, 2, 0, true⟩),
   (0x60000, ⟨0x30, 0, rowsBRG, 136, 9, 7, false⟩),
   (0x60001, ⟨0x30, 1, rowsBRG, 145, 9, 7, false⟩),
   (0x60002, ⟨0x30, 2, rowsBRG, 154, 9, 7, false⟩),
   (0x60003, ⟨0x30, 3, rowsBRG, 163, 9, 7, false⟩),
   (0x60004, ⟨0x30, 4, rowsBRG, 172, 9, 7, false⟩),
   (0x60005, ⟨0x30, 5, rowsBRG, 181, 9, 7, false⟩),
   (0x60006, ⟨0x30, 6, rowsBRG, 190, 9, 7, false⟩),
   (0x60007, ⟨0x30, 7, rowsBRG, 199, 9, 7, false⟩),
   (0x60008, ⟨0x31, 0, rowsBCOM, 208, 3, 3, false⟩)]

end Sys2Proof.Machine
end

