-- ==== Sys2Proof/Machine/Table.lean ====
section
/-!
DEFINITION. Sparse maps in one canonical form: keys strictly rising, no entry equal to what an
unlisted key reads as. Register files, memories and every indexed store of the machine use it, so
that equal contents are equal data.
-/
namespace Sys2Proof.Machine

/-- What key `k` reads as, `d` giving the value of an unlisted key. -/
def Table.get {V : Type} (d : Nat → V) (t : Table V) (k : Nat) : V :=
  match t with
  | [] => d k
  | (j, v) :: r => if j = k then v else Table.get d r k

/-- Removes key `k`. -/
def Table.erase {V : Type} (t : Table V) (k : Nat) : Table V :=
  t.filter (fun e => decide (e.1 ≠ k))

/-- Puts `v` at `k` in a list without `k`, keeping the keys rising. -/
def Table.put {V : Type} (t : Table V) (k : Nat) (v : V) : Table V :=
  match t with
  | [] => [(k, v)]
  | (j, w) :: r => if k < j then (k, v) :: (j, w) :: r else (j, w) :: Table.put r k v

/-- Writes `v` at `k`; writing what an unlisted key reads as removes the entry. -/
def Table.set {V : Type} [DecidableEq V] (d : Nat → V) (t : Table V) (k : Nat) (v : V) : Table V :=
  if v = d k then Table.erase t k else Table.put (Table.erase t k) k v

/-- The canonical form: keys strictly rising and no entry equal to the unlisted value. -/
def Table.wf {V : Type} [DecidableEq V] (d : Nat → V) (t : Table V) : Bool :=
  match t with
  | [] => true
  | (k, v) :: r => decide (v ≠ d k) && r.all (fun e => decide (k < e.1)) && Table.wf d r

end Sys2Proof.Machine
end

