-- ==== Sys2Proof/Machine/Regs.lean ====
section
/-!
DEFINITION. Reading and writing registers: bit fields of a word, the reset value of every register
(R15, R49, R50), the row a register address falls in, and the accessors every other file uses.
-/
namespace Sys2Proof.Machine
open Sys2Proof

/-- `width` ones at bit `lo`. -/
def fieldMask (lo width : Nat) : Word := (BitVec.allOnes 32 >>> (32 - width)) <<< lo

/-- The field at `lo`, `width` bits wide, as a number. -/
def getBits (w : Word) (lo width : Nat) : Nat := (w.toNat >>> lo) % 2 ^ width

/-- `w` with the field at `lo` set to `v` modulo its width. -/
def setBits (w : Word) (lo width v : Nat) : Word :=
  (w &&& ~~~(fieldMask lo width)) ||| ((BitVec.ofNat 32 v <<< lo) &&& fieldMask lo width)

/-- A two's complement field of `width` bits. -/
def toSigned (width v : Nat) : Int := if v < 2 ^ (width - 1) then (v : Int) else (v : Int) - (2 ^ width : Nat)

/-- The `width`-bit two's complement code of an integer. -/
def ofSigned (width : Nat) (i : Int) : Nat := (i % (2 ^ width : Nat)).toNat

/-- Severity codes (R404). -/
def Sev.note : Nat := 0
def Sev.warn : Nat := 1
def Sev.fence : Nat := 2
def Sev.laneDown : Nat := 3
def Sev.deviceSafe : Nat := 4

/-- The default severity of a lane source (R396, R397 and the chapters they name). -/
def srcSev (s : Nat) : Nat :=
  if [0, 8, 13, 19, 48, 68, 89, 132, 24, 29, 31, 33, 35, 42, 44, 46, 54, 72, 75, 80, 85, 93, 100, 102, 104, 106,
      108, 110, 112, 114, 117, 120, 123, 126, 128, 130, 208, 3, 6, 52, 53, 70, 71, 92, 27, 41, 77, 79, 82, 84,
      87, 98, 99, 125].contains s then Sev.note
  else if [11, 12, 15, 16, 22, 23].contains s then Sev.laneDown
  else if [21, 51, 37, 38].contains s then Sev.fence
  else if 60 ≤ s ∧ s ≤ 67 then Sev.fence
  else if 136 ≤ s ∧ s < 208 ∧ ((s - 136) % 9 = 0 ∨ (s - 136) % 9 = 5) then Sev.note
  else Sev.warn

/-- The lowest severity a lane source may be set to (R397). -/
def srcSevMin (s : Nat) : Nat :=
  if [11, 12, 15, 16, 22, 23].contains s then Sev.laneDown
  else if s = 21 ∨ (60 ≤ s ∧ s ≤ 67) then Sev.fence else Sev.note

/-- Sources whose severity is fixed (R397, R417). -/
def srcSevFixed (s : Nat) : Bool := s = 21 || s = 22 || s = 23

/-- A source that R396 reserves. -/
def srcReserved (s : Nat) : Bool := s = 135 || decide (211 ≤ s)

/-- The dependency group of a lane source (R396). -/
def srcGroup (s : Nat) : Nat :=
  if s ≤ 23 then 0 else if s ≤ 34 then 1 else if s ≤ 47 then 2 else if s ≤ 53 then 3 else if s ≤ 67 then 4
  else if s ≤ 71 then 5 else if s ≤ 84 then 6 else if s ≤ 92 then 7 else if s ≤ 113 then 8 else if s ≤ 127 then 9
  else if s ≤ 135 then 0 else if s ≤ 207 then 10 + (s - 136) / 9 / 2 else 14

/-- The class of a lane source, as SSTAT_s.CLASS codes it (R41, R396, R397, R417). -/
def srcClass (s : Nat) : Nat :=
  if [11, 12, 15, 16, 22, 23].contains s then 1
  else if s = 51 then 4 else if s = 50 then 5 else if s = 37 ∨ s = 38 ∨ s = 40 then 7
  else if 56 ≤ s ∧ s ≤ 67 then 9 else if s = 95 ∨ s = 96 then 10 else if s = 5 then 11 else 0

/-- The reset value of SRCCFG_s (R102, R150, R397, R417). -/
def srcCfgReset (s : Nat) : Nat :=
  if srcReserved s then 0 else
  let counted := (56 ≤ s ∧ s ≤ 59) ∨ s = 40
  let csev := if counted then Sev.fence else srcSev s
  srcSev s + csev * 2 ^ 4 + (if counted then 3 else 0) * 2 ^ 8 + srcGroup s * 2 ^ 12 + 100 * 2 ^ 16

/-- The reset value of DEPMASK_s (R403). -/
def depMaskReset (s : Nat) : Nat :=
  if srcReserved s then 0
  else if 8 ≤ s ∧ s ≤ 18 then 0xFFFF
  else if s = 4 ∨ s = 5 then 0x0027
  else if s = 50 then 0x000A
  else if s = 51 then 0x7C08
  else if 208 ≤ s ∧ s ≤ 210 then 0x7C00
  else 2 ^ srcGroup s

/-- The default severity of a Bedrock source (R398, R391). -/
def bedSevDefault (s : Nat) : Nat :=
  if s > 35 then 0
  else if [0, 12, 18, 22, 32, 34, 14, 15, 31].contains s then Sev.note else Sev.warn

/-- The first cycle of slot `s`'s window in a frame of `f` cycles (R146). -/
def slotStart (f s : Nat) : Nat := s * f / 48

/-- Page number of an address. -/
def pageOf (a : Nat) : Nat := a / 0x1000

/-- The page an address lies in, if the map has one (R49, R71, R46). -/
def pageInfo (a : Nat) : Option PageInfo := (pageTable.find? (fun e => e.1 == pageOf a)).map (·.2)

/-- Whether offset `k` past a row's base falls on one of its instances. -/
def dimMatch : List (Nat × Nat) → Nat → Bool
  | [], k => k == 0
  | (n, st) :: ds, k => decide (k / st < n) && dimMatch ds (k % st)

/-- The instance numbers of offset `k` past a row's base. -/
def dimIndex : List (Nat × Nat) → Nat → List Nat
  | [], _ => []
  | (_, st) :: ds, k => (k / st) :: dimIndex ds (k % st)

/-- The row of a register at page offset `off`. -/
def rowAt (rows : List RegRow) (off : Nat) : Option RegRow :=
  rows.find? (fun r => decide (r.off ≤ off) && dimMatch r.dims (off - r.off))

/-- The row and the instance numbers of a register address. -/
def findRow (a : Nat) : Option (RegRow × List Nat) :=
  match pageInfo a with
  | none => none
  | some p => (rowAt p.rows (a % 0x1000)).map (fun r => (r, dimIndex r.dims (a % 0x1000 - r.off)))

/-- The reset value of a header register (R49 to R55). -/
def headerReset (own : Lane) (a : Nat) (p : PageInfo) : Word :=
  let lanePage := decide (a < 0x50000000)
  match a % 0x1000 with
  | 0x000 => BitVec.ofNat 32 (p.typ * 2 ^ 16 + (if lanePage then own.num * 2 ^ 15 else 0) + p.index * 2 ^ 8 + 1)
  | 0x004 => Config.blkCap (pageOf a)
  | 0x00C => if p.always then 1 else 0
  | 0x01C => BitVec.ofNat 32 (own.num * 0x100000)
  | 0x028 => BitVec.ofNat 32 (p.fltBase + p.fltCount * 2 ^ 8 +
      (if 0x50000 ≤ pageOf a ∧ pageOf a < 0x60000 then 2 ^ 31 else 0))
  | _ => 0

/-- The reset value that a row states, for the instance at `a`. -/
def rstValue (own : Lane) (a : Nat) (r : RegRow) (idx : List Nat) : Word :=
  match r.rst with
  | .val n => BitVec.ofNat 32 n
  | .byLane x y => BitVec.ofNat 32 (match own with | .A => x | .B => y)
  | .msg => BitVec.ofNat 32 (own.num * 0x100000)
  | .sphase => BitVec.ofNat 32 (slotStart 16000 ((pageOf a - 0x40009) * 16 + idx.headD 0))
  | .ophase => BitVec.ofNat 32 (slotStart 16000 ((pageOf a - 0x40009) * 16 + idx.headD 0) + 320)
  | .bedSev => BitVec.ofNat 32
      ((List.range 8).foldl (fun n j => n + bedSevDefault (8 * idx.headD 0 + j) * 2 ^ (4 * j)) 0)
  | .macSrc => BitVec.ofNat 32 (0x54520000 + 0x10 * own.num + idx.headD 0)
  | .srcCfg => BitVec.ofNat 32 (srcCfgReset (idx.headD 0))
  | .depMask => BitVec.ofNat 32 (depMaskReset (idx.headD 0))
  | .sstat => BitVec.ofNat 32 (srcClass (idx.headD 0) * 2 ^ 16)
  | .edge => BitVec.ofNat 32 (16 * (idx.getD 1 0 + 1))

/-- What a register reads as after reset; a reserved offset reads 0 (R14). -/
def regReset (own : Lane) (a : Nat) : Word :=
  match pageInfo a with
  | none => 0
  | some p =>
    if a % 0x1000 < 0x100 then headerReset own a p
    else match rowAt p.rows (a % 0x1000) with
      | none => 0
      | some r => rstValue own a r (dimIndex r.dims (a % 0x1000 - r.off))

/-- The stored word of a register. -/
def RegFile.rd (rf : RegFile) (a : Nat) : Word := Table.get (regReset rf.own) rf.tab a

/-- Stores a word in a register. -/
def RegFile.wr (rf : RegFile) (a : Nat) (w : Word) : RegFile :=
  { rf with tab := Table.set (regReset rf.own) rf.tab a w }

/-- A field of a register. -/
def RegFile.get (rf : RegFile) (f : Fld) : Nat := getBits (rf.rd f.addr) f.lo f.width

/-- Sets a field of a register. -/
def RegFile.put (rf : RegFile) (f : Fld) (v : Nat) : RegFile :=
  rf.wr f.addr (setBits (rf.rd f.addr) f.lo f.width v)

/-- Adds to a saturating counter field. -/
def RegFile.bump (rf : RegFile) (f : Fld) (k : Nat) : RegFile :=
  rf.put f (min (rf.get f + k) (2 ^ f.width - 1))

/-- Returns every register of the addresses `p` picks to its reset value. -/
def RegFile.clear (rf : RegFile) (p : Nat → Bool) : RegFile :=
  { rf with tab := rf.tab.filter (fun e => !p e.1) }

/-- Header registers of the page with base address `b` (R50, R51, R55, R57). -/
def F.run (b : Nat) : Fld := ⟨b + 0x008, 0, 1⟩
def F.running (b : Nat) : Fld := ⟨b + 0x00C, 0, 1⟩
def F.locked (b : Nat) : Fld := ⟨b + 0x00C, 1, 1⟩
def F.clamped (b : Nat) : Fld := ⟨b + 0x00C, 2, 1⟩
def F.parErr (b : Nat) : Fld := ⟨b + 0x00C, 3, 1⟩
def F.ignWr (b : Nat) : Fld := ⟨b + 0x00C, 4, 1⟩
def F.clampOffset (b : Nat) : Fld := ⟨b + 0x020, 0, 12⟩
def F.clampLsb (b : Nat) : Fld := ⟨b + 0x020, 16, 5⟩
def F.clampCount (b : Nat) : Fld := ⟨b + 0x020, 24, 8⟩
def F.evtSel (b : Nat) : Fld := ⟨b + 0x030, 0, 8⟩
def F.evtMode (b : Nat) : Fld := ⟨b + 0x030, 8, 2⟩
def R.blkctrl (b : Nat) : Nat := b + 0x008
def R.blkstat (b : Nat) : Nat := b + 0x00C
def R.irqRaw (b : Nat) : Nat := b + 0x010
def R.irqEn (b : Nat) : Nat := b + 0x014
def R.irqStat (b : Nat) : Nat := b + 0x018
def R.irqMsg (b : Nat) : Nat := b + 0x01C
def R.clampVal (b : Nat) : Nat := b + 0x024
def R.lockKey (b : Nat) : Nat := b + 0x02C
def R.evtCnt (b : Nat) : Nat := b + 0x034

/-- Page base addresses (R49, R71, R265, R267). -/
def P.SYS : Nat := 0x40000000
def P.CLK : Nat := 0x40001000
def P.PWR : Nat := 0x40002000
def P.FLT : Nat := 0x40003000
def P.PLC : Nat := 0x40004000
def P.LE : Nat := 0x40008000
def P.LESLOT (p : Nat) : Nat := 0x40009000 + 0x1000 * p
def P.LNK : Nat := 0x4000C000
def P.CKP : Nat := 0x4000D000
def P.XFR : Nat := 0x40010000
def P.FBK : Nat := 0x40011000
def P.FBKCH (p : Nat) : Nat := 0x40012000 + 0x1000 * p
def P.SNS : Nat := 0x40014000
def P.ADC : Nat := 0x40015000
def P.STR : Nat := 0x40020000
def P.STRSCH (i : Nat) : Nat := 0x40021000 + 0x1000 * i
def P.CAN (u : Nat) : Nat := 0x40030000 + 0x1000 * u
def P.ETH : Nat := 0x40032000
def P.HSPI : Nat := 0x40033000
def P.WAKE : Nat := 0x40034000
def P.GPIO : Nat := 0x40035000
def P.PMU : Nat := 0x40040000
def P.KILN : Nat := 0x40050000
def P.BSYS : Nat := 0x50000000
def P.BLEASE : Nat := 0x50001000
def P.BENV : Nat := 0x50002000
def P.BSAFE : Nat := 0x50003000
def P.BFLT : Nat := 0x50004000
def P.BREQ : Nat := 0x50005000
def P.BRG (n : Nat) : Nat := 0x60000000 + 0x1000 * n
def P.BCOM : Nat := 0x60008000

end Sys2Proof.Machine
end

