-- ==== Sys2Proof/Machine/Ops.lean ====
section
/-!
DEFINITION. The named operations over a lane, the Bedrock die, the bridge die and the whole device:
registers and fields, memory, interrupt conditions (R64 to R66), event counters (R55), fault-source
events (R54, R394) and free values.
-/
namespace Sys2Proof.Machine
open Sys2Proof

/-- Which lane die this is. -/
def LaneState.id (l : LaneState) : Lane := l.regs.own
def LaneState.rd (l : LaneState) (a : Nat) : Word := l.regs.rd a
def LaneState.wr (l : LaneState) (a : Nat) (w : Word) : LaneState := { l with regs := l.regs.wr a w }
def LaneState.get (l : LaneState) (f : Fld) : Nat := l.regs.get f
def LaneState.put (l : LaneState) (f : Fld) (v : Nat) : LaneState := { l with regs := l.regs.put f v }
def LaneState.bump (l : LaneState) (f : Fld) (k : Nat) : LaneState := { l with regs := l.regs.bump f k }
/-- Adds 1 to a field, modulo its width. -/
def LaneState.incr (l : LaneState) (f : Fld) : LaneState := l.put f (l.get f + 1)

def BedState.rd (b : BedState) (a : Nat) : Word := b.regs.rd a
def BedState.wr (b : BedState) (a : Nat) (w : Word) : BedState := { b with regs := b.regs.wr a w }
def BedState.get (b : BedState) (f : Fld) : Nat := b.regs.get f
def BedState.put (b : BedState) (f : Fld) (v : Nat) : BedState := { b with regs := b.regs.put f v }
def BedState.bump (b : BedState) (f : Fld) (k : Nat) : BedState := { b with regs := b.regs.bump f k }

def BrgState.rd (b : BrgState) (a : Nat) : Word := b.regs.rd a
def BrgState.wr (b : BrgState) (a : Nat) (w : Word) : BrgState := { b with regs := b.regs.wr a w }
def BrgState.get (b : BrgState) (f : Fld) : Nat := b.regs.get f
def BrgState.put (b : BrgState) (f : Fld) (v : Nat) : BrgState := { b with regs := b.regs.put f v }
def BrgState.bump (b : BrgState) (f : Fld) (k : Nat) : BrgState := { b with regs := b.regs.bump f k }

/-- 1 for true, 0 for false. -/
def bit (b : Bool) : Nat := if b then 1 else 0

/-- Memory: what a byte reads as; a byte that nothing has written reads 0 (R453). -/
def LaneState.byte (l : LaneState) (a : Nat) : BitVec 8 := Table.get (fun _ => 0) l.mem a

/-- The canonical form of a lane's memory: addresses strictly rising, no byte listed that an unlisted address reads as. -/
def Memory.wf (m : List Host.Cell) : Bool := Table.wf (fun _ => 0) m

/-- Stores a byte. -/
def LaneState.setByte (l : LaneState) (a : Nat) (v : BitVec 8) : LaneState :=
  { l with mem := Table.set (fun _ => 0) l.mem a v }

/-- `n` bytes from `a`, little-endian (R12), as a number. -/
def LaneState.load (l : LaneState) (a : Nat) : Nat → Nat
  | 0 => 0
  | n + 1 => (l.byte a).toNat + 256 * l.load (a + 1) n

/-- Stores the low `n` bytes of `v` from `a`, little-endian (R12). -/
def LaneState.store (l : LaneState) (a : Nat) (n : Nat) (v : Nat) : LaneState :=
  match n with
  | 0 => l
  | k + 1 => (l.setByte a (BitVec.ofNat 8 v)).store (a + 1) k (v / 256)

def LaneState.word (l : LaneState) (a : Nat) : Word := BitVec.ofNat 32 (l.load a 4)
def LaneState.dword (l : LaneState) (a : Nat) : DWord := BitVec.ofNat 64 (l.load a 8)
def LaneState.setWord (l : LaneState) (a : Nat) (w : Word) : LaneState := l.store a 4 w.toNat
def LaneState.setDword (l : LaneState) (a : Nat) (w : DWord) : LaneState := l.store a 8 w.toNat

/-- A store in an engine memory: its bytes carry good parity (R118). -/
def LaneState.engStore (l : LaneState) (a n v : Nat) : LaneState :=
  { l.store a n v with badPar := l.badPar.filter fun b => !(decide (a ≤ b ∧ b < a + n)) }

/-- Whether a FENCE reaction isolates unit `u` (R405). -/
def LaneState.fencedBy (l : LaneState) (u : FenceUnit) : Bool := l.fences.any fun e => decide (e.2 = u)

/-- Changes the loop engine's slot machinery. -/
def LaneState.modLoop (l : LaneState) (f : LoopState → LoopState) : LaneState := { l with loop := f l.loop }

/-- A fault source of this lane raises an event (R394). -/
def LaneState.raise (l : LaneState) (src : Nat) : LaneState := { l with events := l.events ++ [⟨src, 0⟩] }
/-- An event that names its slot or bank (R396). -/
def LaneState.raiseAt (l : LaneState) (src unit : Nat) : LaneState := { l with events := l.events ++ [⟨src, unit⟩] }

/-- Sends the message of message register `r`; identity 0 suppresses it (R65, R66). -/
def LaneState.sendMsg (l : LaneState) (r : Nat) : LaneState :=
  if l.get (F.identity r) = 0 then l
  else { l with msgs := l.msgs ++ [⟨pageOf r, l.get (F.hart r), l.get (F.identity r)⟩] }

/-- IRQSTAT latches the conditions of `m`, and the page sends one message when a bit newly latched is
enabled (R64). -/
def LaneState.irqLatch (l : LaneState) (b : Nat) (m : Word) : LaneState :=
  let st := l.rd (R.irqStat b)
  let fire := m &&& ~~~st &&& l.rd (R.irqEn b)
  let l := l.wr (R.irqStat b) (st ||| m)
  if fire = 0 then l else l.sendMsg (R.irqMsg b)

/-- The raw conditions of `m` become high; those that were low latch (R64). -/
def LaneState.irqRise (l : LaneState) (b : Nat) (m : Word) : LaneState :=
  let raw := l.rd (R.irqRaw b)
  (l.wr (R.irqRaw b) (raw ||| m)).irqLatch b (m &&& ~~~raw)

/-- The raw conditions of `m` become low. -/
def LaneState.irqFall (l : LaneState) (b : Nat) (m : Word) : LaneState :=
  l.wr (R.irqRaw b) (l.rd (R.irqRaw b) &&& ~~~m)

/-- What one cycle does to the page's conditions: those of `m` take the levels of `v`, those of `p` pulse; the page sends
one message at most (R64). -/
def LaneState.irqCycle (l : LaneState) (b : Nat) (m v p : Word) : LaneState :=
  let raw := l.rd (R.irqRaw b)
  (l.wr (R.irqRaw b) ((raw &&& ~~~m) ||| (v &&& m))).irqLatch b ((v &&& m &&& ~~~raw) ||| p)

/-- The raw conditions of `m` pulse: they rise, latch and fall again (R64). No condition that pulses is also a level. -/
def LaneState.irqPulse (l : LaneState) (b : Nat) (m : Word) : LaneState := l.irqLatch b m

/-- Bit `i` as a mask. -/
def mbit (i : Nat) : Word := 1 <<< i

/-- The raw condition `i` follows the level `v`. -/
def LaneState.irqLevel (l : LaneState) (b i : Nat) (v : Bool) : LaneState :=
  if v then l.irqRise b (mbit i) else l.irqFall b (mbit i)

/-- The page's event `code` is high for `k` cycles, at least one, without a break: the event counter counts the cycles,
or, with MODE 1, one rising edge (R55). -/
def LaneState.countN (l : LaneState) (b code k : Nat) : LaneState :=
  if l.get (F.evtSel b) = code then
    l.wr (R.evtCnt b) (l.rd (R.evtCnt b) + BitVec.ofNat 32 (if l.get (F.evtMode b) = 1 then 1 else k))
  else l
def LaneState.count (l : LaneState) (b code : Nat) : LaneState := l.countN b code 1
def BrgState.count (s : BrgState) (b code : Nat) : BrgState :=
  if s.get (F.evtSel b) = code then s.wr (R.evtCnt b) (s.rd (R.evtCnt b) + 1) else s

/-- The lane named. -/
def State.lane (s : State) : Lane → LaneState
  | .A => s.a
  | .B => s.b
/-- Replaces the lane named. -/
def State.setLane (s : State) (x : Lane) (l : LaneState) : State :=
  match x with
  | .A => { s with a := l }
  | .B => { s with b := l }
/-- Applies a change to the lane named. -/
def State.modLane (s : State) (x : Lane) (f : LaneState → LaneState) : State := s.setLane x (f (s.lane x))
/-- Applies a change to both lanes. -/
def State.modLanes (s : State) (f : LaneState → LaneState) : State := { s with a := f s.a, b := f s.b }
def State.modBed (s : State) (f : BedState → BedState) : State := { s with bed := f s.bed }
def State.modBrg (s : State) (f : BrgState → BrgState) : State := { s with brg := f s.brg }

/-- A Bedrock fault source raises an event (R394, R398). -/
def State.bedRaise (s : State) (src : Nat) : State :=
  s.modBed fun b => { b with events := b.events ++ [⟨src, none⟩] }
/-- An event of LANEDIS or DMDTMO, raised against one lane (R398). -/
def State.bedRaiseFor (s : State) (src : Nat) (x : Lane) : State :=
  s.modBed fun b => { b with events := b.events ++ [⟨src, some x⟩] }

/-- A Bedrock or bridge-die page's conditions pulse in both lanes' copies (R69, R71). -/
def State.irqPulseBoth (s : State) (b : Nat) (m : Word) : State := s.modLanes (·.irqPulse b m)
/-- A Bedrock page's condition follows a level in both lanes' copies (R71). -/
def State.irqLevelBoth (s : State) (b i : Nat) (v : Bool) : State := s.modLanes (·.irqLevel b i v)

/-- Of the messages after the first `k`, one of each kind: a page sends one message in a cycle (R64). -/
def LaneState.mergeMsgs (l : LaneState) (k : Nat) : LaneState :=
  { l with msgs := l.msgs.take k ++ (l.msgs.drop k).eraseDups }
/-- A change that takes place in one cycle (R64). -/
def State.oneCycle (s : State) (f : State → State) : State :=
  let t := f s
  { t with a := t.a.mergeMsgs s.a.msgs.length, b := t.b.mergeMsgs s.b.msgs.length }

/-- Picks the value of a lane. -/
def byLane {α : Type} (x : Lane) (a b : α) : α :=
  match x with
  | .A => a
  | .B => b

/-- The value of a phase: 0 is U, 1 is V, others W. -/
def Tri.get {α : Type} (t : Tri α) (p : Nat) : α := if p = 0 then t.u else if p = 1 then t.v else t.w
def Tri.set {α : Type} (t : Tri α) (p : Nat) (x : α) : Tri α :=
  if p = 0 then { t with u := x } else if p = 1 then { t with v := x } else { t with w := x }
/-- The same value for every phase. -/
def Tri.all {α : Type} (x : α) : Tri α := ⟨x, x, x⟩
def Tri.map {α β : Type} (t : Tri α) (f : α → β) : Tri β := ⟨f t.u, f t.v, f t.w⟩

/-- Draws a fresh free value (the spec states none). -/
def State.free (s : State) : DWord := Config.freeWord s.freeCtr
def State.freeNext (s : State) : State := { s with freeCtr := s.freeCtr + 1 }

/-- The agent's number, for shadows and responses (R61). -/
def agentNum : Agent → Nat
  | .hart n => n.val
  | .xfr => 4
  | .dbg => 5
  | .host => 6
  | .boot => 7

/-- Records what an agent's access returned. -/
def LaneState.respond (l : LaneState) (g : Agent) (r : Resp) : LaneState :=
  { l with resp := Table.set (fun _ => .none) l.resp (agentNum g) r }
/-- What an agent's last access returned. -/
def LaneState.response (l : LaneState) (g : Agent) : Resp := Table.get (fun _ => .none) l.resp (agentNum g)

/-- No command waits: 1 µs passes. BTIME counts while Bedrock's clocks run (R236, R439). -/
def State.tick (s : State) : State :=
  { s with nowUs := s.nowUs + 1, bed := if s.bed.on && !s.bed.clockOff then { s.bed with btime := s.bed.btime + 1 } else s.bed }

/-- A command that completes with this state. -/
def done (s : State) : Host.Outcome State Fault Refusal := .next s
/-- A command whose effect is confined to one lane. -/
def onLane (x : Lane) (f : LaneState → LaneState) (s : State) : Host.Outcome State Fault Refusal :=
  .next (s.modLane x f)

/-- Updates one element of an indexed store. -/
def Table.upd {V : Type} [DecidableEq V] (d : Nat → V) (t : Table V) (k : Nat) (f : V → V) : Table V :=
  Table.set d t k (f (Table.get d t k))

/-- A list with `k` added in rising order, once. -/
def insertNat (k : Nat) : List Nat → List Nat
  | [] => [k]
  | j :: r => if k < j then k :: j :: r else if k = j then j :: r else j :: insertNat k r

end Sys2Proof.Machine
end

