-- ==== Sys2Proof/Machine/Legal.lean ====
section
/-!
DEFINITION. Legal ranges and field-by-field writing (R13 to R15, R56 to R58): the value a written field
takes, and what a write of a whole register does to its page's clamp record.
-/
namespace Sys2Proof.Machine
open Sys2Proof

/-- The nearest value of `lo` to `hi`; an empty range gives its upper end. -/
def clampTo (lo hi v : Nat) : Nat := min (max v lo) hi

/-- The nearest multiple of `m` to `v`, the lower of two equally near ones, held in `lo` to `hi`. -/
def nearestMult (m lo hi v : Nat) : Nat :=
  let d := v / m * m
  clampTo lo hi (if v - d ≤ d + m - v then d else d + m)

/-- The nearest member of a list, the lower of two equally near ones. -/
def nearest (xs : List Nat) (v : Nat) : Nat :=
  let dist := fun x : Nat => max x v - min x v
  match xs with
  | [] => v
  | x :: r => r.foldl (fun best y => if dist y < dist best ∨ (dist y = dist best ∧ y < best) then y else best) x

/-- The four machine hart IDs of a lane (R77). -/
def hartIds (l : Lane) : List Nat := (List.range 4).map (· + 0x10 * l.num)

/-- Input binding types and the highest INDEX and SEL of each (R155, R159). -/
def bindIndexMax (t : Nat) : Nat :=
  match t with
  | 0 => 127 | 1 => 63 | 2 => 15 | 3 => 15 | 4 => 3 | 5 => 7 | 6 => 31 | 7 => 127 | 8 => 7 | 9 => 127 | _ => 0
def bindSelMax (t : Nat) : Nat :=
  match t with
  | 0 => 7 | 1 => 7 | 3 => 7 | 4 => 3 | 5 => 2 | 7 => 7 | 8 => 3 | 9 => 7 | _ => 0

/-- The legal SEL values of a histogram source (R487). -/
def histSels (src : Nat) : List Nat :=
  match src with
  | 1 => [0, 1, 2, 3, 4]
  | 2 => List.range 48 ++ [63]
  | 3 => [0, 1, 2, 3]
  | 4 => [0, 1]
  | _ => [0]

/-- Instance number of the slot whose table register lies at `a`. -/
def slotAt (a : Nat) : Nat := (pageOf a - 0x40009) * 16 + (a % 0x1000 - 0x100) / 0x40

/-- The value a field takes when `v` is written (R56): `n` is the register with its lower fields already
clamped and its higher fields as they were held, `w` the whole word written. -/
def legalDep (rf : RegFile) (a : Nat) (n w : Word) (r : DepRule) (v : Nat) : Nat :=
  match r with
  | .dbtTseg1 =>
    let brp := max 1 (getBits n 0 6)
    clampTo (max 1 ((10 + brp - 1) / brp - 1 - clampTo 1 15 (getBits w 16 4))) 31 v
  | .frame => let c := clampTo 16000 800000 v; c - c % 2
  | .bcount => clampTo 0 (min 31 (256 - getBits n 16 8)) v
  | .xbase => clampTo 0 (16384 - max (2 * getBits n 16 6) 1) v
  | .bsize => clampTo 0 (min 63 ((16384 - getBits n 0 14) / 2)) v
  | .bindType => if getBits n 1 1 = 0 then (if v ≤ 7 then v else 0) else (if 8 ≤ v ∧ v ≤ 10 then v else 10)
  | .bindIndex => clampTo 0 (bindIndexMax (getBits n 2 4)) v
  | .bindSel => clampTo 0 (bindSelMax (getBits n 2 4)) v
  | .bindZw => if getBits n 1 1 = 0 then clampTo 0 11 v else clampTo 16 23 v
  | .nofs => clampTo 0 (getBits (rf.rd (R.LE_CTXCOEF (getBits n 8 7))) 16 6 - 5) v
  | .klo => clampTo 1 (getBits n 9 9) v
  | .khi => clampTo (getBits n 0 9) 255 v
  | .nlo => clampTo 1 (getBits n 9 9) v
  | .nhi => clampTo (getBits n 0 9) 255 v
  | .trkBin =>
    let lim := rf.rd (a / 0x40 * 0x40 + 0x08)
    clampTo (getBits lim 0 9) (getBits lim 9 9) v
  | .sphase =>
    let f := rf.get F.LE_FRAMECFG_FRAME; let s := slotAt a
    clampTo (slotStart f s) (slotStart f (s + 1) - 304) v
  | .ophase =>
    let f := rf.get F.LE_FRAMECFG_FRAME; let p := getBits (rf.rd (a - 4)) 0 20
    let o := clampTo 0 (f - 1) v
    if (o + f - p) % f < 320 then (p + 320) % f else o
  | .ylo => clampTo 0 (0x3C00 - 128 * getBits n 0 7) v
  | .xlo => clampTo 0 (16384 - 128 * getBits n 0 8) v
  | .bridges => v
  | .pdiv =>
    let m := rf.get F.BCOM_MPER_PER
    nearest ((List.range 128).filter fun k => k ≠ 0 ∧ m % k = 0 ∧ 4000 ≤ m / k) v
  | .ovth => clampTo (getBits n 0 8 + 8) 150 v
  | .posCpr => clampTo 0 ((rf.rd (a / 0x100 * 0x100 + 4)).toNat - 1) v
  | .ratioN => clampTo 1 (max 1 (getBits w 16 16)) v
  | .f1n => clampTo 0 (getBits n 16 3) v
  | .frameCycle => clampTo 0 (rf.get F.LE_FRAMECFG_FRAME - 1) v
  | .slotStart => clampTo (getBits n 0 10 + 1) 1023 v
  | .slotStartPrev => clampTo (getBits (rf.rd (a - 4)) 16 10 + 1) 1023 v
  | .apo => clampTo 1 (getBits n 0 12 - 58) v
  | .macBit8 b =>
    if v / 256 % 2 = b then v
    else
      let blk := v / 256 * 256
      let up := blk + 256
      if blk = 0 then up else if up > 0xFFFF then blk - 1 else if v + 1 - blk ≤ up - v then blk - 1 else up
  | .macReset b r => if v / 256 % 2 = b then v else r
  | .sjw => clampTo 1 (getBits n 16 (if a % 0x1000 = 0x100 then 7 else 4)) v
  | .txring => nearestMult 16 0x10000000 (0x14000000 - 16 * rf.get F.ETH_RINGLEN_TXN) v
  | .rxring => nearestMult 16 0x10000000 (0x14000000 - 16 * rf.get F.ETH_RINGLEN_RXN) v
  | .ringTx => clampTo 1 256 v
  | .ringRx => clampTo 1 256 v
  | .hwbase =>
    if (0x10000 ≤ v ∧ v < 0x14000) ∨ (0x40000 ≤ v ∧ v < 0x40051) then v else nearest [0x10000, 0x40000] v
  | .hwsize =>
    let p := getBits (rf.rd (a - 4)) 12 20
    clampTo 0 (if 0x40000 ≤ p then 0x40051 - p else if 0x10000 ≤ p then 0x14000 - p else 0) v
  | .sevMin =>
    let s := (a % 0x1000 - 0x800) / 8
    if srcSevFixed s then srcSev s else clampTo (srcSevMin s) 4 v
  | .csev =>
    let s := (a % 0x1000 - 0x800) / 8
    if srcSevFixed s then srcSev s else clampTo (getBits n 0 3) 4 v
  | .chrbase => nearestMult 32 0x10000000 (0x14000000 - 32 * getBits (rf.rd (a + 4)) 0 9) v
  | .chrlen => clampTo 1 256 v
  | .mult8 => nearestMult 8 0 0xFFFFF8 v
  | .histSel => nearest (histSels (getBits n 2 3)) v
  | .edge =>
    let i := (a % 0x100 - 0x40) / 4
    let prev := if i = 1 then 0 else getBits (rf.rd (a - 4)) 0 20
    clampTo (prev + 1) (0xFFFF0 + i) v
  | .tcount => clampTo 0 (min 31 (256 - getBits n 0 8)) v
  | .slothi => clampTo (getBits n 0 6) 47 v
  | .hartId => nearest (hartIds rf.own) v

/-- The value a field takes when `v` is written (R15, R56). -/
def legalValue (rf : RegFile) (a : Nat) (n w : Word) (f : FieldRow) (v : Nat) : Nat :=
  match f.legal with
  | .any => v
  | .rng lo hi => clampTo lo hi v
  | .signed lo hi => ofSigned f.width (min (max (toSigned f.width v) lo) hi)
  | .codes cs rst => if cs.contains v then v else rst
  | .dep r => legalDep rf a n w r v

/-- The state of a field-by-field write: the word stored, the word acted on (with WO fields), the fields
clamped, the lowest of them, and whether a field was ignored. -/
structure WriteAcc where
  word : Word
  eff : Word
  clamped : Nat
  lsb : Nat
  ignored : Bool
  deriving DecidableEq, Repr

/-- What holds at the instant of the write: page locked, block running, the bits whose fields
the block makes unwritable (R58; from blockLo up to blockHi), and whether the Bedrock configuration load is writing (R71, R465). -/
structure WriteCtx where
  locked : Bool
  running : Bool
  blockLo : Nat
  blockHi : Nat
  loading : Bool
  deriving DecidableEq, Repr

/-- Writes one field (R13, R56, R58). -/
def writeField (rf : RegFile) (a : Nat) (w : Word) (c : WriteCtx) (s : WriteAcc) (f : FieldRow) : WriteAcc :=
  let v := getBits w f.lo f.width
  let x := legalValue rf a s.word w f v
  let note := fun t : WriteAcc =>
    if x = v then t else { t with clamped := t.clamped + 1, lsb := if t.clamped = 0 then f.lo else t.lsb }
  let take := note { s with word := setBits s.word f.lo f.width x, eff := setBits s.eff f.lo f.width x }
  let old := getBits s.word f.lo f.width
  match f.acc with
  | .rw => if c.blockLo ≤ f.lo ∧ f.lo < c.blockHi then { s with ignored := true } else take
  | .rwl => if c.locked ∨ c.blockLo ≤ f.lo ∧ f.lo < c.blockHi then { s with ignored := true } else take
  | .rws => if c.running ∨ c.blockLo ≤ f.lo ∧ f.lo < c.blockHi then { s with ignored := true } else take
  | .wo => note { s with eff := setBits s.eff f.lo f.width x }
  | .w1s => if c.blockLo ≤ f.lo ∧ f.lo < c.blockHi then { s with ignored := true }
            else { s with word := setBits s.word f.lo f.width (old ||| v), eff := setBits s.eff f.lo f.width v }
  | .w1c => { s with word := setBits s.word f.lo f.width (old &&& (2 ^ f.width - 1 - v)),
                     eff := setBits s.eff f.lo f.width v }
  | .rc => s
  | .cfg => if c.loading then take else s

/-- Writes the fields of a register in ascending order (R56). -/
def writeFields (rf : RegFile) (a : Nat) (w : Word) (c : WriteCtx) (fs : List FieldRow) : WriteAcc :=
  fs.foldl (writeField rf a w c) ⟨rf.rd a, 0, 0, 0, false⟩

/-- Records a clamp of `k` fields of register `a` in its page (R57). -/
def RegFile.clampLog (rf : RegFile) (a : Nat) (orig : Word) (lsb k : Nat) : RegFile :=
  let b := pageOf a * 0x1000
  let rf := rf.wr (R.clampVal b) orig
  let rf := rf.put (F.clampOffset b) (a % 0x1000)
  let rf := rf.put (F.clampLsb b) lsb
  let rf := rf.bump (F.clampCount b) k
  rf.put (F.clamped b) 1

/-- The writable fields of a header register (R50, R51, R55, R65); LOCKKEY has none of its own. -/
def headerFields (off : Nat) (p : PageInfo) : List FieldRow :=
  match off with
  | 0x008 => [⟨0, 1, .rw, .any⟩, ⟨1, 1, .wo, .any⟩]
  | 0x00C => [⟨2, 1, .w1c, .any⟩, ⟨3, 1, .w1c, .any⟩, ⟨4, 1, .w1c, .any⟩]
  | 0x014 => [⟨0, 32, .rw, .any⟩]
  | 0x018 => [⟨0, 32, .w1c, .any⟩]
  | 0x01C => [⟨0, 8, .rw, .any⟩, ⟨16, 8, .rw, .dep .hartId⟩]
  | 0x030 => [⟨0, 8, .rw, .codes (List.range (p.events + 1)) 0⟩, ⟨8, 2, .rw, .codes [0, 1] 0⟩]
  | 0x034 => [⟨0, 32, .rw, .any⟩]
  | _ => []

/-- The writable fields of the register at `a`, header or block; none for a reserved offset (R14) or a
reserved fault source (R396). -/
def regFields (a : Nat) : List FieldRow :=
  match pageInfo a with
  | none => []
  | some p =>
    if pageOf a = 0x40003 ∧ 0x800 ≤ a % 0x1000 ∧ srcReserved ((a % 0x1000 - 0x800) / 8) then []
    else if a % 0x1000 < 0x100 then headerFields (a % 0x1000) p
    else match rowAt p.rows (a % 0x1000) with
      | none => []
      | some r => r.fields

/-- What a register write did: the new file, the word acted on, the fields clamped and the lowest of them, and whether a field
was ignored. -/
structure WriteResult where
  file : RegFile
  eff : Word
  clamped : Nat
  lsb : Nat
  ignored : Bool
  deriving DecidableEq, Repr

/-- A write of `w` to register `a`: fields clamped and logged, IGNWR set for an ignored field (R56 to R58). -/
def RegFile.write (rf : RegFile) (a : Nat) (w : Word) (c : WriteCtx) : WriteResult :=
  let r := writeFields rf a w c (regFields a)
  let b := pageOf a * 0x1000
  let f := rf.wr a r.word
  let f := if r.clamped = 0 then f else f.clampLog a w r.lsb r.clamped
  let f := if r.ignored then f.put (F.ignWr b) 1 else f
  ⟨f, r.eff, r.clamped, r.lsb, r.ignored⟩

/-- Re-checks one field of a register against its legal range after another register changed; the field
is clamped and the clamp logged in its page. Answers whether it was clamped. -/
def RegFile.recheck (rf : RegFile) (a : Nat) (fr : FieldRow) : RegFile × Bool :=
  let o := rf.rd a
  let v := getBits o fr.lo fr.width
  let x := legalValue rf a o o fr v
  if x = v then (rf, false) else ((rf.wr a (setBits o fr.lo fr.width x)).clampLog a o fr.lo 1, true)

end Sys2Proof.Machine
end

