-- ==== Sys2Proof/Machine/Access.lean ====
section
/-!
DEFINITION. Writing and reading the registers of a lane and of the bridge die: what makes a field
unwritable (R53, R58, R165, R166, R332), the lock sequence (R59), clamp reports (R57), interrupt-enable
edges (R64), re-checks of dependent ranges, and access errors (R46, R48).
-/
namespace Sys2Proof.Machine
open Sys2Proof

/-- The base of the page that carries a block's fences: several pages of one block count as one (R405). -/
def blockOf (a : Nat) : Nat :=
  let p := pageOf a
  if 0x40004 ≤ p ∧ p ≤ 0x40007 then 0x40004
  else if p = 0x40012 ∨ p = 0x40013 then 0x40012
  else if 0x40020 ≤ p ∧ p ≤ 0x40027 then 0x40020
  else p

/-- Whether a FENCE reaction isolates the block of `a` (R405). -/
def LaneState.blockFenced (l : LaneState) (a : Nat) : Bool :=
  l.fences.any fun e => decide (e.2 = .block (blockOf a))

/-- Strata port P is in STOPPED (R316, R332). -/
def LaneState.portStopped (l : LaneState) (p : Nat) : Bool := l.get (F.STR_PSTAT_STATE p) == 0

/-- Whether RWS fields of the register at `a` are held by a running block (R53, R332); those of Sieve follow PLC_0 (R210). -/
def LaneState.rwsHeld (l : LaneState) (a : Nat) : Bool :=
  let off := a % 0x1000
  if pageOf a = 0x40020 ∧ 0x100 ≤ off then
    if off < 0x200 then !l.portStopped ((off - 0x100) / 0x80) else !(l.portStopped 0 && l.portStopped 1)
  else if pageOf a = 0x40021 ∧ 0x100 ≤ off then
    if off < 0x300 then !l.portStopped 0 else if off < 0x500 then !l.portStopped 1
    else !(l.portStopped 0 && l.portStopped 1)
  else
    let p := pageOf a
    let b := (if 0x40005 ≤ p ∧ p ≤ 0x40007 then 0x40004 else p) * 0x1000
    l.get (F.run b) ≠ 0 || l.get (F.running b) ≠ 0

/-- A register that is held twice, pending and active: slot tables, CTXCFG and bindings (R165). -/
def isPendingReg (a : Nat) : Bool :=
  let p := pageOf a; let off := a % 0x1000
  let k := (off - 0x100) % 0x40
  (decide (0x40009 ≤ p ∧ p ≤ 0x4000B ∧ 0x100 ≤ off) && (decide (k < 0x0C) || decide (0x10 ≤ k ∧ k < 0x30)))
  || (decide (p = 0x40008 ∧ 0x200 ≤ off ∧ off < 0x600) && decide (off % 8 = 0))
  || decide (p = 0x40008 ∧ 0x600 ≤ off ∧ off < 0xE00)

/-- The bits of a register that Sieve writes, `[0, n)`, while it runs (R166). -/
def sieveBits (a : Nat) : Nat :=
  let p := pageOf a; let off := a % 0x1000
  let k := (off - 0x100) % 0x40
  if 0x40009 ≤ p ∧ p ≤ 0x4000B ∧ 0x100 ≤ off then
    (if k = 0x08 then 9 else if 0x10 ≤ k ∧ k < 0x30 then 32 else 0)
  else if p = 0x40008 ∧ 0x200 ≤ off ∧ off < 0x600 then (if off % 8 = 0 then 32 else 23)
  else if p = 0x40008 ∧ 0x600 ≤ off ∧ off < 0xE00 then 32
  else if p = 0x40008 ∧ 0xF00 ≤ off ∧ off % 0x40 = 0x1C then 32
  else 0

/-- A buffer word of a schedule entry that is not TX (R336). -/
def LaneState.bufferHeld (l : LaneState) (a : Nat) : Bool :=
  let p := pageOf a
  if 0x40022 ≤ p ∧ p ≤ 0x40025 ∧ 0x100 ≤ a % 0x1000 then
    let i := p - 0x40022
    let n := i % 2 * 32 + (a % 0x1000 - 0x100) / 0x40
    l.get (if i / 2 = 0 then F.SCH_SCHX_DIR n else F.SCH_SCHY_DIR n) ≠ 1 || decide (l.get (F.STR_CYCCFG_NSLOTS (i / 2)) ≤ n)
  else false

/-- A word of a CAN transmit buffer whose request is pending (R343). -/
def LaneState.canHeld (l : LaneState) (a : Nat) : Bool :=
  let o := a % 0x1000
  (pageOf a == 0x40030 || pageOf a == 0x40031) && decide (0x400 ≤ o ∧ o < 0x680) && decide ((o - 0x400) % 0x50 < 72) &&
    getBits (l.rd (pageOf a * 0x1000 + 0x110)) ((o - 0x400) / 0x50) 1 == 1

/-- TRKPROP_k, whose CUR is writable only while the tracker is not enabled (R177). -/
def LaneState.curHeld (l : LaneState) (a : Nat) : Bool :=
  (List.range 4).any fun k => a == R.LE_TRKPROP k && l.get (F.LE_TRKCFG_EN k) == 1

/-- The fields that a block makes unwritable at this instant (R58). -/
def LaneState.blocked (l : LaneState) (a : Nat) : Nat × Nat :=
  if isPendingReg a && l.get F.LE_TBLCTRL_COMMIT ≠ 0 then (0, 32)
  else if sieveBits a ≠ 0 && l.get (F.running P.PLC) ≠ 0 then (0, sieveBits a)
  else if l.curHeld a then (0, 9)
  else if l.bufferHeld a || l.canHeld a then (0, 32)
  else if (a = R.PWR_WAKEEN || a = R.PWR_RETMASK_L || a = R.PWR_RETMASK_H || a = R.PWR_CRCMP) &&
      2 ≤ l.get F.PWR_PSTAT_STATE then (0, 32)
  else if a = R.ETH_MDIO && l.get F.ETH_MDIO_GO ≠ 0 then (0, 32)
  else if pageOf a = 0x40040 ∧ 0x200 ≤ a % 0x1000 then
    let off := a % 0x1000
    let u := (off - 0x200) / 0x100
    if l.get (F.PMU_HISTCFG_EN u) = 0 then (0, 0)
    else if off % 0x100 = 0 then (2, 32)
    else if 0x44 ≤ off % 0x100 ∧ off % 0x100 < 0x80 then (0, 32) else (0, 0)
  else (0, 0)

/-- What holds at the instant of a write in a lane page. -/
def LaneState.writeCtx (l : LaneState) (a : Nat) : WriteCtx :=
  ⟨l.get (F.locked (pageOf a * 0x1000)) ≠ 0, l.rwsHeld a, (l.blocked a).1, (l.blocked a).2, false⟩

/-- A clamp's report in a lane page: IRQRAW[31] and the CONFIG source (R57, R54). -/
def LaneState.clampReport (l : LaneState) (a : Nat) : LaneState :=
  let b := pageOf a * 0x1000
  (l.irqRise b (mbit 31)).raise (getBits (l.rd (b + 0x028)) 0 8)

/-- The registers re-checked when `a` is written, with the field re-checked. -/
def recheckList (a : Nat) : List (Nat × FieldRow) :=
  if a = R.LE_FRAMECFG then
    (List.range 48).flatMap (fun s => [(R.LESLOT_SPHASE s, ⟨0, 20, .rw, .dep .sphase⟩),
      (R.LESLOT_OPHASE s, ⟨0, 20, .rw, .dep .ophase⟩)]) ++
    (List.range 4).map (fun p => (R.SNS_SYNCPH p, ⟨0, 20, .rw, .dep .frameCycle⟩)) ++
    [(R.ADC_ADCTRIG, ⟨0, 20, .rw, .dep .frameCycle⟩)]
  else if 0x40009 ≤ pageOf a ∧ pageOf a ≤ 0x4000B ∧ 0x100 ≤ a % 0x1000 ∧ (a % 0x1000) % 0x40 = 0 then
    [(a + 4, ⟨0, 20, .rw, .dep .ophase⟩)]
  else if (pageOf a = 0x40012 ∨ pageOf a = 0x40013) ∧ 0x100 ≤ a % 0x1000 ∧ a % 0x100 = 4 then
    [(a + 0x0C, ⟨0, 32, .rw, .dep .posCpr⟩)]
  else if pageOf a = 0x40033 ∧ 0x100 ≤ a % 0x1000 ∧ a % 0x1000 < 0x120 ∧ a % 8 = 0 then
    [(a + 4, ⟨0, 12, .rwl, .dep .hwsize⟩)]
  else if a = R.ETH_RINGLEN then
    [(R.ETH_TXRING, ⟨0, 32, .rws, .dep .txring⟩), (R.ETH_RXRING, ⟨0, 32, .rws, .dep .rxring⟩)]
  else if pageOf a = 0x40010 ∧ 0x200 ≤ a % 0x1000 ∧ a % 0x20 = 8 then
    [(a - 4, ⟨0, 32, .rws, .dep .chrbase⟩)]
  else []

/-- Re-checks one field, logging and reporting a clamp (R56, R57). -/
def LaneState.recheck (l : LaneState) (e : Nat × FieldRow) : LaneState :=
  let r := l.regs.recheck e.1 e.2
  let l := { l with regs := r.1 }
  if r.2 then l.clampReport e.1 else l

/-- What a write of a header register does beyond its fields (R58, R64): clearing CLAMPED clears the clamp
count and condition; enabling a latched condition sends the page's message. -/
def LaneState.headerEffect (l : LaneState) (a : Nat) (eff oldEn : Word) : LaneState :=
  let b := pageOf a * 0x1000
  if a % 0x1000 = 0x00C then
    if getBits eff 2 1 = 1 then (l.put (F.clampCount b) 0).irqFall b (mbit 31) else l
  else if a % 0x1000 = 0x014 then
    if l.rd a &&& ~~~oldEn &&& l.rd (R.irqStat b) = 0 then l else l.sendMsg (R.irqMsg b)
  else l

/-- Whether a page offset holds a register: the header's or a row's. -/
def isRegister (a : Nat) : Bool := decide (a % 0x1000 < 0x38) || (findRow a).isSome

/-- A begun lock sequence of the page is abandoned, setting IGNWR (R59). -/
def LaneState.abandonLock (l : LaneState) (a : Nat) : LaneState :=
  if l.lockSeq.contains (pageOf a) && isRegister a then
    { l with lockSeq := l.lockSeq.filter (· ≠ pageOf a) }.put (F.ignWr (pageOf a * 0x1000)) 1
  else l

/-- A write of `w` to a register of a lane page other than LOCKKEY: the new state and the word acted on. -/
def LaneState.regWrite (l : LaneState) (a : Nat) (w : Word) : LaneState × Word :=
  let l := l.abandonLock a
  let oldEn := l.rd a
  let r := l.regs.write a w (l.writeCtx a)
  let l := { l with regs := r.file }
  let l := if r.clamped = 0 then l else l.clampReport a
  let l := l.headerEffect a r.eff oldEn
  ((recheckList a).foldl LaneState.recheck l, r.eff)

/-- Whether the lane's registers answer: its rails are on and it is out of reset (R434, R452). -/
def LaneState.alive (l : LaneState) : Bool := !l.power.held && !l.power.railsOff

/-- A write of `v` to a register with an effect of its own, which `f` gives from the word acted on; a write to a
fenced block only sets IGNWR (R405). -/
def LaneState.command (l : LaneState) (a : Nat) (v : Word) (f : LaneState → Word → LaneState) : LaneState :=
  if !l.alive then l
  else if l.blockFenced a then l.put (F.ignWr (pageOf a * 0x1000)) 1
  else f (l.regWrite a v).1 (l.regWrite a v).2

/-- A LOCKKEY write on a page of a register file (R59): the file, the begun sequences, and whether CONFIG
is raised. -/
def lockKey (rf : RegFile) (seq : List Nat) (page : Nat) (v : Word) : RegFile × List Nat × Bool :=
  let b := page * 0x1000
  let ign := rf.put (F.ignWr b) 1
  let begun := seq.contains page
  let other := v ≠ 0xA55A ∧ v ≠ 0x5AA5
  if rf.get (F.locked b) ≠ 0 then (ign, seq, other)
  else if v = 0xA55A then (if begun then ign else rf, insertNat page seq, false)
  else if v = 0x5AA5 then
    if begun then ((rf.put (F.locked b) 1).wr (R.lockKey b) 1, seq.filter (· ≠ page), false)
    else (ign, seq, false)
  else (ign, seq.filter (· ≠ page), true)

/-- A LOCKKEY write in a lane page (R59). -/
def LaneState.lockKeyWrite (l : LaneState) (page : Nat) (v : Word) : LaneState :=
  let r := lockKey l.regs l.lockSeq page v
  let l := { l with regs := r.1, lockSeq := r.2.1 }
  if r.2.2 then l.raise (getBits (l.rd (page * 0x1000 + 0x028)) 0 8) else l

/-- A write refused for a parity error (R59, R63): PARERR, WRPAR, and an abandoned lock sequence. -/
def LaneState.writeRefused (l : LaneState) (a : Nat) : LaneState :=
  let b := pageOf a * 0x1000
  ((l.abandonLock a).put (F.parErr b) 1).raise (getBits (l.rd (b + 0x028)) 0 8 + 1)

/-- A naturally aligned access of 1, 2, 4 or 8 bytes. -/
def aligned (a size : Nat) : Bool := [1, 2, 4, 8].contains size && a % size == 0

/-- Where a lane address lies (R46). -/
inductive Region where
  | mram | sram | le (mem : Nat) | imsic (h : Nat) | aplic | lanePage | bedWin | brgWin | peerWin | none
  deriving DecidableEq, Repr

/-- The region of a lane address (R46): the loop-engine memories are numbered 0 program, 1 X, 2 Y, 3 Z. -/
def regionOf (own : Lane) (a : Nat) : Region :=
  if a < 0x01000000 then .mram
  else if 0x10000000 ≤ a ∧ a < 0x14000000 then .sram
  else if 0x20000000 ≤ a ∧ a < 0x20010000 then .le 0
  else if 0x20010000 ≤ a ∧ a < 0x20020000 then .le 1
  else if 0x20020000 ≤ a ∧ a < 0x20040000 then .le 2
  else if 0x20040000 ≤ a ∧ a < 0x20048000 then .le 3
  else if 0x28000000 ≤ a ∧ a < 0x28020000 ∧ (hartIds own).contains ((a - 0x28000000) / 0x1000) then
    .imsic ((a - 0x28000000) / 0x1000)
  else if 0x2C000000 ≤ a ∧ a < 0x2C004000 then .aplic
  else if 0x40000000 ≤ a ∧ a < 0x40051000 then if (pageInfo a).isSome then .lanePage else .none
  else if 0x50000000 ≤ a ∧ a < 0x50006000 then .bedWin
  else if 0x60000000 ≤ a ∧ a < 0x60009000 then .brgWin
  else if 0x70000000 ≤ a ∧ a < 0x80000000 then .peerWin
  else .none

end Sys2Proof.Machine
end

