-- ==== Sys2Proof/Machine/Aplic.lean ====
section
/-!
DEFINITION. The APLIC's machine-level domain (R67) in MSI delivery mode, in the register layout of the
RISC-V AIA, and the IMSIC interrupt files.
-/
namespace Sys2Proof.Machine
open Sys2Proof

/-- APLIC registers: domaincfg, sourcecfg_i, target_i, and the words of setip and setie. -/
def R.APLIC_DOMAINCFG : Nat := 0x2C000000
def R.APLIC_SOURCECFG (i : Nat) : Nat := 0x2C000000 + 4 * i
def R.APLIC_SETIP : Nat := 0x2C001C00
def R.APLIC_SETIE : Nat := 0x2C001E00
def R.APLIC_TARGET (i : Nat) : Nat := 0x2C003000 + 4 * i

/-- Whether source `i` is wired and not inactive: sources 1 to 22 have an input (R67). -/
def LaneState.aplicActive (l : LaneState) (i : Nat) : Bool :=
  decide (1 ≤ i ∧ i ≤ 22) && decide (getBits (l.rd (R.APLIC_SOURCECFG i)) 0 3 ≠ 0) &&
    decide (getBits (l.rd (R.APLIC_SOURCECFG i)) 10 1 = 0)

/-- A pending and enabled source is forwarded as a message to its target, and its pending bit cleared. -/
def LaneState.aplicForward (l : LaneState) (i : Nat) : LaneState :=
  let ip := l.rd R.APLIC_SETIP
  if getBits (l.rd R.APLIC_DOMAINCFG) 8 1 = 1 ∧ ip.getLsbD i ∧ (l.rd R.APLIC_SETIE).getLsbD i then
    let t := l.rd (R.APLIC_TARGET i)
    let l := l.wr R.APLIC_SETIP (ip &&& ~~~(mbit i))
    if getBits t 0 8 = 0 then l
    else { l with msgs := l.msgs ++ [⟨0x2C000, getBits t 18 2 + 0x10 * l.id.num, getBits t 0 8⟩] }
  else l

/-- The lane returns from DOZE to RUN (R436). -/
def LaneState.leaveDoze (l : LaneState) : LaneState :=
  if l.get F.PWR_PSTAT_STATE = 1 then l.put F.PWR_PSTAT_STATE 0 else l

/-- Source `i` becomes pending, which ends DOZE (R436). -/
def LaneState.aplicPend (l : LaneState) (i : Nat) : LaneState :=
  (l.leaveDoze.wr R.APLIC_SETIP (l.rd R.APLIC_SETIP ||| mbit i)).aplicForward i

/-- The input of source `i` takes level `v`: edges and levels make it pending as its source mode says. -/
def LaneState.aplicLevel (l : LaneState) (i : Nat) (v : Bool) : LaneState :=
  let was := l.aplicIn.contains i
  let l := { l with aplicIn := if v then insertNat i l.aplicIn else l.aplicIn.filter (· ≠ i) }
  let sm := getBits (l.rd (R.APLIC_SOURCECFG i)) 0 3
  if !l.aplicActive i then l
  else if (sm = 4 ∧ v ∧ !was) ∨ (sm = 5 ∧ !v ∧ was) ∨ (sm = 6 ∧ v) ∨ (sm = 7 ∧ !v) then l.aplicPend i
  else l

/-- An occurrence on the input of source `i`: it rises and falls. -/
def LaneState.aplicPulse (l : LaneState) (i : Nat) : LaneState := (l.aplicLevel i true).aplicLevel i false

/-- The highest-priority identity that is pending and enabled and below the threshold; 0 when there is none. -/
def Imsic.top (m : Imsic) : Nat :=
  match m.pend.find? (fun i => m.enab.contains i && (m.threshold == 0 || decide (i < m.threshold))) with
  | some i => i
  | none => 0

/-- Claims the top identity. -/
def Imsic.claim (m : Imsic) : Imsic := { m with pend := m.pend.filter (· ≠ m.top) }

/-- Sets an identity pending; identity 0 and one already pending change nothing (R66). -/
def Imsic.setPend (m : Imsic) (i : Nat) : Imsic := if i = 0 then m else { m with pend := insertNat i m.pend }

/-- 64 bits of a list of identities from `base`. -/
def identBits (xs : List Nat) (base : Nat) : DWord :=
  xs.foldl (fun w i => if base ≤ i ∧ i < base + 64 then w ||| ((1 : DWord) <<< (i - base)) else w) 0

/-- The identities of a list, those of a 64-bit group replaced by the bits of `w`; identity 0 does not exist. -/
def withIdentBits (xs : List Nat) (base : Nat) (w : DWord) : List Nat :=
  (List.range 64).foldl (fun ys j =>
    if base + j ≠ 0 ∧ w.getLsbD j then insertNat (base + j) ys else ys)
    (xs.filter fun i => !(decide (base ≤ i ∧ i < base + 64)))

/-- A register of the IMSIC file selected by miselect (R67, R81): eidelivery, eithreshold, eip and eie. -/
def Imsic.rd (m : Imsic) (sel : Nat) : DWord :=
  if sel = 0x70 then BitVec.ofNat 64 (bit m.delivery)
  else if sel = 0x72 then BitVec.ofNat 64 m.threshold
  else if 0x80 ≤ sel ∧ sel < 0x88 ∧ sel % 2 = 0 then identBits m.pend ((sel - 0x80) * 32)
  else if 0xC0 ≤ sel ∧ sel < 0xC8 ∧ sel % 2 = 0 then identBits m.enab ((sel - 0xC0) * 32)
  else 0
def Imsic.wr (m : Imsic) (sel : Nat) (v : DWord) : Imsic :=
  if sel = 0x70 then { m with delivery := v.getLsbD 0 }
  else if sel = 0x72 then { m with threshold := v.toNat % 256 }
  else if 0x80 ≤ sel ∧ sel < 0x88 ∧ sel % 2 = 0 then { m with pend := withIdentBits m.pend ((sel - 0x80) * 32) v }
  else if 0xC0 ≤ sel ∧ sel < 0xC8 ∧ sel % 2 = 0 then { m with enab := withIdentBits m.enab ((sel - 0xC0) * 32) v }
  else m

end Sys2Proof.Machine
end

