-- ==== Sys2Proof/Machine/Frames.lean ====
section
/-!
DEFINITION. Frames of the two links (R29, R30, R34): checks, fields, and sending. A frame sent is put on
the wire it travels; the command that receives it takes it off.
-/
namespace Sys2Proof.Machine
open Sys2Proof

/-- One step of the CRC-8 of R29 over the most significant bit of the shift register. -/
def crc8Bit (crc : BitVec 8) (b : Bool) : BitVec 8 :=
  let top := crc.msb != b
  let c := crc <<< 1
  if top then c ^^^ 0x2F else c

/-- The CRC-8 of R29 over the bits of a list of bytes, most significant bit first. -/
def crc8 (bytes : List (BitVec 8)) : BitVec 8 :=
  bytes.foldl (fun crc y => (List.range 8).foldl (fun c i => crc8Bit c (y.getMsbD i)) crc) 0xFF

/-- The bytes of a 16-bit word, most significant first. -/
def halfBytes (h : Half) : List (BitVec 8) := [h.extractLsb' 8 8, h.extractLsb' 0 8]

/-- The trailer of a bridge-link frame (R29). -/
def blTrailer (body : List Half) (seq : Nat) : Half :=
  let sq := BitVec.ofNat 8 seq
  sq ++ crc8 (body.flatMap halfBytes ++ [sq])

/-- Header of a bridge-link frame (R30). -/
def blHeader (typ bridge arg : Nat) : Half := BitVec.ofNat 16 (typ * 4096 + bridge * 512 + arg)
def blType (h : Half) : Nat := h.toNat / 4096
def blBridge (h : Half) : Nat := h.toNat / 512 % 8
def blArg (h : Half) : Nat := h.toNat % 512

/-- Payload words of each bridge-link type (R30); none for a reserved code. -/
def blLen (typ : Nat) : Option Nat :=
  match typ with
  | 0 => some 0 | 1 => some 3 | 2 => some 1 | 3 => some 3 | 4 => some 1
  | 8 => some 3 | 9 => some 1 | 10 => some 2 | 11 => some 1 | _ => none

/-- Whether a bridge-link frame's CRC is correct; a frame too short to hold a header and a trailer, or
whose length is not that of its defined type, is not. -/
def blCrcOk (ws : List Half) : Bool :=
  match ws.getLast? with
  | none => false
  | some t =>
    let body := ws.dropLast
    match body.head? with
    | none => false
    | some h =>
      (match blLen (blType h) with
       | some n => body.length == n + 1
       | none => decide (body.length ≤ 4)) && t == blTrailer body (t.toNat / 256)

/-- One step of CRC-32C in reflected form. -/
def crc32Bit (crc : Word) : Word := if crc.getLsbD 0 then (crc >>> 1) ^^^ 0x82F63B78 else crc >>> 1

/-- CRC-32C over bytes: initial value 0xFFFF_FFFF and final inversion (R34). -/
def crc32c (bytes : List (BitVec 8)) : Word :=
  ~~~(bytes.foldl (fun crc y => (List.range 8).foldl (fun c _ => crc32Bit c) (crc ^^^ y.setWidth 32)) 0xFFFFFFFF)

/-- The bytes of a word, little-endian (R12). -/
def wordBytes (w : Word) : List (BitVec 8) := (List.range 4).map fun i => w.extractLsb' (8 * i) 8

/-- Header of a lane-link frame (R34). -/
def llHeader (typ len seq : Nat) (arg : Half) : Word :=
  BitVec.ofNat 32 (typ * 2 ^ 28 + len * 2 ^ 20 + seq * 2 ^ 16 + arg.toNat)
def llType (h : Word) : Nat := getBits h 28 4
def llLenOf (h : Word) : Nat := getBits h 20 8
def llSeqOf (h : Word) : Nat := getBits h 16 4

/-- The words of a lane-link frame (R34). -/
def llWords (f : LLFrame) (seq : Nat) : List Word :=
  let body := llHeader f.typ f.payload.length seq f.arg :: f.payload
  body ++ [crc32c (body.flatMap wordBytes)]

/-- Whether a lane-link frame's CRC is correct; a frame whose length disagrees with LEN is not. -/
def llCrcOk (ws : List Word) : Bool :=
  match ws.head?, ws.getLast? with
  | some h, some t => ws.length == llLenOf h + 2 && t == crc32c (ws.dropLast.flatMap wordBytes)
  | _, _ => false

/-- The frames still on a wire once the first that `p` picks has been received: those sent before it are lost. -/
def dropThrough {α : Type} (p : α → Bool) (xs : List α) : List α :=
  if xs.any p then (xs.dropWhile fun x => !p x).drop 1 else xs

/-- The sequence number of the lane's next bridge-link frame, after the IDLE frames sent since the last one (R29). -/
def LaneState.blNext (l : LaneState) : Nat :=
  (l.links.blSeq + Config.idleFrames (2 + l.id.num) l.links.blSent) % 256

/-- A lane sends a bridge-link frame to the bridge die; IDLE frames are not kept (R29, R39). A fenced link sends only
IDLE frames (R405). -/
def LaneState.sendDown (l : LaneState) (typ bridge arg : Nat) (payload : List Half) : LaneState :=
  if l.fencedBy .blink then l else
  let body := blHeader typ bridge arg :: payload
  let l := { l with links := { l.links with
    blSeq := (l.blNext + 1) % 256, blSent := l.links.blSent + 1
    blDown := l.links.blDown ++ [body ++ [blTrailer body l.blNext]] } }
  (l.bump F.LNK_BLTX_COUNT 1).count P.LNK 3

/-- The sequence number of the bridge die's next frame to a lane, after the IDLE frames sent since the last one (R29). -/
def BrgState.upNext (b : BrgState) (x : Lane) : Nat :=
  (byLane x b.seqA b.seqB + Config.idleFrames (4 + x.num) (byLane x b.sentA b.sentB)) % 256

/-- The bridge die sends a frame up to one lane (R29). -/
def State.sendUp (s : State) (x : Lane) (typ bridge arg : Nat) (payload : List Half) : State :=
  let body := blHeader typ bridge arg :: payload
  let n := s.brg.upNext x
  let fr := body ++ [blTrailer body n]
  let s := s.modBrg fun b =>
    match x with
    | .A => { b with seqA := (n + 1) % 256, sentA := b.sentA + 1 }
    | .B => { b with seqB := (n + 1) % 256, sentB := b.sentB + 1 }
  s.modLane x fun l => { l with links := { l.links with blUp := l.links.blUp ++ [fr] } }

/-- The bridge die sends the same frame on both lanes' bridge links (R32). -/
def State.sendUpBoth (s : State) (typ bridge arg : Nat) (payload : List Half) : State :=
  (s.sendUp .A typ bridge arg payload).sendUp .B typ bridge arg payload

/-- A lane-link frame becomes ready to start (R37); a fenced link sends only IDLE frames (R405). -/
def LaneState.llReady (l : LaneState) (typ : Nat) (arg : Half) (payload : List Word) : LaneState :=
  if l.fencedBy .llink then l else
  { l with links := { l.links with ready := l.links.ready ++ [⟨typ, arg, payload, false⟩] } }

/-- Whether a lane's own view of the lane link is up, the fence of the link included (R36, R532). -/
def LaneState.llUp (l : LaneState) : Bool :=
  l.get F.LNK_LSTAT_LLUP == 1 && !l.fencedBy .llink

/-- Whether the lane counts its bridge link as up, the fence of the link included (R33, R532). -/
def LaneState.blUp (l : LaneState) : Bool :=
  l.get F.LNK_LSTAT_BLUP == 1 && !l.fencedBy .blink

/-- A PLACE message becomes ready (R205). -/
def LaneState.sendPlace (l : LaneState) (kind : Nat) (payload : List Word) : LaneState :=
  l.llReady 6 (BitVec.ofNat 16 (kind * 4096)) payload

/-- A trigger of Sieve arises (R202): it counts in the present frame or, with `late`, in the next one, and the peer
instance is told that frame with a PLACE TRIG message (R203), but for PEER and RETRY. A lost peer is no longer
synchronised. -/
def LaneState.arise (l : LaneState) (k : Nat) (late : Bool) : LaneState :=
  let v := l.sieve
  let v := if late then { v with next := v.next ||| 2 ^ k } else { v with trigs := v.trigs ||| 2 ^ k }
  let l := if k = 2 then { l with sieve := { v with peerSeen := false, syncing := false, syncSend := [] } }.put F.PLC_STAT_SYNCDONE 0
    else { l with sieve := v }
  if k = 8 ∨ k = 9 ∨ !l.llUp then l
  else l.sendPlace 1 [BitVec.ofNat 32 (2 ^ k), l.rd R.LE_FN_LO + BitVec.ofNat 32 (bit late)]

/-- A trigger arises at an instant that only the sender knows: whether it is late is a free choice, and what follows a late
one in the frame is late (R203). -/
def LaneState.trigger (l : LaneState) (k : Nat) : LaneState :=
  if !l.loop.framing then l.arise k false
  else
    let late := l.sieve.late || Config.lateTrigger l.id.num l.sieve.drawn
    { l with sieve := { l.sieve with late := late, drawn := l.sieve.drawn + 1 } }.arise k late

/-- A lane reports a run's comparison in a VERDICT frame (R24). -/
def LaneState.sendVerdict (l : LaneState) (slot covered : Nat) (compared diff : Bool) : LaneState :=
  if l.fencedBy .blink then l else
  let l := l.sendDown 2 0 (slot + 256 * bit compared) [BitVec.ofNat 16 (covered + 256 * bit (compared && diff))]
  let l := l.bump (if compared then F.LNK_VERDCNT_COMPARED else F.LNK_VERDCNT_NONE) 1
  l.count P.LNK 6

/-- The words of a list of 64-bit outputs, low word first (R34). -/
def outWords (outs : List DWord) : List Word := outs.flatMap fun o => [o.extractLsb' 0 32, o.extractLsb' 32 32]

/-- Engine cycles from frame cycle `c` to the next frame cycle `o` of a frame of `f` cycles. -/
def afterCycle (f c o : Nat) : Nat := (o + f - c % f) % f

end Sys2Proof.Machine
end

