-- ==== Sys2Proof/Machine/Gates.lean ====
section
/-!
DEFINITION. A bridge's gates (spec/08_bridge_drivers.md): device states and selection codes, edges (R247, R248), the
commutation decoder (R253), refreshes and the interlock (R250, R251, R255), the rank in force and what it drives (R243),
and STATUS frames (R263).
-/
namespace Sys2Proof.Machine
open Sys2Proof

/-- Device states (R42). -/
def Dev.start : Nat := 1
def Dev.idle : Nat := 2
def Dev.drive : Nat := 3
def Dev.parked : Nat := 4
def Dev.safe : Nat := 7

/-- Selection codes and actions (R226). -/
def Sel.none : Nat := 3
def Sel.lane (x : Lane) : Nat := byLane x 5 6
def Act.run : Nat := 0
def Act.clear : Nat := 1
def Act.terminal : Nat := 2

/-- The gate-supply level that DEVSTAT shows for a lane's side. -/
def F.vgd (x : Lane) : Fld := byLane x F.BSYS_DEVSTAT_VGDA F.BSYS_DEVSTAT_VGDB

def State.devState (s : State) : Nat := s.bed.get F.BSYS_DEVSTAT_DEVSTATE

/-- A bridge's mechanisms after the logic supply rises. -/
def BridgeUnit.reset : BridgeUnit :=
  { benLow := false, benOff := false, treq := false, live := false, allLow := true, drive := Tri.all (.both false false)
    gates := Tri.all [⟨0, false, false⟩], delayed := Tri.all false, refreshed := Tri.all false, starved := Tri.all 0
    lowSeen := Tri.all false, dropSeen := Tri.all false, intlk := Tri.all false, dtNext := Tri.all false
    uvAt := Tri.all [], uvSeen := Tri.all false, uvRuns := Tri.all 0, vbsLow := Tri.all false, ocOver := Tri.all 0
    ocBelow := Tri.all 0, pins := 0, code := 0, evIntlk := false, evCode := false, evBuvref := false, evClrref := false
    sent := (0, 0) }

def BrgState.unit (s : BrgState) (n : Nat) : BridgeUnit := Table.get (fun _ => BridgeUnit.reset) s.units n
def BrgState.modUnit (s : BrgState) (n : Nat) (f : BridgeUnit → BridgeUnit) : BrgState :=
  { s with units := Table.upd (fun _ => BridgeUnit.reset) s.units n f }
def State.modUnit (s : State) (n : Nat) (f : BridgeUnit → BridgeUnit) : State := s.modBrg (·.modUnit n f)
def State.unit (s : State) (n : Nat) : BridgeUnit := s.brg.unit n

/-- The bridge die's copy of a bridge's ENVMODE (R226). -/
def BrgState.envMode (s : BrgState) (n : Nat) : Word := Table.get (fun _ => 0x400) s.envCopy n
def BrgState.envTerm (s : BrgState) (n : Nat) : Nat := getBits (s.envMode n) 2 2
def BrgState.maxHold (s : BrgState) (n : Nat) : Nat := getBits (s.envMode n) 8 7

/-- Phase modes of PHASE_CMD (R30): 0 PWM, 1 LOW, 2 FLOAT, 3 HIGH; U in bits [1:0]. -/
def modeOf (modes p : Nat) : Nat := modes / 4 ^ p % 4
def modesOf (u v w : Nat) : Nat := u + 4 * v + 16 * w

/-- The PWM period of a bridge in timebase cycles (R246). -/
def BrgState.per (b : BrgState) (n : Nat) : Nat := b.get F.BCOM_MPER_PER / max 1 (b.get (F.BRG_BRGCFG_PDIV n))

/-- The edges of a phase in PWM mode and whether a pulse is dropped (R247). -/
def pwmEdges (per dt minon minoff duty : Nat) : PhaseDrive × Bool :=
  let t16 : Int := 16 * per
  let h0 : Int := (duty * t16 + 65536) / 131072
  let highDrop := decide (2 * h0 < 16 * minon) && decide (h0 > 0)
  let h1 := if 2 * h0 < 16 * minon then 0 else h0
  let loOff1 := t16 / 2 - h1 - 16 * dt
  let lowDrop := decide (h1 > 0) && decide (loOff1 < 8 * minoff)
  let h := if lowDrop then t16 / 2 else h1
  let d : PhaseDrive :=
    if h = 0 then .both false true
    else if h = t16 / 2 then .both true false
    else .edges (t16 / 2 - h - 16 * dt) (t16 / 2 - h) (t16 / 2 + h) (t16 / 2 + h + 16 * dt)
  (d, highDrop || lowDrop)

/-- What a mode and a duty drive (R247, R248), and whether a pulse is dropped. -/
def BrgState.modeDrive (b : BrgState) (n mode duty : Nat) : PhaseDrive × Bool :=
  match mode with
  | 0 => pwmEdges (b.per n) (b.get (F.BRG_DEADT_DT n)) (b.get (F.BRG_PULSE_MINON n)) (b.get (F.BRG_PULSE_MINOFF n)) duty
  | 1 => (.both false true, false)
  | 3 => (.both true false, false)
  | _ => (.both false false, false)

/-- The decoder's modes for a commutation code (R253). -/
def commModes (code : Nat) (reverse : Bool) : Nat :=
  let f := match code with
    | 1 => (0, 1, 2) | 3 => (0, 2, 1) | 2 => (2, 0, 1) | 6 => (1, 0, 2) | 4 => (1, 2, 0) | 5 => (2, 1, 0)
    | _ => (2, 2, 2)
  let x := fun m : Nat => if reverse then (if m = 0 then 1 else if m = 1 then 0 else m) else m
  modesOf (x f.1) (x f.2.1) (x f.2.2)

/-- Duty words of the hold latches. -/
def BrgState.hlDuty (b : BrgState) (n p : Nat) : Nat :=
  b.get (if p = 0 then F.BRG_HLDUTY_0_U n else if p = 1 then F.BRG_HLDUTY_0_V n else F.BRG_HLDUTY_1_W n)

/-- Modes and duties that the decoder gives all phases (R254). -/
def BrgState.blockDrive (b : BrgState) (n : Nat) (reverse : Bool) (duty : Nat) : Tri (PhaseDrive × Bool) :=
  let m := commModes (b.unit n).code reverse
  ⟨b.modeDrive n (modeOf m 0) duty, b.modeDrive n (modeOf m 1) duty, b.modeDrive n (modeOf m 2) duty⟩

/-- The drive of rank 9 (R254): the hold latches through the PWM generator, or the decoder in PINS mode. -/
def BrgState.latchDrive (b : BrgState) (n : Nat) : Tri (PhaseDrive × Bool) :=
  if b.get (F.BRG_BRGCFG_CMODE n) = 1 then b.blockDrive n (b.hlDuty n 1 % 2 == 1) (b.hlDuty n 0)
  else
    let m := b.get (F.BRG_HLMODE_MODES n)
    ⟨b.modeDrive n (modeOf m 0) (b.hlDuty n 0), b.modeDrive n (modeOf m 1) (b.hlDuty n 1),
     b.modeDrive n (modeOf m 2) (b.hlDuty n 2)⟩

/-- The drive of a terminal state: 0 OFF, 1 ASC, 2 BLOCK (R229). -/
def BrgState.termDrive (b : BrgState) (n t : Nat) : Tri (PhaseDrive × Bool) :=
  if t = 1 then Tri.all (.both false true, false)
  else if t = 2 then
    b.blockDrive n (getBits (b.envMode n) 4 1 == 1) (getBits (b.envMode n) 16 16)
  else Tri.all (.both false false, false)

/-- The high and the low switch that a drive turns on at some instant of a period, and those on at its end. -/
def PhaseDrive.hiAny : PhaseDrive → Bool
  | .both h _ => h
  | .edges _ _ _ _ => true
def PhaseDrive.loAny : PhaseDrive → Bool
  | .both _ l => l
  | .edges _ _ _ _ => true
def PhaseDrive.hiEnd : PhaseDrive → Bool
  | .both h _ => h
  | .edges _ _ _ _ => false

/-- Whether both requests are off at some instant of a period. -/
def PhaseDrive.offSome : PhaseDrive → Bool
  | .both h l => !h && !l
  | .edges _ _ _ _ => true

/-- The gate requests of a drive over a period (R247). -/
def PhaseDrive.wave : PhaseDrive → List GateSeg
  | .both h l => [⟨0, h, l⟩]
  | .edges loOff hiOn hiOff loOn =>
    [⟨0, false, true⟩, ⟨loOff, false, false⟩, ⟨hiOn, true, false⟩, ⟨hiOff, false, false⟩, ⟨loOn, false, true⟩]

/-- The requests at an instant of a period. -/
def waveAt (w : List GateSeg) (t : Int) : Bool × Bool :=
  w.foldl (fun r g => if g.start ≤ t then (g.hi, g.lo) else r) (false, false)

/-- The requests with `f` applied to those from `a` up to `b`. -/
def wavePatch (w : List GateSeg) (a b : Int) (f : Bool × Bool → Bool × Bool) : List GateSeg :=
  let seg := fun (t : Int) (v : Bool × Bool) => (⟨t, v.1, v.2⟩ : GateSeg)
  (w.filter fun g => decide (g.start < a)) ++ [seg a (f (waveAt w a))] ++
    ((w.filter fun g => decide (a < g.start ∧ g.start < b)).map fun g => seg g.start (f (g.hi, g.lo))) ++
    [seg b (waveAt w b)] ++ (w.filter fun g => decide (b < g.start))

/-- A refresh keeps the high side off, and turns the low side on in its middle part (R250, R251). -/
def hiOff (r : Bool × Bool) : Bool × Bool := (false, r.2)
def lowOn (_ : Bool × Bool) : Bool × Bool := (false, true)

/-- The lengths that shape a phase's gate requests: period, dead time, MINOFF, in sub-steps, and REFPER. -/
structure PhaseTimes where
  per : Int
  dt : Int
  minoff : Int
  refper : Nat
  deriving DecidableEq, Repr

def BrgState.times (b : BrgState) (n : Nat) : PhaseTimes :=
  ⟨16 * (b.per n : Int), 16 * (b.get (F.BRG_DEADT_DT n) : Int), 16 * (b.get (F.BRG_PULSE_MINOFF n) : Int),
   b.get (F.BRG_BOOT_REFPER n)⟩

/-- Whether the period in progress makes the phase starved, and so brings its count to `c` (R250). -/
def BridgeUnit.starving (u : BridgeUnit) (p : Nat) : Bool :=
  !u.intlk.get p && !u.lowSeen.get p && !u.uvSeen.get p && !(u.drive.get p).loAny && (u.drive.get p).hiEnd

/-- Whether the boundary at the period's end receives a periodic refresh (R250). -/
def BridgeUnit.refreshDue (u : BridgeUnit) (k : PhaseTimes) (p : Nat) : Bool :=
  u.starving p && decide (k.refper ≤ u.starved.get p + 1)

/-- The gate requests of a phase (R247, R250, R251, R255): what its drive calls for, with the periodic refresh of the
boundary before, the UV refreshes, the periodic refresh of the boundary to come, and low after an interlock refusal. -/
def BridgeUnit.shape (u : BridgeUnit) (k : PhaseTimes) (p : Nat) : List GateSeg :=
  if u.intlk.get p then [⟨0, false, false⟩]
  else
    let w := (u.drive.get p).wave
    let w := if u.refreshed.get p then
        wavePatch (wavePatch w (k.minoff / 2) (k.minoff / 2 + k.dt) hiOff) 0 (k.minoff / 2) lowOn else w
    let w := (u.uvAt.get p).foldl (fun w t => wavePatch (wavePatch w t (t + 2 * k.dt + k.minoff) hiOff)
      (t + k.dt) (t + k.dt + k.minoff) lowOn) w
    if u.refreshDue k p then
      wavePatch (wavePatch w (k.per - k.minoff / 2 - k.dt) (k.per - k.minoff / 2) hiOff) (k.per - k.minoff / 2) k.per lowOn
    else w

/-- What a phase's new drive brings about: a dropped pulse, an interlock refusal, a UV refresh. -/
structure DriveEvents where
  drop : Nat
  refuse : Nat
  uv : Nat
  deriving DecidableEq, Repr

/-- A switch that turns on when the other one of its phase was on waits for DT (R248): at a boundary by the gates at the end
of the period before, within a period by what the drives call for at any of its instants. -/
def BridgeUnit.turnOnDelayed (u : BridgeUnit) (k : PhaseTimes) (start : Bool) (p : Nat) (new : PhaseDrive) : Bool :=
  if start then
    let e := waveAt (u.gates.get p) (k.per - 1)
    let n := waveAt new.wave 0
    (n.1 && e.2) || (n.2 && e.1)
  else (new.hiAny && (u.drive.get p).loAny) || (new.loAny && (u.drive.get p).hiAny)

/-- Phase `p` takes the drive `e.1`, with a dropped pulse if `e.2`, at a PWM boundary (`start`) or within a period (R247 to
R251, R255). Both requests on together are refused until both have been off; a high side that is to turn on while VBS is low
is preceded by a UV refresh. -/
def BridgeUnit.take (u : BridgeUnit) (k : PhaseTimes) (start : Bool) (e : PhaseDrive × Bool) (p : Nat) :
    BridgeUnit × DriveEvents :=
  let old := u.drive.get p
  let new := e.1
  if !start && decide (old = new) then (u, ⟨0, 0, 0⟩)
  else
    let both := decide (new = .both true true)
    let refuse := both && !u.intlk.get p
    let lock := both || (u.intlk.get p && !new.offSome)
    let owed := u.dtNext.get p || (u.intlk.get p && !lock)
    let turns := match new with
      | .both h _ => h && !old.hiEnd
      | .edges _ _ _ _ => true
    let uv := u.vbsLow.get p && turns && !lock
    let at_ : Int := match new with
      | .both _ _ => 0
      | .edges _ on _ _ => on
    let drop := e.2 && (start || !u.dropSeen.get p)
    let v : BridgeUnit := { u with
      drive := u.drive.set p new
      delayed := u.delayed.set p (!lock && (u.turnOnDelayed k start p new || (owed && (new.hiAny || new.loAny))))
      dtNext := u.dtNext.set p (owed && !(new.hiAny || new.loAny))
      intlk := u.intlk.set p lock
      lowSeen := u.lowSeen.set p (!start && (u.lowSeen.get p || (old.loAny && !u.intlk.get p)))
      dropSeen := u.dropSeen.set p (e.2 || (!start && u.dropSeen.get p))
      uvAt := u.uvAt.set p ((if start then [] else u.uvAt.get p) ++ (if uv then [at_] else []))
      uvSeen := u.uvSeen.set p (uv || (!start && u.uvSeen.get p))
      starved := if uv then u.starved.set p 0 else u.starved
      uvRuns := if uv then u.uvRuns.set p (u.uvRuns.get p + 1) else u.uvRuns
      evIntlk := u.evIntlk || refuse
      evBuvref := u.evBuvref || uv }
    ({ v with gates := v.gates.set p (v.shape k p) }, ⟨bit drop, bit refuse, bit uv⟩)

/-- Counts an event of a bridge page `k` times (R266). -/
def BrgState.countK (b : BrgState) (n code k : Nat) : BrgState :=
  (List.range k).foldl (fun (b : BrgState) _ => b.count (P.BRG n) code) b

/-- `k` dropped pulses, interlock refusals or UV refreshes: event bit, counter and event count (R247, R251, R255, R266). -/
def BrgState.dropped (b : BrgState) (n k : Nat) : BrgState :=
  if k = 0 then b else (b.put (F.BRG_EVT_DROP n) 1).countK n 6 k
def BrgState.refusedGates (b : BrgState) (n k : Nat) : BrgState :=
  if k = 0 then b else ((b.bump (F.BRG_INTLKCNT_INTLK n) k).put (F.BRG_EVT_INTLK n) 1).countK n 5 k
def BrgState.uvRefreshed (b : BrgState) (n k : Nat) : BrgState :=
  if k = 0 then b else ((b.bump (F.BRG_REFCNT_UV n) k).put (F.BRG_EVT_BUVREF n) 1).countK n 4 k

/-- A bridge takes a new drive, at a PWM boundary (`start`) or within a period. -/
def BrgState.setDrive (b : BrgState) (n : Nat) (start : Bool) (t : Tri (PhaseDrive × Bool)) : BrgState :=
  let k := b.times n
  let u := (b.unit n).take k start t.u 0
  let v := u.1.take k start t.v 1
  let w := v.1.take k start t.w 2
  let b := b.modUnit n fun _ => w.1
  let b := b.dropped n (u.2.drop + v.2.drop + w.2.drop)
  let b := b.refusedGates n (u.2.refuse + v.2.refuse + w.2.refuse)
  b.uvRefreshed n (u.2.uv + v.2.uv + w.2.uv)

/-- The gate requests of the period in progress are formed anew: a register that shapes them was written. -/
def BrgState.reshape (b : BrgState) (n : Nat) : BrgState :=
  let k := b.times n
  b.modUnit n fun u => { u with gates := ⟨u.shape k 0, u.shape k 1, u.shape k 2⟩ }

/-- Whether neither gate supply is valid (R229, R243). -/
def State.noGateSupply (s : State) : Bool := s.bed.get (F.vgd .A) == 0 && s.bed.get (F.vgd .B) == 0

/-- The rank in force (R243). -/
def State.rankOf (s : State) (n : Nat) : Nat :=
  let b := s.brg
  let u := b.unit n
  if u.benOff then 1
  else if s.noGateSupply || b.pllHold || b.get F.BCOM_TBSTAT_LOCK == 0 then 2
  else if b.get (F.BRG_FLTLAT_DESAT n) ≠ 0 then 3
  else if b.get F.BCOM_TBSTAT_ARMED = 0 ∨ b.get F.BCOM_TBSTAT_ORPHLAT = 1 then 4
  else if b.rd (R.BRG_FLTLAT n) ≠ 0 then 5
  else if b.get (F.BRG_BSTAT_TERM n) = 1 then 6
  else if b.get (F.BRG_BSTAT_ACT n) = Act.clear ∨ b.get (F.running (P.BRG n)) = 0 then 7
  else if b.get (F.BRG_BSTAT_PRE n) = 1 then 8 else 9

/-- The drive of a rank below 9, and whether its gates are all low (R243, R257, R227). -/
def State.rankDrive (s : State) (n r : Nat) : Tri (PhaseDrive × Bool) × Bool :=
  let b := s.brg
  let low := Tri.all (PhaseDrive.both false false, false)
  let asc := Tri.all (PhaseDrive.both false true, false)
  if r = 4 then
    if b.get F.BCOM_TBSTAT_ORPHLAT = 1 ∧ b.get F.BCOM_STRAPS_ORPH / 2 ^ n % 2 = 1 then (asc, false) else (low, true)
  else if r = 5 then if b.get (F.BRG_BRGCFG_FSTATE n) = 1 then (asc, false) else (low, true)
  else if r = 6 then
    let t := b.get (F.BRG_BSTAT_TSTATE n)
    (b.termDrive n t, t == 0)
  else if r = 7 then
    let ovr := b.get (F.BRG_GATEOVR_EN n) = 1 ∧ b.get (F.run (P.BRG n)) = 0 ∧
      (s.devState = Dev.start ∨ s.devState = Dev.idle)
    if ovr then
      let o := b.get (F.BRG_GATEOVR_ON n)
      let ph := fun p => (PhaseDrive.both (o / 4 ^ p % 2 == 1) (o / 4 ^ p / 2 % 2 == 1), false)
      (⟨ph 0, ph 1, ph 2⟩, o == 0)
    else (low, true)
  else if r = 8 then (asc, false)
  else (low, true)

/-- The ARG bits and payload bits that a bridge's STATUS frame carries (R263). -/
def State.statusWords (s : State) (n : Nat) : Nat × Nat :=
  let b := s.brg
  let u := b.unit n
  let f := fun fl => bit (b.get fl ≠ 0)
  let arg := f (F.BRG_FLTLAT_DESAT n) + 2 * f (F.BRG_FLTLAT_OC n) + 4 * f (F.BRG_FLTLAT_BOOTUV n)
    + 8 * b.get (F.BRG_FLTLAT_VBRUV n) + 16 * b.get (F.BRG_FLTLAT_VBROV n) + 32 * b.get (F.BRG_FLTLAT_OTEMP n)
    + 64 * bit u.evIntlk + 128 * bit u.evCode + 256 * bit u.evBuvref
  let temp := b.get (F.BRG_BSTAT_TEMP n)
  let pay := b.get (F.BRG_BSTAT_HOLDCNT n) + 128 * b.get (F.BRG_BSTAT_TERM n) + 256 * b.get (F.BRG_BSTAT_TSTATE n)
    + 1024 * bit (temp > b.get (F.BRG_TEMPCFG_TWARN n) + 64) + 2048 * b.get (F.BRG_BSTAT_BEN n)
    + 4096 * bit u.evClrref + 8192 * b.get (F.clamped (P.BRG n)) + 16384 * b.get (F.clamped P.BCOM)
  (arg, pay)

/-- A STATUS frame of a bridge goes to both lanes; its event bits restart (R263). -/
def State.sendStatus (s : State) (n : Nat) : State :=
  let w := s.statusWords n
  let s := s.sendUpBoth 0xB n w.1 [BitVec.ofNat 16 w.2]
  s.modUnit n fun x => { x with evIntlk := false, evCode := false, evBuvref := false, evClrref := false, sent := w }

/-- A STATUS frame goes out when an ARG bit or a payload bit [13:7] differs from those last sent, or, for
bridge 0, payload bit [14] (R263). -/
def State.statusCheck (s : State) (n : Nat) : State :=
  let w := s.statusWords n
  let last := (s.unit n).sent
  let hi := fun p : Nat => (p / 128 % 32, p / 8192 % 2)
  if w.1 / 64 ≠ 0 ∨ w.1 % 64 ≠ last.1 % 64 ∨ (s.unit n).evClrref ∨ hi w.2 ≠ hi last.2 ∨
      (n = 0 ∧ w.2 / 16384 ≠ last.2 / 16384) then s.sendStatus n
  else s

/-- Re-evaluates the rank of a bridge after anything it depends on (R243), starts a precharge (R252), and
applies a rank below 9 at once; rank 9 applies the hold latches from the next PWM boundary. -/
def State.rankUpdate (s : State) (n : Nat) : State :=
  let old := s.brg.get (F.BRG_BSTAT_DRIVE n)
  let u := s.unit n
  let s := if s.rankOf n < 8 then s.modBrg (·.put (F.BRG_BSTAT_PRE n) 0) else s
  let r0 := s.rankOf n
  let start := r0 = 9 ∧ (old = 7 ∨ (old ≤ 6 ∧ u.allLow)) ∧ s.brg.get (F.BRG_BOOT_PRECHG n) ≠ 0
  let s := if start then s.modBrg (·.put (F.BRG_BSTAT_PRE n) 1) else s
  let r := s.rankOf n
  let s := s.modBrg (·.put (F.BRG_BSTAT_DRIVE n) r)
  let s :=
    if r < 9 then
      let d := s.rankDrive n r
      (s.modBrg (·.setDrive n false d.1)).modUnit n fun x => { x with live := false, allLow := d.2 }
    else s
  s.statusCheck n

/-- Every bridge's rank. -/
def State.rankAll (s : State) : State := (List.range 8).foldl State.rankUpdate s

/-- The common page's conditions follow LOCK, after a first lock, and ORPHLAT in both lanes' copies (R267). -/
def BrgState.bcomRaw (b : BrgState) : Word :=
  BitVec.ofNat 32 (bit (b.locked && b.get F.BCOM_TBSTAT_LOCK == 0) + 2 * b.get F.BCOM_TBSTAT_ORPHLAT)
def State.bcomIrq (s : State) : State :=
  let v := s.brg.bcomRaw
  s.modLanes (·.irqCycle P.BCOM 3 v 0)

end Sys2Proof.Machine
end

