-- ==== Sys2Proof/Machine/Bedrock.lean ====
section
/-!
DEFINITION. Bedrock's shared operations: lane status and capability (R215, R216), the domain state
machine (R220, R221), selection words (R226), entry into DEVICE_SAFE (R233), hold and terminal states
(R28, R229), and the safe-output side of both (R374, R382, R385).
-/
namespace Sys2Proof.Machine
open Sys2Proof

/-- Lane status codes (R236). -/
def Stat.off : Nat := 0
def Stat.boot : Nat := 1
def Stat.up : Nat := 2
def Stat.lost : Nat := 3
def Stat.excluded : Nat := 4

/-- Domain states (R220). -/
def Dom.idle : Nat := 0
def Dom.held : Nat := 1
def Dom.brk : Nat := 2
def Dom.make : Nat := 3
def Dom.gap : Nat := 4
def Dom.terminal : Nat := 5
def Dom.safe : Nat := 7

/-- Lane-indexed fields of Bedrock. -/
def F.status (x : Lane) : Fld := byLane x F.BSYS_DEVSTAT_LANEA F.BSYS_DEVSTAT_LANEB
def F.cap (x : Lane) : Fld := byLane x F.BSYS_DEVSTAT_CAPA F.BSYS_DEVSTAT_CAPB
def F.feed (x : Lane) : Fld := byLane x F.BSYS_DEVSTAT_FEEDA F.BSYS_DEVSTAT_FEEDB
def F.laneCause (x : Lane) : Fld := byLane x F.BSYS_LANECAUSE_CAUSEA F.BSYS_LANECAUSE_CAUSEB
def F.rdy (x : Lane) (d : Nat) : Fld := byLane x (F.BLEASE_LSTAT_RDYA d) (F.BLEASE_LSTAT_RDYB d)
def F.diag (x : Lane) (d : Nat) : Fld := byLane x (F.BLEASE_LSTAT_DIAGA d) (F.BLEASE_LSTAT_DIAGB d)
def F.rseq (x : Lane) : Fld := byLane x F.BLEASE_RSEQ_A_SEQ F.BLEASE_RSEQ_B_SEQ
def F.neg (x : Lane) : Fld := byLane x F.BLEASE_VOTECNT_NEGA F.BLEASE_VOTECNT_NEGB
def F.cur (x : Lane) : Fld := byLane x F.BSAFE_PSTAT_CURA F.BSAFE_PSTAT_CURB
def F.joined (x : Lane) : Fld := byLane x F.BSAFE_PSTAT_JOINA F.BSAFE_PSTAT_JOINB
def F.ldis (x : Lane) : Fld := byLane x F.BSAFE_PSTAT_LDISA F.BSAFE_PSTAT_LDISB
def F.dtmo (x : Lane) : Fld := byLane x F.BSAFE_PSTAT_DTMOA F.BSAFE_PSTAT_DTMOB

/-- The lane of a 1-bit code. -/
def laneOf (v : Nat) : Lane := if v = 0 then .A else .B

def State.laneStatus (s : State) (x : Lane) : Nat := s.bed.get (F.status x)
def State.capable (s : State) (x : Lane) : Bool := s.bed.get (F.cap x) = 1
def State.domState (s : State) (d : Nat) : Nat := s.bed.get (F.BLEASE_LSTAT_STATE d)
def State.holder (s : State) (d : Nat) : Lane := laneOf (s.bed.get (F.BLEASE_LSTAT_HOLDER d))
def State.ready (s : State) (x : Lane) (d : Nat) : Bool := s.bed.get (F.rdy x d) = 1

/-- The lane that holds a domain: HOLDER in MAKE and HELD (R220). -/
def State.holderOf (s : State) (d : Nat) : Option Lane :=
  if s.domState d = Dom.held ∨ s.domState d = Dom.make then some (s.holder d) else none

/-- The bridges of a domain and the domain of a bridge, the lowest that names it (R213). -/
def State.domBridges (s : State) (d : Nat) : List Nat :=
  (List.range 8).filter fun n => s.bed.get (F.BLEASE_LCFG_BRIDGES d) / 2 ^ n % 2 = 1
def State.domainOf (s : State) (n : Nat) : Option Nat :=
  (List.range 8).find? fun d => (s.domBridges d).contains n

/-- Sets a field of Bedrock. -/
def State.bput (s : State) (f : Fld) (v : Nat) : State := s.modBed (·.put f v)
def State.bbump (s : State) (f : Fld) (k : Nat) : State := s.modBed (·.bump f k)

/-- Bedrock attention: APLIC source 21 of both lanes (R67). -/
def State.attention (s : State) : State := s.modLanes (·.aplicPulse 21)

/-- Terminal requests that wait for their boundary are dropped: they act only in DRIVE (R259). -/
def State.dropRequests (s : State) : State :=
  (List.range 8).foldl (fun (s : State) n => if (s.unit n).treq then s.modUnit n fun x => { x with treq := false } else s) s

/-- A bridge at rank 7 with GATEOVR enabled follows the device state (R265). -/
def State.overrideUpdate (s : State) : State :=
  (List.range 8).foldl (fun (s : State) n =>
    if s.brg.get (F.BRG_GATEOVR_EN n) = 1 ∧ s.brg.get (F.BRG_BSTAT_DRIVE n) = 7 then s.rankUpdate n else s) s

/-- The device state changes, with its interrupt pulse (R240), Bedrock attention, and what it means for the bridges. -/
def State.setDev (s : State) (v : Nat) : State :=
  if s.devState = v then s
  else
    let t := ((s.bput F.BSYS_DEVSTAT_DEVSTATE v).irqPulseBoth P.BSYS (mbit 0)).attention
    (if s.devState = Dev.drive then t.dropRequests else t).overrideUpdate

/-- A lane's staged command for a bridge (R19). -/
def BrgState.staged (s : BrgState) (x : Lane) (n : Nat) : Option Staged :=
  Table.get (fun _ => none) (byLane x s.stA s.stB) n
def BrgState.setStaged (s : BrgState) (x : Lane) (n : Nat) (c : Option Staged) : BrgState :=
  match x with
  | .A => { s with stA := Table.set (fun _ => none) s.stA n c }
  | .B => { s with stB := Table.set (fun _ => none) s.stB n c }

/-- The selection of a bridge (R213, R220). -/
def State.selection (s : State) (n : Nat) : Nat × Nat :=
  if s.devState = Dev.safe then (Sel.none, Act.terminal)
  else match s.domainOf n with
    | none => (Sel.none, Act.clear)
    | some d =>
      let st := s.domState d
      if st = Dom.held ∨ st = Dom.make then (Sel.lane (s.holder d), Act.run)
      else if st = Dom.brk ∨ st = Dom.gap then (Sel.none, Act.run)
      else if st = Dom.terminal ∨ st = Dom.safe then (Sel.none, Act.terminal)
      else (Sel.none, Act.clear)

/-- The mask of active halves (R225). -/
def State.halfMask (s : State) : Nat := s.bed.get F.BSYS_DEVSTAT_H0OK + 2 * s.bed.get F.BSYS_DEVSTAT_H1OK

/-- Bedrock runs: it is supplied, its clocks run and a half is active (R225, R439). -/
def State.bedrockRuns (s : State) : Bool := s.bed.on && !s.bed.clockOff && decide (s.halfMask ≠ 0)

/-- The active halves send a SELECT word with the next sequence number; it awaits acknowledgement (R226).
Nothing is sent when both halves have retired. -/
def State.sendSelect (s : State) : State :=
  let m := s.halfMask
  if m = 0 then s
  else
    let w : SelectWord :=
      ⟨(List.range 8).map fun n => (s.selection n).1, (List.range 8).map fun n => (s.selection n).2,
       m, s.bed.selSeq, true, if m = 3 then 2 else 1, true⟩
    s.modBed fun b => { b with selSeq := (b.selSeq + 1) % 256, selOut := some w, selWire := b.selWire ++ [w] }

/-- Domain `d` takes a selection that the next word is the first to name (R226). -/
def State.reselect (s : State) (d : Nat) : State :=
  (s.modBed fun b => { b with domSeq := Table.set (fun _ => 0) b.domSeq d b.selSeq }).sendSelect

/-- Standby-readiness of a lane for a domain (R218). -/
def State.setReady (s : State) (x : Lane) (d : Nat) (v : Bool) : State := s.bput (F.rdy x d) (bit v)

/-- A simplex context of the captured descriptors commands bridges of domain `d` (R202). -/
def LaneState.leaseContext (l : LaneState) (d : Nat) : Bool :=
  (List.range 128).any fun c =>
    let f := fun fl : Fld => l.sieve.desc.get fl
    f (F.PLC_DESC_0_AUTHEN c) == 1 && f (F.PLC_DESC_0_DOMAIN c) == d &&
      [2, 3, 4].contains (f (F.PLC_DESC_0_CLASS c))

/-- Sieve's LEASE trigger when the holder of a domain changes (R202). -/
def State.leaseTrigger (s : State) (d : Nat) : State :=
  s.modLanes fun l => if l.leaseContext d then l.trigger 7 else l

/-- The domains whose handover is under way. -/
def State.setHand (s : State) (d : Nat) (v : Bool) : State :=
  s.modBed fun b => { b with hand := if v then insertNat d b.hand else b.hand.filter (· ≠ d) }

/-- A domain enters BREAK (R221, R224): holder cleared, cause and lane recorded, SELECT with NONE queued. -/
def State.enterBreak (s : State) (d cause : Nat) : State :=
  let x := s.holder d
  let s := s.bput (F.BLEASE_LSTAT_STATE d) Dom.brk
  let s := s.bput (F.BLEASE_LSTAT_HOLDER d) 0
  let s := s.bbump (F.BLEASE_LCNT_HANDOVER d) 1
  let s := s.bput (F.BLEASE_LLAST_CAUSE d) cause
  let s := s.bput (F.BLEASE_LLAST_FROM d) x.num
  ((((s.setHand d true).setReady x d false).leaseTrigger d)).reselect d

/-- A domain enters MAKE toward a lane (R221); the lane becomes its holder and loses readiness (R218). -/
def State.enterMake (s : State) (d : Nat) (x : Lane) : State :=
  let s := s.bput (F.BLEASE_LSTAT_STATE d) Dom.make
  let s := s.bput (F.BLEASE_LSTAT_HOLDER d) x.num
  ((s.setReady x d false).leaseTrigger d).reselect d

/-- A domain enters HELD (R221): lease loaded, handover time recorded, interrupt (R224, R240). -/
def State.enterHeld (s : State) (d cycles : Nat) : State :=
  let s := s.bput (F.BLEASE_LSTAT_STATE d) Dom.held
  let s := if s.bed.hand.contains d then (s.bput (F.BLEASE_LLAST_CYCLES d) (min cycles 255)).setHand d false else s
  let now := s.nowUs
  let s := s.modBed fun b => { b with leaseAt := Table.set (fun _ => 0) b.leaseAt d now }
  s.irqPulseBoth P.BLEASE (mbit d)

/-- Whether some domain is in GAP: the cause of Bedrock source 16 (R398). -/
def State.anyGap (s : State) : Bool := (List.range 8).any fun d => s.domState d == Dom.gap
/-- Whether some bridge applies its terminal state: the cause of Bedrock source 17 (R398). -/
def State.anyTerm (s : State) : Bool := (List.range 8).any fun n => s.bed.get (F.BLEASE_HOLD_TERM n) == 1

/-- In GAP, a ready lane takes the domain; on a tie LCFG.PREF (R221). -/
def State.gapCheck (s : State) (d : Nat) : State :=
  if s.domState d ≠ Dom.gap then s
  else
    let p := laneOf (s.bed.get (F.BLEASE_LCFG_PREF d))
    if s.ready p d then s.enterMake d p else if s.ready p.peer d then s.enterMake d p.peer else s

/-- A domain enters GAP (R221, R240, R398); when every bridge of it is in its terminal state already it
passes to TERMINAL. -/
def State.terminalCheck (s : State) (d : Nat) : State :=
  if s.domState d = Dom.gap ∧ (s.domBridges d).all (fun n => s.bed.get (F.BLEASE_HOLD_TERM n) == 1) then
    (s.bput (F.BLEASE_LSTAT_STATE d) Dom.terminal).reselect d
  else s

def State.enterGap (s : State) (d : Nat) : State :=
  let had := s.anyGap
  let s := s.bput (F.BLEASE_LSTAT_STATE d) Dom.gap
  let s := s.bbump (F.BLEASE_LCNT_GAPS d) 1
  let s := s.irqPulseBoth P.BLEASE (mbit (8 + d))
  let s := if had then s else s.bedRaise 16
  ((s.gapCheck d).terminalCheck d).reselect d

/-- Writes the bridge's hold count and terminal record where STATUS, BSTAT and BLEASE report them (R244). -/
def State.setHold (s : State) (n c : Nat) : State :=
  (s.modBrg (·.put (F.BRG_BSTAT_HOLDCNT n) c)).bput (F.BLEASE_HOLD_COUNT n) c
def State.setTerm (s : State) (n : Nat) (v : Bool) (t : Nat) : State :=
  let s := s.modBrg fun b => (b.put (F.BRG_BSTAT_TERM n) (bit v)).put (F.BRG_BSTAT_TSTATE n) t
  (s.bput (F.BLEASE_HOLD_TERM n) (bit v)).bput (F.BLEASE_HOLD_TSTATE n) t

/-- The lane's view of its own bridge link and the bridge die's (R216, R33); a fence of the link makes it
count as down (R532). -/
def State.bridgeLinkUp (s : State) (x : Lane) : Bool :=
  (s.lane x).blUp && !(byLane x s.brg.rxA s.brg.rxB).down

/-! ### Evaluators and safe outputs -/

def EvalState.reset : EvalState := ⟨false, false, false, none, none, [], []⟩
def State.eval (s : State) (e : Nat) : EvalState := Table.get (fun _ => EvalState.reset) s.bed.safety.evals e
def State.modEval (s : State) (e : Nat) (f : EvalState → EvalState) : State :=
  s.modBed fun b =>
    { b with safety := { b.safety with evals := Table.upd (fun _ => EvalState.reset) b.safety.evals e f } }
def State.evState (s : State) (e : Nat) : Nat := s.bed.get (F.BSAFE_EVSTAT_STATE e)
def State.evType (s : State) (e : Nat) : Nat := s.bed.get (F.BSAFE_EVCFG_TYPE e)
def State.path (s : State) (x : Lane) : PathLane := byLane x s.bed.safety.pathA s.bed.safety.pathB
def State.setPath (s : State) (x : Lane) (p : PathLane) : State :=
  s.modBed fun b => { b with safety :=
    match x with
    | .A => { b.safety with pathA := p }
    | .B => { b.safety with pathB := p } }

/-- An evaluator changes state (R374), with its pulse (R391). -/
def State.evGo (s : State) (e v : Nat) : State :=
  if s.evState e = v then s
  else (s.bput (F.BSAFE_EVSTAT_STATE e) v).irqPulseBoth P.BSAFE (mbit e)

/-- An evaluator enters LOCKOUT or, in LOCKOUT, records a further cause (R386). From OFF only DEVICE_SAFE
locks out (R374). -/
def State.lockout (s : State) (e cause : Nat) : State :=
  let st := s.evState e
  if st = 5 then
    s.modEval e fun v => { v with causes := if v.causes.contains cause then v.causes else v.causes ++ [cause] }
  else if st = 0 ∧ cause ≠ 6 then s
  else
    let s := s.evGo e 5
    let s := s.bput (F.BSAFE_EVSTAT_CAUSE e) cause
    let s := s.bbump (F.BSAFE_EVCNT_LOCKOUTS e) 1
    let s := s.modEval e fun v => { v with causes := [cause] }
    s.irqPulseBoth P.BSAFE (mbit (8 + e))

/-- The hardwired demand (R382). -/
def State.hwDemand (s : State) : Nat :=
  (List.range 8).foldl (fun m k =>
    let es := (List.range 8).filter fun e => s.bed.get (F.BSAFE_EVOUT_OUTMASK e) / 2 ^ k % 2 = 1
    if es ≠ [] ∧ es.all (fun e => s.evState e == 4) then m + 2 ^ k else m) 0

/-- Bitwise AND and OR of 8-bit masks, complement in 8 bits. -/
def and8 (a b : Nat) : Nat := (a &&& b) % 256
def or8 (a b : Nat) : Nat := (a ||| b) % 256
def not8 (a : Nat) : Nat := 255 - a % 256

/-- Whether a lane meets the conditions of the join (R381). -/
def State.mayJoin (s : State) (x : Lane) : Bool :=
  s.bed.get (F.cur x) == 1 && s.bed.get (F.ldis x) == 0 && s.bed.get (F.dtmo x) == 0 && (s.path x).joinOk

/-- Re-forms the join, the combined demand and the combined inhibit (R381, R382), with the pulse of R391. -/
def State.pathUpdate (s : State) : State :=
  let upd := fun (s : State) (x : Lane) =>
    let j := s.mayJoin x
    if s.bed.get (F.joined x) = bit j then s
    else (s.bput (F.joined x) (bit j)).irqPulseBoth P.BSAFE (mbit 17)
  let s := upd (upd s .A) .B
  let ja := s.mayJoin .A; let jb := s.mayJoin .B
  let dmd := if ja ∧ jb then and8 s.bed.safety.pathA.dmd s.bed.safety.pathB.dmd
    else if ja then s.bed.safety.pathA.dmd else if jb then s.bed.safety.pathB.dmd else 0
  let inhOf := fun x => if s.bed.get (F.cur x) = 1 then (s.path x).inh else 0
  (s.bput F.BSAFE_PSTAT_DMD dmd).bput F.BSAFE_PSTAT_INH (or8 (inhOf .A) (inhOf .B))

/-- A lane's mirrors of the safety balls, with the pulse for a change of SIMIR or SOMIR[16] (R392). -/
def State.mirrorsOf (s : State) (l : LaneState) : LaneState :=
  let f := s.bed.safety
  let m := (List.range 16).foldl (fun (l : LaneState) n =>
    (l.put (F.SYS_SIMIR_A n) (bit (f.mirA.getLsbD n))).put (F.SYS_SIMIR_B n) (bit (f.mirB.getLsbD n))) l
  let m := m.put F.SYS_SOMIR_SRST (bit f.mirSrst)
  let same := m.rd R.SYS_SIMIR = l.rd R.SYS_SIMIR ∧ m.get F.SYS_SOMIR_SRST = l.get F.SYS_SOMIR_SRST
  let m := (m.put F.SYS_SOMIR_SOA (s.bed.get F.BSAFE_SOSTAT_RBA)).put F.SYS_SOMIR_SOB (s.bed.get F.BSAFE_SOSTAT_RBB)
  let m := m.put F.SYS_SOMIR_TP (s.bed.get F.BSAFE_TPSTAT_RB)
  if same then m else m.irqPulse P.SYS (mbit 16)

/-- Both lanes' mirrors follow the balls, where the lane samples (R366, R392). -/
def State.mirrors (s : State) : State := s.modLanes fun l => if l.alive then s.mirrorsOf l else l

/-- The safe-output commands (R382); readback follows a command that changes. -/
def State.outputUpdate (s : State) : State :=
  let ok := (s.devState = Dev.idle ∨ s.devState = Dev.drive) ∧ s.halfMask ≠ 0 ∧ (s.mayJoin .A ∨ s.mayJoin .B)
  let cmd := if ok then
      and8 (and8 (s.bed.get F.BSAFE_SOSTAT_HWDMD) (s.bed.get F.BSAFE_PSTAT_DMD)) (not8 (s.bed.get F.BSAFE_PSTAT_INH))
    else 0
  if s.bed.get F.BSAFE_SOSTAT_CMD = cmd then s
  else
    let s := s.bput F.BSAFE_SOSTAT_CMD cmd
    let s := s.bput F.BSAFE_SOSTAT_RBA cmd
    let s := s.bput F.BSAFE_SOSTAT_RBB cmd
    s.mirrors

/-- Steps 5 to 7 of R376: hardwired demand, processor path, safe outputs. -/
def State.demandUpdate (s : State) : State :=
  ((s.bput F.BSAFE_SOSTAT_HWDMD s.hwDemand).pathUpdate).outputUpdate

/-- A lane leaves the join (R381). -/
def State.leaveJoin (s : State) (x : Lane) : State := s.setPath x { s.path x with joinOk := false }

/-- A lane stops being current; a joined lane leaves the join with DMDTMO raised against it (R381, R398). -/
def State.loseCurrent (s : State) (x : Lane) : State :=
  let wasJoined := s.bed.get (F.joined x) == 1
  let s := s.bput (F.cur x) 0
  let s := if wasJoined then ((s.leaveJoin x).bput (F.dtmo x) 1).bedRaiseFor 30 x else s
  s.pathUpdate.outputUpdate

/-- Entry into DEVICE_SAFE (R233, R385): from IDLE, DRIVE, and from START for cause START (R43). -/
def State.deviceSafe (s : State) (cause : Nat) : State :=
  if s.bedrockRuns ∧ (s.devState = Dev.idle ∨ s.devState = Dev.drive ∨ (s.devState = Dev.start ∧ cause = 6)) then s.oneCycle fun s =>
    let s := (List.range 8).foldl (fun (s : State) d => if (s.holderOf d).isSome then s.leaseTrigger d else s) s
    let s := (s.setDev Dev.safe).bput F.BSYS_SAFECAUSE_CAUSE cause
    let s := (List.range 8).foldl (fun (s : State) d =>
      ((s.bput (F.BLEASE_LSTAT_STATE d) Dom.safe).setReady .A d false).setReady .B d false) s
    let s := (List.range 8).foldl (fun (s : State) e => s.lockout e 6) s
    s.demandUpdate.sendSelect
  else s

/-! ### Lane status and capability -/

/-- A lane that stops being capable (R216). -/
def State.loseCapable (s : State) (x : Lane) : State :=
  let cause := if s.laneStatus x = Stat.lost then 6 else 7
  (List.range 8).foldl (fun (s : State) d =>
    let s := s.setReady x d false
    if s.holderOf d = some x then s.enterBreak d cause else s) s

/-- Re-evaluates both lanes' capability (R216) while Bedrock runs and enters DEVICE_SAFE when none is capable (R233). -/
def State.capUpdate (s : State) : State :=
  if !s.bedrockRuns then s else
  let upd := fun (s : State) (x : Lane) =>
    let now := decide (s.laneStatus x = Stat.up) && s.bridgeLinkUp x
    if s.capable x = now then s
    else
      let s := s.bput (F.cap x) (bit now)
      if now then s else s.loseCapable x
  let s := upd (upd s .A) .B
  if !s.capable .A && !s.capable .B then s.deviceSafe 3 else s

/-- A field of the active copy of the slot tables, CTXCFG and bindings (R165). -/
def LaneState.act (l : LaneState) (f : Fld) : Nat := l.active.get f

/-- The active bindings of a context, by index in ascending order (R162). -/
def LaneState.bindings (l : LaneState) (c : Nat) : List Nat :=
  (List.range (l.act (F.LE_CTXCFG_BCOUNT c))).map (· + l.act (F.LE_CTXCFG_BFIRST c))

/-- The bridges that a context's enabled BRIDGE bindings name (R159). -/
def LaneState.ctxBridges (l : LaneState) (c : Nat) : List Nat :=
  ((l.bindings c).filter fun n => l.act (F.LE_BINDA_EN n) == 1 && l.act (F.LE_BINDA_TYPE n) == 8).map
    fun n => l.act (F.LE_BINDA_INDEX n)

/-- The contexts that a slot hosts (R145). -/
def LaneState.slotContexts (l : LaneState) (s : Nat) : List Nat :=
  ((List.range (min (l.act (F.LESLOT_SLOTCFG_DIV s)) 8)).filter fun r => l.act (F.LESLOT_ROT_VALID s r) == 1).map
    fun r => l.act (F.LESLOT_ROT_CTX s r)

/-- The self-diagnosis condition of R25 in a lane, for a domain with these bridges: an uncleared LANE_DOWN,
or an uncleared FENCE of the engine, a slot that hosts the domain's contexts, its bridge link or the lane link;
and a fence of a bridge of the domain (R405). -/
def LaneState.diagFenced (l : LaneState) (bridges : List Nat) : Bool :=
  (List.range 256).any (fun s => l.get (F.FLT_SSTAT_STATE s) ≠ 0 && l.get (F.FLT_SSTAT_ACTSEV s) == Sev.laneDown) ||
  l.fences.any (fun e => match e.2 with
    | .engine => true
    | .blink => true
    | .llink => true
    | .slot s => (l.slotContexts s).any fun c => (l.ctxBridges c).any bridges.contains
    | .bridge n => bridges.contains n
    | .bridges => !bridges.isEmpty
    | _ => false)
def State.selfDiag (s : State) (x : Lane) (d : Nat) : Bool :=
  (s.lane x).diagFenced (s.domBridges d) || (byLane x s.bed.negA s.bed.negB).contains d

/-- Lease time left (R221, R237). -/
def State.leaseLeft (s : State) (d : Nat) : Nat :=
  if s.domState d = Dom.held then
    s.bed.get (F.BLEASE_LCFG_LEASEP d) - (s.nowUs - Table.get (fun _ => 0) s.bed.leaseAt d)
  else 0

/-- HELD, its holder self-diagnosed while the other lane is standby-ready: BREAK with cause DIAG (R221). -/
def State.diagCheck (s : State) (d : Nat) : State :=
  if s.domState d = Dom.held ∧ s.selfDiag (s.holder d) d ∧ s.ready (s.holder d).peer d then s.enterBreak d 3 else s

def State.diagAll (s : State) : State := (List.range 8).foldl State.diagCheck s

/-- HELD with its lease run out: BREAK with cause EXPIRY (R221). -/
def State.expiryCheck (s : State) (d : Nat) : State :=
  if s.domState d = Dom.held ∧ s.leaseLeft d = 0 then s.enterBreak d 1 else s

/-- What a Bedrock cycle evaluates before its requests and its commits: lease expiry, then self-diagnosis (R222). -/
def State.settle (s : State) : State := ((List.range 8).foldl State.expiryCheck s).diagAll

/-- A lane's last renewal for a domain was positive or negative (R25). -/
def State.setNeg (s : State) (x : Lane) (d : Nat) (v : Bool) : State :=
  s.modBed fun b =>
    let f := fun (l : List Nat) => if v then insertNat d l else l.filter (· ≠ d)
    match x with
    | .A => { b with negA := f b.negA }
    | .B => { b with negB := f b.negB }

/-- Bedrock leaves START (R43, R470); with TSTD sampled high only for DEVICE_SAFE (R509). `timeout`: 500 ms after
the first feed rise. -/
def State.startExit (s : State) (timeout : Bool) : State :=
  if s.devState ≠ Dev.start ∨ !s.bedrockRuns then s
  else
    let st := [s.laneStatus .A, s.laneStatus .B]
    let up := (st.filter (· == Stat.up)).length
    let single := s.bed.get F.BSYS_BCFG_SINGLEOK == 1
    let enter := fun (idle : Bool) =>
      if idle && !s.bed.tstd then (s.setDev Dev.idle).capUpdate.outputUpdate else s.deviceSafe 6
    if timeout then enter (decide (0 < up) && single)
    else if s.bed.get F.BSYS_BCFG_LOADED = 0 then s
    else if up = 2 then enter true
    else if st.contains Stat.boot then s
    else if up = 1 then enter single
    else enter false

/-- A lane's status changes (R215): the loss cause, the sources LOSTA and LOSTB (R398), the interrupt
(R240), the consent to PARK (R437), the renewal sequence and votes on entering BOOT (R217), currency of its demand (R380), Sieve's LANELOSS trigger
(R202), capability and the exit from START. While PARKED, and while Bedrock does not run, every status is held (R225, R439). -/
def State.setStatus (s : State) (x : Lane) (v cause : Nat) : State :=
  if s.laneStatus x = v ∨ s.devState = Dev.parked ∨ !s.bedrockRuns then s
  else
    let was := s.laneStatus x
    let s := (s.bput (F.status x) v).irqPulseBoth P.BSYS (mbit 1)
    let s := if cause = 0 then s else s.bput (F.laneCause x) cause
    let s := if (v = Stat.lost ∨ v = Stat.excluded) ∧ was ≠ Stat.lost ∧ was ≠ Stat.excluded then s.bedRaise (8 + x.num) else s
    let s := if v = Stat.boot then
        (List.range 8).foldl (fun (s : State) d => s.setNeg x d false) (s.bput (F.rseq x) 0)
      else s
    let s := if v ≠ Stat.up ∧ s.bed.get (F.cur x) = 1 then s.loseCurrent x else s
    let s := if v = Stat.up ∧ (s.path x).live then (s.bput (F.cur x) 1).pathUpdate.outputUpdate else s
    let s := if v ≠ Stat.up then s.modLane x (·.put F.PWR_PSTAT_CONSENT 0) else s
    let s := if v = Stat.lost then s.modLane x.peer (·.trigger 2) else s
    s.capUpdate.startExit false

/-- BOOT or UP to LOST (R215). -/
def State.laneLost (s : State) (x : Lane) (cause : Nat) : State :=
  if s.laneStatus x = Stat.boot ∨ s.laneStatus x = Stat.up then s.setStatus x Stat.lost cause else s

end Sys2Proof.Machine
end

