-- ==== Sys2Proof/Machine/Cache.lean ====
section
/-!
DEFINITION. The data caches and L2 over the working SRAM (spec/03_application_cores_and_lockstep.md R83,
R94, R95): what a line reads as, the ways of a set and their eviction, write-back, checkpoint requests (R89) and the
accesses of the lane's other masters. Only lines that differ from the level below are kept: a clean copy reads as what it
copies.
-/
namespace Sys2Proof.Machine
open Sys2Proof

def LaneState.pair (l : LaneState) (p : Nat) : Pair := Table.get (fun _ => Pair.reset) l.pairs p
def LaneState.modPair (l : LaneState) (p : Nat) (f : Pair → Pair) : LaneState :=
  { l with pairs := Table.upd (fun _ => Pair.reset) l.pairs p f }

/-- PAIRSTAT_n.STATE (R108). -/
def LaneState.pairState (l : LaneState) (p : Nat) : Nat := l.get (F.CKP_PAIRSTAT_STATE p)
def PState.run : Nat := 0
def PState.save : Nat := 1
def PState.restart : Nat := 2
def PState.replay : Nat := 3
def PState.halted : Nat := 4
def PState.fenced : Nat := 5

/-- The bytes of line `n` of the SRAM. -/
def LaneState.sramLine (l : LaneState) (n : Nat) : List Byte := (List.range 64).map fun i => l.byte (64 * n + i)

/-- Stores bytes from address `a` in the memory. -/
def LaneState.putBytes (l : LaneState) (a : Nat) : List Byte → LaneState
  | [] => l
  | b :: r => (l.setByte a b).putBytes (a + 1) r

/-- Line `n` as L2 holds it. -/
def LaneState.l2Line (l : LaneState) (n : Nat) : List Byte :=
  match Table.get (fun _ => none) l.l2 n with
  | some d => d
  | none => l.sramLine n

def LaneState.setL2 (l : LaneState) (n : Nat) (d : Option (List Byte)) : LaneState :=
  { l with l2 := Table.set (fun _ => none) l.l2 n d }

/-- Pair `p`'s dirty copy of line `n`. -/
def LaneState.cline (l : LaneState) (p n : Nat) : Option CLine := (l.pair p).lines.find? fun c => c.line == n

/-- The pair that holds line `n` with U = 1 (R94). -/
def LaneState.holderU (l : LaneState) (n : Nat) : Option Nat :=
  (List.range 4).find? fun p => match l.cline p n with
    | some c => c.u
    | none => false

/-- The dirty copy of line `n` in whichever data cache has one. -/
def LaneState.dirtyLine (l : LaneState) (n : Nat) : Option CLine :=
  (List.range 4).findSome? fun p => l.cline p n

/-- Line `n` as the directory supplies it. -/
def LaneState.lineData (l : LaneState) (n : Nat) : List Byte :=
  match l.dirtyLine n with
  | some c => c.data
  | none => l.l2Line n

/-- Drops pair `p`'s copy of line `n`. -/
def LaneState.dropLine (l : LaneState) (p n : Nat) : LaneState :=
  l.modPair p fun q => { q with lines := q.lines.filter fun c => c.line ≠ n }

/-- Adds or replaces a line of pair `p`. -/
def LaneState.putLine (l : LaneState) (p : Nat) (c : CLine) : LaneState :=
  l.modPair p fun q => { q with lines := c :: q.lines.filter fun d => d.line ≠ c.line }

/-- Another master's byte reaches pair `p`: it ends its hart's reservation of the granule (R82) and enters its dirty copy. -/
def LaneState.dmaShare (l : LaneState) (p a : Nat) (b : Byte) : LaneState :=
  let n := a / 64
  let l := if (l.pair p).resv = some n then l.modPair p fun q => { q with resv := none } else l
  match l.cline p n with
  | some c => l.putLine p { c with data := c.data.set (a % 64) b }
  | none => l

/-- Another master's byte reaches its line, and the copies above the memory with it. -/
def LaneState.dmaByteIn (l : LaneState) (a : Nat) (b : Byte) : LaneState :=
  let l := (List.range 4).foldl (fun l p => l.dmaShare p a b) l
  let l := match Table.get (fun _ => none) l.l2 (a / 64) with
    | some d => l.setL2 (a / 64) (some (d.set (a % 64) b))
    | none => l
  l.setByte a b

/-- The stores of other masters that waited for lines which no pair holds uncommitted any more are served, in order (R95). -/
def LaneState.serveStores (l : LaneState) : LaneState :=
  let ready := l.uStores.filter fun e => (l.holderU (e.1 / 64)).isNone
  let rest := l.uStores.filter fun e => (l.holderU (e.1 / 64)).isSome
  ready.foldl (fun (l : LaneState) e => l.dmaByteIn e.1 e.2) { l with uStores := rest }

/-- Discards every line of pair `p` with U = 1 (R100). -/
def LaneState.discardU (l : LaneState) (p : Nat) : LaneState :=
  (l.modPair p fun q => { q with lines := q.lines.filter fun c => !c.u }).serveStores

/-- Committed lines of pair `p` go to the SRAM (R452, R438). -/
def LaneState.flushPair (l : LaneState) (p : Nat) : LaneState :=
  let l := (l.pair p).lines.foldl (fun (l : LaneState) c =>
    if c.u then l else (l.setL2 c.line none).putBytes (64 * c.line) c.data) l
  l.modPair p fun q => { q with lines := q.lines.filter (·.u) }

/-! ### Ways (R83) -/

/-- The lines of the set of line `n` that pair `p` holds dirty: 64 sets of 8 ways. -/
def LaneState.l1Set (l : LaneState) (p n : Nat) : List CLine := (l.pair p).lines.filter fun c => c.line % 64 == n % 64

/-- The lines of the set of line `n` that pair `p` holds with U = 1. -/
def LaneState.waysU (l : LaneState) (p n : Nat) : Nat := ((l.l1Set p n).filter (·.u)).length

/-- The lines of L2's set of line `n` that differ from the memory there or in a data cache, which L2 includes: 2,048 sets of
16 ways. -/
def LaneState.l2Set (l : LaneState) (n : Nat) : List Nat :=
  let low := l.l2.filterMap fun e => e.2.map fun _ => e.1
  let high := (List.range 4).flatMap fun p => (l.pair p).lines.map (·.line)
  ((low ++ high).filter fun m => m % 2048 == n % 2048).foldl (fun ms m => insertNat m ms) []

/-- The line that L2 evicts for line `n`, if its set is full; which one no rule says, `free` decides. -/
def LaneState.l2Victim (l : LaneState) (n free : Nat) : Option Nat :=
  let ms := l.l2Set n
  if ms.contains n || decide (ms.length < 16) then none else ms[free % ms.length]?

/-- L2 evicts a line that no pair holds uncommitted: its data cache copy and its own go to the SRAM. -/
def LaneState.l2Evict (l : LaneState) (m : Nat) : LaneState :=
  let d := l.lineData m
  ((List.range 4).foldl (fun (l : LaneState) q => l.dropLine q m) (l.setL2 m none)).putBytes (64 * m) d

/-- Pair `p` has a way for line `n`: of a full set it writes a committed line back to L2, `free` deciding which. -/
def LaneState.makeWay (l : LaneState) (p n free : Nat) : LaneState :=
  let l := match l.l2Victim n free with
    | some m => l.l2Evict m
    | none => l
  let old := (l.l1Set p n).filter fun c => !c.u
  if (l.l1Set p n).length < 8 then l
  else match old[free % max 1 old.length]? with
    | some c => (l.setL2 c.line (some c.data)).dropLine p c.line
    | none => l

/-- Every committed dirty line of L2 and of the data caches is written back to the SRAM (R438, R452). -/
def LaneState.writeBack (l : LaneState) : LaneState :=
  let l := l.l2.foldl (fun (l : LaneState) e => match e.2 with
    | some d => l.putBytes (64 * e.1) d
    | none => l) l
  (List.range 4).foldl LaneState.flushPair { l with l2 := [] }

/-- A checkpoint of pair `p` is requested (R89); requests merge while one is pending. One that arrives in a restart waits
for its end. -/
def LaneState.ckptRequest (l : LaneState) (p : Nat) : LaneState :=
  let st := l.pairState p
  if (l.pair p).ckptReq ∨ !(l.pair p).released ∨ st = PState.halted ∨ st = PState.fenced then l
  else
    let l := l.modPair p fun q => { q with ckptReq := true }
    if st = PState.restart then l else l.put (F.CKP_PAIRSTAT_STATE p) PState.save

/-- A forced checkpoint, counted under `f` (R95, R97, R109). -/
def LaneState.ckptForce (l : LaneState) (p : Nat) (f : Fld) : LaneState :=
  (((l.bump f 1).count P.CKP 2).irqPulse P.CKP (mbit (8 + p))).ckptRequest p

/-- A forced checkpoint that a request already pending takes in counts nothing (R89). -/
def LaneState.ckptForceNew (l : LaneState) (p : Nat) (f : Fld) : LaneState :=
  if (l.pair p).ckptReq then l else l.ckptForce p f

/-- A request of another master for a line held with U = 1 forces a checkpoint of the holder (R95). -/
def LaneState.snoop (l : LaneState) (n : Nat) : LaneState :=
  match l.holderU n with
  | some p => l.ckptForceNew p (F.CKP_FORCECNT_SNOOP p)
  | none => l

/-- A byte as a master of the lane reads it through the directory: a store that waits for the line comes first. -/
def LaneState.dmaByte (l : LaneState) (a : Nat) : Byte :=
  match l.uStores.reverse.find? fun e => e.1 == a with
  | some e => e.2
  | none => match l.dirtyLine (a / 64) with
    | some c => c.data.getD (a % 64) 0
    | none => match Table.get (fun _ => none) l.l2 (a / 64) with
      | some d => d.getD (a % 64) 0
      | none => l.byte a

/-- Whether one of the `n` bytes at `a` lies in a line held with U = 1, and a read of them waits (R95). -/
def LaneState.heldU (l : LaneState) (a n : Nat) : Bool :=
  (List.range ((a % 64 + n + 63) / 64)).any fun i => (l.holderU (a / 64 + i)).isSome

/-- The holders of those lines are forced to take a checkpoint. -/
def LaneState.snoopAll (l : LaneState) (a n : Nat) : LaneState :=
  (List.range ((a % 64 + n + 63) / 64)).foldl (fun (l : LaneState) i => l.snoop (a / 64 + i)) l

/-- `n` bytes from `a` as a master reads them, little-endian. -/
def LaneState.dmaLoad (l : LaneState) (a : Nat) : Nat → Nat
  | 0 => 0
  | n + 1 => (l.dmaByte a).toNat + 256 * l.dmaLoad (a + 1) n

def LaneState.dmaWord (l : LaneState) (a : Nat) : Word := BitVec.ofNat 32 (l.dmaLoad a 4)
def LaneState.dmaDword (l : LaneState) (a : Nat) : DWord := BitVec.ofNat 64 (l.dmaLoad a 8)
def LaneState.dmaBytes (l : LaneState) (a n : Nat) : List Byte := (List.range n).map fun i => l.dmaByte (a + i)

/-- A master stores a byte; one to a line held with U = 1 forces the holder's checkpoint and waits for it (R95). -/
def LaneState.dmaPut (l : LaneState) (a : Nat) (b : Byte) : LaneState :=
  if (l.holderU (a / 64)).isSome then { l.snoop (a / 64) with uStores := l.uStores ++ [(a, b)] }
  else l.dmaByteIn a b

/-- A master stores the low `n` bytes of `v` from `a`, little-endian. -/
def LaneState.dmaStore (l : LaneState) (a n v : Nat) : LaneState :=
  match n with
  | 0 => l
  | k + 1 => (l.dmaPut a (BitVec.ofNat 8 v)).dmaStore (a + 1) k (v / 256)

/-- A master stores a list of bytes. -/
def LaneState.dmaPutBytes (l : LaneState) (a : Nat) : List Byte → LaneState
  | [] => l
  | b :: r => (l.dmaPut a b).dmaPutBytes (a + 1) r

end Sys2Proof.Machine
end

