-- ==== Sys2Proof/Machine/Pmu.lean ====
section
/-!
DEFINITION. Performance monitoring (spec/17_performance_monitoring.md): the random-tag sampler, its record
buffer and the latency histograms.
-/
namespace Sys2Proof.Machine
open Sys2Proof

/-- One step of the sampler's LFSR (R485). -/
def lfsrStep (x : Nat) : Nat :=
  let b := (x ^^^ (x / 4) ^^^ (x / 8) ^^^ (x / 32)) % 2
  x / 2 + b * 2 ^ 15

/-- A new interval (R485): the LFSR steps, the countdown is BASE + (LFSR and RMASK). -/
def LaneState.pickInterval (l : LaneState) (s : Sampler) : Sampler :=
  let x := lfsrStep s.lfsr
  { s with lfsr := x, count := l.get F.PMU_SMPINT_BASE + (x &&& l.get F.PMU_SMPINT_RMASK) }

def LaneState.sampler (l : LaneState) (p : Nat) : Option Sampler := Table.get (fun _ => none) l.pmu.samplers p
def LaneState.setSampler (l : LaneState) (p : Nat) (s : Option Sampler) : LaneState :=
  { l with pmu := { l.pmu with samplers := Table.set (fun _ => none) l.pmu.samplers p s } }

/-- EN rises: every LFSR is loaded from SMPSEED and every sampled pair's interval chosen (R485). -/
def LaneState.samplerStart (l : LaneState) : LaneState :=
  (List.range 4).foldl (fun (l : LaneState) p =>
    l.setSampler p (some (l.pickInterval ⟨l.get F.PMU_SMPSEED_SEED, 0, false, false⟩))) l

/-- A write of SMPCTL (R485, R490). -/
def LaneState.smpctlWrite (l : LaneState) (v : Word) : LaneState :=
  let old := l.get F.PMU_SMPCTL_EN
  l.command R.PMU_SMPCTL v fun l _ =>
    let l := if old = 0 ∧ l.get F.PMU_SMPCTL_EN = 1 then l.samplerStart else l
    l.irqLevel P.PMU 0 (decide (l.get F.PMU_SMPCTL_WMARK ≤ l.pmu.recs.length))

/-- SMPSTAT.COUNT and IRQRAW[0] follow the buffer (R490). -/
def LaneState.recsUpdate (l : LaneState) (rs : List SampleRec) : LaneState :=
  let l := { l with pmu := { l.pmu with recs := rs } }
  let l := l.put F.PMU_SMPSTAT_COUNT rs.length
  l.irqLevel P.PMU 0 (decide (l.get F.PMU_SMPCTL_WMARK ≤ rs.length))

/-- A pick or a record is lost (R485, R486). -/
def LaneState.sampleSkip (l : LaneState) : LaneState := (l.bump F.PMU_SMPSKIP_COUNT 1).count P.PMU 2

/-- Appends a record (R486). -/
def LaneState.recAppend (l : LaneState) (r : SampleRec) : LaneState :=
  if l.pmu.recs.length < 256 then (l.recsUpdate (l.pmu.recs ++ [r])).count P.PMU 1
  else if l.get F.PMU_SMPCTL_STOPFULL = 1 then (l.sampleSkip).irqPulse P.PMU (mbit 1)
  else (((l.recsUpdate (l.pmu.recs.drop 1 ++ [r])).put F.PMU_SMPSTAT_OVW 1).irqPulse P.PMU (mbit 1)).count P.PMU 1

/-- The record that SMPREC_w shows: the one SMPSEL.IDX past the oldest; 0 past the end (R489). -/
def LaneState.smprec (l : LaneState) (w : Nat) : Word :=
  match l.pmu.recs[l.get F.PMU_SMPSEL_IDX]? with
  | none => 0
  | some r => if w = 0 then r.w0 else if w = 1 then r.w1 else if w = 2 then r.w2 else r.w3

/-- The bin of value `v` in unit `u` (R488): the highest edge at or below it. -/
def LaneState.histBin (l : LaneState) (u v : Nat) : Nat :=
  (List.range 15).foldl (fun b i => if l.get (F.PMU_EDGE_E u (i + 1)) ≤ v then i + 1 else b) 0

/-- Unit `u` takes value `v` (R487, R488). -/
def LaneState.histValue (l : LaneState) (u v : Nat) : LaneState :=
  if !l.alive ∨ l.blockFenced P.PMU then l
  else if l.get (F.PMU_HISTCFG_FREEZE u) = 1 then l.bump (F.PMU_HISTSTAT_MISSED u) 1
  else
    let b := l.histBin u (min v 0xFFFFF)
    let l := (l.bump (F.PMU_BIN_COUNT u b) 1).count P.PMU 3
    if l.get (F.PMU_BIN_COUNT u b) = 0xFFFFFFFF ∧ l.get (F.PMU_HISTSTAT_SAT u) = 0 then
      (l.put (F.PMU_HISTSTAT_SAT u) 1).irqPulse P.PMU (mbit (2 + u))
    else l

/-- A measured occurrence of source `src` with selector `sel` (R487): a unit that selects 63 for SLOTEXEC takes
every slot; IRQLAT also compares the identity. -/
def LaneState.hist (l : LaneState) (src sel ident v : Nat) : LaneState :=
  (List.range 4).foldl (fun (l : LaneState) u =>
    let us := l.get (F.PMU_HISTCFG_SEL u)
    let ui := l.get (F.PMU_HISTCFG_IDENT u)
    if l.get (F.PMU_HISTCFG_EN u) = 1 ∧ l.get (F.PMU_HISTCFG_SRC u) = src ∧ (us = sel ∨ (src = 2 ∧ us = 63)) ∧
        (src ≠ 3 ∨ ui = 0 ∨ ui = ident) then l.histValue u v else l) l

/-- The reads of working SRAM for selector `sel` that missed L2, each with its fabric cycles (R487). -/
def LaneState.memLat (l : LaneState) (sel : Nat) (lats : List Nat) : LaneState :=
  lats.foldl (fun (l : LaneState) v => l.hist 1 sel 0 v) l

/-- Clears a unit (R488). -/
def LaneState.histClear (l : LaneState) (u : Nat) : LaneState :=
  let l := (List.range 16).foldl (fun (l : LaneState) b => l.put (F.PMU_BIN_COUNT u b) 0) l
  (l.put (F.PMU_HISTSTAT_SAT u) 0).put (F.PMU_HISTSTAT_MISSED u) 0

/-- A write of HISTCLR_u. -/
def LaneState.histclrWrite (l : LaneState) (u : Nat) (v : Word) : LaneState :=
  l.command (R.PMU_HISTCLR u) v fun l e => if getBits e 0 1 = 1 then l.histClear u else l

/-- A write of SMPACK: the oldest records are removed (R486, R489). -/
def LaneState.smpackWrite (l : LaneState) (v : Word) : LaneState :=
  l.command R.PMU_SMPACK v fun l e => l.recsUpdate (l.pmu.recs.drop (getBits e 0 9))

/-- SAMPLER_ENABLE (R485): a write of SMPCTL. -/
def execSamplerEnable (x : Lane) (v : Word) (s : State) : Host.Outcome State Fault Refusal :=
  onLane x (·.smpctlWrite v) s

/-- SAMPLE_TAG (R485): the countdown of pair `p` reaches 0. -/
def execSampleTag (x : Lane) (p : Fin 4) (s : State) : Host.Outcome State Fault Refusal :=
  onLane x (fun l =>
    match l.sampler p.val with
    | none => l
    | some m =>
      if !l.alive ∨ l.blockFenced P.PMU ∨ l.get F.PMU_SMPCTL_EN = 0 ∨ (l.get F.PMU_SMPCTL_HARTS / 2 ^ p.val) % 2 = 0 then l
      else
        let n := l.pickInterval m
        if m.flight then (l.setSampler p.val (some n)).sampleSkip
        else l.setSampler p.val (some { n with flight := true, inReplay := (l.pair p.val).replay })) s

/-- SAMPLE_RECORD_APPEND (R486): the tagged instruction retires or traps, or is squashed. `flags` holds TRAP,
MISPRED, L2MISS, L1MISS. -/
def execSampleRecordAppend (x : Lane) (p : Fin 4) (retired : Bool) (pc : BitVec 40) (kind : Fin 6) (flags : BitVec 4)
    (daddr : Word) (cycles dataCycles : Nat) (s : State) : Host.Outcome State Fault Refusal :=
  onLane x (fun l =>
    match l.sampler p.val with
    | none => l
    | some m =>
      if !m.flight ∨ !l.alive ∨ l.blockFenced P.PMU then l
      else
        let l := l.setSampler p.val (some { m with flight := false })
        if !retired then l.sampleSkip
        else
          let priv := match (l.pair p.val).hart.priv with
            | .user => 0
            | .machine => 1
          let data := decide (kind.val = 1 ∨ kind.val = 2 ∨ kind.val = 4 ∨ kind.val = 5)
          l.recAppend
            ⟨pc.setWidth 32,
             BitVec.ofNat 32 (pc.toNat / 2 ^ 32 + p.val * 2 ^ 8 + priv * 2 ^ 10 + kind.val * 2 ^ 12 + flags.toNat * 2 ^ 16 +
               bit m.inReplay * 2 ^ 20 + 2 ^ 31),
             if data then daddr else 0,
             BitVec.ofNat 32 (min cycles 0xFFFF + (if data then min dataCycles 0xFFFF else 0) * 2 ^ 16)⟩) s

/-- SMPACK (R486). -/
def execSmpack (x : Lane) (v : Word) (s : State) : Host.Outcome State Fault Refusal := onLane x (·.smpackWrite v) s

/-- HISTCLR (R488). -/
def execHistclr (x : Lane) (u : Fin 4) (v : Word) (s : State) : Host.Outcome State Fault Refusal :=
  onLane x (·.histclrWrite u.val v) s

end Sys2Proof.Machine
end

