-- ==== Sys2Proof/Machine/Collector.lean ====
section
/-!
DEFINITION. Fault collection and reaction (spec/13_fault_collection.md): from an event to its effective
severity, the log and the first-fault record, fences, the LANE_DOWN and DEVICE_SAFE reactions, and
acknowledging and clearing.
-/
namespace Sys2Proof.Machine
open Sys2Proof

/-- Bits of source `s` in ACT_w, ACK_w and LIVE_w (R417). -/
def F.actBit (s : Nat) : Fld := ⟨R.FLT_ACT (s / 32), s % 32, 1⟩
def F.ackBit (s : Nat) : Fld := ⟨R.FLT_ACK (s / 32), s % 32, 1⟩
def F.liveBit (s : Nat) : Fld := ⟨R.FLT_LIVE (s / 32), s % 32, 1⟩

/-- Source states (R399). -/
def LaneState.srcState (l : LaneState) (s : Nat) : Nat := l.get (F.FLT_SSTAT_STATE s)
def LaneState.quiet (l : LaneState) (s : Nat) : Bool := l.srcState s == 0
def LaneState.allQuiet (l : LaneState) : Bool := (List.range 8).all fun w => l.rd (R.FLT_ACT w) == 0

/-- A lasting cause begins or ends (R394): its event is raised when it begins. -/
def LaneState.setLive (l : LaneState) (s : Nat) (v : Bool) (unit : Nat) : LaneState :=
  let was := l.get (F.FLT_SSTAT_LIVE s) == 1
  let l := (l.put (F.FLT_SSTAT_LIVE s) (bit v)).put (F.liveBit s) (bit v)
  if v && !was then l.raiseAt s unit else l

/-- µs since the last POR or FEEDLOSS reset (R416), given the device's clock. -/
def LaneState.time (l : LaneState) (now : Nat) : Nat := (Int.ofNat now - l.power.timeBase).toNat

/-! ### Fence units -/

/-- The fence unit of an event of source `s` (R396); `unit` names the slot or bank where the source has one per
event, with 48 for a PARITY event from a hart read, which has none (R118, R404). -/
def fenceUnit (s unit : Nat) : Option FenceUnit :=
  if s = 3 ∨ s = 4 ∨ s = 5 then some (.bank (unit % 64))
  else if s ≤ 23 then some .lane
  else if s ≤ 34 then some (.block 0x40004)
  else if s ≤ 36 then some .engine
  else if s ≤ 41 then (if unit < 48 then some (.slot unit) else none)
  else if s ≤ 47 then some .engine
  else if s ≤ 49 then some .lane
  else if s = 50 ∨ s = 52 then some .llink
  else if s = 51 ∨ s = 53 then some .blink
  else if s ≤ 55 then some .lane
  else if s ≤ 67 then some (.pair ((s - 56) % 4))
  else if s ≤ 71 then some (.block 0x40010)
  else if s ≤ 74 then some (.block 0x40011)
  else if s ≤ 84 then some (.block 0x40012)
  else if s ≤ 88 then some (.block 0x40014)
  else if s ≤ 92 then some (.block 0x40015)
  else if s = 95 then some (.port 0)
  else if s = 96 then some (.port 1)
  else if s ≤ 113 then some (.block 0x40020)
  else if s ≤ 119 then some (.block (0x40030 + (s - 114) / 3))
  else if s ≤ 122 then some (.block 0x40032)
  else if s ≤ 125 then some (.block 0x40033)
  else if s ≤ 127 then some (.block 0x40034)
  else if s ≤ 129 then some (.block 0x40035)
  else if s ≤ 131 then some (.block 0x40040)
  else if s ≤ 134 then some .lane
  else if s ≤ 207 then some (.bridge ((s - 136) / 9))
  else some .bridges

/-- The unit that a wire fault on source `s` fences (R395). -/
def wireUnit (s : Nat) : Option FenceUnit :=
  if 37 ≤ s ∧ s ≤ 41 then some .engine
  else if (3 ≤ s ∧ s ≤ 5) ∨ s = 21 then some .lane
  else fenceUnit s 0

/-- The unit of an event: that of WIRE is the unit of the source whose pair broke. -/
def eventUnit (e : SrcEvent) : Option FenceUnit := if e.src = 21 then wireUnit e.unit else fenceUnit e.src e.unit

/-- A bit of one of the two-register bank masks. -/
def LaneState.bankBit (l : LaneState) (rl rh k : Nat) : Bool :=
  (l.rd (if k < 32 then rl else rh)).getLsbD (k % 32)
def LaneState.retained (l : LaneState) (k : Nat) : Bool := l.bankBit R.PWR_RETMASK_L R.PWR_RETMASK_H k
def LaneState.bankLost (l : LaneState) (k : Nat) : Bool := l.bankBit R.PWR_LOSTBANK_L R.PWR_LOSTBANK_H k
def LaneState.inPool (l : LaneState) (k : Nat) : Bool := l.bankBit R.PLC_BANKPOOL_L R.PLC_BANKPOOL_H k
def LaneState.anyLost (l : LaneState) : Bool := l.rd R.PWR_LOSTBANK_L ≠ 0 || l.rd R.PWR_LOSTBANK_H ≠ 0

/-- Bank `k` is marked lost (R450): BANKLOST is live, and Sieve is triggered for a bank of its pool (R202). -/
def LaneState.markLost (l : LaneState) (k : Nat) : LaneState :=
  if l.bankLost k then l
  else
    let r := if k < 32 then R.PWR_LOSTBANK_L else R.PWR_LOSTBANK_H
    let l := l.wr r (l.rd r ||| mbit (k % 32))
    let l := l.setLive 5 true k
    if l.inPool k then l.trigger 6 else l

/-- Port states (R315). -/
def Prt.stopped : Nat := 0
def Prt.listen : Nat := 1
def Prt.coldstart : Nat := 2
def Prt.integrate : Nat := 3
def Prt.sync : Nat := 4
def Prt.passive : Nat := 5
def Prt.listenOnly : Nat := 6

def LaneState.port (l : LaneState) (p : Nat) : StrPort := if p = 0 then l.strata.px else l.strata.py
def LaneState.modPort (l : LaneState) (p : Nat) (f : StrPort → StrPort) : LaneState :=
  { l with strata := if p = 0 then { l.strata with px := f l.strata.px } else { l.strata with py := f l.strata.py } }
def LaneState.portState (l : LaneState) (p : Nat) : Nat := l.get (F.STR_PSTAT_STATE p)

/-- A port changes state (R316): entering SYNC clears CSATT; leaving it other than by RUN = 0 raises NETX or NETY
(R326). -/
def LaneState.portEnter (l : LaneState) (p v : Nat) (byRun : Bool) : LaneState :=
  let old := l.portState p
  if old = v then l
  else
    let l := l.put (F.STR_PSTAT_STATE p) v
    let l := if v = Prt.sync then (l.put (F.STR_PSTAT_CSATT p) 0).irqPulse P.STR (mbit p) else l
    let l := if old = Prt.sync then l.irqPulse P.STR (mbit (2 + p)) else l
    let l := if old = Prt.sync ∧ !byRun then l.raise (95 + p) else l
    if v = Prt.listenOnly then l.irqPulse P.STR (mbit 7) else l
def LaneState.setPort (l : LaneState) (p v : Nat) : LaneState := l.portEnter p v false

/-- A port stops other than by RUN = 0, with what it was sending: it is fenced (R405), or its page is reset (R51). -/
def LaneState.portDrop (l : LaneState) (p : Nat) : LaneState :=
  (l.modPort p fun q => { q with air := none, out := none }).setPort p Prt.stopped

/-- A fenced pair is held in reset with its caches invalidated (R103). -/
def LaneState.fencePair (l : LaneState) (p : Nat) : LaneState :=
  if l.pairState p = PState.fenced then l
  else
    let l := (l.modPair p fun q => { Pair.reset with
      cb0 := q.cb0, cb1 := q.cb1, released := q.released, imsic := q.imsic, ceCount := q.ceCount }).serveStores
    let l := (l.put (F.CKP_PAIRSTAT_STATE p) PState.fenced).put (F.CKP_PAIRSTAT_LOGUSED p) 0
    (l.irqRise P.CKP (mbit (4 + p))).trigger 5

/-- A fenced slot stops running, a tracker of a context of its is turned off (R150, R175, R180). -/
def LaneState.fenceSlot (l : LaneState) (s : Nat) : LaneState :=
  let l := (List.range 4).foldl (fun (l : LaneState) k =>
    if (l.slotContexts s).contains (l.get (F.LE_TRKCFG_CTX k)) then
      ((l.put (F.LE_TRKCFG_EN k) 0).put (F.LE_TRKSTAT_STATE k) 0).irqFall P.LE (mbit (4 + k))
    else l) l
  let l := l.modLoop fun p => { p with
    run := p.run.filter fun r => r.slot ≠ s, held := p.held.filter fun h => h.slot ≠ s, due := p.due.filter (· ≠ s) }
  l.put (F.LESLOT_SLOTSTAT_FENCED s) 1

/-- The transfer engine drops what its channels had in progress: each channel fetches again at index 0 (R431). -/
def LaneState.xfrDrop (l : LaneState) : LaneState :=
  (List.range 16).foldl (fun (l : LaneState) c =>
    let l := (l.put (F.XFR_CHSTAT_IDX c) 0).put (F.XFR_CHPOS_DONE c) 0
    if l.get (F.XFR_CHSTAT_STATE c) = 0 ∨ l.get (F.XFR_CHSTAT_STATE c) = 5 then l else l.put (F.XFR_CHSTAT_STATE c) 2)
    { l with xfr := .reset }

/-- Every slot that slot state shows fenced stays as it is (R405). -/
def LaneState.slotShown (l : LaneState) (s : Nat) : Bool := l.get (F.LESLOT_SLOTSTAT_FENCED s) == 1

/-- Isolates a unit (R405); fencing a unit twice changes nothing. A halted pair is not fenced by counting: its
event takes effect when it resumes (R106). -/
def LaneState.isolate (l : LaneState) (u : FenceUnit) : LaneState :=
  match u with
  | .slot s => if l.slotShown s then l else (l.fenceSlot s).trigger 4
  | .engine => if (List.range 48).all l.slotShown then l else ((List.range 48).foldl LaneState.fenceSlot l).trigger 4
  | .pair n => if l.pairState n = PState.halted then l.modPair n fun q => { q with haltMis := true } else l.fencePair n
  | .bank k => l.markLost k
  | .port p => l.portDrop p
  | .llink => { l with links := { l.links with ready := [] } }
  | .block p =>
    if p = 0x40010 then l.xfrDrop
    else if p = 0x40020 then
      let cut := fun (q : StrPort) => { q with air := none, out := none }
      (l.modPort 0 cut).modPort 1 cut
    else l
  | _ => l

/-- Source `s` holds a fence on unit `u` (R405). -/
def LaneState.fence (l : LaneState) (s : Nat) (u : FenceUnit) : LaneState :=
  let l := if l.fences.contains (s, u) then l else { l with fences := l.fences ++ [(s, u)] }
  (l.put (F.FLT_SSTAT_FENCING s) 1).isolate u

/-- Releases the fences that a source holds (R405, R411): a slot is unfenced when no source holds it or the
engine any more; a pair stays fenced until REVIVE, a bank stays lost. -/
def LaneState.releaseFences (l : LaneState) (s : Nat) : LaneState :=
  let l := ({ l with fences := l.fences.filter fun e => e.1 ≠ s }).put (F.FLT_SSTAT_FENCING s) 0
  (List.range 48).foldl (fun (l : LaneState) k =>
    if l.fencedBy (.slot k) || l.fencedBy .engine || l.get (F.LESLOT_SLOTSTAT_FENCED k) == 0 then l
    else l.put (F.LESLOT_SLOTSTAT_FENCED k) 0) l

/-! ### Severity -/

def LaneState.bucket (l : LaneState) (s : Nat) : Nat := Table.get (fun _ => 0) l.col.buckets s
def LaneState.setBucket (l : LaneState) (s n : Nat) : LaneState :=
  let l := { l with col := { l.col with buckets := Table.set (fun _ => 0) l.col.buckets s n } }
  l.put (F.FLT_SSTAT_LEVEL s) (min n 15)

/-- The source whose shadow makes an event of `s` consequential (R403). -/
def LaneState.opener (l : LaneState) (s : Nat) : Option Nat :=
  let g := l.get (F.FLT_SRCCFG_GROUP s)
  l.col.shadows.find? fun o => l.get (F.FLT_DEPMASK_MASK o) / 2 ^ g % 2 == 1

/-- Whether the next event of `s` takes the counted severity (R400). -/
def LaneState.counted (l : LaneState) (s : Nat) : Bool :=
  let n := l.get (F.FLT_SRCCFG_CNTN s)
  n ≠ 0 && decide (n ≤ min (l.bucket s + 1) 15)

/-- Whether a source of the class of `s` is uncleared (R401). -/
def LaneState.classUncleared (l : LaneState) (s : Nat) : Bool :=
  if srcClass s = 0 then !l.quiet s
  else (List.range 256).any fun t => srcClass t == srcClass s && !l.quiet t

/-- Severity after counting and whether it escalates (R400, R401). -/
def LaneState.effSev (l : LaneState) (s : Nat) : Nat × Bool :=
  let v := if l.counted s then l.get (F.FLT_SRCCFG_CSEV s) else l.get (F.FLT_SRCCFG_SEV s)
  if l.get (F.FLT_SRCCFG_ESC s) = 1 ∧ v < Sev.laneDown ∧ l.classUncleared s then (v + 1, true) else (v, false)

/-- The severity that the reaction to an event of `s` now would have (R395, R400, R401, R403): 0 for none. -/
def LaneState.reaction (l : LaneState) (s : Nat) : Nat :=
  if l.get (F.FLT_SSTAT_MASKED s) = 1 ∨ (l.opener s).isSome then 0 else (l.effSev s).1

/-- Appends a log entry (R416, R417). -/
def LaneState.logEvent (l : LaneState) (now s sev base : Nat) (cnt esc conseq same : Bool) (opener : Nat) : LaneState :=
  let i := l.get F.FLT_LOGSTAT_NEXT
  let l := l.wr (R.FLT_LOGT i) (BitVec.ofNat 32 (l.time now))
  let l := l.wr (R.FLT_LOGE i) (BitVec.ofNat 32 (s + sev * 2 ^ 8 + base * 2 ^ 12 + bit cnt * 2 ^ 16 + bit esc * 2 ^ 17 +
    bit conseq * 2 ^ 18 + bit same * 2 ^ 19 + opener * 2 ^ 24))
  let l := l.put F.FLT_LOGSTAT_NEXT (i + 1)
  if i = 63 then l.bump F.FLT_LOGSTAT_WRAPS 1 else l

/-- The source becomes ACTIVE with at least severity `sev` since it was QUIET (R399). -/
def LaneState.activate (l : LaneState) (s sev : Nat) : LaneState :=
  let old := if l.quiet s then 0 else l.get (F.FLT_SSTAT_ACTSEV s)
  let l := (l.put (F.FLT_SSTAT_STATE s) 1).put (F.FLT_SSTAT_ACTSEV s) (max old sev)
  (l.put (F.actBit s) 1).put (F.ackBit s) 0

/-- FIRST is written, or its SAME counts a further event of the cycle (R402); the pulse is that of the event. -/
def LaneState.firstRecord (l : LaneState) (now s sev : Nat) (same conseq : Bool) : LaneState :=
  let l := if same then l else { l with col := { l.col with firstNow := false } }
  if l.allQuiet && !conseq then
    let l := l.wr R.FLT_FIRST (BitVec.ofNat 32 (s + sev * 2 ^ 8 + 2 ^ 15))
    let l := l.wr R.FLT_FIRSTT (BitVec.ofNat 32 (l.time now))
    { l with col := { l.col with firstNow := true } }
  else if same && l.col.firstNow then l.bump F.FLT_FIRST_SAME 1 else l

/-- Whether an event of severity `sev` reacts at FENCE or above: a PARITY event from a hart read reacts as WARN at FENCE
(R404). -/
def reactsFence (e : SrcEvent) (sev : Nat) : Bool :=
  decide (Sev.fence ≤ sev) && !(sev == Sev.fence && e.src == 37 && (eventUnit e).isNone)

/-- The reactions of a lane by severity (R404), but for those of Bedrock and of DEVICE_SAFE. -/
def LaneState.react (l : LaneState) (e : SrcEvent) (sev : Nat) : LaneState :=
  let u := eventUnit e
  let l := if sev ≥ Sev.warn then l.llReady 7 0 [BitVec.ofNat 32 e.src, BitVec.ofNat 32 sev] else l
  let l := if sev ≥ Sev.fence then { l with col := { l.col with shadows := insertNat e.src l.col.shadows } } else l
  let l := if reactsFence e sev then l.count P.FLT 3 else l
  let l := match u with
    | some .lane => l
    | some v => if sev ≥ Sev.fence then l.fence e.src v else l
    | none => l
  let whole : Bool := match u with
    | some .lane => true
    | some _ => false
    | none => decide (e.src ≠ 37)
  if sev = Sev.laneDown ∨ (sev = Sev.fence ∧ whole) then { l with col := { l.col with laneDown := true } } else l

/-- One event of a lane collector, processed in full (R399 to R404): the lane afterwards and the severity it
reacts at, 0 for one that is consequential, masked or reserved. -/
def LaneState.event (l : LaneState) (now : Nat) (e : SrcEvent) (same : Bool) : LaneState × Nat :=
  let s := e.src
  if srcReserved s ∨ 255 < s ∨ l.get (F.FLT_SSTAT_MASKED s) = 1 then (l, 0)
  else
    let base := l.get (F.FLT_SRCCFG_SEV s)
    let cnt := l.counted s
    let (sev, esc) := l.effSev s
    let opener := l.opener s
    let pulses := (if l.allQuiet && opener.isNone then mbit 0 else 0) ||| mbit 1 |||
      (if opener.isNone && reactsFence e sev then mbit 2 else 0)
    let l := (l.irqPulse P.FLT pulses).count P.FLT 1
    match opener with
    | some o =>
      let l := l.firstRecord now s sev same true
      (((l.activate s 0).logEvent now s sev base false false true same o).count P.FLT 2, 0)
    | none =>
      let l := l.firstRecord now s sev same false
      let l := (l.activate s sev).logEvent now s sev base cnt esc false same 0
      let l := l.setBucket s (l.bucket s + 1)
      (l.react e sev, sev)

/-- Sources whose cause, outside every other command, lasts: a command reports its beginning and its end. -/
def outerLasting (s : Nat) : Bool := [11, 15, 16, 18].contains s
/-- Such a cause begins or ends; it outlasts a reset of the lane (R414). -/
def LaneState.setOuter (l : LaneState) (s : Nat) (v : Bool) : LaneState :=
  let p := l.power
  { l with power := { p with outer := if v then insertNat s p.outer else p.outer.filter (· ≠ s) } }

/-- Whether the cause of an outer source holds after a report about `unit`: of PLL, the unit is a PLL, whose lock CLKSTAT
shows (R397, R454). -/
def LaneState.outerReport (l : LaneState) (s unit : Nat) (v : Bool) : LaneState × Bool :=
  if s = 11 then
    let l := l.put ⟨R.CLK_CLKSTAT, 2 + unit % 3, 1⟩ (1 - bit v)
    (l, decide (l.get F.CLK_CLKSTAT_LOCK ≠ 7))
  else (l, v)

/-- FAULT_SOURCE_EVENT (R399): an event of a source of lane `x` is processed. `same` says that an earlier event
of its fabric cycle was processed before it (R402). For a lasting cause outside every other command, `cause` says
that it holds, or, with no event, that it has ended. While a Kiln slice runs every source is quiet: an occurrence is lost,
and a cause that lasts raises once the slice is restored (R473). -/
def execFaultSourceEvent (x : Lane) (src unit : Nat) (same : Bool) (cause : Bool) (s : State) :
    Host.Outcome State Fault Refusal :=
  let l := s.lane x
  if !l.alive then .next s
  else if l.get F.KILN_KSTAT_STATE ≠ 0 then
    .next (s.modLane x fun l =>
      if outerLasting src then
        let r := l.outerReport src unit cause
        (r.1.setOuter src r.2).setLive src r.2 unit
      else if l.get (F.FLT_SSTAT_LIVE src) = 1 then l
      else { l with events := l.events.erase ⟨src, unit⟩ })
  else if outerLasting src ∧ !cause then
    .next (s.modLane x fun l =>
      let r := l.outerReport src unit false
      (r.1.setOuter src r.2).setLive src r.2 0)
  else
    let l := if outerLasting src then ((l.outerReport src unit true).1.setOuter src true).setLive src true unit else l
    let l := { l with events := l.events.erase ⟨src, unit⟩ }
    let r := l.event s.nowUs ⟨src, unit⟩ same
    let s := s.setLane x r.1
    .next (if r.2 = Sev.deviceSafe then s.deviceSafe 2 else s).capUpdate

/-- BUCKET_LEAVE (R400): an event has been in the bucket for CNTW ms. -/
def execBucketLeave (x : Lane) (src : BitVec 8) (s : State) : Host.Outcome State Fault Refusal :=
  onLane x (fun l => l.setBucket src.toNat (l.bucket src.toNat - 1)) s

/-- SHADOW_EXPIRY (R403). -/
def execShadowExpiry (x : Lane) (src : BitVec 8) (s : State) : Host.Outcome State Fault Refusal :=
  onLane x (fun l => { l with col := { l.col with shadows := l.col.shadows.filter (· ≠ src.toNat) } }) s

/-- WIRE_FAULT (R395): the pair of `src` is non-complementary in a third cycle. -/
def execWireFault (x : Lane) (src : BitVec 8) (s : State) : Host.Outcome State Fault Refusal :=
  onLane x (fun l =>
    let k := src.toNat
    if srcReserved k ∨ l.col.broken.contains k ∨ !l.alive then l
    else
      let had := !l.col.broken.isEmpty
      let l := { l with col := { l.col with broken := insertNat k l.col.broken } }
      let l := ((l.put F.FLT_WIRESTAT_SRC k).put F.FLT_WIRESTAT_NOW 1).bump F.FLT_WIRESTAT_COUNT 1
      let l := (l.put (F.FLT_SSTAT_MASKED k) 1).irqPulse P.FLT (mbit 3)
      if had then l.raiseAt 21 k else l.setLive 21 true k) s

/-- MASKED of source `k` ends; a cause that lasts is then delivered (R395). -/
def LaneState.unmask (l : LaneState) (k : Nat) : LaneState :=
  let l := l.put (F.FLT_SSTAT_MASKED k) 0
  if l.get (F.FLT_SSTAT_LIVE k) = 1 then l.raise k else l

/-- MASKED_END (R395): the pair of `src` has been complementary for 16 cycles; the mark ends if WIRE is clear. -/
def execMaskedEnd (x : Lane) (src : BitVec 8) (s : State) : Host.Outcome State Fault Refusal :=
  onLane x (fun l =>
    let k := src.toNat
    if l.get (F.FLT_SSTAT_MASKED k) = 0 ∨ !l.alive then l
    else
      let l := { l with col := { l.col with broken := l.col.broken.filter (· ≠ k) } }
      let l := if l.col.broken.isEmpty then (l.put F.FLT_WIRESTAT_NOW 0).setLive 21 false 0 else l
      if l.quiet 21 then l.unmask k else l) s

/-- SPINE_TOKEN_TIMEOUT (R406): a node has seen no token for 128 cycles. -/
def execSpineTokenTimeout (x : Lane) (s : State) : Host.Outcome State Fault Refusal :=
  onLane x (fun l => if l.alive then l.raise 22 else l) s

/-- LANE_LINK_FAULT_RECEIVED (R409): PEERLAST shows the notice and APLIC source 22 fires. -/
def execLaneLinkFaultReceived (x : Lane) (src sev : Word) (s : State) : Host.Outcome State Fault Refusal :=
  onLane x (fun l =>
    if !l.alive then l else
    let l := ((l.put F.FLT_PEERLAST_SRC src.toNat).put F.FLT_PEERLAST_SEV sev.toNat).bump F.FLT_PEERLAST_COUNT 1
    (l.irqPulse P.FLT (mbit 5)).aplicPulse 22) s

/-- The result of a CLRCMD (R411, R418). -/
def LaneState.clrResult (l : LaneState) (src op res : Nat) : LaneState :=
  let l := ((l.put F.FLT_CLRSTAT_SRC src).put F.FLT_CLRSTAT_OP op).put F.FLT_CLRSTAT_RESULT res
  if res = 1 then l else (l.bump F.FLT_CLRSTAT_REFUSED 1).irqPulse P.FLT (mbit 4)

/-- Acknowledging a source (R411). -/
def LaneState.clrAck (l : LaneState) (k : Nat) : LaneState :=
  if l.srcState k = 1 then ((l.put (F.FLT_SSTAT_STATE k) 2).put (F.ackBit k) 1).clrResult k 1 1
  else l.clrResult k 1 3

/-- Clearing a source (R411); clearing WIRE ends the MASKED marks of pairs that are whole again (R395). -/
def LaneState.clrClear (l : LaneState) (k : Nat) : LaneState :=
  if l.quiet k then l.clrResult k 2 3
  else if l.get (F.FLT_SSTAT_LIVE k) = 1 then l.clrResult k 2 2
  else
    let l := ((l.put (F.FLT_SSTAT_STATE k) 0).put (F.FLT_SSTAT_ACTSEV k) 0).put (F.actBit k) 0
    let l := (l.put (F.ackBit k) 0).releaseFences k
    let l := if k = 21 then
        (List.range 256).foldl (fun (l : LaneState) j =>
          if l.get (F.FLT_SSTAT_MASKED j) = 1 ∧ !l.col.broken.contains j then l.unmask j else l) l
      else l
    l.clrResult k 2 1

/-- A write of CLRCMD (R411). -/
def LaneState.clrcmdWrite (l : LaneState) (v : Word) : LaneState :=
  l.command R.FLT_CLRCMD v fun l e =>
    if getBits e 8 2 = 1 then l.clrAck (getBits e 0 8)
    else if getBits e 8 2 = 2 then l.clrClear (getBits e 0 8) else l

/-- CLRCMD_ACK and CLRCMD_CLEAR (R411). -/
def execClrcmdAck (x : Lane) (src : BitVec 8) (s : State) : Host.Outcome State Fault Refusal :=
  onLane x (·.clrcmdWrite (BitVec.ofNat 32 (src.toNat + 0x100))) s
def execClrcmdClear (x : Lane) (src : BitVec 8) (s : State) : Host.Outcome State Fault Refusal :=
  done ((s.modLane x (·.clrcmdWrite (BitVec.ofNat 32 (src.toNat + 0x200)))).capUpdate)

/-! ### Bedrock's collector -/

def F.bedAct (s : Nat) : Fld := ⟨if s < 32 then R.BFLT_ACT_L else R.BFLT_ACT_H, s % 32, 1⟩
def F.bedAck (s : Nat) : Fld := ⟨if s < 32 then R.BFLT_ACK_L else R.BFLT_ACK_H, s % 32, 1⟩
def State.bedSev (s : State) (k : Nat) : Nat := s.bed.get (F.BFLT_SEV_SEV (k / 8) (k % 8))

/-- The lane to which a Bedrock source is attributed (R398). -/
def bedLane (e : BedEvent) : Option Lane :=
  match e.lane with
  | some x => some x
  | none => if [8, 10, 14].contains e.src then some .A else if [9, 11, 15].contains e.src then some .B else none

/-- Whether the cause of a Bedrock source lasts at present (R398). -/
def State.bedLive (s : State) (k : Nat) : Bool :=
  match k with
  | 2 => s.bed.get F.BSYS_DEVSTAT_FEEDA == 0
  | 3 => s.bed.get F.BSYS_DEVSTAT_FEEDB == 0
  | 4 => s.bed.get F.BSYS_DEVSTAT_VGDA == 0
  | 5 => s.bed.get F.BSYS_DEVSTAT_VGDB == 0
  | 6 => s.bed.get F.BSYS_DEVSTAT_H0OK == 0
  | 7 => s.bed.get F.BSYS_DEVSTAT_H1OK == 0
  | 8 => s.laneStatus .A == Stat.lost || s.laneStatus .A == Stat.excluded
  | 9 => s.laneStatus .B == Stat.lost || s.laneStatus .B == Stat.excluded
  | 10 => s.bed.wires.contains 10
  | 11 => s.bed.wires.contains 11
  | 16 => s.anyGap
  | 17 => s.anyTerm
  | _ => false

/-- One event of Bedrock's collector (R399, R402, R410). `same`: an earlier event of its cycle was processed; FIRST.SAME
counts those of the cycle in which FIRST was written (R239). -/
def State.bedEvent (s : State) (e : BedEvent) (same : Bool) : State :=
  let sev := s.bedSev e.src
  let quiet := decide (s.bed.rd R.BFLT_ACT_L = 0 ∧ s.bed.rd R.BFLT_ACT_H = 0)
  let fresh := s.bed.get (F.bedAct e.src) == 0
  let now := same && s.bed.firstNow
  let s := s.modBed fun b => { b with firstNow := quiet || now }
  let s := if quiet then
      s.modBed fun b => (b.wr R.BFLT_FIRST (BitVec.ofNat 32 (e.src + sev * 2 ^ 8 + 2 ^ 15))).wr R.BFLT_FIRSTT
        (BitVec.ofNat 32 b.btime)
    else if now then s.bbump F.BFLT_FIRST_SAME 1 else s
  let s := ((s.bput (F.bedAct e.src) 1).bput (F.bedAck e.src) 0).irqPulseBoth P.BFLT (mbit 1 ||| if quiet then mbit 0 else 0)
  let s := if fresh then s.attention else s
  if sev = Sev.deviceSafe then s.deviceSafe 2
  else if sev ≥ Sev.fence then
    match bedLane e with
    | some x => s.modLane x fun l => if l.alive then l.raise 23 else l
    | none => s
  else s

/-- BEDROCK_FAULT_EVENT (R410). For a wire of a lane (sources 10, 11), which has no other command, `cause` says that it is
broken, or, with no event, that it is whole again. -/
def execBedrockFaultEvent (src : Nat) (x : Option Lane) (m : EventMark) (s : State) : Host.Outcome State Fault Refusal :=
  let wire : Bool := decide (src = 10 ∨ src = 11)
  if 35 < src ∨ !s.bedrockRuns then .next s
  else if wire ∧ !m.cause then .next (s.modBed fun b => { b with wires := b.wires.filter (· ≠ src) })
  else if wire ∧ s.bed.wires.contains src then .next s
  else .next ((s.modBed fun b => { b with
    events := b.events.erase ⟨src, x⟩, wires := if wire then insertNat src b.wires else b.wires }).bedEvent ⟨src, x⟩ m.sameCycle)

/-- Acknowledging a Bedrock source (R412): the result code of R72. -/
def State.bedAckOp (s : State) (k : Nat) : State × Nat :=
  if 35 < k then (s, 3)
  else if s.devState = Dev.safe ∨ s.bed.get (F.bedAct k) = 0 then (s, 2)
  else (s.bput (F.bedAck k) 1, 1)

/-- Clearing a Bedrock source (R398, R412); a clear of LANEDIS or DMDTMO clears both lanes' marks. -/
def State.bedClearOp (s : State) (k : Nat) : State × Nat :=
  if 35 < k then (s, 3)
  else if s.devState = Dev.safe ∨ s.bed.get (F.bedAct k) = 0 ∨ s.bedLive k then (s, 2)
  else
    let s := (s.bput (F.bedAct k) 0).bput (F.bedAck k) 0
    let s := if k = 29 then (s.bput (F.ldis .A) 0).bput (F.ldis .B) 0
      else if k = 30 then (s.bput (F.dtmo .A) 0).bput (F.dtmo .B) 0 else s
    (if k = 29 ∨ k = 30 then s.pathUpdate.outputUpdate else s, 1)

/-! ### Error pins (R415) -/

/-- ERR_A_N or ERR_B_N is low: a source at or above the threshold, reset or BOOT, or no power; in PARK only a
failed wake holds it low (R448). -/
def State.errLane (s : State) (x : Lane) : Bool :=
  let l := s.lane x
  if l.power.railsOff then l.power.feedOn && l.get F.PWR_WAKESTAT_WAKEFAIL == 1 || !l.power.feedOn
  else l.power.held || !l.power.feedOn || l.power.boot ≠ .complete || s.laneStatus x == Stat.boot ||
    (List.range 256).any fun k => !l.quiet k && decide (l.get F.FLT_FLTCFG_THRESH ≤ l.get (F.FLT_SSTAT_ACTSEV k))

/-- The levels of ERR_D and ERR_D_N. -/
def State.errD (s : State) : Bool × Bool :=
  if !s.bed.on ∨ s.halfMask = 0 then (false, false)
  else
    let f := s.devState == Dev.start || s.devState == Dev.safe ||
      (List.range 36).any fun k => s.bed.get (F.bedAct k) == 1 && decide (Sev.warn ≤ s.bedSev k)
    (f, !f)

end Sys2Proof.Machine
end

