-- ==== Sys2Proof/Machine/Hart.lean ====
section
/-!
DEFINITION. The registers of a hart (spec/03_application_cores_and_lockstep.md R79 to R81, R85, R90;
spec/11_vehicle_and_host_ports.md R363): general, floating-point and control registers with the fields that each control
register holds, trap entry, and physical memory protection.
-/
namespace Sys2Proof.Machine
open Sys2Proof

/-- CSR numbers the model names. -/
def Csr.fcsr : Nat := 0x003
def Csr.mstatus : Nat := 0x300
def Csr.mie : Nat := 0x304
def Csr.mtvec : Nat := 0x305
def Csr.mepc : Nat := 0x341
def Csr.mcause : Nat := 0x342
def Csr.mtval : Nat := 0x343
def Csr.miselect : Nat := 0x350
def Csr.mireg : Nat := 0x351
def Csr.mtopei : Nat := 0x35C
def Csr.mseccfg : Nat := 0x747
def Csr.tselect : Nat := 0x7A0
def Csr.dcsr : Nat := 0x7B0
def Csr.dpc : Nat := 0x7B1

def Hart.x (h : Hart) (n : Nat) : DWord := if n = 0 then 0 else Table.get (fun _ => 0) h.gpr n
def Hart.setX (h : Hart) (n : Nat) (v : DWord) : Hart :=
  if n = 0 then h else { h with gpr := Table.set (fun _ => 0) h.gpr n v }
def Hart.f (h : Hart) (n : Nat) : DWord := Table.get (fun _ => 0) h.fpr n
def Hart.setF (h : Hart) (n : Nat) (v : DWord) : Hart := { h with fpr := Table.set (fun _ => 0) h.fpr n v }
def Hart.c (h : Hart) (n : Nat) : DWord := Table.get (fun _ => 0) h.csr n
def Hart.setC (h : Hart) (n : Nat) (v : DWord) : Hart := { h with csr := Table.set (fun _ => 0) h.csr n v }

/-- CSRs that count on their own and are no part of the checkpoint record (R90). -/
def counterCsr (n : Nat) : Bool := n = 0xB00 || n = 0xB02 || (decide (0xB03 ≤ n) && decide (n ≤ 0xB0A))

/-- CSRs whose value is read from outside the hart's own registers (R481). -/
def countedCsr (n : Nat) : Bool :=
  counterCsr n || decide (0xC00 ≤ n ∧ n ≤ 0xC0A)

/-- CSRs of the checkpoint record (R90), fcsr with its two parts; dcsr and dpc are part of one taken on entry into debug
mode. -/
def recordCsr (n : Nat) : Bool :=
  [0x001, 0x002, 0x003, 0x300, 0x304, 0x305, 0x340, 0x341, 0x342, 0x343, 0x306, 0x320, 0x30A, 0x350, 0x3A0, 0x3A2,
   0x747].contains n || decide (0x323 ≤ n ∧ n ≤ 0x32A) || decide (0x3B0 ≤ n ∧ n ≤ 0x3BF)

/-- The CSRs that exist (R79 to R81, R363, R481). -/
def csrExists (n : Nat) : Bool :=
  recordCsr n || countedCsr n || [0x301, 0xF11, 0xF12, 0xF13, 0xF14, 0x344, 0x35C, 0xFB0, 0x351, 0x7A0, 0x7A1, 0x7A2,
    0x7B0, 0x7B1, 0x7B2, 0x7B3].contains n

/-! ### Physical memory protection (R80) -/

/-- The configuration byte of PMP region `i`: pmpcfg_0 holds regions 0 to 7, pmpcfg_2 regions 8 to 15. -/
def Hart.pmpCfg (h : Hart) (i : Nat) : Nat := (h.c (0x3A0 + i / 8 * 2)).toNat / 2 ^ (8 * (i % 8)) % 256
/-- Address matching: 0 OFF, 1 TOR, 2 NA4, 3 NAPOT. -/
def pmpMode (cfg : Nat) : Nat := cfg / 8 % 4
def pmpLocked (cfg : Nat) : Bool := cfg / 128 % 2 == 1
/-- mseccfg's fields (R80): machine-mode lockdown, allow-list policy and rule-locking bypass. -/
def Hart.mml (h : Hart) : Bool := (h.c Csr.mseccfg).getLsbD 0
def Hart.mmwp (h : Hart) : Bool := (h.c Csr.mseccfg).getLsbD 1
def Hart.rlb (h : Hart) : Bool := (h.c Csr.mseccfg).getLsbD 2

/-- Whether a locked region may not be written. -/
def Hart.pmpHeld (h : Hart) (i : Nat) : Bool := pmpLocked (h.pmpCfg i) && !h.rlb

/-- The low ones of a number, at most `n`. -/
def lowOnes (v : Nat) : Nat → Nat
  | 0 => 0
  | n + 1 => if v % 2 = 1 then lowOnes (v / 2) n + 1 else 0

/-- The bytes that region `i` covers, from the first to one past the last; regions are multiples of the 8-byte granule
(R80), so NA4 covers the granule that holds its word. -/
def Hart.pmpRange (h : Hart) (i : Nat) : Nat × Nat :=
  let v := (h.c (0x3B0 + i)).toNat
  match pmpMode (h.pmpCfg i) with
  | 1 => ((if i = 0 then 0 else (h.c (0x3B0 + i - 1)).toNat / 2 * 8), v / 2 * 8)
  | 2 => (v / 2 * 8, v / 2 * 8 + 8)
  | 3 =>
    let k := lowOnes v 54
    (v / 2 ^ (k + 1) * 2 ^ (k + 3), v / 2 ^ (k + 1) * 2 ^ (k + 3) + 2 ^ (k + 3))
  | _ => (0, 0)

/-- The privilege that a data access takes: MPRV lends machine mode that of MPP. -/
def Hart.dataPriv (h : Hart) : Priv :=
  let ms := h.c Csr.mstatus
  match h.priv with
  | .machine => if ms.getLsbD 17 && !ms.getLsbD 12 then .user else .machine
  | .user => .user

/-- What a matching region permits (R80, Smepmp): reads and writes. -/
def pmpGrants (cfg : Nat) (mml : Bool) (pv : Priv) : Bool × Bool :=
  let r := cfg % 2 == 1
  let w := cfg / 2 % 2 == 1
  let x := cfg / 4 % 2 == 1
  let lock := pmpLocked cfg
  let m := pv == .machine
  if !mml then (if m && !lock then (true, true) else (r, w))
  else if w && !r then
    if lock then (m && x, false) else (true, m || x)
  else if lock && r && w && x then (true, false)
  else if lock == m then (r, w) else (false, false)

/-- Whether the hart may read or write the `n` bytes at `a` (R80). -/
def Hart.pmpAllows (h : Hart) (a n : Nat) (write : Bool) : Bool :=
  let pv := h.dataPriv
  let hit := (List.range 16).find? fun i => decide ((h.pmpRange i).1 < a + n ∧ a < (h.pmpRange i).2)
  match hit with
  | some i =>
    let g := pmpGrants (h.pmpCfg i) h.mml pv
    decide ((h.pmpRange i).1 ≤ a ∧ a + n ≤ (h.pmpRange i).2) && (if write then g.2 else g.1)
  | none => pv == .machine && !h.mmwp

/-- A byte that a write leaves in region `i`'s configuration (R80): reserved bits read 0; a locked region keeps its rule;
without MML the reserved pair R = 0, W = 1 writes nothing; with MML and without RLB no rule is added that lets machine
mode execute or share locked code. -/
def Hart.pmpByte (h : Hart) (i v : Nat) : Nat :=
  let old := h.pmpCfg i
  let v := v % 32 + v / 128 % 2 * 128
  let r := v % 2
  let w := v / 2 % 2
  let x := v / 4 % 2
  if h.pmpHeld i then old
  else if !h.mml then (if r = 0 ∧ w = 1 then old else v)
  else if !h.rlb ∧ pmpLocked v ∧ ((w = 1 ∧ r = 0) ∨ (x = 1 ∧ ¬(r = 1 ∧ w = 1))) then old
  else v

/-- A write of pmpcfg_0 or pmpcfg_2. -/
def Hart.pmpCfgWrite (h : Hart) (n : Nat) (v : DWord) : Hart :=
  let g := (n - 0x3A0) / 2 * 8
  h.setC n (BitVec.ofNat 64 ((List.range 8).foldl (fun w j =>
    w + h.pmpByte (g + j) (v.toNat / 2 ^ (8 * j) % 256) * 2 ^ (8 * j)) 0))

/-- A write of pmpaddr_i: 54 bits; a locked region and the base of a locked TOR region keep theirs. -/
def Hart.pmpAddrWrite (h : Hart) (i : Nat) (v : DWord) : Hart :=
  if h.pmpHeld i || (decide (i < 15) && h.pmpHeld (i + 1) && pmpMode (h.pmpCfg (i + 1)) == 1) then h
  else h.setC (0x3B0 + i) (v &&& 0x3FFFFFFFFFFFFF)

/-- A write of mseccfg (R80): MML and MMWP stay set once set; RLB cannot be set while it is clear and a region is
locked. -/
def Hart.mseccfgWrite (h : Hart) (v : DWord) : Hart :=
  let locked := (List.range 16).any fun i => pmpLocked (h.pmpCfg i)
  let sticky := (v ||| h.c Csr.mseccfg) &&& 3
  let rlb : DWord := if v.getLsbD 2 && (h.rlb || !locked) then 4 else 0
  h.setC Csr.mseccfg (sticky ||| rlb)

/-! ### Control registers -/

/-- The WARL corrections of mhpmevent_n (R483). -/
def hpmEventFix (v : DWord) : DWord :=
  let e := v.toNat % 256
  let core := decide (1 ≤ e ∧ e ≤ 0x0B)
  let queue := decide (0x20 ≤ e ∧ e ≤ 0x23)
  let e := if core || queue then e else 0
  let m := v.toNat / 256 % 4
  let m := if m = 3 then 0 else m
  let m := if queue then 2 else if core ∧ m = 2 then 0 else m
  let t := v.toNat / 1024 % 64
  let top := if e = 0x20 then 31 else if e = 0x21 ∨ e = 0x23 then 15 else 63
  let t := if queue then min t top else t
  BitVec.ofNat 64 (e + m * 2 ^ 8 + t * 2 ^ 10 + v.toNat / 2 ^ 16 % 4 * 2 ^ 16)

/-- The bits that a write takes in a control register that keeps the rest: with machine and user mode only (R79), external
interrupts only (R81), counters 0 to 10 (R79, R481), and the debugger's dcsr (R363). -/
def csrMask (n : Nat) : DWord :=
  if n = Csr.mstatus then 0x227888
  else if n = Csr.mie then 0x800
  else if n = 0x306 then 0x7FF
  else if n = 0x30A then 1
  else if n = 0x320 then 0x7FD
  else if n = Csr.mtvec then ~~~0x3E
  else if n = Csr.mepc ∨ n = Csr.dpc then ~~~1
  else if n = Csr.dcsr then 0x9E17
  else ~~~0

/-- The number under which a trigger's register is held: those of trigger k lie 0x1000 × k above (R363). -/
def Hart.trigReg (h : Hart) (n : Nat) : Nat :=
  if n = 0x7A1 ∨ n = 0x7A2 then n + 0x1000 * (h.c Csr.tselect).toNat else n

/-- tdata_1 as it is held: DMODE, ACTION 0 or 1, M, U, and execute, store and load (R363). -/
def tdata1Fix (v : DWord) : DWord :=
  v &&& (0x0800000000000000 + (if v.toNat / 2 ^ 12 % 16 = 1 then 0x1000 else 0) + 0x4F)

/-- A field of two bits that holds a privilege mode keeps its old one where no such mode exists (R79). -/
def privFix (old new : DWord) (at_ : Nat) : DWord :=
  let m := new.toNat / 2 ^ at_ % 4
  if m = 0 ∨ m = 3 then new
  else (new &&& ~~~((3 : DWord) <<< at_)) ||| (old &&& ((3 : DWord) <<< at_))

/-- A CSR write. misa ignores it (R79), as do read-only registers; fflags and frm are parts of fcsr; mtvec clears the low
bits of BASE (R81); mhpmevent_n corrects (R483). -/
def Hart.csrWrite (h : Hart) (n : Nat) (v : DWord) : Hart :=
  let fc := h.c Csr.fcsr
  let masked := v &&& csrMask n
  if n = 0x301 ∨ n = 0x344 ∨ 0xC00 ≤ n then h
  else if n = 0x001 then h.setC Csr.fcsr ((fc &&& ~~~(0x1F : DWord)) ||| (v &&& (0x1F : DWord)))
  else if n = 0x002 then h.setC Csr.fcsr ((fc &&& ~~~(0xE0 : DWord)) ||| ((v &&& (7 : DWord)) <<< 5))
  else if n = Csr.fcsr then h.setC Csr.fcsr (v &&& 0xFF)
  else if n = Csr.mstatus then h.setC n (privFix (h.c n) masked 11)
  else if 0x323 ≤ n ∧ n ≤ 0x32A then h.setC n (hpmEventFix v)
  else if n = 0x3A0 ∨ n = 0x3A2 then h.pmpCfgWrite n v
  else if 0x3B0 ≤ n ∧ n ≤ 0x3BF then h.pmpAddrWrite (n - 0x3B0) v
  else if n = Csr.mseccfg then h.mseccfgWrite v
  else if n = Csr.tselect then (if v.toNat < 4 then h.setC n v else h)
  else if n = 0x7A1 then h.setC (h.trigReg n) (tdata1Fix v)
  else if n = 0x7A2 then h.setC (h.trigReg n) v
  else if n = Csr.dcsr then h.setC n (privFix (h.c n) (masked ||| (h.c n &&& (0x1C0 : DWord))) 0)
  else h.setC n masked

/-- What a CSR of the hart's own reads as, with the fields that no write holds: mstatus shows UXL = 2 and SD; pmpaddr_i
shows the granule where its region is OFF or TOR (R80); tdata_1 shows type 2 and dcsr the debug version (R363). -/
def Hart.csrShow (h : Hart) (n : Nat) : DWord :=
  let v := h.c n
  if n = 0x001 then h.c Csr.fcsr &&& (0x1F : DWord)
  else if n = 0x002 then h.c Csr.fcsr >>> 5
  else if n = Csr.mstatus then v ||| 0x200000000 ||| (if v.toNat / 2 ^ 13 % 4 = 3 then 0x8000000000000000 else 0)
  else if 0x3B0 ≤ n ∧ n ≤ 0x3BF then (if pmpMode (h.pmpCfg (n - 0x3B0)) ≤ 1 then v &&& ~~~(1 : DWord) else v)
  else if n = 0x7A1 then h.c (h.trigReg n) ||| 0x2000000000000000
  else if n = 0x7A2 then h.c (h.trigReg n)
  else if n = Csr.dcsr then v ||| 0x40000000
  else v

/-- What a CSR of pair `p` reads as, but for the free-running counters. -/
def LaneState.csrRead (l : LaneState) (p n : Nat) : DWord :=
  let q := l.pair p
  let mei := q.imsic.delivery && q.imsic.top ≠ 0
  if n = 0x301 then 0x800000000090112D
  else if n = 0xF11 then 0 else if n = 0xF12 then 0x48 else if n = 0xF13 then 1
  else if n = 0xF14 then BitVec.ofNat 64 (p + 0x10 * l.id.num)
  else if n = 0x344 then (if mei then 0x800 else 0)
  else if n = Csr.mtopei then BitVec.ofNat 64 (q.imsic.top * 0x10001)
  else if n = 0xFB0 then (if mei && (q.hart.c Csr.mie).getLsbD 11 then 0xB0001 else 0)
  else if n = Csr.mireg then q.imsic.rd (q.hart.c Csr.miselect).toNat
  else q.hart.csrShow n

/-- A write of mireg or mtopei acts on the pair's IMSIC file (R81). -/
def Pair.imsicWrite (q : Pair) (n : Nat) (v : DWord) : Pair :=
  { q with imsic := if n = Csr.mireg then q.imsic.wr (q.hart.c Csr.miselect).toNat v else q.imsic.claim }

/-! ### Traps and the checkpoint record -/

/-- Trap entry (RISC-V privileged architecture, R79, R81). -/
def Hart.trap (h : Hart) (cause : Nat) (int : Bool) (tval : DWord) : Hart :=
  let ms := h.c Csr.mstatus
  let mpp : DWord := match h.priv with
    | .user => 0
    | .machine => 0x1800
  let mpie : DWord := if ms.getLsbD 3 then 0x80 else 0
  let ms := (ms &&& ~~~(0x1888 : DWord)) ||| mpp ||| mpie
  let tv := h.c Csr.mtvec
  let base := tv &&& ~~~(3 : DWord)
  let h := (h.setC Csr.mepc h.pc).setC Csr.mcause (BitVec.ofNat 64 (cause + if int then 2 ^ 63 else 0))
  let h := (h.setC Csr.mtval tval).setC Csr.mstatus ms
  { h with priv := .machine, pc := if int && tv.getLsbD 0 then base + BitVec.ofNat 64 (4 * cause) else base }

/-- The checkpoint record of a hart (R90): without counters, and without dcsr and dpc unless it enters debug mode. -/
def Hart.record (h : Hart) (debug : Bool) : Hart :=
  { h with csr := h.csr.filter fun e => recordCsr e.1 || (debug && (e.1 == Csr.dcsr || e.1 == Csr.dpc)) }

/-- A hart restored from a record; its counters keep counting (R90). -/
def Hart.restored (r now : Hart) : Hart :=
  let cs := now.csr.filter fun e => counterCsr e.1
  { r with csr := cs.foldl (fun t e => Table.set (fun _ => 0) t e.1 e.2) r.csr }

/-! ### Xprizu (R85) -/

/-- The fields of an instruction word: funct3 and rd. -/
def przFunct (w : Word) : Nat := getBits w 12 3
def przRd (w : Word) : Nat := getBits w 7 5

/-- An Xprizu word that raises an illegal-instruction exception whatever the mode. -/
def przIllegal (w : Word) : Bool :=
  getBits w 20 12 != 0 || getBits w 15 5 != 0 || decide (2 < przFunct w) || (przFunct w == 0 && przRd w != 0)

end Sys2Proof.Machine
end

