-- ==== Sys2Proof/Machine/Cores.lean ====
section
/-!
DEFINITION. Hart pairs, lockstep and checkpoint restart (spec/03_application_cores_and_lockstep.md), with
the debug module's effect on them (R104 to R106, R363). Instructions of the harts are no steps of the
table; what crosses the pair's boundary is.
-/
namespace Sys2Proof.Machine
open Sys2Proof

/-! ### Pairs -/

/-- Whether pair `p` executes: released, in RUN, SAVE or REPLAY, and its core clock running (R436). -/
def LaneState.pairRuns (l : LaneState) (p : Nat) : Bool :=
  l.alive && (l.pair p).released && l.get F.PWR_PSTAT_STATE != 1 && [PState.run, PState.save, PState.replay].contains (l.pairState p)

/-- Whether pair `p` makes accesses: it executes, or it is halted and executes a program buffer (R105). -/
def LaneState.pairIssues (l : LaneState) (p : Nat) : Bool :=
  l.pairRuns p || (l.alive && decide (l.pairState p = PState.halted))

/-- An access of pair `p` faults: a trap, or in a program buffer cmderr 3 (R105). -/
def LaneState.accessFault (l : LaneState) (p cause a : Nat) : LaneState :=
  l.modPair p fun q =>
    if l.pairRuns p then { q with hart := q.hart.trap cause false (BitVec.ofNat 64 a) } else { q with cmderr := 3 }

def LaneState.setPairState (l : LaneState) (p v : Nat) : LaneState := l.put (F.CKP_PAIRSTAT_STATE p) v
def LaneState.setLogUsed (l : LaneState) (p : Nat) : LaneState :=
  l.put (F.CKP_PAIRSTAT_LOGUSED p) (l.pair p).log.length

/-- The buffer that holds the last committed checkpoint (R91). -/
def LaneState.lastCkpt (l : LaneState) (p : Nat) : Hart :=
  if l.get (F.CKP_PAIRSTAT_BUF p) = 0 then (l.pair p).cb0 else (l.pair p).cb1

def LaneState.cksn (l : LaneState) (p : Nat) : DWord :=
  BitVec.ofNat 64 ((l.rd (R.CKP_CKSN_LO p)).toNat + (l.rd (R.CKP_CKSN_HI p)).toNat * 2 ^ 32)

/-- Whether entries of the log remain to be replayed (R98). -/
def Pair.replays (q : Pair) : Bool := q.replay && decide (q.logPos < q.log.length)

/-- The pair leaves replay once every entry is consumed (R98). -/
def LaneState.endReplay (l : LaneState) (p : Nat) : LaneState :=
  let q := l.pair p
  if q.replay ∧ q.log.length ≤ q.logPos then
    let l := l.modPair p fun q => { q with replay := false }
    if l.pairState p = PState.replay then l.setPairState p PState.run else l
  else l

/-- Appends to the replay log (R96), and forces a checkpoint while 248 entries are in use and none is requested (R97). -/
def LaneState.logAppend (l : LaneState) (p : Nat) (e : LogEntry) : LaneState :=
  let l := ((l.endReplay p).modPair p fun q => { q with log := q.log ++ [e] }).setLogUsed p
  let l := l.count P.CKP 4
  if 248 ≤ (l.pair p).log.length then l.ckptForceNew p (F.CKP_FORCECNT_LOG p) else l

/-- The next entry to be replayed. -/
def Pair.nextEntry (q : Pair) : Option LogEntry := q.log[q.logPos]?

/-- A divergence fences the pair whatever its severity (R99). -/
def LaneState.diverge (l : LaneState) (p : Nat) : LaneState := (l.raise (60 + p)).fencePair p

/-- Consumes the next entry in replay; REPLAYED counts the entries since the restart (R98, R108). -/
def LaneState.consume (l : LaneState) (p : Nat) : LaneState :=
  (l.modPair p fun q => { q with logPos := q.logPos + 1 }).bump (F.CKP_RSTCNT_REPLAYED p) 1

/-- The base address of the image slot that BOOTSTAT names (R458). -/
def LaneState.slotBase (l : LaneState) : Nat := if l.get F.SYS_BOOTSTAT_SLOT = 0 then 0x100000 else 0x800000

/-- A pair starts at its entry of the applied image (R103, R466). The record it starts from fills CB0. -/
def LaneState.startPair (l : LaneState) (p : Nat) (revive : Bool) : LaneState :=
  let b := l.slotBase
  let bs := (l.rd R.SYS_BOOTSTAT).toNat + if revive then 2 ^ 31 else 0
  let h := ({ Hart.reset with pc := BitVec.ofNat 64 (l.word (b + 0x20 + 4 * p)).toNat }.setX 10 (BitVec.ofNat 64 bs)).setX 11
    (BitVec.ofNat 64 b)
  let q := l.pair p
  let l := l.modPair p fun _ =>
    { Pair.reset with hart := h, cb0 := h, cb1 := h, released := true, haltReq := q.haltReq, imsic := q.imsic, ceCount := q.ceCount }
  let l := l.setPairState p PState.run
  if q.haltReq then l.ckptRequest p else l

/-- A counter read that is logged, or replayed from the log (R96, R98): the destination takes the value. -/
def LaneState.vcsr (l : LaneState) (p csr rd : Nat) (v : DWord) : LaneState :=
  let q := l.pair p
  let retire := fun (l : LaneState) (v : DWord) =>
    l.modPair p fun q => { q with hart := { q.hart.setX rd v with pc := q.hart.pc + 4 } }
  if q.replays then
    match q.nextEntry with
    | some (.vcsr c u) => if c = csr then retire (l.consume p) u else l.diverge p
    | _ => l.diverge p
  else if 256 ≤ q.log.length then l
  else (retire l v).logAppend p (.vcsr csr v)

/-- PRZ.CKPT of pair `p` (R85, R89, R99): the instruction retires with the checkpoint; a divergence while a replay has
entries left. -/
def LaneState.przCkpt (l : LaneState) (p : Nat) : LaneState :=
  if (l.pair p).replays then l.diverge p
  else (l.modPair p fun q => { q with przReq := true }).ckptRequest p

/-- An Xprizu word on pair `p` (R85): an encoding the rule does not list, or PRZ.CKPT in user mode without UCKPT, is an
illegal instruction; an instruction that waits for its checkpoint keeps the pair from the next. -/
def LaneState.xprizu (l : LaneState) (p : Nat) (w : Word) (f : LaneState → LaneState) : LaneState :=
  let q := l.pair p
  let barred := przFunct w = 0 ∧ q.hart.priv = .user ∧ l.get (F.CKP_PAIRCFG_UCKPT p) = 0
  if !l.pairRuns p ∨ q.przReq then l
  else if przIllegal w ∨ barred then l.modPair p fun q => { q with hart := q.hart.trap 2 false 0 }
  else f l

/-- PRZ_CKPT (R85): the words of funct3 0, and those of a funct3 that R85 does not list. -/
def execPrzCkpt (x : Lane) (p : Fin 4) (w : Word) (s : State) : Host.Outcome State Fault Refusal :=
  onLane x (fun l => l.xprizu p.val w (·.przCkpt p.val)) s

/-- PRZ_CKSN and PRZ_LOGFREE (R85); the log names them by numbers above those of the CSRs. -/
def execPrzCksn (x : Lane) (p : Fin 4) (w : Word) (s : State) : Host.Outcome State Fault Refusal :=
  onLane x (fun l => l.xprizu p.val w fun l => l.vcsr p.val 0x1000 (przRd w) (l.cksn p.val)) s
def execPrzLogfree (x : Lane) (p : Fin 4) (w : Word) (s : State) : Host.Outcome State Fault Refusal :=
  onLane x (fun l => l.xprizu p.val w fun l =>
    l.vcsr p.val 0x1001 (przRd w) (BitVec.ofNat 64 (256 - (l.pair p.val).log.length))) s

/-- CHECKPOINT_TIMER_EXPIRY (R89): paused in DOZE (R436), stopped while the pair is halted (R104). -/
def execCheckpointTimerExpiry (x : Lane) (p : Fin 4) (s : State) : Host.Outcome State Fault Refusal :=
  onLane x (fun l =>
    if l.alive ∧ l.get (F.CKP_PAIRCFG_PEREN p.val) = 1 ∧ l.get F.PWR_PSTAT_STATE ≠ 1 then l.ckptRequest p.val else l) s

/-- Whether a fault source of pair `p` is uncleared (R103). -/
def LaneState.pairFaulty (l : LaneState) (p : Nat) : Bool :=
  !l.quiet (56 + p) || !l.quiet (60 + p) || !l.quiet (64 + p)

/-- A write of PAIRCMD (R103, R108). -/
def LaneState.paircmdWrite (l : LaneState) (v : Word) : LaneState :=
  l.command R.CKP_PAIRCMD v fun l e =>
    let p := getBits e 0 2
    let ign := l.put (F.ignWr P.CKP) 1
    if getBits e 4 4 = 1 then
      if l.pairState p = PState.halted ∨ l.pairState p = PState.fenced then ign else l.ckptRequest p
    else if getBits e 4 4 = 2 then
      if l.pairFaulty p || l.fencedBy (.pair p) then ign
      else if l.pairState p = PState.fenced then ((l.startPair p true).irqFall P.CKP (mbit (4 + p))).trigger 5 else l
    else l
def execPaircmdCkpt (x : Lane) (_g : Agent) (p : Fin 4) (s : State) : Host.Outcome State Fault Refusal :=
  onLane x (·.paircmdWrite (BitVec.ofNat 32 (p.val + 0x10))) s
def execPaircmdRevive (x : Lane) (_g : Agent) (p : Fin 4) (s : State) : Host.Outcome State Fault Refusal :=
  onLane x (·.paircmdWrite (BitVec.ofNat 32 (p.val + 0x20))) s

/-- The hart as a checkpoint leaves it (R85, R104): a PRZ.CKPT that waits for it retires; one taken on entry into debug
mode records dpc and the mode in dcsr. -/
def Pair.atCommit (q : Pair) : Hart :=
  let h := if q.przReq then { q.hart with pc := q.hart.pc + 4 } else q.hart
  let mode : DWord := match h.priv with
    | .user => 0
    | .machine => 3
  if q.haltReq then (h.setC Csr.dpc h.pc).setC Csr.dcsr ((h.c Csr.dcsr &&& ~~~(3 : DWord)) ||| mode) else h

/-- The log entries that a commit keeps (R91, R98): those not consumed, TRAP entries counted from this checkpoint, which
lies `retired` instructions after the last. -/
def Pair.restLog (q : Pair) (retired : Nat) : List LogEntry :=
  if q.replay then (q.log.drop q.logPos).map fun e => match e with
    | .trap c n => .trap c (n - retired)
    | e => e
  else []

/-- CHECKPOINT_COMMIT (R91): the record enters the other buffer, uncommitted lines become committed, consumed
log entries are dropped, CKSN counts. `retired` is the number of instructions retired since the last checkpoint. -/
def LaneState.ckptCommit (l : LaneState) (p retired : Nat) : LaneState :=
  let q := l.pair p
  if !q.ckptReq ∨ l.pairState p ≠ PState.save then l
  else
    let h := q.atCommit
    let r := h.record q.haltReq
    let b := l.get (F.CKP_PAIRSTAT_BUF p)
    let rest := q.restLog retired
    let l := l.modPair p fun q => { q with
      hart := h, cb0 := if b = 0 then q.cb0 else r, cb1 := if b = 0 then r else q.cb1, ckptReq := false, przReq := false,
      lines := q.lines.map (fun c => { c with u := false }), log := rest, logPos := 0, replay := !rest.isEmpty, eic := 0 }
    let l := l.serveStores.put (F.CKP_PAIRSTAT_BUF p) (1 - b)
    let n := l.cksn p + 1
    let l := (l.wr (R.CKP_CKSN_LO p) (n.setWidth 32)).wr (R.CKP_CKSN_HI p) ((n >>> 32).setWidth 32)
    ((l.setLogUsed p).setPairState p (if rest.isEmpty then PState.run else PState.replay)).count P.CKP 1
def execCheckpointCommit (x : Lane) (c : CommitPoint) (s : State) : Host.Outcome State Fault Refusal :=
  onLane x (·.ckptCommit c.pair.val c.retired) s

/-- FORCE_CHECKPOINT_SET (R95): the access to `addr` needs a line in a set whose eight ways all hold U = 1. -/
def execForceCheckpointSet (x : Lane) (p : Fin 4) (addr : Nat) (s : State) : Host.Outcome State Fault Refusal :=
  onLane x (fun l =>
    if l.pairRuns p.val ∧ 8 ≤ l.waysU p.val (addr / 64) then l.ckptForce p.val (F.CKP_FORCECNT_SET p.val) else l) s

/-- FORCE_CHECKPOINT_SNOOP (R95): the directory receives a request for a line that pair `p` holds with U = 1. -/
def execForceCheckpointSnoop (x : Lane) (p : Fin 4) (addr : Nat) (s : State) : Host.Outcome State Fault Refusal :=
  onLane x (fun l =>
    match l.cline p.val (addr / 64) with
    | some c => if c.u then l.ckptForce p.val (F.CKP_FORCECNT_SNOOP p.val) else l
    | none => l) s

/-- Pair `p` takes line `n` into its data cache for a store (R94): a committed dirty copy of its own is first
written back to L2, one of another pair supplied and dropped. `free` says which lines make way. -/
def LaneState.takeLine (l : LaneState) (p n free : Nat) : LaneState :=
  match l.cline p n with
  | some c => if c.u then l else (l.setL2 n (some c.data)).putLine p { c with u := true }
  | none =>
    let d := l.lineData n
    let l := match l.dirtyLine n with
      | some c => (List.range 4).foldl (fun (l : LaneState) q => l.dropLine q n) (l.setL2 n (some c.data))
      | none => l
    (l.makeWay p n free).putLine p ⟨n, true, d⟩

/-- Writes `k` bytes of `v` from `a` into pair `p`'s U lines. -/
def LaneState.storeU (l : LaneState) (p a k v free : Nat) : LaneState :=
  match k with
  | 0 => l
  | k + 1 =>
    let m := l.takeLine p (a / 64) free
    let l := match m.cline p (a / 64) with
      | some c => m.putLine p { c with data := c.data.set (a % 64) (BitVec.ofNat 8 v) }
      | none => l
    l.storeU p (a + 1) k (v / 256) free

/-- A line that an access of pair `p` needs can be taken now; if not, a checkpoint is forced (R95): of the pair that holds
it, of the pair itself where its set has no way, or of the holder of the line that L2 would evict. -/
def LaneState.lineForce (l : LaneState) (p n free : Nat) : Option LaneState :=
  match l.cline p n with
  | some _ => none
  | none => match l.holderU n with
    | some q => some (l.ckptForceNew q (F.CKP_FORCECNT_SNOOP q))
    | none =>
      if 8 ≤ l.waysU p n then some (l.ckptForceNew p (F.CKP_FORCECNT_SET p))
      else match (l.l2Victim n free).bind l.holderU with
        | some q => some (l.ckptForceNew q (F.CKP_FORCECNT_SNOOP q))
        | none => none

/-- A lane address in working SRAM. -/
def inSram (a : Nat) : Bool := decide (0x10000000 ≤ a ∧ a < 0x14000000)

/-- What an atomic memory operation of `n` bytes stores, of the old and the register's value. -/
def amoValue (f : AmoOp) (n : Nat) (old new : DWord) : DWord :=
  let s := fun v : DWord => (BitVec.ofNat (8 * n) v.toNat).toInt
  let u := fun v : DWord => v.toNat % 256 ^ n
  match f with
  | .swap => new
  | .add => old + new
  | .xor => old ^^^ new
  | .and => old &&& new
  | .or => old ||| new
  | .min => if s new < s old then new else old
  | .max => if s old < s new then new else old
  | .minu => if u new < u old then new else old
  | .maxu => if u old < u new then new else old

/-- `n` bytes as a hart loads them, sign-extended. -/
def LaneState.hartLoad (l : LaneState) (a n : Nat) : DWord :=
  let v := (List.range n).foldr (fun i w => ((l.lineData ((a + i) / 64)).getD ((a + i) % 64) 0).toNat + 256 * w) 0
  (BitVec.ofNat (8 * n) v).signExtend 64

/-- A store of pair `p` ends the other harts' reservations of the granules it touches (R82). -/
def LaneState.endResv (l : LaneState) (p a n : Nat) : LaneState :=
  (List.range 4).foldl (fun (l : LaneState) k =>
    let r := (l.pair k).resv
    if k ≠ p ∧ (r = some (a / 64) ∨ r = some ((a + n - 1) / 64)) then l.modPair k fun q => { q with resv := none } else l) l

/-- What pair `p` does in lines it can take (R82, R94): an LR makes the reservation of its granule, an SC without it
stores nothing and returns 1; an atomic operation returns the old value. -/
def LaneState.workDone (l : LaneState) (p : Nat) (op : WorkOp) (a n : Nat) (data : DWord) (free : Nat) : LaneState :=
  let old := l.hartLoad a n
  let put := fun (v : DWord) => (l.storeU p a n v.toNat free).endResv p a n
  let back := fun (l : LaneState) (v : DWord) => l.respond (.hart (Fin.ofNat 4 p)) (.data v)
  match op with
  | .store => put data
  | .amo f => back (put (amoValue f n old data)) old
  | .lr => back (l.modPair p fun q => { q with resv := some (a / 64) }) old
  | .sc =>
    let m := if (l.pair p).resv = some (a / 64) then back (put data) 0 else back l 1
    m.modPair p fun q => { q with resv := none }

/-- WORKING_STORE (R80, R82, R94): an access of pair `p` to working SRAM. Outside the SRAM, across a 4 KiB boundary or
against PMP it is an access fault; one that must wait for a checkpoint leaves only the request. `lats` are the fabric cycles
of its reads that missed L2 (R487). -/
def LaneState.workingStore (l : LaneState) (p : Nat) (op : WorkOp) (a n : Nat) (data : DWord) (free : Nat) : LaneState :=
  let load := op == .lr
  if !l.pairIssues p ∨ !([1, 2, 4, 8].contains n) then l
  else if !inSram a ∨ !inSram (a + n - 1) ∨ a / 4096 ≠ (a + n - 1) / 4096 ∨ !(l.pair p).hart.pmpAllows a n (!load) then
    l.accessFault p (if load then 5 else 7) a
  else
    match l.lineForce p (a / 64) free with
    | some l => l
    | none => match l.lineForce p ((a + n - 1) / 64) free with
      | some l => l
      | none => l.workDone p op a n data free

/-- WORKING_STORE. -/
def execWorkingStore (x : Lane) (p : Fin 4) (w : WorkTarget) (data : DWord) (lats : List Nat) (s : State) :
    Host.Outcome State Fault Refusal :=
  let free := s.free.toNat
  .next (s.modLane x fun l => (if l.pairIssues p.val then l.memLat p.val lats else l).workingStore p.val w.op w.addr w.size data free).freeNext

/-- A mismatch while the pair is halted restores the checkpoint taken on halt entry and leaves it halted (R106). -/
def LaneState.haltedMismatch (l : LaneState) (p : Nat) : LaneState :=
  let h := l.lastCkpt p
  let l := (l.discardU p).modPair p fun q => { q with hart := h.restored q.hart, dbgNext := true, resv := none }
  l.put (F.CKP_PAIRSTAT_DBGRST p) 1

/-- LOCKSTEP_MISMATCH (R93, R100): recorded and raised; where the reaction is below FENCE the restart begins, with what is
uncommitted discarded; a save under way is abandoned and its request waits for the end of the restart, but for that of a
PRZ.CKPT, which is executed again. At FENCE or above the pair is fenced. -/
def LaneState.mismatch (l : LaneState) (p group eic : Nat) : LaneState :=
  if !l.alive ∨ !(l.pair p).released ∨ l.pairState p = PState.fenced ∨ l.pairState p = PState.restart then l
  else
    let sev := l.reaction (56 + p)
    let l := (l.put (F.CKP_LASTMIS_GROUP p) group).put (F.CKP_LASTMIS_EIC p) eic
    let l := l.raise (56 + p)
    if l.pairState p = PState.halted then
      let l := l.haltedMismatch p
      if Sev.fence ≤ sev then l.modPair p fun q => { q with haltMis := true } else l
    else if Sev.fence ≤ sev then l.fencePair p
    else ((l.discardU p).modPair p fun q =>
      { q with przReq := false, resv := none, wfi := false }).setPairState p PState.restart
def execLockstepMismatch (x : Lane) (p : Fin 4) (group : Fin 16) (eic : Nat) (s : State) :
    Host.Outcome State Fault Refusal :=
  onLane x (·.mismatch p.val group.val eic) s

/-- CHECKPOINT_RESTART_COMPLETE (R98, R100, R109): the cores resume from the last checkpoint and replay the log. -/
def execCheckpointRestartComplete (x : Lane) (p : Fin 4) (s : State) : Host.Outcome State Fault Refusal :=
  onLane x (fun l =>
    if l.pairState p.val ≠ PState.restart then l
    else
      let h := l.lastCkpt p.val
      let l := l.modPair p.val fun q =>
        { q with hart := h.restored q.hart, resv := none, logPos := 0, replay := !q.log.isEmpty, eic := 0 }
      let q := l.pair p.val
      let l := l.setPairState p.val (if q.ckptReq then PState.save else if q.log.isEmpty then PState.run else PState.replay)
      let l := (l.bump (F.CKP_RSTCNT_COUNT p.val) 1).put (F.CKP_RSTCNT_REPLAYED p.val) 0
      (l.irqPulse P.CKP (mbit p.val)).count P.CKP 3) s

/-- REPLAY_DIVERGENCE (R99): one that the log alone does not show, such as retirement past a TRAP entry. -/
def execReplayDivergence (x : Lane) (p : Fin 4) (s : State) : Host.Outcome State Fault Refusal :=
  onLane x (fun l => if (l.pair p.val).replays ∧ l.alive then l.diverge p.val else l) s

/-- REPLAY_END (R98): every entry is consumed. -/
def execReplayEnd (x : Lane) (p : Fin 4) (s : State) : Host.Outcome State Fault Refusal := onLane x (·.endReplay p.val) s

/-- CACHE_CORRECTABLE_ERROR (R84): corrected in place and counted. -/
def execCacheCorrectableError (x : Lane) (p : Fin 4) (s : State) : Host.Outcome State Fault Refusal :=
  onLane x (fun l => l.modPair p.val fun q => { q with ceCount := q.ceCount + 1 }) s

/-- CACHE_UNCORRECTABLE_ERROR (R84): in an uncommitted line a mismatch (group L1DUE), in a committed dirty line or
in L2 the DATALOSS source and a load access fault, in a clean line a refetch. -/
def execCacheUncorrectableError (x : Lane) (p : Fin 4) (addr : Nat) (inL2 : Bool) (s : State) :
    Host.Outcome State Fault Refusal :=
  onLane x (fun l =>
    let lost := fun (l : LaneState) =>
      (l.raise (64 + p.val)).modPair p.val fun q => { q with hart := q.hart.trap 5 false (BitVec.ofNat 64 addr) }
    if !l.pairRuns p.val then l
    else if inL2 then lost l
    else match l.cline p.val (addr / 64) with
      | some c => if c.u then l.mismatch p.val 8 (l.pair p.val).eic else lost l
      | none => l) s

/-- INTERRUPT_TAKEN (R81, R96, R98): the machine external interrupt is taken and logged, `latency` fabric cycles
after its identity became pending (R487). In replay only the one logged is, at its EIC; passing it is a divergence (R99).
None is taken while no log entry is free (R97). -/
def execInterruptTaken (x : Lane) (p : Fin 4) (eic latency : Nat) (s : State) : Host.Outcome State Fault Refusal :=
  onLane x (fun l =>
    let q := l.pair p.val
    let h := q.hart
    let take := fun (l : LaneState) =>
      l.modPair p.val fun q => { q with hart := q.hart.trap 11 true 0, eic := eic, wfi := false }
    if !l.pairRuns p.val ∨ q.ckptReq then l
    else if q.replays then
      match q.nextEntry with
      | some (.trap _ n) => if eic < n then l else if n = eic then take (l.consume p.val) else l.diverge p.val
      | _ => l
    else if 256 ≤ q.log.length then l
    else if q.imsic.delivery ∧ q.imsic.top ≠ 0 ∧ (h.c Csr.mie).getLsbD 11 ∧
        (h.priv = .user ∨ (h.c Csr.mstatus).getLsbD 3) then
      ((take l).logAppend p.val (.trap (BitVec.ofNat 64 (2 ^ 63 + 11)) eic)).hist 3 p.val q.imsic.top latency
    else l) s

/-- An identity is set pending in a hart's interrupt file; one for a fenced hart goes to its successor's file (R103).
Pending and enabled, it ends DOZE (R436), and the wait of a hart that enables the external interrupt. -/
def LaneState.imsicPost (l : LaneState) (hart ident : Nat) : LaneState :=
  if !(hartIds l.id).contains hart then l
  else
    let p := hart % 16
    let p := if l.pairState p = PState.fenced then l.get (F.CKP_REDIRECT_SUCC p) % 4 else p
    let l := l.modPair p fun q => { q with imsic := q.imsic.setPend ident }
    if !(l.pair p).imsic.enab.contains ident then l
    else l.leaveDoze.modPair p fun q => { q with wfi := q.wfi && !(q.hart.c Csr.mie).getLsbD 11 }

/-- IMSIC_MESSAGE_DELIVERY (R66, R103): a message of a page that waits is delivered; those of one page to one hart stay in
order, so the first of them with this hart must carry this identity. -/
def execImsicMessageDelivery (x : Lane) (w : MessagePath) (ident : BitVec 8) (s : State) : Host.Outcome State Fault Refusal :=
  onLane x (fun l =>
    match l.msgs.find? fun m => m.page == w.page && m.hart == w.hart with
    | some m =>
      if m.ident = ident.toNat then { l with msgs := l.msgs.erase m }.imsicPost w.hart ident.toNat else l
    | none => l) s

/-! ### The TAP and the debug module (R104 to R106, R362 to R365) -/

/-- The instructions of the TAP; every other code selects BYPASS (R362). -/
inductive TapInstr where
  | idcode | dtmcs | dmi | bypass
  deriving DecidableEq, Repr
def tapInstr (code : Nat) : TapInstr :=
  match code % 32 with
  | 0x01 => .idcode
  | 0x10 => .dtmcs
  | 0x11 => .dmi
  | _ => .bypass

/-- The register that the TAP's instruction selects, as it is captured (R362). -/
def LaneState.tapData (l : LaneState) : Nat :=
  match tapInstr l.dm.ir with
  | .idcode => match l.id with
    | .A => 0x14B489D3
    | .B => 0x14B499D3
  | .dtmcs => 0x1071
  | .dmi => l.dm.dmi
  | .bypass => bit l.dm.bypass

/-- The debugger writes a debug module register through DMI (R362, R363): the TAP keeps the scan, and a module that the
image enables becomes active; where it does not, the write is ignored (R365). -/
def LaneState.dmiWrite (l : LaneState) (addr data : Nat) : LaneState :=
  { l with dm := { l.dm with ir := 0x11, dmi := addr * 2 ^ 34 + data * 4 + 2, active := l.dm.enabled || l.dm.active } }

/-- A write of dmcontrol that selects pair `p`, with the request bits `req` (R363). -/
def LaneState.dmControl (l : LaneState) (p req : Nat) : LaneState :=
  let l := l.dmiWrite 0x10 (req + p * 2 ^ 16 + 1)
  if l.dm.enabled then { l with dm := { l.dm with hartsel := p } } else l

/-- A halt request with its cause, as dcsr.cause codes it; the checkpoint on entry is requested (R89). -/
def LaneState.haltRequest (l : LaneState) (p cause : Nat) : LaneState :=
  if !l.dm.enabled ∨ l.pairState p = PState.halted ∨ l.pairState p = PState.fenced then l
  else
    let l := l.modPair p fun q => { q with haltReq := true, wfi := false, hart := q.hart.setC Csr.dcsr (
      (q.hart.c Csr.dcsr &&& ~~~(0x1C0 : DWord)) ||| BitVec.ofNat 64 (cause % 8 * 64)) }
    l.ckptRequest p

/-- DEBUG_MODE_ENTRY (R104): the checkpoint on entry has committed. -/
def execDebugModeEntry (x : Lane) (p : Fin 4) (s : State) : Host.Outcome State Fault Refusal :=
  onLane x (fun l =>
    let q := l.pair p.val
    if l.pairRuns p.val ∧ q.haltReq ∧ !q.ckptReq then
      (l.modPair p.val fun q => { q with haltReq := false, hart := { q.hart with priv := .machine } }).setPairState p.val PState.halted
    else l) s

/-- DEBUG_RESUME (R106, R363): a MISMATCH of fencing severity counted while halted takes effect now. -/
def execDebugResume (x : Lane) (p : Fin 4) (s : State) : Host.Outcome State Fault Refusal :=
  onLane x (fun l =>
    let q := l.pair p.val
    let l := if l.alive then l.dmControl p.val (2 ^ 30) else l
    if !l.alive ∨ l.pairState p.val ≠ PState.halted then l
    else
      let l := l.put (F.CKP_PAIRSTAT_DBGRST p.val) 0
      let pv : Priv := if (q.hart.c Csr.dcsr).getLsbD 0 then .machine else .user
      let h : Hart := { q.hart with pc := q.hart.c Csr.dpc, priv := pv }
      let l := l.modPair p.val fun q => { q with haltMis := false, dbgNext := false, hart := h }
      if q.haltMis then l.fencePair p.val
      else l.setPairState p.val (if q.replay then PState.replay else PState.run)) s

/-- An abstract command of the debugger on a halted pair, whose command register takes `cmd`: one after a restart ends with
cmderr 7 (R106), one on a pair that is not halted with cmderr 4. -/
def LaneState.abstract (l : LaneState) (p cmd : Nat) (f : LaneState → LaneState) : LaneState :=
  let m := (l.dmControl p 0).dmiWrite 0x17 cmd
  if !l.alive then l
  else if !l.dm.enabled then m
  else if m.pairState p ≠ PState.halted then m.modPair p fun q => { q with cmderr := 4 }
  else if (m.pair p).dbgNext then m.modPair p fun q => { q with cmderr := 7, dbgNext := false }
  else f (m.modPair p fun q => { q with cmderr := 0 })

/-- A debugger's write of CSR `n` of pair `p`: mireg and mtopei act on the IMSIC file, and are logged (R96, R105). -/
def LaneState.debugCsr (l : LaneState) (p n : Nat) (v : DWord) : LaneState :=
  let q := l.pair p
  if n = Csr.mireg ∨ n = Csr.mtopei then
    if 256 ≤ q.log.length then l
    else (l.modPair p (·.imsicWrite n v)).logAppend p (.imsic n (q.hart.c Csr.miselect) (some v) (l.csrRead p n))
  else l.modPair p fun q => { q with hart := q.hart.csrWrite n v }

/-- DEBUG_ACCESS_REGISTER (R105, R363): GPRs, FPRs and CSRs by their abstract numbers. Free-running counters read
as free values. -/
def execDebugAccessRegister (x : Lane) (p : Fin 4) (regno : Nat) (write : Option DWord) (s : State) :
    Host.Outcome State Fault Refusal :=
  let v := s.free
  let err := fun (l : LaneState) (k : Nat) => l.modPair p.val fun q => { q with cmderr := k }
  let hart := fun (l : LaneState) (f : Hart → Hart) => l.modPair p.val fun q => { q with hart := f q.hart }
  let cmd := regno + bit write.isSome * 2 ^ 16 + 2 ^ 17 + 3 * 2 ^ 20
  .next ((s.modLane x fun l => l.abstract p.val cmd fun l =>
    let h := (l.pair p.val).hart
    if 0x1000 ≤ regno ∧ regno < 0x1020 then
      match write with
      | some w => hart l (·.setX (regno - 0x1000) w)
      | none => l.respond .dbg (.data (h.x (regno - 0x1000)))
    else if 0x1020 ≤ regno ∧ regno < 0x1040 then
      match write with
      | some w => hart l (·.setF (regno - 0x1020) w)
      | none => l.respond .dbg (.data (h.f (regno - 0x1020)))
    else if regno < 0x1000 then
      if !csrExists regno ∨ (write.isSome ∧ 0xC00 ≤ regno) then err l 3
      else match write with
        | some w => l.debugCsr p.val regno w
        | none => l.respond .dbg (.data (if countedCsr regno then v else l.csrRead p.val regno))
    else err l 2).freeNext)

/-- A register change that an instruction of the program buffer makes. -/
def LaneState.debugChange (l : LaneState) (p : Nat) (c : RegChange) : LaneState :=
  let hart := fun (f : Hart → Hart) => l.modPair p fun q => { q with hart := f q.hart }
  match c with
  | .gpr n v => hart (·.setX (n % 32) v)
  | .fpr n v => hart (·.setF (n % 32) v)
  | .csr n v => if csrExists n then l.debugCsr p n v else l.modPair p fun q => { q with cmderr := 3 }

/-- DEBUG_PROGRAM_BUFFER (R105): the buffer's instructions change the hart's registers; their DEVICE accesses are released
by DEVICE_ACCESS_RELEASE. -/
def execDebugProgramBuffer (x : Lane) (p : Fin 4) (changes : List RegChange) (s : State) :
    Host.Outcome State Fault Refusal :=
  onLane x (fun l => l.abstract p.val (2 ^ 18 + 3 * 2 ^ 20) fun l =>
    changes.foldl (fun (l : LaneState) c => l.debugChange p.val c) l) s

/-- A DEBUG reset of a pair (R452, R453): committed lines are written back, uncommitted ones discarded, the hart
reset and started; the checkpoint counters stay. A fenced pair stays fenced (R103). -/
def LaneState.debugReset (l : LaneState) (p : Nat) : LaneState :=
  if !l.dm.enabled ∨ !(l.pair p).released ∨ l.pairState p = PState.fenced then l
  else
    let l := (l.discardU p).flushPair p
    (l.startPair p false).setLogUsed p

/-- DEBUG_HARTRESET and DEBUG_NDMRESET (R363). -/
def execDebugHartreset (x : Lane) (p : Fin 4) (s : State) : Host.Outcome State Fault Refusal :=
  onLane x (fun l => if l.alive then (l.dmControl p.val (2 ^ 29)).debugReset p.val else l) s
def execDebugNdmreset (x : Lane) (s : State) : Host.Outcome State Fault Refusal :=
  onLane x (fun l => if l.alive then (List.range 4).foldl LaneState.debugReset (l.dmiWrite 0x10 3) else l) s

end Sys2Proof.Machine
end

