-- ==== Sys2Proof/Machine/Reset.lean ====
section
/-!
DEFINITION. Lane resets (spec/15_power_clocks_and_retention.md R452, R453, spec/13_fault_collection.md R414):
what each kind keeps, and what Bedrock sees of it (R215).
-/
namespace Sys2Proof.Machine
open Sys2Proof

/-- Reset kinds, as RSTCAUSE.KIND codes them (R456). -/
def Rst.por : Nat := 0
def Rst.feedloss : Nat := 1
def Rst.lane : Nat := 2
def Rst.warm : Nat := 3
def Rst.wake : Nat := 4

/-- The bank of working SRAM of an address. -/
def bankOf (a : Nat) : Nat := (a - 0x10000000) / 0x100000

/-- Whether the byte at `a` keeps its content through a reset of kind `k` (R453); a retained bank of a WAKE reset
has passed its check or was zeroed (R449), and a PARK that retained none keeps none (R439). -/
def LaneState.keepsByte (l : LaneState) (k a : Nat) : Bool :=
  if a < 0x01000000 then true
  else if inSram a then
    k == Rst.lane || k == Rst.warm || (k == Rst.wake && l.retained (bankOf a) && !l.power.retainNone)
  else k == Rst.warm

/-- Registers of the Crust island (R453, R455): the values of the WAKE page and PWR from 0x124 up but for RSTCMD and
PEERWAKE. -/
def crustReg (a : Nat) : Bool :=
  pageOf a = 0x40034 || (pageOf a = 0x40002 && decide (0x124 ≤ a % 0x1000 ∧ a % 0x1000 ≠ 0x128 ∧ a % 0x1000 ≠ 0x12C))

/-- FLT registers that a LANE or WARM reset keeps (R414): the records, counts, TIME, the log and LOGSTAT. -/
def fltKept (a : Nat) : Bool :=
  pageOf a = 0x40003 && decide ((0x104 ≤ a % 0x1000 ∧ a % 0x1000 < 0x140) ∨ (0x200 ≤ a % 0x1000 ∧ a % 0x1000 < 0x400))

/-- Whether a register keeps its value through a reset of kind `k`. Registers of the Bedrock pages that a lane's
window shows per lane are Bedrock's (R71); KABORT and the count of crystal fallbacks run since POR. -/
def keepsReg (k a : Nat) : Bool :=
  (0x50000 ≤ pageOf a && pageOf a < 0x60000) ||
  (k ≠ Rst.por && (crustReg a || a == R.KILN_KABORT || a == R.CLK_CLKSTAT)) ||
  ((k == Rst.lane || k == Rst.warm) && fltKept a)

/-- The lane after a reset of kind `k` is applied, `now` the device's clock: it is held in reset (R452). -/
def LaneState.resetTo (l : LaneState) (k lsrc now : Nat) : LaneState :=
  let l := if k = Rst.warm then ((List.range 4).foldl LaneState.discardU l).writeBack else l
  let regs : RegFile := { l.regs with tab := l.regs.tab.filter fun e => keepsReg k e.1 }
  let mem := l.mem.filter fun e => l.keepsByte k e.1
  let p := l.power
  let keep := decide (k = Rst.lane ∨ k = Rst.warm ∨ k = Rst.wake)
  let p : Power := { p with
    held := true
    railsOff := false
    boot := .none
    kilnWire := p.kilnWire && decide (k ≠ Rst.por)
    entry := 0
    parkReady := false
    wakeStep := 0
    timeBase := if keep then p.timeBase else Int.ofNat now
    retainNone := false
    kilnFail := none
    abortBy := none
    crustBase := if k = Rst.por then now else p.crustBase }
  let dm := if k = Rst.warm then l.dm else .reset
  let ports : PortState := { PortState.reset with
    can0 := { CanState.reset with zero := now }, can1 := { CanState.reset with zero := now }
    eth := { EthState.reset with tick := 125 * now } }
  let n := { LaneState.fresh l.id mem p with regs := regs, dm := dm, ports := ports, badPar := if k = Rst.warm then l.badPar else [] }
  let n := (n.put (F.locked P.WAKE) 0).wr (R.lockKey P.WAKE) 0
  let n := (n.put F.CLK_CLKSTAT_CURF 3).put F.CLK_CLKSTAT_FBUSY 0
  let n := if k = Rst.lane ∨ k = Rst.warm then
      ((n.wr R.FLT_PFIRST (l.rd R.FLT_FIRST)).wr R.FLT_PFIRSTT (l.rd R.FLT_FIRSTT)).put F.FLT_WIRESTAT_NOW 0
    else n
  let n := (n.put F.PWR_RSTCAUSE_KIND k).put F.PWR_RSTCAUSE_LSRC lsrc
  n.put F.PWR_RSTHIST_SEEN ((if k = Rst.por then 0 else n.get F.PWR_RSTHIST_SEEN) ||| 2 ^ k)

/-- A reset of a lane: its heartbeat stops, so a lane that was BOOT or UP is LOST with cause RESET (R215).
What the bridge die's common page shows in each lane stays (R267). -/
def State.laneReset (s : State) (x : Lane) (k lsrc : Nat) : State :=
  let now := s.nowUs
  let raw := s.brg.bcomRaw
  (s.modLane x fun l => (l.resetTo k lsrc now).irqCycle P.BCOM 3 raw 0).laneLost x 4

/-- A write of RSTCMD (R456): with the key it applies a LANE or WARM reset. -/
def State.rstcmdWrite (s : State) (x : Lane) (v : Word) : State :=
  let l := s.lane x
  let r := l.regWrite R.PWR_RSTCMD v
  let s := s.modLane x (·.command R.PWR_RSTCMD v fun l _ => l)
  if !l.alive ∨ l.blockFenced R.PWR_RSTCMD ∨ getBits r.2 8 8 ≠ 0xC3 then s
  else if getBits r.2 0 2 = 1 then s.laneReset x Rst.lane 1
  else if getBits r.2 0 2 = 2 then s.laneReset x Rst.warm 0
  else s

/-- RSTCMD_LANE and RSTCMD_WARM (R452). -/
def execRstcmdLane (x : Lane) (s : State) : Host.Outcome State Fault Refusal := .next (s.rstcmdWrite x 0xC301)
def execRstcmdWarm (x : Lane) (s : State) : Host.Outcome State Fault Refusal := .next (s.rstcmdWrite x 0xC302)

/-- LANE_DOWN_RESET (R407): 128 fabric cycles after the event the lane takes a LANE reset. -/
def execLaneDownReset (x : Lane) (s : State) : Host.Outcome State Fault Refusal :=
  .next (if (s.lane x).col.laneDown then s.laneReset x Rst.lane 0 else s)

end Sys2Proof.Machine
end

