-- ==== Sys2Proof/Machine/BridgeDie.lean ====
section
/-!
DEFINITION. The bridge die's terminal entry (R229) and the selection (R226, R227).
-/
namespace Sys2Proof.Machine
open Sys2Proof

/-- A bridge applies its terminal state (R229, R240, R398) and its domain may pass to TERMINAL (R221). -/
def State.terminalEntry (s : State) (n : Nat) : State :=
  let had := s.anyTerm
  let was := s.brg.get (F.BRG_BSTAT_TERM n) == 1
  let t := if s.noGateSupply then 0 else s.brg.envTerm n
  let s := (s.setTerm n true t).modUnit n fun x => { x with treq := false }
  let s := if was then s else s.irqPulseBoth P.BLEASE (mbit (16 + n))
  let s := if had then s else s.bedRaise 17
  let s := s.rankUpdate n
  match s.domainOf n with
  | some d => s.terminalCheck d
  | none => s

/-- Whether the hold count has reached MAXHOLD and the terminal state is not yet applied (R28, R244). -/
def State.terminalDue (s : State) (n : Nat) : Bool :=
  s.brg.get (F.BRG_BSTAT_TERM n) == 0 && decide (s.brg.maxHold n ≤ s.brg.get (F.BRG_BSTAT_HOLDCNT n))

/-- The bridge die applies one bridge's code and action of an accepted SELECT word (R226). CLEAR sets the
hold latches to both switches off and, outside DEVICE_SAFE, ends a terminal state (R219, R229). -/
def State.applySelection (s : State) (n code act : Nat) : State :=
  let s := s.modBrg fun b => (b.put (F.BRG_BSTAT_SEL n) code).put (F.BRG_BSTAT_ACT n) act
  if act = Act.clear then
    let s := s.modBrg (·.put (F.BRG_HLMODE_MODES n) 0x2A)
    let s := if s.devState = Dev.safe then s else (s.setHold n 0).setTerm n false 0
    s.rankUpdate n
  else if act = Act.terminal ∧ s.brg.get (F.BRG_BSTAT_TERM n) = 0 then s.terminalEntry n
  else s.rankUpdate n

end Sys2Proof.Machine
end

