-- ==== Sys2Proof/Machine/BridgeCmds.lean ====
section
/-!
DEFINITION. The commands of the bridge die and of Bedrock's decision (spec/01_three_lanes.md,
spec/07_authority_lease_and_failover.md, spec/08_bridge_drivers.md).
-/
namespace Sys2Proof.Machine
open Sys2Proof

/-! ### Staging and verdicts (R19, R24) -/

def F.ovwr (x : Lane) (n : Nat) : Fld := byLane x (F.BENV_OVWR_OVWRA n) (F.BENV_OVWR_OVWRB n)
def F.envFail (x : Lane) (n : Nat) : Fld := byLane x (F.BENV_ENVFAIL_FAILA n) (F.BENV_ENVFAIL_FAILB n)

/-- A PHASE_CMD frame overwrites the lane's staging register; an uncommitted command there is counted
OVERWRITTEN (R19). -/
def phaseCmd (l : Lane) (n : Nat) (arg : BitVec 9) (u v w : Half) (s : State) : State :=
  let s := if (s.brg.staged l n).isSome then s.bbump (F.ovwr l n) 1 else s
  s.modBrg (·.setStaged l n (some
    ⟨arg.toNat % 64, ⟨u.toNat, v.toNat, w.toNat⟩, arg.getLsbD 6, .none⟩))

def execPhaseCmdReceived (l : Lane) (n : Fin 8) (arg : BitVec 9) (u v w : Half) (s : State) :
    Host.Outcome State Fault Refusal := done (phaseCmd l n arg u v w s)

/-- A VERDICT is applied to the lane's last duplex command of each bridge it covers; with no bridge covered
a DIFF counts as a DISAGREE fault (R24). -/
def verdict (l : Lane) (arg : BitVec 9) (payload : Half) (s : State) : State :=
  let diff := payload.getLsbD 8
  let res := if arg.getLsbD 8 then (if diff then Verdict.disagree else .agree) else .none
  if payload.toNat % 256 = 0 then (if diff then s.bedRaise 21 else s)
  else (List.range 8).foldl (fun (s : State) b =>
    if payload.getLsbD b then
      match s.brg.staged l b with
      | some c => if c.duplex then s.modBrg (·.setStaged l b (some { c with verdict := res })) else s
      | none => s
    else s) s

def execVerdictReceived (l : Lane) (arg : BitVec 9) (payload : Half) (s : State) :
    Host.Outcome State Fault Refusal := done (verdict l arg payload s)

/-! ### The envelope (R228) -/

/-- The effective duty of a phase; none in FLOAT. -/
def effDuty (mode duty : Nat) : Option Nat :=
  match mode with
  | 0 => some duty | 1 => some 0 | 3 => some 0xFFFF | _ => none

/-- The six-step patterns in their cyclic order. -/
def sixSteps : List Nat :=
  [modesOf 0 1 2, modesOf 0 2 1, modesOf 2 0 1, modesOf 1 0 2, modesOf 1 2 0, modesOf 2 1 0]

/-- Plausible modes under PLAUS, after the modes `prev`. -/
def plausible (plaus modes prev : Nat) : Bool :=
  let rest := [modesOf 2 2 2, modesOf 1 1 1]
  if plaus = 1 then
    if rest.contains modes then true
    else match sixSteps.idxOf? modes with
      | none => false
      | some i =>
        if rest.contains prev then true
        else match sixSteps.idxOf? prev with
          | none => false
          | some j => i = j || i = (j + 1) % 6 || j = (i + 1) % 6
  else if plaus = 2 then ([modesOf 0 0 0] ++ rest).contains modes
  else true

/-- A staged command passes the envelope against the last command committed to its bridge (R228). -/
def State.passes (s : State) (n : Nat) (c : Staged) : Bool :=
  let dmax := s.bed.get (F.BENV_ENVCFG_DMAX n)
  let dstep := s.bed.get (F.BENV_ENVCFG_DSTEP n)
  let prev := s.brg.get (F.BRG_HLMODE_MODES n)
  (List.range 3).all (fun p =>
    match effDuty (modeOf c.modes p) (c.duty.get p) with
    | none => true
    | some e =>
      let q := (effDuty (modeOf prev p) (s.brg.hlDuty n p)).getD 0
      decide (e ≤ dmax) && decide (max e q - min e q ≤ dstep)) &&
  plausible (s.bed.get (F.BENV_ENVMODE_PLAUS n)) c.modes prev

/-! ### The decision at a boundary (R20, R26 to R28) -/

/-- What the decision is for a bridge. -/
inductive Decision where
  | commit (c : Staged) | nothing | keep | revoke (cause : Nat)
  deriving DecidableEq, Repr

/-- The lane's result for a command: NONE when its verdict was staged less than 120 ns before (R24). -/
def laneResult (c : Option Staged) (verdNs : Nat) : Verdict :=
  match c with
  | some c => if c.duplex ∧ 120 ≤ verdNs then c.verdict else .none
  | none => .none

/-- The combined result of both lanes (R26). -/
def combine (x y : Verdict) : Verdict :=
  if x = .disagree ∨ y = .disagree then .disagree else if x = .none ∨ y = .none then .none else .agree

/-- The staged command of a lane that has the commit lead of R20. -/
def eligible (c : Option Staged) (lead : Nat) : Option Staged :=
  match c with
  | some c => if (if c.duplex then 256 else 160) ≤ lead then some c else none
  | none => none

/-- An ENVELOPE fault: nothing committed (R26, R27). -/
def envelopeFault (s : State) : State × Decision := (s.bedRaise 20, .nothing)

/-- The table of R26 and R27 for the holder `x` of domain `d` with its command `c`, the standby lane's
command `o`, and the combined result. -/
def decide26 (s : State) (n d : Nat) (x : Lane) (c : Staged) (o : Option Staged) (res : Verdict) :
    State × Decision :=
  let ok := s.passes n c
  let oOk := match o with
    | some k => k.duplex && s.passes n k
    | none => false
  if !c.duplex then if ok then (s, .commit c) else envelopeFault s
  else match res with
    | .agree => if ok then (s, .commit c) else envelopeFault s
    | .none =>
      let s := s.bbump (F.BENV_VERD_NONE n) 1
      if ok then (s, .commit c) else envelopeFault s
    | .disagree =>
      let s := (s.bbump (F.BENV_VERD_DISAGREE n) 1).irqPulseBoth P.BENV (mbit (8 + n))
      let dx := s.selfDiag x d
      let dy := s.selfDiag x.peer d
      if dx && dy then (s, .nothing)
      else if dx then (s, .revoke 4)
      else if dy then
        let s := s.setReady x.peer d false
        if ok then (s, .commit c) else envelopeFault s
      else if ok then (s.bedRaise 21, .commit c)
      else if oOk then (s, .revoke 5)
      else (((s.bedRaise 20).bedRaise 21), .nothing)

/-- The hold count goes forward by one (R28). -/
def State.holdUp (s : State) (n : Nat) : State := s.setHold n (min (s.brg.get (F.BRG_BSTAT_HOLDCNT n) + 1) 127)

/-- A command enters the hold latches; the hold count returns to 0 unless a rank from 1 to 7 is in force
(R28, R243). -/
def State.commitCmd (s : State) (n : Nat) (c : Staged) : State :=
  let s := s.modBrg fun b =>
    let b := (b.put (F.BRG_HLMODE_MODES n) c.modes).put (F.BRG_HLDUTY_0_U n) c.duty.u
    ((b.put (F.BRG_HLDUTY_0_V n) c.duty.v).put (F.BRG_HLDUTY_1_W n) c.duty.w).count (P.BRG n) 2
  if s.brg.get (F.BRG_BSTAT_DRIVE n) ≤ 7 then s else s.setHold n 0

/-- The staged commands with the commit lead leave staging at this boundary; every one is checked against
the envelope and a failure is counted for its lane (R18, R20, R228, R240). -/
def State.takeStaged (s : State) (n : Nat) (x : Lane) (lead : Nat) : State × Option Staged :=
  match eligible (s.brg.staged x n) lead with
  | none => (s, none)
  | some c =>
    let s' := s.modBrg (·.setStaged x n none)
    if s.passes n c then (s', some c)
    else ((s'.bbump (F.envFail x n) 1).irqPulseBoth P.BENV (mbit n), some c)

/-- The bridge die's current selection of a bridge names the lane and runs it (R223, R226). -/
def State.selects (s : State) (n : Nat) (x : Lane) : Bool :=
  s.brg.get (F.BRG_BSTAT_SEL n) == Sel.lane x && s.brg.get (F.BRG_BSTAT_ACT n) == Act.run

/-- Bedrock's part of a PWM boundary (R20, R26 to R28, R222, R243); the bridge die commits only the lane it selects (R223). -/
def State.boundaryDecision (s : State) (n : Nat) (t : BoundaryTimes) : State :=
  let a := s.takeStaged n .A t.leadA
  let b := a.1.takeStaged n .B t.leadB
  let s := b.1
  let frozen := decide (s.brg.get (F.BRG_BSTAT_DRIVE n) ≤ 7)
  let up := fun s : State => if frozen then s else s.holdUp n
  match s.domainOf n with
  | none => s
  | some d =>
    let st := s.domState d
    if st = Dom.brk ∨ st = Dom.gap then up s
    else if st = Dom.make then
      if (byLane (s.holder d) a.2 b.2).isSome then up s else s
    else if st = Dom.held then
      let x := s.holder d
      match byLane x a.2 b.2 with
      | none => s
      | some c =>
        let o := byLane x.peer a.2 b.2
        let res := combine (laneResult (some c) (byLane x t.verdA t.verdB))
          (laneResult o (byLane x.peer t.verdA t.verdB))
        let r := decide26 s n d x c o res
        match r.2 with
        | .commit c => if r.1.selects n x then r.1.commitCmd n c else up r.1
        | .nothing => up r.1
        | .keep => r.1
        | .revoke cause => up (r.1.enterBreak d cause)
    else s

/-! ### The edges of the period (R247, R250) -/

/-- The starved count of a phase at the end of a period (R250): one more for a starved period, 0 after a period whose low
side was on or that had a UV refresh, and 0 when a periodic refresh is due. -/
def BridgeUnit.starvedNext (u : BridgeUnit) (k : PhaseTimes) (p : Nat) : Nat :=
  if u.refreshDue k p then 0
  else if u.starving p then u.starved.get p + 1
  else if u.uvSeen.get p || u.lowSeen.get p || ((u.drive.get p).loAny && !u.intlk.get p) then 0
  else u.starved.get p

/-- The bridge's own part of a PWM boundary: starved counts and refreshes of the period that ends, the
edges of the period that begins, events and the STATUS frame (R243, R247, R250, R263). -/
def State.boundaryEdges (s : State) (n : Nat) : State :=
  let u := s.unit n
  let k := s.brg.times n
  let due : Tri Bool := ⟨u.refreshDue k 0, u.refreshDue k 1, u.refreshDue k 2⟩
  let c := bit due.u + bit due.v + bit due.w
  let s := s.modUnit n fun x => { x with
    starved := ⟨u.starvedNext k 0, u.starvedNext k 1, u.starvedNext k 2⟩, refreshed := due }
  let s := s.modBrg fun b => ((b.bump (F.BRG_REFCNT_PER n) c).countK n 3 c).count (P.BRG n) 1
  let r := s.brg.get (F.BRG_BSTAT_DRIVE n)
  let s :=
    if r = 9 then
      (s.modBrg fun b => b.setDrive n true (b.latchDrive n)).modUnit n fun x => { x with live := true, allLow := false }
    else s.modBrg (·.setDrive n true (s.rankDrive n r).1)
  s.sendStatus n

/-- A PWM period boundary of bridge `n` (R20, R28, R246, R259). The boundaries exist while the master
timebase runs; commits and the hold count are Bedrock's. The boundary at which the count reaches MAXHOLD applies the terminal
state. -/
def pwmBoundary (n : Nat) (t : BoundaryTimes) (s : State) : State :=
  if s.brg.get (F.running P.BCOM) = 0 then s
  else
    let s := if s.bedrockRuns then s.oneCycle fun s => s.settle.boundaryDecision n t else s
    (if s.terminalDue n ∨ (s.unit n).treq then s.terminalEntry n else s).boundaryEdges n

def execPwmPeriodBoundary (n : Fin 8) (t : BoundaryTimes) (s : State) : Host.Outcome State Fault Refusal :=
  done (pwmBoundary n t s)

/-- The terminal state of a bridge whose hold count has reached MAXHOLD (R28, R229). -/
def execBridgeTerminalEntry (n : Fin 8) (s : State) : Host.Outcome State Fault Refusal :=
  done (if s.terminalDue n then s.terminalEntry n else s)

/-! ### Master timebase and current sensing -/

/-- A master timebase boundary: SYNC frames, sample counter, the bridge links' counting intervals and the
end of a loss of lock (R245, R260, R267, R531). -/
def masterBoundary (s : State) : State :=
  if s.brg.get (F.running P.BCOM) = 0 then s
  else
    let k := if s.brg.fresh then 0 else (s.brg.pcnt + 1) % 2 ^ 25
    let s := s.modBrg fun b => { b with
      pcnt := k, fresh := false, sampleK := 0, rxA := { b.rxA with due := true }, rxB := { b.rxB with due := true } }
    let s := s.modBrg fun b => (b.put F.BCOM_TBSTAT_PCNT (k % 2 ^ 24)).count P.BCOM 1
    let s := s.sendUpBoth 9 0 (k % 512) [BitVec.ofNat 16 (k / 512)]
    if s.brg.pllHold ∧ s.brg.get F.BCOM_TBSTAT_LOCK = 1 then
      (s.modBrg fun b => { b with pllHold := false }).rankAll
    else s

def execMasterPeriodBoundary (s : State) : Host.Outcome State Fault Refusal := done (masterBoundary s)

/-- BCOM.BLKCTRL.RUN = 1 starts the master timebase at the next cycle of the locked PLL (R245, R267). -/
def timebaseStart (s : State) : State :=
  if s.brg.get (F.run P.BCOM) = 1 ∧ s.brg.get (F.running P.BCOM) = 0 ∧ s.brg.get F.BCOM_TBSTAT_LOCK = 1 then
    s.modBrg fun b => { b.put (F.running P.BCOM) 1 with fresh := true }
  else s

def execMasterTimebaseStart (s : State) : Host.Outcome State Fault Refusal := done (timebaseStart s)

/-- A saturated 16-bit value of an integer. -/
def sat16 (i : Int) : Int := min (max i (-32768)) 32767

/-- One channel's conversion (R261): the corrected sample, and the over-current run lengths and live cause
(R256). -/
def sampleChannel (b : BrgState) (k cnt : Nat) (raw : Half) : BrgState :=
  let n := k / 3
  let p := k % 3
  let v := sat16 (toSigned 16 raw.toNat - toSigned 16 (b.get (F.BRG_CSCFG_OFFS n p)))
  let b := (b.put (F.BRG_CSLAST_SAMPLE n p) (ofSigned 16 v)).put (F.BRG_CSLAST_CNT n p) cnt
  let th := b.get (F.BRG_OCCFG_OCTH n)
  let u := b.unit n
  let oc := b.get (F.BRG_FLTCAUSE_OC n)
  let m := 2 ^ p
  if (th : Int) ≤ v.natAbs then
    let b := b.put (F.BRG_FLTCAUSE_OC n) (oc ||| m)
    b.modUnit n fun x => { x with ocOver := u.ocOver.set p (u.ocOver.get p + 1), ocBelow := u.ocBelow.set p 0 }
  else
    let run := u.ocBelow.get p + 1
    let b := if 16 ≤ run then b.put (F.BRG_FLTCAUSE_OC n) (oc &&& (7 - m)) else b
    b.modUnit n fun x => { x with ocOver := u.ocOver.set p 0, ocBelow := u.ocBelow.set p (min run 16) }

/-- All 24 channels convert together; one CURRENT frame per bridge goes to both lanes (R260 to R262). -/
def currentConversion (samples : List Half) (s : State) : State :=
  if s.brg.get (F.running P.BCOM) = 0 then s
  else
    let cnt := s.brg.sampleK % 512
    let s := s.modBrg fun b => (List.range 24).foldl (fun b k => sampleChannel b k cnt (samples.getD k 0)) b
    let s := s.modBrg fun b => { b with sampleK := b.sampleK + 1 }
    (List.range 8).foldl (fun (s : State) n =>
      s.sendUpBoth 8 n cnt ((List.range 3).map fun p => BitVec.ofNat 16 (s.brg.get (F.BRG_CSLAST_SAMPLE n p)))) s

def execCurrentConversionStart (samples : List Half) (s : State) : Host.Outcome State Fault Refusal :=
  done (currentConversion samples s)

/-! ### Protection (R255 to R258) -/

/-- A fault bit latches in FLTLAT and shows in FLTCAUSE, and the bridge takes its rank (R256, R257). -/
def State.latchFault (s : State) (n : Nat) (lat cause : Fld) (m : Nat) : State :=
  let s := s.modBrg fun b => (b.put lat (b.get lat ||| m)).put cause (b.get cause ||| m)
  s.rankUpdate n

def overcurrent (n p : Nat) (s : State) : State :=
  if s.brg.get (F.BRG_OCCFG_OCCNT n) ≤ (s.unit n).ocOver.get p then
    s.latchFault n (F.BRG_FLTLAT_OC n) (F.BRG_FLTCAUSE_OC n) (2 ^ p)
  else s

/-- OCCNT consecutive samples at or above OCTH latch OVERCUR (R256). -/
def execOvercurrentDetected (n : Fin 8) (p : Fin 3) (s : State) : Host.Outcome State Fault Refusal :=
  done (overcurrent n p s)

/-- The bootstrap monitor's output after VBS of `mv` millivolts, with its hysteresis of 0.5 V (R249). -/
def BrgState.vbsMonitor (b : BrgState) (n mv : Nat) (low : Bool) : Bool :=
  let th := 6000 + 500 * b.get (F.BRG_BOOT_BSUV n)
  if mv < th then true else if th + 500 < mv then false else low

/-- The monitor of a phase finds VBS of `vbs` mV, and FLTCAUSE follows (R249, R256). When it is low while the high side is on,
a UV refresh follows, the high side off at `start` sub-steps from the boundary; `after` is VBS at its end (R251). -/
def bootUndervoltage (n p start vbs after : Nat) (s : State) : State :=
  let u := s.unit n
  let low := s.brg.vbsMonitor n vbs (u.vbsLow.get p)
  let high := (u.drive.get p).hiAny && !u.intlk.get p
  let late := s.brg.vbsMonitor n after low
  let out := if low && high then late else low
  let c := s.brg.get (F.BRG_FLTCAUSE_BOOTUV n)
  let s := s.modBrg (·.put (F.BRG_FLTCAUSE_BOOTUV n) (if out then c ||| 2 ^ p else c &&& (7 - 2 ^ p)))
  let s := s.modUnit n fun x => { x with vbsLow := x.vbsLow.set p out }
  if low && high then
    let s := s.modUnit n fun x => { x with
      starved := x.starved.set p 0, uvSeen := x.uvSeen.set p true, evBuvref := true
      uvAt := x.uvAt.set p (x.uvAt.get p ++ [(start : Int)])
      uvRuns := x.uvRuns.set p (if late then x.uvRuns.get p + 1 else 0) }
    (s.modBrg fun b => (b.uvRefreshed n 1).reshape n).statusCheck n
  else s

def execBootstrapUndervoltage (n : Fin 8) (p : Fin 3) (v : VbsCourse) (s : State) :
    Host.Outcome State Fault Refusal := done (bootUndervoltage n p v.start v.vbs v.after s)

/-- VBS still low after BUVN consecutive UV refreshes latches BOOTUV, except during precharge (R251, R252). -/
def execBootuvFaultLatch (n : Fin 8) (p : Fin 3) (s : State) : Host.Outcome State Fault Refusal :=
  done (if s.brg.get (F.BRG_BOOT_BUVN n) ≤ (s.unit n).uvRuns.get p ∧ (s.unit n).vbsLow.get p ∧
        s.brg.get (F.BRG_BSTAT_PRE n) = 0 then
      s.latchFault n (F.BRG_FLTLAT_BOOTUV n) (F.BRG_FLTCAUSE_BOOTUV n) (2 ^ p.val)
    else s)

/-- The precharge ends at a PWM boundary; rank 9 applies the hold latches from it (R252). -/
def prechargeEnd (n : Nat) (s : State) : State :=
  if s.brg.get (F.BRG_BSTAT_PRE n) = 1 then
    let s := s.modBrg fun b => (b.put (F.BRG_BSTAT_PRE n) 0).put (F.BRG_BSTAT_DRIVE n) 9
    let s := s.modBrg fun b => b.setDrive n true (b.latchDrive n)
    (s.modUnit n fun x => { x with live := true, allLow := false }).statusCheck n
  else s

def execPrechargeEnd (n : Fin 8) (s : State) : Host.Outcome State Fault Refusal := done (prechargeEnd n s)

/-- The code of the filtered pins is formed anew; a change takes effect at once, and an entry into an impossible code is
recorded while the bridge is configured to use the decoder (R253, R254). -/
def State.recode (s : State) (n : Nat) : State :=
  let pins := (s.unit n).pins
  let code := if s.brg.get (F.BRG_COMCFG_PINV n) = 1 then 7 - pins else pins
  if (s.unit n).code = code then s
  else
    let s := (s.modUnit n fun x => { x with code := code }).modBrg (·.count (P.BRG n) 7)
    let pinsMode := decide (s.brg.get (F.BRG_BRGCFG_CMODE n) = 1)
    let uses := pinsMode || s.brg.envTerm n == 2
    let s := if uses ∧ (code = 0 ∨ code = 7) then
        (s.modBrg fun b => (b.bump (F.BRG_INTLKCNT_CODE n) 1).put (F.BRG_EVT_CODE n) 1).modUnit n
          fun x => { x with evCode := true }
      else s
    let r := s.brg.get (F.BRG_BSTAT_DRIVE n)
    let s :=
      if r = 9 ∧ pinsMode ∧ (s.unit n).live then s.modBrg fun b => b.setDrive n false (b.latchDrive n)
      else if r = 6 ∧ s.brg.get (F.BRG_BSTAT_TSTATE n) = 2 then s.modBrg fun b => b.setDrive n false (b.termDrive n 2)
      else s
    s.statusCheck n

/-- The filtered commutation pins of a bridge change (R253). -/
def commutation (n pins : Nat) (s : State) : State := (s.modUnit n fun x => { x with pins := pins }).recode n

def execCommutationCodeChange (n : Fin 8) (pins : Fin 8) (s : State) : Host.Outcome State Fault Refusal :=
  done (commutation n pins s)

/-- An interlock refusal: both gates of the phase low until both requests have been off, counted and reported (R255). A
refusal that stands is not counted again. -/
def interlock (n p : Nat) (s : State) : State :=
  if (s.unit n).intlk.get p then s
  else
    let s := s.modUnit n fun x => { x with
      evIntlk := true, intlk := x.intlk.set p true, gates := x.gates.set p [⟨0, false, false⟩] }
    (s.modBrg (·.refusedGates n 1)).statusCheck n

def execInterlockRefusal (n : Fin 8) (p : Fin 3) (s : State) : Host.Outcome State Fault Refusal :=
  done (interlock n p s)

/-- A DESAT detection: the switch goes off, so its cause is gone at once; the latch gives rank 3 (R256). -/
def desat (n sw : Nat) (s : State) : State :=
  (s.modBrg fun b => b.put (F.BRG_FLTLAT_DESAT n) (b.get (F.BRG_FLTLAT_DESAT n) ||| 2 ^ sw)).rankUpdate n

def execDesatDetected (n : Fin 8) (sw : Fin 6) (s : State) : Host.Outcome State Fault Refusal :=
  done (desat n sw s)

/-- VBR_n of `mv` millivolts for 1 µs: FLTCAUSE follows with a hysteresis of 1 V, and a cause latches, an undervoltage
only while BLKCTRL.RUN = 1 (R256). -/
def supplyMeasured (n mv : Nat) (s : State) : State :=
  let lo := 500 * s.brg.get (F.BRG_VBRCFG_UVTH n)
  let hi := 500 * s.brg.get (F.BRG_VBRCFG_OVTH n)
  let live := fun (set_ gone : Bool) (f : Fld) => if set_ then 1 else if gone then 0 else s.brg.get f
  let uv := live (decide (mv < lo)) (decide (lo + 1000 < mv)) (F.BRG_FLTCAUSE_VBRUV n)
  let ov := live (decide (hi < mv)) (decide (mv + 1000 < hi)) (F.BRG_FLTCAUSE_VBROV n)
  let s := s.modBrg fun b => (b.put (F.BRG_FLTCAUSE_VBRUV n) uv).put (F.BRG_FLTCAUSE_VBROV n) ov
  let s := if uv = 1 ∧ s.brg.get (F.run (P.BRG n)) = 1 then
      s.latchFault n (F.BRG_FLTLAT_VBRUV n) (F.BRG_FLTCAUSE_VBRUV n) 1 else s
  if ov = 1 then s.latchFault n (F.BRG_FLTLAT_VBROV n) (F.BRG_FLTCAUSE_VBROV n) 1 else s

def execBridgeSupplyUndervoltage (v : BridgeVolts) (s : State) : Host.Outcome State Fault Refusal :=
  done (supplyMeasured v.bridge v.vbr s)

def execBridgeSupplyOvervoltage (v : BridgeVolts) (s : State) : Host.Outcome State Fault Refusal :=
  done (supplyMeasured v.bridge v.vbr s)

/-- The bridge-region temperature in °C + 64, as BSTAT.TEMP (R256): above 170 °C OTEMP latches, below 160 °C its cause is
gone, above TWARN EVT.TWARN is set. -/
def temperature (n temp : Nat) (s : State) : State :=
  let s := s.modBrg (·.put (F.BRG_BSTAT_TEMP n) temp)
  let s := if s.brg.get (F.BRG_TEMPCFG_TWARN n) + 64 < temp then s.modBrg (·.put (F.BRG_EVT_TWARN n) 1) else s
  if 234 < temp then s.latchFault n (F.BRG_FLTLAT_OTEMP n) (F.BRG_FLTCAUSE_OTEMP n) 1
  else (if temp < 224 then s.modBrg (·.put (F.BRG_FLTCAUSE_OTEMP n) 0) else s).statusCheck n

def execOvertemperature (n : Fin 8) (temp : BitVec 8) (s : State) : Host.Outcome State Fault Refusal :=
  done (temperature n temp.toNat s)

def execTemperatureWarning (n : Fin 8) (temp : BitVec 8) (s : State) : Host.Outcome State Fault Refusal :=
  done (temperature n temp.toNat s)

/-- BEN_n falls: its low time starts (R258). -/
def execBenFall (n : Fin 8) (s : State) : Host.Outcome State Fault Refusal :=
  done (((s.modBrg (·.put (F.BRG_BSTAT_BEN n) 0)).modUnit n fun x => { x with benLow := true }).statusCheck n)

/-- BEN_n low for more than 200 ns forces rank 1 (R243, R258). -/
def execBenLowTimeout (n : Fin 8) (s : State) : Host.Outcome State Fault Refusal :=
  done (if s.brg.get (F.BRG_BSTAT_BEN n) = 0 then (s.modUnit n fun x => { x with benOff := true }).rankUpdate n else s)

/-- BEN_n rises. After a low of at least 2 µs every latch whose cause is gone clears; what stays counts as
refused (R258). The measured conditions at the edge update FLTCAUSE first. -/
def benRise (n lowNs : Nat) (vbsOk : BitVec 3) (uvOk ovOk tempOk : Bool) (s : State) : State :=
  let s := (s.modBrg (·.put (F.BRG_BSTAT_BEN n) 1)).modUnit n fun x => { x with benLow := false, benOff := false }
  let s :=
    if lowNs < 2000 then s
    else
      let s := s.modUnit n fun x => { x with vbsLow :=
        ⟨x.vbsLow.u && !vbsOk.getLsbD 0, x.vbsLow.v && !vbsOk.getLsbD 1, x.vbsLow.w && !vbsOk.getLsbD 2⟩ }
      let s := s.modBrg fun b =>
        let b := b.put (F.BRG_FLTCAUSE_BOOTUV n) (b.get (F.BRG_FLTCAUSE_BOOTUV n) &&& (7 - vbsOk.toNat))
        let b := if uvOk then b.put (F.BRG_FLTCAUSE_VBRUV n) 0 else b
        let b := if ovOk then b.put (F.BRG_FLTCAUSE_VBROV n) 0 else b
        if tempOk then b.put (F.BRG_FLTCAUSE_OTEMP n) 0 else b
      let lat := s.brg.rd (R.BRG_FLTLAT n)
      let stay := lat &&& s.brg.rd (R.BRG_FLTCAUSE n)
      let s := s.modBrg (·.wr (R.BRG_FLTLAT n) stay)
      let s := if lat ≠ stay then s.modBrg (·.bump (F.BRG_CLRCNT_ACC n) 1) else s
      if stay ≠ 0 then
        (s.modBrg fun b => (b.bump (F.BRG_CLRCNT_REF n) 1).put (F.BRG_EVT_CLRREF n) 1).modUnit n
          fun x => { x with evClrref := true }
      else s
  s.rankUpdate n

def execBenRise (n : Fin 8) (lowNs : Nat) (vbsOk : BitVec 3) (uvOk ovOk tempOk : Bool) (s : State) :
    Host.Outcome State Fault Refusal := done (benRise n lowNs vbsOk uvOk ovOk tempOk s)

/-! ### Access from the lanes (R70) -/

def F.refused (x : Lane) : Fld := byLane x F.BCOM_REFUSED_REFA F.BCOM_REFUSED_REFB

/-- Whether the bridge die accepts a lane's write to a page: none for the common page, else the bridge (R70). -/
def State.brgAccepts (s : State) (l : Lane) (page : Option Nat) : Bool :=
  let dev := s.devState
  if dev = Dev.start ∨ dev = Dev.idle ∨ dev = Dev.parked then true
  else if dev = Dev.drive then
    match page with
    | none => false
    | some n => match s.domainOf n with
      | none => false
      | some d => s.holderOf d = some l
  else false

/-- A write refused: IGNWR of the page and the lane's count (R70). -/
def State.brgRefuse (s : State) (l : Lane) (base : Nat) : State :=
  s.modBrg fun b => (b.put (F.ignWr base) 1).bump (F.refused l) 1

/-- A write of TREQ.KEY (R259): 0x7E81 in DRIVE by the lane that holds the domain applies the terminal state at
the next PWM boundary; in any other state it is ignored with IGNWR. -/
def terminalRequest (l : Lane) (n : Nat) (key : Half) (s : State) : State :=
  if !s.brgAccepts l (some n) then s.brgRefuse l (P.BRG n)
  else if key ≠ 0x7E81 then s
  else if s.devState = Dev.drive then s.modUnit n fun x => { x with treq := true }
  else s.modBrg (·.put (F.ignWr (P.BRG n)) 1)

def execTerminalRequest (l : Lane) (n : Fin 8) (key : Half) (s : State) : Host.Outcome State Fault Refusal :=
  done (terminalRequest l n key s)

/-! ### Selection, orphan timer, PLL, straps -/

/-- Whether the bridge die accepts a SELECT word (R226). -/
def selectOk (expect : Nat) (w : SelectWord) : Bool :=
  w.codes.length == 8 && w.acts.length == 8 && w.codes.all ([3, 5, 6].contains ·) && w.acts.all ([0, 1, 2].contains ·) &&
  w.crcOk && w.seq == expect &&
  ((w.copies == 2 && w.same) || ((w.mask == 1 || w.mask == 2) && w.copies == 1))

/-- The bridge die receives a SELECT word: an accepted one is applied, acknowledged and restarts the orphan
timer (R226, R227). A word with a correct CRC sets the sequence expected next. -/
def selectReceived (w : SelectWord) (s : State) : State :=
  let ok := selectOk s.brg.selExpect w
  let s := s.modBed fun b => { b with selWire := b.selWire.erase w }
  let s := if w.crcOk then s.modBrg fun b => { b with selExpect := (w.seq + 1) % 256 } else s
  if ok then
    let s := s.modBrg fun b => ((b.put F.BCOM_TBSTAT_ARMED 1).put F.BCOM_TBSTAT_HMASK w.mask).count P.BCOM 2
    let s := (List.range 8).foldl (fun (s : State) n => s.applySelection n (w.codes.getD n 3) (w.acts.getD n 1)) s
    s.modBed fun b => { b with ackWire := b.ackWire ++ [(w.seq, w.codes, w.acts)] }
  else s.modBrg (·.count P.BCOM 3)

def execSelectReceived (w : SelectWord) (s : State) : Host.Outcome State Fault Refusal := done (selectReceived w s)

/-- 2 µs without an accepted SELECT latch the orphan state of every bridge (R227, R267). -/
def orphan (s : State) : State :=
  if s.brg.get F.BCOM_TBSTAT_ARMED = 1 ∧ s.brg.get F.BCOM_TBSTAT_ORPHLAT = 0 then
    ((s.modBrg (·.put F.BCOM_TBSTAT_ORPHLAT 1)).bcomIrq).rankAll
  else s

def execOrphanTimeout (s : State) : Host.Outcome State Fault Refusal := done (orphan s)

/-- The straps are latched high only when all 8 samples are high, once per rise of the logic supply (R507). -/
def strapSample (samples : List (BitVec 8)) (s : State) : State :=
  if s.brg.strapped then s
  else
    let v := if samples.length = 8 then samples.foldl (· &&& ·) 0xFF else 0
    (s.modBrg fun b => { b.put F.BCOM_STRAPS_ORPH v.toNat with strapped := true }).rankAll

def execOrphStrapSample (samples : List (BitVec 8)) (s : State) : Host.Outcome State Fault Refusal :=
  done (strapSample samples s)

/-- A loss of PLL lock puts every bridge at rank 2 and raises TBLOCK in both lanes (R243, R267). -/
def pllLoss (s : State) : State :=
  if s.brg.get F.BCOM_TBSTAT_LOCK = 1 then
    let s := s.modBrg fun b => { b.put F.BCOM_TBSTAT_LOCK 0 with pllHold := true }
    (s.bcomIrq.modLanes (·.raise 210)).rankAll
  else s

def execBridgePllLockLoss (s : State) : Host.Outcome State Fault Refusal := done (pllLoss s)

/-- The PLL locks: TBSTAT.LOCK rises; bridges held by an earlier loss wait for the next master boundary (R267). -/
def pllLock (s : State) : State :=
  (s.modBrg fun b => { b.put F.BCOM_TBSTAT_LOCK 1 with locked := true }).bcomIrq.rankAll

def execBridgePllLock (s : State) : Host.Outcome State Fault Refusal := done (pllLock s)

end Sys2Proof.Machine
end

