-- ==== Sys2Proof/Machine/SafetyIO.lean ====
section
/-!
DEFINITION. The machine-safety commands (spec/12_machine_safety_functions.md): filtered inputs,
evaluators, test pulses, reset pulses, the processor path and the safe outputs.
-/
namespace Sys2Proof.Machine
open Sys2Proof

/-- The filtered levels of pair `n`. -/
def State.siA (s : State) (n : Nat) : Bool := s.bed.get (F.BSAFE_SISTAT_A n) == 1
def State.siB (s : State) (n : Nat) : Bool := s.bed.get (F.BSAFE_SISTAT_B n) == 1

def State.inp (s : State) (e : Nat) (second : Bool) : Nat :=
  s.bed.get (if second then F.BSAFE_EVCFG_INP1 e else F.BSAFE_EVCFG_INP0 e)

/-- Levels of an evaluator's pair as its function counts them: for LCURT a channel counts as 0 only after
the off tolerance (R371). -/
def State.evLevels (s : State) (e : Nat) (second : Bool) : Bool × Bool :=
  if s.evType e = 4 then ((s.eval e).osA, (s.eval e).osB)
  else (s.siA (s.inp e second), s.siB (s.inp e second))

/-- A pair of an evaluator is discrepant (R371). Only a two-hand control has a second pair. -/
def State.discrepant (s : State) (e : Nat) (second : Bool) : Bool :=
  let l := s.evLevels e second
  match s.evType e with
  | 1 => !second && l.1 != l.2
  | 2 => !second && l.1 == l.2
  | 3 => l.1 == l.2
  | 4 => !second && l.1 != l.2
  | _ => false

/-- A button of a two-hand control is pressed (R371). -/
def State.pressed (s : State) (e : Nat) (second : Bool) : Bool :=
  let l := s.evLevels e second
  l.1 && !l.2

/-- The run condition (R371, R375). -/
def State.runCond (s : State) (e : Nat) : Bool :=
  let l := s.evLevels e false
  match s.evType e with
  | 1 => l.1 && l.2
  | 2 => l.1 && !l.2
  | 3 => s.pressed e false && s.pressed e true &&
      (match (s.eval e).press0, (s.eval e).press1 with
       | some x, some y => decide (max x y - min x y ≤ 50000)
       | _, _ => false)
  | 4 => l.1 && l.2
  | _ => false

/-- The full-off condition (R371). -/
def State.fullOff (s : State) (e : Nat) : Bool :=
  let l := s.evLevels e false
  let m := s.evLevels e true
  match s.evType e with
  | 1 => !l.1 && !l.2
  | 2 => !l.1 && l.2
  | 3 => !l.1 && l.2 && !m.1 && m.2
  | 4 => !l.1 && !l.2
  | _ => false

/-- One input-driven transition of an evaluator (R374). -/
def State.evStep (s : State) (e : Nat) : State :=
  let st := s.evState e
  let run := s.runCond e
  if st = 1 then
    if s.fullOff e then s.evGo e 2
    else if (s.eval e).fresh ∧ s.evType e ≠ 3 ∧ run then s.evGo e 2 else s
  else if st = 2 then
    if run then (if s.bed.get (F.BSAFE_EVCFG_RSTM e) = 1 ∧ s.evType e ≠ 3 then s.evGo e 3 else s.evGo e 4) else s
  else if st = 3 then if run then s else s.evGo e 1
  else if st = 4 then if run then s else (s.evGo e 1).bbump (F.BSAFE_EVCNT_DEMANDS e) 1
  else s

/-- The transitions of an evaluator while the levels stand as they are: STOP to ARMED to READY or RUN in
successive samples (R374). -/
def State.evSettle (s : State) (e : Nat) : State :=
  let s := s.evStep e
  let s := s.modEval e fun v => { v with fresh := false }
  (s.evStep e).evStep e

/-- The discrepancy timers that run (R372, R390). -/
def State.discRun (s : State) (e : Nat) : State :=
  s.bput (F.BSAFE_EVSTAT_DISCRUN e) (bit (s.discrepant e false || (s.evType e == 3 && s.discrepant e true)))

/-- The counted OSSD levels follow the levels (R371): a channel counts as 1 at once. -/
def State.osLevels (s : State) (e : Nat) : State :=
  let tol := s.bed.get (F.BSAFE_EVOUT_TPTOL e)
  let n := s.inp e false
  let keep := fun (level counted : Bool) => level || (counted && decide (tol ≠ 0))
  s.modEval e fun v => { v with osA := keep (s.siA n) v.osA, osB := keep (s.siB n) v.osB }

/-- An evaluator starts in STOP when evaluation begins, and its first sample follows (R374). -/
def State.evStart (s : State) (e : Nat) : State :=
  if s.evState e = 0 ∧ s.evType e ≠ 0 then
    ((((s.evGo e 1).modEval e fun v => { v with fresh := true }).osLevels e).discRun e).evSettle e
  else s

/-- Evaluation begins: LOADED rises, or the device wakes from PARKED (R367, R374). -/
def State.evaluatorsStart (s : State) : State :=
  s.oneCycle fun s => ((List.range 8).foldl State.evStart s).demandUpdate

/-- PARKED: every evaluator but those in LOCKOUT goes to OFF (R374). -/
def State.evParked (s : State) (e : Nat) : State := if s.evState e = 5 then s else s.evGo e 0

def State.modSafety (s : State) (f : SafetyState → SafetyState) : State :=
  s.modBed fun b => { b with safety := f b.safety }

/-- The TP outputs that feed the channels of pair `n`: TPSELA and TPSELB (R369). -/
def State.tpSel (s : State) (n : Nat) (chB : Bool) : Nat :=
  s.bed.get (if chB then F.BSAFE_SICFG_TPSELB n else F.BSAFE_SICFG_TPSELA n)

/-- Whether a channel's filtered level and mirror are held by an open test-pulse window (R369). -/
def State.windowHeld (s : State) (n : Nat) (chB : Bool) : Bool :=
  s.bed.safety.windows.any fun j => s.tpSel n chB == j + 1

/-- New filtered levels of every pair, held channels excepted. -/
def State.setLevels (s : State) (a b : BitVec 16) : State :=
  (List.range 16).foldl (fun (s : State) n =>
    let s := if s.windowHeld n false then s else s.bput (F.BSAFE_SISTAT_A n) (bit (a.getLsbD n))
    if s.windowHeld n true then s else s.bput (F.BSAFE_SISTAT_B n) (bit (b.getLsbD n))) s

/-- The level of a reset source (R377): 0 is SRST, k is channel A of pair k − 1. -/
def State.rstLevel (s : State) (src : Nat) : Bool := if src = 0 then s.bed.safety.srst else s.siA (src - 1)

/-- Rising edges of the reset sources since the levels `old`. -/
def State.noteRises (s : State) (old : Nat → Bool) (sample : Nat) : State :=
  (List.range 17).foldl (fun (s : State) k =>
    if s.rstLevel k && !old k then
      s.modSafety fun f => { f with rises := Table.set (fun _ => none) f.rises k (some sample) }
    else s) s

/-- The counted OSSD levels and the press instants follow the levels (R371, R375). -/
def State.evInputs (s : State) (e sample : Nat) : State :=
  let s := s.osLevels e
  let press := fun (second : Bool) (p : Option Nat) =>
    if s.evType e = 3 ∧ s.pressed e second then (if p.isSome then p else some sample) else none
  s.modEval e fun v => { v with press0 := press false v.press0, press1 := press true v.press1 }

/-- The lanes' mirrors take the raw levels, those of held channels excepted (R369, R392). -/
def State.mirrorIn (s : State) (rawA rawB : BitVec 16) (rawSrst : Bool) : State :=
  let held := fun (chB : Bool) => BitVec.ofNat 16 ((List.range 16).foldl (fun m n => m + bit (s.windowHeld n chB) * 2 ^ n) 0)
  let pick := fun (h old new : BitVec 16) => (old &&& h) ||| (new &&& ~~~h)
  (s.modSafety fun f => { f with
    mirA := pick (held false) f.mirA rawA, mirB := pick (held true) f.mirB rawB, mirSrst := rawSrst }).mirrors

/-- Bedrock evaluates the safety functions: it runs and its configuration is loaded (R367, R225, R439). -/
def State.evaluates (s : State) : Bool := s.bedrockRuns && s.bed.get F.BSYS_BCFG_LOADED == 1

/-- The safety inputs change (R368, R374, R376): levels, timers, transitions, demand. Bedrock samples and filters whenever it
runs, and evaluates from LOADED on (R367). -/
def safetyInputs (a b : BitVec 16) (srst : Bool) (rawA rawB : BitVec 16) (rawSrst : Bool) (sample : Nat)
    (s : State) : State :=
  let s := s.mirrorIn rawA rawB rawSrst
  if !s.bedrockRuns then s
  else
    let old := s.rstLevel
    let s := (s.setLevels a b).modSafety fun f => { f with srst := srst }
    if !s.evaluates then s
    else s.oneCycle fun s =>
      let s := s.noteRises old sample
      let s := (List.range 8).foldl (fun (s : State) e => ((s.evInputs e sample).discRun e).evSettle e) s
      s.demandUpdate

def execSafetyInputChange (a b : BitVec 16) (srst : Bool) (rawA rawB : BitVec 16) (rawSrst : Bool) (sample : Nat)
    (s : State) : Host.Outcome State Fault Refusal := done (safetyInputs a b srst rawA rawB rawSrst sample s)

/-- A pair discrepant for more than DISC × 10 ms (R372, R386). -/
def discTimeout (e : Nat) (second : Bool) (s : State) : State :=
  if s.evaluates ∧ s.discrepant e second ∧ s.evState e ≠ 0 then s.oneCycle fun s => ((s.bedRaise 24).lockout e 1).demandUpdate
  else s

def execDiscrepancyTimeout (e : Fin 8) (second : Bool) (s : State) : Host.Outcome State Fault Refusal :=
  done (discTimeout e second s)

/-- An OSSD channel low for more than TPTOL counts as 0 (R371). -/
def lcurtOff (e : Nat) (chB : Bool) (s : State) : State :=
  let n := s.inp e false
  if s.evaluates ∧ s.evType e = 4 ∧ !(if chB then s.siB n else s.siA n) then
    let s := s.modEval e fun v => if chB then { v with osB := false } else { v with osA := false }
    ((s.discRun e).evSettle e).demandUpdate
  else s

def execLcurtOffToleranceExpiry (e : Fin 8) (chB : Bool) (s : State) : Host.Outcome State Fault Refusal :=
  done (lcurtOff e chB s)

/-- One button pressed for more than 500 ms while the other is not (R374). -/
def execTwohandTimeout (e : Fin 8) (s : State) : Host.Outcome State Fault Refusal :=
  done (if s.evaluates ∧ s.evState e = 2 ∧ s.evType e = 3 ∧ s.pressed e false ≠ s.pressed e true then (s.evGo e 1).demandUpdate
    else s)

/-- A mask with bit `j` set to `v`. -/
def setMaskBit (m j : Nat) (v : Bool) : Nat := (m &&& (255 - 2 ^ j)) + bit v * 2 ^ j

/-- TP_j is commanded to `v`, and its ball shows `level` (R369, R390, R392). -/
def State.driveTp (s : State) (j : Nat) (v level : Bool) : State :=
  let s := s.bput F.BSAFE_TPSTAT_CMD (setMaskBit (s.bed.get F.BSAFE_TPSTAT_CMD) j v)
  (s.bput F.BSAFE_TPSTAT_RB (setMaskBit (s.bed.get F.BSAFE_TPSTAT_RB) j level)).mirrors

/-- TP_j goes low: the window opens and holds the fed channels (R369). -/
def testPulseStart (j : Nat) (preA preB : BitVec 16) (s : State) : State :=
  if s.evaluates ∧ s.bed.get F.BSAFE_TPCFG_TPEN / 2 ^ j % 2 = 1 then
    (s.driveTp j false false).modSafety fun f => { f with
      windows := insertNat j f.windows, tpPre := Table.set (fun _ => 0) f.tpPre j (preA.toNat + 2 ^ 16 * preB.toNat) }
  else s

def execTestPulseStart (j : Fin 8) (preA preB : BitVec 16) (s : State) : Host.Outcome State Fault Refusal :=
  done (testPulseStart j preA preB s)

/-- The evaluators that name one of these pairs as INP0, INP1 or RSTSRC (R386). -/
def State.namers (s : State) (pairs : List Nat) : List Nat :=
  (List.range 8).filter fun e =>
    s.evType e ≠ 0 && (pairs.contains (s.inp e false) || (s.evType e == 3 && pairs.contains (s.inp e true)) ||
      (let r := s.bed.get (F.BSAFE_EVCFG_RSTSRC e); r ≠ 0 && pairs.contains (r - 1)))

/-- A test fault on channels (2n for A of pair n, 2n + 1 for B): the source, the lockouts, and the channels
that must pass a test before each lockout can end (R386, R387). -/
def State.testFault (s : State) (cause : Nat) (chans : List Nat) : State :=
  if chans = [] then s
  else
    let s := s.bedRaise (if cause = 2 then 25 else 26)
    (s.namers (chans.map (· / 2))).foldl (fun (s : State) e =>
      let own := chans.filter fun c => (s.namers [c / 2]).contains e
      (s.lockout e cause).modEval e fun v => { v with needPass := own.foldl (fun l c => insertNat c l) v.needPass }) s

/-- The end of TP_j's window: TPFAIL, CROSS and passed tests of the channels (R369). A CROSS counts against the test of its own
period, so the windows before the channel's own one are remembered until that test. -/
def testPulseCheck (j : Nat) (lastA lastB endA endB : BitVec 16) (rbFault : Bool) (s : State) : State :=
  if !s.evaluates ∨ !s.bed.safety.windows.contains j then s
  else s.oneCycle fun s =>
    let pre := Table.get (fun _ => 0) s.bed.safety.tpPre j
    let lv := fun (a b : BitVec 16) (c : Nat) => if c % 2 = 1 then b.getLsbD (c / 2) else a.getLsbD (c / 2)
    let wasHigh := fun c => pre / 2 ^ (c / 2 + 16 * (c % 2)) % 2 == 1
    let sel := fun c => s.tpSel (c / 2) (c % 2 == 1)
    let fed := (List.range 32).filter fun c => sel c == j + 1
    let failed := fed.filter fun c => wasHigh c && lv lastA lastB c
    let cross := (List.range 32).filter fun c =>
      sel c ≠ 0 && sel c ≠ j + 1 && wasHigh c && !(lv lastA lastB c) && lv endA endB c
    let passed := fed.filter fun c => wasHigh c && !(lv lastA lastB c) && !(s.bed.safety.crossed.contains c) && !rbFault
    let before := cross.filter fun c => j + 1 < sel c
    let s := (s.driveTp j true (!rbFault)).modSafety fun f => { f with
      windows := f.windows.filter (· ≠ j)
      crossed := before.foldl (fun l c => insertNat c l) (f.crossed.filter fun c => !fed.contains c) }
    let s := (List.range 8).foldl (fun (s : State) e =>
      s.modEval e fun v => { v with needPass := v.needPass.filter fun c => !passed.contains c }) s
    let s := s.testFault 2 (if rbFault then fed else failed)
    let s := s.testFault 3 cross
    s.demandUpdate

def execTestPulseCheck (j : Fin 8) (lastA lastB endA endB : BitVec 16) (rbFault : Bool) (s : State) :
    Host.Outcome State Fault Refusal := done (testPulseCheck j lastA lastB endA endB rbFault s)

/-- Whether a recorded cause of an evaluator's lockout is gone (R387). -/
def State.causeGone (s : State) (e : Nat) (rbOk : BitVec 8) (cause : Nat) : Bool :=
  let mask := s.bed.get (F.BSAFE_EVOUT_OUTMASK e)
  match cause with
  | 1 => !s.discrepant e false && !(s.evType e == 3 && s.discrepant e true)
  | 2 => (s.eval e).needPass.isEmpty
  | 3 => (s.eval e).needPass.isEmpty
  | 4 => and8 mask rbOk.toNat == mask
  | 5 => and8 (s.bed.get F.BSAFE_PSTAT_DMD) mask == 0
  | _ => false

/-- A reset pulse ends at a falling edge of its source (R377, R387). `rbOk` names the outputs whose readback
has equalled its command for at least 10 ms. Channel A of a pair that no evaluator uses as reset source makes no reset pulse. -/
def resetPulse (src sample : Nat) (rbOk : BitVec 8) (s : State) : State :=
  let users := (List.range 8).filter fun e => s.evType e ≠ 0 && s.bed.get (F.BSAFE_EVCFG_RSTSRC e) == src
  if !s.evaluates ∨ (src ≠ 0 ∧ users = []) then s
  else s.oneCycle fun s =>
    let rise := Table.get (fun _ => none) s.bed.safety.rises src
    let s := s.modSafety fun f => { f with rises := Table.set (fun _ => none) f.rises src none }
    let valid := match rise with
      | none => false
      | some r => decide (30000 ≤ sample - r ∧ sample - r ≤ 300000)
    if !valid then s.bbump F.BSAFE_RSTCNT_BADLEN 1
    else
      let locked := users.filter fun e => s.evState e == 5
      let clear := fun (s : State) e => (s.eval e).causes.all (s.causeGone e rbOk)
      let refused := decide (s.devState = Dev.safe) || locked.any fun e => !clear s e
      let acts := users.filter fun e => s.evState e == 3 || (s.evState e == 5 && clear s e)
      let s := if refused then s.bbump F.BSAFE_RSTCNT_REFUSED 1 else s
      if s.devState = Dev.safe ∨ acts = [] then s
      else
        let s := acts.foldl (fun (s : State) e =>
          if s.evState e = 3 then s.evGo e 4
          else ((s.evGo e 1).bput (F.BSAFE_EVSTAT_CAUSE e) 0).modEval e fun v => { v with causes := [] }) s
        let s := (s.bbump F.BSAFE_RSTCNT_ACC 1).irqPulseBoth P.BSAFE (mbit 16)
        let s := acts.foldl (fun (s : State) e => s.evSettle e) s
        s.demandUpdate

def execResetPulseEnd (src : Fin 17) (sample : Nat) (rbOk : BitVec 8) (s : State) :
    Host.Outcome State Fault Refusal := done (resetPulse src sample rbOk s)

/-- Bedrock receives a lane's demand word (R380, R381). -/
def State.acceptDemand (s : State) (x : Lane) (v : Word) : State :=
  let dmd := getBits v 0 8
  let inh := getBits v 16 8
  if !s.bedrockRuns then s
  else if getBits v 8 8 ≠ not8 dmd ∨ getBits v 24 8 ≠ not8 inh then s.bedRaise 31
  else
    let hw := s.bed.get F.BSAFE_SOSTAT_HWDMD
    let s := s.setPath x ⟨dmd, inh, (s.path x).joinOk || dmd == hw, true⟩
    let s := if s.laneStatus x = Stat.up then s.bput (F.cur x) 1 else s
    s.pathUpdate.outputUpdate

/-- A write of SYS.SDEMAND: the register, then Bedrock (R380, R392). -/
def sdemandWrite (x : Lane) (v : Word) (parityOk : Bool) (s : State) : State :=
  if parityOk then
    let s := s.modLane x fun l => (l.regWrite R.SYS_SDEMAND v).1
    s.acceptDemand x ((s.lane x).rd R.SYS_SDEMAND)
  else s.modLane x fun l => l.writeRefused R.SYS_SDEMAND

def execSdemandWrite (l : Lane) (g : Agent) (v : Word) (parityOk : Bool) (s : State) :
    Host.Outcome State Fault Refusal :=
  done ((sdemandWrite l v parityOk s).modLane l (·.respond g .done))

/-- A lane's last accepted word becomes older than DMDTMO (R380, R381). -/
def demandTimeout (x : Lane) (s : State) : State :=
  if !s.bedrockRuns then s
  else
    let s := s.setPath x { s.path x with live := false }
    if s.bed.get (F.cur x) = 1 then s.loseCurrent x else s

def execDemandTimeout (l : Lane) (s : State) : Host.Outcome State Fault Refusal := done (demandTimeout l s)

/-- Joined lanes whose demand bits for output `k` differ: the one that deviates from the hardwired demand
leaves the join with LANEDIS raised against it (R381). -/
def laneDiscrepancy (k : Nat) (s : State) : State :=
  let b := fun m => m / 2 ^ k % 2
  if s.bedrockRuns ∧ s.bed.get (F.joined .A) = 1 ∧ s.bed.get (F.joined .B) = 1 ∧ b s.bed.safety.pathA.dmd ≠ b s.bed.safety.pathB.dmd then
    let hw := b (s.bed.get F.BSAFE_SOSTAT_HWDMD)
    let x : Lane := if b s.bed.safety.pathA.dmd ≠ hw then .A else .B
    ((((s.leaveJoin x).bput (F.ldis x) 1).bedRaiseFor 29 x).pathUpdate).outputUpdate
  else s

def execLaneDiscrepancyTimeout (k : Fin 8) (s : State) : Host.Outcome State Fault Refusal :=
  done (laneDiscrepancy k s)

/-- A fault of output `k` locks out every evaluator that serves it (R386). -/
def State.outputFault (s : State) (k src cause : Nat) : State :=
  s.oneCycle fun s =>
  let s := s.bedRaise src
  let s := (List.range 8).foldl (fun (s : State) e =>
    if s.bed.get (F.BSAFE_EVOUT_OUTMASK e) / 2 ^ k % 2 = 1 then s.lockout e cause else s) s
  s.demandUpdate

/-- Combined and hardwired demand of output `k` differ for PATHTOL with a lane joined (R381). -/
def execPathDiscrepancyTimeout (k : Fin 8) (s : State) : Host.Outcome State Fault Refusal :=
  done (if s.bedrockRuns ∧ (s.bed.get (F.joined .A) = 1 ∨ s.bed.get (F.joined .B) = 1) ∧
      s.bed.get F.BSAFE_PSTAT_DMD / 2 ^ k.val % 2 ≠ s.bed.get F.BSAFE_SOSTAT_HWDMD / 2 ^ k.val % 2 then
      s.outputFault k 28 5
    else s)

/-- A safe output channel reads back as `level` (R383, R390), and its mirrors with it (R392). -/
def State.readBack (s : State) (k : Nat) (chB level : Bool) : State :=
  let f := if chB then F.BSAFE_SOSTAT_RBB else F.BSAFE_SOSTAT_RBA
  (s.bput f (setMaskBit (s.bed.get f) k level)).mirrors

/-- A pulse of a high safe output channel; a readback high in its last sample is OUTRB (R383). -/
def execSafeOutputTestPulse (k : Fin 8) (chB : Bool) (readbackHigh : Bool) (s : State) :
    Host.Outcome State Fault Refusal :=
  done (if s.bedrockRuns ∧ s.bed.get F.BSAFE_SOSTAT_CMD / 2 ^ k.val % 2 = 1 ∧ s.bed.get F.BSAFE_SOTCFG_SOTPER ≠ 0 ∧ readbackHigh then
      (s.readBack k chB true).outputFault k 27 4
    else s)

/-- A channel has read back as `level` for more than 5 samples: a fault where its command differs (R383). -/
def execOutputReadbackFault (k : Fin 8) (chB : Bool) (level : Bool) (s : State) :
    Host.Outcome State Fault Refusal :=
  done (if !s.bedrockRuns then s
    else
      let t := s.readBack k chB level
      if bit level = s.bed.get F.BSAFE_SOSTAT_CMD / 2 ^ k.val % 2 then t else t.outputFault k 27 4)

end Sys2Proof.Machine
end

