-- ==== Sys2Proof/Machine/Lease.lean ====
section
/-!
DEFINITION. Bedrock's commands (spec/07_authority_lease_and_failover.md): lane status, the BREQ requests
(spec/02_address_map_and_register_pages.md R72 to R74), the domain state machine, selection words, halves and
supplies.
-/
namespace Sys2Proof.Machine
open Sys2Proof

/-- A write of a per-lane register of a Bedrock page, that is of the BREQ mailbox or of the lane's copy of an
interrupt register (R71, R72); a clamp is recorded in the page's header, the lane's own for the mailbox, and raises the
page's Bedrock CONFIG source. -/
def State.bedLaneWrite (s : State) (x : Lane) (a : Nat) (w : Word) : State × Word :=
  let b := pageOf a * 0x1000
  let old := (s.lane x).rd a
  let r := (s.lane x).regs.write a w ⟨false, false, 0, 0, false⟩
  let mail := decide (pageOf a = 0x50005)
  let s := s.modLane x fun l => (if mail then { l with regs := r.file } else l.wr a (r.file.rd a)).headerEffect a r.eff old
  let s :=
    if r.clamped = 0 then s
    else
      let s := if mail then s.modLane x (·.irqRise b (mbit 31))
        else (s.modBed fun d => { d with regs := d.regs.clampLog a w r.lsb r.clamped }).irqLevelBoth b 31 true
      s.bedRaise (getBits (s.bed.rd (b + 0x028)) 0 8)
  (s, r.eff)

def F.reqAccepted : Fld := ⟨R.BREQ_REQCNT, 0, 16⟩
def F.reqDropped : Fld := ⟨R.BREQ_REQCNT, 16, 16⟩

def State.request (s : State) (x : Lane) : Option Request := byLane x s.bed.reqA s.bed.reqB
def State.setRequest (s : State) (x : Lane) (r : Option Request) : State :=
  s.modBed fun b =>
    match x with
    | .A => { b with reqA := r }
    | .B => { b with reqB := r }

/-- A write of REQCMD (R73): captured with its arguments, or dropped while BUSY. -/
def State.reqcmdWrite (s : State) (x : Lane) (v : Word) : State :=
  if !s.bedrockRuns ∨ !(s.lane x).alive then s
  else if (s.lane x).get F.BREQ_REQSTAT_BUSY = 1 then
    (s.modLane x (·.bump F.reqDropped 1)).bput (F.ignWr P.BSYS) 1
  else
    let r := s.bedLaneWrite x R.BREQ_REQCMD v
    let s := r.1
    let l := s.lane x
    let q : Request :=
      { op := getBits r.2 0 8, arg := getBits r.2 8 8, tag := getBits r.2 16 4, d0 := l.rd R.BREQ_REQDATA_0
        d1 := l.rd R.BREQ_REQDATA_1, behind := (s.request x.peer).isSome }
    (s.modLane x fun l => (((l.put F.BREQ_REQSTAT_BUSY 1).put F.BREQ_REQSTAT_OP q.op).put F.BREQ_REQSTAT_TAG q.tag).bump
      F.reqAccepted 1).setRequest x (some q)

def execReqcmdWrite (x : Lane) (g : Agent) (v : Word) (s : State) : Host.Outcome State Fault Refusal :=
  done ((s.reqcmdWrite x v).modLane x (·.respond g (if s.bedrockRuns then .done else .error)))

/-- Result codes of R72. -/
def Res.ok : Nat := 1
def Res.state : Nat := 2
def Res.arg : Nat := 3
def Res.auth : Nat := 4

/-- Bedrock posts the result of a lane's request (R73). -/
def State.postResult (s : State) (x : Lane) (res : Nat) : State :=
  (s.modLane x fun l => (l.put F.BREQ_REQSTAT_RESULT res).put F.BREQ_REQSTAT_BUSY 0).setRequest x none

/-- Domains named by a mask. -/
def domsOf (m : Nat) : List Nat := (List.range 8).filter fun d => m / 2 ^ d % 2 = 1

/-- The domains that a request concerns, as a mask (R74, R219). -/
def Request.doms (r : Request) : Nat :=
  if 1 ≤ r.op ∧ r.op ≤ 3 then r.arg else if r.op = 4 ∨ r.op = 5 ∨ r.op = 9 then 255 else 0

/-- Whether Lane A's request comes first: it waited when Lane B's was captured, and both concern a domain (R74). -/
def State.mustWait (s : State) (x : Lane) (r : Request) : Bool :=
  match x, s.bed.reqA with
  | .B, some q => r.behind && decide (q.doms &&& r.doms ≠ 0)
  | _, _ => false

/-- Bedrock acts on the captured request of a lane when it is of code `op` (R74), in the order of R222. -/
def State.serve (s : State) (x : Lane) (op : Nat) (f : State → Request → State × Nat) : State :=
  match s.request x with
  | none => s
  | some r =>
    if r.op ≠ op ∨ !s.bedrockRuns ∨ s.mustWait x r then s
    else
      let o := f s.settle r
      o.1.postResult x o.2

/-- A lane's Strata-synchronised flag (R326). -/
def LaneState.netSync (l : LaneState) : Bool := (List.range 2).any fun p => l.get (F.STR_PSTAT_STATE p) == 4

/-- The health vote of a captured RENEW or STANDBY (R217): RSEQ follows, a negative vote is counted and raised. -/
def State.vote (s : State) (x : Lane) (r : Request) : State × Bool :=
  let next := (s.bed.get (F.rseq x) + 1) % 2 ^ 32
  let seqOk := decide (r.d1.toNat = next)
  let pos := decide (r.d0 = 0x936C6C93) && seqOk && s.laneStatus x == Stat.up && s.capable x &&
    (s.bed.get F.BSYS_BCFG_NETVOTE == 0 || (s.lane x).netSync)
  let s := if seqOk then s.bput (F.rseq x) next else s
  (if pos then s else (s.bbump (F.neg x) 1).bedRaise (14 + x.num), pos)

/-- A negative vote ends standby-readiness for every domain named (R218, R219). -/
def State.voteLost (s : State) (x : Lane) (doms : List Nat) (pos : Bool) : State :=
  if pos then s else doms.foldl (fun (s : State) d => s.setReady x d false) s

/-- RENEW (R219). -/
def State.renew (s : State) (x : Lane) (r : Request) : State × Nat :=
  let (s, pos) := s.vote x r
  let doms := domsOf r.arg
  let was := doms.filter fun d => s.ready x d
  let s := s.voteLost x doms pos
  if s.devState = Dev.safe then (s, Res.state)
  else if r.arg = 0 then (s, Res.arg)
  else if s.devState ≠ Dev.drive then (s, Res.state)
  else
    let now := s.nowUs
    let s := doms.foldl (fun (s : State) d =>
      let s := s.setNeg x d (!pos)
      if s.holderOf d = some x ∧ s.domState d = Dom.held ∧ pos then
        s.modBed fun b => { b with leaseAt := Table.set (fun _ => 0) b.leaseAt d now }
      else s) s
    let bad := doms.any fun d => decide (s.holderOf d ≠ some x) && !was.contains d
    (s.diagAll, if bad then Res.auth else Res.ok)

/-- STANDBY (R218, R219). -/
def State.standby (s : State) (x : Lane) (r : Request) : State × Nat :=
  let (s, pos) := s.vote x r
  let doms := domsOf r.arg
  let s := s.voteLost x doms pos
  if s.devState = Dev.safe then (s, Res.state)
  else if r.arg = 0 then (s, Res.arg)
  else if (s.devState ≠ Dev.idle ∧ s.devState ≠ Dev.drive) ∨ !pos then (s, Res.state)
  else
    let diag := doms.any fun d => s.selfDiag x d
    let holds := doms.any fun d => decide (s.holderOf d = some x)
    let s := doms.foldl (fun (s : State) d =>
      if s.selfDiag x d ∨ s.holderOf d = some x then s else (s.setReady x d true).gapCheck d) s
    (s.diagAll, if diag then Res.state else if holds then Res.auth else Res.ok)

/-- RELEASE (R219). -/
def State.release (s : State) (x : Lane) (r : Request) : State × Nat :=
  if s.devState = Dev.safe then (s, Res.state)
  else if r.arg = 0 then (s, Res.arg)
  else if s.devState ≠ Dev.drive then (s, Res.state)
  else
    let doms := domsOf r.arg
    let mine := fun (s : State) d => decide (s.domState d = Dom.held) && decide (s.holder d = x)
    let auth := doms.any fun d => !mine s d
    let unready := doms.any fun d => mine s d && !s.ready x.peer d
    let s := doms.foldl (fun (s : State) d => if mine s d && s.ready x.peer d then s.enterBreak d 2 else s) s
    (s, if auth then Res.auth else if unready then Res.state else Res.ok)

/-- DRIVE_ON (R219, R437). -/
def State.driveOn (s : State) : State × Nat :=
  let doms := (List.range 8).filter fun d => !(s.domBridges d).isEmpty
  if s.devState ≠ Dev.idle ∨ doms.any (fun d => !s.ready .A d && !s.ready .B d) then (s, Res.state)
  else
    let s := doms.foldl (fun (s : State) d =>
      let p := laneOf (s.bed.get (F.BLEASE_LCFG_PREF d))
      s.enterMake d (if s.ready p d then p else p.peer)) s
    let s := s.modLanes (·.put F.PWR_PSTAT_CONSENT 0)
    ((s.setDev Dev.drive).outputUpdate, Res.ok)

/-- DRIVE_OFF (R219): every domain to IDLE, CLEAR to every bridge, hold counts and terminal flags cleared. -/
def State.driveOff (s : State) : State × Nat :=
  if s.devState ≠ Dev.drive then (s, Res.state)
  else
    let s := (List.range 8).foldl (fun (s : State) d =>
      let s := if (s.holderOf d).isSome then s.leaseTrigger d else s
      let s := ((s.bput (F.BLEASE_LSTAT_STATE d) Dom.idle).bput (F.BLEASE_LSTAT_HOLDER d) 0).setHand d false
      let s := if s.bed.get (F.BLEASE_HOLD_COUNT d) = 0 then s else s.bput (F.BLEASE_HOLD_COUNT d) 0
      let s := (s.bput (F.BLEASE_HOLD_TERM d) 0).bput (F.BLEASE_HOLD_TSTATE d) 0
      (s.setReady .A d false).setReady .B d false) s
    (((s.setDev Dev.idle).outputUpdate).sendSelect, Res.ok)

/-- NOP to GO_SAFE: Bedrock acts on a captured request (R72, R74, R219, R412, R437). -/
def execNop (x : Lane) (s : State) : Host.Outcome State Fault Refusal := done (s.serve x 0 fun s _ => (s, Res.ok))
def execRenew (x : Lane) (s : State) : Host.Outcome State Fault Refusal := done (s.serve x 1 fun s r => s.renew x r)
def execRelease (x : Lane) (s : State) : Host.Outcome State Fault Refusal := done (s.serve x 2 fun s r => s.release x r)
def execStandby (x : Lane) (s : State) : Host.Outcome State Fault Refusal := done (s.serve x 3 fun s r => s.standby x r)
def execDriveOn (x : Lane) (s : State) : Host.Outcome State Fault Refusal := done (s.serve x 4 fun s _ => s.driveOn)
def execDriveOff (x : Lane) (s : State) : Host.Outcome State Fault Refusal := done (s.serve x 5 fun s _ => s.driveOff)

/-- PARK (R437): the consent is recorded in IDLE. -/
def execPark (x : Lane) (s : State) : Host.Outcome State Fault Refusal :=
  done (s.serve x 6 fun s _ =>
    if s.devState = Dev.idle then (s.modLane x (·.put F.PWR_PSTAT_CONSENT 1), Res.ok) else (s, Res.state))

def execFaultAck (x : Lane) (s : State) : Host.Outcome State Fault Refusal :=
  done (s.serve x 7 fun s r => if s.devState = Dev.safe then (s, Res.state) else s.bedAckOp r.d0.toNat)
def execFaultClear (x : Lane) (s : State) : Host.Outcome State Fault Refusal :=
  done (s.serve x 8 fun s r => if s.devState = Dev.safe then (s, Res.state) else s.bedClearOp r.d0.toNat)

/-- GO_SAFE (R219, R233). -/
def execGoSafe (x : Lane) (s : State) : Host.Outcome State Fault Refusal :=
  done (s.serve x 9 fun s _ =>
    if s.devState = Dev.idle ∨ s.devState = Dev.drive then (s.deviceSafe 1, Res.ok) else (s, Res.state))

/-! ### Lane status -/

/-- Whether the lane's power and clock controller sends a heartbeat (R215, R469, R509). -/
def LaneState.heartbeat (l : LaneState) : Bool :=
  l.alive && l.power.feedOn && decide (l.power.boot ≠ .service) && !l.power.kilnWire

/-- Bedrock sees a lane's heartbeat: OFF, LOST and EXCLUDED go to BOOT (R215). -/
def State.heartbeatSeen (s : State) (x : Lane) : State :=
  let st := s.laneStatus x
  if (s.lane x).heartbeat ∧ (st = Stat.off ∨ st = Stat.lost ∨ st = Stat.excluded) then s.setStatus x Stat.boot 0 else s

def execLaneHeartbeatStart (x : Lane) (s : State) : Host.Outcome State Fault Refusal := done (s.heartbeatSeen x)

/-- HEARTBEAT_MISSING (R215): no heartbeat is watched in PARKED (R439). -/
def execHeartbeatMissing (x : Lane) (s : State) : Host.Outcome State Fault Refusal := done (s.laneLost x 3)

/-- START_TIMEOUT (R470). -/
def execStartTimeout (s : State) : Host.Outcome State Fault Refusal := done (s.startExit true)

/-- KILN_FAIL_WIRE (R215, R469). -/
def execKilnFailWire (x : Lane) (s : State) : Host.Outcome State Fault Refusal :=
  done (if (s.lane x).power.kilnWire ∧ s.laneStatus x = Stat.boot then s.setStatus x Stat.excluded 0 else s)

/-- LANE_DOWN_FLAG (R215, R407). -/
def execLaneDownFlag (x : Lane) (s : State) : Host.Outcome State Fault Refusal :=
  done (if (s.lane x).col.laneDown then s.laneLost x 2 else s)

/-! ### Domains -/

/-- LEASE_EXPIRY (R221). -/
def execLeaseExpiry (d : Fin 8) (s : State) : Host.Outcome State Fault Refusal :=
  done (if s.domState d.val = Dom.held ∧ s.bedrockRuns then s.enterBreak d.val 1 else s)

/-- STANDBY_READY_EXPIRY (R218). -/
def execStandbyReadyExpiry (x : Lane) (d : Fin 8) (s : State) : Host.Outcome State Fault Refusal :=
  done (if s.bedrockRuns then s.setReady x d.val false else s)

/-- SELF_DIAGNOSIS_RISE (R218, R221): a flag that rises ends readiness and may revoke the lease. -/
def execSelfDiagnosisRise (x : Lane) (d : Fin 8) (s : State) : Host.Outcome State Fault Refusal :=
  done (if s.selfDiag x d.val ∧ s.bedrockRuns then (s.setReady x d.val false).diagCheck d.val else s)

/-- Whether the acknowledged word, of sequence number `q`, names the present selection of domain `d`: it was sent no
earlier than the first word that does, and its codes and actions are those of the domain's bridges (R221, R226). -/
def State.ackNames (s : State) (q : Nat) (codes acts : List Nat) (d : Nat) : Bool :=
  decide ((q + 256 - Table.get (fun _ => 0) s.bed.domSeq d) % 256 < 128) &&
    (s.domBridges d).all fun n => decide (s.domainOf n ≠ some d ∨ (codes.getD n 0, acts.getD n 0) = s.selection n)

/-- What the acknowledgement of its present selection does to one domain (R221). -/
def State.ackDomain (s : State) (cycles d : Nat) : State :=
  if s.domState d = Dom.brk then
    let y := (laneOf (s.bed.get (F.BLEASE_LLAST_FROM d))).peer
    if s.ready y d then s.enterMake d y else s.enterGap d
  else if s.domState d = Dom.make then s.enterHeld d cycles
  else s

/-- SELECT_ACK (R221, R226): the echo of an accepted word comes back and moves the domains whose present selection it
names; `cycles` are the durations of the handovers it ends, by domain (R224). Earlier echoes on the wire came before it. -/
def selectAck (codes acts : List Nat) (cycles : List Nat) (s : State) : State :=
  match s.bed.ackWire.find? fun e => decide (e.2 = (codes, acts)) with
  | none => s
  | some e =>
    let s := s.modBed fun b => { b with ackWire := dropThrough (fun f => decide (f.2 = (codes, acts))) b.ackWire }
    if s.bedrockRuns then
      let s := s.modBed fun b => { b with selOut := b.selOut.filter fun w => decide (w.seq ≠ e.1) }
      let doms := (List.range 8).filter fun d => s.ackNames e.1 codes acts d
      (doms.foldl (fun (s : State) d => s.ackDomain (cycles.getD d 0) d) s).diagAll
    else s

def execSelectAck (codes acts : List Nat) (cycles : List Nat) (s : State) : Host.Outcome State Fault Refusal :=
  done (s.oneCycle (selectAck codes acts cycles))

/-- SELECT_REPEAT (R224): a word not acknowledged within 12 cycles is sent again. -/
def execSelectRepeat (s : State) : Host.Outcome State Fault Refusal :=
  done (if s.bed.selOut.isSome ∧ s.bedrockRuns then s.sendSelect else s)

/-- SELECT_PERIODIC (R226). -/
def execSelectPeriodic (s : State) : Host.Outcome State Fault Refusal :=
  done (if s.bedrockRuns then s.sendSelect else s)

/-- SELECT_TIMEOUT (R233): no acknowledgement within 64 Bedrock cycles. -/
def execSelectTimeout (s : State) : Host.Outcome State Fault Refusal :=
  done (if s.bed.selOut.isSome ∧ s.bedrockRuns then s.deviceSafe 5 else s)

/-! ### Halves and supplies -/

/-- A half retires (R225): its bit, its interrupt and its source; nothing drives the outputs once both have. -/
def State.retire (s : State) (h : Nat) : State :=
  let f := if h = 0 then F.BSYS_DEVSTAT_H0OK else F.BSYS_DEVSTAT_H1OK
  if s.bed.get f = 0 then s
  else (((s.bput f 0).irqPulseBoth P.BSYS (mbit 3)).bedRaise (6 + h)).outputUpdate

/-- BEDROCK_HALF_RETIRE (R225). -/
def execBedrockHalfRetire (h0 h1 : Bool) (s : State) : Host.Outcome State Fault Refusal :=
  done (if s.bed.on then
      let s := if h0 then s.retire 0 else s
      if h1 then s.retire 1 else s
    else s)

/-- A feed's or gate supply's bit of DEVSTAT changes, with the pulse of R240. -/
def State.setSupply (s : State) (f : Fld) (v : Bool) : State :=
  if s.bed.get f = bit v then s else (s.bput f (bit v)).irqPulseBoth P.BSYS (mbit 2)

/-- Bedrock and the bridge-die logic switch to the feed of lane `x` (R230). -/
def State.switchOver (s : State) (x : Lane) : State :=
  if s.bed.get F.BSYS_DEVSTAT_SUPSEL = x.num then s
  else (s.setSupply F.BSYS_DEVSTAT_SUPSEL (x.num == 1)).bbump F.BSYS_SUPCNT_SWITCH 1

/-- A feed falls below its undervoltage threshold (R215, R230, R452). -/
def State.feedUvFall (s : State) (x : Lane) : State :=
  if !(s.lane x).power.feedUv then s
  else
    let s := s.modLane x fun l => { l with power := { l.power with feedUv := false } }
    let s := ((s.setSupply (F.feed x) false).bedRaise (2 + x.num)).laneLost x 1
    let s := if s.bed.get F.BSYS_DEVSTAT_SUPSEL = x.num ∧ (s.lane x.peer).power.feedUv then s.switchOver x.peer else s
    s.laneReset x Rst.feedloss 0

def execFeedUndervoltageFall (x : Lane) (s : State) : Host.Outcome State Fault Refusal := done (s.feedUvFall x)

/-- FEED_UNDERVOLTAGE_RISE (R230, R452): the lane may be released from its reset from now. -/
def execFeedUndervoltageRise (x : Lane) (s : State) : Host.Outcome State Fault Refusal :=
  done (if (s.lane x).power.feedUv ∨ !(s.lane x).power.feedOn then s
    else
      let s := s.modLane x fun l => { l with power := { l.power with feedUv := true } }
      let s := s.setSupply (F.feed x) true
      if (s.lane x.peer).power.feedUv then s else s.switchOver x)

/-- The device goes to OFF (R43): Bedrock and the bridge die are unpowered; the gate supplies' levels remain. -/
def State.deviceOff (s : State) : State :=
  let va := s.bed.get (F.vgd .A)
  let vb := s.bed.get (F.vgd .B)
  let bed := ({ BedState.reset with on := false }.wr R.BSYS_DEVSTAT 0x03000000)
  let s := s.modLanes fun l => { l with regs := l.regs.clear fun a => decide (0x50000 ≤ pageOf a) && decide (pageOf a < 0x60000) }
  { s with bed := (bed.put (F.vgd .A) va).put (F.vgd .B) vb, brg := .reset }

/-- FEED_POWER_ON_FALL (R43, R435): the lane is unpowered. -/
def execFeedPowerOnFall (x : Lane) (s : State) : Host.Outcome State Fault Refusal :=
  done (if !(s.lane x).power.feedOn then s
    else
      let s := s.feedUvFall x
      let s := s.modLane x fun l => { l with power := { l.power with feedOn := false, railsOff := true } }
      if (s.lane x.peer).power.feedOn then s else s.deviceOff)

/-- FEED_POWER_ON_RISE (R43, R214, R452, R509): a POR of the lane; from OFF, Bedrock and the bridge die start.
`tst` and `tstd` are the levels of the lane's and of Bedrock's production-test ball. -/
def execFeedPowerOnRise (x : Lane) (tst tstd : Bool) (s : State) : Host.Outcome State Fault Refusal :=
  done (if (s.lane x).power.feedOn then s
    else
      let s := if s.bed.on then s
        else
          let b := (((s.bed.wr R.BSYS_DEVSTAT 0x03000001).put (F.vgd .A) (s.bed.get (F.vgd .A))).put (F.vgd .B)
            (s.bed.get (F.vgd .B))).put F.BSYS_DEVSTAT_SUPSEL x.num
          { s with bed := { b with on := true, tstd := tstd }, brg := .reset }
      let s := s.laneReset x Rst.por 0
      s.modLane x fun l => { l with power := { l.power with
        feedOn := true
        feedUv := false
        railsOff := false
        tst := tst } })

/-- GATE_SUPPLY_FALL (R231, R243). -/
def execGateSupplyFall (x : Lane) (s : State) : Host.Outcome State Fault Refusal :=
  done (if s.bed.get (F.vgd x) = 0 then s
    else if !s.bed.on then s.bput (F.vgd x) 0
    else (((s.setSupply (F.vgd x) false).bedRaise (4 + x.num)).bbump F.BSYS_SUPCNT_VGDLOSS 1).rankAll)

/-- GATE_SUPPLY_RISE (R231). -/
def execGateSupplyRise (x : Lane) (s : State) : Host.Outcome State Fault Refusal :=
  done (if !s.bed.on then s.bput (F.vgd x) 1 else (s.setSupply (F.vgd x) true).rankAll)

/-- GATE_SUPPLIES_LOST_TIMEOUT (R231): both below their threshold for 1 µs. -/
def execGateSuppliesLostTimeout (s : State) : Host.Outcome State Fault Refusal :=
  done (if s.noGateSupply then s.deviceSafe 4 else s)

end Sys2Proof.Machine
end

