-- ==== Sys2Proof/Machine/Kiln.lean ====
section
/-!
DEFINITION. The Kiln record (spec/16_startup_and_shutdown_test.md R476, R477) and the course of a Kiln portion.
-/
namespace Sys2Proof.Machine
open Sys2Proof

/-- Record states (R476). -/
def KSt.none : Nat := 0
def KSt.running : Nat := 1
def KSt.incomplete : Nat := 2
def KSt.passed : Nat := 3
def KSt.failed : Nat := 4
def KSt.stale : Nat := 5

/-- The 32 words of record copy `c`. -/
def LaneState.krecCopy (l : LaneState) (c : Nat) : List Word :=
  (List.range 32).map fun i => l.word (0x1000 + 0x80 * c + 4 * i)

/-- A copy is valid (R477). -/
def krecValid (ws : List Word) : Bool :=
  decide (ws.getD 0 0 = 0x4B4C4E31) && decide (ws.getD 31 0 = crc32c ((ws.take 31).flatMap wordBytes))

/-- The valid copy with the higher SEQ (R477). -/
def LaneState.krecBest (l : LaneState) : Option Nat :=
  let a := l.krecCopy 0
  let b := l.krecCopy 1
  if krecValid a then
    if krecValid b ∧ (a.getD 1 0).toNat < (b.getD 1 0).toNat then some 1 else some 0
  else if krecValid b then some 1 else none

/-- The record as a reader takes it; all zero, that is NONE, when no copy is valid. -/
def LaneState.krec (l : LaneState) : List Word :=
  match l.krecBest with
  | some c => l.krecCopy c
  | none => List.replicate 32 0

def krecState (ws : List Word) : Nat := getBits (ws.getD 2 0) 0 3
/-- The result of slice `i`: 0 NOTRUN, 1 PASS, 2 FAIL; 3 reads as FAIL (R476). -/
def krecSlice (ws : List Word) (i : Nat) : Nat := min 2 (getBits (ws.getD (4 + i / 16) 0) (2 * (i % 16)) 2)
def krecSetSlice (ws : List Word) (i v : Nat) : List Word :=
  ws.set (4 + i / 16) (setBits (ws.getD (4 + i / 16) 0) (2 * (i % 16)) 2 v)
def krecSetState (ws : List Word) (v : Nat) : List Word := ws.set 2 (BitVec.ofNat 32 v)
/-- Every slice NOTRUN and no failure recorded. -/
def krecClear (ws : List Word) : List Word :=
  (((((ws.set 4 0).set 5 0).set 6 0).set 7 0).set 8 0).set 9 0

/-- KRUN to KTIME follow the record; KABORT counts since POR (R478). -/
def LaneState.krecShow (l : LaneState) (ws : List Word) : LaneState :=
  let l := l.wr R.KILN_KRUN (ws.getD 3 0)
  let l := (List.range 4).foldl (fun (l : LaneState) w => l.wr (R.KILN_KSLICE w) (ws.getD (4 + w) 0)) l
  let l := (l.wr R.KILN_KFAIL (ws.getD 8 0)).wr R.KILN_KFAILMISR (ws.getD 9 0)
  l.wr R.KILN_KTIME (ws.getD 12 0)

/-- A record write (R477): the changed record, with the next SEQ, into the other copy. -/
def LaneState.krecWrite (l : LaneState) (f : List Word → List Word) : LaneState :=
  let old := l.krec
  let ws := ((f old).set 0 0x4B4C4E31).set 1 (old.getD 1 0 + 1)
  let ws := (ws.take 31) ++ [crc32c ((ws.take 31).flatMap wordBytes)]
  let c := match l.krecBest with
    | some 0 => 1
    | _ => 0
  (l.putBytes (0x1000 + 0x80 * c) (ws.flatMap wordBytes)).krecShow ws

/-- BOOTFAIL of the record (R476). -/
def LaneState.krecBootFail (l : LaneState) (c : Nat) : LaneState :=
  l.krecWrite fun ws => ws.set 11 (BitVec.ofNat 32 c)

/-- KILNFAIL is live while the record reads failed (R397). -/
def LaneState.kilnLive (l : LaneState) : LaneState := l.setLive 134 (krecState l.krec == KSt.failed) 0

/-- A slice starts; at park it begins with its save, at start-up with its test (R468, R473). -/
def LaneState.sliceStart (l : LaneState) (k : Nat) (park : Bool) : LaneState :=
  let l := ((l.put F.KILN_KSTAT_STATE (if park then 1 else 2)).put F.KILN_KSTAT_SLICE k).put F.KILN_KSTAT_BLOCK 0
  { l with power := { l.power with kilnFail := none } }

/-- A Kiln portion ends (R479). -/
def LaneState.kilnEnd (l : LaneState) : LaneState :=
  let l := { l with power := { l.power with kilnFail := none } }
  ((l.put F.KILN_KSTAT_STATE 0).put F.KILN_KSTAT_BLOCK 0).irqPulse P.KILN (mbit 0)

/-- The running slice's result is recorded (R473, R477): the lane, and whether it passed. -/
def LaneState.sliceRecord (l : LaneState) (us : Nat) : LaneState × Bool :=
  let k := l.get F.KILN_KSTAT_SLICE
  match l.power.kilnFail with
  | none =>
    ((l.krecWrite fun ws => (krecSetSlice ws k 1).set 12 (BitVec.ofNat 32 us)).count P.KILN 1, true)
  | some m =>
    (((l.krecWrite fun ws => (((krecSetSlice ws k 2).set 8 (BitVec.ofNat 32 (k + 0x80))).set 9 m).set 12
      (BitVec.ofNat 32 us)).count P.KILN 1).irqPulse P.KILN (mbit 2), false)

/-- KILN_BLOCK_COMPLETE (R472, R473): a block ends; one whose MISR differs from the expected one fails the slice. -/
def execKilnBlockComplete (x : Lane) (ok : Bool) (misr : Word) (s : State) : Host.Outcome State Fault Refusal :=
  onLane x (fun l =>
    if l.get F.KILN_KSTAT_STATE = 0 ∨ l.power.kilnFail.isSome then l
    else
      let l := l.count P.KILN 2
      if ok then (l.put F.KILN_KSTAT_STATE 2).put F.KILN_KSTAT_BLOCK (l.get F.KILN_KSTAT_BLOCK + 1)
      else
        let l := l.put F.KILN_KSTAT_STATE (if l.power.entry = 3 then 4 else 3)
        { l with power := { l.power with kilnFail := some misr } }) s

end Sys2Proof.Machine
end

