-- ==== Sys2Proof/Machine/Fixed.lean ====
section
/-!
DEFINITION. Fixed-point sines, roots and angles, exact far below the bounds that the spec allows: the CORDIC's
results (spec/04_loop_engine_datapath.md R134) and the notch coefficients (spec/05_loop_slots_and_control_laws.md
R171, R175). A result within a bound of the exact value is free inside the bound.
-/
namespace Sys2Proof.Machine
open Sys2Proof

/-- The scale of the fixed-point values, 2^96, and one turn in radians at that scale. -/
def fxOne : Int := 2 ^ 96
def fxTurn : Int := 497805226624462170461043889244

/-- The Taylor terms after `term`, the last of degree `k`, added to `acc`; `x2` is the square of the angle. -/
def fxSeries (x2 : Int) : Nat → Nat → Int → Int → Int
  | 0, _, _, acc => acc
  | n + 1, k, term, acc =>
    let t := -(term * x2 / fxOne) / ((k + 1) * (k + 2) : Nat)
    fxSeries x2 n (k + 2) t (acc + t)

/-- Cosine and sine of `num / den` turns, 0 ≤ num < den. -/
def fxCos (num den : Nat) : Int :=
  let x := fxTurn * num / den
  fxSeries (x * x / fxOne) 40 0 fxOne fxOne
def fxSin (num den : Nat) : Int :=
  let x := fxTurn * num / den
  fxSeries (x * x / fxOne) 40 1 x x

/-- The integer square root, by bits from `2^(n-1)` down. -/
def isqrtFrom (v : Nat) : Nat → Nat → Nat
  | 0, r => r
  | n + 1, r => if (r + 2 ^ n) * (r + 2 ^ n) ≤ v then isqrtFrom v n (r + 2 ^ n) else isqrtFrom v n r
def isqrt (v : Nat) : Nat := isqrtFrom v 110 0

/-- `n` bits of the angle of the vector (a, b) in turns, most significant first: the half plane gives a bit, and
doubling the angle the next. -/
def fxAngle : Nat → Int → Int → Nat → Nat
  | 0, _, _, acc => acc
  | n + 1, a, b, acc =>
    let half := decide (b < 0 ∨ (b = 0 ∧ a < 0))
    fxAngle n ((a * a - b * b) / 2 ^ 128) (2 * a * b / 2 ^ 128) (2 * acc + bit half)

/-- The angle of (x, y) in units of 2^-40 turn; (0, 0) gives 0. -/
def fxAtan2 (x y : Int) : Nat :=
  let m : Int := isqrt ((x * x + y * y).toNat * 2 ^ 128)
  if m = 0 then 0 else fxAngle 40 (x * 2 ^ 192 / m) (y * 2 ^ 192 / m) 0

/-- An integer within `tol` of `v / scale`: the one that `e` picks. -/
def within (v scale : Int) (tol : Nat) (e : Int) : Int :=
  let lo := -((tol * scale - v) / scale)
  let hi := (v + tol * scale) / scale
  lo + e % (hi - lo + 1)

/-- A value so near an integer that only the series keeps it from being one. -/
def fxSnap (v : Int) : Int :=
  let n := (v + fxOne / 2) / fxOne * fxOne
  if (v - n).natAbs < 2 ^ 50 then n else v

/-- The results of CRDROT (R134): each within 4 LSB. -/
def cordicRotate (x y t : Word) : DWord × DWord :=
  let c := fxCos t.toNat (2 ^ 32)
  let s := fxSin t.toNat (2 ^ 32)
  let v0 := fxSnap (x.toInt * c - y.toInt * s)
  let v1 := fxSnap (x.toInt * s + y.toInt * c)
  (BitVec.ofInt 64 (within v0 fxOne 4 (Config.cordicError 0 x y t)),
   BitVec.ofInt 64 (within v1 fxOne 4 (Config.cordicError 1 x y t)))

/-- The results of CRDVEC (R134): the magnitude within 4 LSB, the angle within 16 LSB of the turn; (0, 0) gives 0
and 0. Twice a floor, and 1 more where the value is no multiple of the unit, lies on the value's side of every integer. -/
def cordicVector (x y : Word) : DWord × DWord :=
  if x = 0 ∧ y = 0 then (0, 0)
  else
    let sq := (x.toInt * x.toInt + y.toInt * y.toInt).toNat * 2 ^ 64
    let m := 2 * isqrt sq + bit (isqrt sq * isqrt sq != sq)
    let plain := x == 0 || y == 0 || x.toInt.natAbs == y.toInt.natAbs
    let a := 2 * fxAtan2 x.toInt y.toInt + bit (!plain)
    let ang := within a 512 16 (Config.cordicError 3 x y 0)
    (BitVec.ofInt 64 (within m (2 ^ 33) 4 (Config.cordicError 2 x y 0)), (BitVec.ofInt 32 ang).setWidth 64)

/-- The powers by bin of the transform of samples whose mean is removed and that a Hann window weighs (R173), in the samples'
square units. -/
def hannPowers (xs : List Int) : List Int :=
  let n := xs.length
  let sum := xs.foldl (· + ·) 0
  let cosines := ((List.range n).map fun i => fxCos i n).toArray
  let sines := ((List.range n).map fun i => fxSin i n).toArray
  let terms := xs.zipIdx.map fun p => (p.1 * n - sum) * (fxOne - cosines.getD p.2 0) / (2 * fxOne)
  (List.range n).map fun k =>
    let part := fun (f : Array Int) =>
      terms.zipIdx.foldl (fun (a : Int) p => a + p.1 * f.getD (p.2 * k % n) 0 / 2 ^ 48) 0 / n
    (part cosines * part cosines + part sines * part sines) / 2 ^ 96

/-- The notch coefficients b0, b1, b2, a1 and a2 for bin `bin` of 512 × `dec` (R171, R175), in Q2.30, each within
2 LSB; one outside Q2.30 has no value stated. -/
def notchCoefs (bin dec : Nat) (rho : Word) : List Word :=
  let c := fxCos (bin % (512 * dec)) (512 * dec)
  let r := (rho.toNat : Int) * 2 ^ 66
  let a1 := -(2 * r * c / fxOne)
  let a2 := r * r / fxOne
  let g := (fxOne + a1 + a2) * fxOne / (2 * fxOne - 2 * c)
  let b1 := -(2 * g * c / fxOne)
  (List.range 5).map fun k =>
    let v := [g, b1, g, a1, a2].getD k 0
    let n := within v (2 ^ 66) 2 (Config.notchError k bin dec rho)
    if -(2 ^ 31) ≤ n ∧ n < 2 ^ 31 then BitVec.ofInt 32 n else BitVec.ofInt 32 (Config.notchError k bin dec rho)

end Sys2Proof.Machine
end

