-- ==== Sys2Proof/Machine/Links.lean ====
section
/-!
DEFINITION. The bridge link and the lane link (spec/01_three_lanes.md R22 to R40, R531, R532): receivers,
duplex comparison, the sender of the lane link, and the frames a lane receives from the bridge die and the peer.
-/
namespace Sys2Proof.Machine
open Sys2Proof

/-! ### Receivers -/

/-- A receiver's verdict on a frame: the causes of R33 in the order of the discard counters, none for a valid frame. -/
inductive Discard where
  | par | crc | seq | typ
  deriving DecidableEq, Repr

/-- The checks of R33 and R36, `modulus` the count of sequence numbers: the receiver afterwards and the cause of the
discard, if any. -/
def LinkRx.check (r : LinkRx) (modulus : Nat) (parityOk crcOk : Bool) (seq : Nat) (defined : Bool) :
    LinkRx × Option Discard :=
  if !parityOk then ({ r with expect := (r.expect + 1) % modulus }, some .par)
  else if !crcOk then ({ r with expect := (r.expect + 1) % modulus }, some .crc)
  else
    let n := { r with expect := (seq + 1) % modulus }
    if seq ≠ r.expect then (n, some .seq) else if !defined then (n, some .typ) else (n, none)

/-- A down condition: the running interval does not pass (R532). -/
def LinkRx.fail (r : LinkRx) : LinkRx := { r with down := true, whole := false }

/-- The end of a counting interval (R531, R532). -/
def LinkRx.interval (r : LinkRx) : LinkRx :=
  { r with down := r.down && !(r.whole && decide (r.discards < 4)), discards := 0, whole := true, due := false }

/-- The four registers of one lane link end: the link's LSTAT bit, IRQRAW bit, source and down counter. -/
structure LinkNames where
  lstat : Fld
  irq : Nat
  src : Nat
  downs : Fld
  deriving DecidableEq, Repr

def llNames : LinkNames := ⟨F.LNK_LSTAT_LLUP, 0, 50, F.LNK_DOWNCNT_LLDOWN⟩
def blNames : LinkNames := ⟨F.LNK_LSTAT_BLUP, 1, 51, F.LNK_DOWNCNT_BLDOWN⟩

/-- The lane's report of a receiver's state, before and after an event (R36, R39, R40, R532); `seen` is true when a
valid frame was received. A receiver that has declared nothing comes up at its first valid frame. -/
def LaneState.linkReport (l : LaneState) (k : LinkNames) (was now : LinkRx) (seen : Bool) : LaneState :=
  if was.down = now.down then
    if !now.down && seen && l.get k.lstat == 0 then l.put k.lstat 1 else l
  else if now.down then
    (((l.put k.lstat 0).bump k.downs 1).irqLevel P.LNK k.irq true).setLive k.src true 0
  else ((l.put k.lstat 1).irqLevel P.LNK k.irq false).setLive k.src false 0

def LaneState.setLlRx (l : LaneState) (r : LinkRx) : LaneState := { l with links := { l.links with llRx := r } }
def LaneState.setBlRx (l : LaneState) (r : LinkRx) : LaneState := { l with links := { l.links with blRx := r } }

/-- The lane link's receiver becomes `r` (R36). -/
def LaneState.llState (l : LaneState) (r : LinkRx) (seen : Bool) : LaneState :=
  (l.setLlRx r).linkReport llNames l.links.llRx r seen
/-- The bridge link's receiver in the lane becomes `r` (R33). -/
def LaneState.blState (l : LaneState) (r : LinkRx) (seen : Bool) : LaneState :=
  (l.setBlRx r).linkReport blNames l.links.blRx r seen

/-- A discard counted by a receiver: the fourth in an interval is a down condition (R33, R36). -/
def LinkRx.discarded (r : LinkRx) : LinkRx :=
  let r := { r with discards := r.discards + 1 }
  if 4 ≤ r.discards then r.fail else r

/-- The discard counters of the two links (R39). -/
def F.llDisc : Discard → Fld
  | .par => F.LNK_LLDISC_PAR
  | .crc => F.LNK_LLDISC_CRC
  | .seq => F.LNK_LLDISC_SEQ
  | .typ => F.LNK_LLDISC_TYPE
def F.blDisc : Discard → Fld
  | .par => F.LNK_BLDISC_PAR
  | .crc => F.LNK_BLDISC_CRC
  | .seq => F.LNK_BLDISC_SEQ
  | .typ => F.LNK_BLDISC_TYPE

/-- The lane's records of a discard (R39, R40): `src` is LLDISC or BLDISC, `irq` the pulse. -/
def LaneState.discardLog (l : LaneState) (f : Fld) (irq src : Nat) : LaneState :=
  (((l.bump f 1).irqPulse P.LNK (mbit irq)).raise src).count P.LNK 5

/-- A frame of the bridge link arrives at the lane (R33). -/
def LaneState.blFrame (l : LaneState) (ws : List Half) (parityOk : Bool) : LaneState :=
  let h := ws.headD 0
  let seq := (ws.getLastD 0).toNat / 256
  let ck := l.links.blRx.check 256 parityOk (blCrcOk ws) seq (blLen (blType h)).isSome
  match ck.2 with
  | some c => (l.discardLog (F.blDisc c) 3 53).blState ck.1.discarded false
  | none =>
    let l := l.blState ck.1 true
    if blType h = 0 then l else (l.bump F.LNK_BLRX_COUNT 1).count P.LNK 4

/-- A frame of the lane link arrives at the lane (R36). -/
def LaneState.llFrame (l : LaneState) (ws : List Word) (parityOk : Bool) : LaneState :=
  let h := ws.headD 0
  let ck := l.links.llRx.check 16 parityOk (llCrcOk ws) (llSeqOf h) (decide (llType h < 8))
  match ck.2 with
  | some c => (l.discardLog (F.llDisc c) 2 52).llState ck.1.discarded false
  | none =>
    let l := (l.llState ck.1 true).put F.LNK_LSTAT_LLSEEN 1
    if llType h = 0 then l else (l.bump F.LNK_LLRX_COUNT 1).count P.LNK 2

/-- Removes the first element that `p` picks. -/
def dropFirst {α : Type} (p : α → Bool) : List α → List α
  | [] => []
  | x :: r => if p x then r else x :: dropFirst p r

/-- The receiver of the bridge die for a lane's bridge link. -/
def BrgState.rx (b : BrgState) (x : Lane) : LinkRx := byLane x b.rxA b.rxB
def BrgState.setRx (b : BrgState) (x : Lane) (r : LinkRx) : BrgState :=
  match x with
  | .A => { b with rxA := r }
  | .B => { b with rxB := r }
def F.linkDisc (x : Lane) : Fld := byLane x F.BCOM_LINKDISC_DISCA F.BCOM_LINKDISC_DISCB

/-- A frame of a lane's bridge link arrives at the bridge die (R33, R267). -/
def BrgState.downFrame (b : BrgState) (x : Lane) (ws : List Half) (parityOk : Bool) : BrgState :=
  let h := ws.headD 0
  let seq := (ws.getLastD 0).toNat / 256
  let ck := (b.rx x).check 256 parityOk (blCrcOk ws) seq (blLen (blType h)).isSome
  match ck.2 with
  | some _ => (b.setRx x ck.1.discarded).bump (F.linkDisc x) 1
  | none => b.setRx x ck.1

/-- BRIDGE_LINK_FRAME_RECEIVED (R33): `up` says that the frame travels from the bridge die to lane `x`. What the
frame carries is the effect of the command that its type names. -/
def execBridgeLinkFrameReceived (x : Lane) (up : Bool) (ws : List Half) (parityOk : Bool) (s : State) :
    Host.Outcome State Fault Refusal :=
  let same := fun fr : List Half => fr.dropLast == ws.dropLast
  if up then
    done ((s.modLane x fun l =>
      if !l.alive then l
      else { l with links := { l.links with blUp := dropThrough same l.links.blUp } }.blFrame ws parityOk).capUpdate)
  else
    done (((s.modLane x fun l => { l with links := { l.links with blDown := dropThrough same l.links.blDown } }).modBrg
      (·.downFrame x ws parityOk)).capUpdate)

/-- The header of a lane-link frame without its sequence number. -/
def llUnnumbered (ws : List Word) : List Word :=
  match ws.dropLast with
  | h :: r => setBits h 16 4 0 :: r
  | [] => []

/-- LANE_LINK_FRAME_RECEIVED (R36). -/
def execLaneLinkFrameReceived (x : Lane) (ws : List Word) (parityOk : Bool) (s : State) :
    Host.Outcome State Fault Refusal :=
  let s := s.modLane x.peer fun p => { p with links := { p.links with
    llWire := dropThrough (fun fr => llUnnumbered fr == llUnnumbered ws) p.links.llWire } }
  onLane x (fun l => if l.alive then l.llFrame ws parityOk else l) s

/-- LINK_SILENCE_TIMEOUT (R33, R36): 256 transfer times without a valid frame are a down condition. -/
def execLinkSilenceTimeout (e : LinkEnd) (s : State) : Host.Outcome State Fault Refusal :=
  match e with
  | .laneLink x => onLane x (fun l => if l.alive then l.llState l.links.llRx.fail false else l) s
  | .bridgeUp x =>
    done ((s.modLane x fun l => if l.alive then l.blState l.links.blRx.fail false else l).capUpdate)
  | .bridgeDown x => done ((s.modBrg fun b => b.setRx x (b.rx x).fail).capUpdate)

/-- LINK_COUNTING_INTERVAL_END (R531, R532). In a lane an interval ends at a SYNC frame or at the absence of one for
1 ms; in the bridge die at a master boundary, or on its own clock while the timebase stands. -/
def execLinkCountingIntervalEnd (e : LinkEnd) (s : State) : Host.Outcome State Fault Refusal :=
  match e with
  | .laneLink x =>
    onLane x (fun l => if l.links.llRx.due then l.llState l.links.llRx.interval false else l) s
  | .bridgeUp x =>
    done ((s.modLane x fun l => if l.links.blRx.due then l.blState l.links.blRx.interval false else l).capUpdate)
  | .bridgeDown x =>
    if (s.brg.rx x).due ∨ s.brg.get (F.running P.BCOM) = 0 then
      done ((s.modBrg fun b => b.setRx x (b.rx x).interval).capUpdate)
    else done s

/-- A counting interval of both of a lane's receivers has ended. -/
def LaneState.intervalDue (l : LaneState) : LaneState :=
  { l with links := { l.links with
    llRx := { l.links.llRx with due := true }, blRx := { l.links.blRx with due := true } } }

/-- SYNC_ABSENCE_INTERVAL_TIMEOUT (R531): 1 ms without a SYNC frame; frame starts are not disciplined (R177). -/
def execSyncAbsenceIntervalTimeout (x : Lane) (s : State) : Host.Outcome State Fault Refusal :=
  onLane x (fun l => if l.alive then l.intervalDue.put F.LE_FRAMESTAT_SYNCED 0 else l) s

/-- BRIDGE_SYNC_RECEIVED (R22, R531): the lane's frame starts are disciplined. -/
def execBridgeSyncReceived (x : Lane) (_arg : BitVec 9) (_payload : Half) (s : State) :
    Host.Outcome State Fault Refusal :=
  onLane x (fun l =>
    if !l.alive then l
    else
      let l := l.intervalDue
      if l.get (F.running P.LE) = 1 then l.put F.LE_FRAMESTAT_SYNCED 1 else l) s

/-- LANE_LINK_SYNC_RECEIVED (R34, R144, R335): the peer's frame number, Strata cycle and offset correction. -/
def execLaneLinkSyncReceived (x : Lane) (fnLo fnHi cyc corr : Word) (s : State) : Host.Outcome State Fault Refusal :=
  onLane x (fun l =>
    if !l.alive ∨ !l.llUp then l
    else
      let l := l.modLoop fun p => { p with peerFn := some (fnHi ++ fnLo) }
      (l.wr R.STR_PEERCYC cyc).wr R.STR_PEERCORR corr) s

/-! ### CURRENT and STATUS frames -/

def LoopState.sample (p : LoopState) (n cnt : Nat) : Option CurSample := Table.get (fun _ => none) p.cur (512 * n + cnt)

/-- CURRENT_FRAME_RECEIVED (R157): the samples are kept by bridge and counter, with the frame and the frame cycle of their
reception. -/
def execCurrentFrameReceived (x : Lane) (n : Fin 8) (m : CurrentMark) (u v w : Half) (s : State) :
    Host.Outcome State Fault Refusal :=
  onLane x (fun l =>
    if !l.alive ∨ !l.blUp then l
    else l.modLoop fun p =>
      { p with cur := Table.set (fun _ => none) p.cur (512 * n.val + m.arg.toNat) (some ⟨p.gen, m.cycle, u, v, w⟩) }) s

/-- The conditions of a bridge page that a STATUS frame gives as levels: ARG[5:0], and payload bits 10, 7 and 13 as
IRQRAW bits 9, 10 and 31 (R263, R266). -/
def statusLevels (arg : BitVec 9) (pay : Half) : Word :=
  (arg.setWidth 32 &&& 0x3F) ||| BitVec.ofNat 32 (512 * bit (pay.getLsbD 10) + 1024 * bit (pay.getLsbD 7) +
    2 ^ 31 * bit (pay.getLsbD 13))
/-- Those that it gives as pulses: ARG[8:6], and payload bit 12 as IRQRAW bit 11 (R263, R266). -/
def statusPulses (arg : BitVec 9) (pay : Half) : Word :=
  (arg.setWidth 32 &&& 0x1C0) ||| BitVec.ofNat 32 (2048 * bit (pay.getLsbD 12))

/-- The lane's copies of a bridge page's conditions follow a STATUS frame, and the bridge's sources their latched
causes (R69, R266). -/
def LaneState.statusFrame (l : LaneState) (n : Nat) (arg : BitVec 9) (pay : Half) : LaneState :=
  let l := l.irqCycle (P.BRG n) 0x8000063F (statusLevels arg pay) (statusPulses arg pay)
  let l := (List.range 6).foldl (fun (l : LaneState) i => l.setLive (138 + 9 * n + i) (arg.getLsbD i) 0) l
  let l := if arg.getLsbD 6 then l.raise (144 + 9 * n) else l
  l.irqLevel P.BCOM 31 (pay.getLsbD 14)

def execStatusFrameReceived (x : Lane) (n : Fin 8) (arg : BitVec 9) (pay : Half) (s : State) :
    Host.Outcome State Fault Refusal :=
  onLane x (fun l => if l.alive then l.statusFrame n.val arg pay else l) s

/-- The key of a binding source (R155): its TYPE, INDEX and SEL. -/
def srcKey (typ index sel : Nat) : Nat := 1024 * typ + 8 * index + sel

/-- A binding source is updated at µs `now` (R155). -/
def LaneState.srcUpdate (l : LaneState) (key : Nat) (v : DWord) (now : Nat) : LaneState :=
  l.modLoop fun p => { p with srcs := Table.set (fun _ => none) p.srcs key (some ⟨v, now⟩) }

/-- A read of a register by an agent, which takes the value. -/
def LaneState.readBy (l : LaneState) (g : Agent) (a : Nat) (f : LaneState → LaneState × Word) : LaneState :=
  if !l.alive then l
  else if l.blockFenced a then l.respond g .error
  else (f l).1.respond g (.data ((f l).2.setWidth 64))

/-- A pacing request is latched (R427). -/
def LaneState.xfrLatch (l : LaneState) (req : Nat) : LaneState :=
  { l with xfr := { l.xfr with latch := insertNat req l.xfr.latch } }

/-! ### Duplex comparison (R23, R24, R35) -/

def Links.own (k : Links) (slot : Nat) : Option DupOwn := Table.get (fun _ => none) k.dupOwn slot
def Links.peer (k : Links) (slot : Nat) : Option DupPeer := Table.get (fun _ => none) k.dupPeer slot
def Links.setOwn (k : Links) (slot : Nat) (v : Option DupOwn) : Links :=
  { k with dupOwn := Table.set (fun _ => none) k.dupOwn slot v }
def Links.setPeer (k : Links) (slot : Nat) (v : Option DupPeer) : Links :=
  { k with dupPeer := Table.set (fun _ => none) k.dupPeer slot v }

/-- The lane's own run and the peer's frame for a slot are compared when both are there for the same rotation and
FN; the VERDICT then goes out (R24). -/
def LaneState.dupCompare (l : LaneState) (slot : Nat) : LaneState :=
  match l.links.own slot, l.links.peer slot with
  | some o, some p =>
    if o.rot = p.rot ∧ o.fn = p.fn then
      let l := { l with links := (l.links.setOwn slot none).setPeer slot none }
      l.sendVerdict slot o.bridges true (o.outs ≠ p.outs)
    else l
  | _, _ => l

/-- DUPLEX_OUT_RECEIVED (R23, R35, R36). -/
def execDuplexOutReceived (x : Lane) (slot rot : Nat) (fn : Word) (outs : List DWord) (s : State) :
    Host.Outcome State Fault Refusal :=
  onLane x (fun l =>
    if !l.alive ∨ !l.llUp then l
    else if fn ≠ l.rd R.LE_FN_LO then (l.bump F.LNK_DUPLATE_COUNT 1).irqPulse P.LNK (mbit 4)
    else { l with links := l.links.setPeer slot (some ⟨rot, fn, outs⟩) }.dupCompare slot) s

/-- VERDICT_DEADLINE (R24): no usable peer frame by the deadline. -/
def execVerdictDeadline (x : Lane) (slot : Fin 48) (s : State) : Host.Outcome State Fault Refusal :=
  onLane x (fun l =>
    match l.links.own slot.val with
    | some o => { l with links := l.links.setOwn slot.val none }.sendVerdict slot.val o.bridges false false
    | none => l) s

/-! ### The sender of the lane link (R37) -/

/-- Whether a context is of class DUPLEX in the captured descriptors (R184, R202). -/
def LaneState.isDuplex (l : LaneState) (c : Nat) : Bool := l.sieve.desc.get (F.PLC_DESC_0_CLASS c) == 1

/-- The frame number. -/
def LaneState.fn (l : LaneState) : DWord := l.rd R.LE_FN_HI ++ l.rd R.LE_FN_LO

/-- Whether a FENCE holds a slot or the whole engine (R150, R405). -/
def LaneState.slotFenced (l : LaneState) (k : Nat) : Bool := l.fencedBy (.slot k) || l.fencedBy .engine

/-- The rotation entry that slot `k` runs in the frame numbered `fn` (R145). -/
def LaneState.rotation (l : LaneState) (k : Nat) (fn : Nat) : Option Nat :=
  let r := fn % max 1 (l.act (F.LESLOT_SLOTCFG_DIV k))
  if r < 8 ∧ l.act (F.LESLOT_ROT_VALID k r) = 1 ∧ l.act (F.LESLOT_SLOTCFG_EN k) = 1 then some r else none

/-- The output delay of a slot: the first instant at frame cycle O that lies at or after P + 320 (R147). -/
def LaneState.launchAt (l : LaneState) (k : Nat) : Nat :=
  let f := l.get F.LE_FRAMECFG_FRAME
  let p := l.act (F.LESLOT_SPHASE_P k)
  let d := afterCycle f p (l.act (F.LESLOT_OPHASE_O k))
  p + if d < 320 then d + f else d

/-- The next instant, in engine cycles from the frame start, at which the lane launches a DUPLEX_OUT frame, at or
after cycle `c` (R37); runs of the previous, the present and the next frame count. -/
def LaneState.nextDuplex (l : LaneState) (c : Nat) : Option Nat :=
  let f := l.get F.LE_FRAMECFG_FRAME
  let times := (List.range 3).flatMap fun j => (List.range 48).filterMap fun k =>
    match l.rotation k ((l.fn.toNat + j + 2 ^ 64 - 1) % 2 ^ 64) with
    | some r =>
      let t := l.launchAt k + j * f
      if !l.slotFenced k && l.isDuplex (l.act (F.LESLOT_ROT_CTX k r)) && decide (c + f ≤ t) then some (t - f) else none
    | none => none
  times.min?

/-- The place of a type in the order of R37. -/
def llRank (typ : Nat) : Nat :=
  match typ with
  | 1 => 0 | 5 => 1 | 7 => 2 | 6 => 3 | 4 => 4 | 3 => 5 | _ => 6

/-- Engine cycles that a frame takes to launch: two per word. -/
def LLFrame.cycles (f : LLFrame) : Nat := 2 * (f.payload.length + 2)

/-- Whether a frame may start at cycle `c` (R37). -/
def LLFrame.fits (f : LLFrame) (c : Nat) (next : Option Nat) : Bool :=
  f.typ == 1 || match next with
    | some t => decide (c + f.cycles ≤ t)
    | none => true

/-- A frame's place among ready frames: by type, DUPLEX_OUT frames by their slot (R37). -/
def LLFrame.rank (f : LLFrame) : Nat := 64 * llRank f.typ + if f.typ = 1 then f.arg.toNat / 1024 else 0

/-- The first ready frame in the order of R37 among those that fit. -/
def pickFrame (fs : List LLFrame) (c : Nat) (next : Option Nat) : Option LLFrame :=
  (fs.filter (·.fits c next)).foldl (fun (best : Option LLFrame) f =>
    match best with
    | none => some f
    | some b => if f.rank < b.rank then some f else some b) none

/-- Whether a DUPLEX_OUT frame that starts at cycle `c` goes out behind another (R39): it waited while others started,
or it became ready, at its run's output phase, while the one that ends at `c` was being launched. -/
def LaneState.behindDuplex (l : LaneState) (f : LLFrame) (c : Nat) : Bool :=
  let fr := max 1 (l.get F.LE_FRAMECFG_FRAME)
  f.typ == 1 && (f.held ||
    (l.links.dupEnd == some (c % fr) && decide (l.launchAt (f.arg.toNat / 1024) % fr ≠ c % fr)))

/-- Marks the ready frames that do not start: those postponed under R37, and DUPLEX_OUT frames behind another. -/
def LLFrame.wait (f : LLFrame) (c : Nat) (next : Option Nat) (behindDup : Bool) : LLFrame :=
  if f.typ = 1 then { f with held := f.held || behindDup } else { f with held := f.held || !f.fits c next }

/-- The sequence number of the lane's next lane-link frame, after the IDLE frames sent since the last one (R34). -/
def LaneState.llNext (l : LaneState) : Nat :=
  (l.links.llSeq + Config.idleFrames l.id.num l.links.llSent) % 16

/-- LANE_LINK_FRAME_START (R37): at engine cycle `cycle` of the frame the lane link is free and a ready frame
starts. -/
def LaneState.frameStartLL (l : LaneState) (cycle : Nat) : LaneState :=
  let next := if l.loop.framing then l.nextDuplex cycle else none
  let k := l.links
  match pickFrame k.ready cycle next with
  | none =>
    let late := (k.ready.filter fun f => !f.held).length
    ({ l with links := { k with ready := k.ready.map fun g => LLFrame.wait g cycle next false } }.bump F.LNK_LLWAIT_POSTPONED late)
  | some f =>
    let rest := k.ready.erase f
    let late := (rest.filter fun g => g.typ ≠ 1 && !g.held && !g.fits cycle next).length
    let behind := l.behindDuplex f cycle
    let l := { l with links := { k with
      ready := rest.map fun g => LLFrame.wait g cycle next (f.typ == 1)
      llSeq := (l.llNext + 1) % 16
      llSent := k.llSent + 1
      dupEnd := if f.typ = 1 then some ((cycle + f.cycles) % max 1 (l.get F.LE_FRAMECFG_FRAME)) else none
      llWire := k.llWire ++ [llWords f l.llNext] } }
    let l := l.bump F.LNK_LLWAIT_POSTPONED late
    let l := if behind then l.bump F.LNK_LLWAIT_DUPWAIT 1 else l
    (l.bump F.LNK_LLTX_COUNT 1).count P.LNK 1

def execLaneLinkFrameStart (x : Lane) (cycle : Nat) (s : State) : Host.Outcome State Fault Refusal :=
  onLane x (fun l => if l.alive ∧ !l.fencedBy .llink then l.frameStartLL cycle else l) s

end Sys2Proof.Machine
end

