-- ==== Sys2Proof/Machine/Tracker.lean ====
section
/-!
DEFINITION. The resonance trackers (spec/05_loop_slots_and_control_laws.md R172 to R175).
-/
namespace Sys2Proof.Machine
open Sys2Proof

/-- TRKSTAT.STATE codes (R177). -/
def Trk.off : Nat := 0
def Trk.collect : Nat := 1
def Trk.analyse : Nat := 2
def Trk.waitack : Nat := 3
def Trk.pending : Nat := 4

def LaneState.tracker (l : LaneState) (k : Nat) : Tracker := Table.get (fun _ => ⟨0, 0, false⟩) l.loop.trk k
def LaneState.modTracker (l : LaneState) (k : Nat) (f : Tracker → Tracker) : LaneState :=
  l.modLoop fun p => { p with trk := Table.upd (fun _ => ⟨0, 0, false⟩) p.trk k f }

/-- Trackers are analysed one at a time, in order of k (R173): while the one under way stays, it keeps the analysis. -/
def LaneState.trkTurn (l : LaneState) : LaneState :=
  let due := (List.range 4).filter fun k => l.get (F.LE_TRKSTAT_STATE k) == Trk.analyse
  l.modLoop fun p => { p with analysing := (p.analysing.filter due.contains).or due.head? }

/-- The tracker's state changes; IRQRAW[4 + k] is high in WAITACK (R178). -/
def LaneState.trkState (l : LaneState) (k v : Nat) : LaneState :=
  ((l.put (F.LE_TRKSTAT_STATE k) v).irqLevel P.LE (4 + k) (v == Trk.waitack)).trkTurn

/-- The tracker records a result (R177, R178). -/
def LaneState.trkResult (l : LaneState) (k v : Nat) : LaneState :=
  (l.put (F.LE_TRKSTAT_RESULT k) v).irqPulse P.LE (mbit (8 + k))

/-- Whether the tracker's ring has a home: while Sieve runs, one that it has placed (R207). -/
def LaneState.trkHome (l : LaneState) (k : Nat) : Bool :=
  l.get (F.running P.PLC) == 0 || (Table.get (fun _ => none) l.sieve.bufs (2 + k)).isSome

/-- Collection restarts from empty, or the tracker is off. -/
def LaneState.trkCollect (l : LaneState) (k : Nat) : LaneState :=
  (l.modTracker k fun t => { t with runs := 0, count := 0 }).trkState k
    (if l.get (F.LE_TRKCFG_EN k) = 1 ∧ l.trkHome k then Trk.collect else Trk.off)

/-- Collection restarts, an analysis under way being abandoned (R172). -/
def LaneState.trkRestart (l : LaneState) (k : Nat) : LaneState :=
  (if l.get (F.LE_TRKSTAT_STATE k) = Trk.analyse then l.trkResult k 6 else l).trkCollect k

/-- A placement change of context `c` or an abort of one of its runs restarts collection (R172); a swap requested for it
still comes. -/
def LaneState.trkContext (l : LaneState) (c : Nat) : LaneState :=
  (List.range 4).foldl (fun (l : LaneState) k =>
    if l.get (F.LE_TRKCFG_CTX k) = c ∧ l.get (F.LE_TRKSTAT_STATE k) ≠ Trk.off then l.trkRestart k else l) l

/-- The address of sample `i` of a tracker's ring in working SRAM (R172). -/
def LaneState.trkRing (l : LaneState) (k i : Nat) : Nat := 0x10000000 + 4096 * l.get (F.LE_TRKBUF_BLOCK k) + 8 * i

/-- At the output stage of a run of context `c` that ended in END: every DEC runs a sample enters the ring; 512
samples begin the analysis (R172). -/
def LaneState.trkSample (l : LaneState) (c : Nat) : LaneState :=
  (List.range 4).foldl (fun (l : LaneState) k =>
    if l.get (F.LE_TRKCFG_EN k) = 0 ∨ l.get (F.LE_TRKCFG_CTX k) ≠ c ∨ l.get (F.LE_TRKSTAT_STATE k) ≠ Trk.collect then l
    else
      let t := l.tracker k
      if t.runs + 1 < l.get (F.LE_TRKCFG_DEC k) then l.modTracker k fun t => { t with runs := t.runs + 1 }
      else
        let v := l.dword (0x20040000 + 8 * (24 * c + l.get (F.LE_TRKCFG_ZW k)))
        let l := l.dmaStore (l.trkRing k t.count) 8 v.toNat
        let l := l.modTracker k fun t => { t with runs := 0, count := t.count + 1 }
        if t.count + 1 = 512 then l.trkState k Trk.analyse else l) l

/-- The X index of a coefficient bank of context `c` (R164). -/
def LaneState.cbank (l : LaneState) (c b : Nat) : Nat := l.get (F.LE_CTXCOEF_XBASE c) + b * l.get (F.LE_CTXCOEF_BSIZE c)

/-- A proposal is applied (R175): the inactive bank takes the active bank's content with the notch for `bin`, and a
swap is requested. -/
def LaneState.trkApply (l : LaneState) (k bin : Nat) : LaneState :=
  let c := l.get (F.LE_TRKCFG_CTX k)
  let act := l.get (F.LE_CTXCOEF_BANK c)
  let src := 0x20010000 + 4 * l.cbank c act
  let dst := 0x20010000 + 4 * l.cbank c (1 - act)
  let l := (List.range (l.get (F.LE_CTXCOEF_BSIZE c))).foldl (fun (l : LaneState) i =>
    l.engStore (dst + 4 * i) 4 (l.word (src + 4 * i)).toNat) l
  let cs := notchCoefs bin (l.get (F.LE_TRKCFG_DEC k)) (l.rd (R.LE_TRKRHO k))
  let at_ := dst + 4 * l.get (F.LE_TRKCFG_NOFS k)
  let l := (List.range 5).foldl (fun (l : LaneState) i => l.engStore (at_ + 4 * i) 4 (cs.getD i 0).toNat) l
  let l := (l.put (F.LE_TRKPROP_PROP k) bin).put (F.LE_CTXCOEF_SWAP c) 1
  (l.modTracker k fun t => { t with swap := true }).trkState k Trk.pending

/-- The bin of the band with the highest power, the lowest on a tie (R173). -/
def peakBin (powers : List Nat) (lo hi : Nat) : Nat :=
  ((List.range (hi + 1 - lo)).map (· + lo)).foldl (fun best i =>
    if powers.getD best 0 < powers.getD i 0 then i else best) lo

/-- Whether the band's highest power is a peak: at least THRESH / 16 times the mean (R173). -/
def isPeak (powers : List Nat) (lo hi k thresh : Nat) : Bool :=
  let n := hi + 1 - lo
  let sum := ((List.range n).map fun i => powers.getD (lo + i) 0).sum
  decide (thresh * sum ≤ 16 * n * powers.getD k 0)

/-- The proposal for a peak at bin `k` from the current bin (R174). -/
def proposal (cur k step : Nat) : Nat := if cur ≤ k then cur + min (k - cur) step else cur - min (cur - k) step

/-- The outcome of an analysis whose FFT gave `powers` (R174). -/
def LaneState.trkOutcome (l : LaneState) (k : Nat) (powers : List Nat) : LaneState :=
  let lo := l.get (F.LE_TRKBAND_KLO k)
  let hi := l.get (F.LE_TRKBAND_KHI k)
  let b := peakBin powers lo hi
  let cur := l.get (F.LE_TRKPROP_CUR k)
  let l := l.put (F.LE_TRKSTAT_PEAK k) b
  if !isPeak powers lo hi b (l.get (F.LE_TRKBAND_THRESH k)) then (l.trkResult k 2).trkCollect k
  else if b < l.get (F.LE_TRKLIM_NLO k) ∨ l.get (F.LE_TRKLIM_NHI k) < b then (l.trkResult k 3).trkCollect k
  else if b = cur then (l.trkResult k 4).trkCollect k
  else
    let p := proposal cur b (l.get (F.LE_TRKLIM_STEP k))
    if l.get (F.LE_TRKCFG_ACKREQ k) = 1 ∨ l.isDuplex (l.get (F.LE_TRKCFG_CTX k)) then
      (l.put (F.LE_TRKPROP_PROP k) p).trkState k Trk.waitack
    else l.trkApply k p

/-- Stores a list of 64-bit words from an address of an engine memory on. -/
def LaneState.setDwords (l : LaneState) (a : Nat) (ws : List DWord) : LaneState :=
  (List.range ws.length).foldl (fun (l : LaneState) i => l.engStore (a + 8 * i) 8 (ws.getD i 0).toNat) l

/-- The 512 samples of tracker `k`'s ring (R172). -/
def LaneState.trkSamples (l : LaneState) (k : Nat) : List Int :=
  (List.range 512).map fun i => (l.dmaDword (l.trkRing k i)).toInt

/-- The powers by bin of tracker `k`'s samples (R173): the arithmetic of the transform is not stated, so each differs from
the exact one by a free value. -/
def LaneState.trkPowers (l : LaneState) (k free : Nat) : List Nat :=
  (hannPowers (l.trkSamples k)).zipIdx.map fun p => (p.1 + Config.fftError free p.2).toNat

/-- TRACKER_ANALYSIS_COMPLETE (R173, R174, R178): tracker `k`'s analysis, which took `cycles` engine cycles, is over. The
trackers' work area in Y holds what it left, which the spec does not state. -/
def execTrackerAnalysisComplete (x : Lane) (k : Fin 4) (cycles : Nat) (s : State) :
    Host.Outcome State Fault Refusal :=
  let l := s.lane x
  if !l.alive ∨ l.loop.analysing ≠ some k.val then done s
  else
    let powers := l.trkPowers k.val s.freeCtr
    let l := (l.countN P.LE 6 cycles).setDwords (0x20020000 + 8 * 0x3C00)
      ((List.range 1024).map fun i => Config.trackerWork s.freeCtr i)
    done ((s.setLane x (l.trkOutcome k.val powers)).freeNext)

/-- A write of TRKACK_k (R175): ACCEPT applies BIN, clamped to NLO to NHI, REJECT restarts collection; both are
ignored outside WAITACK. -/
def LaneState.trkackWrite (l : LaneState) (k : Nat) (v : Word) : LaneState :=
  l.command (R.LE_TRKACK k) v fun l e =>
    if l.get (F.LE_TRKSTAT_STATE k) ≠ Trk.waitack then l
    else if getBits e 0 2 = 1 then l.trkApply k (getBits e 16 9)
    else if getBits e 0 2 = 2 then (l.trkResult k 5).trkCollect k else l

/-- TRACKER_ACCEPT and TRACKER_REJECT (R175). -/
def execTrackerAccept (x : Lane) (k : Fin 4) (bin : BitVec 9) (s : State) : Host.Outcome State Fault Refusal :=
  onLane x (·.trkackWrite k.val (BitVec.ofNat 32 (1 + bin.toNat * 2 ^ 16))) s
def execTrackerReject (x : Lane) (k : Fin 4) (bin : BitVec 9) (s : State) : Host.Outcome State Fault Refusal :=
  onLane x (·.trkackWrite k.val (BitVec.ofNat 32 (2 + bin.toNat * 2 ^ 16))) s

/-- A write of TRKCFG_k (R172): collection restarts, or the tracker is off. -/
def LaneState.trkcfgWrite (l : LaneState) (k : Nat) (v : Word) : LaneState :=
  l.command (R.LE_TRKCFG k) v fun l _ => (l.modTracker k fun t => { t with swap := false }).trkRestart k

def execTrkcfgWrite (x : Lane) (k : Fin 4) (v : Word) (s : State) : Host.Outcome State Fault Refusal :=
  onLane x (·.trkcfgWrite k.val v) s

end Sys2Proof.Machine
end

