-- ==== Sys2Proof/Machine/Engine.lean ====
section
/-!
DEFINITION. The loop engine's datapath and instructions (spec/04_loop_engine_datapath.md). Every instruction goes
through one issue stage: the word fetched at PC, its parity and legality, the reads, and then its effect whole.
-/
namespace Sys2Proof.Machine
open Sys2Proof

/-! ### Instruction words -/

/-- The field [hi:lo] of an instruction word without its opcode. -/
def fld (w : Code) (hi lo : Nat) : Nat := (w.toNat >>> lo) % 2 ^ (hi + 1 - lo)

/-- The bits [hi:lo]. -/
def ones (hi lo : Nat) : Code := BitVec.ofNat 58 ((2 ^ (hi + 1 - lo) - 1) * 2 ^ lo)

/-- The word is 0 outside the bits `used` (R137). -/
def clean (w used : Code) : Bool := w &&& ~~~used == 0

/-- The engine memories (R115): one coefficient of X, a quad of X, Y, Z. -/
inductive EMem where
  | x | quad | y | z
  deriving DecidableEq, Repr

/-- A memory operand: which memory, which AG, its modify code, and whether it is written. -/
structure MemRef where
  mem : EMem
  ag : Nat
  md : Nat
  write : Bool
  deriving DecidableEq, Repr

/-- The port of a memory: X, Y or Z. -/
def EMem.port : EMem → Nat
  | .x => 0 | .quad => 0 | .y => 1 | .z => 2

/-- No two elements are equal. -/
def distinct (xs : List Nat) : Bool :=
  match xs with
  | [] => true
  | x :: r => !r.contains x && distinct r

/-- At most one read and one write of each memory, and at most one non-zero modify code for each AG (R116, R138). -/
def refsLegal (rs : List MemRef) : Bool :=
  distinct ((rs.filter (!·.write)).map (·.mem.port)) && distinct ((rs.filter (·.write)).map (·.mem.port)) &&
    distinct ((rs.filter (·.md ≠ 0)).map (·.ag))

/-! ### Registers -/

def Engine.dreg (e : Engine) (n : Nat) : DWord := e.d.getD n 0
def Engine.setD (e : Engine) (n : Nat) (v : DWord) : Engine := { e with d := e.d.setIfInBounds n v }
def Engine.agen (e : Engine) (n : Nat) : AddrGen := e.ag.getD n ⟨0, 0, 16384, 1, 0⟩
def Engine.setAg (e : Engine) (n : Nat) (g : AddrGen) : Engine := { e with ag := e.ag.setIfInBounds n g }
def Engine.a (e : Engine) (k : Nat) : Acc112 := e.acc.getD k 0
/-- Sets a sticky bit of ESW: 0 AOVF, 1 DSAT, 2 CIRCADJ, 3 AGERR (R136). -/
def Engine.stick (e : Engine) (i : Nat) : Engine := { e with sticky := e.sticky ||| (1 <<< i) }
/-- The low 32 bits of a D register, signed. -/
def Engine.lo32 (e : Engine) (n : Nat) : Int := ((e.dreg n).extractLsb' 0 32).toInt

/-- The engine status word (R136). -/
def Engine.esw (e : Engine) : Word :=
  BitVec.ofNat 32 (e.sticky.toNat + (List.range 4).foldl (fun n k =>
    n + bit (e.sat.getD k none).isSome * 2 ^ (4 + k)) 0 + bit (decide (e.cyc < e.crdReady)) * 256)

/-- Loads accumulator `k` with no saturation state (R119). -/
def Engine.loadAcc (e : Engine) (k : Nat) (v : Int) : Engine :=
  { e with acc := e.acc.setIfInBounds k (BitVec.ofInt 112 v), sat := e.sat.setIfInBounds k none }

/-- acc(k, v): saturates `v` into accumulator `k` (R119). -/
def Engine.accum (e : Engine) (k : Nat) (v : Int) : Engine :=
  let hi : Int := 2 ^ 111 - 1
  let lo : Int := -(2 ^ 111)
  let e := { e with acc := e.acc.setIfInBounds k (BitVec.ofInt 112 (min (max v lo) hi)) }
  if hi < v then { e with sat := e.sat.setIfInBounds k (some true) }.stick 0
  else if v < lo then { e with sat := e.sat.setIfInBounds k (some false) }.stick 0
  else e

/-- Writes a register with a value saturated to the signed 64-bit range; DSAT says that it saturated (R122). -/
def Engine.setSat (e : Engine) (n : Nat) (v : Int) : Engine :=
  let hi : Int := 2 ^ 63 - 1
  let lo : Int := -(2 ^ 63)
  (if hi < v ∨ v < lo then e.stick 1 else e).setD n (BitVec.ofInt 64 (min (max v lo) hi))

/-- The write-back of an accumulator shifted right by `s` (R121): the value and whether DSAT is set. -/
def writeBackValue (a : Int) (sat : Option Bool) (s : Nat) (floor : Bool) : DWord × Bool :=
  let hi : Int := 2 ^ 63 - 1
  let lo : Int := -(2 ^ 63)
  match sat with
  | some pos => (BitVec.ofInt 64 (if pos then hi else lo), true)
  | none =>
    let q := a / 2 ^ s
    let r := a % 2 ^ s
    let q := if floor ∨ s = 0 then q
      else if 2 * r > 2 ^ s ∨ (2 * r = 2 ^ s ∧ q % 2 = 1) then q + 1 else q
    if hi < q then (BitVec.ofInt 64 hi, true) else if q < lo then (BitVec.ofInt 64 lo, true) else (BitVec.ofInt 64 q, false)

/-! ### Address generators (R123 to R128) -/

/-- Reverses the low `n` bits of `v`. -/
def revBits : Nat → Nat → Nat
  | 0, _ => 0
  | n + 1, v => v % 2 * 2 ^ n + revBits n (v / 2)

/-- The exponent of a power of two up to 2^14. -/
def log2Of (l : Nat) : Nat := ((List.range 15).find? fun n => l ≤ 2 ^ n).getD 14

/-- The pointer after a step of `m` (R123). -/
def AddrGen.next (g : AddrGen) (m : Int) : Nat :=
  if g.mode = 1 then (g.b + ((g.p : Int) - g.b + m) % (g.l : Int)).toNat
  else if g.mode = 2 then
    let n := log2Of g.l
    let o := revBits n (g.p - g.b)
    let r := revBits n (m % (g.l : Int)).toNat
    g.b + revBits n ((o + r) % g.l)
  else ((g.p + m) % 16384).toNat

/-- The step of a modify code (R123). -/
def AddrGen.step (g : AddrGen) (md : Nat) : AddrGen :=
  match md with
  | 0 => g
  | 1 => { g with p := g.next 1 }
  | 2 => { g with p := g.next (-1) }
  | _ => { g with p := g.next g.m }

/-- Whether B and L meet R124 for a mode. -/
def agValid (mode b l : Nat) : Bool :=
  mode == 0 || decide (1 ≤ l ∧ l ≤ 16384 ∧ b + l ≤ 16384) &&
    (mode == 1 || (mode == 2 && decide (2 ≤ l) && (List.range 15).any (fun n => l == 2 ^ n) && b % l == 0))

/-- Folds a pointer outside the window of CIRC or BREV (R126, R128); says whether it folded. -/
def AddrGen.fold (g : AddrGen) : AddrGen × Bool :=
  if g.mode ≠ 0 ∧ (g.p < g.b ∨ g.b + g.l ≤ g.p) then
    ({ g with p := (g.b + ((g.p : Int) - g.b) % (g.l : Int)).toNat }, true)
  else (g, false)

/-- The post-modifies of an instruction (R123, R139). -/
def Engine.postModify (e : Engine) (rs : List MemRef) : Engine :=
  rs.foldl (fun e r => e.setAg r.ag ((e.agen r.ag).step r.md)) e

/-! ### Memory operands (R115, R118, R125) -/

/-- The lane address and the length in bytes of an operand. -/
def Engine.place (e : Engine) (m : EMem) (ag : Nat) : Nat × Nat :=
  let p := (e.agen ag).p
  match m with
  | .x => (0x20010000 + 4 * p, 4)
  | .quad => (0x20010000 + 4 * (p - p % 4), 16)
  | .y => (0x20020000 + 8 * p, 8)
  | .z => (0x20040000 + 8 * (p % 4096), 8)

/-- Whether a byte of [a, a + n) has broken parity (R118). -/
def LaneState.broken (l : LaneState) (a n : Nat) : Bool := l.badPar.any fun b => decide (a ≤ b ∧ b < a + n)

/-- A Z access through a pointer of 4,096 or more sets AGERR (R125). -/
def Engine.zCheck (e : Engine) (rs : List MemRef) : Engine :=
  if rs.any fun r => decide (r.mem = .z ∧ 4096 ≤ (e.agen r.ag).p) then e.stick 3 else e

def LaneState.eng (l : LaneState) : Engine := l.loop.eng
def LaneState.modEng (l : LaneState) (f : Engine → Engine) : LaneState := l.modLoop fun p => { p with eng := f p.eng }

/-- The 64-bit word of an operand in Y or Z. -/
def LaneState.opWord (l : LaneState) (m : EMem) (ag : Nat) : DWord := l.dword (l.eng.place m ag).1

/-- The coefficient of a single X operand, and coefficient `k` of a quad. -/
def LaneState.opX (l : LaneState) (ag : Nat) : Int := (l.word (l.eng.place .x ag).1).toInt
def LaneState.opQuad (l : LaneState) (ag k : Nat) : Int := (l.word ((l.eng.place .quad ag).1 + 4 * k)).toInt

/-! ### Exit and abort (R114, R150, R180, R181) -/

/-- SLOTSTAT.CAUSE codes (R180). -/
def Cause.fin : Nat := 1
def Cause.illegal : Nat := 2
def Cause.parity : Nat := 3
def Cause.overrun : Nat := 4

/-- The message of SLOTMSG_s (R181). -/
def LaneState.slotMsg (l : LaneState) (s : Nat) (send : Bool) : LaneState :=
  if send then l.sendMsg (R.LESLOT_SLOTMSG s) else l

/-- A field written once per exit (R180): cause, context, rotation, PC, ESW, cycles. -/
def LaneState.exitRecord (l : LaneState) (r : Run) (cause pc : Nat) : LaneState :=
  let s := r.slot
  let c := l.eng.cyc
  let l := ((l.put (F.LESLOT_SLOTSTAT_CAUSE s) cause).put (F.LESLOT_SLOTSTAT_CTX s) r.ctx)
  let l := (l.put (F.LESLOT_SLOTSTAT_ROT s) r.rot).put (F.LESLOT_SLOTSTAT_PC s) pc
  let l := l.wr (R.LESLOT_EXITESW s) l.eng.esw
  let l := l.put (F.LESLOT_CYCLES_LAST s) (min c 511)
  let l := l.put (F.LESLOT_CYCLES_MAX s) (max (min c 511) (l.get (F.LESLOT_CYCLES_MAX s)))
  let l := l.modLoop fun p => { p with used := p.used + c }
  l.countN P.LE 5 c

/-- Marks the stage of the run under way. -/
def LaneState.runStage (l : LaneState) (v : RunStage) : LaneState :=
  l.modLoop fun p => { p with run := p.run.map fun r => { r with stage := v } }

/-- The counters, conditions, source and messages of an abort (R150, R178, R181). -/
def LaneState.abortReport (l : LaneState) (r : Run) (src : Nat) : LaneState :=
  let s := r.slot
  let l := (l.bump ⟨R.LESLOT_ABORTS s, 0, 32⟩ 1).bump ⟨R.LE_ABORTCNT, 0, 32⟩ 1
  let pg := P.LESLOT (s / 16)
  let l := (((l.irqPulse pg (mbit (s % 16))).count pg 1).count P.LE 3).raiseAt src s
  let l := l.slotMsg s (l.act (F.LESLOT_SLOTCFG_EXITMSG s) == 1 || l.act (F.LESLOT_SLOTCFG_ABORTMSG s) == 1)
  l.trkContext r.ctx

/-- The run under way is aborted (R114, R150). -/
def LaneState.abort (l : LaneState) (r : Run) (cause pc : Nat) : LaneState :=
  let src := if cause = Cause.parity then 37 else if cause = Cause.illegal then 38 else 40
  ((l.exitRecord r cause pc).runStage .aborted).abortReport r src

/-! ### Issue (R111, R118, R130 to R133, R137 to R139) -/

/-- Where execution goes after the instruction at `pc`, and the loops then active (R130, R132). -/
def advance (pc : Nat) : List LoopLevel → Nat × List LoopLevel
  | [] => (pc + 1, [])
  | t :: r =>
    if pc = t.stop then
      if 1 < t.passes then (t.start, { t with passes := t.passes - 1 } :: r) else advance pc r
    else (pc + 1, t :: r)

/-- The opcodes in use (R140). -/
def definedOpc (o : Nat) : Bool :=
  decide ((1 ≤ o ∧ o ≤ 9) ∨ o = 0x10 ∨ (0x14 ≤ o ∧ o ≤ 0x18) ∨ (0x20 ≤ o ∧ o ≤ 0x3C))

/-- The word at PC: from the loop buffer where an active loop has filled it (R131), else from program memory; and
whether its parity is broken. -/
def LaneState.fetch (l : LaneState) : DWord × Bool :=
  let e := l.eng
  let a := 0x20000000 + 8 * e.pc
  match Table.get (fun _ => none) e.buf e.pc with
  | some w => (w, false)
  | none => (l.dword a, l.broken a 8)

/-- What an instruction does once it may issue: its memory operands, the lane after its effect (the engine's PC and
loops excepted), the cycles it takes, and where execution goes. -/
structure Effect where
  refs : List MemRef
  body : LaneState → LaneState
  cycles : Nat
  next : Nat × List LoopLevel

/-- The effect takes place: reads are those of the state before it (R139); AOVF rising raises its source (R120). -/
def LaneState.perform (l : LaneState) (r : Run) (word : DWord) (f : Effect) : LaneState :=
  let e := l.eng
  let was := e.sticky.getLsbD 0
  let l := f.body (l.modEng (·.zCheck f.refs))
  let l := l.modEng fun e => e.postModify f.refs
  let l := l.modEng fun n =>
    { n with
      pc := f.next.1
      loops := f.next.2
      buf := if f.next.2.isEmpty then []
        else if e.loops.isEmpty then n.buf else Table.set (fun _ => none) n.buf e.pc (some word)
      cyc := n.cyc + f.cycles }
  if l.eng.sticky.getLsbD 0 && !was then l.raiseAt 39 r.slot else l

/-- Reads of an instruction whose bytes have broken parity (R118). -/
def LaneState.badReads (l : LaneState) (rs : List MemRef) : Bool :=
  rs.any fun r => !r.write && l.broken (l.eng.place r.mem r.ag).1 (l.eng.place r.mem r.ag).2

/-- The engine issues the instruction at PC, a command having named opcode `opc` and the rest `w` of its word.
`legal` is the instruction's own part of R138 and `eff` its effect. Nothing happens when no program runs, when its 288
cycles are over, or when the word at PC is another one. -/
def LaneState.issue (l : LaneState) (opc : Nat) (w : Code) (legal : Bool) (eff : LaneState → Effect) : LaneState :=
  match l.loop.run with
  | none => l
  | some r =>
    let e := l.eng
    if r.stage ≠ .running ∨ 288 ≤ e.cyc ∨ !l.alive then l
    else
      let ft := l.fetch
      if ft.2 then l.abort r Cause.parity e.pc
      else if !definedOpc (ft.1.extractLsb' 58 6).toNat then l.abort r Cause.illegal e.pc
      else if ft.1 ≠ BitVec.ofNat 6 opc ++ w then l
      else
        let f := eff l
        if !legal ∨ !refsLegal f.refs ∨ 8191 < f.next.1 then l.abort r Cause.illegal e.pc
        else if l.badReads f.refs then l.abort r Cause.parity e.pc
        else l.perform r ft.1 f

/-- A one-cycle instruction that goes on to the next index. -/
def LaneState.plain (l : LaneState) (refs : List MemRef) (body : LaneState → LaneState) : Effect :=
  ⟨refs, body, 1, advance l.eng.pc l.eng.loops⟩

/-- An instruction that only changes the engine. -/
def LaneState.regOp (l : LaneState) (f : Engine → Engine) : Effect := l.plain [] (·.modEng f)

/-! ### Format M (R137, R141) -/

/-- The used bits of the moves of a format M word. -/
def moveBits (w : Code) : Code :=
  ones 30 30 ||| ones 19 19 ||| (if fld w 30 30 = 1 then ones 29 20 else 0) |||
    (if fld w 19 19 = 1 then ones 18 9 else 0)

/-- The parallel moves of a format M word: enabled, store, memory, register, AG, modify code. -/
structure Move where
  store : Bool
  mem : EMem
  reg : Nat
  ag : Nat
  md : Nat
  deriving DecidableEq, Repr

def moves (w : Code) : List Move :=
  let mk := fun b : Nat =>
    (⟨fld w b b == 1, if fld w (b - 1) (b - 1) = 0 then .y else .z, fld w (b - 2) (b - 4), fld w (b - 5) (b - 7),
      fld w (b - 8) (b - 9)⟩ : Move)
  (if fld w 30 30 = 1 then [mk 29] else []) ++ (if fld w 19 19 = 1 then [mk 18] else [])

def Move.ref (m : Move) : MemRef := ⟨m.mem, m.ag, m.md, m.store⟩

/-- The moves take effect: every operand is read from `l`, the state before the instruction (R139). -/
def LaneState.doMoves (n l : LaneState) (ms : List Move) : LaneState :=
  ms.foldl (fun (n : LaneState) m =>
    if m.store then
      let a := l.eng.place m.mem m.ag
      n.engStore a.1 8 (l.eng.dreg m.reg).toNat
    else n.modEng (·.setD m.reg (l.opWord m.mem m.ag))) n

/-- Two loads into one D register are illegal (R138). -/
def movesLegal (w : Code) : Bool := distinct (((moves w).filter (!·.store)).map (·.reg))

/-- The data operand: its memory reference, if any, and its value (R141). -/
def dataRef (w : Code) : List MemRef :=
  let d := fld w 55 52
  if d < 8 then [] else [⟨if d = 8 then .y else .z, fld w 41 39, fld w 38 37, false⟩]
def LaneState.dataVal (l : LaneState) (w : Code) : Int :=
  let d := fld w 55 52
  (if d < 8 then l.eng.dreg d else l.opWord (if d = 8 then .y else .z) (fld w 41 39)).toInt

/-- The coefficient operand. -/
def coefRef (w : Code) : List MemRef := if fld w 51 50 = 0 then [] else [⟨.x, fld w 46 44, fld w 43 42, false⟩]
def LaneState.coefVal (l : LaneState) (w : Code) : Int :=
  if fld w 51 50 = 0 then l.eng.lo32 (fld w 49 47) else l.opX (fld w 46 44)

/-- The bits of the data operand and of the coefficient operand that a word uses. -/
def dataBits (w : Code) : Code := ones 55 52 ||| if fld w 55 52 < 8 then 0 else ones 41 37
def coefBits (w : Code) : Code := ones 51 50 ||| if fld w 51 50 = 0 then ones 49 47 else ones 46 42

/-- A format M instruction: the AG references of its operands, and what it does to the engine, the operands read
from the state before it. -/
def LaneState.formatM (l : LaneState) (opc : Nat) (w used : Code) (legal : Bool) (refs : List MemRef)
    (f : LaneState → Engine → Engine) : LaneState :=
  l.issue opc w (clean w (used ||| moveBits w) && legal && movesLegal w) fun l =>
    l.plain (refs ++ (moves w).map Move.ref) fun n => (n.modEng (f l)).doMoves l (moves w)

/-- MAC, MSU and MPY (R141): `f` gives the new accumulator from the old one and the product. -/
def LaneState.macOp (l : LaneState) (opc : Nat) (w : Code) (f : Engine → Nat → Int → Engine) : LaneState :=
  l.formatM opc w (ones 57 56 ||| dataBits w ||| coefBits w) (decide (fld w 55 52 ≤ 9 ∧ fld w 51 50 ≤ 1))
    (dataRef w ++ coefRef w) fun l e => f e (fld w 57 56) (l.dataVal w * l.coefVal w)

def mac (x : Lane) (w : Code) (s : State) : State :=
  s.modLane x (·.macOp 0x01 w fun e k p => e.accum k ((e.a k).toInt + p))
def execEMac (x : Lane) (w : Code) (s : State) : Host.Outcome State Fault Refusal := done (mac x w s)

def msu (x : Lane) (w : Code) (s : State) : State :=
  s.modLane x (·.macOp 0x02 w fun e k p => e.accum k ((e.a k).toInt - p))
def execEMsu (x : Lane) (w : Code) (s : State) : Host.Outcome State Fault Refusal := done (msu x w s)

def mpy (x : Lane) (w : Code) (s : State) : State := s.modLane x (·.macOp 0x03 w fun e k p => e.loadAcc k p)
def execEMpy (x : Lane) (w : Code) (s : State) : Host.Outcome State Fault Refusal := done (mpy x w s)

/-- VMAC and VMPY (R141): the data operand by a quad of X, into the four accumulators. -/
def LaneState.vecOp (l : LaneState) (opc : Nat) (w : Code) (f : Engine → Nat → Int → Engine) : LaneState :=
  l.formatM opc w (dataBits w ||| ones 51 50 ||| ones 46 42) (decide (fld w 55 52 ≤ 9 ∧ fld w 51 50 = 1))
    (dataRef w ++ [⟨.quad, fld w 46 44, fld w 43 42, false⟩]) fun l e =>
      (List.range 4).foldl (fun e k => f e k (l.dataVal w * l.opQuad (fld w 46 44) k)) e

def execEVmac (x : Lane) (w : Code) (s : State) : Host.Outcome State Fault Refusal :=
  onLane x (·.vecOp 0x04 w fun e k p => e.accum k ((e.a k).toInt + p)) s
def execEVmpy (x : Lane) (w : Code) (s : State) : Host.Outcome State Fault Refusal :=
  onLane x (·.vecOp 0x05 w fun e k p => e.loadAcc k p) s

/-- ADDA and LDA (R141). -/
def LaneState.shiftOp (l : LaneState) (opc : Nat) (w : Code) (f : Engine → Nat → Int → Engine) : LaneState :=
  l.formatM opc w (ones 57 56 ||| dataBits w ||| ones 36 31) (decide (fld w 55 52 ≤ 9 ∧ fld w 36 31 ≤ 47))
    (dataRef w) fun l e => f e (fld w 57 56) (l.dataVal w * 2 ^ fld w 36 31)

def execEAdda (x : Lane) (w : Code) (s : State) : Host.Outcome State Fault Refusal :=
  onLane x (·.shiftOp 0x06 w fun e k v => e.accum k ((e.a k).toInt + v)) s
def execELda (x : Lane) (w : Code) (s : State) : Host.Outcome State Fault Refusal :=
  onLane x (·.shiftOp 0x07 w fun e k v => e.loadAcc k v) s

def execEVclr (x : Lane) (w : Code) (s : State) : Host.Outcome State Fault Refusal :=
  onLane x (·.formatM 0x08 w 0 true [] fun _ e => (List.range 4).foldl (fun e k => e.loadAcc k 0) e) s
def execEMove (x : Lane) (w : Code) (s : State) : Host.Outcome State Fault Refusal :=
  onLane x (·.formatM 0x09 w 0 true [] fun _ e => e) s

/-! ### Format W (R121, R141) -/

/-- RND: write-back of an accumulator, with an optional store. -/
def LaneState.rnd (l : LaneState) (w : Code) : LaneState :=
  let sen := fld w 44 44 = 1
  let m : EMem := if fld w 43 43 = 0 then .y else .z
  l.issue 0x10 w (clean w (ones 57 44 ||| if sen then ones 43 38 else 0)) fun l =>
    l.plain (if sen then [⟨m, fld w 42 40, fld w 39 38, true⟩] else []) fun n =>
      let k := fld w 57 56
      let v := writeBackValue (l.eng.a k).toInt (l.eng.sat.getD k none) (fld w 52 47) (fld w 45 45 == 1)
      let n := n.modEng fun e =>
        let e := (if v.2 then e.stick 1 else e).setD (fld w 55 53) v.1
        if fld w 46 46 = 1 then e.loadAcc k 0 else e
      if sen then n.engStore (l.eng.place m (fld w 42 40)).1 8 v.1.toNat else n

def execERnd (x : Lane) (w : Code) (s : State) : Host.Outcome State Fault Refusal := onLane x (·.rnd w) s

/-! ### Format I (R141) -/

def imm (w : Code) : BitVec 32 := w.extractLsb' 0 32

def execELdi (x : Lane) (w : Code) (s : State) : Host.Outcome State Fault Refusal :=
  onLane x (·.issue 0x14 w (clean w (ones 57 55 ||| ones 31 0)) fun l =>
    l.regOp fun e => e.setD (fld w 57 55) ((imm w).signExtend 64)) s
def execELdih (x : Lane) (w : Code) (s : State) : Host.Outcome State Fault Refusal :=
  onLane x (·.issue 0x15 w (clean w (ones 57 55 ||| ones 31 0)) fun l =>
    l.regOp fun e => e.setD (fld w 57 55) (imm w ++ (e.dreg (fld w 57 55)).extractLsb' 0 32)) s

/-- MACI and MPYI. -/
def LaneState.immOp (l : LaneState) (opc : Nat) (w : Code) (f : Engine → Nat → Int → Engine) : LaneState :=
  l.issue opc w (clean w (ones 54 50 ||| ones 31 0)) fun l =>
    l.regOp fun e => f e (fld w 51 50) ((e.dreg (fld w 54 52)).toInt * (imm w).toInt)

def execEMaci (x : Lane) (w : Code) (s : State) : Host.Outcome State Fault Refusal :=
  onLane x (·.immOp 0x16 w fun e k p => e.accum k ((e.a k).toInt + p)) s
def execEMpyi (x : Lane) (w : Code) (s : State) : Host.Outcome State Fault Refusal :=
  onLane x (·.immOp 0x17 w fun e k p => e.loadAcc k p) s
def execEAddi (x : Lane) (w : Code) (s : State) : Host.Outcome State Fault Refusal :=
  onLane x (·.issue 0x18 w (clean w (ones 57 52 ||| ones 31 0)) fun l =>
    l.regOp fun e => e.setD (fld w 57 55) (e.dreg (fld w 54 52) + (imm w).signExtend 64)) s

/-! ### Format R (R122, R141) -/

/-- A register instruction with the register fields and bits that it uses. -/
def LaneState.formatR (l : LaneState) (opc : Nat) (w used : Code) (f : Engine → Engine) : LaneState :=
  l.issue opc w (clean w used) fun l => l.regOp f

/-- Register fields of format R. -/
def rRD (w : Code) : Nat := fld w 57 55
def rRS (w : Code) : Nat := fld w 54 52
def rRT (w : Code) : Nat := fld w 51 49
def rRU (w : Code) : Nat := fld w 48 46
def useD : Code := ones 57 55
def useS : Code := ones 54 52
def useT : Code := ones 51 49
def useU : Code := ones 48 46

/-- RD = f(RS, RT). -/
def LaneState.binOp (l : LaneState) (opc : Nat) (w : Code) (f : DWord → DWord → DWord) : LaneState :=
  l.formatR opc w (useD ||| useS ||| useT) fun e => e.setD (rRD w) (f (e.dreg (rRS w)) (e.dreg (rRT w)))
/-- RD = sat64(f(RS, RT)). -/
def LaneState.satOp (l : LaneState) (opc : Nat) (w used : Code) (f : Int → Int → Int) : LaneState :=
  l.formatR opc w used fun e => e.setSat (rRD w) (f (e.dreg (rRS w)).toInt (e.dreg (rRT w)).toInt)
/-- RD = f(RS, SH). -/
def LaneState.shOp (l : LaneState) (opc : Nat) (w : Code) (f : DWord → Nat → DWord) : LaneState :=
  l.formatR opc w (useD ||| useS ||| ones 45 40) fun e => e.setD (rRD w) (f (e.dreg (rRS w)) (fld w 45 40))

/-- The smaller and the larger of two signed words. -/
def smin (a b : DWord) : DWord := if a.toInt < b.toInt then a else b
def smax (a b : DWord) : DWord := if b.toInt < a.toInt then a else b

def execEMov (x : Lane) (w : Code) (s : State) : Host.Outcome State Fault Refusal :=
  onLane x (·.formatR 0x20 w (useD ||| useS) fun e => e.setD (rRD w) (e.dreg (rRS w))) s
def execEAdd (x : Lane) (w : Code) (s : State) : Host.Outcome State Fault Refusal :=
  onLane x (·.binOp 0x21 w (· + ·)) s
def execESub (x : Lane) (w : Code) (s : State) : Host.Outcome State Fault Refusal :=
  onLane x (·.binOp 0x22 w (· - ·)) s
def execEAdds (x : Lane) (w : Code) (s : State) : Host.Outcome State Fault Refusal :=
  onLane x (·.satOp 0x23 w (useD ||| useS ||| useT) (· + ·)) s
def execESubs (x : Lane) (w : Code) (s : State) : Host.Outcome State Fault Refusal :=
  onLane x (·.satOp 0x24 w (useD ||| useS ||| useT) (· - ·)) s
def execEAnd (x : Lane) (w : Code) (s : State) : Host.Outcome State Fault Refusal :=
  onLane x (·.binOp 0x25 w (· &&& ·)) s
def execEOr (x : Lane) (w : Code) (s : State) : Host.Outcome State Fault Refusal :=
  onLane x (·.binOp 0x26 w (· ||| ·)) s
def execEXor (x : Lane) (w : Code) (s : State) : Host.Outcome State Fault Refusal :=
  onLane x (·.binOp 0x27 w (· ^^^ ·)) s
def execEShl (x : Lane) (w : Code) (s : State) : Host.Outcome State Fault Refusal :=
  onLane x (·.shOp 0x28 w (· <<< ·)) s
def execESar (x : Lane) (w : Code) (s : State) : Host.Outcome State Fault Refusal :=
  onLane x (·.shOp 0x29 w fun a n => a.sshiftRight n) s
def execEShr (x : Lane) (w : Code) (s : State) : Host.Outcome State Fault Refusal :=
  onLane x (·.shOp 0x2A w (· >>> ·)) s
def execEMin (x : Lane) (w : Code) (s : State) : Host.Outcome State Fault Refusal := onLane x (·.binOp 0x2B w smin) s
def execEMax (x : Lane) (w : Code) (s : State) : Host.Outcome State Fault Refusal := onLane x (·.binOp 0x2C w smax) s
def execEClamp (x : Lane) (w : Code) (s : State) : Host.Outcome State Fault Refusal :=
  onLane x (·.formatR 0x2D w (useD ||| useS ||| useT ||| useU) fun e =>
    e.setD (rRD w) (smin (smax (e.dreg (rRS w)) (e.dreg (rRT w))) (e.dreg (rRU w)))) s
def execEAbs (x : Lane) (w : Code) (s : State) : Host.Outcome State Fault Refusal :=
  onLane x (·.satOp 0x2E w (useD ||| useS) fun a _ => if a < 0 then -a else a) s
def execENeg (x : Lane) (w : Code) (s : State) : Host.Outcome State Fault Refusal :=
  onLane x (·.satOp 0x2F w (useD ||| useS) fun a _ => -a) s

/-! ### Format G (R124, R126, R141) -/

/-- AGCFG: sets B, L, M and MODE, and P to B. -/
def execEAgcfg (x : Lane) (w : Code) (s : State) : Host.Outcome State Fault Refusal :=
  onLane x (·.issue 0x30 w (clean w (ones 57 9) && decide (fld w 54 53 ≠ 3) &&
      agValid (fld w 54 53) (fld w 52 39) (fld w 38 24)) fun l =>
    l.regOp fun e => e.setAg (fld w 57 55)
      ⟨fld w 52 39, fld w 52 39, fld w 38 24, (w.extractLsb' 9 15).toInt, fld w 54 53⟩) s

/-- AGSET: sets P, folded into the window (R126). -/
def execEAgset (x : Lane) (w : Code) (s : State) : Host.Outcome State Fault Refusal :=
  let psrc := fld w 54 54 = 1
  onLane x (·.issue 0x31 w (clean w (ones 57 54 ||| if psrc then ones 53 51 else ones 50 37)) fun l =>
    l.regOp fun e =>
      let p := if psrc then (e.dreg (fld w 53 51)).toNat % 16384 else fld w 50 37
      let g := { e.agen (fld w 57 55) with p := p }.fold
      (if g.2 then e.stick 2 else e).setAg (fld w 57 55) g.1) s

def execEAgget (x : Lane) (w : Code) (s : State) : Host.Outcome State Fault Refusal :=
  onLane x (·.issue 0x32 w (clean w (ones 57 55 ||| ones 53 51)) fun l =>
    l.regOp fun e => e.setD (fld w 53 51) (BitVec.ofNat 64 (e.agen (fld w 57 55)).p)) s

def execEXld (x : Lane) (w : Code) (s : State) : Host.Outcome State Fault Refusal :=
  onLane x (·.issue 0x33 w (clean w (ones 57 55 ||| ones 53 49)) fun l =>
    l.plain [⟨.x, fld w 57 55, fld w 50 49, false⟩] fun n =>
      n.modEng (·.setD (fld w 53 51) (BitVec.ofInt 64 (l.opX (fld w 57 55))))) s

/-- XST: the X entry takes the register saturated to 32 bits (R122). -/
def execEXst (x : Lane) (w : Code) (s : State) : Host.Outcome State Fault Refusal :=
  onLane x (·.issue 0x34 w (clean w (ones 57 55 ||| ones 53 49)) fun l =>
    l.plain [⟨.x, fld w 57 55, fld w 50 49, true⟩] fun n =>
      let v := (l.eng.dreg (fld w 53 51)).toInt
      let c := min (max v (-(2 ^ 31))) (2 ^ 31 - 1)
      let n := if c = v then n else n.modEng (·.stick 1)
      n.engStore (l.eng.place .x (fld w 57 55)).1 4 (BitVec.ofInt 32 c).toNat) s

/-! ### CORDIC (R134, R135) -/

/-- A CORDIC instruction stalls until the running operation's results are ready; one that would issue after the 288
cycles waits for the overrun. -/
def LaneState.cordic (l : LaneState) (opc : Nat) (w used : Code) (legal : Bool) (f : Nat → Engine → Engine) : LaneState :=
  let at_ := max l.eng.cyc l.eng.crdReady
  if l.loop.run.any (fun r => decide (r.stage = .running)) ∧ l.eng.cyc < 288 ∧ 288 ≤ at_ ∧
      l.fetch = (BitVec.ofNat 6 opc ++ w, false) ∧ clean w used ∧ legal then l
  else l.issue opc w (clean w used && legal) fun l =>
    { l.regOp fun e => f (max e.cyc e.crdReady) e with cycles := max l.eng.cyc l.eng.crdReady - l.eng.cyc + 1 }

def execECrdrot (x : Lane) (w : Code) (s : State) : Host.Outcome State Fault Refusal :=
  onLane x (·.cordic 0x35 w (useS ||| useT ||| useU) true fun t e =>
    let v := fun n => (e.dreg n).extractLsb' 0 32
    let r := cordicRotate (v (rRS w)) (v (rRT w)) (v (rRU w))
    { e with crd0 := r.1, crd1 := r.2, crdReady := t + 18 }) s
def execECrdvec (x : Lane) (w : Code) (s : State) : Host.Outcome State Fault Refusal :=
  onLane x (·.cordic 0x36 w (useS ||| useT) true fun t e =>
    let v := fun n => (e.dreg n).extractLsb' 0 32
    let r := cordicVector (v (rRS w)) (v (rRT w))
    { e with crd0 := r.1, crd1 := r.2, crdReady := t + 18 }) s
def execECrdget (x : Lane) (w : Code) (s : State) : Host.Outcome State Fault Refusal :=
  onLane x (·.cordic 0x37 w (useD ||| useT) (decide (rRD w ≠ rRT w)) fun _ e =>
    (e.setD (rRD w) e.crd0).setD (rRT w) e.crd1) s

/-- CORDIC_RESULT_READY (R135): cycle t + 18 is reached; an instruction that waited for it may issue. -/
def execCordicResultReady (x : Lane) (s : State) : Host.Outcome State Fault Refusal :=
  onLane x (·.modEng fun e => { e with cyc := max e.cyc e.crdReady }) s

/-! ### Status word and control (R130 to R133, R136) -/

def execEGetsw (x : Lane) (w : Code) (s : State) : Host.Outcome State Fault Refusal :=
  onLane x (·.formatR 0x38 w useD fun e => e.setD (rRD w) (e.esw.setWidth 64)) s
def execEClrsw (x : Lane) (w : Code) (s : State) : Host.Outcome State Fault Refusal :=
  onLane x (·.formatR 0x39 w (ones 3 0) fun e => { e with sticky := e.sticky &&& ~~~(w.extractLsb' 0 4) }) s

/-- The condition of BR (R137). -/
def Engine.cond (e : Engine) (c rs : Nat) : Bool :=
  let v := (e.dreg rs).toInt
  match c with
  | 0 => true
  | 1 => decide (v = 0)
  | 2 => decide (v ≠ 0)
  | 3 => decide (v < 0)
  | 4 => decide (0 ≤ v)
  | 5 => decide (0 < v)
  | 6 => decide (v ≤ 0)
  | _ => e.sticky.getLsbD 0

/-- BR: taken, it ends every active loop (R133). -/
def execEBr (x : Lane) (w : Code) (s : State) : Host.Outcome State Fault Refusal :=
  let c := fld w 57 54
  onLane x (·.issue 0x3A w (clean w (ones 57 54 ||| (if c = 0 ∨ c = 7 then 0 else ones 53 51) ||| ones 44 32) &&
      decide (c ≤ 7)) fun l =>
    if l.eng.cond c (fld w 53 51) then ⟨[], id, 2, (fld w 44 32, [])⟩ else l.plain [] id) s

/-- The passes of a LOOP (R130). -/
def Engine.loopCount (e : Engine) (w : Code) : Nat :=
  if fld w 57 57 = 0 then fld w 53 38 else (min (max (e.dreg (fld w 56 54)).toInt 0) 65535).toNat

/-- LOOP (R130, R132): a count of 0 skips the body, an enclosing body's end acting as if it had been reached. -/
def execELoop (x : Lane) (w : Code) (s : State) : Host.Outcome State Fault Refusal :=
  onLane x (fun l =>
    let e := l.eng
    let stop := e.pc + fld w 37 32 + 1
    let inside := match e.loops with
      | [] => true
      | t :: _ => decide (stop ≤ t.stop)
    l.issue 0x3B w (clean w (ones 57 57 ||| (if fld w 57 57 = 1 then ones 56 54 else ones 53 38) ||| ones 37 32) &&
        decide (e.loops.length < 2 ∧ stop ≤ 8191) && inside) fun l =>
      let n := e.loopCount w
      { l.plain [] id with
        next := if n = 0 then advance stop e.loops else (e.pc + 1, ⟨e.pc + 1, stop, n⟩ :: e.loops) }) s

end Sys2Proof.Machine
end

