-- ==== Sys2Proof/Machine/Feedback.lean ====
section
/-!
DEFINITION. The feedback channels and the divided-pulse outputs (spec/09_position_feedback_and_sensor_ports.md R268 to
R282, R287 to R290). Commands carry levels at the balls and for how many samples they have been there; inversion and
the glitch filter make filtered levels of them (R269). Times are in 10 ns samples.
-/
namespace Sys2Proof.Machine
open Sys2Proof

/-- Modes of a channel (R270). -/
def Mode.quad : Nat := 1
def Mode.hall : Nat := 2
def Mode.tooth : Nat := 3
def Mode.pdir : Nat := 4
def Mode.duty : Nat := 5
def Mode.freq : Nat := 6

def LaneState.modFeed (l : LaneState) (f : FeedState → FeedState) : LaneState := { l with feed := f l.feed }
def LaneState.chan (l : LaneState) (k : Nat) : FbkChan := Table.get (fun _ => FbkChan.reset) l.feed.chans k
def LaneState.modChan (l : LaneState) (k : Nat) (f : FbkChan → FbkChan) : LaneState :=
  l.modFeed fun v => { v with chans := Table.upd (fun _ => FbkChan.reset) v.chans k f }
def LaneState.fbOut (l : LaneState) (j : Nat) : FbkOut := Table.get (fun _ => FbkOut.reset) l.feed.outs j

/-- The page of a channel, and one of its fault sources (R289). -/
def fbkPage (k : Nat) : Nat := 0x40012000 + 0x1000 * (k / 8)
def LaneState.pageSrc (l : LaneState) (b i : Nat) : Nat := getBits (l.rd (b + 0x028)) 0 8 + i

/-- A block that runs: its lane answers, RUN and RUNNING are set and no FENCE isolates it (R51, R405). -/
def LaneState.blockOn (l : LaneState) (b : Nat) : Bool :=
  l.alive && l.get (F.run b) == 1 && l.get (F.running b) == 1 && !l.blockFenced b

def LaneState.chMode (l : LaneState) (k : Nat) : Nat := l.get (F.FBKCH_CHCFG_MODE k)
/-- Whether a channel counts and updates (R270). -/
def LaneState.chanOn (l : LaneState) (k : Nat) : Bool := l.blockOn (fbkPage k) && l.chMode k != 0

/-! ### Input sampling (R269) -/

/-- The level of line `i` (0 A, 1 B, 2 I) whose ball shows `v`, inverted where CHCFG.INV says so. -/
def LaneState.lineLevel (l : LaneState) (k i : Nat) (v : Bool) : Bool :=
  v != (l.get (F.FBKCH_CHCFG_INV k) / 2 ^ i % 2 == 1)
/-- A code of the channel's lines, A in bit 0, as CHCFG.INV makes it. -/
def LaneState.lineCode (l : LaneState) (k code lines : Nat) : Nat := code ^^^ (l.get (F.FBKCH_CHCFG_INV k) % 2 ^ lines)
/-- Whether the glitch filter passes a level that its ball has shown for `held` samples in a row. -/
def LaneState.filtered (l : LaneState) (k held : Nat) : Bool := decide (l.get (F.FBKCH_CHCFG_FLT k) ≤ held)

/-! ### Events (R288, R289) -/

/-- The event register at `a`, of `width` bits with its enables at `ien` and its message register at `msg`, gains bit
`i`; the page's condition `j` follows. -/
def LaneState.latchEvt (l : LaneState) (b a ien msg j i width : Nat) : LaneState :=
  let old := getBits (l.rd a) 0 width
  let en := getBits (l.rd ien) 0 width
  let fire := old / 2 ^ i % 2 = 0 ∧ en / 2 ^ i % 2 = 1
  let l := l.wr a (l.rd a ||| mbit i)
  let l := l.irqLevel b j (l.rd a &&& l.rd ien != 0)
  if fire then l.sendMsg msg else l

/-- A CHEVT bit arises. -/
def LaneState.chEvt (l : LaneState) (k i : Nat) : LaneState :=
  l.latchEvt (fbkPage k) (R.FBKCH_CHEVT k) (R.FBKCH_CHIEN k) (R.FBKCH_CHMSG k) (k % 8) i 7

/-- CHEVT or CHIEN changed: the page's condition follows. -/
def LaneState.chEvtIrq (l : LaneState) (k : Nat) : LaneState :=
  l.irqLevel (fbkPage k) (k % 8) (l.rd (R.FBKCH_CHEVT k) &&& l.rd (R.FBKCH_CHIEN k) != 0)

/-- A read of CHEVT: the events, which it clears. -/
def LaneState.chevtRead (l : LaneState) (k : Nat) : LaneState × Word :=
  ((l.wr (R.FBKCH_CHEVT k) 0).chEvtIrq k, l.rd (R.FBKCH_CHEVT k))

/-! ### Quantities (R280) -/

/-- A register of a channel takes a value and updates the quantity `sel`. -/
def LaneState.quantity (l : LaneState) (k sel a now : Nat) (v : Word) : LaneState :=
  (l.wr a v).srcUpdate (srcKey 3 k sel) (v.setWidth 64) now

/-- Whether the mode produces a quantity: in another mode its bindings are stale (R280). -/
def LaneState.produces (l : LaneState) (k sel : Nat) : Bool :=
  let m := l.chMode k
  match sel with
  | 0 => 1 ≤ m && m ≤ 4
  | 1 => (1 ≤ m && m ≤ 4) || m == Mode.freq
  | 2 => 1 ≤ m
  | 3 => m == Mode.duty
  | 4 => m == Mode.duty
  | 5 => m == Mode.freq
  | 6 => 1 ≤ m
  | _ => m == Mode.quad || m == Mode.tooth || m == Mode.pdir

/-- The levels of A, B and I that a channel's commands have told, as a mask: both lines in QUAD, all three in HALL, A in
PDIR with EDGE = 1. -/
def LaneState.lvlKnown (l : LaneState) (k : Nat) : Nat :=
  if !(l.chan k).told then 0
  else if l.chMode k = Mode.quad then 3
  else if l.chMode k = Mode.hall then 7
  else if l.chMode k = Mode.pdir ∧ l.get (F.FBKCH_CHCFG_EDGE k) = 1 then 1 else 0

/-- STATE as it reads (R288): levels that no command has told are free; `i` and `j` tell two readings apart. -/
def LaneState.stateRead (l : LaneState) (k i j : Nat) : Word :=
  let w := l.rd (R.FBKCH_STATE k)
  let free := Config.pinLevels (16 * l.id.num + k) i j % 8
  let lv := (List.range 3).foldl (fun n b =>
    n + (if l.lvlKnown k / 2 ^ b % 2 = 1 then getBits w b 1 else free / 2 ^ b % 2) * 2 ^ b) 0
  setBits w 0 3 lv

/-- POS and STATE update at every sample while the channel runs; POS not while the Hall code is impossible (R280). -/
def LaneState.fbkLive (l : LaneState) (k sel i j : Nat) : Option DWord :=
  if !l.chanOn k then none
  else if sel = 6 then some ((l.stateRead k i j).setWidth 64)
  else if sel = 0 ∧ l.produces k 0 ∧ !(l.chan k).bad then some ((l.rd (R.FBKCH_POS k)).setWidth 64)
  else none

/-- The channel's live quantities stop updating at µs `now`. -/
def LaneState.fbkFreeze (l : LaneState) (k now : Nat) : LaneState :=
  let keep := fun (l : LaneState) sel =>
    match l.fbkLive k sel now 0 with
    | some v => l.srcUpdate (srcKey 3 k sel) v now
    | none => l
  keep (keep l 0) 6

/-! ### Divided-pulse outputs (R282, R290) -/

def FbkOut.pend (o : FbkOut) : Int :=
  o.queue.foldl (fun n i => match i with | .up => n + 1 | .down => n - 1 | .mark => n) 0

/-- Sets output `j`, OUTSTAT.PEND with it. -/
def LaneState.setOut (l : LaneState) (j : Nat) (o : FbkOut) : LaneState :=
  (l.modFeed fun v => { v with outs := Table.set (fun _ => FbkOut.reset) v.outs j o }).put (F.FBK_OUTSTAT_PEND j)
    (ofSigned 9 o.pend)

/-- One step enters the queue, or is dropped (R282, R290). -/
def LaneState.queueStep (l : LaneState) (j : Nat) (up : Bool) : LaneState :=
  let o := l.fbOut j
  let p := o.pend + if up then 1 else -1
  if p < -255 ∨ 255 < p then ((l.raise (l.pageSrc P.FBK 2)).irqPulse P.FBK (mbit j)).count P.FBK 2
  else l.setOut j { o with queue := o.queue ++ [if up then .up else .down] }

/-- Steps of the accumulator: while it has reached the denominator, one step is queued. -/
def LaneState.queueSteps (l : LaneState) (j : Nat) (up : Bool) : Nat → LaneState
  | 0 => l
  | n + 1 => (l.queueStep j up).queueSteps j up n

/-- A counted step `up` of the source channel (R282); `atIdx` says that it brought POS to IDXPOS. -/
def LaneState.outStep (l : LaneState) (j : Nat) (up atIdx : Bool) : LaneState :=
  let n := l.get (F.FBK_OUTRATIO_N j)
  let m := max 1 (l.get (F.FBK_OUTRATIO_M j))
  let o := l.fbOut j
  let a := o.acc + if up then (n : Int) else -(n : Int)
  let q : Nat := a.natAbs / m
  let r : Int := if a < 0 then a + (q * m : Nat) else a - (q * m : Nat)
  let l := (l.setOut j { o with acc := r }).queueSteps j (decide (0 ≤ a)) q
  if atIdx ∧ l.get (F.FBK_OUTCFG_IDXEN j) = 1 then
    l.setOut j { l.fbOut j with queue := (l.fbOut j).queue ++ [.mark] }
  else l

/-- Outputs that follow channel `k`. -/
def LaneState.outsOf (l : LaneState) (k : Nat) : List Nat :=
  (List.range 4).filter fun j =>
    l.get (F.FBK_OUTCFG_EN j) == 1 && l.get (F.FBK_OUTCFG_SRC j) == k && l.blockOn P.FBK

/-- The marker or markers at the head of a queue, and the rest. -/
def takeMarks : List OutItem → Bool × List OutItem
  | .mark :: r => (true, (takeMarks r).2)
  | q => (false, q)

/-- The phase of (B, A) (R273), and the code of a phase. -/
def quadPhase (code : Nat) : Nat := match code with | 0 => 0 | 2 => 1 | 3 => 2 | _ => 3
def quadCode (phase : Nat) : Nat := match phase % 4 with | 0 => 0 | 1 => 2 | 2 => 3 | _ => 1

/-- DIVIDED_OUTPUT_STEP (R282): one queued step is emitted; with none queued the pulses are over. -/
def LaneState.emitStep (l : LaneState) (j : Nat) : LaneState :=
  let o := l.fbOut j
  let pdir := l.get (F.FBK_OUTCFG_FMT j) = 1
  match takeMarks o.queue with
  | (m, i :: r) =>
    let up := i = .up
    let ph := quadPhase (bit o.pinA + 2 * bit o.pinB)
    let code := quadCode (ph + if up then 1 else 3)
    let o := { o with
      queue := r, pinI := m
      pinA := if pdir then true else code % 2 == 1
      pinB := if pdir then !decide up else decide (2 ≤ code) }
    ((l.setOut j o).put (F.FBK_OUTSTAT_STEPS j) (l.get (F.FBK_OUTSTAT_STEPS j) + 1)).count P.FBK 1
  | (_, []) => l.setOut j { o with pinI := false, pinA := o.pinA && !decide pdir }

def execDividedOutputStep (x : Lane) (j : Fin 4) (s : State) : Host.Outcome State Fault Refusal :=
  onLane x (fun l => if l.blockOn P.FBK ∧ l.get (F.FBK_OUTCFG_EN j.val) = 1 then l.emitStep j.val else l) s

/-- A write of OUTCFG_j: EN = 0 drives the pins low and clears accumulator and queue (R290). -/
def LaneState.outcfgEffect (l : LaneState) (j : Nat) : LaneState :=
  if l.get (F.FBK_OUTCFG_EN j) = 0 then l.setOut j .reset else l

/-! ### Counted steps (R271, R279) -/

/-- A counted step moves POS (R271); `s` is its sign after DIR. -/
def LaneState.moveStep (l : LaneState) (k : Nat) (down : Bool) : LaneState :=
  let cpr := l.get (F.FBKCH_CPR_CPR k)
  let pos := l.get (F.FBKCH_POS_POS k)
  let new := if down then (pos + cpr - 1) % cpr else (pos + 1) % cpr
  let l := (l.put (F.FBKCH_POS_POS k) new).put (F.FBKCH_STATE_DIRN k) (bit down)
  let l := if (!down ∧ new = 0) ∨ (down ∧ pos = 0) then l.chEvt k 6 else l
  let l := l.modChan k fun c => { c with win := c.win + if down then -1 else 1 }
  let l := l.count (fbkPage k) 1
  (l.outsOf k).foldl (fun (l : LaneState) j => l.outStep j (!down) (new == l.get (F.FBKCH_IDXPOS_IDXPOS k))) l

def LaneState.moveSteps (l : LaneState) (k : Nat) (down : Bool) : Nat → LaneState
  | 0 => l
  | n + 1 => (l.moveStep k down).moveSteps k down n

/-- A time in PERIOD. -/
def periodWord (t : Nat) : Word := if t < 2 ^ 32 then BitVec.ofNat 32 t else Config.longPeriod t

/-- PERIOD after a counted step in direction `down`, `t` after the step before it (R279): none before the first, and
0xFFFF_FFFF after a reversal. -/
def LaneState.stepPeriod (l : LaneState) (k t now : Nat) (down : Bool) : LaneState :=
  let v := match (l.chan k).dir with
    | none => BitVec.allOnes 32
    | some d => if d = down then periodWord t else BitVec.allOnes 32
  (l.quantity k 2 (R.FBKCH_PERIOD k) now v).modChan k fun c => { c with dir := some down }

/-- DIR negates every step. -/
def LaneState.stepDir (l : LaneState) (k : Nat) (down : Bool) : Bool := down != (l.get (F.FBKCH_CHCFG_DIR k) == 1)

/-- One counted step of QUAD, HALL or PDIR. -/
def LaneState.countStep (l : LaneState) (k t now : Nat) (down : Bool) : LaneState :=
  let d := l.stepDir k down
  (l.moveStep k d).stepPeriod k t now d

/-- A line error: `i` is the CHEVT bit (R273, R274). -/
def LaneState.lineError (l : LaneState) (k i : Nat) : LaneState :=
  (((l.bump (F.FBKCH_ERRCNT_LINE k) 1).raise (l.pageSrc (fbkPage k) 2)).count (fbkPage k) 2).chEvt k i

/-- Filtered levels that a command tells. -/
def LaneState.setLvl (l : LaneState) (k v : Nat) : LaneState :=
  (l.put (F.FBKCH_STATE_LVL k) v).modChan k fun c => { c with told := true }

/-- QUADRATURE_STATE_CHANGE (R269, R273): the code (B, A) at the balls went from `was` to `code` `held` samples ago, `t`
after the last counted step. -/
def LaneState.quadChange (l : LaneState) (k was code held t now : Nat) : LaneState :=
  let was := l.lineCode k was 2
  let code := l.lineCode k code 2
  if !l.filtered k held ∨ !l.chanOn k ∨ l.chMode k ≠ Mode.quad ∨ was = code ∨ (l.chan k).code.any (· != was) then l
  else
    let d := (quadPhase code + 4 - quadPhase was) % 4
    let l := if d = 2 then l.lineError k 0 else l.countStep k t now (d == 3)
    (l.modChan k fun c => { c with code := some code }).setLvl k (getBits (l.rd (R.FBKCH_STATE k)) 2 1 * 4 + code)

def execQuadratureStateChange (x : Lane) (k : Fin 16) (was code : Fin 4) (h : HeldTime) (s : State) :
    Host.Outcome State Fault Refusal :=
  onLane x (·.quadChange k.val was.val code.val h.held h.t s.nowUs) s

/-- The sector of a Hall code (R274). -/
def hallSector (code : Nat) : Nat := ([1, 3, 2, 6, 4, 5].findIdx? (· == code)).getD 7

/-- HALL_CODE_CHANGE (R269, R274): the code (I, B, A) at the balls became `code` `held` samples ago. -/
def LaneState.hallChange (l : LaneState) (k code held t now : Nat) : LaneState :=
  let code := l.lineCode k code 3
  let c := l.chan k
  let sec := hallSector code
  if !l.filtered k held ∨ !l.chanOn k ∨ l.chMode k ≠ Mode.hall ∨ c.code = some code then l
  else if sec = 7 then
    let l := if c.bad then l else l.fbkFreeze k now
    (((l.lineError k 1).put (F.FBKCH_STATE_SECTOR k) 7).modChan k fun c => { c with code := none, bad := true }).setLvl k code
  else
    let l := match c.code with
      | none => l
      | some r =>
        let d := (sec + 6 - hallSector r) % 6
        if d = 1 then l.countStep k t now false else if d = 5 then l.countStep k t now true else l.lineError k 1
    ((l.put (F.FBKCH_STATE_SECTOR k) sec).modChan k fun c => { c with code := some code, bad := false }).setLvl k code

def execHallCodeChange (x : Lane) (k : Fin 16) (code : Fin 8) (h : HeldTime) (s : State) : Host.Outcome State Fault Refusal :=
  onLane x (·.hallChange k.val code.val h.held h.t s.nowUs) s

/-! ### Index and reference (R277, R278) -/

/-- delta of R277. -/
def indexDelta (idx pos cpr : Nat) : Int :=
  ((idx : Int) - pos + (cpr / 2 : Nat)) % (cpr : Int) - (cpr / 2 : Nat)

/-- What a later index event with delta ≠ 0 does to POS (R278). -/
def LaneState.indexAct (l : LaneState) (k : Nat) (d : Int) : LaneState :=
  let mode := l.get (F.FBKCH_CHCFG_IDXMODE k)
  let l := (((l.bump (F.FBKCH_ERRCNT_IDX k) 1).raise (l.pageSrc (fbkPage k) 3)).count (fbkPage k) 4).chEvt k 2
  let set := l.wr (R.FBKCH_POS k) (l.rd (R.FBKCH_IDXPOS k))
  if mode = 1 then set
  else if mode = 2 then (if d.natAbs ≤ l.get (F.FBKCH_IDXTOL_TOL k) then set else l.chEvt k 3)
  else l

/-- An index event, after the steps of its sample. -/
def LaneState.indexEvent (l : LaneState) (k now : Nat) : LaneState :=
  let d := indexDelta (l.get (F.FBKCH_IDXPOS_IDXPOS k)) (l.get (F.FBKCH_POS_POS k)) (l.get (F.FBKCH_CPR_CPR k))
  let l := (l.quantity k 7 (R.FBKCH_IDXDELTA k) now (BitVec.ofInt 32 d)).count (fbkPage k) 3
  if l.get (F.FBKCH_STATE_REFOK k) = 0 then
    let l := (l.put (F.FBKCH_STATE_REFOK k) 1).chEvt k 4
    if l.get (F.FBKCH_CHCFG_IDXMODE k) = 0 then l else l.wr (R.FBKCH_POS k) (l.rd (R.FBKCH_IDXPOS k))
  else if d = 0 then l else l.indexAct k d

/-- INDEX_INPUT_EDGE (R269, R277): the ball of I has shown level `v` for `held` samples; a rising edge of the filtered
level counts, with the balls of A and B in the same sample. -/
def execIndexInputEdge (x : Lane) (k : Fin 16) (i : HeldLevel) (ab : LinePair) (s : State) : Host.Outcome State Fault Refusal :=
  onLane x (fun l =>
    let k := k.val
    let m := l.chMode k
    if !l.filtered k i.held ∨ !l.lineLevel k 2 i.level ∨ !l.chanOn k ∨ (m ≠ Mode.quad ∧ m ≠ Mode.pdir) ∨ l.get (F.FBKCH_CHCFG_IDXEN k) = 0 then l
    else if l.get (F.FBKCH_CHCFG_IDXQ k) = 1 ∧ !(l.lineLevel k 0 ab.a && l.lineLevel k 1 ab.b) then l
    else l.indexEvent k s.nowUs) s

/-! ### Toothed wheel, pulse and direction, duty and frequency (R275, R276) -/

/-- r of R275. -/
def toothRatio (t last : Nat) : Nat := if last = 0 then min 255 (Config.toothRatio t) else min 255 (16 * t / last)

/-- A tooth that counts `n` steps in the period `t` (R275, R279). -/
def LaneState.toothCount (l : LaneState) (k n t now : Nat) : LaneState :=
  let d := l.stepDir k false
  (l.moveSteps k d n).stepPeriod k t now d

/-- An edge of A (R269): the ball has shown level `v` for `held` samples; whether a running channel in mode `m` sees a
rising edge. -/
def LaneState.riseOfA (l : LaneState) (k m held : Nat) (v : Bool) : Bool :=
  l.filtered k held && l.lineLevel k 0 v && l.chanOn k && l.chMode k == m

/-- A rising edge of a tooth train (R275), `t` after the last counted edge. -/
def LaneState.toothEdge (l : LaneState) (k t now : Nat) : LaneState :=
  let c := l.chan k
  if !c.seen then (l.toothCount k 1 t now).modChan k fun c => { c with seen := true }
  else
    let r := if 1 ≤ c.runs then some (toothRatio t c.last) else none
    let l := l.modChan k fun c => { c with runs := c.runs + 1, last := t }
    if l.get (F.FBKCH_TOOTHCFG_TYPE k) = 0 then
      if r.any fun r => decide (l.get (F.FBKCH_TOOTHCFG_GAPHI k) ≤ r) then
        let n := l.get (F.FBKCH_TOOTHCFG_MISS k) + 1
        ((l.toothCount k n (t / n) now).modChan k fun c => { c with last := t / n }).indexEvent k now
      else l.toothCount k 1 t now
    else if r.any fun r => decide (r ≤ l.get (F.FBKCH_TOOTHCFG_GAPLO k)) then l.indexEvent k now
    else l.toothCount k 1 t now

/-- TOOTH_EDGE (R269, R275). -/
def execToothEdge (x : Lane) (k : Fin 16) (e : HeldEdge) (s : State) : Host.Outcome State Fault Refusal :=
  onLane x (fun l => if l.riseOfA k.val Mode.tooth e.held e.level then l.toothEdge k.val e.t s.nowUs else l) s

/-- PDIR_PULSE (R269, R276): the ball of A has shown level `v` for `held` samples, with the ball of B in the same sample;
a rising edge counts, and a falling one with EDGE = 1. -/
def execPdirPulse (x : Lane) (k : Fin 16) (v b : Bool) (h : HeldTime) (s : State) : Host.Outcome State Fault Refusal :=
  onLane x (fun l =>
    let k := k.val
    let up := l.lineLevel k 0 v
    if !l.filtered k h.held ∨ !l.chanOn k ∨ l.chMode k ≠ Mode.pdir ∨ (!up ∧ l.get (F.FBKCH_CHCFG_EDGE k) = 0) then l
    else
      let l := l.countStep k h.t s.nowUs (l.lineLevel k 1 b)
      if l.get (F.FBKCH_CHCFG_EDGE k) = 0 then l
      else l.setLvl k (getBits (l.rd (R.FBKCH_STATE k)) 1 2 * 2 + bit up)) s

/-- A rising edge of DUTY or FREQ, `t` after the one before it: PERIOD, and whether the measured quantities update
(R276). -/
def LaneState.riseEdge (l : LaneState) (k t now : Nat) : LaneState × Bool :=
  let c := l.chan k
  let l1 := if c.seen then l.quantity k 2 (R.FBKCH_PERIOD k) now (periodWord t) else l
  (l1.modChan k fun c => { c with seen := true, runs := c.runs + 1 }, c.seen && decide (1 ≤ c.runs))

/-- DUTY_RISING_EDGE (R269, R276): `high` is the time from the previous rising edge to the falling edge between them. -/
def execDutyRisingEdge (x : Lane) (k : Fin 16) (e : HeldEdge) (high : Nat) (s : State) : Host.Outcome State Fault Refusal :=
  onLane x (fun l =>
    let k := k.val
    if !l.riseOfA k Mode.duty e.held e.level ∨ e.t = 0 then l
    else
      let r := l.riseEdge k e.t s.nowUs
      if r.2 then
        (r.1.quantity k 4 (R.FBKCH_HIGHT k) s.nowUs (BitVec.ofNat 32 high)).quantity k 3 (R.FBKCH_DUTY k) s.nowUs
          (BitVec.ofNat 32 (min 0xFFFF (high * 65536 / e.t)))
      else r.1) s

/-- FREQ_RISING_EDGE (R276). -/
def execFreqRisingEdge (x : Lane) (k : Fin 16) (e : HeldEdge) (s : State) : Host.Outcome State Fault Refusal :=
  onLane x (fun l =>
    let k := k.val
    if !l.riseOfA k Mode.freq e.held e.level ∨ e.t = 0 then l
    else
      let r := l.riseEdge k e.t s.nowUs
      let l := r.1.modChan k fun c => { c with win := c.win + 1 }
      if r.2 then l.quantity k 5 (R.FBKCH_FREQ k) s.nowUs (BitVec.ofNat 32 (1600000000 / e.t)) else l) s

/-! ### Timeouts, windows and configuration (R272, R276, R279) -/

/-- FEEDBACK_TIMEOUT (R276, R279): only DUTY and FREQ raise the TMO source. No quantity updates while the Hall code is
impossible (R274). -/
def execFeedbackTimeout (x : Lane) (k : Fin 16) (s : State) : Host.Outcome State Fault Refusal :=
  onLane x (fun l =>
    let k := k.val
    if !l.chanOn k then l
    else
      let l := if (l.chan k).bad then l else l.quantity k 2 (R.FBKCH_PERIOD k) s.nowUs (BitVec.allOnes 32)
      let l := (l.modChan k fun c => { c with runs := 0 }).chEvt k 5
      if 5 ≤ l.chMode k then l.raise (l.pageSrc (fbkPage k) 4) else l) s

/-- SPEED_WINDOW_END (R276, R279): WINCNT takes the steps, or in FREQ the rising edges, of the window. -/
def execSpeedWindowEnd (x : Lane) (k : Fin 16) (s : State) : Host.Outcome State Fault Refusal :=
  onLane x (fun l =>
    let k := k.val
    if !l.chanOn k ∨ l.chMode k = Mode.duty then l
    else
      let c := l.chan k
      let l := if c.bad then l else l.quantity k 1 (R.FBKCH_WINCNT k) s.nowUs (BitVec.ofInt 32 c.win)
      l.modChan k fun c => { c with win := 0 }) s

/-- Speed windows restart at the start of their page (R279). -/
def LaneState.windowsRestart (l : LaneState) (p : Nat) : LaneState :=
  (List.range 8).foldl (fun (l : LaneState) k => l.modChan (8 * p + k) fun c => { c with win := 0 }) l

/-- A channel resets (R272). -/
def LaneState.chanReset (l : LaneState) (k : Nat) : LaneState :=
  let l := ((l.wr (R.FBKCH_POS k) 0).put (F.FBKCH_STATE_REFOK k) 0).put (F.FBKCH_STATE_SECTOR k) 7
  let l := l.wr (R.FBKCH_PERIOD k) (BitVec.allOnes 32)
  let l := [R.FBKCH_WINCNT k, R.FBKCH_DUTY k, R.FBKCH_HIGHT k, R.FBKCH_FREQ k].foldl (fun (l : LaneState) a => l.wr a 0) l
  let l := l.modChan k fun c => { FbkChan.reset with told := c.told }
  (List.range 4).foldl (fun (l : LaneState) j =>
    if l.get (F.FBK_OUTCFG_SRC j) = k then l.setOut j { l.fbOut j with acc := 0, queue := [] } else l) l

/-- A write of CHCFG (0), CPR (1) or TOOTHCFG (2): one that changes MODE, DIR, INV, CPR or TOOTHCFG resets the channel
(R272); after one of MODE, INV or EDGE no command has told a level yet. -/
def LaneState.chanCfgWrite (l : LaneState) (k reg : Nat) (v : Word) : LaneState :=
  let a := if reg = 0 then R.FBKCH_CHCFG k else if reg = 1 then R.FBKCH_CPR k else R.FBKCH_TOOTHCFG k
  let mask : Word := if reg = 0 then 0x7F else BitVec.allOnes 32
  let old := l.rd a
  l.command a v fun l _ =>
    let l := if l.rd a &&& mask = old &&& mask then l else l.chanReset k
    if reg = 0 ∧ (l.rd a ^^^ old) &&& 0xF7 ≠ 0 then l.modChan k fun c => { c with told := false } else l

def execChannelConfigReset (x : Lane) (k : Fin 16) (reg : Fin 3) (v : Word) (s : State) :
    Host.Outcome State Fault Refusal :=
  onLane x (·.chanCfgWrite k.val reg.val v) s

/-- POS_WRITE (R272). -/
def execPosWrite (x : Lane) (k : Fin 16) (v : Word) (s : State) : Host.Outcome State Fault Refusal :=
  onLane x (·.command (R.FBKCH_POS k.val) v fun l _ => l) s

/-- CHEVT_READ (R288). -/
def execChevtRead (x : Lane) (g : Agent) (k : Fin 16) (s : State) : Host.Outcome State Fault Refusal :=
  onLane x (·.readBy g (R.FBKCH_CHEVT k.val) (·.chevtRead k.val)) s

end Sys2Proof.Machine
end

