-- ==== Sys2Proof/Machine/Strata.lean ====
section
/-!
DEFINITION. The Strata ports (spec/10_strata_network.md): frames, schedules, sending and receiving, start-up, clock
synchronisation and safety messages. A frame's timestamp is local time in microticks from the start of its cycle.
-/
namespace Sys2Proof.Machine
open Sys2Proof

/-- Frame kinds (R302) and causes of SST (R337). -/
def Kind.data : Nat := 1
def Kind.safe : Nat := 2
def Kind.coldstart : Nat := 3
def SCause.ok : Nat := 0
def SCause.missing : Nat := 1
def SCause.edge : Nat := 2
def SCause.slotmis : Nat := 3
def SCause.nodemis : Nat := 4
def SCause.len : Nat := 5
def SCause.stalesrc : Nat := 6
def SCause.null : Nat := 7
def SCause.cycmis : Nat := 8
def SCause.fcs : Nat := 9
def SCause.defer : Nat := 10
def SCause.coll : Nat := 11

/-- A field of schedule entry or slot status `n` of port `p` (R336, R337). -/
def R.sch (p n : Nat) : Nat := if p = 0 then R.SCH_SCHX n else R.SCH_SCHY n
def R.sst (p n : Nat) : Nat := if p = 0 then R.SCH_SSTX n else R.SCH_SSTY n
def F.schDir (p n : Nat) : Fld := ⟨R.sch p n, 0, 2⟩
def F.schSync (p n : Nat) : Fld := ⟨R.sch p n, 2, 1⟩
def F.schKind (p n : Nat) : Fld := ⟨R.sch p n, 3, 1⟩
def F.schLen (p n : Nat) : Fld := ⟨R.sch p n, 4, 4⟩
def F.schSafeid (p n : Nat) : Fld := ⟨R.sch p n, 8, 6⟩
def F.schNode (p n : Nat) : Fld := ⟨R.sch p n, 16, 5⟩
def F.schNodechk (p n : Nat) : Fld := ⟨R.sch p n, 21, 1⟩
def F.schNotify (p n : Nat) : Fld := ⟨R.sch p n, 22, 1⟩
def F.schAgemax (p n : Nat) : Fld := ⟨R.sch p n, 24, 8⟩
def F.sstAge (p n : Nat) : Fld := ⟨R.sst p n, 0, 8⟩
def F.sstSrcage (p n : Nat) : Fld := ⟨R.sst p n, 8, 8⟩
def F.sstCause (p n : Nat) : Fld := ⟨R.sst p n, 16, 4⟩
def F.sstReady (p n : Nat) : Fld := ⟨R.sst p n, 20, 1⟩
def F.sstCyc (p n : Nat) : Fld := ⟨R.sst p n, 24, 8⟩
def F.txrdy (p n : Nat) : Fld := ⟨R.STR_TXRDY_XL + 8 * p + 4 * (n / 32), n % 32, 1⟩

/-- The buffer words of a slot and of a safety message (R336). -/
def R.buf (p n w : Nat) : Nat := 0x40022100 + 0x1000 * (2 * p + n / 32) + 0x40 * (n % 32) + 8 * w
def R.sbuf (i w : Nat) : Nat := 0x40026100 + 0x1000 * (i / 32) + 0x40 * (i % 32) + 8 * w
def LaneState.rd64 (l : LaneState) (a : Nat) : DWord := l.rd (a + 4) ++ l.rd a
def LaneState.wr64 (l : LaneState) (a : Nat) (v : DWord) : LaneState :=
  (l.wr a (v.extractLsb' 0 32)).wr (a + 4) (v.extractLsb' 32 32)

/-- The slots that a port's schedule uses (R306). -/
def LaneState.slotsOf (l : LaneState) (p : Nat) : List Nat := List.range (min 64 (l.get (F.STR_CYCCFG_NSLOTS p)))
def LaneState.isTx (l : LaneState) (p n : Nat) : Bool := l.get (F.schDir p n) == 1
def LaneState.isRx (l : LaneState) (p n : Nat) : Bool := l.get (F.schDir p n) == 2
def LaneState.isSafe (l : LaneState) (p n : Nat) : Bool := l.get (F.schKind p n) == 1

/-- The entry that holds the buffer and READY bit of a TX entry: a SAFE entry of port Y shares those of the SAFE entry
of port X with its SAFEID (R327). -/
def LaneState.txHome (l : LaneState) (p n : Nat) : Nat × Nat :=
  if p = 1 && l.isTx 1 n && l.isSafe 1 n then
    match (List.range 64).find? fun m => l.isTx 0 m && l.isSafe 0 m &&
        l.get (F.schSafeid 0 m) == l.get (F.schSafeid 1 n) with
    | some m => (0, m)
    | none => (p, n)
  else (p, n)

/-- READY of a TX entry (R310), in TXRDY and in SST. -/
def LaneState.txReady (l : LaneState) (p n : Nat) : Bool :=
  let h := l.txHome p n
  l.get (F.txrdy h.1 h.2) == 1
def LaneState.setTxReady (l : LaneState) (p n : Nat) (v : Bool) : LaneState :=
  let h := l.txHome p n
  (l.put (F.txrdy h.1 h.2) (bit v)).put (F.sstReady h.1 h.2) (bit v)

/-- STRTX words are written at launch, and READY of their slots is set after the last (R161, R310); a word for an entry
that is not TX goes nowhere (R336). -/
def LaneState.strataLaunch (l : LaneState) (ws : List (Nat × Nat × DWord)) : LaneState :=
  let ws := ws.filter fun e => l.isTx (e.1 / 64) (e.1 % 64)
  let l := ws.foldl (fun (l : LaneState) e =>
    let h := l.txHome (e.1 / 64) (e.1 % 64)
    l.wr64 (R.buf h.1 h.2 e.2.1) e.2.2) l
  ws.foldl (fun (l : LaneState) e => l.setTxReady (e.1 / 64) (e.1 % 64) true) l

/-! ### Frames as bytes (R301 to R303) -/

/-- A number as `n` bytes, most significant first. -/
def beBytes (n v : Nat) : List Byte := (List.range n).map fun i => BitVec.ofNat 8 (v >>> (8 * (n - 1 - i)))
/-- Bytes, most significant first, as a number. -/
def beNat (bs : List Byte) : Nat := bs.foldl (fun acc b => 256 * acc + b.toNat) 0

/-- The CRC-32C of a SAFE frame: LEN, SAFEID, payload and SEQ in the order sent (R303). -/
def StrFrame.crc (f : StrFrame) : Word :=
  crc32c (beBytes 1 f.len ++ beBytes 1 f.safeid ++ f.payload.flatMap (fun w => beBytes 8 w.toNat) ++ beBytes 4 f.seq.toNat)

/-- The header and payload of a frame, padded to 46 bytes. -/
def StrFrame.body (f : StrFrame) : List Byte :=
  let b := beBytes 1 (16 + f.kind) ++ beBytes 1 f.slot ++ beBytes 1 f.node ++
    beBytes 1 (bit f.sync + 2 * bit f.cstart + 4 * bit f.null) ++ beBytes 4 f.cycle.toNat ++ beBytes 1 f.age ++
    beBytes 1 f.len ++ beBytes 1 f.safeid ++ beBytes 1 0 ++ f.payload.flatMap (fun w => beBytes 8 w.toNat) ++
    (if f.kind = Kind.safe then beBytes 4 f.seq.toNat ++ beBytes 4 f.crc.toNat else [])
  b ++ List.replicate (46 - b.length) 0

/-- The frame that a port sends, from the destination address to the padding (R301). -/
def LaneState.strBytes (l : LaneState) (p : Nat) (f : StrFrame) : List Byte :=
  beBytes 2 (l.get (F.STR_MACDST_H_ADDR p)) ++ beBytes 4 (l.rd (R.STR_MACDST_L p)).toNat ++
    beBytes 2 (l.get (F.STR_MACSRC_H_ADDR p)) ++ beBytes 4 (l.rd (R.STR_MACSRC_L p)).toNat ++ [0x88, 0xB5] ++ f.body

/-- The frame that bytes carry, if it is a Strata frame (R301), and whether its header's zero fields are 0. -/
def LaneState.strParse (l : LaneState) (p : Nat) (bs : List Byte) : Option (StrFrame × Bool) :=
  let h := bs.drop 14
  let f := fun i => (h.getD i 0).toNat
  if bs.take 6 ≠ beBytes 2 (l.get (F.STR_MACDST_H_ADDR p)) ++ beBytes 4 (l.rd (R.STR_MACDST_L p)).toNat ∨
      (bs.drop 12).take 2 ≠ [0x88, 0xB5] ∨ f 0 / 16 ≠ 1 ∨ h.length < 12 then none
  else
    let n := min (f 9) 8
    let words := (List.range n).map fun w => BitVec.ofNat 64 (beNat ((h.drop (12 + 8 * w)).take 8))
    let t := h.drop (12 + 8 * n)
    let fr : StrFrame :=
      { kind := f 0 % 16, slot := f 1 % 64, node := f 2 % 32, sync := f 3 % 2 = 1, cstart := f 3 / 2 % 2 = 1,
        null := f 3 / 4 % 2 = 1, cycle := BitVec.ofNat 32 (beNat ((h.drop 4).take 4)), age := f 8, len := f 9,
        safeid := f 10 % 64, payload := words, seq := BitVec.ofNat 32 (beNat (t.take 4)), crcOk := false }
    some ({ fr with crcOk := beNat ((t.drop 4).take 4) == fr.crc.toNat },
      decide (f 1 < 64 ∧ f 2 < 32 ∧ f 10 < 64 ∧ f 11 = 0))

/-! ### The configuration check (R308) -/

/-- Bytes of a frame on the medium (R304). -/
def frameBytes (len : Nat) (safe : Bool) : Nat := 8 + 14 + max 46 (12 + 8 * len + 8 * bit safe) + 4

/-- An enabled SAFERX that does not name, on this port, an RX entry of kind SAFE with its number (R337). -/
def LaneState.saferxBad (l : LaneState) (p : Nat) : Bool :=
  (List.range 64).any fun i =>
    let n := l.get (if p = 0 then F.SCH_SAFERX_XSLOT i else F.SCH_SAFERX_YSLOT i)
    l.get (F.SCH_SAFERX_EN i) == 1 && !(l.isRx p n && l.isSafe p n && l.get (F.schSafeid p n) == i)

/-- Whether a configuration is one of those R308 refuses. -/
def LaneState.cfgErr (l : LaneState) (p : Nat) : Bool :=
  let slen := l.get (F.STR_SLOTTIM_SLOTLEN p)
  let syncw := l.get (F.STR_WINCFG_SYNCW p)
  let apo := l.get (F.STR_SLOTTIM_APO p)
  let accw := l.get (F.STR_WINCFG_ACCW p)
  let ns := l.slotsOf p
  let syncTx := (ns.filter fun n => l.isTx p n && l.get (F.schSync p n) == 1).length
  let syncn := l.get (F.STR_PCTL_SYNCN p)
  decide (l.get (F.STR_CYCCFG_CYCLEN p) < l.get (F.STR_CYCCFG_NSLOTS p) * slen + syncw) ||
  decide (syncw * 100 < l.get (F.STR_SYNCCFG_OCLIM p) + 1000) ||
  decide (apo * 100 < accw + 100) ||
  (ns.any fun n => (l.isTx p n || l.isRx p n) &&
    decide (100 * slen < 100 * apo + 80 * frameBytes (l.get (F.schLen p n)) (l.isSafe p n) + 960 + accw)) ||
  decide (syncTx ≠ syncn) ||
  decide (15 < (ns.filter fun n => l.get (F.schSync p n) == 1).length) ||
  (l.get (F.STR_PCTL_CSN p) == 1 && syncn == 0) ||
  (ns.any fun n => l.isRx p n && l.get (F.schSync p n) == 1 && l.isSafe p n) || l.saferxBad p

/-! ### Ports start and stop -/

/-- A write of PCTL with RUN = 1 (R308, R316): a stopped port checks its configuration and, with the page's RUN = 1, enters
LISTEN. The first delivery of each safety message after a port start sets the reference (R329); SEQ starts at 0 when the X port starts (R327). -/
def LaneState.portStart (l : LaneState) (p : Nat) : LaneState :=
  let l := l.put (F.STR_PSTAT_CSATT p) 0
  if l.portState p ≠ Prt.stopped then l
  else if l.cfgErr p then l.put (F.STR_PSTAT_CFGERR p) 1
  else if l.get (F.run P.STR) = 0 ∨ l.fencedBy (.port p) then l.put (F.STR_PSTAT_CFGERR p) 0
  else
    let l := (l.put (F.STR_PSTAT_CFGERR p) 0).modPort p fun q => { StrPort.reset with rxq := q.rxq, ovf := q.ovf }
    let l := (List.range 64).foldl (fun (l : LaneState) i => l.put (F.SCH_SAFEST_REF i) 0) l
    let l := if p = 0 then { l with strata := { l.strata with recs := [] } } else l
    l.setPort p Prt.listen

/-- A write of PCTL_P (R308): `RUN` = 1 in it starts the port. -/
def LaneState.pctlWrite (l : LaneState) (p : Nat) (v : Word) : LaneState :=
  l.command (R.STR_PCTL p) v fun l e => if getBits e 0 1 = 1 then l.portStart p else l

def execPortRun (x : Lane) (p : Fin 2) (v : Word) (s : State) : Host.Outcome State Fault Refusal :=
  onLane x (·.pctlWrite p.val v) s

/-- Whether a port runs: started and not told to stop. -/
def LaneState.portLive (l : LaneState) (p : Nat) : Bool := l.alive && !l.blockFenced P.STR && l.portState p ≠ Prt.stopped

/-! ### Sending (R309, R310, R327) -/

/-- Whether the port runs a cycle. -/
def LaneState.inCycle (l : LaneState) (p : Nat) : Bool :=
  let st := l.portState p
  l.portLive p && (st == Prt.integrate || st == Prt.sync || st == Prt.passive ||
    (st == Prt.coldstart && (l.port p).cs == 1))

/-- A frame of slot `n` with its payload and AGE. -/
def LaneState.strFrame (l : LaneState) (p n : Nat) (payload : Option (List DWord)) (age : Nat) (seq : Word) : StrFrame :=
  let safe := l.isSafe p n
  { kind := if safe then Kind.safe else Kind.data, slot := n, node := l.get (F.STR_PCTL_NODE p),
    sync := l.get (F.schSync p n) == 1, cstart := false, null := payload.isNone, cycle := 0, age := age,
    len := (payload.getD []).length, safeid := if safe then l.get (F.schSafeid p n) else 0,
    payload := payload.getD [], seq := seq, crcOk := true }

/-- The words 0 to LEN − 1 of an entry's buffer. -/
def LaneState.bufWords (l : LaneState) (p n : Nat) : List DWord :=
  let h := l.txHome p n
  (List.range (l.get (F.schLen p n))).map fun w => l.rd64 (R.buf h.1 h.2 w)

/-- The header AGE of a port's last send of a record. -/
def SafeRec.age (r : SafeRec) (p : Nat) : Option Nat := if p = 0 then r.ageX else r.ageY
def SafeRec.setAge (r : SafeRec) (p : Nat) (a : Option Nat) : SafeRec :=
  if p = 0 then { r with ageX := a } else { r with ageY := a }
def LaneState.safeRec (l : LaneState) (k : Nat) : Option SafeRec := Table.get (fun _ => none) l.strata.recs k
def LaneState.setSafeRec (l : LaneState) (k : Nat) (r : Option SafeRec) : LaneState :=
  { l with strata := { l.strata with recs := Table.set (fun _ => none) l.strata.recs k r } }

/-- A SAFE entry's transmit deadline (R327): a new record when READY and the current one has been sent on both ports or
the other port is not in SYNC; else the current record again. -/
def LaneState.safeDeadline (l : LaneState) (p n : Nat) : LaneState :=
  let h := l.txHome p n
  let k := 64 * h.1 + h.2
  let done := match l.safeRec k with
    | some r => r.ageX.isSome && r.ageY.isSome
    | none => true
  let l := if l.txReady p n && (done || l.portState (1 - p) != Prt.sync) then
      let seq := match l.safeRec k with
        | some r => r.seq + 1
        | none => 1
      (l.setSafeRec k (some ⟨seq, l.bufWords p n, none, none⟩)).setTxReady p n false
    else l
  match l.safeRec k with
  | some r =>
    let age := match r.age p with
      | some a => min (a + 1) 255
      | none => 0
    (l.put (F.sstAge p n) age).modPort p fun q => { q with out := some (l.strFrame p n (some r.payload) age r.seq) }
  | none => (l.put (F.sstAge p n) 0).modPort p fun q => { q with out := some (l.strFrame p n none 0 0) }

/-- A DATA entry's transmit deadline (R310). -/
def LaneState.dataDeadline (l : LaneState) (p n : Nat) : LaneState :=
  if l.txReady p n then
    let ws := l.bufWords p n
    let l := (l.setTxReady p n false).put (F.sstAge p n) 0
    l.modPort p fun q => { q with
      latched := Table.set (fun _ => none) q.latched n (some ws), out := some (l.strFrame p n (some ws) 0 0) }
  else
    match Table.get (fun _ => none) (l.port p).latched n with
    | some ws =>
      let age := min (l.get (F.sstAge p n) + 1) 255
      (l.put (F.sstAge p n) age).modPort p fun q => { q with out := some (l.strFrame p n (some ws) age 0) }
    | none => (l.put (F.sstAge p n) 0).modPort p fun q => { q with out := some (l.strFrame p n none 0 0) }

/-- TRANSMIT_DEADLINE (R310, R327). -/
def execTransmitDeadline (x : Lane) (p : Fin 2) (n : Fin 64) (s : State) : Host.Outcome State Fault Refusal :=
  onLane x (fun l =>
    if !l.inCycle p.val ∨ !(l.slotsOf p.val).contains n.val ∨ !l.isTx p.val n.val then l
    else if l.isSafe p.val n.val then l.safeDeadline p.val n.val else l.dataDeadline p.val n.val) s

/-- Whether the port sends in slot `n` in its state (R309). -/
def LaneState.maySend (l : LaneState) (p n : Nat) : Bool :=
  l.isTx p n && (l.slotsOf p).contains n &&
    (l.portState p == Prt.sync || (l.portState p == Prt.coldstart && l.get (F.schSync p n) == 1))

/-- ACTION_POINT (R309). -/
def execActionPoint (x : Lane) (p : Fin 2) (n : Fin 64) (carrier : Bool) (s : State) : Host.Outcome State Fault Refusal :=
  onLane x (fun l =>
    let p := p.val; let n := n.val
    match (l.port p).out with
    | none => l
    | some f =>
      if f.slot ≠ n ∨ !l.inCycle p then l
      else
        let l := l.modPort p fun q => { q with out := none }
        if !l.maySend p n then l
        else if carrier then
          (((l.put (F.sstCause p n) SCause.defer).bump (F.STR_TXFAIL_DEFER p) 1).count P.STR 6).modPort p
            fun q => { q with caused := insertNat n q.caused }
        else
          let f := { f with cycle := l.rd (R.STR_CYCCNT p), cstart := l.portState p == Prt.coldstart }
          l.modPort p fun q => { q with air := some f }) s

/-- A cold-start attempt has failed (R318): back-off, or LISTENONLY and CSFAIL with CSATT = 3. -/
def LaneState.coldFail (l : LaneState) (p : Nat) : LaneState :=
  if 3 ≤ l.get (F.STR_PSTAT_CSATT p) then (l.setPort p Prt.listenOnly).raise 98
  else l.modPort p fun q => { q with cs := 2 }

/-- STRATA_COLLISION (R309, R318): the port jams; a collision of its COLDSTART frame fails the attempt. -/
def execStrataCollision (x : Lane) (p : Fin 2) (s : State) : Host.Outcome State Fault Refusal :=
  onLane x (fun l =>
    let p := p.val
    match (l.port p).air with
    | none => l
    | some f =>
      let l := ((l.put (F.sstCause p f.slot) SCause.coll).bump (F.STR_TXFAIL_COLL p) 1).count P.STR 6
      let l := l.modPort p fun q => { q with air := none, caused := insertNat f.slot q.caused }
      if f.kind = Kind.coldstart then l.coldFail p else l) s

/-- The frame on the medium has ended (R310, R320, R327). -/
def LaneState.sent (l : LaneState) (p : Nat) (f : StrFrame) : LaneState :=
  let l := l.modPort p fun q => { q with air := none }
  let l := ((l.bump (F.STR_TXCNT_COUNT p) 1).put (F.sstCyc p f.slot) (f.cycle.toNat % 256)).count P.STR 2
  let l := l.put (F.sstCause p f.slot) SCause.ok
  let l := if f.sync ∧ f.kind ≠ Kind.coldstart ∧ l.get (F.STR_PCTL_SYNCN p) = 1 then
      l.modPort p fun q => { q with dev := q.dev ++ [(l.get (F.STR_PCTL_NODE p), 0)] }
    else l
  if f.kind = Kind.safe ∧ !f.null then
    let h := l.txHome p f.slot
    let k := 64 * h.1 + h.2
    match l.safeRec k with
    | some r => if r.seq = f.seq then l.setSafeRec k (some (r.setAge p (some f.age))) else l
    | none => l
  else l

/-- PORT_STOP (R316): with RUN = 0 on the port, or on the page; a frame on the medium ends first. -/
def execPortStop (x : Lane) (p : Fin 2) (s : State) : Host.Outcome State Fault Refusal :=
  onLane x (fun l =>
    if l.portLive p.val ∧ (l.get (F.STR_PCTL_RUN p.val) = 0 ∨ l.get (F.run P.STR) = 0) then
      let l := match (l.port p.val).air with
        | some f => l.sent p.val f
        | none => l
      let l := (l.modPort p.val fun q => { q with out := none }).portEnter p.val Prt.stopped true
      if l.get (F.run P.STR) = 0 ∧ l.portState 0 = 0 ∧ l.portState 1 = 0 then l.put (F.running P.STR) 0 else l
    else l) s

/-! ### Receiving (R311 to R314) -/

/-- The expected timestamp of slot `n` in microticks from the cycle start (R307). -/
def LaneState.expected (l : LaneState) (p n : Nat) : Int :=
  100 * (n * l.get (F.STR_SLOTTIM_SLOTLEN p) + l.get (F.STR_SLOTTIM_APO p) : Nat) + 640 + l.get (F.STR_STRTCFG_DELAYCOMP p)

/-- The slot whose acceptance window contains the timestamp (R311). -/
def LaneState.windowSlot (l : LaneState) (p : Nat) (t : Int) : Option Nat :=
  (l.slotsOf p).find? fun n => decide ((t - l.expected p n).natAbs ≤ l.get (F.STR_WINCFG_ACCW p))

/-- The slot in whose span the timestamp lies (R312). -/
def LaneState.spanSlot (l : LaneState) (p : Nat) (t : Int) : Option Nat :=
  if t < 0 then none
  else
    let n := t.toNat / (100 * max 1 (l.get (F.STR_SLOTTIM_SLOTLEN p)))
    if n < l.get (F.STR_CYCCFG_NSLOTS p) then some n else none

/-- The cause of a frame in slot `n`, with the number of checks of R311 it passed. -/
def LaneState.rxCheck (l : LaneState) (p n : Nat) (f : StrFrame) : Nat × Nat :=
  let kind := if l.isSafe p n then Kind.safe else Kind.data
  if f.slot ≠ n then (SCause.slotmis, 1)
  else if !l.isRx p n ∨ f.kind ≠ kind then (SCause.slotmis, 2)
  else if l.get (F.schNodechk p n) = 1 ∧ f.node ≠ l.get (F.schNode p n) then (SCause.nodemis, 3)
  else if f.cycle ≠ l.rd (R.STR_CYCCNT p) then (SCause.cycmis, 4)
  else if f.null then (SCause.null, 5)
  else if f.len ≠ l.get (F.schLen p n) then (SCause.len, 6)
  else if l.get (F.schAgemax p n) < f.age then (SCause.stalesrc, 7)
  else if f.kind = Kind.safe ∧ (!f.crcOk ∨ f.safeid ≠ l.get (F.schSafeid p n)) then (SCause.null, 8)
  else (SCause.ok, 8)

/-- A discard with its cause on a slot (R311, R335). -/
def LaneState.rxDiscard (l : LaneState) (p : Nat) (n : Option Nat) (cause : Nat) : LaneState :=
  let l := ((l.bump (F.STR_RXDISC_COUNT p) 1).raise 99).count P.STR 3
  match n with
  | some n => (l.put (F.sstCause p n) cause).modPort p fun q => { q with caused := insertNat n q.caused }
  | none => l

/-- An entry is appended to the port's receive queue (R314). -/
def LaneState.rxqPush (l : LaneState) (p n cyc : Nat) : LaneState :=
  let q := l.port p
  if 32 ≤ q.rxq.length then l.modPort p fun q => { q with ovf := true }
  else
    let l := l.modPort p fun q => { q with rxq := q.rxq ++ [(n, cyc)] }
    if q.rxq.isEmpty then l.sendMsg (R.STR_RXQMSG p) else l

/-- A frame is stored in its slot's buffer (R311, R313, R314): an update of every word's source. -/
def LaneState.rxStore (l : LaneState) (p n : Nat) (f : StrFrame) (now : Nat) : LaneState :=
  let l := (List.range f.payload.length).foldl (fun (l : LaneState) w =>
    let v := f.payload.getD w 0
    (l.wr64 (R.buf p n w) v).srcUpdate (srcKey 0 (64 * p + n) w) v now) l
  let l := ((l.put (F.sstAge p n) 0).put (F.sstSrcage p n) f.age).put (F.sstCause p n) SCause.ok
  let l := ((l.put (F.sstCyc p n) (f.cycle.toNat % 256)).bump (F.STR_RXOK_COUNT p) 1).count P.STR 1
  let l := l.modPort p fun q => { q with stored := insertNat n q.stored }
  if l.get (F.schNotify p n) = 1 then l.rxqPush p n (f.cycle.toNat % 256) else l

/-! ### Safety messages (R328, R329) -/

/-- SAFEST causes (R337). -/
def Safe.ok : Nat := 1
def Safe.single : Nat := 2
def Safe.repeated : Nat := 3
def Safe.disagree : Nat := 4
def Safe.seqerr : Nat := 5
def Safe.missing : Nat := 6
def Safe.resync : Nat := 7

def LaneState.pendCopy (l : LaneState) (i : Nat) : Option SafePend := Table.get (fun _ => none) l.strata.pend i
def LaneState.setPend (l : LaneState) (i : Nat) (v : Option SafePend) : LaneState :=
  { l with strata := { l.strata with pend := Table.set (fun _ => none) l.strata.pend i v } }
def LaneState.setCand (l : LaneState) (i : Nat) (v : Option Nat) : LaneState :=
  { l with strata := { l.strata with cand := Table.set (fun _ => none) l.strata.cand i v } }
def LaneState.safeCause (l : LaneState) (i v : Nat) : LaneState := l.put (F.SCH_SAFEST_CAUSE i) v

/-- A message is appended to the safety queue (R329). -/
def LaneState.safeqPush (l : LaneState) (i : Nat) : LaneState :=
  let q := l.strata.safeq
  if 32 ≤ q.length then { l with strata := { l.strata with safeOvf := true } }
  else
    let l := { l with strata := { l.strata with safeq := q ++ [i] } }
    if q.isEmpty then l.sendMsg R.STR_SAFEQMSG else l

/-- A safety message is updated (R329). -/
def LaneState.safeUpdate (l : LaneState) (i : Nat) (c : SafePend) (cause now : Nat) : LaneState :=
  let l := (List.range c.payload.length).foldl (fun (l : LaneState) w =>
    let v := c.payload.getD w 0
    (l.wr64 (R.sbuf i w) v).srcUpdate (srcKey 1 i w) v now) l
  let l := { l with strata := { l.strata with last := Table.set (fun _ => 0) l.strata.last i c.seq.toNat } }
  let l := (l.put (F.SCH_SAFEST_LASTSEQ i) c.seq.toNat).put (F.SCH_SAFEST_REF i) 1
  let l := (l.safeCause i cause).setCand i none
  let l := (l.bump F.STR_SAFEOK_COUNT 1).count P.STR 7
  if l.get (F.SCH_SAFERX_NOTIFY i) = 1 then l.safeqPush i else l

/-- deliver() with the sequence check (R329). -/
def LaneState.deliver (l : LaneState) (i : Nat) (c : SafePend) (single : Bool) (now : Nat) : LaneState :=
  let ok := if single then Safe.single else Safe.ok
  let last := Table.get (fun _ => 0) l.strata.last i
  let d := (c.seq.toNat + 2 ^ 32 - last) % 2 ^ 32
  if l.get (F.SCH_SAFEST_REF i) = 0 then l.safeUpdate i c ok now
  else if d = 0 then (l.safeCause i Safe.repeated).setCand i none
  else if d ≤ l.get (F.SCH_SAFERX_SEQWIN i) then (l.bump F.STR_SAFEERR_GAP (d - 1)).safeUpdate i c ok now
  else
    let l := l.bump F.STR_SAFEERR_SEQ 1
    let next := match Table.get (fun _ => none) l.strata.cand i with
      | some k => (k + 1) % 2 ^ 32 == c.seq.toNat || (c.seq.toNat + 1) % 2 ^ 32 == k
      | none => false
    if next then l.safeUpdate i c Safe.resync now else (l.safeCause i Safe.seqerr).setCand i (some c.seq.toNat)

/-- A copy of safety message `i` (R328). -/
def LaneState.safeCopy (l : LaneState) (i : Nat) (c : SafePend) (now : Nat) : LaneState :=
  let unmatched : LaneState :=
    if l.portState (1 - c.port) ≠ Prt.sync ∧ l.get (F.SCH_SAFERX_SINGLE i) = 1 then l.deliver i c true now
    else
      let l := if (l.pendCopy i).isSome then (l.safeCause i Safe.missing).bump F.STR_SAFEERR_MISS 1 else l
      l.setPend i (some c)
  match l.pendCopy i with
  | some q =>
    if q.port ≠ c.port ∧ q.seq = c.seq then
      let l := l.setPend i none
      if q.payload = c.payload then l.deliver i c false now
      else (((l.safeCause i Safe.disagree).bump F.STR_SAFEERR_DIS 1).irqPulse P.STR (mbit 6)).raise 97
    else unmatched
  | none => unmatched

/-- A stored SAFE frame is a copy of every enabled message that names its entry (R328). -/
def LaneState.safeCopies (l : LaneState) (p n : Nat) (f : StrFrame) (now : Nat) : LaneState :=
  (List.range 64).foldl (fun (l : LaneState) i =>
    if l.get (F.SCH_SAFERX_EN i) = 1 ∧ l.get (if p = 0 then F.SCH_SAFERX_XSLOT i else F.SCH_SAFERX_YSLOT i) = n then
      l.safeCopy i ⟨p, f.seq, f.payload⟩ now
    else l) l

/-- A frame received in a running cycle (R311), stored `lat` fabric cycles after its last bit (R487). In COLDSTART a port takes only sync frames (R315). -/
def LaneState.strReceive (l : LaneState) (p : Nat) (f : StrFrame) (fcsOk : Bool) (t : Int) (lat now : Nat) : LaneState :=
  let cold := l.portState p == Prt.coldstart
  match l.windowSlot p t with
  | none => if cold then l else l.rxDiscard p (l.spanSlot p t) SCause.edge
  | some n =>
    if !fcsOk then if cold then l else l.rxDiscard p (some n) SCause.fcs
    else
      let c := l.rxCheck p n f
      let l := if f.sync ∧ 5 ≤ c.2 then
          l.modPort p fun q => { q with dev := q.dev ++ [(f.node, t - l.expected p n)] }
        else l
      if cold then l
      else if c.1 ≠ SCause.ok then l.rxDiscard p (some n) c.1
      else
        let l := (l.rxStore p n f now).hist 4 p 0 lat
        if f.kind = Kind.safe then l.safeCopies p n f now else l

/-- STRATA_FRAME_RECEIVED (R301, R311): a stranger frame is counted and otherwise ignored. -/
def execStrataFrameReceived (x : Lane) (p : Fin 2) (bytes : List Byte) (fcsOk : Bool) (t : StrataTime) (s : State) :
    Host.Outcome State Fault Refusal :=
  onLane x (fun l =>
    let p := p.val
    if !l.portLive p then l
    else
      match l.strParse p bytes with
      | none => (l.bump (F.STR_STRANGER_COUNT p) 1).count P.STR 4
      | some (f, _) =>
        if (f.kind = Kind.data ∨ f.kind = Kind.safe) ∧ l.inCycle p then l.strReceive p f fcsOk t.ts t.lat s.nowUs else l) s

/-- A copy waits no longer than PAIRTMO (R328). -/
def execSafetyPairTimeout (x : Lane) (i : Fin 64) (s : State) : Host.Outcome State Fault Refusal :=
  onLane x (fun l =>
    if l.alive ∧ !l.blockFenced P.STR ∧ (l.pendCopy i.val).isSome then
      ((l.setPend i.val none).safeCause i.val Safe.missing).bump F.STR_SAFEERR_MISS 1
    else l) s

/-! ### Start-up (R315 to R319) -/

/-- Local time in the cycle is `ofs` microticks at µs `now`. -/
def LaneState.cycleAt (l : LaneState) (p ofs now : Nat) : LaneState :=
  l.modPort p fun q => { q with since := now, ofs := ofs }

/-- The current macrotick (R305): the microticks of the cycle are spread evenly over its macroticks. -/
def LaneState.macrotick (l : LaneState) (p now : Nat) : Nat :=
  let n := l.get (F.STR_CYCCFG_CYCLEN p)
  let total := ((100 * n : Nat) + (l.rd (R.STR_RTERM p)).toInt).toNat
  min (n - 1) ((100 * (now - (l.port p).since) + (l.port p).ofs) * n / max 1 total)

/-- Microticks from the start of a cycle to the end of a frame that began at the action point of slot `n`. -/
def LaneState.frameEndTick (l : LaneState) (p n len : Nat) (safe : Bool) : Nat :=
  100 * (n * l.get (F.STR_SLOTTIM_SLOTLEN p) + l.get (F.STR_SLOTTIM_APO p)) + 80 * frameBytes len safe

/-- A port adopts the cycle of a frame that has just ended (R317). -/
def LaneState.adopt (l : LaneState) (p : Nat) (f : StrFrame) (fromLO : Bool) (now : Nat) : LaneState :=
  let l := ((l.wr (R.STR_CYCCNT p) f.cycle).wr (R.STR_RTERM p) 0).wr (R.STR_OCORR p) 0
  let l := l.cycleAt p (l.frameEndTick p f.slot f.len (f.kind == Kind.safe) + l.get (F.STR_STRTCFG_DELAYCOMP p)) now
  let l := l.modPort p fun q => { q with
    dev := [], prev := [], stored := [], caused := [], meas := 0, cs := 0, fromLO := fromLO, out := none, cond := false }
  l.setPort p Prt.integrate

/-- COLDSTART_FRAME_RECEIVED (R316, R317): a valid COLDSTART frame, or sync frame with CSTART = 0, in LISTEN or
LISTENONLY; a COLDSTART frame of another node in back-off or in INTEGRATE. -/
def execColdstartFrameReceived (x : Lane) (p : Fin 2) (bytes : List Byte) (fcsOk : Bool) (s : State) :
    Host.Outcome State Fault Refusal :=
  onLane x (fun l =>
    let p := p.val
    match l.strParse p bytes with
    | none => l
    | some (f, zero) =>
      let cold := f.kind == Kind.coldstart
      let valid := fcsOk && zero && (cold || (f.kind == Kind.data || f.kind == Kind.safe))
      let st := l.portState p
      if !valid ∨ !l.portLive p then l
      else if (st = Prt.listen ∨ st = Prt.listenOnly) ∧ (cold ∨ (f.sync ∧ !f.cstart)) then
        l.adopt p f (st == Prt.listenOnly) s.nowUs
      else if st = Prt.integrate ∧ cold then l.adopt p f (l.port p).fromLO s.nowUs
      else if st = Prt.coldstart ∧ (l.port p).cs = 2 ∧ cold ∧ f.node ≠ l.get (F.STR_PCTL_NODE p) then l.adopt p f false s.nowUs
      else l) s

/-- SLOT_END (R312, R309): a frame sent in the slot has ended; an RX slot without a stored frame or a cause records
MISSING. -/
def execSlotEnd (x : Lane) (p : Fin 2) (n : Fin 64) (s : State) : Host.Outcome State Fault Refusal :=
  onLane x (fun l =>
    let p := p.val; let n := n.val
    if !l.inCycle p then l
    else
      let l := match (l.port p).air with
        | some f => if f.slot = n then l.sent p f else l
        | none => l
      if l.isRx p n && (l.slotsOf p).contains n && !(l.port p).stored.contains n && !(l.port p).caused.contains n then
        l.put (F.sstCause p n) SCause.missing
      else l) s

/-- The other nodes whose sync frames were accepted in both the last cycle and the one before (R317, R318). -/
def LaneState.bothNodes (l : LaneState) (p : Nat) : Nat :=
  let q := l.port p
  let own := l.get (F.STR_PCTL_NODE p)
  ((q.dev.map (·.1)).eraseDups.filter fun e => e ≠ own && q.prev.any fun g => g.1 == e).length

/-- The transitions at the end of a cycle, whose number is `c` (R316). -/
def LaneState.cycleTransition (l : LaneState) (p : Nat) (c : Nat) : LaneState :=
  let q := l.port p
  let st := l.portState p
  let smin := l.get (F.STR_SYNCCFG_SYNCMIN p)
  if st = Prt.integrate then
    if q.meas = 2 ∧ c % 2 = 1 then
      let need := if l.get (F.STR_PCTL_SYNCN p) = 1 then smin - 1 else smin
      if need ≤ l.bothNodes p ∧ !q.cond then l.setPort p Prt.sync
      else l.setPort p (if q.fromLO then Prt.listenOnly else Prt.listen)
    else l
  else if st = Prt.coldstart then
    if c = 5 then if smin - 1 ≤ l.bothNodes p then l.setPort p Prt.sync else l.coldFail p else l
  else if st = Prt.passive ∧ c % 2 = 1 then
    let good := if q.cond then 0 else q.good + 1
    let l := l.modPort p fun q => { q with good := good, passive := q.passive + 1 }
    if l.get (F.STR_SYNCCFG_RECOV p) ≤ good then l.setPort p Prt.sync
    else if 64 ≤ q.passive then (l.bump (F.STR_PASSCNT_RESTART p) 1).setPort p Prt.listen else l
  else l

/-- CYCLE_END (R313, R316): buffers without a stored frame age, transitions are evaluated, and the next cycle
starts unless the port has left its cycles. -/
def execCycleEnd (x : Lane) (p : Fin 2) (s : State) : Host.Outcome State Fault Refusal :=
  onLane x (fun l =>
    let p := p.val
    if !l.inCycle p then l
    else
      let c := (l.rd (R.STR_CYCCNT p)).toNat
      let l := (l.slotsOf p).foldl (fun (l : LaneState) n =>
        if l.isRx p n && !(l.port p).stored.contains n then l.bump (F.sstAge p n) 1 else l) l
      let l := l.cycleTransition p c
      if !l.inCycle p then l
      else
        let l := (l.wr (R.STR_CYCCNT p) (BitVec.ofNat 32 (c + 1))).modPort p fun q => { q with
          prev := q.dev, dev := [], stored := [], caused := [],
          meas := if c % 2 = 0 then (if q.meas = 1 then 2 else q.meas) else 1 }
        let l := (l.cycleAt p 0 s.nowUs).irqPulse P.STR (mbit (4 + p))
        if p = 0 then l.count P.STR 5 else l) s

/-! ### Clock synchronisation (R320 to R324) -/

/-- Integers in ascending order. -/
def insertInt (v : Int) : List Int → List Int
  | [] => [v]
  | w :: r => if v ≤ w then v :: w :: r else w :: insertInt v r
def sortInt : List Int → List Int
  | [] => []
  | v :: r => insertInt v (sortInt r)

/-- The fault-tolerant midpoint (R321); 0 without values. -/
def ftm (vs : List Int) : Int :=
  let v := sortInt vs
  let n := v.length
  if n = 0 then 0
  else
    let k := if 4 ≤ n then 1 else 0
    Int.tdiv (v.getD k 0 + v.getD (n - 1 - k) 0) 2

/-- A signed register. -/
def LaneState.rdInt (l : LaneState) (a : Nat) : Int := (l.rd a).toInt

/-- The condition of R324 that a sync window finds: 0 none, 1 OFFSET, 2 RATE, 3 FEWSYNC. -/
def LaneState.syncCond (l : LaneState) (p : Nat) (o rc : Int) (n : Nat) : Nat :=
  if l.get (F.STR_SYNCCFG_OCLIM p) < o.natAbs then 1
  else if l.get (F.STR_SYNCCFG_RCLIM p) < rc.natAbs then 2
  else if n < l.get (F.STR_SYNCCFG_SYNCMIN p) then 3 else 0

/-- SYNC_WINDOW_START (R321, R322, R324) of an odd cycle. -/
def execSyncWindowStart (x : Lane) (p : Fin 2) (s : State) : Host.Outcome State Fault Refusal :=
  onLane x (fun l =>
    let p := p.val
    let q := l.port p
    let st := l.portState p
    if !l.inCycle p ∨ (l.rd (R.STR_CYCCNT p)).toNat % 2 = 0 then l
    else
      let n := q.dev.length
      let l := l.put (F.STR_PSTAT_NSYNC p) (min n 15)
      if st = Prt.integrate ∧ q.meas ≠ 2 then l
      else
        let o := ftm (q.dev.map (·.2))
        let dev := fun (ds : List (Nat × Int)) n => (ds.find? fun e => e.1 == n).map (·.2)
        let diffs := (q.dev.map (·.1)).eraseDups.filterMap fun n =>
          (dev q.dev n).bind fun d => (dev q.prev n).map fun g => d - g
        let rc := l.rdInt (R.STR_RTERM p) + ftm diffs
        let ol : Int := l.get (F.STR_SYNCCFG_OCLIM p)
        let rl : Int := l.get (F.STR_SYNCCFG_RCLIM p)
        let c := l.syncCond p o rc n
        let l := l.wr (R.STR_OCORR p) (BitVec.ofInt 32 (max (-ol) (min ol o)))
        let l := l.wr (R.STR_RTERM p) (BitVec.ofInt 32 (max (-rl) (min rl rc)))
        let l := l.modPort p fun q => { q with cond := if st = Prt.integrate then c == 1 || c == 2 else c ≠ 0 }
        if st = Prt.sync ∧ c ≠ 0 then
          let l := (l.put (F.STR_PSTAT_PASSCAUSE p) c).bump (F.STR_PASSCNT_PASSIVE p) 1
          (l.modPort p fun q => { q with good := 0, passive := 0, out := none }).setPort p Prt.passive
        else l) s

/-- LISTEN_TIMEOUT (R316). -/
def execListenTimeout (x : Lane) (p : Fin 2) (s : State) : Host.Outcome State Fault Refusal :=
  onLane x (fun l =>
    let p := p.val
    if l.portLive p ∧ l.portState p = Prt.listen ∧ l.get (F.STR_PCTL_CSN p) = 1 ∧ l.get (F.STR_PSTAT_CSATT p) < 3 then
      (l.modPort p fun q => { q with cs := 0 }).setPort p Prt.coldstart
    else l) s

/-- The sync slot of a port (R302). -/
def LaneState.syncSlot (l : LaneState) (p : Nat) : Nat :=
  ((l.slotsOf p).find? fun n => l.isTx p n && l.get (F.schSync p n) == 1).getD 0

/-- A COLDSTART frame (R302). -/
def coldFrame (slot node : Nat) : StrFrame :=
  ⟨Kind.coldstart, slot, node, true, true, true, 0, 0, 0, 0, [], 0, true⟩

/-- COLDSTART_ATTEMPT (R318): the port sends a COLDSTART frame; cycle 0 is placed so that the frame began at the action
point of its sync slot. -/
def execColdstartAttempt (x : Lane) (p : Fin 2) (s : State) : Host.Outcome State Fault Refusal :=
  onLane x (fun l =>
    let p := p.val
    if !l.portLive p ∨ l.portState p ≠ Prt.coldstart ∨ (l.port p).cs ≠ 0 then l
    else
      let f := coldFrame (l.syncSlot p) (l.get (F.STR_PCTL_NODE p))
      let l := (l.bump (F.STR_PSTAT_CSATT p) 1).wr (R.STR_CYCCNT p) 0
      let l := l.cycleAt p (100 * (l.syncSlot p * l.get (F.STR_SLOTTIM_SLOTLEN p) + l.get (F.STR_SLOTTIM_APO p))) s.nowUs
      l.modPort p fun q => { q with
        air := some f, cs := 1, dev := [], prev := [], stored := [], caused := [], out := none }) s

/-- COLDSTART_BACKOFF_END (R318): the port returns to step 1. -/
def execColdstartBackoffEnd (x : Lane) (p : Fin 2) (s : State) : Host.Outcome State Fault Refusal :=
  onLane x (fun l =>
    if l.portLive p.val ∧ l.portState p.val = Prt.coldstart ∧ (l.port p.val).cs = 2 then
      l.modPort p.val fun q => { q with cs := 0 }
    else l) s

/-- INTEGRATE_TIMEOUT (R316). -/
def execIntegrateTimeout (x : Lane) (p : Fin 2) (s : State) : Host.Outcome State Fault Refusal :=
  onLane x (fun l =>
    if l.portLive p.val ∧ l.portState p.val = Prt.integrate then
      l.setPort p.val (if (l.port p.val).fromLO then Prt.listenOnly else Prt.listen)
    else l) s

/-- CYCLE_POINT (R330). -/
def execCyclePoint (x : Lane) (j : Fin 8) (s : State) : Host.Outcome State Fault Refusal :=
  onLane x (fun l =>
    let p := l.get (F.STR_CPT_PORT j.val)
    let st := l.portState p
    if l.portLive p ∧ l.get (F.STR_CPT_EN j.val) = 1 ∧ (st = Prt.sync ∨ st = Prt.passive) ∧
        l.get (F.STR_CPT_MT j.val) < l.get (F.STR_CYCCFG_CYCLEN p) then
      ((l.irqPulse P.STR (mbit (8 + j.val))).sendMsg (R.STR_CPMSG j.val)).xfrLatch (0x10 + j.val)
    else l) s

/-- A write of TXRDY (R310, R334): a 1 for a slot that is not a TX entry is ignored. -/
def LaneState.txrdyWrite (l : LaneState) (k : Nat) (v : Word) : LaneState :=
  let old := l.rd (R.STR_TXRDY_XL + 4 * k)
  l.command (R.STR_TXRDY_XL + 4 * k) v fun l e =>
    (List.range 32).foldl (fun (l : LaneState) i =>
      let n := k % 2 * 32 + i
      if e.getLsbD i && l.isTx (k / 2) n then l.setTxReady (k / 2) n true else l) (l.wr (R.STR_TXRDY_XL + 4 * k) old)

def execTxrdyWrite (x : Lane) (k : Fin 4) (v : Word) (s : State) : Host.Outcome State Fault Refusal :=
  onLane x (·.txrdyWrite k.val v) s

/-- The word of a receive queue's head (R334). -/
def queueWord (head : Nat) (left : Nat) (ovf : Bool) : Word :=
  BitVec.ofNat 32 (head + min left 31 * 2 ^ 16 + bit ovf * 2 ^ 30 + 2 ^ 31)

/-- A read of RXQ_P returns the head and removes it; OVF is clear after it (R314). -/
def LaneState.rxqRead (l : LaneState) (p : Nat) : LaneState × Word :=
  let q := l.port p
  match q.rxq with
  | [] => (l.modPort p fun q => { q with ovf := false }, BitVec.ofNat 32 (bit q.ovf * 2 ^ 30))
  | e :: r => (l.modPort p fun q => { q with rxq := r, ovf := false }, queueWord (e.1 + e.2 * 256) r.length q.ovf)

/-- A read of SAFEQ (R329). -/
def LaneState.safeqRead (l : LaneState) : LaneState × Word :=
  match l.strata.safeq with
  | [] => ({ l with strata := { l.strata with safeOvf := false } }, BitVec.ofNat 32 (bit l.strata.safeOvf * 2 ^ 30))
  | e :: r => ({ l with strata := { l.strata with safeq := r, safeOvf := false } }, queueWord e r.length l.strata.safeOvf)

def execRxqRead (x : Lane) (g : Agent) (p : Fin 2) (s : State) : Host.Outcome State Fault Refusal :=
  onLane x (·.readBy g (R.STR_RXQ p.val) (·.rxqRead p.val)) s
def execSafeqRead (x : Lane) (g : Agent) (s : State) : Host.Outcome State Fault Refusal :=
  onLane x (·.readBy g R.STR_SAFEQ (·.safeqRead)) s

/-- The cycle counter and offset correction that a lane-link SYNC frame carries (R331). -/
def LaneState.strataSync (l : LaneState) : Word × Word :=
  let p := if l.portState 0 = Prt.sync then 0 else 1
  if l.portState p = Prt.sync then
    (l.rd (R.STR_CYCCNT p), BitVec.ofInt 32 (10 * l.rdInt (R.STR_OCORR p)))
  else (0, 0)

end Sys2Proof.Machine
end

