-- ==== Sys2Proof/Machine/Bindings.lean ====
section
/-!
DEFINITION. Bindings (spec/05_loop_slots_and_control_laws.md R152 to R162): which entries of a list are used, what an
input binding delivers, and what an output binding sends.
-/
namespace Sys2Proof.Machine
open Sys2Proof

/-- The fields of a BINDA word (R177). -/
def bEn (a : Word) : Bool := a.getLsbD 0
def bOut (a : Word) : Bool := a.getLsbD 1
def bType (a : Word) : Nat := getBits a 2 4
def bIndex (a : Word) : Nat := getBits a 6 7
def bSel (a : Word) : Nat := getBits a 13 3
def bZw (a : Word) : Nat := getBits a 16 5
def bShift (a : Word) : Nat := getBits a 21 6
def bStale (a : Word) : Nat := getBits a 27 2
def bSigned (a : Word) : Bool := a.getLsbD 29

/-- STALE codes. -/
def Stale.hold : Nat := 0
def Stale.zero : Nat := 1
def Stale.alt : Nat := 2

/-- What a binding list comes to (R158, R162): whether the next entry is an alternate, the words written, the input and the
output bindings met, the input entries used, the output words used in order, and whether an entry is ignored. -/
structure Walk where
  alt : Bool
  seen : List Nat
  nIn : Nat
  nOut : Nat
  ins : List (Nat × Word)
  outs : List Word
  ign : Bool
  deriving DecidableEq, Repr

/-- One entry of the list, `n` its index and `a` its BINDA word. An alternate is no binding of its own; an entry with
EN = 0 is skipped; the first 12 inputs and 8 outputs are used, but for one whose word an input has written. -/
def Walk.entry (w : Walk) (n : Nat) (a : Word) : Walk :=
  if w.alt then { w with alt := false }
  else
    let w := { w with alt := !bOut a && bStale a == Stale.alt }
    if !bEn a then w
    else
      let skip := w.seen.contains (bZw a) || decide (if bOut a then 8 ≤ w.nOut else 12 ≤ w.nIn)
      let w := { w with nIn := w.nIn + bit (!bOut a), nOut := w.nOut + bit (bOut a), ign := w.ign || skip }
      if skip then w
      else if bOut a then { w with outs := w.outs ++ [a] }
      else { w with ins := w.ins ++ [(n, a)], seen := bZw a :: w.seen }

/-- The entries of a list, by index and BINDA word. -/
def walkList (es : List (Nat × Word)) : Walk :=
  es.foldl (fun w e => w.entry e.1 e.2) ⟨false, [], 0, 0, [], [], false⟩

/-- The active binding list of a context (R162). -/
def LaneState.walk (l : LaneState) (c : Nat) : Walk :=
  walkList (((l.bindings c).filter (· < 256)).map fun n => (n, l.active.rd (R.LE_BINDA n)))

/-- Addresses of Z words (R152). -/
def zAddr (i : Nat) : Nat := 0x20040000 + 8 * i
def LaneState.zBad (l : LaneState) (i : Nat) : Bool :=
  l.badPar.any fun b => decide (zAddr i ≤ b ∧ b < zAddr i + 8)

/-- The raw width of a source (R155). -/
def srcWidth (typ : Nat) : Nat :=
  match typ with
  | 2 => 16 | 3 => 32 | 4 => 24 | 5 => 16 | _ => 64

/-- The conversion that a CUR binding takes (R157): the master period it belongs to, 0 for the present one, and its
index. A master period is as long as the frame (R143); conversions start every 160 engine cycles while one fits. -/
def curIndex (f p : Nat) : Nat × Nat :=
  let top := (f / 2 - 80) / 80
  if 160 ≤ p then (0, min ((p - 160) / 160) top) else (1, min ((p + f - 160) / 160) top)

/-- The sample of a CUR binding, if it was received since its conversion started (R157). -/
def LaneState.curSample (l : LaneState) (p n ph : Nat) : Option DWord :=
  let k := curIndex (l.get F.LE_FRAMECFG_FRAME) p
  match l.loop.sample n (k.2 % 512) with
  | some c => if l.loop.gen < c.gen + k.1 ∨ (l.loop.gen = c.gen + k.1 ∧ 160 * k.2 ≤ c.cycle) then
      some ((if ph = 0 then c.u else if ph = 1 then c.v else c.w).setWidth 64) else none
  | none => none

/-- The fresh raw value of an entry at the snapshot of a slot with sample phase `p`, at µs `now` (R155 to R158): none
when the source has not updated or is older than MAXAGE. -/
def LaneState.rawValue (l : LaneState) (p now : Nat) (a b : Word) : Option DWord :=
  if bType a = 5 then l.curSample p (bIndex a) (bSel a)
  else
    if bType a = 3 ∧ !l.produces (bIndex a) (bSel a) then none
    else
    let live := if bType a = 3 then l.fbkLive (bIndex a) (bSel a) now p else none
    match live, Table.get (fun _ => none) l.loop.srcs (srcKey (bType a) (bIndex a) (if bType a = 7 then 0 else bSel a)) with
    | some v, _ => some v
    | none, none => none
    | none, some u =>
      let m := getBits b 0 16
      if m ≠ 0 ∧ m < now - u.at_ then none
      else if bType a = 7 then some (l.dword (zAddr (24 * bIndex a + 16 + bSel a))) else some u.value

/-- The value a raw value gives (R156): extended, shifted left, saturated. -/
def bindValue (a : Word) (v : DWord) : DWord :=
  let w := srcWidth (bType a)
  let i : Int := if w = 64 ∨ bSigned a then toSigned w (v.toNat % 2 ^ w) else ((v.toNat % 2 ^ w : Nat) : Int)
  BitVec.ofInt 64 (max (-(2 ^ 63)) (min (2 ^ 63 - 1) (i * 2 ^ bShift a)))

/-- Whether an entry reads a PCTX word of bad parity (R118). -/
def LaneState.bindBad (l : LaneState) (a : Word) : Bool :=
  bType a == 7 && l.zBad (24 * bIndex a + 16 + bSel a)

/-- A stale substitution (R158, R178). -/
def LaneState.substituted (l : LaneState) (slot : Nat) : LaneState :=
  (((l.wr R.LE_STALECNT (satInc (l.rd R.LE_STALECNT))).irqPulse P.LE (mbit 3)).raiseAt 41 slot).count P.LE 4
where
  /-- One more, saturating. -/
  satInc (w : Word) : Word := if w = BitVec.allOnes 32 then w else w + 1

/-- What an input binding delivers (R158): the value, and its INSTAT bits (stale substitute, alternate source). -/
def LaneState.bindInput (l : LaneState) (p now c : Nat) (n : Nat) (a : Word) : DWord × Bool × Bool :=
  let held := (Table.get (fun _ => none) l.loop.inHeld (24 * c + bZw a)).getD 0
  let sub := fun mode => if mode = Stale.zero then 0 else held
  match l.rawValue p now a (l.active.rd (R.LE_BINDB n)) with
  | some v => (bindValue a v, false, false)
  | none =>
    if bStale a = Stale.alt ∧ n < 255 then
      let a' := l.active.rd (R.LE_BINDA (n + 1))
      match l.rawValue p now a' (l.active.rd (R.LE_BINDB (n + 1))) with
      | some v => (bindValue a' v, false, true)
      | none => (sub (bStale a'), true, true)
    else (sub (bStale a), true, false)

/-- Whether an input binding's primary is stale. -/
def LaneState.bindStale (l : LaneState) (p now n : Nat) (a : Word) : Bool :=
  (l.rawValue p now a (l.active.rd (R.LE_BINDB n))).isNone

/-- Whether the sample stage reads a word of bad parity for an entry: its own, or its alternate's (R118). -/
def LaneState.inputBad (l : LaneState) (p now n : Nat) (a : Word) : Bool :=
  l.bindBad a || (l.bindStale p now n a && bStale a == Stale.alt && decide (n < 255) &&
    l.bindBad (l.active.rd (R.LE_BINDA (n + 1))))

/-- One input binding of the sample stage: its IN word, the held value, INSTAT, and the substitution. All sources are
those of the snapshot `s0` (R148, R156). -/
def LaneState.sampleInput (s0 : LaneState) (slot p now c : Nat) (r : LaneState × Nat) (e : Nat × Word) :
    LaneState × Nat :=
  let v := s0.bindInput p now c e.1 e.2
  let zw := bZw e.2
  let l := r.1.engStore (zAddr (24 * c + zw)) 8 v.1.toNat
  let l := l.modLoop fun q => { q with inHeld := Table.set (fun _ => none) q.inHeld (24 * c + zw) (some v.1) }
  let l := if s0.bindStale p now e.1 e.2 then l.substituted slot else l
  (l, r.2 + bit v.2.1 * 2 ^ zw + bit v.2.2 * 2 ^ (16 + zw))

/-- The sample stage of a run (R148, R153, R154): IN words, INSTAT and the entry words. -/
def LaneState.sampleStage (l : LaneState) (slot rot c now : Nat) : LaneState :=
  let p := l.act (F.LESLOT_SPHASE_P slot)
  let r := (l.walk c).ins.foldl (l.sampleInput slot p now c) (l, 0)
  let inst := if r.2 = 0 then 0 else r.2 + 2 ^ 31
  let n := r.1.engStore (zAddr (24 * c + 12)) 8 inst
  let cb := n.cbank c (n.get (F.LE_CTXCOEF_BANK c))
  let w0 := cb % 2 ^ 14 + c * 2 ^ 16 + rot * 2 ^ 24 + slot * 2 ^ 32 + n.fn.toNat % 2 ^ 24 * 2 ^ 40
  let n := (n.engStore (zAddr 0xC00) 8 w0).engStore (zAddr 0xC01) 8 (24 * c)
  n.engStore (zAddr 0xC02) 8 (n.act (F.LE_CTXCFG_YBASE c))

/-- Whether the sample stage of a context's run meets bad parity, in a bound word or in the persistent table (R118). -/
def LaneState.sampleBad (l : LaneState) (slot c now : Nat) : Bool :=
  let p := l.act (F.LESLOT_SPHASE_P slot)
  ((l.walk c).ins.any fun e => l.inputBad p now e.1 e.2) ||
    (List.range 4).any fun i => l.zBad (0xE00 + 4 * c + i)

/-! ### Output bindings (R159 to R161) -/

/-- The duty that a word routes (R159): shifted right arithmetically and clamped. -/
def routedDuty (shift : Nat) (v : DWord) : Nat := (max 0 (min 0xFFFF (v.sshiftRight shift).toInt)).toNat

/-- The phase command of bridge `n` that a run's output words form, if one is bound to it (R160). -/
def phaseOut (es : List (Word × DWord)) (n : Nat) : Option PhaseOut :=
  let mine := es.filter fun e => bType e.1 == 8 && bIndex e.1 == n
  let last := fun k => (mine.filter fun e => bSel e.1 == k).getLast?
  let duty := fun k => (last k).map fun e => routedDuty (bShift e.1) e.2
  if mine.isEmpty then none
  else
    let float := fun k => if (duty k).isSome then 0 else 2 * 4 ^ k
    let modes := match last 3 with
      | some e => e.2.toNat % 64
      | none => float 0 + float 1 + float 2
    some ⟨n, modes, ⟨(duty 0).getD 0, (duty 1).getD 0, (duty 2).getD 0⟩⟩

def phaseOuts (es : List (Word × DWord)) : List PhaseOut := (List.range 8).filterMap (phaseOut es)

/-- The Strata words that a run's outputs route (R159). -/
def strataOuts (es : List (Word × DWord)) : List (Nat × Nat × DWord) :=
  (es.filter fun e => bType e.1 == 9).map fun e => (bIndex e.1, bSel e.1, e.2)

/-- Whether a FENCE holds a bridge (R405). -/
def LaneState.bridgeFenced (l : LaneState) (n : Nat) : Bool := l.fencedBy (.bridge n) || l.fencedBy .bridges

/-- PHASE_CMD frames go out, none for a fenced bridge (R160, R405), and Strata words are written (R161). -/
def LaneState.launchOuts (l : LaneState) (phases : List PhaseOut) (strata : List (Nat × Nat × DWord)) (duplex : Bool) :
    LaneState :=
  let l := phases.foldl (fun (l : LaneState) f =>
    if l.bridgeFenced f.bridge then l
    else l.sendDown 1 f.bridge (f.modes + 64 * bit duplex)
      [BitVec.ofNat 16 f.duty.u, BitVec.ofNat 16 f.duty.v, BitVec.ofNat 16 f.duty.w]) l
  l.strataLaunch strata

/-- The bridges that a launch commands, as a mask. -/
def LaneState.covered (l : LaneState) (phases : List PhaseOut) : Nat :=
  (phases.filter fun f => !l.bridgeFenced f.bridge).foldl (fun m f => m + 2 ^ f.bridge) 0

end Sys2Proof.Machine
end

