-- ==== Sys2Proof/Machine/Placement.lean ====
section
/-!
DEFINITION. The placement as a function of its inputs (spec/06_work_placement.md R182 to R194). Lanes are numbered 0
for A and 1 for B; a larger order key is a lower order.
-/
namespace Sys2Proof.Machine
open Sys2Proof

/-- Classes (R182). -/
def Cls.none : Nat := 0
def Cls.duplex : Nat := 1
def Cls.simA : Nat := 2
def Cls.simB : Nat := 3
def Cls.simAny : Nat := 4
def Cls.super : Nat := 5

/-- Descriptor fields of a captured register file. -/
def RegFile.cls (d : RegFile) (c : Nat) : Nat := d.get (F.PLC_DESC_0_CLASS c)
def RegFile.prio (d : RegFile) (c : Nat) : Nat := d.get (F.PLC_DESC_0_PRIO c)
def RegFile.div (d : RegFile) (c : Nat) : Nat := d.get (F.PLC_DESC_0_DIV c)
def RegFile.authen (d : RegFile) (c : Nat) : Bool := d.get (F.PLC_DESC_0_AUTHEN c) == 1
def RegFile.domain (d : RegFile) (c : Nat) : Nat := d.get (F.PLC_DESC_0_DOMAIN c)
/-- An engine context's class (R183). -/
def RegFile.engine (d : RegFile) (c : Nat) : Bool := 1 ≤ d.cls c && d.cls c ≤ 4
def RegFile.simplex (d : RegFile) (c : Nat) : Bool := 2 ≤ d.cls c && d.cls c ≤ 4
/-- The templates of a context, by index (R182). -/
def RegFile.templates (d : RegFile) (c : Nat) : List Nat :=
  ((List.range (d.get (F.PLC_DESC_2_TCOUNT c))).map (· + d.get (F.PLC_DESC_2_TFIRST c))).filter (· < 256)
/-- The enabled output templates of a context. -/
def RegFile.outTemplates (d : RegFile) (c : Nat) : List Word :=
  ((d.templates c).map fun n => d.rd (R.PLC_BTA n)).filter fun a => bEn a && bOut a

/-- The inputs of a placement: captured descriptors, lanes up, slot pool, fenced slots and pairs of each lane, the
lane that holds each domain, the bridges of each domain, the current placement as PLCREP[14:0] by context, and whether
the run is a REPLACE. -/
structure PlcIn where
  desc : RegFile
  up : List Nat
  pool : Nat
  fslots : Nat × Nat
  fpairs : Nat × Nat
  holder : List (Option Nat)
  bridges : List (List Nat)
  prev : List Nat
  replace : Bool
  deriving DecidableEq, Repr

def maskBit (m k : Nat) : Bool := m / 2 ^ k % 2 == 1
def PlcIn.fslot (i : PlcIn) (x s : Nat) : Bool := maskBit (if x = 0 then i.fslots.1 else i.fslots.2) s
def PlcIn.fpair (i : PlcIn) (x p : Nat) : Bool := maskBit (if x = 0 then i.fpairs.1 else i.fpairs.2) p

/-- Fields of PLCREP[14:0] (R211). -/
def repState (r : Nat) : Nat := r % 4
def repIn (r x : Nat) : Bool := maskBit r (2 + x)
def repSlot (r : Nat) : Nat := r / 16 % 64
def repRot (r : Nat) : Nat := r / 1024 % 8
def repPair (r : Nat) : Nat := r / 8192 % 4
def mkRep (lanes : List Nat) (slot rot pair : Nat) : Nat :=
  1 + lanes.foldl (fun m x => m + 4 * 2 ^ x) 0 + slot * 16 + rot * 1024 + pair * 8192
def repShed : Nat := 2

/-- R183: whether an engine context is never placed. -/
def PlcIn.badConfig (i : PlcIn) (c : Nat) : Bool :=
  let d := i.desc
  let mine := d.templates c
  let outs := d.outTemplates c
  let bridges := outs.filter fun a => bType a == 8
  ((List.range 128).any fun o => o ≠ c && d.engine o && mine.any (d.templates o).contains) ||
  (d.cls c == Cls.duplex && !(1 ≤ outs.length && outs.length ≤ 8)) ||
  (!bridges.isEmpty && !d.authen c) ||
  (bridges.any fun a => !(i.bridges.getD (d.domain c) []).contains (bIndex a)) ||
  decide (d.get F.PLC_YAREA_YCELL < d.get (F.PLC_DESC_1_STWORDS c)) ||
  decide (d.get F.PLC_XAREA_XCELL < d.get (F.PLC_DESC_1_NCOEF c) * (1 + d.get (F.PLC_DESC_1_DBANK c)))

/-- The order key of R186: PRIO descending, rank, context number. -/
def RegFile.orderKey (d : RegFile) (c : Nat) : Nat :=
  let rank := if d.cls c = Cls.duplex then 0 else if d.cls c = Cls.simA ∨ d.cls c = Cls.simB ∨ d.authen c then 1 else 2
  (15 - d.prio c) * 384 + rank * 128 + c

/-- Contexts by an order key, lowest key first. -/
def insertBy (key : Nat → Nat) (c : Nat) : List Nat → List Nat
  | [] => [c]
  | j :: r => if key c ≤ key j then c :: j :: r else j :: insertBy key c r
def sortBy (key : Nat → Nat) : List Nat → List Nat
  | [] => []
  | c :: r => insertBy key c (sortBy key r)

/-- A claim: a position taken, by a reservation or by a placement. -/
structure Claim where
  lane : Nat
  slot : Nat
  rot : Nat
  ctx : Nat
  res : Bool
  deriving DecidableEq, Repr

/-- The claims of a slot of a lane. -/
def claimsOf (cl : List Claim) (x s : Nat) : List Claim := cl.filter fun k => k.lane == x && k.slot == s

/-- Whether a slot may host a context, claims apart (R188). -/
def PlcIn.slotOk (i : PlcIn) (c x s : Nat) : Bool :=
  maskBit i.pool s && !i.fslot x s && decide (i.desc.get (F.PLC_DESC_3_SLOTLO c) ≤ s) &&
    decide (s ≤ i.desc.get (F.PLC_DESC_3_SLOTHI c))

/-- Whether a slot is usable: every claim in it has the context's DIV (R188). -/
def PlcIn.usable (i : PlcIn) (cl : List Claim) (c x s : Nat) : Bool :=
  i.slotOk c x s && (claimsOf cl x s).all fun k => i.desc.div k.ctx == i.desc.div c

/-- The rotations a context may use (R188). -/
def PlcIn.rots (i : PlcIn) (c : Nat) : List Nat := List.range (min (i.desc.div c) 8)

/-- Whether a position is neither claimed nor reserved. -/
def freePos (cl : List Claim) (x s r : Nat) : Bool := !(claimsOf cl x s).any fun k => k.rot == r

/-- The number of free usable positions of a context in a lane (R187). -/
def PlcIn.freeCount (i : PlcIn) (cl : List Claim) (c x : Nat) : Nat :=
  ((List.range 48).map fun s =>
    if i.usable cl c x s then ((i.rots c).filter fun r => freePos cl x s r).length else 0).sum

/-- The lane that holds a context's domain, for a simplex context with AUTHEN = 1 whose domain is leased (R187). -/
def PlcIn.leased (i : PlcIn) (c : Nat) : Option Nat :=
  if i.desc.authen c then i.holder.getD (i.desc.domain c) none else none

/-- The eligible lanes in order; for a DUPLEX context all of them together (R187). -/
def PlcIn.eligible (i : PlcIn) (cl : List Claim) (c : Nat) : List (List Nat) :=
  if i.desc.cls c = Cls.duplex then if i.up.isEmpty then [] else [i.up]
  else
    let order := match i.leased c with
      | some h => [h]
      | none =>
        if i.desc.cls c = Cls.simA then [0, 1] else if i.desc.cls c = Cls.simB then [1, 0]
        else if i.freeCount cl c 0 < i.freeCount cl c 1 then [1, 0] else [0, 1]
    (order.filter i.up.contains).map fun x => [x]

/-- Puts a context's claims at a position in some lanes. -/
def addClaims (cl : List Claim) (xs : List Nat) (s r c : Nat) (res : Bool) : List Claim :=
  cl ++ xs.map fun x => ⟨x, s, r, c, res⟩
/-- A context loses all its reservations (R190). -/
def dropRes (cl : List Claim) (c : Nat) : List Claim := cl.filter fun k => !(k.res && k.ctx == c)

/-- The reservation of an incumbent (R189). -/
def PlcIn.reserve (i : PlcIn) (cl : List Claim) (c : Nat) : List Claim :=
  let p := i.prev.getD c 0
  let s := repSlot p
  let r := repRot p
  let el := i.eligible cl c
  let xs := if i.desc.cls c = Cls.duplex then el.headD [] else (el.filter fun g => g.any (repIn p)).flatten
  if repState p = 1 ∧ !xs.isEmpty ∧ (i.rots c).contains r ∧ xs.all (fun x => i.usable cl c x s && freePos cl x s r) then
    addClaims cl xs s r c true
  else cl

/-- Step 1 of R190: the context's own reservation. -/
def PlcIn.step1 (_i : PlcIn) (cl : List Claim) (c : Nat) (xs : List Nat) : Option (List Claim × Nat × Nat) :=
  let mine := cl.filter fun k => k.res && k.ctx == c
  match mine.head? with
  | none => none
  | some k =>
    if xs.all fun x => mine.any fun e => e.lane == x then some (addClaims (dropRes cl c) xs k.slot k.rot c false, k.slot, k.rot)
    else none

/-- The candidate with the smallest key. -/
def bestOf {α : Type} (key : α → Nat) : List α → Option α
  | [] => none
  | a :: r =>
    match bestOf key r with
    | none => some a
    | some b => if key a ≤ key b then some a else some b

/-- Step 2: a free position, in a slot of the context's DIV with the fewest free usable rotations, else in the first
empty slot. -/
def PlcIn.step2 (i : PlcIn) (cl : List Claim) (c : Nat) (xs : List Nat) : Option (List Claim × Nat × Nat) :=
  let frees := fun s => (i.rots c).filter fun r => xs.all fun x => freePos cl x s r
  let slots := (List.range 48).filter fun s => xs.all (i.usable cl c · s) && !(frees s).isEmpty
  let key := fun s =>
    if xs.any fun x => !(claimsOf cl x s).isEmpty then
      (xs.map fun x => ((i.rots c).filter fun r => freePos cl x s r).length).sum * 64 + s
    else 100000 + s
  match bestOf key slots with
  | none => none
  | some s =>
    let r := (frees s).headD 0
    some (addClaims cl xs s r c false, s, r)

/-- Step 3: the position reserved by the lowest-order incumbent of lower order, in a slot of the context's DIV. -/
def PlcIn.step3 (i : PlcIn) (cl : List Claim) (c : Nat) (xs : List Nat) : Option (List Claim × Nat × Nat) :=
  let me := i.desc.orderKey c
  let at_ := fun s r => xs.flatMap fun x => (claimsOf cl x s).filter fun k => k.rot == r
  let ok := fun s r => !(at_ s r).isEmpty && (at_ s r).all fun k => k.res && decide (me < i.desc.orderKey k.ctx)
  let slots := (List.range 48).filter fun s => xs.all (i.usable cl c · s)
  let cands := slots.flatMap fun s => ((i.rots c).filter (ok s)).map fun r => (s, r)
  let worst := fun e : Nat × Nat => ((at_ e.1 e.2).map fun k => i.desc.orderKey k.ctx).foldl max 0
  match bestOf (fun e => (10000 - worst e) * 1000 + e.1 * 8 + e.2) cands with
  | none => none
  | some (s, r) =>
    let cl := (at_ s r).foldl (fun cl k => dropRes cl k.ctx) cl
    some (addClaims cl xs s r c false, s, r)

/-- Step 4: rotation 0 of a slot in which every claim is a reservation of lower order; the slot whose highest-order
occupant is lowest in order. -/
def PlcIn.step4 (i : PlcIn) (cl : List Claim) (c : Nat) (xs : List Nat) : Option (List Claim × Nat × Nat) :=
  let me := i.desc.orderKey c
  let occ := fun s => xs.flatMap fun x => claimsOf cl x s
  let slots := (List.range 48).filter fun s => xs.all (i.slotOk c · s) && !(occ s).isEmpty &&
    (occ s).all fun k => k.res && decide (me < i.desc.orderKey k.ctx)
  let top := fun s => ((occ s).map fun k => i.desc.orderKey k.ctx).foldl min 10000
  match bestOf (fun s => (10000 - top s) * 64 + s) slots with
  | none => none
  | some s =>
    let cl := (occ s).foldl (fun cl k => dropRes cl k.ctx) cl
    some (addClaims cl xs s 0 c false, s, 0)

/-- One step tried in every eligible lane in order. -/
def tryLanes (f : List Nat → Option (List Claim × Nat × Nat)) :
    List (List Nat) → Option (List Claim × Nat × Nat × List Nat)
  | [] => none
  | xs :: r =>
    match f xs with
    | some (cl, s, k) => some (cl, s, k, xs)
    | none => tryLanes f r

/-- The first step that succeeds, each in every eligible lane before the next (R190). -/
def PlcIn.place (i : PlcIn) (cl : List Claim) (c : Nat) : List Claim × PlcEntry :=
  let el := i.eligible cl c
  let r := match tryLanes (i.step1 cl c) el with
    | some r => some r
    | none => match tryLanes (i.step2 cl c) el with
      | some r => some r
      | none => match tryLanes (i.step3 cl c) el with
        | some r => some r
        | none => tryLanes (i.step4 cl c) el
  match r with
  | some (cl, s, k, xs) => (cl, ⟨mkRep xs s k 0, 0⟩)
  | none => (dropRes cl c, ⟨repShed, 1⟩)

/-! ### Supervisory contexts (R193, R194) -/

/-- The pairs that offer load: unfenced pairs of lanes that are up. -/
def PlcIn.pairs (i : PlcIn) : List (Nat × Nat) :=
  i.up.flatMap fun x => ((List.range 4).filter fun p => !i.fpair x p).map fun p => (x, p)

def PlcIn.sload (i : PlcIn) (c : Nat) : Nat := i.desc.get (F.PLC_DESC_3_SLOAD c)

/-- Load on a pair of the contexts placed so far. -/
def PlcIn.load (i : PlcIn) (on : List (Nat × Nat × Nat)) (q : Nat × Nat) : Nat :=
  ((on.filter fun e => (e.2.1, e.2.2) = q).map fun e => i.sload e.1).sum
def PlcIn.fits (i : PlcIn) (on : List (Nat × Nat × Nat)) (c : Nat) (q : Nat × Nat) : Bool :=
  i.pairs.contains q && decide (i.load on q + i.sload c ≤ 100)

/-- The SUPERVISORY contexts in order: PRIO descending, then number. -/
def PlcIn.supers (i : PlcIn) : List Nat :=
  sortBy (fun c => (15 - i.desc.prio c) * 128 + c) ((List.range 128).filter fun c => i.desc.cls c == Cls.super)

/-- The pair a supervisory context is on now. -/
def PlcIn.superNow (i : PlcIn) (c : Nat) : Option (Nat × Nat) :=
  let p := i.prev.getD c 0
  if repState p ≠ 1 then none else if repIn p 0 then some (0, repPair p) else if repIn p 1 then some (1, repPair p) else none

/-- The supervisory contexts kept on their pairs; a REPLACE keeps none. -/
def PlcIn.superKept (i : PlcIn) : List (Nat × Nat × Nat) :=
  i.supers.foldl (fun on c =>
    match i.superNow c with
    | some q => if !i.replace && i.fits on c q then on ++ [(c, q.1, q.2)] else on
    | none => on) []

/-- The pair of a lane with the lowest load, the lowest number on a tie. -/
def PlcIn.lightest (i : PlcIn) (on : List (Nat × Nat × Nat)) (x : Nat) : Option (Nat × Nat) :=
  bestOf (fun q => i.load on q * 8 + q.2) (i.pairs.filter fun q => q.1 == x)

/-- The remaining supervisory contexts in order: SPAIR of the home lane, the lightest pair of it, of the other. -/
def PlcIn.superPlaced (i : PlcIn) : List (Nat × Nat × Nat) :=
  i.supers.foldl (fun on c =>
    if on.any fun e => e.1 == c then on
    else
      let home := if i.desc.get (F.PLC_DESC_3_SLANE c) = 1 then 1 else 0
      let tries := [some (home, i.desc.get (F.PLC_DESC_3_SPAIR c)), i.lightest on home, i.lightest on (1 - home)]
      match (tries.filterMap id).find? (i.fits on c) with
      | some q => on ++ [(c, q.1, q.2)]
      | none => on) i.superKept

/-- The successor of each fenced pair of lane `x` (R194). -/
def PlcIn.successors (i : PlcIn) (x : Nat) : List (Nat × Nat) :=
  let on := i.superPlaced
  match (List.range 4).find? fun p => !i.fpair x p with
  | none => []
  | some first => ((List.range 4).filter (i.fpair x ·)).map fun p =>
      let got := (i.supers.find? fun c => i.superNow c == some (x, p)).bind fun c => on.find? fun e => e.1 == c
      match got with
      | some e => (p, if e.2.1 = x then e.2.2 else first)
      | none => (p, first)

/-- The whole placement: what it decides for every context (R183 to R193). -/
def PlcIn.compute (i : PlcIn) : List PlcEntry :=
  let eng := (List.range 128).filter i.desc.engine
  let order := sortBy i.desc.orderKey (eng.filter fun c => !i.badConfig c)
  let cl := if i.replace then [] else order.foldl i.reserve []
  let r := order.foldl (fun (r : List Claim × List (Nat × PlcEntry)) c =>
    let q := i.place r.1 c
    (q.1, (c, q.2) :: r.2)) (cl, [])
  let on := i.superPlaced
  (List.range 128).map fun c =>
    match r.2.find? fun e => e.1 == c with
    | some e => e.2
    | none =>
      if i.desc.engine c then ⟨repShed, 2⟩
      else if i.desc.cls c = Cls.super then
        match on.find? fun e => e.1 == c with
        | some e => ⟨mkRep [e.2.1] 0 0 e.2.2, 0⟩
        | none => ⟨repShed, 1⟩
      else ⟨0, 0⟩

/-- The placement digest (R210). -/
def planDigest (plan : List PlcEntry) : Word := crc32c (plan.flatMap fun e => wordBytes (BitVec.ofNat 32 e.rep))

/-- The descriptor digest (R210), in the order the rule lists what it covers. -/
def RegFile.descDigest (d : RegFile) : Word :=
  crc32c (((List.range 128).flatMap fun c => (List.range 7).flatMap fun w => wordBytes (d.rd (R.PLC_DESC_0 c + 4 * w))) ++
    ((List.range 256).flatMap fun n => wordBytes (d.rd (R.PLC_BTA n)) ++ wordBytes (d.rd (R.PLC_BTB n))) ++
    ([R.PLC_SLOTPOOL_L, R.PLC_SLOTPOOL_H, R.PLC_YAREA, R.PLC_XAREA].flatMap fun a => wordBytes (d.rd a)))

/-- The lead D of a run with `m` direct loads and a frame of `f` engine cycles (R203): 18.4 µs are 14,720 cycles. -/
def planLead (m f : Nat) : Nat := 1 + (14720 + 1600 * m) / max 1 f

/-- The words of a context's snapshot (R197) and the link words it costs. -/
def RegFile.mirWords (d : RegFile) (c : Nat) : Nat :=
  2 * d.get (F.PLC_DESC_1_STWORDS c) + 2 * ((d.get (F.PLC_DESC_1_NCOEF c) + 1) / 2) + 24
def RegFile.mirCost (d : RegFile) (c : Nat) : Nat := 4 + d.mirWords c + 3 * ((d.mirWords c + 30) / 31)

/-- The warm contexts of a placement in lane `x` beyond the budget of R198. Costs are compared at the common
denominator of the mirror intervals so far. -/
def mirSkipped (d : RegFile) (plan : List PlcEntry) (x f : Nat) : List Nat :=
  let warm := sortBy d.orderKey ((List.range 128).filter fun c =>
    d.simplex c && d.get (F.PLC_DESC_0_WARM c) == 1 && repIn (plan.getD c ⟨0, 0⟩).rep x &&
      repState (plan.getD c ⟨0, 0⟩).rep == 1)
  (warm.foldl (fun (r : Nat × Nat × List Nat) c =>
    let k := max 1 (d.get (F.PLC_DESC_0_MIRK c))
    let num := r.1 * k + d.mirCost c * r.2.1
    let den := r.2.1 * k
    if r.2.2.isEmpty ∧ 8 * num ≤ f * den then (num, den, []) else (r.1, r.2.1, r.2.2 ++ [c])) (0, 1, [])).2.2

end Sys2Proof.Machine
end

