-- ==== Sys2Proof/Machine/Sieve.lean ====
section
/-!
DEFINITION. A Sieve instance (spec/06_work_placement.md R182, R195 to R212): commands, triggers, runs, loading, warm
mirroring, fallback and working-SRAM buffers.
-/
namespace Sys2Proof.Machine
open Sys2Proof

/-- Modes (R204), starts (R211) and results (R210). -/
def Mode.paired : Nat := 0
def Mode.solo : Nat := 1
def Mode.held : Nat := 2
def Start.incumbent : Nat := 1
def Start.warm : Nat := 2
def Start.cold : Nat := 3
def Start.sync : Nat := 4
def Start.syncwait : Nat := 5
def PlcRes.done : Nat := 1
def PlcRes.digest : Nat := 2
def PlcRes.diff : Nat := 3

/-- Sieve's buffers by number (R207). -/
def Buf.mir : Nat := 0
def Buf.init : Nat := 1
def Buf.trk (k : Nat) : Nat := 2 + k
def Buf.log : Nat := 6
def bufBlocks (i : Nat) : Nat := if i = Buf.mir then 128 else if i = Buf.init then 32 else 1

def LaneState.modSieve (l : LaneState) (f : SieveState → SieveState) : LaneState := { l with sieve := f l.sieve }
def LaneState.bufAt (l : LaneState) (i : Nat) : Option Nat := Table.get (fun _ => none) l.sieve.bufs i
def LaneState.plcrep (l : LaneState) (c : Nat) : Nat := getBits (l.rd (R.PLC_PLCREP c)) 0 15

/-- A lane is up unless Bedrock's device status reports it lost; the mode of an instance (R187, R204). -/
def State.laneUp (s : State) (x : Lane) : Bool := s.laneStatus x != Stat.lost
def State.sieveMode (s : State) (x : Lane) : Nat :=
  if !s.laneUp x.peer then Mode.solo else if !(s.lane x).llUp then Mode.held else Mode.paired

/-! ### Working-SRAM buffers (R207) -/

/-- The first 4 KiB block of a lost or placed buffer's new home: the lowest usable bank with a free range, `taken` the
ranges in use as first block and size. -/
def LaneState.findHome (l : LaneState) (size : Nat) (taken : List (Nat × Nat)) : Option Nat :=
  ((List.range 64).filter fun k => l.inPool k && !l.bankLost k).findSome? fun k =>
    let cands := (256 * k) :: (taken.map fun t => t.1 + t.2)
    let ok := fun b => decide (256 * k ≤ b ∧ b + size ≤ 256 * k + 256) && taken.all fun t => decide (b + size ≤ t.1 ∨ t.1 + t.2 ≤ b)
    bestOf (fun b => b) (cands.filter ok)

/-- The commands that waited for the refill of the initial-record store count (R203). -/
def LaneState.cmdsCount (l : LaneState) : LaneState :=
  let m := l.sieve.filling
  let l := l.modSieve fun v => { v with filling := 0 }
  let l := if m % 2 = 1 then l.arise 0 false else l
  if 2 ≤ m then l.arise 1 false else l

/-- What happens to a buffer that changes its place, or that has none when Sieve starts: its registers, and its content is lost. -/
def LaneState.bufMoved (l : LaneState) (i : Nat) (b : Option Nat) : LaneState :=
  let l := l.modSieve fun v => { v with bufs := Table.set (fun _ => none) v.bufs i b }
  let reg := BitVec.ofNat 32 (match b with
    | some n => n + 2 ^ 31
    | none => 0)
  if i = Buf.mir then
    let l := (l.wr R.PLC_MIRBLK reg).modSieve fun v => { v with mirCur := [], mirRx := [] }
    (List.range 128).foldl (fun (l : LaneState) c => l.wr (R.PLC_PLCMIR c) (BitVec.allOnes 32)) l
  else if i = Buf.init then
    let l := (l.wr R.PLC_INITBLK reg).modSieve fun v => { v with initFull := false }
    if b.isNone then l.cmdsCount else l
  else if i = Buf.log then (l.wr R.PLC_LOGBLK reg).put F.PLC_LOGIDX_NEXT 0
  else
    let k := i - 2
    let l := match b with
      | some n => l.put (F.LE_TRKBUF_BLOCK k) n
      | none => l
    if l.get (F.LE_TRKCFG_EN k) = 1 then l.trkRestart k else l

/-- A buffer stays where it is while its bank is in the pool and not lost; else it is placed again. MEM is raised for a
buffer that cannot be placed, when Sieve starts or when the buffer had a place. -/
def LaneState.placeBuffer (first : Bool) (l : LaneState) (i : Nat) : LaneState :=
  let now := l.bufAt i
  let keep := match now with
    | some b => l.inPool (b / 256) && !l.bankLost (b / 256)
    | none => false
  if keep then l
  else
    let taken := (List.range 7).filterMap fun j =>
      if j = i then none else (l.bufAt j).bind fun b =>
        if l.inPool (b / 256) && !l.bankLost (b / 256) then some (b, bufBlocks j) else none
    let new := l.findHome (bufBlocks i) taken
    let l := if new = now ∧ (now.isSome ∨ !first) then l else l.bufMoved i new
    if new.isNone ∧ (first ∨ now.isSome) then l.raise 28 else l

def LaneState.placeBuffers (l : LaneState) (first : Bool) : LaneState := (List.range 7).foldl (placeBuffer first) l

/-- The working-SRAM address of a byte of a buffer. -/
def sramAt (block ofs : Nat) : Nat := 0x10000000 + 4096 * block + ofs

/-! ### Commands and triggers (R202 to R205) -/

/-- The registers that an accepted command captures (R182, R205). -/
def capturedReg (a : Nat) : Bool :=
  pageOf a = 0x40005 || pageOf a = 0x40006 || (pageOf a = 0x40007 && decide (0x500 ≤ a % 0x1000)) ||
    [R.PLC_SLOTPOOL_L, R.PLC_SLOTPOOL_H, R.PLC_YAREA, R.PLC_XAREA].contains a

/-- A command is accepted (R203, R205): descriptors and templates are captured, and Sieve refills its initial-record
store; without an INIT buffer, or when it loses its place, the run starts at the next frame start. -/
def LaneState.acceptCmd (l : LaneState) (op : Nat) : LaneState :=
  let bit := 2 ^ (op - 1)
  let d : RegFile := { l.regs with tab := l.regs.tab.filter fun e => capturedReg e.1 && decide (0x100 ≤ e.1 % 0x1000) }
  let l := (l.modSieve fun v => { v with desc := d }).wr R.PLC_DDIGEST d.descDigest
  if (l.bufAt Buf.init).isSome then l.modSieve fun v => { v with initFull := false, filling := v.filling ||| bit }
  else l.arise (op - 1) false

/-- A write of CMD (R205): accepted at the write, or when BUSY falls; several then merge into one. -/
def LaneState.plcCmdWrite (l : LaneState) (v : Word) : LaneState :=
  l.command R.PLC_CMD v fun l e =>
    let op := getBits e 0 2
    if op = 0 then l
    else if l.get F.PLC_STAT_BUSY = 1 then l.modSieve fun v => { v with queued := max v.queued op }
    else l.acceptCmd op

def execPlcCommit (x : Lane) (s : State) : Host.Outcome State Fault Refusal := onLane x (·.plcCmdWrite 1) s
def execPlcReplace (x : Lane) (s : State) : Host.Outcome State Fault Refusal := onLane x (·.plcCmdWrite 2) s

/-- A 64-bit word of working SRAM or MRAM. -/
def LaneState.recWord (l : LaneState) (a : Nat) : DWord := if a < 0x10000000 then l.dword a else l.dmaDword a

/-- Bytes of a context's initial record (R182). -/
def RegFile.recBytes (d : RegFile) (c : Nat) : Nat :=
  8 * d.get (F.PLC_DESC_1_STWORDS c) + 16 + 8 * ((d.get (F.PLC_DESC_1_NCOEF c) + 1) / 2)

/-- INIT_REFILL_COMPLETE (R203): the store holds the initial record of every context of class 1 to 4, and the commands
that waited for it count. -/
def execInitRefillComplete (x : Lane) (s : State) : Host.Outcome State Fault Refusal :=
  onLane x (fun l =>
    match l.bufAt Buf.init with
    | none => l
    | some b =>
      if l.sieve.initFull ∨ !l.alive then l
      else
        let d := l.sieve.desc
        let l := ((List.range 128).filter d.engine).foldl (fun (l : LaneState) c =>
          let src := 8 * d.get (F.PLC_DESC_6_INITOFS c)
          l.dmaPutBytes (sramAt b (1024 * c)) ((List.range (d.recBytes c)).map fun i => l.byte (src + i))) l
        (l.modSieve fun v => { v with initFull := true }).cmdsCount) s

/-- PLACE_TRIG_RECEIVED (R202, R203): the named triggers count in the named frame, and PEER with them. -/
def execPlaceTrigReceived (x : Lane) (mask fn : Word) (s : State) : Host.Outcome State Fault Refusal :=
  onLane x (fun l =>
    if !l.alive ∨ !l.llUp then l
    else
      let m := mask.toNat % 1024 ||| 256
      let cur := l.rd R.LE_FN_LO
      l.modSieve fun v =>
        if fn = cur then { v with trigs := v.trigs ||| m }
        else if fn = cur + 1 then { v with next := v.next ||| m } else { v with ripe := v.ripe ||| m }) s

/-! ### Starts and loading (R184, R185, R195, R196) -/

/-- The descriptor fields whose change makes a placement new (R195). -/
def sameDesc (d e : RegFile) (c : Nat) : Bool :=
  [F.PLC_DESC_0_DIV c, F.PLC_DESC_1_ENTRY c, F.PLC_DESC_1_STWORDS c, F.PLC_DESC_1_NCOEF c, F.PLC_DESC_1_DBANK c,
    F.PLC_DESC_6_INITOFS c].all fun f => d.get f == e.get f

/-- A context's present placement, PLCREP[14:0]; none where it was placed as the other kind of context, so that it is
placed anew (R189, R193, R195). -/
def LaneState.placedNow (l : LaneState) (c : Nat) : Nat :=
  let was := l.sieve.placed.cls c
  if was ≠ 0 ∧ (was == Cls.super) ≠ (l.sieve.desc.cls c == Cls.super) then 0 else l.plcrep c

/-- How an engine context placed in this lane starts (R195, R206). -/
def LaneState.startOf (l : LaneState) (mask rep c : Nat) : Nat :=
  let d := l.sieve.desc
  let me := l.id.num
  let old := l.placedNow c
  let was := repState old == 1 && repIn old me
  let same := sameDesc d l.sieve.placed c
  let waiting := l.get (F.PLC_PLCREP_START c) == Start.syncwait
  if was && same then if waiting then (if repIn rep (1 - me) then Start.syncwait else Start.cold) else Start.incumbent
  else if d.cls c = Cls.duplex ∧ maskBit mask 3 ∧ repState old = 1 ∧ repIn old (1 - me) ∧ !was then Start.syncwait
  else if d.simplex c ∧ d.get (F.PLC_DESC_0_WARM c) = 1 ∧ repState old = 1 ∧ !was ∧ same ∧
      l.get (F.PLC_PLCREP_MIRSKIP c) = 0 ∧ (Table.get (fun _ => none) l.sieve.mirCur c).isSome then Start.warm
  else Start.cold

/-- The starts of the engine contexts that a plan places in this lane. -/
def LaneState.starts (l : LaneState) (mask : Nat) (plan : List PlcEntry) : Table Nat :=
  ((List.range 128).filter fun c =>
    l.sieve.desc.engine c && repState (plan.getD c ⟨0, 0⟩).rep == 1 && repIn (plan.getD c ⟨0, 0⟩).rep l.id.num).map
    fun c => (c, l.startOf mask (plan.getD c ⟨0, 0⟩).rep c)
def startIn (t : Table Nat) (c : Nat) : Nat := Table.get (fun _ => 0) t c

/-- Cells of a context in the engine memories (R184). -/
def RegFile.yBase (d : RegFile) (c : Nat) : Nat := d.get F.PLC_YAREA_YLO + d.get F.PLC_YAREA_YCELL * c
def RegFile.xBase (d : RegFile) (c : Nat) : Nat := d.get F.PLC_XAREA_XLO + d.get F.PLC_XAREA_XCELL * c
def RegFile.bSize (d : RegFile) (c : Nat) : Nat :=
  if d.get (F.PLC_DESC_1_DBANK c) = 1 then d.get (F.PLC_DESC_1_NCOEF c) else 0

/-- State words, coefficients into every bank, through the hart ports (R195, R196). -/
def LaneState.loadCells (l : LaneState) (c : Nat) (st : List DWord) (coef : List Word) : LaneState :=
  let d := l.sieve.desc
  let y := 0x20020000 + 8 * d.yBase c
  let l := (List.range st.length).foldl (fun (l : LaneState) i => l.engStore (y + 8 * i) 8 (st.getD i 0).toNat) l
  (List.range (1 + d.get (F.PLC_DESC_1_DBANK c))).foldl (fun (l : LaneState) b =>
    let x := 0x20010000 + 4 * (d.xBase c + b * d.bSize c)
    (List.range coef.length).foldl (fun (l : LaneState) i => l.engStore (x + 4 * i) 4 (coef.getD i 0).toNat) l) l

/-- A COLD load: the initial record, from the store or from MRAM; each pointer word takes B of its configuration
word (R195). -/
def LaneState.loadCold (l : LaneState) (c : Nat) : LaneState :=
  let d := l.sieve.desc
  let n := d.get (F.PLC_DESC_1_STWORDS c)
  let a := match l.bufAt Buf.init with
    | some b => if l.sieve.initFull then sramAt b (1024 * c) else 8 * d.get (F.PLC_DESC_6_INITOFS c)
    | none => 8 * d.get (F.PLC_DESC_6_INITOFS c)
  let st := (List.range n).map fun i => l.recWord (a + 8 * i)
  let cf := (List.range (d.get (F.PLC_DESC_1_NCOEF c))).map fun i =>
    (l.recWord (a + 8 * (n + 2 + i / 2))).extractLsb' (32 * (i % 2)) 32
  let cfg := fun j => l.recWord (a + 8 * (n + j))
  let l := l.loadCells c st cf
  let put := fun (l : LaneState) j v =>
    (l.engStore (zAddr (0xE00 + 4 * c + 2 * j)) 8 (v % 16384)).engStore (zAddr (0xE00 + 4 * c + 2 * j + 1)) 8 v
  put (put l 0 (cfg 0).toNat) 1 (cfg 1).toNat

/-- The address of a snapshot buffer of a context. -/
def mirAt (block c buf : Nat) : Nat := sramAt (block + c) (2048 * buf)

/-- A load from the current snapshot (R195, R206). -/
def LaneState.loadSnap (l : LaneState) (c : Nat) : LaneState :=
  match l.bufAt Buf.mir, Table.get (fun _ => none) l.sieve.mirCur c with
  | some b, some (k, _) =>
    let d := l.sieve.desc
    let n := d.get (F.PLC_DESC_1_STWORDS c)
    let m := (d.get (F.PLC_DESC_1_NCOEF c) + 1) / 2
    let a := mirAt b c k
    let st := (List.range n).map fun i => l.dmaDword (a + 8 * i)
    let cf := (List.range (d.get (F.PLC_DESC_1_NCOEF c))).map fun i => l.dmaWord (a + 8 * n + 4 * i)
    let tb := fun i => (l.dmaDword (a + 8 * (n + m + i))).toNat
    let l := l.loadCells c st cf
    (List.range 4).foldl (fun (l : LaneState) i => l.engStore (zAddr (0xE00 + 4 * c + i)) 8 (tb i)) l
  | _, _ => l

/-- The OUT words of the current snapshot (R197, R201). -/
def LaneState.snapOut (l : LaneState) (c w : Nat) : Option DWord :=
  match l.bufAt Buf.mir, Table.get (fun _ => none) l.sieve.mirCur c with
  | some b, some (k, _) =>
    let d := l.sieve.desc
    let n := d.get (F.PLC_DESC_1_STWORDS c) + (d.get (F.PLC_DESC_1_NCOEF c) + 1) / 2 + 4
    some (l.dmaDword (mirAt b c k + 8 * (n + w)))
  | _, _ => none

/-- The ROT word of a placed context. -/
def rotWord (d : RegFile) (c : Nat) (valid : Bool) : Word :=
  BitVec.ofNat 32 (c + bit valid * 128 + d.get (F.PLC_DESC_1_ENTRY c) * 256)

/-- The pending LE and LESLOT entries of this lane (R184, R185, R206). -/
def LaneState.writePending (l : LaneState) (plan : List PlcEntry) (starts : Table Nat) : LaneState :=
  let d := l.sieve.desc
  let mine := starts.map (·.1)
  let rep := fun c => (plan.getD c ⟨0, 0⟩).rep
  let used := mine.flatMap d.templates
  let l := mine.foldl (fun (l : LaneState) c =>
    let l := ((l.put (F.LE_CTXCFG_YBASE c) (d.yBase c)).put (F.LE_CTXCFG_BFIRST c) (d.get (F.PLC_DESC_2_TFIRST c))).put
      (F.LE_CTXCFG_BCOUNT c) (d.get (F.PLC_DESC_2_TCOUNT c))
    (l.put (F.LE_CTXCOEF_XBASE c) (d.xBase c)).put (F.LE_CTXCOEF_BSIZE c) (d.bSize c)) l
  let l := (List.range 256).foldl (fun (l : LaneState) n =>
    if used.contains n then (l.wr (R.LE_BINDA n) (d.rd (R.PLC_BTA n))).wr (R.LE_BINDB n) (d.rd (R.PLC_BTB n))
    else l.put (F.LE_BINDA_EN n) 0) l
  (List.range 48).foldl (fun (l : LaneState) s =>
    let here := mine.filter fun c => repSlot (rep c) == s
    let l := l.put (F.LESLOT_SLOTCFG_EN s) (bit (!here.isEmpty))
    let l := match here with
      | c :: _ => l.put (F.LESLOT_SLOTCFG_DIV s) (d.div c)
      | [] => l
    (List.range 8).foldl (fun (l : LaneState) r =>
      l.wr (R.LESLOT_ROT s r) (match here.find? fun c => repRot (rep c) == r with
        | some c => rotWord d c (startIn starts c ≠ Start.syncwait)
        | none => 0)) l) l

/-! ### Runs (R203, R204) -/

/-- A run ends: BUSY falls, and a command written meanwhile is accepted (R205). -/
def LaneState.runFinish (l : LaneState) : LaneState :=
  let q := l.sieve.queued
  let l := (l.modSieve fun v => { v with run := none, queued := 0 }).put F.PLC_STAT_BUSY 0
  if q = 0 then l else l.acceptCmd q

/-- LASTRUN of a run (R210). -/
def LaneState.lastRun (l : LaneState) (r : PlcRun) (res : Nat) : LaneState :=
  ((l.put F.PLC_LASTRUN_TRIG r.mask).put F.PLC_LASTRUN_RESULT res).put F.PLC_LASTRUN_RUN l.sieve.runNo

/-- A run ends without commit (R202, R204): its triggers stay pending and RETRY arises. -/
def LaneState.runEnd (l : LaneState) (r : PlcRun) (res : Nat) : LaneState :=
  let l := l.lastRun r res
  let l := if r.stage = .input then l else l.wr R.PLC_DIGEST (planDigest r.plan)
  let l := if 2 ≤ res then l.irqPulse P.PLC (mbit 2) else l
  let l := if res = PlcRes.diff then l.raise 26 else l
  (l.modSieve fun v => { v with ripe := v.ripe ||| r.mask }).runFinish.arise 9 false

/-- Fenced slots and pairs of a lane as masks. -/
def LaneState.fencedSlots (l : LaneState) : Nat :=
  (List.range 48).foldl (fun m k => m + l.get (F.LESLOT_SLOTSTAT_FENCED k) * 2 ^ k) 0
def LaneState.fencedPairs (l : LaneState) : Nat :=
  (List.range 4).foldl (fun m p => m + bit (l.pairState p == PState.fenced) * 2 ^ p) 0

/-- Domains held, and those whose holder is Lane B, as masks. -/
def State.heldMask (s : State) : Nat := (List.range 8).foldl (fun m d => m + bit (s.holderOf d).isSome * 2 ^ d) 0
def State.heldByB (s : State) : Nat := (List.range 8).foldl (fun m d => m + bit (s.holderOf d == some .B) * 2 ^ d) 0

/-- The INPUT message of an instance (R205). -/
def LaneState.sendInput (l : LaneState) (run held byB : Nat) : LaneState :=
  let fs := l.fencedSlots
  l.sendPlace 2 [BitVec.ofNat 32 run, l.rd R.PLC_DDIGEST, BitVec.ofNat 32 fs,
    BitVec.ofNat 32 (fs / 2 ^ 32 + l.fencedPairs * 2 ^ 16 + held * 2 ^ 20), BitVec.ofNat 32 byB]

/-- The inputs of a run's placement; in PAIRED mode with the peer's fenced slots and pairs (R204). -/
def State.planInput (s : State) (x : Lane) (r : PlcRun) (pin : Option PlcInput) : PlcIn :=
  let l := s.lane x
  let d := l.sieve.desc
  let both := fun own peer => if x.num = 0 then (own, peer) else (peer, own)
  { desc := d, up := (List.range 2).filter (maskBit r.up),
    pool := d.get F.PLC_SLOTPOOL_L_POOL + d.get F.PLC_SLOTPOOL_H_POOL * 2 ^ 32,
    fslots := both r.fslots ((pin.map (·.fslots)).getD 0), fpairs := both r.fpairs ((pin.map (·.fpairs)).getD 0),
    holder := (List.range 8).map fun k => if maskBit r.held k then some (bit (maskBit r.holderB k)) else none,
    bridges := (List.range 8).map s.domBridges, prev := (List.range 128).map l.placedNow, replace := maskBit r.mask 1 }

/-- A run goes on to load its state (R203 step 5). -/
def LaneState.toLoad (l : LaneState) (r : PlcRun) (lead : Nat) : LaneState :=
  l.modSieve fun v => { v with run := some { r with stage := .load, lead := lead, eff := r.fn + lead } }

/-- The RESULTs of both instances are compared (R204). -/
def LaneState.compareResult (l : LaneState) (r : PlcRun) (digest : Word) (lead : Nat) : LaneState :=
  if digest = planDigest r.plan then l.toLoad r (max r.lead lead) else l.runEnd r PlcRes.diff

/-- The placement is computed (R203 step 3), and in PAIRED mode RESULT is sent. -/
def State.runCompute (s : State) (x : Lane) (r : PlcRun) (pin : Option PlcInput) : State :=
  let i := s.planInput x r pin
  let plan := i.compute
  s.modLane x fun l =>
    let starts := l.starts r.mask plan
    let m := if l.sieve.initFull then 0 else (starts.filter fun e => e.2 == Start.cold).length
    let r := { r with
      stage := .result, plan := plan, starts := starts, succ := i.successors x.num,
      lead := planLead m (l.get F.LE_FRAMECFG_FRAME) }
    if !r.paired then l.toLoad r r.lead
    else
      let l := l.sendPlace 3 [BitVec.ofNat 32 l.sieve.runNo, planDigest plan, BitVec.ofNat 32 r.lead]
      let l := l.modSieve fun v => { v with run := some r }
      match l.sieve.peerRes with
      | some (dg, lead) => l.compareResult r dg lead
      | none => l

/-- The peer's INPUT meets the run (R203 step 2, R204). -/
def State.runInput (s : State) (x : Lane) (r : PlcRun) (pin : PlcInput) : State :=
  if pin.digest ≠ (s.lane x).rd R.PLC_DDIGEST then s.modLane x (·.runEnd r PlcRes.digest)
  else s.runCompute x r (some pin)

/-- Whether Sieve may start a run. -/
def LaneState.plcRuns (l : LaneState) : Bool :=
  l.alive && l.get (F.run P.PLC) == 1 && l.get (F.running P.PLC) == 1 && !l.blockFenced P.PLC

/-- PLACEMENT_RUN_START (R203, R204): at the start of frame `fn`, with the triggers that count in the frame before. -/
def execPlacementRunStart (x : Lane) (fn : DWord) (s : State) : Host.Outcome State Fault Refusal :=
  let l := s.lane x
  let mode := s.sieveMode x
  let mask := l.sieve.ripe
  if !l.plcRuns ∨ l.sieve.run.isSome ∨ mode = Mode.held ∨ mask = 0 ∨ !l.loop.framing ∨ l.fn ≠ fn then done s
  else
    let r : PlcRun := ⟨l.fn.toNat, mask, mode == Mode.paired, .input, l.fencedSlots, l.fencedPairs, s.heldMask,
      s.heldByB, bit (s.laneUp .A) + 2 * bit (s.laneUp .B), [], [], [], 0, 0⟩
    let s := s.modLane x fun l =>
      let l := (l.modSieve fun v => { v with run := some r, ripe := 0, runNo := v.runNo + 1 }).put F.PLC_STAT_BUSY 1
      let l := l.placeBuffers false
      if r.paired then l.sendInput l.sieve.runNo r.held r.holderB else l
    if !r.paired then done (s.runCompute x r none)
    else
      match (s.lane x).sieve.peerIn with
      | some pin => done (s.runInput x r pin)
      | none => done s

/-- The PLCSTATE messages of a survivor (R206): PLCREP[14:0] of every context. -/
def LaneState.sendPlcstate (l : LaneState) : LaneState :=
  (List.range 4).foldl (fun (l : LaneState) k =>
    l.sendPlace 5 (BitVec.ofNat 32 (32 * k) :: (List.range 16).map fun j =>
      BitVec.ofNat 32 (l.plcrep (32 * k + 2 * j) + l.plcrep (32 * k + 2 * j + 1) * 2 ^ 16))) l

/-- PLACE_INPUT_RECEIVED (R202 to R206). The peer's first INPUT is the LANERET trigger, and brings it the placement in
force; run number 0 announces an instance and starts no run. -/
def execPlaceInputReceived (x : Lane) (run digest slots rest _holders : Word) (s : State) :
    Host.Outcome State Fault Refusal :=
  let l := s.lane x
  if !l.alive ∨ !l.llUp then done s
  else
    let s := if l.sieve.peerSeen then s
      else s.modLane x fun l => ((l.modSieve fun v => { v with peerSeen := true }).trigger 3).sendPlcstate
    let pin : PlcInput := ⟨run.toNat, digest, slots.toNat + getBits rest 0 16 * 2 ^ 32, getBits rest 16 4⟩
    if run = 0 then done s
    else
      match l.sieve.run with
      | some r => if r.stage = .input then done (s.runInput x r pin) else done s
      | none => done (s.modLane x (·.modSieve fun v => { v with peerIn := some pin }))

/-- PLACE_RESULT_RECEIVED (R203, R204). -/
def execPlaceResultReceived (x : Lane) (_run digest lead : Word) (s : State) : Host.Outcome State Fault Refusal :=
  onLane x (fun l =>
    if !l.alive ∨ !l.llUp then l
    else
      match l.sieve.run with
      | some r =>
        if r.stage = .result then l.compareResult r digest (getBits lead 0 8)
        else if r.stage = .input then l.modSieve fun v => { v with peerRes := some (digest, getBits lead 0 8) } else l
      | none => l) s

/-- The starts of a run, a counterpart synchronised meanwhile being an incumbent (R206). -/
def LaneState.syncedStarts (l : LaneState) (t : Table Nat) : Table Nat :=
  t.map fun e => if e.2 = Start.syncwait ∧ l.get (F.PLC_PLCREP_START e.1) = Start.sync then (e.1, Start.incumbent) else e

/-- STATE_LOAD_COMPLETE (R203 steps 5 and 6): in the frame before the placement takes effect, state is loaded, pending
entries are written and COMMIT is written. -/
def execStateLoadComplete (x : Lane) (s : State) : Host.Outcome State Fault Refusal :=
  onLane x (fun l =>
    match l.sieve.run with
    | some r =>
      if r.stage ≠ .load ∨ l.fn.toNat + 1 < r.eff ∨ !l.alive then l
      else
        let starts := l.syncedStarts r.starts
        let l := starts.foldl (fun (l : LaneState) e =>
          if e.2 = Start.warm then l.loadSnap e.1 else if e.2 = Start.cold then l.loadCold e.1 else l) l
        let l := (l.writePending r.plan starts).put F.LE_TBLCTRL_COMMIT 1
        l.modSieve fun v => { v with run := some { r with stage := .commit, starts := starts } }
    | none => l) s

/-! ### Fallback (R200, R201) -/

/-- Sends a register write to the bridge die; none leaves while the lane's bridge link is down (R68, R70). -/
def LaneState.postBridge (l : LaneState) (n off : Nat) (w : Word) : LaneState :=
  if !l.blUp then l
  else l.sendDown 3 n 0 [BitVec.ofNat 16 off, w.extractLsb' 0 16, w.extractLsb' 16 16]

/-- Whether the fallback of a shed context acts in lane `x` (R200); what a returned lane does not know of the last
placement, its peer does. -/
def State.fallbackHere (s : State) (x : Lane) (c : Nat) : Bool :=
  let d := (s.lane x).sieve.desc
  let lasts := fun y => Table.get (fun _ => 0) (s.lane y).sieve.last c
  let last := if lasts x = 0 then lasts x.peer else lasts x
  if d.cls c = Cls.duplex then true
  else if (maskBit last 0 && s.laneUp .A) || (maskBit last 1 && s.laneUp .B) then maskBit last x.num
  else
    let order := match (if d.authen c then s.holderOf (d.domain c) else none) with
      | some h => [h]
      | none => if d.cls c = Cls.simB then [.B, .A] else [.A, .B]
    (order.find? s.laneUp) == some x

def sat64 (v : Int) : Int := max (-(2 ^ 63)) (min (2 ^ 63 - 1) v)
/-- The ramp target and step (R201). -/
def RegFile.rampTarget (d : RegFile) (c : Nat) : Int :=
  sat64 ((d.rd (R.PLC_DESC_5 c)).toInt * 2 ^ d.get (F.PLC_DESC_4_RSHIFT c))
def RegFile.rampStep (d : RegFile) (c : Nat) : Int :=
  (d.get (F.PLC_DESC_4_RSTEP c) * 2 ^ d.get (F.PLC_DESC_4_RSHIFT c) : Nat)

/-- The output entries of a context's templates that a run uses (R162). -/
def RegFile.rampOuts (d : RegFile) (c : Nat) : List Word :=
  (walkList ((d.templates c).map fun n => (n, d.rd (R.PLC_BTA n)))).outs

/-- Whether a context last ran in lane `x` (R201). -/
def State.ranHere (s : State) (x : Lane) (c : Nat) : Bool :=
  let f := fun y => Table.get (fun _ => 0) (s.lane y).sieve.ran c
  f x != 0 && decide (f x.peer ≤ f x)

/-- The OUT words of a ramp: those it has keep their values, and each other word of the templates starts as R201 says. -/
def State.rampWords (s : State) (x : Lane) (c : Nat) (old : List (Nat × Int)) : List (Nat × Int) :=
  let l := s.lane x
  let d := l.sieve.desc
  (d.rampOuts c).map fun a =>
    let z := bZw a
    (z, match old.find? fun e => e.1 == z with
      | some e => e.2
      | none =>
        if s.ranHere x c then (l.dword (zAddr (24 * c + z))).toInt
        else match l.snapOut c (z - 16) with
          | some v => v.toInt
          | none => d.rampTarget c)

/-- Ramp channels after a placement, and the contexts that found none (R201): at most 16, in placement order. -/
def State.rampPlan (s : State) (x : Lane) (plan : List PlcEntry) : Table (Option (List (Nat × Int))) × List Nat :=
  let l := s.lane x
  let d := l.sieve.desc
  let ramp := sortBy d.orderKey ((List.range 128).filter fun c =>
    d.engine c && repState (plan.getD c ⟨0, 0⟩).rep == 2 && d.get (F.PLC_DESC_4_FBMODE c) == 1 && s.fallbackHere x c)
  ((ramp.take 16).foldl (fun t c =>
    Table.set (fun _ => none) t c (some (s.rampWords x c ((Table.get (fun _ => none) l.sieve.ramps c).getD [])))) [],
    ramp.drop 16)

/-- TERMINAL (R200): the terminal request of each bridge of a newly shed context, in the lane that holds the domain. -/
def State.terminalRequests (s : State) (x : Lane) (plan : List PlcEntry) : State :=
  let l0 := s.lane x
  let d := l0.sieve.desc
  let shed := (List.range 128).filter fun c =>
    d.engine c && repState (plan.getD c ⟨0, 0⟩).rep == 2 && repState (l0.plcrep c) ≠ 2 &&
      d.get (F.PLC_DESC_4_FBMODE c) == 2 && s.fallbackHere x c && s.holderOf (d.domain c) == some x
  s.modLane x fun l => shed.foldl (fun (l : LaneState) c =>
    ((d.outTemplates c).filter fun a => bType a == 8).foldl (fun (l : LaneState) a =>
      l.postBridge (bIndex a) 0x124 0x7E81) l) l

/-- One step of a ramp word toward the target. -/
def rampMove (target step v : Int) : Int := if v < target then min (v + step) target else max (v - step) target

/-- Ramps step at frame cycle 0 of every frame whose FN is a multiple of DIV (R201). -/
def State.rampStep (s : State) (x : Lane) : State :=
  let l := s.lane x
  let d := l.sieve.desc
  let due := (l.sieve.ramps.map (·.1)).filter fun c => l.fn.toNat % max 1 (d.div c) == 0
  let move := fun c (ws : List (Nat × Int)) => (s.rampWords x c ws).map fun e =>
    (e.1, rampMove (d.rampTarget c) (d.rampStep c) e.2)
  s.modLane x (·.modSieve fun v => { v with
    rampDue := due, ramps := due.foldl (fun t c => Table.upd (fun _ => none) t c fun o => o.map (move c)) v.ramps })

/-- RAMP_OUTPUT (R201): at frame cycle 320 the output stage of R159 and R160, with no DUPLEX_OUT. -/
def execRampOutput (x : Lane) (c : Fin 128) (s : State) : Host.Outcome State Fault Refusal :=
  onLane x (fun l =>
    let c := c.val
    match Table.get (fun _ => none) l.sieve.ramps c with
    | some ws =>
      if !l.alive ∨ !l.sieve.rampDue.contains c then l
      else
        let es := (l.sieve.desc.rampOuts c).filterMap fun a =>
          (ws.find? fun e => e.1 == bZw a).map fun e => (a, BitVec.ofInt 64 e.2)
        let l := l.modSieve fun v => { v with rampDue := v.rampDue.filter (· ≠ c) }
        l.launchOuts (phaseOuts es) (strataOuts es) false
    | none => l) s

/-! ### Warm mirroring (R197 to R199) -/

/-- The words of a context's snapshot (R197). -/
def LaneState.snapWords (l : LaneState) (c : Nat) : List Word :=
  let d := l.sieve.desc
  let n := d.get (F.PLC_DESC_1_STWORDS c)
  let k := d.get (F.PLC_DESC_1_NCOEF c)
  let cb := l.cbank c (l.get (F.LE_CTXCOEF_BANK c))
  outWords ((List.range n).map fun i => l.dword (0x20020000 + 8 * (d.yBase c + i))) ++
    ((List.range k).map fun i => l.word (0x20010000 + 4 * (cb + i))) ++ List.replicate (k % 2) 0 ++
    outWords ((List.range 4).map fun i => l.dword (zAddr (0xE00 + 4 * c + i))) ++
    outWords ((List.range 8).map fun i => l.dword (zAddr (24 * c + 16 + i)))

/-- MIRROR frames of at most 31 data words from byte offset `ofs` on; at most 7 frames carry a snapshot. -/
def LaneState.sendMirror (l : LaneState) (c : Nat) (ws : List Word) : LaneState :=
  (List.range ((ws.length + 30) / 31)).foldl (fun (l : LaneState) i =>
    l.llReady 2 (BitVec.ofNat 16 (c * 512)) (BitVec.ofNat 32 (124 * i) :: (ws.drop (31 * i)).take 31)) l

/-- A snapshot is sent: a PLACE SNAP message, then MIRROR frames (R197). -/
def LaneState.sendSnap (l : LaneState) (c : Nat) : LaneState :=
  ((l.sendPlace 4 [BitVec.ofNat 32 c, l.rd R.LE_FN_LO]).sendMirror c (l.snapWords c)).count P.PLC 4

/-- Whether a context is mirrored by this lane (R197, R198). -/
def LaneState.mirrored (l : LaneState) (c : Nat) : Bool :=
  let p := l.plcrep c
  l.sieve.placed.simplex c && l.sieve.placed.get (F.PLC_DESC_0_WARM c) == 1 && repState p == 1 && repIn p l.id.num &&
    l.get (F.PLC_PLCREP_MIRSKIP c) == 0

/-- Records the frame base of the snapshot sent. -/
def LaneState.setBase (l : LaneState) (c base : Nat) : LaneState :=
  l.modSieve fun v => { v with snapBase := Table.set (fun _ => none) v.snapBase c (some base) }

/-- At the END of a run of context `c` (R197, R206): in PAIRED mode a DUPLEX context that its counterpart waits for is
sent, and a mirrored context at its first run at or after a multiple of MIRK. -/
def LaneState.runSnapshot (l : LaneState) (paired : Bool) (c : Nat) : LaneState :=
  if !paired then l
  else if l.sieve.syncSend.contains c then l.sendSnap c
  else if l.mirrored c then
    let fn := l.fn.toNat
    let base := fn - fn % max 1 (l.sieve.placed.get (F.PLC_DESC_0_MIRK c))
    match Table.get (fun _ => none) l.sieve.snapBase c with
    | some b => if b < base then (l.setBase c base).sendSnap c else l
    | none => (l.setBase c base).sendSnap c
  else l
/-- PLACE_SNAP_RECEIVED (R199): a snapshot that was still incomplete is discarded. Without a MIR buffer none is
received (R207). -/
def execPlaceSnapReceived (x : Lane) (c : Fin 128) (fn : Word) (s : State) : Host.Outcome State Fault Refusal :=
  onLane x (fun l =>
    let c := c.val
    if !l.alive ∨ !l.llUp ∨ (l.bufAt Buf.mir).isNone then l
    else
      let l := if (Table.get (fun _ => none) l.sieve.mirRx c).isSome then l.count P.PLC 5 else l
      let buf := match Table.get (fun _ => none) l.sieve.mirCur c with
        | some (k, _) => 1 - k
        | none => 0
      l.modSieve fun v => { v with mirRx := Table.set (fun _ => none) v.mirRx c (some ⟨fn, buf, 0⟩) }) s

/-- Whether the pair is synchronised (R206 step 4): no counterpart waits, and each lane holds a current snapshot of
every context that the other mirrors. -/
def State.synced (s : State) : Bool :=
  let waits := fun (l : LaneState) => (List.range 128).any fun c => l.get (F.PLC_PLCREP_START c) == Start.syncwait
  let holds := fun (l m : LaneState) => (List.range 128).all fun c =>
    !m.mirrored c || (Table.get (fun _ => none) l.sieve.mirCur c).isSome
  !waits s.a && !waits s.b && holds s.a s.b && holds s.b s.a

/-- SYNCDONE rises when the pair is synchronised (R206, R212). -/
def State.syncDone (s : State) : State :=
  if s.synced then
    s.modLanes fun l =>
      if l.sieve.syncing then
        ((l.modSieve fun v => { v with syncing := false }).put F.PLC_STAT_SYNCDONE 1).irqPulse P.PLC (mbit 3)
      else l
  else s

/-- MIRROR_FRAME_RECEIVED (R199): the words go into the snapshot buffer; the last make the snapshot current. -/
def LaneState.mirrorFrame (l : LaneState) (c ofs : Nat) (ws : List Word) : LaneState :=
  match l.bufAt Buf.mir, Table.get (fun _ => none) l.sieve.mirRx c with
  | some b, some r =>
    if ofs ≠ r.bytes then l
    else
      let l := l.dmaPutBytes (mirAt b c r.buf + ofs) (ws.flatMap wordBytes)
      let n := r.bytes + 4 * ws.length
      if n < 4 * l.sieve.desc.mirWords c then
        l.modSieve fun v => { v with mirRx := Table.set (fun _ => none) v.mirRx c (some { r with bytes := n }) }
      else
        (l.modSieve fun v => { v with
          mirRx := Table.set (fun _ => none) v.mirRx c none
          mirCur := Table.set (fun _ => none) v.mirCur c (some (r.buf, r.fn)) }).wr (R.PLC_PLCMIR c) r.fn
  | _, _ => l

def execMirrorFrameReceived (x : Lane) (c : Fin 128) (offset : Nat) (words : List Word) (s : State) :
    Host.Outcome State Fault Refusal :=
  if (s.lane x).alive ∧ (s.lane x).llUp ∧ words.length ≤ 31 then
    done (s.modLane x (·.mirrorFrame c.val offset words)).syncDone
  else done s

/-- PLACE_PLCSTATE_RECEIVED (R206): an instance without a placement of its own takes the survivor's, whose first INPUT
was sent long before. -/
def execPlacePlcstateReceived (x : Lane) (first : Nat) (words : List Word) (s : State) : Host.Outcome State Fault Refusal :=
  onLane x (fun l =>
    if !l.alive ∨ !l.llUp ∨ l.rd R.PLC_RUNCNT ≠ 0 then l
    else (List.range 32).foldl (fun (l : LaneState) j =>
      let c := first + j
      if c < 128 then
        let v := getBits (words.getD (j / 2) 0) (16 * (j % 2)) 15
        (l.wr (R.PLC_PLCREP c) (setBits (l.rd (R.PLC_PLCREP c)) 0 15 v)).modSieve fun q => { q with
          last := if repState v = 1 then Table.set (fun _ => 0) q.last c (v / 4 % 4) else q.last }
      else l) (l.modSieve fun q => { q with peerSeen := true })) s

/-- PLACE_SYNCED_RECEIVED (R206 step 2). -/
def execPlaceSyncedReceived (x : Lane) (c : Fin 128) (s : State) : Host.Outcome State Fault Refusal :=
  if (s.lane x).alive ∧ (s.lane x).llUp then
    done (s.modLane x (·.modSieve fun v => { v with syncSend := v.syncSend.filter (· ≠ c.val) })).syncDone
  else done s

/-- The local commits of a frame start (R206 step 3): a counterpart whose snapshot of the frame that ends is complete is
loaded, its rotation entry becomes valid and active, and the survivor is told. The commit is applied (R178), and LE CONFIG is
raised once when the active copy then holds an ignored binding entry (R162). -/
def LaneState.localCommits (l : LaneState) : LaneState :=
  let n := (List.range 128).foldl (fun (l : LaneState) c =>
    match Table.get (fun _ => none) l.sieve.mirCur c with
    | some (_, fn) =>
      if l.get (F.PLC_PLCREP_START c) = Start.syncwait ∧ fn = l.rd R.LE_FN_LO then
        let p := l.plcrep c
        let l := l.loadSnap c
        let a := R.LESLOT_ROT (repSlot p) (repRot p)
        let w := rotWord l.sieve.placed c true
        let l := { l.wr a w with active := (l.active.wr a w).put (F.LESLOT_SLOTCFG_EN (repSlot p)) 1 }
        (l.put (F.PLC_PLCREP_START c) Start.sync).sendPlace 6 [BitVec.ofNat 32 c]
      else l
    | none => l) l
  let n := if n.active = l.active then n else n.irqPulse P.LE (mbit 1)
  if n.active ≠ l.active ∧ (List.range 128).any (fun c => (n.walk c).ign) then n.raise 35 else n

/-! ### The placement takes effect (R203, R206, R208) -/

/-- One log record (R208). -/
def LaneState.plcLog (l : LaneState) (c old new start cause trig fn : Nat) : LaneState :=
  match l.bufAt Buf.log with
  | none => l
  | some b =>
    let i := l.get F.PLC_LOGIDX_NEXT
    let ws := [fn % 2 ^ 32, c + old * 2 ^ 8, new + start * 2 ^ 16 + cause * 2 ^ 20, trig, 0, 0, 0, 0]
    (l.dmaPutBytes (sramAt b (32 * i)) (ws.flatMap fun w => wordBytes (BitVec.ofNat 32 w))).put F.PLC_LOGIDX_NEXT (i + 1)

/-- The PLCREP of a context changes (R208, R211, R212). -/
def LaneState.setPlcrep (r : PlcRun) (skip full : List Nat) (l : LaneState) (c : Nat) : LaneState :=
  let e := r.plan.getD c ⟨0, 0⟩
  let old := l.plcrep c
  let st := startIn r.starts c
  let ramp := (Table.get (fun _ => none) l.sieve.ramps c).isSome
  let l := l.wr (R.PLC_PLCREP c) (BitVec.ofNat 32 (e.rep + st * 2 ^ 16 + e.cause * 2 ^ 20 +
    bit (skip.contains c) * 2 ^ 23 + bit ramp * 2 ^ 24 + bit (full.contains c) * 2 ^ 25))
  let moved := repState e.rep = 1 ∧ repState old = 1
  let l := if repState e.rep = 2 ∧ repState old ≠ 2 then ((l.irqPulse P.PLC (mbit 1)).raise 27).count P.PLC 2 else l
  let l := if moved ∧ (repIn e.rep 0 ≠ repIn old 0 ∨ repIn e.rep 1 ≠ repIn old 1) then l.count P.PLC 3 else l
  let l := if moved ∧ l.sieve.desc.cls c = Cls.super ∧ e.rep ≠ old then l.irqPulse P.PLC (mbit 4) else l
  let l := if e.rep ≠ old ∨ (st ≠ 0 ∧ st ≠ Start.incumbent) then l.trkContext c else l
  if e.rep = old then l else l.plcLog c old e.rep st e.cause r.mask r.eff

/-- REDIRECT entries (R194): a fenced pair's successor is written once; an unfenced pair's entry is its own hart. -/
def LaneState.redirects (l : LaneState) (r : PlcRun) : LaneState :=
  let base := 0x10 * l.id.num
  (List.range 4).foldl (fun (l : LaneState) p =>
    if !maskBit r.fpairs p then
      (l.put (F.CKP_REDIRECT_SUCC p) (base + p)).modSieve fun v => { v with redir := v.redir.filter (· ≠ p) }
    else if l.sieve.redir.contains p then l
    else
      match r.succ.find? fun e => e.1 == p with
      | some e => (l.put (F.CKP_REDIRECT_SUCC p) (base + e.2)).modSieve fun v => { v with redir := insertNat p v.redir }
      | none => l) l

/-- PAIRLOAD (R210). -/
def LaneState.pairLoads (l : LaneState) (plan : List PlcEntry) : LaneState :=
  (List.range 4).foldl (fun (l : LaneState) k =>
    let mine := (List.range 128).filter fun c =>
      let p := (plan.getD c ⟨0, 0⟩).rep
      l.sieve.desc.cls c == Cls.super && repState p == 1 && repIn p l.id.num && repPair p == k
    l.put (F.PLC_PAIRLOAD_LOAD k) ((mine.map fun c => l.sieve.desc.get (F.PLC_DESC_3_SLOAD c)).sum)) l

/-- The DUPLEX contexts whose counterpart a lane that has come up waits for (R206 step 2). -/
def LaneState.survivors (l : LaneState) (r : PlcRun) : List Nat :=
  let me := l.id.num
  (List.range 128).filter fun c =>
    let p := (r.plan.getD c ⟨0, 0⟩).rep
    let o := l.plcrep c
    l.sieve.desc.cls c == Cls.duplex && repState p == 1 && repState o == 1 && repIn o me && repIn p (1 - me) &&
      !repIn o (1 - me)

/-- The DUPLEX contexts whose snapshots go on being sent under a plan: those placed in both lanes. -/
def LaneState.stillSent (l : LaneState) (r : PlcRun) : List Nat :=
  l.sieve.syncSend.filter fun c =>
    let p := (r.plan.getD c ⟨0, 0⟩).rep
    l.sieve.desc.cls c == Cls.duplex && repState p == 1 && repIn p 0 && repIn p 1

/-- The placement of a run takes effect in a lane. -/
def LaneState.placementEffect (l : LaneState) (r : PlcRun) (ramps : Table (Option (List (Nat × Int))) × List Nat) :
    LaneState :=
  let me := l.id.num
  let f := l.get F.LE_FRAMECFG_FRAME
  let r := { r with starts := l.syncedStarts r.starts }
  let send := if maskBit r.mask 3 then l.survivors r ++ l.stillSent r else l.stillSent r
  let skip := mirSkipped l.sieve.desc r.plan 0 f ++ mirSkipped l.sieve.desc r.plan 1 f
  let fresh := (r.starts.filter fun e => e.2 ≠ Start.incumbent).map (·.1)
  let l := l.modLoop fun p => { p with inHeld := p.inHeld.filter fun e => !fresh.contains (e.1 / 24) }
  let l := l.modSieve fun v => { v with ramps := ramps.1 }
  let l := (List.range 128).foldl (LaneState.setPlcrep r skip ramps.2) l
  let placed := (r.plan.filter fun e => repState e.rep == 1 && repIn e.rep me).length
  let l := (l.put F.PLC_STAT_SHED (r.plan.filter fun e => repState e.rep == 2).length).put F.PLC_STAT_PLACED placed
  let l := ((l.bump ⟨R.PLC_RUNCNT, 0, 32⟩ 1).lastRun r PlcRes.done).wr R.PLC_EFFFN (BitVec.ofNat 32 r.eff)
  let l := ((l.wr R.PLC_DIGEST (planDigest r.plan)).pairLoads r.plan).redirects r
  let ret := maskBit r.mask 3
  let l := l.modSieve fun v => { v with
    placed := v.desc, syncing := v.syncing || ret,
    syncSend := send,
    last := (List.range 128).foldl (fun t c =>
      let p := (r.plan.getD c ⟨0, 0⟩).rep
      if repState p = 1 then Table.set (fun _ => 0) t c (p / 4 % 4) else t) v.last }
  ((l.irqPulse P.PLC (mbit 0)).count P.PLC 1).runFinish

/-- PLACEMENT_EFFECT (R203 step 7): at the frame start of T + 1 + D, after its commit. -/
def execPlacementEffect (x : Lane) (s : State) : Host.Outcome State Fault Refusal :=
  let l := s.lane x
  match l.sieve.run with
  | some r =>
    if r.stage ≠ .commit ∨ l.fn.toNat < r.eff ∨ l.get F.LE_TBLCTRL_COMMIT = 1 ∨ !l.alive then done s
    else
      let ramps := s.rampPlan x r.plan
      done (s.oneCycle fun s => ((s.terminalRequests x r.plan).modLane x (·.placementEffect r ramps)).syncDone)
  | none => done s

/-- What a frame start does for Sieve beyond local commits (R203, R206): a run that has not passed its exchange ends,
triggers of the last frame ripen, a returning instance announces itself, and ramps step. -/
def State.sieveFrame (s : State) (x : Lane) : State :=
  let s := s.modLane x fun l =>
    let l := match l.sieve.run with
      | some r => if r.stage = PlcStage.input ∨ r.stage = PlcStage.result then l.runEnd r 0 else l
      | none => l
    l.modSieve fun v => { v with
      ripe := v.ripe ||| v.trigs, trigs := v.next, next := 0, late := false, peerIn := none, peerRes := none }
  let s := s.rampStep x
  if (s.lane x).sieve.announce ∧ (s.lane x).plcRuns ∧ s.sieveMode x = Mode.paired then
    s.modLane x fun l => (l.modSieve fun v => { v with announce := false }).sendInput 0 s.heldMask s.heldByB
  else s

end Sys2Proof.Machine
end

