-- ==== Sys2Proof/Machine/Slots.lean ====
section
/-!
DEFINITION. Frames and slot runs (spec/05_loop_slots_and_control_laws.md R142 to R151, R164, R165; slot entry and exit
of spec/04_loop_engine_datapath.md R113, R114, R127 to R129).
-/
namespace Sys2Proof.Machine
open Sys2Proof

/-! ### The engine starts and stops (R143) -/

/-- What a write of LE.BLKCTRL starts: with RUN = 1 the engine runs from the next master period boundary on, with no
binding source updated yet and no held value (R158), and may take the peer's FN (R144). -/
def LaneState.leRun (l : LaneState) : LaneState :=
  if l.get (F.run P.LE) = 1 ∧ l.get (F.running P.LE) = 0 then
    (l.put (F.running P.LE) 1).modLoop fun p => { p with srcs := [], inHeld := [], adopt := 2, peerFn := none }
  else l

/-- A write of LE.BLKCTRL (R52, R143). -/
def LaneState.leCtlWrite (l : LaneState) (v : Word) : LaneState :=
  l.command (R.blkctrl P.LE) v fun l _ => l.leRun

def execLoopEngineRun (x : Lane) (v : Word) (s : State) : Host.Outcome State Fault Refusal := onLane x (·.leCtlWrite v) s

/-- TABLE_COMMIT_REQUEST (R165): COMMIT reads 1 until the next frame start. -/
def execTableCommitRequest (x : Lane) (v : Word) (s : State) : Host.Outcome State Fault Refusal :=
  onLane x (·.command R.LE_TBLCTRL v fun l _ => l) s

/-- COEFFICIENT_SWAP_REQUEST (R164): SWAP reads 1 until the toggle. -/
def execCoefficientSwapRequest (x : Lane) (c : Fin 128) (v : Word) (s : State) : Host.Outcome State Fault Refusal :=
  onLane x (·.command (R.LE_CTXCOEF c.val) v fun l _ => l) s

/-! ### Frame start (R144, R145, R164, R165) -/

/-- A pending commit is applied (R165): the cycle maxima restart (R180), and LE CONFIG is raised once when the active
copy holds an ignored binding entry (R162). -/
def LaneState.applyCommit (l : LaneState) : LaneState :=
  if l.get F.LE_TBLCTRL_COMMIT = 0 then l
  else
    let act : RegFile := { l.regs with tab := l.regs.tab.filter fun e => isPendingReg e.1 }
    let l := { l with active := act }.put F.LE_TBLCTRL_COMMIT 0
    let l := (List.range 48).foldl (fun (l : LaneState) k => l.put (F.LESLOT_CYCLES_MAX k) 0) l
    let l := l.irqPulse P.LE (mbit 1)
    if (List.range 128).any fun c => (l.walk c).ign then l.raise 35 else l

/-- A lane whose peer already runs frames when its first begins takes the peer's FN (R144). -/
def LaneState.firstFrame (l : LaneState) (peerRuns : Bool) : LaneState :=
  l.modLoop fun p => { p with adopt := if p.adopt = 2 then bit peerRuns else p.adopt }

/-- FN advances; a lane that starts takes the peer's FN, which the peer sent at its last frame start (R144), as soon as it
has received it. -/
def LaneState.advanceFn (l : LaneState) : LaneState :=
  let base := if l.loop.adopt = 0 then none else l.loop.peerFn
  let fn := base.getD l.fn + 1
  let l := l.modLoop fun p => { p with adopt := if base.isSome then 0 else p.adopt, peerFn := none }
  (l.wr R.LE_FN_LO (fn.extractLsb' 0 32)).wr R.LE_FN_HI (fn.extractLsb' 32 32)

/-- Whether context `c`'s bank toggles at this frame start, FN being the new one (R164). -/
def LaneState.swapDue (l : LaneState) (c : Nat) : Bool :=
  l.get (F.LE_CTXCOEF_SWAP c) == 1 &&
    (l.get F.LE_SWAPAT_EN == 0 || l.fn.toNat % 65536 == l.get F.LE_SWAPAT_FN)

/-- A tracker's proposal takes effect with its context's toggle (R175). -/
def LaneState.trkToggle (l : LaneState) (c k : Nat) : LaneState :=
  if l.get (F.LE_TRKCFG_CTX k) = c ∧ (l.tracker k).swap then
    let l := (l.put (F.LE_TRKPROP_CUR k) (l.get (F.LE_TRKPROP_PROP k))).trkResult k 1
    (l.modTracker k fun t => { t with swap := false }).trkCollect k
  else l

/-- A bank toggles (R164, R178). -/
def LaneState.toggleBank (l : LaneState) (c : Nat) : LaneState :=
  let l := (l.put (F.LE_CTXCOEF_BANK c) (1 - l.get (F.LE_CTXCOEF_BANK c))).put (F.LE_CTXCOEF_SWAP c) 0
  (List.range 4).foldl (fun (l : LaneState) k => l.trkToggle c k) ((l.irqPulse P.LE (mbit 2)).count P.LE 7)

/-- The slots that run in this frame (R145); each unfenced idle slot records IDLE (R180). -/
def LaneState.rotate (l : LaneState) : LaneState :=
  let fn := l.fn.toNat
  let due := (List.range 48).filter fun k => (l.rotation k fn).isSome && !l.slotFenced k
  let idle := (List.range 48).filter fun k => (l.rotation k fn).isNone && !l.slotFenced k
  let l := idle.foldl (fun (l : LaneState) k => l.put (F.LESLOT_SLOTSTAT_CAUSE k) 5) l
  l.modLoop fun p => { p with due := due }

/-- The frame that ends, and whether another begins: SPARE holds the cycles without a slot program (R176). -/
def LaneState.frameEnd (l : LaneState) (next : Bool) : LaneState :=
  let l := if l.loop.framing then l.put F.LE_SPARE_CYCLES (l.get F.LE_FRAMECFG_FRAME - l.loop.used) else l
  l.modLoop fun p => { p with used := 0, framing := next, gen := p.gen + bit next }

/-- A frame start of a running engine: the four steps of R165, `lateCommit` and `lateSwaps` being a COMMIT and SWAPs
written in the fabric cycle of the frame start; then the SYNC frame to the peer (R34). -/
def LaneState.frameBegin (l : LaneState) (now : Nat) (lateCommit : Bool) (lateSwaps : List Nat) : LaneState :=
  let l := (l.frameEnd true).modLoop fun p => { p with frameAt := now }
  let l := (if lateCommit then l else l.applyCommit).localCommits
  let l := l.advanceFn
  let due := (List.range 128).filter fun c => !lateSwaps.contains c && l.swapDue c
  let l := (due.foldl LaneState.toggleBank l).rotate
  let l := (l.irqPulse P.LE (mbit 0)).count P.LE 1
  let t := l.strataSync
  l.llReady 5 0 [l.rd R.LE_FN_LO, l.rd R.LE_FN_HI, t.1, t.2]

/-- After RUN is cleared, the engine stops at the end of the frame then running (R143). -/
def LaneState.frameStop (l : LaneState) : LaneState :=
  (((l.frameEnd false).put (F.running P.LE) 0).put F.LE_FRAMESTAT_SYNCED 0).modLoop fun p =>
    { p with due := [], held := [], run := none }

/-- FRAME_START (R165). -/
def execFrameStart (x : Lane) (lateCommit : Bool) (lateSwaps : List Nat) (s : State) :
    Host.Outcome State Fault Refusal :=
  let l := s.lane x
  if !l.alive ∨ l.get (F.running P.LE) = 0 then done s
  else if l.get (F.run P.LE) = 0 then done (s.setLane x l.frameStop)
  else done (s.oneCycle fun s =>
    (s.setLane x ((l.firstFrame (s.lane x.peer).loop.framing).frameBegin s.nowUs lateCommit lateSwaps)).sieveFrame x)

/-! ### Snapshot and slot entry (R113, R118, R128, R148) -/

/-- AG6 or AG7 from its pointer and configuration words (R127, R128), and the sticky bits it sets. -/
def loadAg (ptr cfg : DWord) : AddrGen × BitVec 4 :=
  let p := getBits (ptr.extractLsb' 0 32) 0 14
  let lo := cfg.extractLsb' 0 32
  let b := getBits lo 0 14
  let mode := getBits lo 14 2
  let len := getBits lo 16 15
  let m := (cfg.extractLsb' 32 15).toInt
  if mode = 3 ∨ !agValid mode b len then (⟨p, b, len, m, 0⟩, 8)
  else
    let g := AddrGen.fold ⟨p, b, len, m, mode⟩
    (g.1, if g.2 then 4 else 0)

/-- The engine as slot entry sets it (R113), AG6 and AG7 loaded for context `c`. -/
def LaneState.entryEngine (l : LaneState) (c entry : Nat) : Engine :=
  let w := fun i => l.dword (zAddr (0xE00 + 4 * c + i))
  let g6 := loadAg (w 0) (w 1)
  let g7 := loadAg (w 2) (w 3)
  let e := (Engine.reset.setAg 6 g6.1).setAg 7 g7.1
  { e with sticky := g6.2 ||| g7.2, pc := entry }

def LaneState.setRun (l : LaneState) (r : Option Run) : LaneState := l.modLoop fun p => { p with run := r }

/-- The snapshot and the sample stage of slot `k`, which runs entry `rot` of its rotation, at µs `now` (R148, R151); a
word of bad parity aborts the run (R118). -/
def LaneState.snapshot (l : LaneState) (k rot now : Nat) : LaneState :=
  let c := l.act (F.LESLOT_ROT_CTX k rot)
  let r : Run := ⟨k, c, rot, l.act (F.LESLOT_ROT_ENTRY k rot), l.isDuplex c, (l.walk c).outs, .sampled⟩
  let l := l.modLoop fun p => { p with due := p.due.filter (· ≠ k) }
  if l.sampleBad k c now then
    ((l.setRun (some r)).modEng fun _ => Engine.reset).abort r Cause.parity r.entry
  else
    let l := l.sampleStage k rot c now
    let fn := l.fn.toNat + 1
    let l := l.modSieve fun v => { v with ran := Table.set (fun _ => 0) v.ran c fn }
    (l.setRun (some r)).modEng fun _ => l.entryEngine c r.entry

/-- SLOT_SNAPSHOT (R148). -/
def execSlotSnapshot (x : Lane) (n : Fin 48) (s : State) : Host.Outcome State Fault Refusal :=
  onLane x (fun l =>
    if !l.alive ∨ !l.loop.framing ∨ !l.loop.due.contains n.val ∨ l.slotFenced n.val ∨ l.loop.run.isSome then l
    else
      match l.rotation n.val l.fn.toNat with
      | some r => l.snapshot n.val r s.nowUs
      | none => l) s

/-- SLOT_ENTRY (R113): the program of the sampled run starts. -/
def execSlotEntry (x : Lane) (s : State) : Host.Outcome State Fault Refusal :=
  onLane x (fun l =>
    match l.loop.run with
    | some r => if l.alive ∧ r.stage = .sampled then l.runStage .running else l
    | none => l) s

/-! ### Slot exit (R114, R129, R148 to R150) -/

/-- END writes P of AG6 and AG7 into bytes 0 and 1 of their pointer words (R129). -/
def LaneState.writeBackAg (l : LaneState) (c : Nat) : LaneState :=
  (l.engStore (zAddr (0xE00 + 4 * c)) 2 (l.eng.agen 6).p).engStore (zAddr (0xE00 + 4 * c + 2)) 2 (l.eng.agen 7).p

/-- What END does (R114, R129, R155, R180, R181, R197). -/
def LaneState.endSlot (l : LaneState) (paired : Bool) (now : Nat) (r : Run) : LaneState :=
  let pc := l.eng.pc
  let l := (l.modEng fun e => { e with cyc := e.cyc + 1, loops := [], buf := [] }).writeBackAg r.ctx
  let l := ((l.exitRecord r Cause.fin pc).runStage .ended).count P.LE 2
  let l := l.slotMsg r.slot (l.act (F.LESLOT_SLOTCFG_EXITMSG r.slot) == 1)
  (l.srcUpdate (srcKey 7 r.ctx 0) 0 now).runSnapshot paired r.ctx

/-- END (R114, R140): its word has no operand bits. -/
def execEEnd (x : Lane) (w : Code) (s : State) : Host.Outcome State Fault Refusal :=
  let paired := s.sieveMode x == Mode.paired
  onLane x (fun l => l.issue 0x3C w (clean w 0) fun l =>
    ⟨[], fun l => match l.loop.run with
      | some r => l.endSlot paired s.nowUs r
      | none => l, 0, (l.eng.pc, [])⟩) s

/-- SLOT_OVERRUN (R149): the program has not executed END by the end of cycle P + 303. -/
def LaneState.overrun (l : LaneState) (r : Run) : LaneState :=
  (l.modEng fun e => { e with cyc := 288 }).abort r Cause.overrun l.eng.pc

def execSlotOverrun (x : Lane) (s : State) : Host.Outcome State Fault Refusal :=
  onLane x (fun l =>
    match l.loop.run with
    | some r => if l.alive ∧ r.stage = .running then l.overrun r else l
    | none => l) s

/-- The output stage of a run that ended in END (R118, R159 to R161): a word of bad parity aborts the run; else the
outputs are held for launch, and the trackers sample (R172). -/
def LaneState.outputs (l : LaneState) (r : Run) : LaneState :=
  let z := fun a => 24 * r.ctx + bZw a
  if r.outs.any fun a => l.zBad (z a) then
    (l.put (F.LESLOT_SLOTSTAT_CAUSE r.slot) Cause.parity).abortReport r 37
  else
    let es := r.outs.map fun a => (a, l.dword (zAddr (z a)))
    let h : Launch := ⟨r.slot, r.ctx, r.rot, r.duplex, phaseOuts es, strataOuts es, es.map (·.2)⟩
    (l.trkSample r.ctx).modLoop fun p => { p with held := p.held ++ [h] }

/-- SLOT_OUTPUT_STAGE (R148, R149): at P + 304; a program still running overran. -/
def execSlotOutputStage (x : Lane) (s : State) : Host.Outcome State Fault Refusal :=
  onLane x (fun l =>
    match l.loop.run with
    | some r =>
      if !l.alive then l
      else
        let l := match r.stage with
          | .sampled => l.overrun r
          | .running => l.overrun r
          | .ended => (l.hist 2 r.slot 0 (l.get (F.LESLOT_CYCLES_LAST r.slot))).outputs r
          | .aborted => l
        l.setRun none
    | none => l) s

/-- The launch of a run's outputs (R23, R160, R161); a DUPLEX run also goes to the peer, and waits for the peer's
(R24). -/
def LaneState.launch (l : LaneState) (h : Launch) : LaneState :=
  let cov := l.covered h.phases
  let l := l.launchOuts h.phases h.strata h.duplex
  if !h.duplex then l
  else
    let fn := l.rd R.LE_FN_LO
    let up := l.llUp
    let l := l.llReady 1 (BitVec.ofNat 16 (h.slot * 1024 + h.rot * 128)) (fn :: outWords h.words)
    let l := { l with links := l.links.setOwn h.slot (some ⟨h.rot, fn, h.words, cov, up⟩) }
    if up then l.dupCompare h.slot else l

/-- SLOT_LAUNCH (R147, R160): at the output phase the outputs held longest for the slot go out; a slot fenced meanwhile
launches nothing (R405). -/
def execSlotLaunch (x : Lane) (n : Fin 48) (s : State) : Host.Outcome State Fault Refusal :=
  onLane x (fun l =>
    match l.loop.held.find? (·.slot == n.val) with
    | some h =>
      if !l.alive then l
      else
        let l := l.modLoop fun p => { p with held := dropFirst (·.slot == n.val) p.held }
        if l.slotFenced n.val then l else l.launch h
    | none => l) s

end Sys2Proof.Machine
end

