-- ==== Sys2Proof/Machine/Sensors.lean ====
section
/-!
DEFINITION. The sensor ports and the analog converter (spec/09_position_feedback_and_sensor_ports.md R283 to R286, R291
to R297). Pulse lengths are in 10 ns samples.
-/
namespace Sys2Proof.Machine
open Sys2Proof

def LaneState.snsPort (l : LaneState) (p : Nat) : SnsPort := Table.get (fun _ => SnsPort.reset) l.feed.ports p
def LaneState.modSns (l : LaneState) (p : Nat) (f : SnsPort → SnsPort) : LaneState :=
  l.modFeed fun v => { v with ports := Table.upd (fun _ => SnsPort.reset) v.ports p f }

/-- Protocols (R291). -/
def Prot.sent : Nat := 1
def Prot.psiAsync : Nat := 2
def Prot.psiSync : Nat := 3

/-- PEVT bits (R291). -/
def Pevt.cal : Nat := 0
def Pevt.nib : Nat := 1
def Pevt.len : Nat := 2
def Pevt.crc : Nat := 3
def Pevt.win : Nat := 4
def Pevt.lost : Nat := 5
def Pevt.slowCrc : Nat := 6
def Pevt.slowNew : Nat := 7

def LaneState.portOn (l : LaneState) (p : Nat) : Bool := l.blockOn P.SNS && l.get (F.SNS_PCFG_PROT p) != 0

/-- A PEVT bit arises (R291, R292). -/
def LaneState.portEvt (l : LaneState) (p i : Nat) : LaneState :=
  l.latchEvt P.SNS (R.SNS_PEVT p) (R.SNS_PIEN p) (R.SNS_PORTMSG p) p i 8
def LaneState.portEvtIrq (l : LaneState) (p : Nat) : LaneState :=
  l.irqLevel P.SNS p (l.rd (R.SNS_PEVT p) &&& l.rd (R.SNS_PIEN p) != 0)
def LaneState.pevtRead (l : LaneState) (p : Nat) : LaneState × Word :=
  ((l.wr (R.SNS_PEVT p) 0).portEvtIrq p, l.rd (R.SNS_PEVT p))

/-- A value of the port is updated (R286). -/
def LaneState.sensed (l : LaneState) (p c v now : Nat) : LaneState :=
  let v := v % 2 ^ 24
  (l.wr (R.SNS_DATA p c) (BitVec.ofNat 32 v)).srcUpdate (srcKey 4 p c) (BitVec.ofNat 64 v) now

/-- A frame is discarded whole (R284, R292). -/
def LaneState.frameDiscard (l : LaneState) (p cause : Nat) : LaneState :=
  let l := (l.bump (F.SNS_ERRCNT_COUNT p) 1).modSns p fun q => { q with slow := [] }
  ((l.raise (l.pageSrc P.SNS 2)).count P.SNS 2).portEvt p cause

/-- A frame is accepted (R292, R427). -/
def LaneState.frameAccept (l : LaneState) (p : Nat) : LaneState :=
  ((l.bump (F.SNS_OKCNT_COUNT p) 1).count P.SNS 1).xfrLatch (2 + p)

/-! ### SENT (R284) -/

/-- A pulse in measured ticks, of which the calibration pulse `cal` lasts 56, to the nearest tick. -/
def sentTicks (cal len : Nat) : Nat :=
  let n := 56 * len / cal
  let r := 2 * (56 * len % cal)
  if cal < r ∨ (r = cal ∧ Config.sentTie len cal) then n + 1 else n

/-- The CRC of SAE J2716 over nibbles: polynomial x^4 + x^3 + x^2 + 1, seed 5; the recommended form appends a zero
nibble (R283). -/
def sentCrc (nibs : List Nat) (legacy : Bool) : Nat :=
  let tab := [0, 13, 7, 10, 14, 3, 9, 4, 1, 12, 6, 11, 15, 2, 8, 5]
  let step := fun c n => (tab.getD c 0) ^^^ n
  let c := nibs.foldl step 5
  if legacy then c else step c 0

/-- The CRC of an enhanced serial message: polynomial x^6 + x^4 + x^3 + 1, seed 0b010101, six zeros appended. -/
def slowCrc6 (bits : List Nat) : Nat :=
  (bits ++ List.replicate 6 0).foldl (fun c b =>
    let n := c * 2 + b
    if 64 ≤ n then (n - 64) ^^^ 0x19 else n) 0x15

/-- A number from bits, most significant first. -/
def bitsNat (bits : List Nat) : Nat := bits.foldl (fun n b => 2 * n + b) 0
/-- A number from nibbles, most significant first. -/
def nibsNat (ns : List Nat) : Nat := ns.foldl (fun n b => 16 * n + b) 0

/-- A slow message under assembly: nothing yet, a message of bad CRC, or ID, data and format (R283). -/
inductive SlowMsg where
  | no | bad | ok (id data fmt : Nat)
  deriving DecidableEq, Repr

/-- Short serial message: 16 frames whose first alone has bit 3 set; bit 2 carries ID, data and CRC. -/
def slowShort (ns : List Nat) : SlowMsg :=
  if ns.length < 16 then .no
  else
    let b := ns.map fun n => n / 4 % 2
    let nib := fun i => bitsNat ((b.drop (4 * i)).take 4)
    if nib 3 = sentCrc [nib 0, nib 1, nib 2] false then .ok (nib 0) (16 * nib 1 + nib 2) 0 else .bad

/-- Enhanced serial message: 18 frames; bit 3 carries the start pattern, the configuration bit and ID, bit 2 the CRC
and data. -/
def slowEnhanced (ns : List Nat) : SlowMsg :=
  let hi := ns.map fun n => n / 8 % 2
  let lo := ns.map fun n => n / 4 % 2
  let at_ := fun (xs : List Nat) i n => (xs.drop i).take n
  if ns.length < 18 ∨ hi.take 7 ≠ [1, 1, 1, 1, 1, 1, 0] ∨ at_ hi 12 1 ≠ [0] ∨ at_ hi 17 1 ≠ [0] then .no
  else
    let body := ((lo.drop 6).zip (hi.drop 6)).flatMap fun e => [e.1, e.2]
    let a := bitsNat (at_ hi 8 4)
    let b := bitsNat (at_ hi 13 4)
    let d := bitsNat (lo.drop 6)
    if bitsNat (lo.take 6) ≠ slowCrc6 body then .bad
    else if at_ hi 7 1 = [0] then .ok (16 * a + b) d 1 else .ok a (4096 * b + d) 2

/-- The slow channel takes the status nibble of an accepted frame (R284, R286). -/
def LaneState.slowNibble (l : LaneState) (p st now : Nat) : LaneState :=
  let kind := l.get (F.SNS_SENTCFG_SLOW p)
  let old := (l.snsPort p).slow
  let ns := if kind = 0 then []
    else if kind = 1 then (if 8 ≤ st then [st] else if old.isEmpty then [] else old ++ [st])
    else (old ++ [st]).drop ((old.length + 1) - 18)
  let set := fun (l : LaneState) v => l.modSns p fun q => { q with slow := v }
  match if kind = 1 then slowShort ns else slowEnhanced ns with
  | .no => set l ns
  | .bad => (set l []).portEvt p Pevt.slowCrc
  | .ok i d f =>
    let v := d + i * 2 ^ 16 + f * 2 ^ 24
    let l := ((set l []).wr (R.SNS_SLOW p) (BitVec.ofNat 32 v)).sensed p 2 v now
    (l.count P.SNS 3).portEvt p Pevt.slowNew

/-- What a SENT frame comes to: a cause of discard, or the nibbles, status first and without the CRC. -/
def LaneState.sentCheck (l : LaneState) (p cal : Nat) (nibs : List Nat) (pause : Option Nat) : Nat ⊕ List Nat :=
  let tick := l.get (F.SNS_SENTCFG_TICK p)
  let near := match (l.snsPort p).cal with
    | some c => l.get (F.SNS_SENTCFG_SCC p) == 0 || decide (64 * (max c cal - min c cal) ≤ c)
    | none => true
  let ts := nibs.map (sentTicks cal)
  let vs := ts.map (· - 12)
  let data := (vs.drop 1).dropLast
  if 4 * cal < 168 * tick ∨ 280 * tick < 4 * cal ∨ !near then .inl Pevt.cal
  else if ts.any fun t => decide (t < 12 ∨ 27 < t) then .inl Pevt.nib
  else if nibs.length ≠ l.get (F.SNS_SENTCFG_NIB p) + 2 then .inl Pevt.len
  else if (match pause with
      | some q => l.get (F.SNS_SENTCFG_PAUSE p) == 0 || decide (sentTicks cal q < 12 ∨ 768 < sentTicks cal q)
      | none => l.get (F.SNS_SENTCFG_PAUSE p) == 1) then .inl Pevt.len
  else if vs.getLastD 0 ≠ sentCrc data (l.get (F.SNS_SENTCFG_CRCV p) == 1) then .inl Pevt.crc
  else .inr (vs.headD 0 :: data)

/-- An accepted SENT frame's values (R284, R286). -/
def LaneState.sentValues (l : LaneState) (p now : Nat) (ns : List Nat) : LaneState :=
  let data := ns.drop 1
  let f1 := l.get (F.SNS_SENTCFG_F1N p)
  let two := data.drop f1
  let l := l.frameAccept p
  let l := l.sensed p 0 (nibsNat (data.take f1)) now
  let l := l.sensed p 1 (nibsNat (if l.get (F.SNS_SENTCFG_F2REV p) = 1 then two.reverse else two)) now
  let l := l.sensed p 3 (ns.headD 0 + l.get (F.SNS_OKCNT_COUNT p) % 65536 * 256) now
  l.slowNibble p (ns.headD 0) now

/-- SENT_FRAME_RECEIVED (R284): the calibration pulse, the nibble pulses, and a pause pulse if there was one, on a line
that carries the frame inverted or not; the port sees a frame of the polarity that PCFG.INV says. -/
def execSentFrameReceived (x : Lane) (p : SensorLine) (cal : Nat) (nibs : List Nat) (pause : Option Nat) (s : State) :
    Host.Outcome State Fault Refusal :=
  onLane x (fun l =>
    let inv := p.inv
    let p := p.port.val
    if !l.portOn p ∨ l.get (F.SNS_PCFG_PROT p) ≠ Prot.sent ∨ cal = 0 ∨ l.get (F.SNS_PCFG_INV p) ≠ bit inv then l
    else
      match l.sentCheck p cal nibs pause with
      | .inl c =>
        let l := if c = Pevt.cal then l else l.modSns p fun q => { q with cal := some cal }
        l.frameDiscard p c
      | .inr ns => (l.modSns p fun q => { q with cal := some cal }).sentValues p s.nowUs ns) s

/-! ### PSI5 (R285) -/

/-- The 3-bit CRC of PSI5: polynomial 1 + x + x^3, seed 0b111, three zeros appended. -/
def psiCrc (bits : List Bool) : Nat :=
  (bits ++ [false, false, false]).foldl (fun c b =>
    let n := 2 * c + bit b
    if 8 ≤ n then (n - 8) ^^^ 3 else n) 7

/-- START of a slot in µs. -/
def LaneState.slotSt (l : LaneState) (p s : Nat) : Nat :=
  match s with
  | 0 => l.get (F.SNS_SLOTST_0_START0 p)
  | 1 => l.get (F.SNS_SLOTST_0_START1 p)
  | 2 => l.get (F.SNS_SLOTST_1_START0 p)
  | _ => l.get (F.SNS_SLOTST_1_START1 p)

/-- The slot of a frame whose first start-bit edge lies `t` after the trigger; none before the first slot. -/
def LaneState.psiSlot (l : LaneState) (p t : Nat) : Option Nat :=
  if l.get (F.SNS_PCFG_PROT p) = Prot.psiAsync then some 0
  else ((List.range (l.get (F.SNS_PSI5CFG_SLOTS p) + 1)).filter fun s => decide (100 * l.slotSt p s ≤ t)).getLast?

/-- PSI5_FRAME_RECEIVED (R285): the time after the trigger, the data bits in the order received, the CRC, and whether
a Manchester violation was seen; `inv` as for SENT. -/
def execPsi5FrameReceived (x : Lane) (p : SensorLine) (t : Nat) (bits : List Bool) (crc : BitVec 3) (viol : Bool) (s : State) :
    Host.Outcome State Fault Refusal :=
  onLane x (fun l =>
    let inv := p.inv
    let p := p.port.val
    let prot := l.get (F.SNS_PCFG_PROT p)
    if !l.portOn p ∨ l.get (F.SNS_PCFG_INV p) ≠ bit inv ∨ (prot ≠ Prot.psiAsync ∧ prot ≠ Prot.psiSync) then l
    else
      match l.psiSlot p t with
      | none => l.frameDiscard p Pevt.win
      | some k =>
        if prot = Prot.psiSync ∧ (l.snsPort p).used.contains k then l.frameDiscard p Pevt.win
        else
          let l := l.modSns p fun q => { q with used := insertNat k q.used }
          if viol then l.frameDiscard p Pevt.nib
          else if bits.length ≠ l.get (F.SNS_PSI5CFG_LEN p) then l.frameDiscard p Pevt.len
          else if crc.toNat ≠ psiCrc bits then l.frameDiscard p Pevt.crc
          else (l.frameAccept p).sensed p k (bitsNat (bits.reverse.map bit)) s.nowUs) s

/-- PSI5_SYNC_TRIGGER (R285): a sync period begins. -/
def execPsi5SyncTrigger (x : Lane) (p : Fin 4) (s : State) : Host.Outcome State Fault Refusal :=
  onLane x (fun l =>
    let prot := l.get (F.SNS_PCFG_PROT p.val)
    if !l.portOn p.val ∨ prot < Prot.psiAsync ∨ l.get (F.SNS_SYNCCFG_EN p.val) = 0 then l
    else l.modSns p.val fun q => { q with used := [], syncs := q.syncs + 1 }) s

/-- SENSOR_LOST_TIMEOUT (R286). -/
def execSensorLostTimeout (x : Lane) (p : Fin 4) (s : State) : Host.Outcome State Fault Refusal :=
  onLane x (fun l => if l.portOn p.val then (l.raise (l.pageSrc P.SNS 3)).portEvt p.val Pevt.lost else l) s

/-- PEVT_READ (R291). -/
def execPevtRead (x : Lane) (g : Agent) (p : Fin 4) (s : State) : Host.Outcome State Fault Refusal :=
  onLane x (·.readBy g (R.SNS_PEVT p.val) (·.pevtRead p.val)) s

/-! ### Analog converter (R293 to R297) -/

def LaneState.modAdc (l : LaneState) (f : AdcState → AdcState) : LaneState :=
  l.modFeed fun v => { v with adc := f v.adc }

/-- ADCSTAT.SCANNING and LEVEL follow the converter, and IRQRAW[0] the level (R297). -/
def LaneState.adcShow (l : LaneState) : LaneState :=
  let n := l.feed.adc.fifo.length
  ((l.put F.ADC_ADCSTAT_SCANNING (bit (!l.feed.adc.scan.isEmpty))).put F.ADC_ADCSTAT_LEVEL n).irqLevel P.ADC 0
    (decide (l.get F.ADC_ADCCFG_WMARK ≤ n))

/-- A scan begins (R294); with no channel selected, or during calibration, nothing does. -/
def LaneState.adcScan (l : LaneState) : LaneState :=
  if l.get F.ADC_ADCSTAT_CAL = 1 then l
  else (l.modAdc fun v => { v with
    scan := (List.range 16).filter fun k => l.get F.ADC_ADCSCAN_SCAN / 2 ^ k % 2 == 1 }).adcShow

/-- A start arrives: one during a scan is only counted (R294). -/
def LaneState.adcStart (l : LaneState) : LaneState :=
  if !l.blockOn P.ADC then l
  else if l.feed.adc.scan.isEmpty then l.adcScan
  else (l.bump F.ADC_ADCSTAT_MISSED 1).count P.ADC 4

/-- A write of ADCSTART (R294, R297): GO acts with TRIG = SOFT, and reads 0. -/
def LaneState.adcstartWrite (l : LaneState) (v : Word) : LaneState :=
  l.command R.ADC_ADCSTART v fun l e =>
    let l := l.wr R.ADC_ADCSTART 0
    if e.getLsbD 0 && l.get F.ADC_ADCCFG_TRIG == 0 then l.adcStart else l

def execAdcstartGo (x : Lane) (v : Word) (s : State) : Host.Outcome State Fault Refusal := onLane x (·.adcstartWrite v) s

/-- ADC_FRAME_TRIGGER (R294). -/
def execAdcFrameTrigger (x : Lane) (s : State) : Host.Outcome State Fault Refusal :=
  onLane x (fun l => if l.get F.ADC_ADCCFG_TRIG = 2 then l.adcStart else l) s

/-- An entry enters the result FIFO; when full it overwrites the oldest (R295). -/
def LaneState.adcPush (l : LaneState) (k v : Nat) : LaneState :=
  let q := l.feed.adc.fifo
  if q.length < 32 then l.modAdc fun c => { c with fifo := q ++ [(k, v)] }
  else
    let l := l.modAdc fun c => { c with fifo := q.drop 1 ++ [(k, v)], ovr := true }
    (((l.bump F.ADC_ADCOVR_COUNT 1).raise 92).irqPulse P.ADC (mbit 2)).count P.ADC 3

/-- The converter stops at the end of the conversion in progress (R296). -/
def LaneState.adcStop (l : LaneState) : LaneState :=
  ((l.modAdc fun c => { c with scan := [] }).put (F.running P.ADC) 0).put F.ADC_ADCSTAT_CAL 0

/-- ADC_CONVERSION_COMPLETE (R294 to R296): the next channel of the scan has its result. -/
def execAdcConversionComplete (x : Lane) (value : Half) (s : State) : Host.Outcome State Fault Refusal :=
  onLane x (fun l =>
    match l.feed.adc.scan with
    | [] => l
    | k :: rest =>
      if !l.alive ∨ l.get (F.running P.ADC) = 0 ∨ l.blockFenced P.ADC then l
      else
        let l := (l.put (F.ADC_ADCRES_VALUE k) value.toNat).put (F.ADC_ADCRES_COUNT k) (l.get (F.ADC_ADCRES_COUNT k) + 1)
        let l := (l.srcUpdate (srcKey 2 k 0) (value.setWidth 64) s.nowUs).count P.ADC 1
        let l := if l.get F.ADC_ADCFEN_EN / 2 ^ k % 2 = 1 then l.adcPush k value.toNat else l
        let l := l.modAdc fun c => { c with scan := rest }
        let l := if rest.isEmpty then (l.irqPulse P.ADC (mbit 1)).count P.ADC 2 else l
        if l.get (F.run P.ADC) = 0 then l.adcStop.adcShow
        else if rest.isEmpty ∧ l.get F.ADC_ADCCFG_TRIG = 1 then l.adcScan else l.adcShow) s

/-- The converter starts with a calibration (R296). -/
def LaneState.adcRun (l : LaneState) : LaneState := l.put F.ADC_ADCSTAT_CAL 1

/-- ADC_CALIBRATION_COMPLETE (R296): `ok` says that every correction lies in its trim range. -/
def execAdcCalibrationComplete (x : Lane) (ok : Bool) (s : State) : Host.Outcome State Fault Refusal :=
  onLane x (fun l =>
    if !l.blockOn P.ADC ∨ l.get F.ADC_ADCSTAT_CAL = 0 then l
    else
      let l := ((l.put F.ADC_ADCSTAT_CAL 0).put F.ADC_ADCSTAT_CALFAIL (bit !ok)).irqLevel P.ADC 3 !ok
      let l := if ok then l else l.raise 91
      if l.get F.ADC_ADCCFG_TRIG = 1 then l.adcScan else l) s

/-- A read of ADCFIFO: the oldest entry, which it removes (R295, R297). -/
def LaneState.adcfifoRead (l : LaneState) : LaneState × Word :=
  let c := l.feed.adc
  let w := match c.fifo with
    | [] => bit c.ovr * 2 ^ 30
    | (k, v) :: r => v + k * 2 ^ 16 + r.length * 2 ^ 24 + bit c.ovr * 2 ^ 30 + 2 ^ 31
  ((l.modAdc fun c => { c with fifo := c.fifo.drop 1, ovr := false }).adcShow, BitVec.ofNat 32 w)

def execAdcfifoRead (x : Lane) (g : Agent) (s : State) : Host.Outcome State Fault Refusal :=
  onLane x (·.readBy g R.ADC_ADCFIFO (·.adcfifoRead)) s

end Sys2Proof.Machine
end

