-- ==== Sys2Proof/Machine/Can.lean ====
section
/-!
DEFINITION. The CAN controllers (spec/11_vehicle_and_host_ports.md R339 to R346). Error counting follows ISO 11898-1.
-/
namespace Sys2Proof.Machine
open Sys2Proof

def LaneState.can (l : LaneState) (n : Nat) : CanState := if n = 0 then l.ports.can0 else l.ports.can1
def LaneState.modCan (l : LaneState) (n : Nat) (f : CanState → CanState) : LaneState :=
  { l with ports := if n = 0 then { l.ports with can0 := f l.ports.can0 } else { l.ports with can1 := f l.ports.can1 } }

/-- ECNT.STATE codes (R346). -/
def CanSt.active : Nat := 0
def CanSt.passive : Nat := 1
def CanSt.busOff : Nat := 2
def LaneState.canState (l : LaneState) (n : Nat) : Nat := l.get (F.CAN_ECNT_STATE n)

/-- A controller that takes part in the bus (R341, R345). -/
def LaneState.canOn (l : LaneState) (n : Nat) : Bool :=
  l.alive && l.get (F.running (P.CAN n)) == 1 && !l.blockFenced (P.CAN n) && (l.can n).joined &&
    l.canState n != CanSt.busOff

/-- ECNT.STATE changes (R346). -/
def LaneState.setCanState (l : LaneState) (n v : Nat) : LaneState :=
  if l.canState n = v then l
  else ((l.put (F.CAN_ECNT_STATE n) v).irqPulse (P.CAN n) (mbit 3)).irqLevel (P.CAN n) 4 (v == CanSt.busOff)

/-- The state that the error counters give. -/
def LaneState.canCounted (l : LaneState) (n tec rec_ : Nat) : LaneState :=
  let l := (l.put (F.CAN_ECNT_TEC n) (min tec 255)).put (F.CAN_ECNT_REC n) (min rec_ 255)
  l.setCanState n (if 127 < tec ∨ 127 < rec_ then CanSt.passive else CanSt.active)

/-- RXSTAT.LEVEL follows the FIFO, and IRQRAW[0] with it. -/
def LaneState.canShow (l : LaneState) (n : Nat) : LaneState :=
  let k := (l.can n).fifo.length
  (l.put (F.CAN_RXSTAT_LEVEL n) k).irqLevel (P.CAN n) 0 (decide (0 < k))

/-- CAN_BUS_INTEGRATED (R341). -/
def execCanBusIntegrated (x : Lane) (n : Fin 2) (s : State) : Host.Outcome State Fault Refusal :=
  onLane x (fun l => if l.blockOn (P.CAN n.val) then l.modCan n.val fun c => { c with joined := true } else l) s

/-! ### Transmission (R343) -/

/-- The words of transmit buffer `t`. -/
def LaneState.txWord (l : LaneState) (n t i : Nat) : Word := l.rd (R.CAN_TXBUF n t i)

/-- What arbitration compares, the lower winning: base identifier, RTR or SRR, IDE, the other identifier bits, RTR; an FD
frame has no RTR (R342). -/
def canKey (w0 w1 : Word) : Nat :=
  let id := getBits w0 0 29
  let rtr := if w1.getLsbD 4 then 0 else getBits w0 30 1
  if getBits w0 29 1 = 1 then (id / 2 ^ 18) * 2 ^ 21 + 2 ^ 20 + 2 ^ 19 + id % 2 ^ 18 * 2 + rtr
  else (id / 2 ^ 18) * 2 ^ 21 + rtr * 2 ^ 20

/-- The buffer whose frame is on the bus: the one that wins among those pending when it started, `late` being those
requested since. -/
def LaneState.canNext (l : LaneState) (n late : Nat) : Option Nat :=
  let p := l.get (F.CAN_TXREQ_BUF n)
  let ts := (List.range 8).filter fun t => p / 2 ^ t % 2 = 1 ∧ late / 2 ^ t % 2 = 0
  ts.foldl (fun (best : Option Nat) t =>
    match best with
    | none => some t
    | some b =>
      if canKey (l.txWord n t 0) (l.txWord n t 1) < canKey (l.txWord n b 0) (l.txWord n b 1) then some t else some b) none

/-- A write of TXREQ (R343): it reads the pending set. `drop` are the buffers whose abort falls in the same cycle. -/
def LaneState.txreqWrite (l : LaneState) (n drop : Nat) (v : Word) : LaneState :=
  l.command (R.CAN_TXREQ n) (v &&& ~~~(BitVec.ofNat 32 (drop % 256))) fun l _ => l

def execCanTxreq (x : Lane) (n : Fin 2) (v : Word) (s : State) : Host.Outcome State Fault Refusal :=
  onLane x (·.txreqWrite n.val 0 v) s

/-- A write of TXABORT (R343): pending buffers are cancelled, but for the one on the bus. -/
def LaneState.txabortWrite (l : LaneState) (n : Nat) (bus : Option Nat) (v : Word) : LaneState :=
  l.command (R.CAN_TXABORT n) v fun l e =>
    let p := l.get (F.CAN_TXREQ_BUF n)
    let hit := (List.range 8).filter fun t => p / 2 ^ t % 2 = 1 ∧ e.getLsbD t ∧ bus ≠ some t
    let l := l.wr (R.CAN_TXABORT n) 0
    hit.foldl (fun (l : LaneState) t =>
      (l.put ⟨R.CAN_TXREQ n, t, 1⟩ 0).put ⟨R.CAN_TXDONE n, 8 + t, 1⟩ 1) l

/-- Whether a frame is on the bus at a write that a register access makes, and of which pending buffer, is not told: a free
choice (R343). -/
def LaneState.canOnBus (l : LaneState) (n : Nat) (free : DWord) : Option Nat :=
  let t := free.toNat % 9
  if l.canOn n && l.get (F.CAN_TXREQ_BUF n) / 2 ^ t % 2 == 1 then some t else none

/-- CAN_TXABORT (R343): `bus` is the set of buffers requested since the frame on the bus started, if one is. -/
def execCanTxabort (x : Lane) (n : Fin 2) (v : Word) (bus : Option Nat) (s : State) : Host.Outcome State Fault Refusal :=
  onLane x (fun l =>
    let on := match bus with
      | some late => if l.canOn n.val then l.canNext n.val late else none
      | none => none
    l.txabortWrite n.val on v) s

/-! ### Reception (R342, R344) -/

/-- Data bytes of a DLC. -/
def canBytes (dlc : Nat) (fdf : Bool) : Nat :=
  if dlc ≤ 8 then dlc else if fdf then [12, 16, 20, 24, 32, 48, 64].getD (dlc - 9) 64 else 8

/-- The identifier as word 0 holds it: a standard one in [28:18] (R342). -/
def canIdent (f : CanFrame) : Nat := if f.xtd then f.id.toNat else f.id.toNat / 2 ^ 18 * 2 ^ 18

/-- TSCNT `ago` µs before µs `now` (R346). -/
def LaneState.tscnt (l : LaneState) (n now ago : Nat) : Nat := (now - ago - (l.can n).zero) % 65536

/-- The lowest-numbered filter that accepts a frame (R344). -/
def LaneState.canFilter (l : LaneState) (n id : Nat) (xtd : Bool) : Option Nat :=
  (List.range 16).find? fun f =>
    let m := l.get (F.CAN_FMASK_MASK n f)
    l.get (F.CAN_FID_EN n f) == 1 && id &&& m == l.get (F.CAN_FID_ID n f) &&& m && l.get (F.CAN_FID_XTD n f) == bit xtd

/-- The record of a received frame (R342). -/
def canRecord (f : CanFrame) (ts filter : Nat) : List Word :=
  let k := if f.rtr then 0 else canBytes f.dlc.toNat f.fdf
  let by_ := fun i => if i < k then (f.data.getD i 0).toNat else 0
  BitVec.ofNat 32 (canIdent f + bit f.xtd * 2 ^ 29 + bit f.rtr * 2 ^ 30) ::
  BitVec.ofNat 32 (f.dlc.toNat + bit f.fdf * 16 + bit f.brs * 32 + bit f.esi * 64 + filter * 256 + ts * 2 ^ 16) ::
  (List.range 16).map fun i =>
    BitVec.ofNat 32 (by_ (4 * i) + by_ (4 * i + 1) * 2 ^ 8 + by_ (4 * i + 2) * 2 ^ 16 + by_ (4 * i + 3) * 2 ^ 24)

/-- A frame is received that started at TSCNT `ts` (R344, R346). -/
def LaneState.canReceive (l : LaneState) (n : Nat) (f : CanFrame) (ts : Nat) : LaneState :=
  let l := l.count (P.CAN n) 1
  match l.canFilter n (canIdent f) f.xtd with
  | none => l
  | some k =>
    if (l.can n).fifo.length < 32 then (l.modCan n fun c => { c with fifo := c.fifo ++ [canRecord f ts k] }).canShow n
    else (l.bump (F.CAN_RXSTAT_OVF n) 1).irqPulse (P.CAN n) (mbit 1)

/-- Receive errors before a frame: each is an error frame that raises REC (R345). -/
def LaneState.canRxErrors (l : LaneState) (n : Nat) (errs : List Nat) : LaneState :=
  errs.foldl (fun (l : LaneState) e =>
    (l.count (P.CAN n) 3).canCounted n (l.get (F.CAN_ECNT_TEC n)) (l.get (F.CAN_ECNT_REC n) + e)) l

/-- REC after a frame received without error: one less, or from above 127 a value of 119 to 127. -/
def recLess (r : Nat) (free : DWord) : Nat := if 127 < r then 119 + free.toNat % 9 else r - 1

/-- CAN_FRAME_RECEIVED (R344): `errs` are the REC additions of receive errors since the last command, and the
frame began `ago` µs before. A controller without FDEN receives no FD frame. -/
def execCanFrameReceived (x : Lane) (n : Fin 2) (errs : List Nat) (f : CanReceipt) (s : State) :
    Host.Outcome State Fault Refusal :=
  let n := n.val
  if !(s.lane x).canOn n then done s
  else
    let free := s.free
    done ((s.modLane x fun l =>
      let l := l.canRxErrors n errs
      if f.frame.fdf ∧ l.get (F.CAN_MODE_FDEN n) = 0 then l
      else (l.canCounted n (l.get (F.CAN_ECNT_TEC n)) (recLess (l.get (F.CAN_ECNT_REC n)) free)).canReceive n f.frame
        (l.tscnt n s.nowUs f.ago)).freeNext)

/-- The frame that buffer `t` holds (R342): bits of the record that the frame has no place for are not sent. -/
def LaneState.txFrame (l : LaneState) (n t : Nat) : CanFrame :=
  let w0 := l.txWord n t 0
  let w1 := l.txWord n t 1
  let fd := w1.getLsbD 4
  let xtd := w0.getLsbD 29
  ⟨if xtd then w0.extractLsb' 0 29 else w0.extractLsb' 18 11 ++ (0 : BitVec 18), xtd, w0.getLsbD 30 && !fd,
    w1.extractLsb' 0 4, fd, w1.getLsbD 5 && fd, fd && l.canState n == CanSt.passive,
    (List.range 64).map fun i => (l.txWord n t (2 + i / 4)).extractLsb' (8 * (i % 4)) 8⟩

/-- CAN_FRAME_SENT (R343): the frame began `ago` µs before. -/
def execCanFrameSent (x : Lane) (n : Fin 2) (late ago : Nat) (s : State) : Host.Outcome State Fault Refusal :=
  onLane x (fun l =>
    let n := n.val
    match l.canNext n late with
    | none => l
    | some t =>
      if !l.canOn n ∨ l.get (F.CAN_MODE_LISTEN n) = 1 then l
      else
        let f := l.txFrame n t
        let l := (l.put ⟨R.CAN_TXREQ n, t, 1⟩ 0).put ⟨R.CAN_TXDONE n, t, 1⟩ 1
        let l := (l.irqPulse (P.CAN n) (mbit 2)).count (P.CAN n) 2
        let l := l.canCounted n (l.get (F.CAN_ECNT_TEC n) - 1) (l.get (F.CAN_ECNT_REC n))
        if l.get (F.CAN_MODE_LOOP n) = 1 then l.canReceive n f (l.tscnt n s.nowUs ago) else l) s

/-- CAN_ARBITRATION_LOST (R343): the frame on the bus lost arbitration (`err` none) or met an error that adds `err` to
TEC; with ONESHOT it is not retried. -/
def execCanArbitrationLost (x : Lane) (n : Fin 2) (late : Nat) (err : Option Nat) (s : State) :
    Host.Outcome State Fault Refusal :=
  onLane x (fun l =>
    let n := n.val
    match l.canNext n late with
    | none => l
    | some t =>
      if !l.canOn n ∨ l.get (F.CAN_MODE_LISTEN n) = 1 then l
      else
        let l := if l.get (F.CAN_MODE_ONESHOT n) = 1 then l.put ⟨R.CAN_TXREQ n, t, 1⟩ 0 else l
        match err with
        | none => l.count (P.CAN n) 4
        | some e => (l.count (P.CAN n) 3).canCounted n (l.get (F.CAN_ECNT_TEC n) + e) (l.get (F.CAN_ECNT_REC n))) s

/-- A write of RXPOP (R344): it removes the FIFO head, and reads 0. -/
def LaneState.rxpopWrite (l : LaneState) (n : Nat) (v : Word) : LaneState :=
  l.command (R.CAN_RXPOP n) v fun l e =>
    let l := l.wr (R.CAN_RXPOP n) 0
    if e.getLsbD 0 then (l.modCan n fun c => { c with fifo := c.fifo.drop 1 }).canShow n else l

def execCanRxpop (x : Lane) (n : Fin 2) (v : Word) (s : State) : Host.Outcome State Fault Refusal :=
  onLane x (·.rxpopWrite n.val v) s

/-- CAN_BUS_OFF (R345): TEC has passed 255. -/
def execCanBusOff (x : Lane) (n : Fin 2) (s : State) : Host.Outcome State Fault Refusal :=
  onLane x (fun l =>
    if l.canOn n.val ∧ l.get (F.CAN_ECNT_TEC n.val) = 255 then
      (l.setCanState n.val CanSt.busOff).raise (l.pageSrc (P.CAN n.val) 2)
    else l) s

/-- A controller leaves bus-off with its counters at 0. -/
def LaneState.canRecover (l : LaneState) (n : Nat) : LaneState :=
  if l.canState n = CanSt.busOff then l.canCounted n 0 0 else l

/-- CAN_BUS_OFF_RECOVERY (R345). -/
def execCanBusOffRecovery (x : Lane) (n : Fin 2) (s : State) : Host.Outcome State Fault Refusal :=
  onLane x (fun l =>
    if l.blockOn (P.CAN n.val) ∧ l.get (F.CAN_MODE_ARECOV n.val) = 1 then l.canRecover n.val else l) s

/-- RUN written to 1 ends a bus-off with ARECOV = 0 (R345). -/
def LaneState.canRestart (l : LaneState) (n : Nat) : LaneState :=
  if l.get (F.CAN_MODE_ARECOV n) = 0 then l.canRecover n else l

/-- RUN makes the controller integrate (R341). -/
def LaneState.canRun (l : LaneState) (n : Nat) : LaneState :=
  (l.modCan n fun c => { c with joined := false }).canRestart n

/-- What RXHEAD reads: the words of the FIFO head, 0 when there is none (R344). -/
def LaneState.rxHead (l : LaneState) (n i : Nat) : Word :=
  match (l.can n).fifo with
  | r :: _ => r.getD i 0
  | [] => 0

end Sys2Proof.Machine
end

