-- ==== Sys2Proof/Machine/Ether.lean ====
section
/-!
DEFINITION. The Ethernet MAC and its PTP clock (spec/11_vehicle_and_host_ports.md R347 to R351).
-/
namespace Sys2Proof.Machine
open Sys2Proof

def LaneState.modEth (l : LaneState) (f : EthState → EthState) : LaneState :=
  { l with ports := { l.ports with eth := f l.ports.eth } }

/-- ERR codes of a descriptor (R348). -/
def EthErr.len : Nat := 1
def EthErr.bus : Nat := 2
def EthErr.trunc : Nat := 3

/-- Addresses of the descriptors at the positions of the rings (R348). -/
def LaneState.txDesc (l : LaneState) : Nat := (l.rd R.ETH_TXRING).toNat + 16 * l.ports.eth.tx
def LaneState.rxDesc (l : LaneState) : Nat := (l.rd R.ETH_RXRING).toNat + 16 * l.ports.eth.rx
/-- OWN of a descriptor. -/
def LaneState.ethOwn (l : LaneState) (d : Nat) : Bool := (l.dmaWord (d + 4)).getLsbD 16

/-- A byte that the MAC can read, and one that it can write; other addresses are bus errors (R349). -/
def ethReads (a : Nat) : Bool := decide (a < 0x01000000 ∨ 0x10000000 ≤ a ∧ a < 0x14000000 ∨ 0x20000000 ≤ a ∧ a < 0x20048000)
def ethWrites (a : Nat) : Bool := decide (0x10000000 ≤ a ∧ a < 0x14000000 ∨ 0x20000000 ≤ a ∧ a < 0x20048000)

/-! ### PTP clock (R350) -/

/-- The Ethernet clock's 8 ns tick, `sub` ticks into µs `now`. -/
def ethTick (now sub : Nat) : Nat := 125 * now + sub

/-- Nanoseconds, counted from the second that PTPSEC shows, and fraction at a tick. -/
def LaneState.ptpAhead (l : LaneState) (tick : Nat) : Nat × Nat :=
  let t := l.ports.eth.frac + (tick - l.ports.eth.tick) * (l.rd R.ETH_PTPINCR).toNat
  ((l.rd R.ETH_PTPNS).toNat + t / 2 ^ 24, t % 2 ^ 24)

/-- What PTPNS and PTPSEC read at a tick. -/
def LaneState.ptpNs (l : LaneState) (tick : Nat) : Word := BitVec.ofNat 32 ((l.ptpAhead tick).1 % 1000000000)
def LaneState.ptpSec (l : LaneState) (tick : Nat) : Word :=
  l.rd R.ETH_PTPSEC + BitVec.ofNat 32 ((l.ptpAhead tick).1 / 1000000000)

/-- The clock shows at a tick a time in nanoseconds, which may fall outside its second: PTPSEC takes the carry or borrow,
and a carry pulses IRQRAW[3]. -/
def LaneState.ptpSet (l : LaneState) (tick frac : Nat) (ns : Int) : LaneState :=
  let g : Int := 1000000000
  let c := ns / g
  let l := l.modEth fun e => { e with tick := tick, frac := frac }
  let l := l.wr R.ETH_PTPNS (BitVec.ofInt 32 (ns % g))
  let l := l.wr R.ETH_PTPSEC (l.rd R.ETH_PTPSEC + BitVec.ofInt 32 c)
  if 0 < c then l.irqPulse P.ETH (mbit 3) else l

/-- The clock's registers come to show the time of a tick. -/
def LaneState.ptpAdvance (l : LaneState) (tick : Nat) : LaneState :=
  let t := l.ptpAhead tick
  l.ptpSet (max tick l.ports.eth.tick) t.2 t.1

/-- A write of PTPINCR at a tick: the ticks before it have counted by the old increment. -/
def LaneState.ptpincrWrite (l : LaneState) (tick : Nat) (v : Word) : LaneState :=
  (if l.alive ∧ !l.blockFenced P.ETH then l.ptpAdvance tick else l).command R.ETH_PTPINCR v fun l _ => l

/-- A write of PTPADJ at a tick adds its value at the next one; in the tick of a write that sets the time it is
discarded. -/
def LaneState.ptpadjWrite (l : LaneState) (tick : Nat) (sameTick : Bool) (v : Word) : LaneState :=
  l.command R.ETH_PTPADJ v fun l e =>
    if sameTick then l.put (F.ignWr P.ETH) 1
    else
      let t := l.ptpAhead (tick + 1)
      l.ptpSet (max (tick + 1) l.ports.eth.tick) t.2 (t.1 + e.toInt)

def execPtpadjWrite (x : Lane) (v : Word) (ticks : Nat) (sameTick : Bool) (s : State) : Host.Outcome State Fault Refusal :=
  onLane x (·.ptpadjWrite (ethTick s.nowUs ticks) sameTick v) s

/-- PTPSEC_CARRY (R350): `ticks` ticks into the present µs, the clock carries into PTPSEC. -/
def execPtpsecCarry (x : Lane) (ticks : Nat) (s : State) : Host.Outcome State Fault Refusal :=
  onLane x (fun l =>
    let t := ethTick s.nowUs ticks
    if !l.alive ∨ l.blockFenced P.ETH ∨ (l.ptpAhead t).1 < 1000000000 then l else l.ptpAdvance t) s

/-- The timestamp of a frame whose delimiter passed the pins `ago` ticks before µs `now`: within 8 ns, the error free
(R350). As PTPNS and PTPSEC. -/
def LaneState.ethStamp (l : LaneState) (now ago : Nat) (free : DWord) : Word × Word :=
  let g : Int := 1000000000
  let ns : Int := (l.ptpAhead (ethTick now 0 - ago)).1 + free.toNat % 17 - 8
  (BitVec.ofInt 32 (ns % g), l.rd R.ETH_PTPSEC + BitVec.ofInt 32 (ns / g))

/-! ### Transmission (R348, R349) -/

/-- The transmitter checks the descriptor at its position (R349). -/
def LaneState.txCheck (l : LaneState) : LaneState := l.modEth fun e => { e with txOn := l.ethOwn l.txDesc }

/-- After RUN each ring is processed from index 0 (R349). -/
def LaneState.ethRun (l : LaneState) : LaneState := (l.modEth fun e => { e with tx := 0, rx := 0 }).txCheck

/-- A write of TXPOLL (R349). -/
def LaneState.txpollWrite (l : LaneState) (v : Word) : LaneState :=
  l.command R.ETH_TXPOLL v fun l e =>
    let l := l.wr R.ETH_TXPOLL 0
    if e.getLsbD 0 ∧ l.blockOn P.ETH then l.txCheck else l

def execTxpoll (x : Lane) (v : Word) (s : State) : Host.Outcome State Fault Refusal := onLane x (·.txpollWrite v) s

/-- A descriptor whose line, or in working SRAM whose buffer, a pair holds uncommitted is not read yet (R95). -/
def LaneState.ethWaits (l : LaneState) (d : Nat) : Bool :=
  let buf := (l.dmaWord d).toNat
  l.heldU d 16 || (inSram buf && l.heldU buf (getBits (l.dmaWord (d + 4)) 0 11))
def LaneState.ethForces (l : LaneState) (d : Nat) : LaneState :=
  (l.snoopAll d 16).snoopAll (l.dmaWord d).toNat (getBits (l.dmaWord (d + 4)) 0 11)

/-- A descriptor is written back: words 2 and 3, then word 1, which clears OWN (R348, R349). -/
def LaneState.ethWriteBack (l : LaneState) (d len err : Nat) (tsv : Bool) (w1 ns sec : Word) : LaneState :=
  let l := (l.dmaStore (d + 8) 4 ns.toNat).dmaStore (d + 12) 4 sec.toNat
  let w := setBits (setBits (setBits w1 16 1 0) 20 4 err) 18 1 (bit tsv)
  l.dmaStore (d + 4) 4 (setBits w 0 11 len).toNat

/-- The FCS of a frame (IEEE 802.3): CRC-32, reflected, least significant byte first. -/
def ethFcs (bs : List (BitVec 8)) : List (BitVec 8) :=
  let step := fun (c : Word) => if c.getLsbD 0 then (c >>> 1) ^^^ 0xEDB88320 else c >>> 1
  wordBytes (~~~(bs.foldl (fun c b => (List.range 8).foldl (fun c _ => step c) (c ^^^ b.setWidth 32)) (BitVec.allOnes 32)))

/-- The transmit descriptor at the position completes (R349, R351): `stamp` is its timestamp, `free` are the
words of an unstamped one, which the spec does not state. A bus error comes at byte `busErr` of the buffer, or at an address
that the MAC cannot read; a frame that has started is then ended with a bad FCS. -/
def LaneState.ethTransmit (l : LaneState) (stamp : Word × Word) (busErr : Option Nat) (free : DWord) : LaneState :=
  let d := l.txDesc
  let w1 := l.dmaWord (d + 4)
  let len := getBits w1 0 11
  let buf := (l.dmaWord d).toNat
  let stop := (List.range len).find? fun i => busErr == some i || !ethReads (buf + i)
  let err := if len < 14 ∨ 1518 < len then EthErr.len else if stop.isSome then EthErr.bus else 0
  let tsv := w1.getLsbD 17 && err == 0
  let body := l.dmaBytes buf len ++ List.replicate (60 - len) 0
  let part := l.dmaBytes buf (stop.getD 0)
  let l := l.ethWriteBack d len err tsv w1 (if tsv then stamp.1 else free.extractLsb' 0 32)
    (if tsv then stamp.2 else free.extractLsb' 32 32)
  let l := l.modEth fun e => { e with
    tx := (e.tx + 1) % max 1 (l.get F.ETH_RINGLEN_TXN)
    sent := if err = 0 then body ++ ethFcs body
      else if err = EthErr.bus ∧ stop ≠ some 0 then part ++ (ethFcs part).map (~~~ ·) else e.sent }
  let l := l.irqPulse P.ETH (mbit 0)
  let l := if err = 0 then (l.bump ⟨R.ETH_TXOK, 0, 32⟩ 1).count P.ETH 1 else l
  let l := if err = EthErr.bus then l.raise (l.pageSrc P.ETH 2) else l
  l.txCheck

/-- ETH_FRAME_TRANSMITTED (R349, R350): how many ticks ago the start-of-frame delimiter passed, and whether a bus
error came, at byte `stop` of the buffer. -/
def execEthFrameTransmitted (x : Lane) (ago stop : Nat) (busErr : Bool) (s : State) : Host.Outcome State Fault Refusal :=
  let l := s.lane x
  if !l.blockOn P.ETH ∨ !l.ports.eth.txOn then done s
  else if l.ethWaits l.txDesc then done (s.setLane x (l.ethForces l.txDesc))
  else done ((s.setLane x (l.ethTransmit (l.ethStamp s.nowUs ago s.free) (if busErr then some stop else none) s.free)).freeNext)

/-! ### Reception (R347 to R349) -/

/-- The station address, octet 1 first (R351). -/
def LaneState.macAddr (l : LaneState) : List (BitVec 8) :=
  let hi := l.rd R.ETH_MACADDR_H
  let lo := l.rd R.ETH_MACADDR_L
  [hi.extractLsb' 8 8, hi.extractLsb' 0 8, lo.extractLsb' 24 8, lo.extractLsb' 16 8, lo.extractLsb' 8 8, lo.extractLsb' 0 8]

/-- Whether a frame is addressed to the station (R347): its own address, broadcast and multicast, or any. -/
def LaneState.ethMine (l : LaneState) (fr : List (BitVec 8)) : Bool :=
  l.get F.ETH_MACCFG_PROMISC == 1 || fr.take 6 == l.macAddr || (fr.headD 0).getLsbD 0

/-- A frame is dropped (R351). -/
def LaneState.ethDrop (l : LaneState) (counter : Nat) : LaneState :=
  ((l.bump ⟨counter, 0, 32⟩ 1).irqPulse P.ETH (mbit 2)).count P.ETH 3

/-- A frame, without its FCS, is stored in the descriptor at the position (R348, R349). A bus error comes at byte `busErr` of
the buffer, or at an address that the MAC cannot write; the bytes before it are stored. -/
def LaneState.ethStore (l : LaneState) (body : List (BitVec 8)) (ns sec : Word) (busErr : Option Nat) : LaneState :=
  let d := l.rxDesc
  let w1 := l.dmaWord (d + 4)
  let buf := (l.dmaWord d).toNat
  let fit := body.take (getBits w1 0 11)
  let stop := (List.range fit.length).find? fun i => busErr == some i || !ethWrites (buf + i)
  let fits := fit.take (stop.getD fit.length)
  let err := if stop.isSome then EthErr.bus else if fit.length < body.length then EthErr.trunc else 0
  let l := (l.dmaPutBytes buf fits).ethWriteBack d fits.length err true w1 ns sec
  let l := l.modEth fun e => { e with rx := (e.rx + 1) % max 1 (l.get F.ETH_RINGLEN_RXN) }
  if stop.isSome then l.raise (l.pageSrc P.ETH 2)
  else ((l.bump ⟨R.ETH_RXOK, 0, 32⟩ 1).irqPulse P.ETH (mbit 1)).count P.ETH 2

/-- ETH_FRAME_RECEIVED (R347, R349): the frame with its FCS, whether the FCS is right, how many ticks ago its
delimiter passed, and whether a bus error came, at byte `stop` of the buffer. -/
def execEthFrameReceived (x : Lane) (frame : List (BitVec 8)) (fcsOk : Bool) (ago stop : Nat) (busErr : Bool) (s : State) :
    Host.Outcome State Fault Refusal :=
  let free := s.free
  onLane x (fun l =>
    if !l.blockOn P.ETH then l
    else if !fcsOk ∨ frame.length < 64 ∨ 1522 < frame.length then
      let l := l.ethDrop R.ETH_RXERR
      if fcsOk then l else l.count P.ETH 4
    else if !l.ethMine frame then l
    else if l.heldU l.rxDesc 16 then l.snoopAll l.rxDesc 16
    else if !l.ethOwn l.rxDesc then l.ethDrop R.ETH_RXDROP
    else
      let t := l.ethStamp s.nowUs ago free
      l.ethStore (frame.take (frame.length - 4)) t.1 t.2 (if busErr then some stop else none)) s.freeNext

/-! ### Management (R347, R351) -/

/-- A write of MDIO (R351): with GO = 1 a Clause 22 frame starts. -/
def execMdioAccess (x : Lane) (v : Word) (s : State) : Host.Outcome State Fault Refusal :=
  onLane x (·.command R.ETH_MDIO v fun l _ => l) s

/-- MDIO_COMPLETE (R351): a read leaves its result in DATA. -/
def execMdioComplete (x : Lane) (data : Half) (s : State) : Host.Outcome State Fault Refusal :=
  onLane x (fun l =>
    if !l.alive ∨ l.blockFenced P.ETH ∨ l.get F.ETH_MDIO_GO = 0 then l
    else
      let l := l.put F.ETH_MDIO_GO 0
      if l.get F.ETH_MDIO_WRITE = 1 then l else l.put F.ETH_MDIO_DATA data.toNat) s

end Sys2Proof.Machine
end

