-- ==== Sys2Proof/Machine/Power.lean ====
section
/-!
DEFINITION. Power states, clocks and wakes (spec/15_power_clocks_and_retention.md).
-/
namespace Sys2Proof.Machine
open Sys2Proof

def LaneState.modPower (l : LaneState) (f : Power → Power) : LaneState := { l with power := f l.power }

/-- PSTAT.STATE codes (R456). -/
def PSt.run : Nat := 0
def PSt.doze : Nat := 1
def PSt.entering : Nat := 2
def PSt.parkwait : Nat := 3
def LaneState.pstate (l : LaneState) : Nat := l.get F.PWR_PSTAT_STATE

/-- Whether a lane is in PARK: unpowered but for the Crust, its feed present (R434). -/
def LaneState.parked (l : LaneState) : Bool := l.power.railsOff && l.power.feedOn

/-- The code of what aborted an entry (R445). -/
def stopperCode : Stopper → Nat
  | .wake ss => 0xFF0200 + ss.val
  | .debug => 0xFF0300
  | .host => 0xFF0301
  | .psreq => 0xFF0302

/-- Records a refusal (reason 1) or an abort (reason 2) of an entry; the lane is in RUN (R438, R445). -/
def LaneState.entryEnds (l : LaneState) (target reason refuser : Nat) : LaneState :=
  let l := l.bump (if reason = 1 then F.PWR_PSCNT_REFUSED else F.PWR_PSCNT_ABORTED) 1
  let l := l.wr R.PWR_PSLAST (BitVec.ofNat 32 (refuser + reason * 2 ^ 24 + target * 2 ^ 28))
  let l := (l.put F.PWR_PSTAT_STATE PSt.run).modPower fun p => { p with entry := 0, parkReady := false, abortBy := none }
  (l.irqPulse P.PWR (mbit 0)).count P.PWR 2

/-- The unfenced pairs, and the first of them that is not in WFI. -/
def LaneState.unfenced (l : LaneState) : List Nat := (List.range 4).filter fun p => l.pairState p ≠ PState.fenced
def LaneState.notWfi (l : LaneState) : Option Nat := l.unfenced.find? fun p => !(l.pair p).wfi

/-- Every unfenced pair takes a checkpoint (R436, R438); the EIC of a pair in replay is that of its last interrupt. -/
def LaneState.checkpointAll (l : LaneState) : LaneState :=
  l.unfenced.foldl (fun (l : LaneState) p => (l.ckptRequest p).ckptCommit p (l.pair p).eic) l

/-- The lane enters DOZE (R436). -/
def LaneState.enterDoze (l : LaneState) : LaneState :=
  ((l.checkpointAll.put F.PWR_PSTAT_STATE PSt.doze).modPower fun p => { p with entry := 0 }).count P.PWR 1

/-- The signature of bank `k` (R449). -/
def LaneState.bankSig (l : LaneState) (k : Nat) : Word :=
  crc32c ((List.range 0x100000).map fun i => l.byte (0x10000000 + 0x100000 * k + i))

/-- Steps 5 and 6 of R438: the retained banks are signed, and the lane is park-ready. -/
def LaneState.parkSign (l : LaneState) : LaneState :=
  let l := (List.range 64).foldl (fun (l : LaneState) k =>
    if l.retained k then l.wr (R.PWR_BANKSIG k) (l.bankSig k) else l) l
  (l.put F.PWR_PSTAT_STATE PSt.parkwait).modPower fun p => { p with entry := 0, parkReady := true }

/-- Whether Kiln runs no slice at this park (R474). -/
def LaneState.kilnSkips (l : LaneState) : Bool :=
  let k := l.get F.KILN_KCTRL_SAVEBANK
  l.get F.KILN_KCTRL_EN == 0 || l.retained k || l.inPool k || l.bankLost k

/-- Steps 3 and 4 of R438: commit and write back, then Kiln. -/
def LaneState.parkCommit (l : LaneState) : LaneState :=
  let l := l.checkpointAll.writeBack
  if l.kilnSkips then
    (((l.krecWrite fun ws => krecSetState (krecClear ws) KSt.incomplete).kilnLive).put F.KILN_KSTAT_SKIP 1).parkSign
  else
    let l := l.krecWrite fun ws => (krecSetState (krecClear ws) KSt.running).set 3 (ws.getD 3 0 + 1) |>.set 10 0
    let l := l.kilnLive.put F.KILN_KSTAT_SKIP 0
    (l.sliceStart 0 true).modPower fun p => { p with entry := 3 }

/-- The blocks that step 1 of R438 checks, in its order. -/
def parkBlocks : List Nat :=
  [P.PLC, P.LE, P.XFR, P.FBK, P.FBKCH 0, P.FBKCH 1, P.SNS, P.ADC, P.STR, P.CAN 0, P.CAN 1, P.ETH]

/-- Step 1 of R438: the refuser, if any. -/
def LaneState.parkRefuser (l : LaneState) : Option Nat :=
  if l.get F.PWR_PSTAT_CONSENT = 0 then some 0xFF0100
  else (parkBlocks.find? fun b => l.get (F.running b) == 1).map fun b => getBits (l.rd b) 8 24

/-- The entry that waits for WFI goes on when every unfenced pair is in WFI (R436, R438). -/
def LaneState.entryCheck (l : LaneState) : LaneState :=
  if l.notWfi.isSome then l
  else if l.power.entry = 1 then l.enterDoze
  else if l.power.entry = 2 then l.parkCommit
  else l

/-- A lane is in RUN: powered, out of reset, its core clocks running (R434). -/
def LaneState.inRun (l : LaneState) : Bool := l.alive && decide (l.pstate ≠ PSt.doze)

/-- An entry under way is aborted (R438, R445, R475); `us` is the duration of a Kiln portion it cuts short. The first event
that came during Kiln is the refuser. -/
def LaneState.abortEntry (l : LaneState) (who : Stopper) (us : Nat) : LaneState :=
  if l.power.entry = 0 ∧ l.pstate ≠ PSt.parkwait then l
  else
    let who := l.power.abortBy.getD who
    let target := if l.power.entry = 1 then 1 else 2
    let l :=
      if l.power.entry = 3 then
        let k := l.get F.KILN_KSTAT_SLICE
        let l := match l.power.kilnFail with
          | some _ =>
            let l := (l.sliceRecord us).1
            l.krecWrite fun ws => krecSetState ws KSt.failed
          | none => l.krecWrite fun ws => ((krecSetState ws KSt.incomplete).set 10 (ws.getD 10 0 + 1)).set 12
              (BitVec.ofNat 32 us)
        let l := (l.bump F.KILN_KABORT_COUNT 1).put F.KILN_KABORT_LAST k
        ((l.irqPulse P.KILN (mbit 1)).count P.KILN 3).kilnEnd.kilnLive
      else l
    l.entryEnds target 2 (stopperCode who)

/-- An event that aborts an entry reaches the lane: while Kiln runs it waits until the slice has stopped (R475). -/
def LaneState.parkAbort (l : LaneState) (who : Stopper) : LaneState :=
  if l.power.entry = 3 then l.modPower fun p => { p with abortBy := some (p.abortBy.getD who) }
  else l.abortEntry who 0

/-- A write of PSREQ (R436, R438, R445). -/
def State.psreqWrite (s : State) (x : Lane) (g : Agent) (v : Word) : State :=
  let l := s.lane x
  if !l.alive then s
  else
    let l := (l.regWrite R.PWR_PSREQ v).1
    let t := if getBits v 0 2 = 3 then 0 else getBits v 0 2
    let outer := decide (g = .host) || decide (g = .dbg)
    if l.power.entry ≠ 0 ∨ l.pstate = PSt.parkwait then s.setLane x (l.parkAbort .psreq)
    else if l.pstate = PSt.doze then s.setLane x (if outer then l.leaveDoze else l)
    else if t = 1 then
      if s.devState = Dev.drive ∧ !(s.lane x.peer).inRun then s.setLane x (l.entryEnds 1 1 0xFF0100)
      else s.setLane x (l.modPower fun p => { p with entry := 1 }).entryCheck
    else if t = 2 then
      match l.parkRefuser with
      | some r => s.setLane x (l.entryEnds 2 1 r)
      | none => s.setLane x ((l.put F.PWR_PSTAT_STATE PSt.entering).modPower fun p => { p with entry := 2 }).entryCheck
    else s.setLane x l

def execPsreqDoze (x : Lane) (g : Agent) (s : State) : Host.Outcome State Fault Refusal := done (s.psreqWrite x g 1)
def execPsreqPark (x : Lane) (g : Agent) (s : State) : Host.Outcome State Fault Refusal := done (s.psreqWrite x g 2)

/-- WFI_ENTRY (R436): pair `p` executes WFI. -/
def execWfiEntry (x : Lane) (p : Fin 4) (s : State) : Host.Outcome State Fault Refusal :=
  onLane x (fun l =>
    if !l.alive ∨ !l.pairRuns p.val then l
    else (l.modPair p.val fun q => { q with wfi := true }).entryCheck) s

/-- WFI_TIMEOUT (R436, R438): the first pair not in WFI refuses the entry. -/
def execWfiTimeout (x : Lane) (s : State) : Host.Outcome State Fault Refusal :=
  onLane x (fun l =>
    match l.notWfi with
    | none => l
    | some p =>
      if l.power.entry = 1 ∨ l.power.entry = 2 then l.entryEnds l.power.entry 1 (0xFF0000 + 0x10 * l.id.num + p) else l) s

/-- DOZE_EXIT (R436). -/
def execDozeExit (x : Lane) (s : State) : Host.Outcome State Fault Refusal := onLane x (·.leaveDoze) s

/-- PARK_ABORT (R438, R475): the entry under way ends; in Kiln the running slice has stopped, `us` after Kiln began. -/
def execParkAbort (x : Lane) (who : Stopper) (us : Nat) (s : State) : Host.Outcome State Fault Refusal :=
  onLane x (·.abortEntry who us) s

/-- DEBUG_HALT_REQUEST (R104, R436, R438): a service request, and the end of DOZE. -/
def execDebugHaltRequest (x : Lane) (p : Fin 4) (cause : Nat) (s : State) : Host.Outcome State Fault Refusal :=
  onLane x (fun l =>
    let l := if l.alive ∧ cause = 3 then l.dmControl p.val (2 ^ 31) else l
    if l.dm.enabled then ((l.parkAbort .debug).leaveDoze).haltRequest p.val cause else l) s

/-! ### The grant -/

/-- A lane powers down (R438 step 7, R439); without consent it retains no bank. -/
def LaneState.powerDown (l : LaneState) (retainNone : Bool) : LaneState :=
  (l.put F.PWR_WAKESTAT_FAILCNT 0).modPower fun p => { p with
    railsOff := true, entry := 0, abortBy := none, parkReady := false, wakeStep := 0, wakeSrc := 0, retainNone := retainNone }

/-- Whether Bedrock may grant parking (R439). -/
def State.mayPark (s : State) : Bool :=
  let up := [Lane.A, .B].filter fun x => s.laneStatus x == Stat.up
  s.bedrockRuns && decide (s.devState = Dev.idle) && !up.isEmpty &&
    [Lane.A, .B].all (fun x => s.laneStatus x != Stat.boot) &&
    up.all fun x => (s.lane x).get F.PWR_PSTAT_CONSENT == 1 && (s.lane x).power.parkReady

/-- The bridge die in PARKED (R440): PLL stopped, rank 2, orphan timer unarmed, a new master boundary to come. -/
def State.parkBridges (s : State) : State :=
  (s.modBrg fun b => { (b.put F.BCOM_TBSTAT_LOCK 0).put F.BCOM_TBSTAT_ARMED 0 with pllHold := true, fresh := true }).bcomIrq.rankAll

/-- PARK_GRANT (R439): every ready lane and every powered LOST or EXCLUDED lane parks, and the device is PARKED. -/
def execParkGrant (s : State) : Host.Outcome State Fault Refusal :=
  done (if !s.mayPark then s
    else
      let down := fun (s : State) (x : Lane) =>
        if s.laneStatus x = Stat.up then s.modLane x (·.powerDown false)
        else if (s.laneStatus x = Stat.lost ∨ s.laneStatus x = Stat.excluded) ∧ (s.lane x).power.feedOn then
          s.modLane x (·.powerDown true)
        else s
      let s := (down (down s .A) .B).setDev Dev.parked
      let s := (List.range 8).foldl State.evParked s
      (s.demandUpdate).parkBridges)

/-- BEDROCK_CLOCK_STOP (R439): 16 cycles after the grant, unless a wake has begun. -/
def execBedrockClockStop (s : State) : Host.Outcome State Fault Refusal :=
  done (if s.devState = Dev.parked ∧ s.a.power.wakeStep = 0 ∧ s.b.power.wakeStep = 0 then
    s.modBed fun b => { b with clockOff := true } else s)

/-! ### Wakes -/

/-- An event of wake source `ss` reaches a lane (R438, R446, R447): in PARK it is latched and starts the wake; it
aborts an entry from step 3 on; otherwise it has no effect here. -/
def State.wakeEvent (s : State) (x : Lane) (ss : Nat) : State :=
  let l := s.lane x
  if l.get F.PWR_WAKEEN_EN / 2 ^ ss % 2 = 0 then s
  else if l.parked then
    let l := if l.power.wakeStep = 0 then
        (((l.put F.PWR_WAKESTAT_XTALFB 0).put F.PWR_WAKESTAT_LOSTCNT 0).put F.CLK_CLKSTAT_XTALFB 0).modPower
          fun p => { p with wakeStep := 2, wakeSrc := 0 }
      else l
    let l := l.modPower fun p => { p with wakeSrc := p.wakeSrc ||| 2 ^ ss }
    (s.setLane x (l.put F.PWR_WAKESTAT_SRC l.power.wakeSrc)).modBed fun b => { b with clockOff := false }
  else if l.alive ∧ (l.power.entry = 3 ∨ l.pstate = PSt.parkwait) then
    s.setLane x (l.parkAbort (.wake (Fin.ofNat 8 ss)))
  else s

def execWakeEvent (x : Lane) (ss : Fin 8) (s : State) : Host.Outcome State Fault Refusal := done (s.wakeEvent x ss.val)

/-- Steps 2 to 4 of a wake (R447). -/
def LaneState.wakeGo (l : LaneState) (i j : Nat) (f : LaneState → LaneState) : LaneState :=
  if l.parked ∧ l.power.wakeStep = i then (f l).modPower fun p => { p with wakeStep := j } else l

def execWakeRegulatorsReady (x : Lane) (s : State) : Host.Outcome State Fault Refusal := onLane x (·.wakeGo 2 3 id) s
def execWakeReferenceReady (x : Lane) (s : State) : Host.Outcome State Fault Refusal :=
  onLane x (·.wakeGo 3 4 fun l => l.put F.CLK_CLKSTAT_XTALOK 1) s
def execWakePllLock (x : Lane) (s : State) : Host.Outcome State Fault Refusal :=
  onLane x (·.wakeGo 4 5 fun l => l.put F.CLK_CLKSTAT_LOCK 7) s

/-- The internal oscillator replaces the crystal (R442). -/
def LaneState.xtalFallback (l : LaneState) : LaneState :=
  (((l.put F.CLK_CLKSTAT_XTALOK 0).put F.CLK_CLKSTAT_XTALFB 1).bump F.CLK_CLKSTAT_XTALCNT 1)

/-- XTAL is live and CLK.IRQRAW[0] high while the internal oscillator is in use (R442, R454). -/
def LaneState.xtalLive (l : LaneState) : LaneState :=
  let fb := l.get F.CLK_CLKSTAT_XTALFB == 1
  (l.setLive 10 fb 0).irqLevel P.CLK 0 fb

/-- REFERENCE_CRYSTAL_TIMEOUT (R442): in a wake, or in a start-up. -/
def execReferenceCrystalTimeout (x : Lane) (s : State) : Host.Outcome State Fault Refusal :=
  onLane x (fun l =>
    if l.parked then l.wakeGo 3 4 fun l => l.xtalFallback.put F.PWR_WAKESTAT_XTALFB 1
    else if l.power.held ∧ l.get F.CLK_CLKSTAT_XTALFB = 0 then l.xtalFallback
    else l) s

/-- REFERENCE_CRYSTAL_STOP (R442): in RUN or DOZE. -/
def execReferenceCrystalStop (x : Lane) (s : State) : Host.Outcome State Fault Refusal :=
  onLane x (fun l => if l.alive ∧ l.get F.CLK_CLKSTAT_XTALFB = 0 then l.xtalFallback.xtalLive else l) s

/-- WAKE_FAILED (R448). -/
def execWakeFailed (x : Lane) (s : State) : Host.Outcome State Fault Refusal :=
  onLane x (fun l =>
    if l.parked ∧ (l.power.wakeStep = 2 ∨ l.power.wakeStep = 4) then
      let l := (l.put F.PWR_WAKESTAT_WAKEFAIL 1).put F.PWR_WAKESTAT_STEP (if l.power.wakeStep = 2 then 1 else 2)
      (l.bump F.PWR_WAKESTAT_FAILCNT 1).modPower fun p => { p with wakeStep := 0, wakeSrc := 0 }
    else l) s

/-- CRUST_TIMER_MATCH (R446, R457). -/
def execCrustTimerMatch (x : Lane) (s : State) : Host.Outcome State Fault Refusal :=
  done (if (s.lane x).alive then (s.modLane x (·.irqPulse P.PWR (mbit 1))).wakeEvent x 5 else s.wakeEvent x 5)

/-- CLOCK_MONITOR_EXCURSION (R441, R454): domain `k`, 1 to 9, leaves or regains its frequency. -/
def execClockMonitorExcursion (x : Lane) (k : Fin 12) (off : Bool) (s : State) : Host.Outcome State Fault Refusal :=
  onLane x (fun l =>
    if !l.alive ∨ k.val = 0 ∨ 9 < k.val then l
    else
      let l := l.put ⟨R.CLK_MONSTAT, k.val, 1⟩ (bit off)
      let any := decide (l.rd R.CLK_MONSTAT ≠ 0)
      let l := (l.setLive 12 any 0).irqLevel P.CLK 2 any
      if off then l.count P.CLK 2 else l) s

/-! ### Operating points -/

/-- A refused operating-point write (R444). -/
def LaneState.opRefuse (l : LaneState) (page reg val other : Nat) : LaneState :=
  let l := (l.put (F.ignWr page) 1).bump F.PWR_OPREF_COUNT 1
  (((l.put F.PWR_OPREF_REG reg).put F.PWR_OPREF_VAL val).put F.PWR_OPREF_OTHER other).irqPulse P.PWR (mbit 3)

/-- A write of CORECLK (R444). -/
def LaneState.fselWrite (l : LaneState) (v : Word) : LaneState :=
  let f := getBits v 0 2
  if !l.alive then l
  else if l.blockFenced R.CLK_CORECLK then l.put (F.ignWr P.CLK) 1
  else
    let l := l.abandonLock R.CLK_CORECLK
    if f < l.get F.PWR_COREV_VSEL ∨ l.get F.PWR_VSTAT_SETTLED = 0 then l.opRefuse P.CLK 0 f (l.get F.PWR_COREV_VSEL)
    else (l.put F.CLK_CORECLK_FSEL f).put F.CLK_CLKSTAT_FBUSY 1

/-- A write of COREV (R444): the rail ramps unless it stands at the new point already. -/
def LaneState.vselWrite (l : LaneState) (v : Word) : LaneState :=
  let n := getBits v 0 2
  if !l.alive then l
  else if l.blockFenced R.PWR_COREV then l.put (F.ignWr P.PWR) 1
  else
    let l := l.abandonLock R.PWR_COREV
    if l.get F.CLK_CORECLK_FSEL < n ∨ l.get F.PWR_VSTAT_SETTLED = 0 then l.opRefuse P.PWR 1 n (l.get F.CLK_CORECLK_FSEL)
    else (l.put F.PWR_COREV_VSEL n).put F.PWR_VSTAT_SETTLED (bit (n == l.get F.PWR_VSTAT_CURV))

def execFselWrite (x : Lane) (v : Word) (s : State) : Host.Outcome State Fault Refusal := onLane x (·.fselWrite v) s
def execVselWrite (x : Lane) (v : Word) (s : State) : Host.Outcome State Fault Refusal := onLane x (·.vselWrite v) s

/-- CORE_RAIL_SETTLED (R444, R457). -/
def execCoreRailSettled (x : Lane) (s : State) : Host.Outcome State Fault Refusal :=
  onLane x (fun l =>
    if !l.alive ∨ l.get F.PWR_VSTAT_SETTLED = 1 then l
    else ((l.put F.PWR_VSTAT_SETTLED 1).put F.PWR_VSTAT_CURV (l.get F.PWR_COREV_VSEL)).irqPulse P.PWR (mbit 2)) s

/-- FREQUENCY_SWITCH_COMPLETE (R444, R454). -/
def execFrequencySwitchComplete (x : Lane) (s : State) : Host.Outcome State Fault Refusal :=
  onLane x (fun l =>
    if !l.alive ∨ l.get F.CLK_CLKSTAT_FBUSY = 0 then l
    else (((l.put F.CLK_CLKSTAT_FBUSY 0).put F.CLK_CLKSTAT_CURF (l.get F.CLK_CORECLK_FSEL)).irqPulse P.CLK (mbit 1)).count
      P.CLK 1) s

/-- A write of PEERWAKE (R446). -/
def State.peerwakeWrite (s : State) (x : Lane) (v : Word) : State :=
  let l := s.lane x
  let s := s.modLane x (·.command R.PWR_PEERWAKE v fun l _ => l)
  if l.alive ∧ !l.blockFenced R.PWR_PEERWAKE ∧ getBits v 0 8 = 0xA5 then s.wakeEvent x.peer 7 else s

def execPeerwake (x : Lane) (v : Word) (s : State) : Host.Outcome State Fault Refusal := done (s.peerwakeWrite x v)

/-- A write of a LOSTBANK register (R450). -/
def LaneState.lostbankWrite (l : LaneState) (high : Bool) (v : Word) : LaneState :=
  let r := if high then R.PWR_LOSTBANK_H else R.PWR_LOSTBANK_L
  if !l.alive then l
  else if l.blockFenced r then l.put (F.ignWr P.PWR) 1
  else
    let l := l.abandonLock r
    let l := (List.range 32).foldl (fun (l : LaneState) i =>
      if !(v.getLsbD i) ∨ !(l.rd r).getLsbD i then l
      else if l.fencedBy (.bank (i + 32 * bit high)) then l.put (F.ignWr P.PWR) 1
      else l.wr r (l.rd r &&& ~~~(mbit i))) l
    if l.anyLost then l else l.setLive 5 false 0

def execLostbankClear (x : Lane) (high : Bool) (v : Word) (s : State) : Host.Outcome State Fault Refusal :=
  onLane x (·.lostbankWrite high v) s

/-- A write of WAKESTAT: WAKEFAIL by W1C ends the cause of its source (R448). -/
def LaneState.wakestatWrite (l : LaneState) (v : Word) : LaneState :=
  l.command R.PWR_WAKESTAT v fun l _ => if l.get F.PWR_WAKESTAT_WAKEFAIL = 0 then l.setLive 17 false 0 else l

/-- WAKE_INPUT_CHANGE (R67, R446): in RUN and DOZE the pins drive APLIC sources 17 to 20. -/
def execWakeInputChange (x : Lane) (pin : Fin 4) (level : Bool) (s : State) : Host.Outcome State Fault Refusal :=
  onLane x (fun l => if l.alive then l.aplicLevel (17 + pin.val) level else l) s

end Sys2Proof.Machine
end

