-- ==== Sys2Proof/Machine/Pins.lean ====
section
/-!
DEFINITION. The wake port and the general-purpose pins (spec/11_vehicle_and_host_ports.md R356 to R361).
-/
namespace Sys2Proof.Machine
open Sys2Proof

/-! ### Wake port (R356, R357) -/

/-- A lane state in which the wake port works: every one but OFF. -/
def LaneState.wakeOn (l : LaneState) (addr : Nat) : Bool :=
  l.power.feedOn && l.get F.WAKE_WCFG_EN == 1 && l.get F.WAKE_WCFG_ADDR == addr && !(l.alive && l.blockFenced P.WAKE)

/-- IRQRAW[0] of the WAKE page follows NEW. -/
def LaneState.wstatIrq (l : LaneState) : LaneState := l.irqLevel P.WAKE 0 (l.get F.WAKE_WSTAT_NEW == 1)

/-- A code is stored (R356, R357). -/
def LaneState.wakeCode (l : LaneState) (code : BitVec 8) : LaneState :=
  let l := if l.get F.WAKE_WSTAT_NEW = 1 then l.put F.WAKE_WSTAT_OVR 1 else l
  let l := (l.put F.WAKE_WCODE_CODE code.toNat).put F.WAKE_WCODE_RCVD (l.get F.WAKE_WCODE_RCVD + 1)
  ((l.put F.WAKE_WSTAT_NEW 1).wstatIrq).count P.WAKE 1

/-- WAKE_PORT_WRITE (R356): the first byte is stored, and is a wake request in PARK. -/
def execWakePortWrite (x : Lane) (addr : BitVec 7) (bytes : List (BitVec 8)) (s : State) :
    Host.Outcome State Fault Refusal :=
  match bytes with
  | [] => done s
  | c :: _ =>
    if (s.lane x).wakeOn addr.toNat then done ((s.modLane x (·.wakeCode c)).wakeEvent x 0) else done s

/-- The status byte (R356). -/
def LaneState.wakeStatus (l : LaneState) : Nat :=
  let st := if l.parked then 2 else if l.pstate = PSt.doze then 1 else 0
  st + 8 * bit (l.get F.PWR_WAKESTAT_WAKEFAIL ≠ 0) + 16 * l.get F.WAKE_WSTAT_NEW

/-- WAKE_PORT_READ (R356). -/
def execWakePortRead (x : Lane) (addr : BitVec 7) (s : State) : Host.Outcome State Fault Refusal :=
  onLane x (fun l =>
    if l.wakeOn addr.toNat then { l with ports := { l.ports with wakeOut := some l.wakeStatus } } else l) s

/-! ### General-purpose pins (R358 to R361) -/

/-- The filtered levels of the pins: free for a pin that no command has named. -/
def LaneState.gpioIn (l : LaneState) (i : Nat) : Nat :=
  let free := Config.pinLevels (32 + l.id.num) i 0 % 65536
  (l.ports.gpio &&& l.ports.gpioSeen) + (free &&& (65535 - l.ports.gpioSeen % 65536))

/-- IRQRAW[k] follows GEVT bit k. -/
def LaneState.gevtIrq (l : LaneState) : LaneState :=
  (List.range 16).foldl (fun (l : LaneState) k => l.irqLevel P.GPIO k (l.get F.GPIO_GEVT_EVT / 2 ^ k % 2 == 1)) l

/-- The filtered level of pin k changes to `level` (R358, R360). -/
def LaneState.gpioEdge (l : LaneState) (k : Nat) (level : Bool) : LaneState :=
  let known := l.ports.gpioSeen / 2 ^ k % 2 = 1
  if !l.alive ∨ l.blockFenced P.GPIO ∨ (known ∧ (l.ports.gpio / 2 ^ k % 2 = 1) = level) then l
  else
    let l := { l with ports := { l.ports with
      gpio := l.ports.gpio - l.ports.gpio / 2 ^ k % 2 * 2 ^ k + bit level * 2 ^ k
      gpioSeen := l.ports.gpioSeen ||| 2 ^ k } }
    let l := (l.aplicLevel (1 + k) level).count P.GPIO 2
    let e := l.get (F.GPIO_GEDGE_EDGE k)
    if e / (if level then 1 else 2) % 2 = 0 then l
    else ((l.put F.GPIO_GEVT_EVT (l.get F.GPIO_GEVT_EVT ||| 2 ^ k)).gevtIrq).count P.GPIO 1

/-- GPIO_EDGE (R358): the pin has shown `level` for `held` samples; the glitch filter passes it from GCFG.FLT on. -/
def execGpioEdge (x : Lane) (k : Fin 16) (e : HeldLevel) (s : State) : Host.Outcome State Fault Refusal :=
  onLane x (fun l => if l.get F.GPIO_GCFG_FLT ≤ e.held then l.gpioEdge k.val e.level else l) s

/-- Writes of GOUTSET and GOUTCLR (R359). -/
def LaneState.goutsetWrite (l : LaneState) (v : Word) : LaneState :=
  l.command R.GPIO_GOUTSET v fun l e => l.wr R.GPIO_GOUT (l.rd R.GPIO_GOUT ||| e)
def LaneState.goutclrWrite (l : LaneState) (v : Word) : LaneState :=
  l.command R.GPIO_GOUTCLR v fun l e => l.wr R.GPIO_GOUT (l.rd R.GPIO_GOUT &&& ~~~e)

def execGoutset (x : Lane) (v : Word) (s : State) : Host.Outcome State Fault Refusal := onLane x (·.goutsetWrite v) s
def execGoutclr (x : Lane) (v : Word) (s : State) : Host.Outcome State Fault Refusal := onLane x (·.goutclrWrite v) s

/-- The pull of a pin that does not drive (R359, R405): 0 none, 1 down, 2 up; a fenced page's pins are at their reset
state. -/
def LaneState.gpioPull (l : LaneState) (k : Nat) : Nat :=
  if l.blockFenced P.GPIO ∨ !l.alive then 1 else l.get (F.GPIO_GPULL_PULL k)

/-- What a pin drives (R359): nothing while it is an input, the block does not run, or an open-drain output is 1. -/
def LaneState.gpioDrive (l : LaneState) (k : Nat) : Option Bool :=
  let b := fun f => l.get f / 2 ^ k % 2 == 1
  if l.get (F.run P.GPIO) = 0 ∨ !l.alive ∨ l.blockFenced P.GPIO ∨ !b F.GPIO_GDIR_OUT then none
  else if b F.GPIO_GOUT_LVL ∧ b F.GPIO_GODR_OD then none else some (b F.GPIO_GOUT_LVL)

end Sys2Proof.Machine
end

