-- ==== Sys2Proof/Machine/XferRegs.lean ====
section
/-!
DEFINITION. The registers of the transfer engine (spec/14_transfer_engine.md R423, R431, R432): channel states, enabling,
kicks and stops; and programming of the MRAM (spec/16_startup_and_shutdown_test.md R459, R460).
-/
namespace Sys2Proof.Machine
open Sys2Proof

/-! ### Channels -/

/-- CHSTAT.STATE codes (R423). -/
def Chn.stopped : Nat := 0
def Chn.idle : Nat := 1
def Chn.fetch : Nat := 2
def Chn.active : Nat := 3
def Chn.waitReq : Nat := 4
def Chn.error : Nat := 5

def LaneState.xchan (l : LaneState) (c : Nat) : XChan := Table.get (fun _ => XChan.reset) l.xfr.chans c
def LaneState.modX (l : LaneState) (c : Nat) (f : XChan → XChan) : LaneState :=
  { l with xfr := { l.xfr with chans := Table.upd (fun _ => XChan.reset) l.xfr.chans c f } }
def LaneState.chnState (l : LaneState) (c : Nat) : Nat := l.get (F.XFR_CHSTAT_STATE c)

/-- A channel changes state; IRQRAW[17] is high while any is in ERROR (R433). -/
def LaneState.setChn (l : LaneState) (c v : Nat) : LaneState :=
  let l := l.put (F.XFR_CHSTAT_STATE c) v
  l.irqLevel P.XFR 17 ((List.range 16).any fun k => l.chnState k == Chn.error)

/-- REQSEL of a fetched descriptor. -/
def reqselOf (d : List Word) : Nat := getBits (d.getD 4 0) 8 5

/-- A channel that is enabled on a running block starts: it resumes the descriptor in progress, or fetches (R423, R431).
The CRC of a descriptor in progress goes on; else there is no running value since the channel was enabled (R428). -/
def LaneState.chnStart (l : LaneState) (c : Nat) : LaneState :=
  match (l.xchan c).desc with
  | some d => l.setChn c (if reqselOf d = 0 ∨ (l.xchan c).cause ≠ 0 then Chn.active else Chn.waitReq)
  | none => (l.modX c fun q => { q with ran := false, kick := false }).setChn c Chn.fetch

/-- A write of CHCTRL (R423, R431). -/
def LaneState.chctrlWrite (l : LaneState) (c : Nat) (v : Word) : LaneState :=
  let old := l.get (F.XFR_CHCTRL_EN c)
  l.command (R.XFR_CHCTRL c) v fun l _ =>
    let new := l.get (F.XFR_CHCTRL_EN c)
    if old = 1 ∧ new = 0 then l.setChn c Chn.stopped
    else if old = 0 ∧ new = 1 ∧ l.get (F.run P.XFR) = 1 then l.chnStart c else l

/-- A write of CHKICK, which reads 0 (R423); one during a fetch is kept (R431). -/
def LaneState.chkickWrite (l : LaneState) (c : Nat) (v : Word) : LaneState :=
  l.command (R.XFR_CHKICK c) v fun l e =>
    let l := l.wr (R.XFR_CHKICK c) 0
    if !(e.getLsbD 0) then l
    else if l.chnState c = Chn.idle then l.setChn c Chn.fetch
    else if l.chnState c = Chn.fetch then l.modX c fun q => { q with kick := true } else l

/-- A write of CHRBASE or CHRLEN, which sets the channel's index to 0 (R432). -/
def LaneState.ringWrite (l : LaneState) (c a : Nat) (v : Word) : LaneState :=
  let held := l.rwsHeld a
  l.command a v fun l _ => if held then l else l.put (F.XFR_CHSTAT_IDX c) 0

/-- The block starts (R423): every index is 0, but for a descriptor in progress, and the enabled channels start. -/
def LaneState.xfrRun (l : LaneState) : LaneState :=
  (List.range 16).foldl (fun (l : LaneState) c =>
    let l := if (l.xchan c).desc.isSome then l else l.put (F.XFR_CHSTAT_IDX c) 0
    if l.get (F.XFR_CHCTRL_EN c) = 1 ∧ l.chnState c = Chn.stopped then l.chnStart c else l) l

/-- The block stops: every channel stops as by EN = 0 (R431); one in ERROR leaves it only by EN (R423). -/
def LaneState.xfrStop (l : LaneState) : LaneState :=
  (List.range 16).foldl (fun (l : LaneState) c =>
    if l.chnState c = Chn.stopped ∨ l.chnState c = Chn.error then l else l.setChn c Chn.stopped) l

def execChkick (x : Lane) (c : Fin 16) (v : Word) (s : State) : Host.Outcome State Fault Refusal :=
  onLane x (·.chkickWrite c.val v) s
def execChannelEnable (x : Lane) (c : Fin 16) (v : Word) (s : State) : Host.Outcome State Fault Refusal :=
  onLane x (·.chctrlWrite c.val v) s

/-- Whether the pacing request of a code is high (R427): latches for the SNS ports and the cycle points. -/
def LaneState.reqHigh (l : LaneState) (free r : Nat) : Bool :=
  if r = 1 then !l.feed.adc.fifo.isEmpty
  else if r = 6 ∨ r = 7 then !(l.can (r - 6)).fifo.isEmpty
  else if 8 ≤ r ∧ r ≤ 15 then l.gpioIn free / 2 ^ (r - 8) % 2 == 1
  else l.xfr.latch.contains r

/-- Whether channel `c` may act (R424). -/
def LaneState.chnReady (l : LaneState) (free c : Nat) : Bool :=
  l.get (F.run P.XFR) == 1 && l.get (F.XFR_CHCTRL_EN c) == 1 &&
  (match (l.xchan c).desc with
   | none => l.chnState c == Chn.fetch
   | some d => l.chnState c == Chn.active || (l.chnState c == Chn.waitReq && l.reqHigh free (reqselOf d)))

/-- XSTAT as it reads: a beat is issued while some channel may act (R432). -/
def LaneState.xstat (l : LaneState) (free : Nat) : Word :=
  let m := (List.range 16).foldl (fun n c => n + bit (l.chnReady free c) * 2 ^ c) 0
  setBits (setBits (l.rd R.XFR_XSTAT) 4 1 (bit (m ≠ 0))) 16 16 m

/-! ### Programming of the MRAM -/

/-- Whether the doubleword at MRAM offset `a` may not be programmed (R459, R460). -/
def LaneState.mramRefuses (l : LaneState) (a : Nat) : Bool :=
  let slot := l.slotBase
  (decide (0x1000 ≤ a ∧ a < 0x2000)) ||
  (l.get F.SYS_BOOTSTAT_SERVICE == 0 && decide (slot ≤ a ∧ a < slot + 0x700000)) ||
  (decide (a < 0x1000 ∧ a ≠ 0x80) && l.dword 0x0F8 != 0)

/-- A write of MPCMD (R460): the doubleword is programmed, KEYREV by OR once the key block is locked (R459). -/
def LaneState.mpcmdWrite (l : LaneState) (v : Word) : LaneState :=
  l.command R.SYS_MPCMD v fun l e =>
    if l.get F.SYS_MPSTAT_BUSY = 1 then l.put (F.ignWr P.SYS) 1
    else if getBits e 0 1 ≠ 1 ∨ getBits e 8 8 ≠ 0x96 then l
    else
      let a := l.get F.SYS_MPADDR_ADDR
      if l.mramRefuses a then l.put F.SYS_MPSTAT_RESULT 2
      else
        let d : DWord := l.rd R.SYS_MPDATA_H ++ l.rd R.SYS_MPDATA_L
        let d := if a = 0x80 ∧ l.dword 0x0F8 ≠ 0 then d ||| l.dword 0x80 else d
        (l.setDword a d).put F.SYS_MPSTAT_BUSY 1

/-- MRAM_PROGRAM (R460): a write of MPCMD. -/
def execMramProgram (x : Lane) (g : Agent) (v : Word) (s : State) : Host.Outcome State Fault Refusal :=
  onLane x (fun l => (l.mpcmdWrite v).respond g .done) s

/-- MRAM_PROGRAM_COMPLETE (R460). -/
def execMramProgramComplete (x : Lane) (s : State) : Host.Outcome State Fault Refusal :=
  onLane x (fun l =>
    if !l.alive ∨ l.get F.SYS_MPSTAT_BUSY = 0 then l
    else ((l.put F.SYS_MPSTAT_BUSY 0).put F.SYS_MPSTAT_RESULT 1).bump F.SYS_MPSTAT_COUNT 1) s

end Sys2Proof.Machine
end

