-- ==== Sys2Proof/Machine/Windows.lean ====
section
/-!
DEFINITION. The registers behind a lane's windows (spec/02_address_map_and_register_pages.md R68 to R76): the Bedrock
pages, the registers that the bridge die holds, and the interrupt controllers' files.
-/
namespace Sys2Proof.Machine
open Sys2Proof

/-! ### Bedrock window (R71) -/

/-- Registers of a Bedrock page that a lane has a copy of its own of: the BREQ mailbox and the interrupt registers. -/
def bedPerLane (a : Nat) : Bool :=
  pageOf a == 0x50005 || [0x010, 0x014, 0x018, 0x01C].contains (a % 0x1000)

/-- The present value of a register of the Bedrock window. -/
def State.peekBed (s : State) (x : Lane) (a : Nat) : Word :=
  if bedPerLane a then (s.lane x).rd a
  else if a = R.BSYS_BTIME_LO then BitVec.ofNat 32 s.bed.btime
  else if a = R.BSYS_BTIME_HI then BitVec.ofNat 32 (s.bed.btime / 2 ^ 32)
  else match (List.range 8).find? fun d => R.BLEASE_LSTAT d == a with
    | some d =>
      (((s.bed.put (F.diag .A d) (bit (s.selfDiag .A d))).put (F.diag .B d) (bit (s.selfDiag .B d))).put
        (F.BLEASE_LSTAT_LEFT d) (s.leaseLeft d)).rd a
    | none => s.bed.rd a

/-- A write that a Bedrock page held once takes: its own BLKSTAT, and the configuration fields while `load` (R71,
R465). -/
def State.bedShared (s : State) (a : Nat) (v : Word) (load : Bool) : State :=
  let b := pageOf a * 0x1000
  let r := s.bed.regs.write a v ⟨false, false, 0, 0, load⟩
  let s := s.modBed fun d => { d with regs := r.file }
  let s := if r.clamped = 0 then s
    else (s.irqLevelBoth b 31 true).bedRaise (getBits (s.bed.rd (b + 0x028)) 0 8)
  if a % 0x1000 = 0x00C ∧ getBits r.eff 2 1 = 1 then
    (s.modBed (·.put (F.clampCount b) 0)).irqLevelBoth b 31 false
  else s

/-- Whether a register of a Bedrock page has a field that a store may change at that instant (R71). -/
def bedWritable (a : Nat) (load : Bool) : Bool :=
  let o := a % 0x1000
  o == 0x00C || o == 0x018 || a == R.BREQ_REQDATA_0 || a == R.BREQ_REQDATA_1 || a == R.BREQ_REQCMD ||
    (load && decide (0x100 ≤ o) && (regFields a).any fun f => f.acc == .cfg)

/-- IGNWR of a Bedrock page; that of BREQ is the lane's own. -/
def State.bedIgnored (s : State) (x : Lane) (a : Nat) : State :=
  let b := pageOf a * 0x1000
  if pageOf a = 0x50005 then s.modLane x (·.put (F.ignWr b) 1) else s.bput (F.ignWr b) 1

/-- A store to the Bedrock window (R71, R73). -/
def State.writeBed (s : State) (x : Lane) (a : Nat) (v : Word) : State :=
  let load := decide (s.bed.grant = some x ∧ s.bed.get F.BSYS_BCFG_LOADED = 0)
  if !isRegister a then s
  else if !bedWritable a load then s.bedIgnored x a
  else if a = R.BREQ_REQCMD then s.reqcmdWrite x v
  else if bedPerLane a then (s.bedLaneWrite x a v).1
  else s.bedShared a v load

/-! ### Registers of the bridge die (R69, R70, R264 to R267) -/

/-- Header registers of a bridge-die page that each lane die holds (R69). -/
def brgPerLane (a : Nat) : Bool := [0x010, 0x014, 0x018, 0x01C].contains (a % 0x1000)

/-- A write of a lane's copy of a header register of a bridge-die page (R69, R70): a clamp is recorded in the page's
header in the bridge die, whose STATUS frame then shows CLAMPED to both lanes. -/
def State.brgCopyWrite (s : State) (x : Lane) (a : Nat) (v : Word) : State :=
  let b := pageOf a * 0x1000
  let old := (s.lane x).rd a
  let r := (s.lane x).regs.write a v ⟨false, false, 0, 0, false⟩
  let s := s.modLane x fun l => (l.wr a (r.file.rd a)).headerEffect a r.eff old
  if r.clamped = 0 then s
  else
    let s := s.modBrg fun d => { d with regs := d.regs.clampLog a v r.lsb r.clamped }
    let s := s.modLane x fun l => l.raise (getBits (l.rd (b + 0x028)) 0 8)
    s.statusCheck (if pageOf a = 0x60008 then 0 else pageOf a % 8)

/-- The bridge die's page of a frame: none for the common page (R68). -/
def brgPage (n : Nat) (offset : Half) : Option Nat := if offset.getLsbD 15 then none else some n
def brgBase (p : Option Nat) : Nat := match p with
  | none => P.BCOM
  | some n => P.BRG n

/-- Every bridge's rank and status, after a write to the page. -/
def State.brgSettle (s : State) (p : Option Nat) : State :=
  match p with
  | none => (s.rankAll).statusCheck 0
  | some n => s.rankUpdate n

/-- MPER changed: each PDIV is checked anew (R246); a clamp is logged in its page and raised in the writing lane. -/
def State.recheckPdiv (s : State) (x : Lane) : State :=
  (List.range 8).foldl (fun (s : State) n =>
    let r := s.brg.regs.recheck (R.BRG_BRGCFG n) ⟨0, 7, .rws, .dep .pdiv⟩
    if r.2 then (s.modBrg fun b => { b with regs := r.1 }).modLane x (·.raise (136 + 9 * n)) else s) s

/-- Registers of a bridge page that a soft reset leaves: latched faults, which no write clears (R258), their live causes, and
what Bedrock, the ball and the sensor give (R226, R244, R256); of the common page the strap and what the PLL and the SELECT
words give (R227, R267). -/
def brgKept (p : Option Nat) : List Fld :=
  match p with
  | none => [F.BCOM_TBSTAT_LOCK, F.BCOM_TBSTAT_ARMED, F.BCOM_TBSTAT_ORPHLAT, F.BCOM_TBSTAT_HMASK, F.BCOM_STRAPS_ORPH]
  | some n => [⟨R.BRG_FLTLAT n, 0, 32⟩, ⟨R.BRG_FLTCAUSE n, 0, 32⟩, F.BRG_BSTAT_BEN n, F.BRG_BSTAT_SEL n, F.BRG_BSTAT_ACT n,
      F.BRG_BSTAT_TERM n, F.BRG_BSTAT_TSTATE n, F.BRG_BSTAT_HOLDCNT n, F.BRG_BSTAT_TEMP n]

/-- Soft reset of a bridge-die page (R51, R52); the page's IRQRAW and IRQSTAT are those that each lane holds (R69). -/
def State.brgSoftReset (s : State) (p : Option Nat) : State :=
  let b := brgBase p
  let old := (brgKept p).map fun f => (f, s.brg.get f)
  let page := pageOf b
  let s := s.modLanes fun l => (l.wr (R.irqRaw b) 0).wr (R.irqStat b) 0
  let s := s.modBrg fun d => { d with regs := d.regs.clear fun a => pageOf a == page && decide (0x100 ≤ a % 0x1000) }
  let s := s.modBrg fun d => old.foldl (fun (d : BrgState) e => d.put e.1 e.2) d
  match p with
  | none => (s.modBrg fun d => { d with pcnt := 0, sampleK := 0 }).bcomIrq
  | some n =>
    s.modUnit n fun u => { BridgeUnit.reset with
      benLow := u.benLow, benOff := u.benOff, vbsLow := u.vbsLow, pins := u.pins, code := u.code, sent := u.sent }

/-- RWS fields of a bridge-die page are held while it runs (R53). -/
def BrgState.ctx (b : BrgState) (base : Nat) : WriteCtx :=
  ⟨b.get (F.locked base) ≠ 0, b.get (F.run base) ≠ 0 || b.get (F.running base) ≠ 0, 0, 0, false⟩

/-- A begun lock sequence of a bridge-die page is abandoned (R59). -/
def BrgState.abandonLock (b : BrgState) (a : Nat) : BrgState :=
  if b.lockSeq.contains (pageOf a) && isRegister a then
    { b with lockSeq := b.lockSeq.filter (· ≠ pageOf a) }.put (F.ignWr (pageOf a * 0x1000)) 1
  else b

/-- The bridge die applies a lane's write to a register it holds (R70); CONFIG is raised in the writing lane (R266). -/
def State.brgApply (s : State) (x : Lane) (p : Option Nat) (off : Nat) (v : Word) : State :=
  let b := brgBase p
  let a := b + off
  let config := getBits (s.brg.rd (b + 0x028)) 0 8
  if off = 0x02C then
    let r := lockKey s.brg.regs s.brg.lockSeq (pageOf b) v
    let s := s.modBrg fun d => { d with regs := r.1, lockSeq := r.2.1 }
    if r.2.2 then s.modLane x (·.raise config) else s
  else
    let s := s.modBrg (·.abandonLock a)
    let r := s.brg.regs.write a v (s.brg.ctx b)
    let s := s.modBrg fun d => { d with regs := r.file }
    let s := if r.clamped = 0 then s else s.modLane x (·.raise config)
    let s := if off = 0x00C ∧ getBits r.eff 2 1 = 1 then s.modBrg (·.put (F.clampCount b) 0) else s
    let s := if a = R.BCOM_MPER then s.recheckPdiv x else s
    let s :=
      if off = 0x008 then
        let s := match p with
          | some n => if s.brg.get (F.run b) = 1 then s.modBrg (·.put (F.running (P.BRG n)) 1) else s
          | none => s
        if getBits r.eff 1 1 = 1 then
          (if s.brg.get (F.locked b) = 1 then s.modBrg (·.put (F.ignWr b) 1) else s.brgSoftReset p)
        else s
      else s
    let s := match p with
      | some n =>
        if off = 0x124 then terminalRequest x n (r.eff.extractLsb' 0 16) s
        else if off = 0x120 then s.recode n
        else if off = 0x10C then s.modBrg (·.reshape n)
        else if off = 0x008 ∧ s.brg.get (F.run b) = 1 ∧ s.brg.get (F.BRG_FLTCAUSE_VBRUV n) = 1 then
          s.latchFault n (F.BRG_FLTLAT_VBRUV n) (F.BRG_FLTCAUSE_VBRUV n) 1
        else s
      | none => s
    s.brgSettle p

/-- A write that the boot sequencer of lane `x` sent fails its start-up when it sets CLAMPED, PARERR or IGNWR in its page
(R464): the lane as it stands, or with its start-up failed. -/
def State.bootWatch (s t : State) (x : Lane) (b : Nat) : State :=
  let marks := fun s : State => getBits (s.brg.rd (b + 0x00C)) 2 3
  if (s.lane x).power.boot = .load ∧ (List.range 3).any (fun i => maskBit (marks t) i && !maskBit (marks s) i) then
    t.modLane x fun l => { l with power := { l.power with boot := .failed 3 } }
  else t

/-- A write of lane `x` comes to a register that the bridge die holds (R68, R70): a refused write counts; one with a
parity error is refused whole (R63). -/
def State.brgArrive (s : State) (x : Lane) (n : Nat) (offset : Half) (data : Word) (parityOk : Bool) : State :=
  let p := brgPage n offset
  let b := brgBase p
  let off := offset.toNat % 0x1000
  s.bootWatch (
    if !s.brgAccepts x p then s.brgRefuse x b
    else if parityOk then s.brgApply x p off data
    else
      ((s.modBrg fun d => (d.abandonLock (b + off)).put (F.parErr b) 1).modLane x
        (·.raise (getBits (s.brg.rd (b + 0x028)) 0 8 + 1)))) x b

/-- Whether a bridge-link frame is the REG_WR or REG_RD frame of a page's register with this payload (R68). -/
def isRegFrame (typ n : Nat) (pay fr : List Half) : Bool :=
  let h := fr.headD 0
  blType h == typ && fr.dropLast.tail == pay && ((pay.headD 0).getLsbD 15 || blBridge h == n)

/-- The frames on the way to the bridge die when the first that `p` picks arrives. -/
def LaneState.takeDown (l : LaneState) (p : List Half → Bool) : LaneState :=
  { l with links := { l.links with blDown := dropThrough p l.links.blDown } }

/-- REG_WR_RECEIVED (R68, R70). -/
def execRegWrReceived (x : Lane) (n : Fin 8) (offset : Half) (data : Word) (parityOk : Bool) (s : State) :
    Host.Outcome State Fault Refusal :=
  let fr := isRegFrame 3 n.val [offset, data.extractLsb' 0 16, data.extractLsb' 16 16]
  done ((s.modLane x (·.takeDown fr)).brgArrive x n.val offset data parityOk)

/-- Whether a write of the lane has been posted and not yet come to the bridge die (R68). -/
def LaneState.writesWait (l : LaneState) : Bool := l.links.blDown.any fun fr => blType (fr.headD 0) == 3

/-- REG_RD_RECEIVED (R68): the bridge die answers with REG_RSP. While a write posted before the read has not come to the
bridge die, the read has not either. -/
def execRegRdReceived (x : Lane) (n : Fin 8) (offset : Half) (s : State) : Host.Outcome State Fault Refusal :=
  let fr := isRegFrame 4 n.val [offset]
  let wire := (s.lane x).links.blDown
  let w := s.brg.rd (brgBase (brgPage n.val offset) + offset.toNat % 0x1000)
  done (
    if wire.any fr && (wire.takeWhile fun f => !fr f).any (fun f => blType (f.headD 0) == 3) then s
    else (s.modLane x (·.takeDown fr)).sendUp x 10 n.val 0 [w.extractLsb' 0 16, w.extractLsb' 16 16])

/-! ### APLIC and IMSIC files (R67), in the layout of the RISC-V AIA -/

/-- What a register of the APLIC reads as. -/
def LaneState.aplicRead (l : LaneState) (a : Nat) : Word :=
  let o := a - 0x2C000000
  let word := fun p : Nat → Bool => BitVec.ofNat 32 ((List.range 32).foldl (fun n i => n + bit (p i) * 2 ^ i) 0)
  if o = 0 then 0x80000004 ||| (l.rd R.APLIC_DOMAINCFG &&& 0x100)
  else if o = 0x1BC4 then 0x80000000
  else if o = 0x1C00 then l.rd R.APLIC_SETIP
  else if o = 0x1D00 then word fun i => l.aplicActive i &&
    (let sm := getBits (l.rd (R.APLIC_SOURCECFG i)) 0 3
     if sm = 5 ∨ sm = 7 then !l.aplicIn.contains i else decide (4 ≤ sm) && l.aplicIn.contains i)
  else if o = 0x1E00 then l.rd R.APLIC_SETIE
  else if 4 ≤ o ∧ o ≤ 4 * 22 ∨ 0x3004 ≤ o ∧ o ≤ 0x3000 + 4 * 22 then l.rd a
  else 0

/-- Source `i` becomes pending by software: a level source only while its input is active. -/
def LaneState.aplicSetIp (l : LaneState) (i : Nat) : LaneState :=
  let sm := getBits (l.rd (R.APLIC_SOURCECFG i)) 0 3
  let on := l.aplicIn.contains i
  if !l.aplicActive i ∨ (sm = 6 ∧ !on) ∨ (sm = 7 ∧ on) then l else l.aplicPend i

/-- Source `i`'s pending and enable bits. -/
def LaneState.aplicClear (l : LaneState) (r i : Nat) : LaneState := l.wr r (l.rd r &&& ~~~(mbit i))
def LaneState.aplicEnable (l : LaneState) (i : Nat) : LaneState :=
  if l.aplicActive i then (l.wr R.APLIC_SETIE (l.rd R.APLIC_SETIE ||| mbit i)).aplicForward i else l

/-- Bits of a word as source numbers. -/
def bitsOf (v : Word) : List Nat := (List.range 32).filter fun i => v.getLsbD i

/-- A write of a register of the APLIC. -/
def LaneState.aplicWrite (l : LaneState) (a : Nat) (v : Word) : LaneState :=
  let o := a - 0x2C000000
  let src := v.toNat
  let one := fun f : LaneState → Nat → LaneState => if 1 ≤ src ∧ src ≤ 22 then f l src else l
  if o = 0 then
    let l := l.wr R.APLIC_DOMAINCFG (v &&& 0x100)
    (List.range 23).foldl LaneState.aplicForward l
  else if 4 ≤ o ∧ o ≤ 4 * 22 then
    let i := o / 4
    let sm := getBits v 0 3
    let sm := if v.getLsbD 10 || sm == 2 || sm == 3 then 0 else sm
    let l := l.wr a (BitVec.ofNat 32 sm)
    let l := if sm = 0 then ((l.aplicClear R.APLIC_SETIP i).aplicClear R.APLIC_SETIE i).wr (R.APLIC_TARGET i) 0 else l
    let on := l.aplicIn.contains i
    if (sm = 6 ∧ on) ∨ (sm = 7 ∧ !on) then l.aplicPend i else l
  else if o = 0x1C00 then (bitsOf v).foldl LaneState.aplicSetIp l
  else if o = 0x1CDC ∨ o = 0x2000 then one LaneState.aplicSetIp
  else if o = 0x1D00 then (bitsOf v).foldl (fun (l : LaneState) i => l.aplicClear R.APLIC_SETIP i) l
  else if o = 0x1DDC then one fun l i => l.aplicClear R.APLIC_SETIP i
  else if o = 0x1E00 then (bitsOf v).foldl LaneState.aplicEnable l
  else if o = 0x1EDC then one LaneState.aplicEnable
  else if o = 0x1F00 then (bitsOf v).foldl (fun (l : LaneState) i => l.aplicClear R.APLIC_SETIE i) l
  else if o = 0x1FDC then one fun l i => l.aplicClear R.APLIC_SETIE i
  else if o = 0x3000 then
    if getBits v 0 8 = 0 then l
    else { l with msgs := l.msgs ++ [⟨0x2C000, getBits v 18 2 + 0x10 * l.id.num, getBits v 0 8⟩] }
  else if 0x3004 ≤ o ∧ o ≤ 0x3000 + 4 * 22 then
    let i := (o - 0x3000) / 4
    if l.aplicActive i then (l.wr a (v &&& 0x000C00FF)).aplicForward i else l
  else l

end Sys2Proof.Machine
end

