-- ==== Sys2Proof/Machine/Bus.lean ====
section
/-!
DEFINITION. The bus of a lane (spec/02_address_map_and_register_pages.md R46 to R64): what every register reads as, what a
write of it does, run control (R51 to R53), and accesses by address.
-/
namespace Sys2Proof.Machine
open Sys2Proof

/-! ### Reading registers -/

/-- The instance of a register of `n` instances that lies at `a`. -/
def instAt (n : Nat) (f : Nat → Nat) (a : Nat) : Option Nat := (List.range n).find? fun k => f k == a

/-- A half of a 64-bit value. -/
def halfOf (v : Nat) (high : Bool) : Word := BitVec.ofNat 32 (if high then v / 2 ^ 32 else v)

/-- A register whose read removes or clears what it returns (R12), with the value read. -/
def LaneState.clearingRead (l : LaneState) (a : Nat) : Option (LaneState × Word) :=
  let p := pageOf a
  if p = 0x40012 ∨ p = 0x40013 then (instAt 16 R.FBKCH_CHEVT a).map l.chevtRead
  else if p = 0x40014 then (instAt 4 R.SNS_PEVT a).map l.pevtRead
  else if a = R.ADC_ADCFIFO then some l.adcfifoRead
  else if p = 0x40020 then
    if a = R.STR_SAFEQ then some l.safeqRead else (instAt 2 R.STR_RXQ a).map l.rxqRead
  else none

/-- The register that holds a Strata buffer word: a SAFE entry of port Y shows the buffer of port X (R327). -/
def LaneState.bufferHome (l : LaneState) (a : Nat) : Nat :=
  let p := pageOf a
  if (p = 0x40024 ∨ p = 0x40025) ∧ 0x100 ≤ a % 0x1000 then
    let n := (p - 0x40024) * 32 + (a % 0x1000 - 0x100) / 0x40
    let h := l.txHome 1 n
    R.buf h.1 h.2 0 + (a - R.buf 1 n 0)
  else a

/-- What a register of a lane page reads as at this instant, without side effects. Values that advance with a clock the
model does not count are free. -/
def State.peekReg (s : State) (x : Lane) (a : Nat) : Word :=
  let l := s.lane x
  let p := pageOf a
  let w := l.rd a
  if p = 0x40003 then
    if a = R.FLT_TIME_LO then halfOf (l.time s.nowUs) false
    else if a = R.FLT_TIME_HI then halfOf (l.time s.nowUs) true else w
  else if p = 0x40002 then
    let c := (s.nowUs - l.power.crustBase) * 32768 / 1000000
    if a = R.PWR_CRCNT_LO then halfOf c false else if a = R.PWR_CRCNT_HI then halfOf c true else w
  else if a = R.PLC_STAT then (l.regs.put F.PLC_STAT_MODE (s.sieveMode x)).rd a
  else if a = R.LE_FRAMESTAT then
    if l.loop.framing then
      setBits w 0 20 (min (l.get F.LE_FRAMECFG_FRAME - 1) (800 * (s.nowUs - l.loop.frameAt) + s.free.toNat % 800))
    else w
  else if p = 0x40012 ∨ p = 0x40013 then
    match instAt 16 R.FBKCH_STATE a with
    | some k => l.stateRead k s.freeCtr 1
    | none => w
  else if a = R.ADC_ADCFIFO ∨ a = R.STR_SAFEQ then ((l.clearingRead a).map (·.2)).getD w
  else if p = 0x40020 then
    match instAt 2 R.STR_MTCNT a with
    | some q => if l.inCycle q then BitVec.ofNat 32 (l.macrotick q s.nowUs) else w
    | none => ((l.clearingRead a).map (·.2)).getD w
  else if p = 0x40030 ∨ p = 0x40031 then
    let n := p - 0x40030
    if a = R.CAN_TSCNT n then BitVec.ofNat 32 (l.tscnt n s.nowUs 0)
    else match instAt 18 (R.CAN_RXHEAD n) a with
      | some i => l.rxHead n i
      | none => w
  else if a = R.ETH_PTPNS then l.ptpNs (ethTick s.nowUs 0)
  else if a = R.ETH_PTPSEC then l.ptpSec (ethTick s.nowUs 0)
  else if a = R.GPIO_GIN then BitVec.ofNat 32 (l.gpioIn s.freeCtr)
  else if a = R.XFR_XSTAT then l.xstat s.freeCtr
  else if p = 0x40040 then
    match instAt 4 R.PMU_SMPREC a with
    | some i => l.smprec i
    | none => w
  else l.rd (l.bufferHome a)

/-- The low words of 64-bit counters of the lane pages and of the Bedrock window (R61). -/
def counterLow (a : Nat) : Bool :=
  a == R.LE_FN_LO || a == R.FLT_TIME_LO || a == R.XFR_XBYTES_LO || a == R.PWR_CRCNT_LO || a == R.BSYS_BTIME_LO ||
    a == R.ETH_PTPNS || (instAt 32 R.LE_SETPT_LO a).isSome || (instAt 4 R.CKP_CKSN_LO a).isSome

/-- Those that a write sets (R62, R350). -/
def counterWritable (a : Nat) : Bool := a == R.ETH_PTPNS || (instAt 32 R.LE_SETPT_LO a).isSome

/-- The key of an agent's shadow of a counter (R61). -/
def shadowKey (g : Agent) (a : Nat) : Nat := 8 * a + agentNum g

def LaneState.readShadow (l : LaneState) (g : Agent) (a : Nat) : Option Word :=
  Table.get (fun _ => none) l.shadowR (shadowKey g a)
def LaneState.setReadShadow (l : LaneState) (g : Agent) (a : Nat) (w : Word) : LaneState :=
  { l with shadowR := Table.set (fun _ => none) l.shadowR (shadowKey g a) (some w) }
def LaneState.writeShadow (l : LaneState) (g : Agent) (a : Nat) : Word :=
  (Table.get (fun _ => none) l.shadowW (shadowKey g a)).getD 0
def LaneState.setWriteShadow (l : LaneState) (g : Agent) (a : Nat) (w : Word) : LaneState :=
  { l with shadowW := Table.set (fun _ => none) l.shadowW (shadowKey g a) (some w) }

/-- A 32-bit read of a counter's word, `peek` giving what each register reads as (R61). -/
def LaneState.counterRead (l : LaneState) (g : Agent) (a : Nat) (peek : Nat → Word) : LaneState × Word :=
  if counterLow a then (l.setReadShadow g a (peek (a + 4)), peek a)
  else if 4 ≤ a ∧ counterLow (a - 4) then (l, (l.readShadow g (a - 4)).getD (peek a))
  else (l, peek a)

/-- One 32-bit read of a lane register by an agent. -/
def State.readReg (s : State) (x : Lane) (g : Agent) (a : Nat) : State × Word :=
  match (s.lane x).clearingRead a with
  | some r => (s.setLane x r.1, r.2)
  | none =>
    let r := (s.lane x).counterRead g a (s.peekReg x)
    (s.setLane x r.1, r.2)

/-! ### Run control (R51 to R53) -/

/-- The pages whose blocks always run: RUN has no effect on them. -/
def alwaysRuns (page : Nat) : Bool := ((pageInfo (page * 0x1000)).map (·.always)).getD false

/-- The soft reset of a block's internal state at µs `now` (R51). -/
def LaneState.blockInit (l : LaneState) (page now : Nat) : LaneState :=
  match page with
  | 0x40002 => { l with power := { l.power with entry := 0, parkReady := false } }
  | 0x40003 =>
    let l := { l with col := { Collector.reset with broken := l.col.broken }, fences := [] }
    (List.range 48).foldl (fun (l : LaneState) k => l.put (F.LESLOT_SLOTSTAT_FENCED k) 0) l
  | 0x40004 => { l with sieve := .reset }
  | 0x40008 => { l with loop := .reset }
  | 0x4000C =>
    let k := l.links
    let l := { l with links := { Links.reset with llWire := k.llWire, blUp := k.blUp, blDown := k.blDown } }
    (l.setLive 50 false 0).setLive 51 false 0
  | 0x4000D => (List.range 4).foldl (fun (l : LaneState) p =>
      let q := l.pair p
      let l := l.modPair p fun q => { q with ckptReq := false, log := [], logPos := 0, replay := false }
      if q.haltReq || q.przReq then l.ckptRequest p else l) l
  | 0x40010 => { l with xfr := .reset }
  | 0x40011 => { l with feed := { l.feed with outs := [] } }
  | 0x40012 => { l with feed := { l.feed with chans := l.feed.chans.filter fun e => 8 ≤ e.1 } }
  | 0x40013 => { l with feed := { l.feed with chans := l.feed.chans.filter fun e => e.1 < 8 } }
  | 0x40014 => { l with feed := { l.feed with ports := [] } }
  | 0x40015 => { l with feed := { l.feed with adc := .reset } }
  | 0x40020 => { l with strata := .reset }
  | 0x40030 => { l with ports := { l.ports with can0 := { CanState.reset with zero := now } } }
  | 0x40031 => { l with ports := { l.ports with can1 := { CanState.reset with zero := now } } }
  | 0x40032 => { l with ports := { l.ports with eth := { EthState.reset with tick := ethTick now 0 } } }
  | 0x40033 => { l with ports := { l.ports with hspi := .reset } }
  | 0x40034 => { l with ports := { l.ports with wakeOut := none } }
  | 0x40040 => { l with pmu := .reset }
  | _ => l

/-- What a soft reset of a page leaves in registers from 0x100 upward, because it shows what is outside the block: the causes
that last and the wires that are broken (R394, R395), and pairs that are fenced or halted (R103, R104). -/
def LaneState.softKept (l : LaneState) (page : Nat) : List (Fld × Nat) :=
  let keep := fun f : Fld => (f, l.get f)
  match page with
  | 0x40003 => keep F.FLT_WIRESTAT_NOW :: (List.range 256).flatMap fun k =>
      [keep (F.FLT_SSTAT_LIVE k), keep (F.liveBit k), keep (F.FLT_SSTAT_MASKED k)]
  | 0x4000D => ((List.range 4).map fun p => keep (F.CKP_PAIRSTAT_STATE p)).filter fun e =>
      e.2 == PState.fenced || e.2 == PState.halted
  | _ => []

/-- A soft reset of a lane page (R51, R52): its registers from 0x100 upward with their active copy, IRQRAW, IRQSTAT and
the block's internal state; on a locked page it is ignored. -/
def LaneState.softReset (l : LaneState) (page now : Nat) : LaneState :=
  let b := page * 0x1000
  if l.get (F.locked b) = 1 then l.put (F.ignWr b) 1
  else
    let l := if page = 0x40020 then (l.portDrop 0).portDrop 1 else l
    let own := fun a : Nat => pageOf a == page && decide (0x100 ≤ a % 0x1000)
    let kept := l.softKept page
    let l := { l with regs := l.regs.clear own, active := l.active.clear own }
    let l := (l.wr (R.irqRaw b) 0).wr (R.irqStat b) 0
    let l := { l with shadowR := l.shadowR.filter (fun e => !own (e.1 / 8)), shadowW := l.shadowW.filter (fun e => !own (e.1 / 8)) }
    kept.foldl (fun (l : LaneState) e => l.put e.1 e.2) (l.blockInit page now)

/-- A block starts (R51). -/
def LaneState.blockStart (l : LaneState) (page : Nat) : LaneState :=
  let b := page * 0x1000
  if page = 0x40008 then l.leRun
  else if l.get (F.running b) = 1 then
    match page with
    | 0x40010 => l.xfrRun
    | 0x40030 => l.canRestart 0
    | 0x40031 => l.canRestart 1
    | _ => l
  else
    let l := l.put (F.running b) 1
    match page with
    | 0x40004 => l.placeBuffers true
    | 0x40010 => l.xfrRun
    | 0x40012 => l.windowsRestart 0
    | 0x40013 => l.windowsRestart 1
    | 0x40015 => l.adcRun
    | 0x40030 => l.canRun 0
    | 0x40031 => l.canRun 1
    | 0x40032 => l.ethRun
    | _ => l

/-- A stop is requested (R53): GPIO follows at once (R359), the transfer engine's channels stop (R431), feedback
quantities no longer update (R280). -/
def LaneState.blockStopAsked (l : LaneState) (page now : Nat) : LaneState :=
  match page with
  | 0x40010 => l.xfrStop
  | 0x40012 => (List.range 8).foldl (fun (l : LaneState) k => l.fbkFreeze k now) l
  | 0x40013 => (List.range 8).foldl (fun (l : LaneState) k => l.fbkFreeze (8 + k) now) l
  | 0x40035 => l.put (F.running P.GPIO) 0
  | _ => l

/-- A write of BLKCTRL of a lane page (R51 to R53). -/
def LaneState.blkctrlWrite (l : LaneState) (page now : Nat) (v : Word) : LaneState :=
  let b := page * 0x1000
  let old := l.get (F.run b)
  let frozen := if old = 1 ∧ getBits v 0 1 = 0 ∧ !l.blockFenced b ∧ l.alive then l.blockStopAsked page now else l
  frozen.command (R.blkctrl b) v fun l e =>
    let l := if alwaysRuns page then l
      else if l.get (F.run b) = 1 ∧ (old = 0 ∨ page = 0x40008) then l.blockStart page else l
    if getBits e 1 1 = 1 then l.softReset page now else l

/-- The stop of a block completes at its stop point (R53): Sieve at no run, the converter between conversions, the
transfer engine with every channel stopped. -/
def LaneState.blockStopped (l : LaneState) (page : Nat) : LaneState :=
  let b := page * 0x1000
  if !l.alive ∨ alwaysRuns page ∨ l.get (F.run b) = 1 ∨ l.get (F.running b) = 0 then l
  else
    let off := fun l : LaneState => l.put (F.running b) 0
    match page with
    | 0x40004 => if l.sieve.run.isSome then l else off l
    | 0x40008 => l.frameStop
    | 0x40010 => if (List.range 16).all (fun c => l.chnState c == Chn.stopped) then off l else l
    | 0x40015 => if l.feed.adc.scan.isEmpty then l.adcStop.adcShow else l
    | 0x40020 => if l.portState 0 = 0 ∧ l.portState 1 = 0 then off l else l
    | 0x40030 => off (l.modCan 0 fun c => { c with joined := false })
    | 0x40031 => off (l.modCan 1 fun c => { c with joined := false })
    | _ => if (pageInfo b).isSome && decide (page < 0x50000) then off l else l

/-- BLOCK_STOP_COMPLETE (R53, R143, R264, R267): a lane page, or a page of the bridge die at its boundary. -/
def execBlockStopComplete (x : Lane) (page : Nat) (s : State) : Host.Outcome State Fault Refusal :=
  done (
    if 0x60000 ≤ page ∧ page ≤ 0x60008 then
      let b := page * 0x1000
      if s.brg.get (F.run b) = 0 ∧ s.brg.get (F.running b) = 1 then
        (s.modBrg (·.put (F.running b) 0)).brgSettle (if page = 0x60008 then none else some (page - 0x60000))
      else s
    else s.modLane x (·.blockStopped page))

/-! ### Writing registers -/

/-- A write of the low word of a writable counter sets both halves (R62): SETPT_k is then updated (R155); the fraction
of the PTP clock at that instant is not stated. -/
def State.counterWrite (s : State) (x : Lane) (a : Nat) (lo hi : Word) : State :=
  let fenced := (s.lane x).blockFenced a
  let s := s.modLane x fun l => (l.command a lo fun l _ => l).command (a + 4) hi fun l _ => l
  if !(s.lane x).alive ∨ fenced then s
  else match instAt 32 R.LE_SETPT_LO a with
    | some k => s.modLane x (·.srcUpdate (srcKey 6 k 0) (hi ++ lo) s.nowUs)
    | none =>
      let f := s.free.toNat % 2 ^ 24
      (s.modLane x fun l => l.modEth fun e => { e with frac := f, tick := ethTick s.nowUs 0 }).freeNext

/-- A plain register write with what the block does of it. -/
def LaneState.plainWrite (l : LaneState) (a : Nat) (v : Word) (f : LaneState → LaneState) : LaneState :=
  l.command a v fun l _ => f l

/-- A write of a register of a lane page by its block at µs `now`, with a free value. -/
def LaneState.blockWrite (l : LaneState) (a now : Nat) (free : DWord) (v : Word) : LaneState :=
  let same := fun l : LaneState => l
  let plain := l.plainWrite a v same
  match pageOf a with
  | 0x40000 => if a = R.SYS_MPCMD then l.mpcmdWrite v else plain
  | 0x40001 => if a = R.CLK_CORECLK then l.fselWrite v else plain
  | 0x40002 =>
    if a = R.PWR_COREV then l.vselWrite v
    else if a = R.PWR_LOSTBANK_L then l.lostbankWrite false v
    else if a = R.PWR_LOSTBANK_H then l.lostbankWrite true v
    else if a = R.PWR_WAKESTAT then l.wakestatWrite v else plain
  | 0x40003 => if a = R.FLT_CLRCMD then l.clrcmdWrite v else plain
  | 0x40004 => if a = R.PLC_CMD then l.plcCmdWrite v else plain
  | 0x40008 =>
    match instAt 4 R.LE_TRKCFG a with
    | some k => l.trkcfgWrite k v
    | none => match instAt 4 R.LE_TRKACK a with
      | some k => l.trkackWrite k v
      | none => plain
  | 0x4000D => if a = R.CKP_PAIRCMD then l.paircmdWrite v else plain
  | 0x40010 =>
    match instAt 16 R.XFR_CHCTRL a with
    | some c => l.chctrlWrite c v
    | none => match instAt 16 R.XFR_CHKICK a with
      | some c => l.chkickWrite c v
      | none => match instAt 16 R.XFR_CHRBASE a with
        | some c => l.ringWrite c a v
        | none => match instAt 16 R.XFR_CHRLEN a with
          | some c => l.ringWrite c a v
          | none => plain
  | 0x40011 =>
    match instAt 4 R.FBK_OUTCFG a with
    | some j => l.plainWrite a v (·.outcfgEffect j)
    | none => plain
  | 0x40012 | 0x40013 =>
    match instAt 16 R.FBKCH_CHCFG a with
    | some k => l.chanCfgWrite k 0 v
    | none => match instAt 16 R.FBKCH_CPR a with
      | some k => l.chanCfgWrite k 1 v
      | none => match instAt 16 R.FBKCH_TOOTHCFG a with
        | some k => l.chanCfgWrite k 2 v
        | none => match instAt 16 R.FBKCH_CHIEN a with
          | some k => l.plainWrite a v (·.chEvtIrq k)
          | none => plain
  | 0x40014 =>
    match instAt 4 R.SNS_PIEN a with
    | some p => l.plainWrite a v (·.portEvtIrq p)
    | none => plain
  | 0x40015 =>
    if a = R.ADC_ADCSTART then l.adcstartWrite v
    else if a = R.ADC_ADCCFG then l.plainWrite a v (·.adcShow) else plain
  | 0x40020 =>
    match instAt 2 R.STR_PCTL a with
    | some p => l.pctlWrite p v
    | none => match instAt 4 (fun k => R.STR_TXRDY_XL + 4 * k) a with
      | some k => l.txrdyWrite k v
      | none => plain
  | 0x40030 | 0x40031 =>
    let n := pageOf a - 0x40030
    if a = R.CAN_TXREQ n then l.txreqWrite n 0 v
    else if a = R.CAN_TXABORT n then l.txabortWrite n (l.canOnBus n free) v
    else if a = R.CAN_RXPOP n then l.rxpopWrite n v else plain
  | 0x40032 =>
    if a = R.ETH_TXPOLL then l.txpollWrite v
    else if a = R.ETH_PTPINCR then l.ptpincrWrite (ethTick now 0) v
    else if a = R.ETH_PTPADJ then l.ptpadjWrite (ethTick now 0) false v else plain
  | 0x40034 => if a = R.WAKE_WSTAT then l.plainWrite a v (·.wstatIrq) else plain
  | 0x40035 =>
    if a = R.GPIO_GOUTSET then l.goutsetWrite v
    else if a = R.GPIO_GOUTCLR then l.goutclrWrite v
    else if a = R.GPIO_GEVT then l.plainWrite a v (·.gevtIrq) else plain
  | 0x40040 =>
    if a = R.PMU_SMPCTL then l.smpctlWrite v
    else if a = R.PMU_SMPACK then l.smpackWrite v
    else match instAt 4 R.PMU_HISTCLR a with
      | some u => l.histclrWrite u v
      | none => plain
  | _ => l.plainWrite (l.bufferHome a) v same

/-- One 32-bit write of a lane register by an agent, its parity good. -/
def State.writeReg (s : State) (x : Lane) (g : Agent) (a : Nat) (v : Word) : State :=
  let page := pageOf a
  let now := s.nowUs
  if a % 0x1000 = 0x008 then s.modLane x (·.blkctrlWrite page now v)
  else if a % 0x1000 = 0x02C then
    s.modLane x fun l => if l.blockFenced a then l.put (F.ignWr (page * 0x1000)) 1 else l.lockKeyWrite page v
  else if a % 0x1000 < 0x100 then s.modLane x (·.plainWrite a v fun l => l)
  else if a = R.SYS_SDEMAND then sdemandWrite x v true s
  else if a = R.PWR_PSREQ then s.psreqWrite x g v
  else if a = R.PWR_RSTCMD then s.rstcmdWrite x v
  else if a = R.PWR_PEERWAKE then s.peerwakeWrite x v
  else if counterWritable a then s.counterWrite x a v ((s.lane x).writeShadow g a)
  else if 4 ≤ a ∧ counterWritable (a - 4) then
    s.modLane x fun l => if l.blockFenced a then l.put (F.ignWr (page * 0x1000)) 1 else (l.abandonLock a).setWriteShadow g (a - 4) v
  else
    let free := s.free
    let s := if page = 0x40030 ∨ page = 0x40031 then s.freeNext else s
    let s := s.modLane x (·.blockWrite a now free v)
    if page = 0x40003 then s.capUpdate else s

/-! ### Accesses by address -/

/-- A write to the loop-engine memories stores the parity it carries, `bad` naming the bytes whose parity is wrong (R118). -/
def LaneState.leWrite (l : LaneState) (a n v : Nat) (bad : Byte) : LaneState :=
  let l := l.engStore a n v
  { l with badPar := (List.range n).foldl (fun bs i => if bad.getLsbD i then insertNat (a + i) bs else bs) l.badPar }

/-- A store at a lane address (R46, R48, R63), with the bytes whose parity is wrong; what it returns. The peer window takes none (R75). -/
def State.busWrite (s : State) (x : Lane) (g : Agent) (a size : Nat) (v : DWord) (bad : Byte) : State × Resp :=
  let parityOk := !(List.range size).any fun i => bad.getLsbD i
  let lo : Word := v.extractLsb' 0 32
  let hi : Word := v.extractLsb' 32 32
  let l := s.lane x
  let err := (s, Resp.error)
  if !l.alive then err
  else match regionOf x a with
  | .sram =>
    if ([1, 2, 4, 8].contains size) && inSram (a + size - 1) then (s.modLane x (·.dmaStore a size v.toNat), .done) else err
  | .le _ =>
    if aligned a size && decide (4 ≤ size) then (s.modLane x (·.leWrite a size v.toNat bad), .done) else err
  | .imsic h =>
    if aligned a size && size == 4 then
      ((if a % 0x1000 = 0 ∧ lo.toNat < 256 then s.modLane x (·.imsicPost h lo.toNat) else s), .done)
    else err
  | .aplic => if aligned a size && size == 4 then (s.modLane x (·.aplicWrite a lo), .done) else err
  | .lanePage =>
    if !aligned a size || decide (size < 4) then err
    else if !parityOk then (s.modLane x (·.writeRefused a), .done)
    else if size = 4 then (s.writeReg x g a lo, .done)
    else if counterWritable a then (s.counterWrite x a lo hi, .done)
    else if a = R.CAN_TXREQ 0 ∨ a = R.CAN_TXREQ 1 then
      let n := pageOf a - 0x40030
      let free := s.free
      ((s.modLane x fun l => (l.txreqWrite n hi.toNat lo).txabortWrite n (l.canOnBus n free) hi).freeNext, .done)
    else ((s.writeReg x g a lo).writeReg x g (a + 4) hi, .done)
  | .bedWin =>
    if !aligned a size || size != 4 || !s.bedrockRuns then err
    else if !parityOk then
      let b := pageOf a * 0x1000
      ((if pageOf a = 0x50005 then s.modLane x (·.put (F.parErr b) 1) else s.bput (F.parErr b) 1).bedRaise
        (getBits (s.bed.rd (b + 0x028)) 0 8 + 1), .done)
    else (s.writeBed x a lo, .done)
  | .brgWin =>
    if !aligned a size || size != 4 then err
    else if brgPerLane a then
      let b := pageOf a * 0x1000
      ((if parityOk then s.brgCopyWrite x a lo
        else (s.modBrg (·.put (F.parErr b) 1)).modLane x fun l => l.raise (getBits (l.rd (b + 0x028)) 0 8 + 1)), .done)
    else
      let off := a % 0x1000 + if pageOf a = 0x60008 then 0x8000 else 0
      (if parityOk then s.modLane x (·.postBridge (pageOf a % 8) off lo)
        else if !l.blUp then s
        else s.brgArrive x (pageOf a % 8) (BitVec.ofNat 16 off) lo false, .done)
  | _ => err

/-- Whether a register of a fenced block's page answers no read (R405). -/
def LaneState.fencedRead (l : LaneState) (a : Nat) : Bool := l.blockFenced a && decide (0x100 ≤ a % 0x1000)

/-- The address in the peer lane that a peer-window address reaches (R75). -/
def peerAddress (a : Nat) : Option Nat :=
  if 0x70000000 ≤ a ∧ a < 0x71000000 then some (a - 0x70000000)
  else if 0x74000000 ≤ a ∧ a < 0x78000000 then some (a - 0x74000000 + 0x10000000)
  else if 0x78000000 ≤ a ∧ a < 0x78048000 then some (a - 0x78000000 + 0x20000000)
  else if 0x7C000000 ≤ a ∧ a < 0x7C051000 then some (a - 0x7C000000 + 0x40000000)
  else none

/-- A read in the bridge-die window (R68): the request goes out and the read waits; a down link answers with an error. -/
def LaneState.brgReadPost (l : LaneState) (g : Agent) (a : Nat) : LaneState × Resp :=
  if !l.blUp then (l, .error)
  else
    let l := l.sendDown 4 (pageOf a % 8) 0 [BitVec.ofNat 16 (a % 0x1000 + if pageOf a = 0x60008 then 0x8000 else 0)]
    ({ l with links := { l.links with pendRd := l.links.pendRd ++ [(g, ⟨a, 4, none⟩)] } }, .waiting)

/-- A read in the peer window (R75): PEER_RD_REQ goes out under a fresh tag. -/
def LaneState.peerReadPost (l : LaneState) (g : Agent) (a size : Nat) : LaneState × Resp :=
  match peerAddress a with
  | none => (l, .error)
  | some t =>
    if !aligned a size || decide (size < 4) || (peerAddress (a + size - 1)).isNone || !l.llUp then (l, .error)
    else
      let tag := l.links.peerTag
      let l := l.llReady 3 (BitVec.ofNat 16 tag) [BitVec.ofNat 32 t, 0, BitVec.ofNat 32 (size / 4)]
      ({ l with links := { l.links with
          peerTag := (tag + 1) % 2 ^ 15, peerPend := l.links.peerPend ++ [(tag, g, ⟨a, size, none⟩)] } }, .waiting)

/-- A load at a lane address (R46, R48, R61, R118); one from a line held with U = 1 waits for the checkpoint it forces
(R95), and is made again. -/
def State.busRead (s : State) (x : Lane) (g : Agent) (a size : Nat) : State × Resp :=
  let l := s.lane x
  let err := (s, Resp.error)
  let ok := fun (s : State) (v : Nat) => (s.freeNext, Resp.data (BitVec.ofNat 64 v))
  if !l.alive then err
  else match regionOf x a with
  | .mram => if [1, 2, 4, 8].contains size && decide (a + size ≤ 0x01000000) then ok s (l.load a size) else err
  | .sram =>
    if !([1, 2, 4, 8].contains size) || !inSram (a + size - 1) then err
    else if l.heldU a size then (s.modLane x (·.snoopAll a size), .waiting)
    else ok s (l.dmaLoad a size)
  | .le _ =>
    if !aligned a size || decide (size < 4) then err
    else if l.broken a size then (s.modLane x (·.raiseAt 37 48), .error)
    else ok s (l.load a size)
  | .imsic _ => if aligned a size && size == 4 then ok s 0 else err
  | .aplic => if aligned a size && size == 4 then ok s (l.aplicRead a).toNat else err
  | .lanePage =>
    if !aligned a size || decide (size < 4) || l.fencedRead a then err
    else if size = 4 then
      let r := s.readReg x g a
      ok r.1 r.2.toNat
    else if counterLow a then ok s ((s.peekReg x a).toNat + (s.peekReg x (a + 4)).toNat * 2 ^ 32)
    else
      let r := s.readReg x g a
      let t := r.1.readReg x g (a + 4)
      ok t.1 (r.2.toNat + t.2.toNat * 2 ^ 32)
  | .bedWin =>
    if !aligned a size || size != 4 || !s.bedrockRuns then err
    else
      let r := l.counterRead g a (s.peekBed x)
      ok (s.setLane x r.1) r.2.toNat
  | .brgWin =>
    if !aligned a size || size != 4 then err
    else if brgPerLane a then ok s (l.rd a).toNat
    else
      let r := l.brgReadPost g a
      (s.setLane x r.1, r.2)
  | .peerWin =>
    let r := l.peerReadPost g a size
    (s.setLane x r.1, r.2)
  | .none => err

/-- An access by address. -/
def State.bus (s : State) (x : Lane) (g : Agent) (a : Access) (bad : Byte) : State × Resp :=
  match a.wdata with
  | some v => s.busWrite x g a.addr a.size v bad
  | none => s.busRead x g a.addr a.size

end Sys2Proof.Machine
end

