-- ==== Sys2Proof/Machine/Crypto.lean ====
section
/-!
DEFINITION. The digest and the signature check of R463 (spec/16_startup_and_shutdown_test.md): SHA-256 and ECDSA over
P-256. The spec names both and gives neither; they follow FIPS 180-4 and FIPS 186-4 (PRESUMED, see the assumption log).
-/
namespace Sys2Proof.Machine
open Sys2Proof

/-! ### SHA-256 -/

/-- The round constants. -/
def shaK : List Word :=
  [0x428A2F98, 0x71374491, 0xB5C0FBCF, 0xE9B5DBA5, 0x3956C25B, 0x59F111F1, 0x923F82A4, 0xAB1C5ED5, 0xD807AA98, 0x12835B01, 0x243185BE, 0x550C7DC3, 0x72BE5D74, 0x80DEB1FE, 0x9BDC06A7, 0xC19BF174] ++
  [0xE49B69C1, 0xEFBE4786, 0x0FC19DC6, 0x240CA1CC, 0x2DE92C6F, 0x4A7484AA, 0x5CB0A9DC, 0x76F988DA, 0x983E5152, 0xA831C66D, 0xB00327C8, 0xBF597FC7, 0xC6E00BF3, 0xD5A79147, 0x06CA6351, 0x14292967] ++
  [0x27B70A85, 0x2E1B2138, 0x4D2C6DFC, 0x53380D13, 0x650A7354, 0x766A0ABB, 0x81C2C92E, 0x92722C85, 0xA2BFE8A1, 0xA81A664B, 0xC24B8B70, 0xC76C51A3, 0xD192E819, 0xD6990624, 0xF40E3585, 0x106AA070] ++
  [0x19A4C116, 0x1E376C08, 0x2748774C, 0x34B0BCB5, 0x391C0CB3, 0x4ED8AA4A, 0x5B9CCA4F, 0x682E6FF3, 0x748F82EE, 0x78A5636F, 0x84C87814, 0x8CC70208, 0x90BEFFFA, 0xA4506CEB, 0xBEF9A3F7, 0xC67178F2]

/-- The initial digest. -/
def shaInit : List Word := [0x6A09E667, 0xBB67AE85, 0x3C6EF372, 0xA54FF53A, 0x510E527F, 0x9B05688C, 0x1F83D9AB, 0x5BE0CD19]

def rotr (w : Word) (n : Nat) : Word := w.rotateRight n

/-- A number from bytes, most significant byte first. -/
def msbNat (bs : List (BitVec 8)) : Nat := bs.foldl (fun n b => n * 256 + b.toNat) 0

/-- The words of a 64-byte block. -/
def shaWords (block : List (BitVec 8)) : List Word :=
  (List.range 16).map fun i => BitVec.ofNat 32 (msbNat ((block.drop (4 * i)).take 4))

/-- The last sixteen words of the message schedule, one word further. -/
def shaNext (w : List Word) : List Word :=
  let a := w.getD 1 0
  let b := w.getD 14 0
  let s0 := rotr a 7 ^^^ rotr a 18 ^^^ (a >>> 3)
  let s1 := rotr b 17 ^^^ rotr b 19 ^^^ (b >>> 10)
  w.drop 1 ++ [w.getD 0 0 + s0 + w.getD 9 0 + s1]

/-- One round on the eight working variables. -/
def shaRound (v : List Word) (k w : Word) : List Word :=
  let a := v.getD 0 0
  let e := v.getD 4 0
  let s1 := rotr e 6 ^^^ rotr e 11 ^^^ rotr e 25
  let ch := (e &&& v.getD 5 0) ^^^ (~~~e &&& v.getD 6 0)
  let t1 := v.getD 7 0 + s1 + ch + k + w
  let s0 := rotr a 2 ^^^ rotr a 13 ^^^ rotr a 22
  let maj := (a &&& v.getD 1 0) ^^^ (a &&& v.getD 2 0) ^^^ (v.getD 1 0 &&& v.getD 2 0)
  [t1 + s0 + maj, a, v.getD 1 0, v.getD 2 0, v.getD 3 0 + t1, e, v.getD 5 0, v.getD 6 0]

/-- The digest after one more block. -/
def shaBlock (h : List Word) (block : List (BitVec 8)) : List Word :=
  let r := shaK.foldl (fun (p : List Word × List Word) k => (shaRound p.1 k (p.2.getD 0 0), shaNext p.2)) (h, shaWords block)
  List.zipWith (· + ·) h r.1

/-- The padding of a message of `n` bytes. -/
def shaPad (n : Nat) : List (BitVec 8) :=
  0x80 :: List.replicate ((119 - n % 64) % 64) 0 ++ ((List.range 8).map fun i => BitVec.ofNat 8 (8 * n / 256 ^ (7 - i)))

/-- The first `k` blocks of a padded message. -/
def shaBlocks (h : List Word) (k : Nat) (bs : List (BitVec 8)) : List Word :=
  match k with
  | 0 => h
  | j + 1 => shaBlocks (shaBlock h (bs.take 64)) j (bs.drop 64)

/-- SHA-256 of a message, as a number. -/
def sha256 (bs : List (BitVec 8)) : Nat :=
  let m := bs ++ shaPad bs.length
  (shaBlocks shaInit (m.length / 64) m).foldl (fun n w => n * 2 ^ 32 + w.toNat) 0

/-! ### ECDSA over P-256 -/

namespace P256

/-- The field, the order of the group, the coefficient b and the base point. -/
def p : Nat := 0xFFFFFFFF00000001000000000000000000000000FFFFFFFFFFFFFFFFFFFFFFFF
def n : Nat := 0xFFFFFFFF00000000FFFFFFFFFFFFFFFFBCE6FAADA7179E84F3B9CAC2FC632551
def b : Nat := 0x5AC635D8AA3A93E7B3EBBD55769886BC651D06B0CC53B0F63BCE3C3E27D2604B
def g : Nat × Nat :=
  (0x6B17D1F2E12C4247F8BCE6E563A440F277037D812DEB33A0F4A13945D898C296,
   0x4FE342E2FE1A7F9B8EE7EB4A7C0F9E162BCE33576B315ECECBB6406837BF51F5)

/-- `x` to the power `e` below 2^256, modulo `m`. -/
def pow (x e m : Nat) : Nat :=
  (List.range 256).foldl (fun r i => let r := r * r % m; if e / 2 ^ (255 - i) % 2 = 1 then r * x % m else r) 1

/-- The inverse modulo a prime. -/
def inv (x m : Nat) : Nat := pow x (m - 2) m

/-- Adds two points; `none` is the point at infinity. -/
def add (s t : Option (Nat × Nat)) : Option (Nat × Nat) :=
  match s, t with
  | none, t => t
  | s, none => s
  | some (x1, y1), some (x2, y2) =>
    let out := fun (k : Nat) =>
      let x3 := (k * k + 2 * p - x1 - x2) % p
      some (x3, (k * (x1 + p - x3) + p - y1) % p)
    if x1 = x2 then
      if (y1 + y2) % p = 0 then none else out ((3 * (x1 * x1) + p - 3) * inv (2 * y1 % p) p % p)
    else out ((y2 + p - y1) * inv ((x2 + p - x1) % p) p % p)

/-- A multiple below 2^256 of a point. -/
def mul (k : Nat) (q : Nat × Nat) : Option (Nat × Nat) :=
  (List.range 256).foldl (fun r i => let r := add r r; if k / 2 ^ (255 - i) % 2 = 1 then add r (some q) else r) none

/-- Whether `(r, s)` signs the digest `e` under the public key `q`. -/
def verify (q : Nat × Nat) (e r s : Nat) : Bool :=
  let onCurve := decide (q.1 < p ∧ q.2 < p ∧ q.2 * q.2 % p = (q.1 * q.1 * q.1 + (p - 3) * q.1 + b) % p)
  let inRange := decide (0 < r ∧ r < n ∧ 0 < s ∧ s < n)
  if !onCurve || !inRange then false
  else
    let w := inv s n
    match add (mul (e * w % n) g) (mul (r * w % n) q) with
    | none => false
    | some (x, _) => x % n == r

end P256

end Sys2Proof.Machine
end

