-- ==== Sys2Proof/Machine/Image.lean ====
section
/-!
DEFINITION. The Ubvan image (spec/16_startup_and_shutdown_test.md R458 to R464): slots, headers, sections and their
application to a lane. Where the boot sequencer applies it is in Machine/Boot.lean.
-/
namespace Sys2Proof.Machine
open Sys2Proof

/-- A section of an image: its type, its lanes (bit 0 Lane A, bit 1 Lane B), and where its content lies (R461). -/
structure Section where
  typ : Nat
  lanes : Nat
  base : Nat
  size : Nat
  deriving DecidableEq, Repr

/-- Section types (R462). -/
def Sec.lanereg : Nat := 1
def Sec.memload : Nat := 2
def Sec.bedrock : Nat := 3
def Sec.lock : Nat := 4

/-- Where image slot `k` starts, and its size (R458). -/
def imageBase (k : Nat) : Nat := if k = 0 then 0x100000 else 0x800000
def imageSize : Nat := 0x700000

/-- Bytes of the MRAM, as they lie. -/
def LaneState.mramBytes (l : LaneState) (a n : Nat) : List Byte := (List.range n).map fun i => l.byte (a + i)

/-- A header word of the image in slot `k`. -/
def LaneState.imageWord (l : LaneState) (k off : Nat) : Nat := (l.word (imageBase k + off)).toNat

/-- The sections of the image in slot `k` (R461). -/
def LaneState.imageSections (l : LaneState) (k : Nat) : List Section :=
  (List.range (l.imageWord k 0x10)).map fun i =>
    let e := 0x40 + 16 * i
    ⟨l.imageWord k e % 256, l.imageWord k e / 256 % 4, imageBase k + l.imageWord k (e + 4), l.imageWord k (e + 8)⟩

/-- A section's content fills its size exactly (R462, R463). -/
def LaneState.sectionFilled (l : LaneState) (t : Section) : Bool :=
  if t.typ = Sec.lanereg ∨ t.typ = Sec.bedrock then t.size % 8 == 0
  else if t.typ = Sec.memload then decide (8 ≤ t.size) && t.size == 8 + (l.word (t.base + 4)).toNat
  else if t.typ = Sec.lock then t.size % 4 == 0
  else false

/-- The header of slot `k` is as R461 gives it, with its sections in place (R463). -/
def LaneState.imageFormed (l : LaneState) (k : Nat) : Bool :=
  let w := l.imageWord k
  let len := w 0x0C
  let tabEnd := 0x40 + 16 * w 0x10
  let b := imageBase k
  decide (w 0x00 = 0x4E564255) && decide (w 0x04 = 1) &&
  decide (len % 64 = 0 ∧ 128 ≤ len ∧ len ≤ 0x6FFFC0) && decide (1 ≤ w 0x10 ∧ w 0x10 ≤ 255) && decide (w 0x18 ≤ 1) &&
  [0x1C, 0x30, 0x34, 0x38, 0x3C].all (fun o => w o == 0) &&
  (List.range (w 0x10)).all (fun i => w (0x4C + 16 * i) == 0) &&
  (List.range 4).all (fun n => decide (b ≤ w (0x20 + 4 * n) ∧ w (0x20 + 4 * n) < b + imageSize)) &&
  (l.imageSections k).all fun t => decide (b + tabEnd ≤ t.base ∧ t.base + t.size ≤ b + len) && l.sectionFilled t

/-- The key block accepts the image's key: it is locked and the key is not revoked (R459, R463). -/
def LaneState.keyGood (l : LaneState) (id : Nat) : Bool := l.dword 0xF8 ≠ 0 && !(l.dword 0x80).getLsbD id

/-- The signature verifies under the image's key (R459, R461, R463). -/
def LaneState.imageSigned (l : LaneState) (k : Nat) : Bool :=
  let b := imageBase k
  let len := l.imageWord k 0x0C
  let key := 0x40 * l.imageWord k 0x18
  P256.verify (msbNat (l.mramBytes key 32), msbNat (l.mramBytes (key + 32) 32)) (sha256 (l.mramBytes b len))
    (msbNat (l.mramBytes (b + len) 32)) (msbNat (l.mramBytes (b + len + 32) 32))

/-- A slot is valid (R463). -/
def LaneState.slotValid (l : LaneState) (k : Nat) : Bool :=
  l.imageFormed k && l.keyGood (l.imageWord k 0x18) && l.imageSigned k

/-- The slot that is applied: the higher SEQ is tried first, slot 0 when they are equal (R463). -/
def LaneState.slotChosen (l : LaneState) : Option Nat :=
  let order := if l.imageWord 0 0x08 < l.imageWord 1 0x08 then [1, 0] else [0, 1]
  order.find? l.slotValid

/-- The sections of the applied image that name the lane, of one type, in table order (R462). -/
def LaneState.mySections (l : LaneState) (k typ : Nat) : List Section :=
  (l.imageSections k).filter fun t => t.typ == typ && decide (t.lanes / 2 ^ l.id.num % 2 = 1)

/-- The pairs of words of a section. -/
def LaneState.sectionPairs (l : LaneState) (t : Section) : List (Nat × Word) :=
  (List.range (t.size / 8)).map fun i => ((l.word (t.base + 8 * i)).toNat, l.word (t.base + 8 * i + 4))

/-- Start-up fails with a cause (R469); START_UP_FAILURE acts on it. -/
def State.bootFail (s : State) (x : Lane) (c : Nat) : State :=
  s.modLane x fun l => { l with power := { l.power with boot := .failed c } }

/-- Failure causes, as R476 codes them. -/
def Fail.noImage : Nat := 1
def Fail.sect : Nat := 2
def Fail.clamp : Nat := 3
def Fail.bedmis : Nat := 4
def Fail.kiln : Nat := 5

/-- BLKSTAT.CLAMPED, PARERR and IGNWR of the page of `a`. -/
def LaneState.pageMarks (l : LaneState) (a : Nat) : Nat := getBits (l.rd (R.blkstat (pageOf a * 0x1000))) 2 3

/-- One LANEREG entry, through the normal write path (R464). -/
def State.bootReg (s : State) (x : Lane) (a : Nat) (v : Word) : State :=
  if (s.lane x).power.boot ≠ .image then s
  else
    let page := regionOf x a == .lanePage
    if a % 4 ≠ 0 ∨ !isRegister a ∨ (!page ∧ regionOf x a ≠ .brgWin) then s.bootFail x Fail.sect
    else
      let before := (s.lane x).pageMarks a
      let t := (s.bus x .boot ⟨a, 4, some (v.setWidth 64)⟩ 0).1
      if page ∧ (List.range 3).any (fun i => decide ((t.lane x).pageMarks a / 2 ^ i % 2 = 1 ∧ before / 2 ^ i % 2 = 0)) then
        t.bootFail x Fail.clamp
      else t

/-- Whether a destination is one that MEMLOAD may name: wholly in working SRAM or in one loop-engine memory (R462). -/
def memloadRange (x : Lane) (a n : Nat) : Bool :=
  match regionOf x a with
  | .sram => decide (a + n ≤ 0x14000000)
  | .le m => n == 0 || regionOf x (a + n - 1) == .le m
  | _ => false

/-- Copies `n` bytes of a MEMLOAD section; after a WAKE reset a retained bank that is not lost is not written (R464). -/
def LaneState.memCopy (l : LaneState) (src dst n : Nat) : LaneState :=
  let wake := decide (l.get F.PWR_RSTCAUSE_KIND = 4)
  let l := (List.range n).foldl (fun (l : LaneState) i =>
    let a := dst + i
    let k := (a - 0x10000000) / 0x100000
    if wake && inSram a && l.retained k && !l.bankLost k then l else l.setByte a (l.byte (src + i))) l
  { l with badPar := l.badPar.filter fun b => !(decide (dst ≤ b ∧ b < dst + n)) }

/-- One MEMLOAD section (R462, R464). -/
def State.bootMem (s : State) (x : Lane) (t : Section) : State :=
  if (s.lane x).power.boot ≠ .image then s
  else
    let dst := ((s.lane x).word t.base).toNat
    let n := ((s.lane x).word (t.base + 4)).toNat
    if n % 8 = 0 ∧ memloadRange x dst n then s.modLane x (·.memCopy (t.base + 8) dst n) else s.bootFail x Fail.sect

/-- Step 1 of R464: LANEREG and MEMLOAD sections in table order. -/
def State.bootSection (s : State) (x : Lane) (t : Section) : State :=
  if t.lanes / 2 ^ x.num % 2 = 0 then s
  else if t.typ = Sec.lanereg then ((s.lane x).sectionPairs t).foldl (fun (s : State) e => s.bootReg x e.1 e.2) s
  else if t.typ = Sec.memload then s.bootMem x t
  else s

/-- Addresses strictly ascending. -/
def ascending : List (Nat × Word) → Bool
  | [] => true
  | [_] => true
  | a :: b :: r => decide (a.1 < b.1) && ascending (b :: r)

/-- A BEDROCK section is well formed: registers of BSYS to BFLT in strictly ascending order (R462). -/
def LaneState.bedrockFormed (l : LaneState) (t : Section) : Bool :=
  let es := l.sectionPairs t
  ascending es && es.all fun e => e.1 % 4 == 0 && decide (P.BSYS ≤ e.1 ∧ e.1 < P.BREQ)

/-- A LOCK section is well formed: base addresses of lane register pages (R462). -/
def LaneState.lockPages (l : LaneState) (t : Section) : List Nat :=
  (List.range (t.size / 4)).map fun i => (l.word (t.base + 4 * i)).toNat
def lockFormed (x : Lane) (a : Nat) : Bool := a % 0x1000 == 0 && regionOf x a == .lanePage

/-- The applied slot, as BOOTSTAT records it. -/
def LaneState.slotApplied (l : LaneState) : Nat := l.get F.SYS_BOOTSTAT_SLOT

/-- The entries of a lane's BEDROCK sections. -/
def LaneState.bedrockEntries (l : LaneState) : List (Nat × Word) :=
  (l.mySections l.slotApplied Sec.bedrock).flatMap l.sectionPairs

/-- Steps 8 and 9 of R467: the image is verified, recorded and applied to the lane (R463, R464). The debug module works
where the image enables it (R365). -/
def State.bootImage (s : State) (x : Lane) : State :=
  let l := s.lane x
  if l.power.boot ≠ .image then s
  else match l.slotChosen with
    | none => s.bootFail x Fail.noImage
    | some k =>
      let dbg := l.imageWord k 0x14 / 2 ^ x.num % 2 == 1
      let s := s.modLane x fun l =>
        let l := (l.put F.SYS_BOOTSTAT_SLOT k).wr R.SYS_IMGSEQ (BitVec.ofNat 32 (l.imageWord k 0x08))
        { l with dm := { l.dm with enabled := dbg } }
      let s := (l.imageSections k).foldl (fun (s : State) t => s.bootSection x t) s
      if (s.lane x).power.boot ≠ .image then s
      else if ((s.lane x).mySections k Sec.bedrock).all (s.lane x).bedrockFormed then
        s.modLane x fun l => { l with power := { l.power with boot := .load } }
      else s.bootFail x Fail.sect

end Sys2Proof.Machine
end

