-- ==== Sys2Proof/Machine/Boot.lean ====
section
/-!
DEFINITION. Start-up (spec/16_startup_and_shutdown_test.md R464 to R479) and the end of a wake
(spec/15_power_clocks_and_retention.md R447, R449, R451): from the release of a lane's reset to the release of its pairs.
-/
namespace Sys2Proof.Machine
open Sys2Proof

/-- Where the start-up of a lane stands. -/
def LaneState.boot (l : LaneState) : Boot := l.power.boot
def LaneState.setBoot (l : LaneState) (b : Boot) : LaneState := l.modPower fun p => { p with boot := b }

/-! ### Kiln at start-up -/

/-- KREC and the registers that follow the record, as step 5 loads them (R478); RUNNING is read as INCOMPLETE (R475). -/
def LaneState.krecLoad (l : LaneState) : LaneState :=
  let ws := l.krec
  let st := if krecState ws = KSt.running then KSt.incomplete else krecState ws
  let n := fun v => ((List.range 64).filter fun i => krecSlice ws i == v).length
  let l := (l.krecShow ws).put F.KILN_KREC_RSTATE st
  ((l.put F.KILN_KREC_PASSN (n 1)).put F.KILN_KREC_FAILN (n 2)).put F.KILN_KREC_NOTRUNN (n 0)

/-- The first slice from `k` on that step 6 of R467 owes: on the RETEST path one marked FAIL or NOTRUN, on the FULL path
one marked NOTRUN (R468). -/
def LaneState.owedFrom (l : LaneState) (k : Nat) : Option Nat :=
  let ws := l.krec
  let retest := decide (l.get F.SYS_BOOTSTAT_PATH = 2)
  (List.range 64).find? fun i => decide (k ≤ i) && (krecSlice ws i == 0 || (retest && krecSlice ws i == 2))

/-- A failed record holds the lane in reset with its Kiln-fail wire asserted (R469). -/
def LaneState.kilnFailed (l : LaneState) : LaneState :=
  let l := (l.krecWrite fun ws => (krecSetState ws KSt.failed).set 11 (BitVec.ofNat 32 Fail.kiln)).kilnLive
  (l.setBoot (.failed Fail.kiln)).modPower fun p => { p with kilnWire := true, held := true }

/-- The record becomes STALE and the image follows (R468). -/
def LaneState.kilnPassed (l : LaneState) : LaneState :=
  ((l.krecWrite fun ws => krecSetState ws KSt.stale).kilnLive).setBoot .image

/-- The owed slices of step 6 from `k` on: the next one starts, or the record is STALE. -/
def LaneState.kilnNext (l : LaneState) (k : Nat) (ran : Bool) : LaneState :=
  match l.owedFrom k with
  | some i => (l.sliceStart i false).setBoot .kiln
  | none => (if ran then l.kilnEnd else l).kilnPassed

/-- Step 5 of R467: the record is read and the path chosen (R468). -/
def LaneState.choosePath (l : LaneState) : LaneState :=
  let l := l.krecLoad.kilnLive
  let kind := l.get F.PWR_RSTCAUSE_KIND
  let st := krecState l.krec
  let path := fun (l : LaneState) (p : Nat) => l.put F.SYS_BOOTSTAT_PATH p
  if st = KSt.passed then (path l 0).kilnPassed
  else if st = KSt.stale ∧ kind = Rst.warm then (path l 0).setBoot .image
  else if st = KSt.incomplete ∨ st = KSt.running then (path l 1).kilnNext 0 false
  else if st = KSt.failed then (if kind = Rst.por then (path l 2).kilnNext 0 false else l.kilnFailed)
  else
    let l := l.krecWrite fun ws => ((krecSetState (krecClear ws) KSt.running).set 3 (ws.getD 3 0 + 1)).set 10 0
    (path l 1).kilnNext 0 false

/-- The conditions that are live again once the lane's collector runs (R394, R397, R442, R448, R450). -/
def LaneState.liveAgain (l : LaneState) : LaneState :=
  let lost := ((List.range 64).find? l.bankLost).getD 0
  let l := l.setLive 5 l.anyLost lost
  let l := (l.setLive 17 (l.get F.PWR_WAKESTAT_WAKEFAIL == 1) 0).xtalLive
  l.power.outer.foldl (fun (l : LaneState) k => l.setLive k true 0) l

/-- A lane is released from its reset hold (R452): its heartbeat resumes (R215), and start-up runs to the end of step 5. -/
def State.resetRelease (s : State) (x : Lane) : State :=
  let p := (s.lane x).power
  if !p.held ∨ !p.feedOn ∨ !p.feedUv ∨ p.tst ∨ p.kilnWire ∨ p.railsOff ∨ p.boot ≠ .none then s
  else
    let s := s.modLane x fun l =>
      let l := (l.modPower fun p => { p with held := false }).setOuter 11 false
      (l.put F.CLK_CLKSTAT_LOCK 7).put F.CLK_CLKSTAT_XTALOK (1 - l.get F.CLK_CLKSTAT_XTALFB)
    (s.heartbeatSeen x).mirrors.modLane x fun l => l.liveAgain.choosePath

/-- RESET_RELEASE (R452). -/
def execResetRelease (x : Lane) (s : State) : Host.Outcome State Fault Refusal := done (s.resetRelease x)

/-- At park, a slice has ended and its result stands in the record (R474, R475): the next slice, or the last state and the
signatures. An event that came during Kiln aborts the entry here, before the next slice. -/
def LaneState.parkSlice (l : LaneState) (k : Nat) (ok : Bool) : LaneState :=
  let last := fun (l : LaneState) (st : Nat) => ((l.krecWrite fun ws => krecSetState ws st).kilnEnd).kilnLive
  let stop := fun (l : LaneState) (st : Nat) => ((((((l.krecWrite fun ws =>
    (krecSetState ws st).set 10 (ws.getD 10 0 + 1)).bump F.KILN_KABORT_COUNT 1).put F.KILN_KABORT_LAST k).irqPulse P.KILN
    (mbit 1)).count P.KILN 3).kilnEnd).kilnLive
  match l.power.abortBy with
  | some who =>
    (if !ok then stop l KSt.failed else if k < 63 then stop l KSt.incomplete else last l KSt.passed).entryEnds 2 2 (stopperCode who)
  | none =>
    if !ok then (last l KSt.failed).parkSign
    else if k < 63 then l.sliceStart (k + 1) true
    else (last l KSt.passed).parkSign

/-- The course of a Kiln portion after a slice (R468, R473, R474): at park the next slice, or the signatures; at start-up
the next owed slice, or the image. -/
def LaneState.sliceDone (l : LaneState) (us : Nat) : LaneState :=
  let k := l.get F.KILN_KSTAT_SLICE
  if l.get F.KILN_KSTAT_STATE = 0 then l
  else if l.power.entry = 3 then
    let r := l.sliceRecord us
    r.1.parkSlice k r.2
  else if l.boot = .kiln then
    let r := l.sliceRecord us
    if r.2 then r.1.kilnNext (k + 1) true else r.1.kilnEnd.kilnFailed
  else l

/-- KILN_SLICE_COMPLETE (R473); `us` is the duration of the Kiln portion so far (R476). -/
def execKilnSliceComplete (x : Lane) (us : Nat) (s : State) : Host.Outcome State Fault Refusal :=
  onLane x (·.sliceDone us) s

/-! ### Bedrock's configuration (R465) -/

/-- One entry of a BEDROCK section: interrupt-enable and message registers go to the lane's own copies, the rest to
Bedrock when `load`. -/
def State.bedEntry (s : State) (x : Lane) (load : Bool) (e : Nat × Word) : State :=
  let o := e.1 % 0x1000
  if o = 0x014 ∨ o = 0x01C then (s.bedLaneWrite x e.1 e.2).1
  else if load ∧ isRegister e.1 ∧ bedWritable e.1 true ∧ !bedPerLane e.1 then s.bedShared e.1 e.2 true
  else s

/-- The load goes to lane `x`, which writes its entries. -/
def State.grantTo (s : State) (x : Lane) : State :=
  let s := s.modBed fun b => { b with grant := some x }
  ((s.lane x).bedrockEntries).foldl (fun (s : State) e => s.bedEntry x true e) s

/-- Whether a lane requests the load; one with no BEDROCK section fails (R465). -/
def State.requests (s : State) (x : Lane) : State × Bool :=
  let s := s.bootImage x
  let l := s.lane x
  if l.boot ≠ .load ∨ s.bed.get F.BSYS_BCFG_LOADED = 1 ∨ s.laneStatus x ≠ Stat.boot then (s, false)
  else if (l.mySections l.slotApplied Sec.bedrock).isEmpty then (s.bootFail x Fail.bedmis, false)
  else (s, true)

/-- BEDROCK_LOAD_GRANT (R465): `ra` and `rb` say which lanes' requests have come; Lane A is served on a tie. -/
def execBedrockLoadGrant (ra rb : Bool) (s : State) : Host.Outcome State Fault Refusal :=
  done (
    if s.bed.grant.isSome ∨ s.bed.get F.BSYS_BCFG_LOADED = 1 ∨ !s.bedrockRuns then s
    else
      let a := if ra then s.requests .A else (s, false)
      let b := if rb then a.1.requests .B else (a.1, false)
      if a.2 then b.1.grantTo .A else if b.2 then b.1.grantTo .B else b.1)

/-- Sets a field of Bedrock's configuration to its clamped value, with the report of R57. -/
def State.bedClamp (s : State) (f : Fld) (v : Nat) : State :=
  if s.bed.get f = v then s
  else
    let b := pageOf f.addr * 0x1000
    let s := s.modBed fun d =>
      let o := d.rd f.addr
      { d with regs := (d.regs.put f v).clampLog f.addr o f.lo 1 }
    (s.irqLevelBoth b 31 true).bedRaise (getBits (s.bed.rd (b + 0x028)) 0 8)

/-- A bridge belongs to the lowest-numbered domain that names it; each bit cleared is a clamp (R213). -/
def State.clampBridges (s : State) : State :=
  (List.range 8).foldl (fun (s : State) d =>
    (List.range 8).foldl (fun (s : State) n =>
      let f := F.BLEASE_LCFG_BRIDGES d
      let m := s.bed.get f
      if maskBit m n ∧ (List.range d).any (fun e => (s.domBridges e).contains n) then s.bedClamp f (m - 2 ^ n) else s) s) s

/-- TPSELA and TPSELB (R370). -/
def State.clampTests (s : State) : State :=
  let en := s.bed.get F.BSAFE_TPCFG_TPEN
  (List.range 16).foldl (fun (s : State) n =>
    let off := fun (s : State) (f : Fld) =>
      let v := s.bed.get f
      if v ≠ 0 ∧ en / 2 ^ (v - 1) % 2 = 0 then s.bedClamp f 0 else s
    let s := off (off s (F.BSAFE_SICFG_TPSELA n)) (F.BSAFE_SICFG_TPSELB n)
    let b := s.bed.get (F.BSAFE_SICFG_TPSELB n)
    if b ≠ 0 ∧ s.bed.get (F.BSAFE_SICFG_TPSELA n) = b then s.bedClamp (F.BSAFE_SICFG_TPSELB n) 0 else s) s

/-- The pairs that an evaluator names (R371, R377, R378). -/
def State.evPairs (s : State) (e : Nat) : List Nat :=
  if s.evType e = 0 then []
  else
    let r := s.bed.get (F.BSAFE_EVCFG_RSTSRC e)
    [s.bed.get (F.BSAFE_EVCFG_INP0 e)] ++ (if s.evType e = 3 then [s.bed.get (F.BSAFE_EVCFG_INP1 e)] else []) ++
      (if r = 0 then [] else [r - 1])

/-- RSTM of an ESTOP is 1 (R374), and a pair serves one role (R378): the evaluator loaded later is turned off. -/
def State.clampEvals (s : State) : State :=
  (List.range 8).foldl (fun (s : State) e =>
    let s := if s.evType e = 1 then s.bedClamp (F.BSAFE_EVCFG_RSTM e) 1 else s
    let i := s.bed.get (F.BSAFE_EVCFG_INP0 e)
    let bad := (s.evType e = 3 ∧ s.bed.get (F.BSAFE_EVCFG_INP1 e) = i) ∨
      (s.evType e = 4 ∧ (s.bed.get (F.BSAFE_SICFG_TPSELA i) ≠ 0 ∨ s.bed.get (F.BSAFE_SICFG_TPSELB i) ≠ 0)) ∨
      (s.evPairs e).any (fun p => (List.range e).any fun d => (s.evPairs d).contains p)
    if bad then s.bedClamp (F.BSAFE_EVCFG_TYPE e) 0 else s) s

/-- The Bedrock pages whose configuration the load writes (R214). -/
def bedPages : List Nat := [P.BSYS, P.BLEASE, P.BENV, P.BSAFE, P.BFLT]

/-- LOADED rises: the pages lock, HOLD names each bridge's domain, the bridge die takes ENVMODE (R226), evaluation begins
(R367, R374) with every test output high (R369), and START may be left (R470). -/
def State.loadedRises (s : State) : State :=
  let s := s.modBed fun b =>
    let b := bedPages.foldl (fun (b : BedState) p => (b.put (F.locked p) 1).wr (R.lockKey p) 1) b
    { (b.put F.BSYS_BCFG_LOADED 1).put F.BSAFE_TPSTAT_CMD 0xFF with grant := none }
  let s := (List.range 8).foldl (fun (s : State) n =>
    let d := s.domainOf n
    let s := (s.bput (F.BLEASE_HOLD_DOMAIN n) (d.getD 0)).bput (F.BLEASE_HOLD_ASSIGNED n) (bit d.isSome)
    let w := s.bed.rd (R.BENV_ENVMODE n)
    s.modBrg fun b => { b with envCopy := Table.set (fun _ => 0x400) b.envCopy n w }) s
  (s.bput F.BSAFE_TPSTAT_RB 0xFF).evaluatorsStart.mirrors.startExit false

/-- BEDROCK_LOAD_DONE (R465): a clamp logged in any Bedrock page fails the holder's start-up. -/
def execBedrockLoadDone (s : State) : Host.Outcome State Fault Refusal :=
  done (match s.bed.grant with
    | none => s
    | some x =>
      if (s.lane x).boot ≠ .load ∨ s.laneStatus x ≠ Stat.boot ∨ !s.bedrockRuns then s
      else
        let s := s.clampBridges.clampTests.clampEvals.loadedRises
        let clamped := bedPages.any (fun p => s.bed.get (F.clamped p) == 1 || (s.lane x).get (F.clamped p) == 1)
        if clamped then s.bootFail x Fail.clamp else s)

/-- Whether a register of a Bedrock page holds configuration (R71). -/
def isConfigReg (a : Nat) : Bool := (regFields a).any fun f => f.acc == .cfg

/-- BEDROCK_LOAD_HOLDER_LOSS (R465): configuration registers return to reset, and the load goes to the peer if it waits. -/
def execBedrockLoadHolderLoss (s : State) : Host.Outcome State Fault Refusal :=
  done (match s.bed.grant with
    | none => s
    | some x =>
      if s.laneStatus x = Stat.boot ∧ (s.lane x).boot = .load then s
      else
        let s := s.modBed fun b => { b with regs := b.regs.clear isConfigReg, grant := none }
        let y := x.peer
        if (s.lane y).boot = .load ∧ s.laneStatus y = Stat.boot ∧ !(s.lane y).bedrockEntries.isEmpty then s.grantTo y else s)

/-! ### The end of start-up -/

/-- Locks a lane page by the sequence of R59. -/
def LaneState.lockPage (l : LaneState) (a : Nat) : LaneState :=
  (l.lockKeyWrite (pageOf a) 0xA55A).lockKeyWrite (pageOf a) 0x5AA5

/-- Step 3 of R464. -/
def State.bootLock (s : State) (x : Lane) : State :=
  let l := s.lane x
  let pages := (l.mySections l.slotApplied Sec.lock).flatMap l.lockPages
  if pages.all (lockFormed x) then
    s.modLane x fun l => (pages ++ [P.FLT, P.HSPI, P.WAKE, P.KILN]).foldl LaneState.lockPage l
  else s.bootFail x Fail.sect

/-- The check of R465: the lane's own copies are written, and every entry is read back. -/
def State.bootCheck (s : State) (x : Lane) : State :=
  let es := (s.lane x).bedrockEntries
  let s := es.foldl (fun (s : State) e => s.bedEntry x false e) s
  if es.all fun e => s.peekBed x e.1 == e.2 then s else s.bootFail x Fail.bedmis

/-- Step 11 of R467: the unfenced pairs start at their entries (R466), and BOOTTIME is recorded. -/
def LaneState.pairsRelease (l : LaneState) (us : Nat) : LaneState :=
  let l := l.unfenced.foldl (fun (l : LaneState) p => l.startPair p false) l
  (l.wr R.SYS_BOOTTIME (BitVec.ofNat 32 us)).setBoot .complete

/-- The start-up-complete signal reaches Bedrock (R215); the first of a wake ends PARKED (R451). -/
def State.completeSeen (s : State) (x : Lane) : State :=
  let s := if s.devState = Dev.parked ∧ s.bed.on then
      let s := (s.setDev Dev.idle).heartbeatSeen x
      (s.heartbeatSeen x.peer).evaluatorsStart
    else s
  let s := if s.laneStatus x = Stat.boot then s.setStatus x Stat.up 0 else s
  s.capUpdate.outputUpdate

/-- LANE_START_UP_COMPLETE (R215, R464 to R467): the lane's image is applied and checked, its pages lock, its pairs are
released, and Bedrock sees the signal; `us` is the time since the reset was released. A failed check or section fails the
start-up instead (R469), and a lane that has a load to make waits for it. -/
def execLaneStartUpComplete (x : Lane) (us : Nat) (s : State) : Host.Outcome State Fault Refusal :=
  done (
    let s := s.bootImage x
    let l := s.lane x
    if l.boot ≠ .load ∨ !s.bedrockRuns then s
    else if s.bed.get F.BSYS_BCFG_LOADED = 0 then (s.requests x).1
    else
      let s := s.bootCheck x
      if (s.lane x).boot ≠ .load then s
      else
        let s := s.bootLock x
        if (s.lane x).boot ≠ .load then s
        else
          let again := decide (s.devState = Dev.idle ∨ s.devState = Dev.drive)
          let s := s.modLane x fun l => (l.pairsRelease us).modSieve fun v => { v with
            announce := again, peerSeen := again && s.laneStatus x.peer == Stat.up && !(s.lane x.peer).sieve.announce }
          s.completeSeen x)

/-- Service mode (R469): the cause is recorded, and the host SPI target opens its windows 0 and 1. -/
def LaneState.serviceMode (l : LaneState) (c : Nat) : LaneState :=
  let l := ((l.put F.SYS_BOOTSTAT_FAIL c).put F.SYS_BOOTSTAT_SERVICE 1).krecBootFail c
  let win := fun (l : LaneState) (k base : Nat) =>
    (((l.wr (R.HSPI_HWBASE k) (BitVec.ofNat 32 base)).put (F.HSPI_HWCFG_SIZE k) 1).put (F.HSPI_HWCFG_RD k) 1).put
      (F.HSPI_HWCFG_WR k) 1
  let l := win (win l 0 P.SYS) 1 P.PWR
  ({ l with dm := .reset }).setBoot .service

/-- START_UP_FAILURE (R469): a start-up that has failed enters service mode; with `power`, a regulator or a PLL fails and
the lane stays in reset with no heartbeat. -/
def execStartUpFailure (x : Lane) (power : Bool) (s : State) : Host.Outcome State Fault Refusal :=
  done (
    if (s.lane x).power.railsOff then s
    else if power then
      match (s.lane x).boot with
      | .none | .kiln | .image | .load => s.modLane x fun l => (l.setBoot (.failed 0)).modPower fun p => { p with held := true }
      | _ => s
    else
      let s := s.bootImage x
      match (s.lane x).boot with
      | .failed c => if 1 ≤ c ∧ c ≤ 4 then s.modLane x (·.serviceMode c) else s
      | _ => s)

/-! ### The end of a wake -/

/-- Step 5 of R447 for a retained bank (R449): a bank whose signature differs, or that has an uncorrectable error, is
zeroed and marked lost. -/
def LaneState.checkBank (l : LaneState) (bad : Bool) (k : Nat) : LaneState :=
  if !bad ∧ l.bankSig k = l.rd (R.PWR_BANKSIG k) then l
  else
    let b := 0x10000000 + 0x100000 * k
    ({ l with mem := l.mem.filter fun e => !(decide (b ≤ e.1 ∧ e.1 < b + 0x100000)) }.markLost k).bump F.PWR_WAKESTAT_LOSTCNT 1

/-- WAKE_MEMORIES_DONE (R447, R449): `corr` and `uncorr` name the banks in which correctable and uncorrectable errors
were found. A reset of kind WAKE is then released; TIME goes on from CRCNT to within 31 µs (R453). -/
def execWakeMemoriesDone (x : Lane) (corr uncorr : BitVec 64) (s : State) : Host.Outcome State Fault Refusal :=
  let l := s.lane x
  done (
    if !l.parked ∨ l.power.wakeStep ≠ 5 then s
    else
      let kept := if l.power.retainNone then [] else (List.range 64).filter l.retained
      let s := s.modLane x fun l =>
        kept.foldl (fun (l : LaneState) k => l.checkBank (uncorr.getLsbD k) k) l
      let off := Int.ofNat (s.free.toNat % 63) - 31
      let s := s.modLane x fun l => l.modPower fun p => { p with timeBase := p.timeBase + off }
      let s := ((s.laneReset x Rst.wake 0).resetRelease x).freeNext
      s.modLane x fun l => (kept.filter fun k => corr.getLsbD k).foldl (fun (l : LaneState) k => l.raiseAt 3 k) l)

end Sys2Proof.Machine
end

