-- ==== Sys2Proof/Machine/BusCmds.lean ====
section
/-!
DEFINITION. The commands of register accesses (spec/02_address_map_and_register_pages.md), the release of device accesses
by a pair (spec/03_application_cores_and_lockstep.md R88, R96 to R98), system bus accesses of the debugger and frames of
the host SPI (spec/11_vehicle_and_host_ports.md R352 to R354, R364).
-/
namespace Sys2Proof.Machine
open Sys2Proof

/-- An agent's access returns: to a hart an error is an access fault (R46), and a released device access is logged (R96),
but for a store that faults, which recurs on re-execution; a system bus access records an error (R364). -/
def LaneState.accessDone (l : LaneState) (g : Agent) (a : Access) (r : Resp) (log : Bool) : LaneState :=
  let l := l.respond g r
  match g with
  | .hart n =>
    let p := n.val
    let l := if !log ∨ r = .waiting then l
      else match a.wdata with
        | some v => if r = .error then l else l.logAppend p (.devwr a.addr a.size v)
        | none => l.logAppend p (.devrd a.addr a.size (match r with
          | .data w => some w
          | _ => none))
    if r = .error ∧ l.pairIssues p then l.accessFault p (if a.wdata.isSome then 7 else 5) a.addr else l
  | .dbg => match r with
    | .error => { l with dm := { l.dm with sberror := 2 } }
    | .data w => { l with dm := { l.dm with sbData := w } }
    | _ => l
  | _ => l

/-- An access by address with its return to the agent; one that reset the lane returns nothing. -/
def State.access (s : State) (x : Lane) (g : Agent) (a : Access) (bad : Byte) (log : Bool) : State :=
  let r := s.bus x g a bad
  r.1.modLane x fun l => if l.alive then l.accessDone g a r.2 log else l

/-! ### Accesses of a pair (R88, R96 to R98) -/

/-- Whether an address lies in a DEVICE range or in none (R82). -/
def isDevice (x : Lane) (a : Nat) : Bool :=
  match regionOf x a with
  | .mram | .sram => false
  | _ => true

/-- In replay a device access is compared with the next entry, and not released: the logged result returns (R98); one
that does not match is a divergence (R99). -/
def LaneState.replayAccess (l : LaneState) (n : Fin 4) (d : DevAccess) : LaneState :=
  let p := n.val
  let g := Agent.hart n
  match (l.pair p).nextEntry, d with
  | some (.devwr a k v), .bus b =>
    if b.wdata = some v ∧ b.addr = a ∧ b.size = k then (l.consume p).respond g .done else l.diverge p
  | some (.devrd a k v), .bus b =>
    if b.wdata = none ∧ b.addr = a ∧ b.size = k then
      match v with
      | some w => (l.consume p).respond g (.data w)
      | none => (l.consume p).accessDone g b .error false
    else l.diverge p
  | some (.imsic c m w v), .imsic c' w' =>
    if c = c' ∧ w = w' ∧ (c = Csr.mireg → m = (l.pair p).hart.c Csr.miselect) then (l.consume p).respond g (.data v) else l.diverge p
  | some (.vcsr c v), .vcsr c' _ => if c = c' then (l.consume p).respond g (.data v) else l.diverge p
  | _, _ => l.diverge p

/-- A DEVICE access of pair `n` (R80, R88, R96 to R99): one that PMP bars, or a store that the bus refuses, faults, in
replay too. In replay the rest is compared with the log. With no free log entry the access waits (R97); else it is
released and logged. -/
def State.pairAccess (s : State) (x : Lane) (n : Fin 4) (a : Access) : State :=
  let l := s.lane x
  let q := l.pair n.val
  let st := a.wdata.isSome
  if !l.pairIssues n.val then s
  else if !q.hart.pmpAllows a.addr a.size st || (st && (s.bus x (.hart n) a 0).2 == .error) then
    s.modLane x (·.accessFault n.val (if st then 7 else 5) a.addr)
  else if l.pairRuns n.val && q.replays then s.modLane x (·.replayAccess n (.bus a))
  else if 256 ≤ q.log.length then s
  else s.access x (.hart n) a 0 true

/-- An access through a window by an agent of the lane; those of a hart are held at its boundary. -/
def State.agentAccess (s : State) (x : Lane) (g : Agent) (a : Access) : State :=
  match g with
  | .hart n => s.pairAccess x n a
  | g => s.access x g a 0 false

/-- REGISTER_WRITE (R56 to R63): a store at a lane address. -/
def execRegisterWrite (x : Lane) (g : Agent) (a : Access) (bad : Byte) (s : State) :
    Host.Outcome State Fault Refusal :=
  done (if a.wdata.isSome ∧ (s.lane x).alive then s.access x g a bad false else s)

/-- A read of a page's register meets bad parity (R63): the page's WRPAR source. -/
def State.parityRaise (s : State) (x : Lane) (addr : Nat) : State :=
  let b := pageOf addr * 0x1000
  match regionOf x addr with
  | .bedWin => s.bedRaise (getBits (s.bed.rd (b + 0x028)) 0 8 + 1)
  | _ => s.modLane x fun l => l.raise (getBits (l.rd (b + 0x028)) 0 8 + 1)

/-- A store of a word to a register of a page, in the lane or behind a window. -/
def State.pageWrite (s : State) (x : Lane) (g : Agent) (a : Nat) (v : Word) : State :=
  if (pageInfo a).isSome ∧ (s.lane x).alive then s.access x g ⟨a, 4, some (v.setWidth 64)⟩ 0 false else s

/-- BLKCTRL.RUN as it stands. -/
def State.runBit (s : State) (x : Lane) (page : Nat) : Nat :=
  if 0x60000 ≤ page then s.brg.get (F.run (page * 0x1000)) else (s.lane x).get (F.run (page * 0x1000))

/-- SOFT_RESET (R52), BLOCK_RUN (R51) and BLOCK_STOP_REQUEST (R53): writes of BLKCTRL. -/
def execSoftReset (x : Lane) (g : Agent) (page : Nat) (s : State) : Host.Outcome State Fault Refusal :=
  done (s.pageWrite x g (page * 0x1000 + 0x008) (BitVec.ofNat 32 (2 + s.runBit x page)))
def execBlockRun (x : Lane) (g : Agent) (page : Nat) (s : State) : Host.Outcome State Fault Refusal :=
  done (s.pageWrite x g (page * 0x1000 + 0x008) 1)
def execBlockStopRequest (x : Lane) (g : Agent) (page : Nat) (s : State) : Host.Outcome State Fault Refusal :=
  done (s.pageWrite x g (page * 0x1000 + 0x008) 0)

/-- LOCKKEY_WRITE (R59). -/
def execLockkeyWrite (x : Lane) (g : Agent) (page : Nat) (v : Word) (s : State) : Host.Outcome State Fault Refusal :=
  done (s.pageWrite x g (page * 0x1000 + 0x02C) v)

/-- COUNTER_LOW_READ (R61). -/
def execCounterLowRead (x : Lane) (g : Agent) (addr : Nat) (s : State) : Host.Outcome State Fault Refusal :=
  done (if counterLow addr ∧ (s.lane x).alive then s.access x g ⟨addr, 4, none⟩ 0 false else s)

/-- COUNTER_HIGH_WRITE and COUNTER_LOW_WRITE (R62). -/
def execCounterHighWrite (x : Lane) (g : Agent) (addr : Nat) (v : Word) (s : State) : Host.Outcome State Fault Refusal :=
  done (if 4 ≤ addr ∧ counterWritable (addr - 4) then s.pageWrite x g addr v else s)
def execCounterLowWrite (x : Lane) (g : Agent) (addr : Nat) (v : Word) (s : State) : Host.Outcome State Fault Refusal :=
  done (if counterWritable addr then s.pageWrite x g addr v else s)

/-! ### The bridge-die window (R68) -/

/-- BRIDGE_WINDOW_WRITE (R68): writes are posted. -/
def execBridgeWindowWrite (x : Lane) (g : Agent) (a : Access) (s : State) : Host.Outcome State Fault Refusal :=
  done (if regionOf x a.addr = .brgWin ∧ a.wdata.isSome ∧ (s.lane x).alive then s.agentAccess x g a else s)

/-- BRIDGE_WINDOW_READ (R68). -/
def execBridgeWindowRead (x : Lane) (g : Agent) (a : Access) (s : State) : Host.Outcome State Fault Refusal :=
  done (if regionOf x a.addr = .brgWin ∧ a.wdata.isNone ∧ (s.lane x).alive then s.agentAccess x g a else s)

/-- REG_RSP_RECEIVED (R68): the oldest pending read completes. -/
def execRegRspReceived (x : Lane) (data : Word) (s : State) : Host.Outcome State Fault Refusal :=
  onLane x (fun l =>
    match l.links.pendRd with
    | [] => l
    | e :: r =>
      if !l.alive then l
      else { l with links := { l.links with pendRd := r } }.accessDone e.1 e.2 (.data (data.setWidth 64)) true) s

/-- BRIDGE_READ_TIMEOUT (R68): no REG_RSP within 1 µs. -/
def execBridgeReadTimeout (x : Lane) (g : Agent) (s : State) : Host.Outcome State Fault Refusal :=
  onLane x (fun l =>
    match l.links.pendRd.find? fun e => e.1 = g with
    | none => l
    | some e => { l with links := { l.links with pendRd := l.links.pendRd.erase e } }.accessDone g e.2 .error true) s

/-! ### The peer window (R75, R76) -/

/-- PEER_WINDOW_READ (R75): a store to the window is an access error. -/
def execPeerWindowRead (x : Lane) (g : Agent) (a : Access) (s : State) : Host.Outcome State Fault Refusal :=
  done (if regionOf x a.addr = .peerWin ∧ (s.lane x).alive then s.agentAccess x g a else s)

/-- A word that a lane answers to its peer, without side effects (R76); none where the read is rejected. -/
def State.peerWord (s : State) (x : Lane) (a : Nat) : Option Word :=
  let l := s.lane x
  match regionOf x a with
  | .mram => some (l.word a)
  | .sram => some (l.dmaWord a)
  | .le _ => if l.broken a 4 then none else some (l.word a)
  | .lanePage => if l.fencedRead a then none else some (s.peekReg x a)
  | _ => none

/-- The words of an answer; none when one is rejected. -/
def State.peerWords (s : State) (x : Lane) (a : Nat) : Nat → Option (List Word)
  | 0 => some []
  | n + 1 =>
    match s.peerWord x a, s.peerWords x (a + 4) n with
    | some w, some r => some (w :: r)
    | _, _ => none

/-- PEER_RD_REQ_RECEIVED (R34, R76): the answer goes out as PEER_RD_RSP, with ARG[15] for a rejected read. A read of a line
held with U = 1 waits (R95): the request is served after the checkpoint. -/
def execPeerRdReqReceived (x : Lane) (tag : Half) (addrLo addrHi count : Word) (s : State) :
    Host.Outcome State Fault Refusal :=
  let l := s.lane x
  let a := addrLo.toNat + addrHi.toNat * 2 ^ 32
  let n := count.toNat
  done (
    if !l.alive ∨ !l.llUp then s
    else if inSram a ∧ n ≤ 64 ∧ l.heldU a (4 * n) then s.modLane x (·.snoopAll a (4 * n))
    else
      let words := if a % 4 = 0 ∧ 1 ≤ n ∧ n ≤ 64 then s.peerWords x a n else none
      let l := match words with
        | some ws => l.llReady 4 (tag &&& 0x7FFF) ws
        | none => l.llReady 4 (tag ||| 0x8000) [0xFFFFFFFF]
      (s.setLane x l).freeNext)

/-- PEER_RD_RSP_RECEIVED (R75): the read under that tag completes. -/
def execPeerRdRspReceived (x : Lane) (tag : Half) (words : List Word) (s : State) : Host.Outcome State Fault Refusal :=
  onLane x (fun l =>
    match l.links.peerPend.find? fun e => e.1 == tag.toNat % 2 ^ 15 with
    | none => l
    | some e =>
      if !l.alive ∨ !l.llUp then l
      else
        let l := { l with links := { l.links with peerPend := l.links.peerPend.erase e } }
        let ok := !(tag.getLsbD 15) && words.length == e.2.2.size / 4
        let v : DWord := (words.getD 1 0) ++ (words.getD 0 0)
        l.accessDone e.2.1 e.2.2 (if ok then .data v else .error) true) s

/-- PEER_READ_TIMEOUT (R75): no response within 2 µs. -/
def execPeerReadTimeout (x : Lane) (g : Agent) (s : State) : Host.Outcome State Fault Refusal :=
  onLane x (fun l =>
    match l.links.peerPend.find? fun e => e.2.1 = g with
    | none => l
    | some e => { l with links := { l.links with peerPend := l.links.peerPend.erase e } }.accessDone g e.2.2 .error true) s

/-! ### Release of a pair's accesses (R88, R96 to R98) -/

/-- An access to the pair's IMSIC file through mireg or mtopei (R88, R96). -/
def LaneState.imsicAccess (l : LaneState) (n : Fin 4) (csr : Nat) (write : Option DWord) : LaneState :=
  let p := n.val
  let q := l.pair p
  let sel := q.hart.c Csr.miselect
  let v := l.csrRead p csr
  let l := match write with
    | some w => l.modPair p (·.imsicWrite csr w)
    | none => l
  (l.logAppend p (.imsic csr sel write v)).respond (.hart n) (.data v)

/-- DEVICE_ACCESS_RELEASE (R88, R96 to R98): the comparator has passed the access. With no free log entry it waits
(R97). -/
def execDeviceAccessRelease (x : Lane) (n : Fin 4) (d : DevAccess) (s : State) : Host.Outcome State Fault Refusal :=
  let l := s.lane x
  let q := l.pair n.val
  let free := l.pairIssues n.val ∧ q.log.length < 256
  let logged := fun (f : LaneState → LaneState) =>
    if l.pairRuns n.val && q.replays then s.modLane x (·.replayAccess n d) else if free then s.modLane x f else s
  done (match d with
    | .bus a => if isDevice x a.addr then s.pairAccess x n a else s
    | .imsic c w => if c = Csr.mireg ∨ c = Csr.mtopei then logged (·.imsicAccess n c w) else s
    | .vcsr c v => logged fun l => (l.logAppend n.val (.vcsr c v)).respond (.hart n) (.data v))

/-! ### Debugger and host SPI -/

/-- The debugger writes sbaddress, and sbdata where it writes (R363, R364). -/
def LaneState.sbWrite (l : LaneState) (a : Access) : LaneState :=
  let l := l.dmiWrite (if a.wdata.isSome then 0x3C else 0x39) (((a.wdata.getD (BitVec.ofNat 64 a.addr)).toNat) % 2 ^ 32)
  if !l.dm.enabled then l
  else { l with dm := { l.dm with sbAddr := a.addr % 2 ^ 40, sbData := a.wdata.getD l.dm.sbData } }

/-- DEBUG_SYSTEM_BUS_ACCESS (R364). -/
def execDebugSystemBusAccess (x : Lane) (a : Access) (s : State) : Host.Outcome State Fault Refusal :=
  let l := s.lane x
  let fail := fun (s : State) (k : Nat) => s.modLane x fun l => { l with dm := { l.dm with sberror := k } }
  done (
    if !l.alive then s
    else if !l.dm.enabled then s.modLane x (·.sbWrite a)
    else
      let s := s.modLane x (·.sbWrite a)
      if a.size ≠ 4 ∧ a.size ≠ 8 then fail s 4
      else if a.addr % a.size ≠ 0 then fail s 3
      else s.access x .dbg a 0 false)

/-- STAT codes (R353). -/
def Hst.ok : Nat := 0
def Hst.denied : Nat := 4
def Hst.accErr : Nat := 5

/-- The fields of a host frame (R352). -/
def hspiAddr (f : List (BitVec 8)) : Nat := ((f.drop 1).take 4).foldl (fun n b => 256 * n + b.toNat) 0
def hspiData (f : List (BitVec 8)) : Nat := ((f.drop 5).take 4).foldl (fun n b => 256 * n + b.toNat) 0
def hspiCmd (f : List (BitVec 8)) : Nat := (f.headD 0).toNat

/-- What a frame fails of R353 before its address is looked at; 0 for nothing. -/
def hspiCheck (f : List (BitVec 8)) (early : Bool) : Nat :=
  if early then 6
  else if f.length ≠ 10 then 2
  else if f.getLastD 0 ≠ crc8 (f.take 9) then 1
  else if 2 < hspiCmd f then 3 else 0

/-- The ten bytes that the target sends during a frame (R352): the result of the frame before. -/
def HspiState.replyBytes (h : HspiState) : List (BitVec 8) :=
  let b := [BitVec.ofNat 8 h.stat] ++ (wordBytes h.data).reverse ++ [BitVec.ofNat 8 h.execd, 0, 0, 0]
  b ++ [crc8 b]

/-- Whether an enabled window with the right holds the address, which lies in working SRAM or a lane page (R354). -/
def LaneState.hspiAllows (l : LaneState) (a : Nat) (write : Bool) : Bool :=
  (inSram a || regionOf l.id a == .lanePage) && (List.range 4).any fun k =>
    let base := l.get (F.HSPI_HWBASE_BASE k) * 0x1000
    l.get (if write then F.HSPI_HWCFG_WR k else F.HSPI_HWCFG_RD k) == 1 &&
      decide (base ≤ a ∧ a < base + l.get (F.HSPI_HWCFG_SIZE k) * 0x1000)

/-- The result of a frame is recorded (R353, R355). -/
def LaneState.hspiResult (l : LaneState) (f : List (BitVec 8)) (stat : Nat) (data : Word) : LaneState :=
  let done := stat = Hst.ok ∨ stat = Hst.accErr
  let h := l.ports.hspi
  let l := { l with ports := { l.ports with hspi := {
    stat := stat, data := data, execd := (h.execd + bit done) % 256, reply := h.replyBytes } } }
  let l := (l.put F.HSPI_HLAST_STAT stat).put F.HSPI_HLAST_CMD (hspiCmd f)
  let l := if 5 ≤ f.length then l.wr R.HSPI_HADDR (BitVec.ofNat 32 (hspiAddr f)) else l
  let l := if done then (l.bump F.HSPI_HCNT_EXEC 1).count P.HSPI 1
    else ((l.bump F.HSPI_HCNT_REFUSED 1).irqPulse P.HSPI (mbit 1)).count P.HSPI 2
  let l := if done ∧ hspiCmd f = 2 then l.irqPulse P.HSPI (mbit 0) else l
  if stat = Hst.ok then l else l.raise (l.pageSrc P.HSPI 2)

/-- The frame of a READ32 (R352). -/
def hspiReadOf (a : Nat) : List (BitVec 8) :=
  let b := [1, BitVec.ofNat 8 (a / 2 ^ 24), BitVec.ofNat 8 (a / 2 ^ 16), BitVec.ofNat 8 (a / 2 ^ 8), BitVec.ofNat 8 a, 0, 0, 0, 0]
  b ++ [crc8 b]

/-- READ_PARITY_ERROR (R63): an access error to the reader, and the WRPAR source of the page read. The host sees it in
STAT (R353). -/
def execReadParityError (x : Lane) (g : Agent) (addr : Nat) (s : State) : Host.Outcome State Fault Refusal :=
  done (
    if !(s.lane x).alive ∨ (pageInfo addr).isNone then s
    else
      let s := s.parityRaise x addr
      if g = .host then s.modLane x (·.hspiResult (hspiReadOf addr) Hst.accErr 0)
      else s.modLane x (·.accessDone g ⟨addr, 4, none⟩ .error false))

/-- Whether host frames act on the lane: once its start-up has completed, or in service mode (R469, R471). -/
def LaneState.served (l : LaneState) : Bool := decide (l.power.boot = .complete ∨ l.power.boot = .service)

/-- A frame of the host whose command is `cmd`, or that fails a check before (R352 to R354). With `par` the access to a
page meets bad parity (R63): the write's own, or the register's that is read. Any frame aborts the lane's entry into PARK (R438). -/
def State.hspiFrame (s : State) (x : Lane) (cmd : Nat) (f : List (BitVec 8)) (early par : Bool) : State :=
  let s := s.modLane x fun l => if l.alive then l.parkAbort .host else l
  let l := s.lane x
  let chk := hspiCheck f early
  let a := hspiAddr f
  if !l.alive ∨ l.blockFenced P.HSPI ∨ (chk = 0 ∧ hspiCmd f ≠ cmd) then s
  else if chk ≠ 0 then s.modLane x (·.hspiResult f chk 0)
  else if cmd = 0 then s.modLane x (·.hspiResult f Hst.ok 0)
  else if !l.served ∨ !l.hspiAllows a (cmd == 2) then s.modLane x (·.hspiResult f Hst.denied 0)
  else if par ∧ cmd = 1 ∧ (pageInfo a).isSome then (s.parityRaise x a).modLane x (·.hspiResult f Hst.accErr 0)
  else
    let r := s.bus x .host ⟨a, 4, if cmd = 2 then some (BitVec.ofNat 64 (hspiData f)) else none⟩ (if par then 1 else 0)
    r.1.modLane x fun l =>
      if !l.alive then l
      else match r.2 with
      | .data w => l.hspiResult f Hst.ok (w.extractLsb' 0 32)
      | .done => l.hspiResult f (if par ∧ (pageInfo a).isSome then Hst.accErr else Hst.ok) 0
      | .waiting => l
      | _ => l.hspiResult f Hst.accErr 0

def execHspiNop (x : Lane) (frame : List (BitVec 8)) (early : Bool) (s : State) : Host.Outcome State Fault Refusal :=
  done (s.hspiFrame x 0 frame early false)
def execHspiRead32 (x : Lane) (frame : List (BitVec 8)) (m : HostMark) (s : State) : Host.Outcome State Fault Refusal :=
  done (s.hspiFrame x 1 frame m.early m.parity)
def execHspiWrite32 (x : Lane) (frame : List (BitVec 8)) (m : HostMark) (s : State) : Host.Outcome State Fault Refusal :=
  done (s.hspiFrame x 2 frame m.early m.parity)

end Sys2Proof.Machine
end

