-- ==== Sys2Proof/Machine/Xfer.lean ====
section
/-!
DEFINITION. The transfer engine's descriptors and data path (spec/14_transfer_engine.md R419 to R433). Priorities decide
only when beats happen; the commands name the channel whose step it is.
-/
namespace Sys2Proof.Machine
open Sys2Proof

/-! ### Descriptors (R419) -/

/-- Words of a descriptor and their fields. -/
def xw (d : List Word) (i : Nat) : Word := d.getD i 0
def xSrc (d : List Word) : Nat := (xw d 0).toNat + getBits (xw d 2) 0 8 * 2 ^ 32
def xDst (d : List Word) : Nat := (xw d 1).toNat + getBits (xw d 2) 8 8 * 2 ^ 32
def xLen (d : List Word) : Nat := getBits (xw d 3) 0 24
def xSwap (d : List Word) : Nat := getBits (xw d 4) 0 2
def xCrc (d : List Word) : Nat := getBits (xw d 4) 2 2
def xIrq (d : List Word) : Bool := (xw d 4).getLsbD 4
def xSfix (d : List Word) : Bool := (xw d 4).getLsbD 5
def xDfix (d : List Word) : Bool := (xw d 4).getLsbD 6
/-- The beat size in DEVICE ranges and at fixed addresses (R419, R426). -/
def xWidth (d : List Word) : Nat := if (xw d 4).getLsbD 7 then 4 else 8
def xBurst (d : List Word) : Nat := 8 * 2 ^ getBits (xw d 4) 16 3

/-- Both ranges advance and share an address (R425). -/
def xOverlap (d : List Word) : Bool :=
  !xSfix d && !xDfix d && decide (xSrc d < xDst d + xLen d ∧ xDst d < xSrc d + xLen d)
/-- The copy runs in descending order (R425). -/
def xDescending (d : List Word) : Bool := xOverlap d && decide (xSrc d < xDst d)

/-- CAUSE codes (R419). -/
def Cse.srcErr : Nat := 1
def Cse.dstErr : Nat := 2
def Cse.overlap : Nat := 3
def Cse.align : Nat := 4
def Cse.field : Nat := 5
def Cse.length : Nat := 6

/-- What makes a descriptor bad at its fetch: the first row that applies; 0 for none (R421). -/
def xCheck (x : Lane) (d : List Word) : Nat :=
  let w := xWidth d
  let off := fun a : Nat => isDevice x a && (a % w != 0 || xLen d % w != 0)
  if getBits (xw d 2) 16 16 ≠ 0 ∨ getBits (xw d 3) 24 8 ≠ 0 ∨ getBits (xw d 4) 13 3 ≠ 0 ∨ getBits (xw d 4) 19 13 ≠ 0 ∨
      xCrc d = 3 ∨ 5 < getBits (xw d 4) 16 3 ∨ 0x18 ≤ reqselOf d then Cse.field
  else if xLen d = 0 ∨ (xSwap d = 1 ∧ xLen d % 2 ≠ 0) ∨ (2 ≤ xSwap d ∧ xLen d % 4 ≠ 0) then Cse.length
  else if off (xSrc d) || off (xDst d) then Cse.align
  else if xOverlap d ∧ xSwap d ≠ 0 then Cse.overlap else 0

/-! ### Beats -/

/-- The low `n` bytes of a number, little-endian. -/
def leBytes (n v : Nat) : List (BitVec 8) := (List.range n).map fun i => BitVec.ofNat 8 (v / 2 ^ (8 * i))
/-- Bytes, little-endian, as a number. -/
def leNat (bs : List (BitVec 8)) : Nat := bs.foldr (fun b n => b.toNat + 256 * n) 0

/-- The address in the peer's memory that a beat in the peer window reads. -/
def peerSram (a : Nat) : Option Nat := (peerAddress a).filter inSram

/-- A read beat that waits: for the checkpoint of a pair that holds its line uncommitted (R95), or in the bridge-die window
for the lane's earlier writes (R68). -/
def State.beatWaits (s : State) (x : Lane) (a n : Nat) : Bool :=
  match regionOf x a with
  | .sram => (s.lane x).heldU a n
  | .brgWin => (s.lane x).blUp && !brgPerLane a && (s.lane x).writesWait
  | .peerWin => ((peerSram a).map fun t => (s.lane x.peer).heldU t n).getD false
  | _ => false

/-- The checkpoints that a waiting read forces. -/
def State.beatForces (s : State) (x : Lane) (a n : Nat) : State :=
  match regionOf x a with
  | .sram => s.modLane x (·.snoopAll a n)
  | .peerWin => match peerSram a with
    | some t => s.modLane x.peer (·.snoopAll t n)
    | none => s
  | _ => s

/-- A read beat: `n` bytes at `a`, or an error (R429). Reads through the windows complete within the beat here. -/
def State.beatRead (s : State) (x : Lane) (a n : Nat) : State × Option (List (BitVec 8)) :=
  let l := s.lane x
  match regionOf x a with
  | .mram => (s, if a + n ≤ 0x01000000 then some (leBytes n (l.load a n)) else none)
  | .sram => (s, if inSram (a + n - 1) then some (l.dmaBytes a n) else none)
  | .brgWin =>
    if n ≠ 4 ∨ a % 4 ≠ 0 then (s, none)
    else if brgPerLane a then (s, some (wordBytes (l.rd a)))
    else if !l.blUp then (s, none)
    else (s, some (wordBytes (s.brg.rd a)))
  | .peerWin =>
    match peerAddress a with
    | some t =>
      if !aligned a n || decide (n < 4) || !l.llUp || !(s.lane x.peer).alive then (s, none)
      else (s.freeNext, (s.peerWords x.peer t (n / 4)).map fun ws => ws.flatMap wordBytes)
    | none => (s, none)
  | _ =>
    let r := s.busRead x .xfr a n
    match r.2 with
    | .data w => (r.1, some (leBytes n w.toNat))
    | _ => (r.1, none)

/-- A write beat, and whether it succeeded. -/
def State.beatWrite (s : State) (x : Lane) (a : Nat) (bs : List (BitVec 8)) : State × Bool :=
  let n := bs.length
  match regionOf x a with
  | .sram => if inSram (a + n - 1) then (s.modLane x (·.dmaPutBytes a bs), true) else (s, false)
  | _ =>
    let r := s.busWrite x .xfr a n (BitVec.ofNat 64 (leNat bs)) 0
    (r.1, r.2 == .done)

/-- The beats that cover `b` bytes from offset `lo`, `w` bytes each, as offsets and sizes. -/
def beatList (lo b w : Nat) : List (Nat × Nat) :=
  (List.range ((b + w - 1) / w)).map fun i => (lo + i * w, min w (b - i * w))

/-- SWAP within elements (R426). -/
def swapBytes (mode : Nat) (bs : List (BitVec 8)) : List (BitVec 8) :=
  let at_ := fun i => bs.getD i 0
  (List.range bs.length).map fun i =>
    match mode with
    | 1 => at_ (i / 2 * 2 + (1 - i % 2))
    | 2 => at_ (i / 4 * 4 + (3 - i % 4))
    | 3 => at_ (i / 4 * 4 + (i % 4 + 2) % 4)
    | _ => at_ i

/-- One byte of the CRC-32 of R428 over the value before inversion. -/
def crc32Byte (crc : Word) (b : BitVec 8) : Word :=
  (List.range 8).foldl (fun c _ => if c.getLsbD 0 then (c >>> 1) ^^^ 0xEDB88320 else c >>> 1) (crc ^^^ b.setWidth 32)

/-- The reads of a burst in their order, bytes by rising address; none after an error. -/
def State.readBeats (s : State) (x : Lane) (addr : Nat → Nat) (down : Bool) :
    List (Nat × Nat) → State × Option (List (BitVec 8))
  | [] => (s, some [])
  | e :: r =>
    let h := s.beatRead x (addr e.1) e.2
    match h.2 with
    | none => (h.1, none)
    | some bs =>
      let t := h.1.readBeats x addr down r
      (t.1, t.2.map fun cs => if down then cs ++ bs else bs ++ cs)

/-- A channel's destination bytes are counted (R428, R432), and the engine's beat. -/
def LaneState.xferCount (l : LaneState) (c : Nat) (bs : List (BitVec 8)) (crcOn : Bool) : LaneState :=
  if !l.alive then l else
  let l := l.modX c fun q => { q with crc := if crcOn then bs.foldl crc32Byte q.crc else q.crc }
  let l := l.put (F.XFR_CHPOS_DONE c) (l.get (F.XFR_CHPOS_DONE c) + bs.length)
  let n := (l.rd R.XFR_XBYTES_LO).toNat + (l.rd R.XFR_XBYTES_HI).toNat * 2 ^ 32 + bs.length
  (l.wr R.XFR_XBYTES_LO (halfOf n false)).wr R.XFR_XBYTES_HI (halfOf n true)

/-- Beats that channel `c` issued. -/
def LaneState.beats (l : LaneState) (c n : Nat) : LaneState :=
  if n = 0 ∨ !l.alive then l else (l.put F.XFR_XSTAT_LAST c).countN P.XFR 1 n

/-- The writes of a burst in their order, `data` giving the bytes of a beat; false after an error (R429). -/
def State.writeBeats (s : State) (x : Lane) (c : Nat) (addr : Nat → Nat) (data : Nat → Nat → List (BitVec 8))
    (down crcOn : Bool) : List (Nat × Nat) → State × Bool
  | [] => (s, true)
  | e :: r =>
    let bs := data e.1 e.2
    let h := s.beatWrite x (addr e.1) bs
    let s := h.1.modLane x (·.beats c 1)
    if h.2 then
      (s.modLane x (·.xferCount c (if down then bs.reverse else bs) crcOn)).writeBeats x c addr data down crcOn r
    else (s, false)

/-- A data beat meets an error: the descriptor is bad and BUSERR raised (R429). -/
def LaneState.xferError (l : LaneState) (c cause : Nat) : LaneState :=
  if !l.alive then l else (l.modX c fun q => { q with cause := cause }).raise 70

/-- One burst of channel `c`, or what is left of the descriptor; at most `most` bytes are written (R424 to R429). A burst
with a read that waits does not begin. -/
def State.moveBurst (s : State) (x : Lane) (c most : Nat) : State :=
  let l := s.lane x
  let q := l.xchan c
  match q.desc with
  | none => s
  | some d =>
    let pos := l.get (F.XFR_CHPOS_DONE c)
    let b := min (xBurst d) (xLen d - pos)
    if q.cause ≠ 0 ∨ b = 0 then s
    else
      let down := xDescending d
      let lo := if down then xLen d - pos - b else pos
      let wide := fun (fix : Bool) a => if fix || isDevice x a then xWidth d else 8
      let order := fun bs : List (Nat × Nat) => if down then bs.reverse else bs
      let rd := order (beatList lo b (wide (xSfix d) (xSrc d)))
      let src := fun o => if xSfix d then xSrc d else xSrc d + o
      let r := s.readBeats x src down rd
      if rd.any fun e => s.beatWaits x (src e.1) e.2 then rd.foldl (fun (s : State) e => s.beatForces x (src e.1) e.2) s
      else
        let s := r.1.modLane x (·.beats c rd.length)
        match r.2 with
        | none => s.modLane x (·.xferError c Cse.srcErr)
        | some bs =>
          let bs := swapBytes (xSwap d) bs
          let w := wide (xDfix d) (xDst d)
          let wr := (order (beatList lo b w)).take ((most + w - 1) / w)
          let t := s.writeBeats x c (fun o => if xDfix d then xDst d else xDst d + o)
            (fun o n => (bs.drop (o - lo)).take n) down (xCrc d ≠ 0) wr
          if t.2 then t.1 else t.1.modLane x (·.xferError c Cse.dstErr)

/-- Bursts while `n` lasts and the progress stays within `upTo` bytes. -/
def State.moveBursts (s : State) (x : Lane) (c upTo : Nat) : Nat → State
  | 0 => s
  | n + 1 =>
    let l := s.lane x
    let d := (l.xchan c).desc.getD []
    let pos := l.get (F.XFR_CHPOS_DONE c)
    if (l.xchan c).cause ≠ 0 ∨ xLen d ≤ pos ∨ upTo < pos + min (xBurst d) (xLen d - pos) then s
    else (s.moveBurst x c (xBurst d)).moveBursts x c upTo n

/-- Bursts that a descriptor has left. -/
def LaneState.burstsLeft (l : LaneState) (c : Nat) : Nat :=
  let d := (l.xchan c).desc.getD []
  (xLen d - l.get (F.XFR_CHPOS_DONE c)) / xBurst d + 1

/-! ### The commands -/

/-- Whether channel `c` works: block and channel on. -/
def LaneState.chnOn (l : LaneState) (c : Nat) : Bool :=
  l.blockOn P.XFR && l.get (F.run P.XFR) == 1 && l.get (F.XFR_CHCTRL_EN c) == 1

/-- The fetched copy of a descriptor: not owned leaves the channel IDLE, or fetching again after a kick (R420, R421,
R423, R431). -/
def LaneState.fetched (l : LaneState) (c home : Nat) (d : List Word) : LaneState :=
  if !((xw d 7).getLsbD 31) then
    if (l.xchan c).kick then l.modX c fun q => { q with kick := false } else l.setChn c Chn.idle
  else
    let bad := xCheck l.id d
    let l := (l.modX c fun q => { q with
      desc := some d, home := home, kick := false, cause := bad, extra := 0
      crc := if bad ≠ 0 then q.crc else if xCrc d = 1 ∨ (xCrc d = 2 ∧ !q.ran) then 0xFFFFFFFF else q.crc
      ran := q.ran || (bad == 0 && xCrc d ≠ 0) }).put (F.XFR_CHPOS_DONE c) 0
    l.setChn c (if reqselOf d = 0 ∨ bad ≠ 0 then Chn.active else Chn.waitReq)

/-- DESCRIPTOR_FETCH_COMPLETE (R420, R421, R423): a fetch outside working SRAM, or that meets an error, puts the channel in
ERROR. `lats`, here and below, are the fabric cycles of the reads that missed L2 (R487). -/
def execDescriptorFetchComplete (x : Lane) (f : ChannelFetch) (s : State) : Host.Outcome State Fault Refusal :=
  onLane x (fun l =>
    let c := f.chan.val
    let a := (l.rd (R.XFR_CHRBASE c)).toNat + 32 * l.get (F.XFR_CHSTAT_IDX c)
    if !l.chnOn c ∨ l.chnState c ≠ Chn.fetch then l
    else if f.err ∨ !inSram a ∨ !inSram (a + 31) then (l.setChn c Chn.error).raise 70
    else if l.heldU a 32 then l.snoopAll a 32
    else ((l.memLat 4 f.lats).beats c 4).fetched c a ((List.range 8).map fun i => l.dmaWord (a + 4 * i))) s

/-- PACED_BURST_GRANT (R427): a burst of a channel whose request is high; `withdrawn` says that it is low in the cycle
of the first read beat. -/
def execPacedBurstGrant (x : Lane) (c : Fin 16) (b : BurstMark) (s : State) : Host.Outcome State Fault Refusal :=
  let l := s.lane x
  let c := c.val
  let req := reqselOf ((l.xchan c).desc.getD [])
  done (
    if !l.chnOn c ∨ l.chnState c ≠ Chn.waitReq ∨ !l.reqHigh s.freeCtr req then s
    else
      let s := s.moveBurst x c 256
      s.modLane x fun m =>
        if (m.xchan c).cause = 0 ∧ m.get (F.XFR_CHPOS_DONE c) = l.get (F.XFR_CHPOS_DONE c) then m else
        let m := m.memLat 4 b.lats
        let l := { m with xfr := { m.xfr with latch := m.xfr.latch.filter (· ≠ req) } }
        let l := if b.withdrawn then ((l.modX c fun q => { q with extra := min 255 (q.extra + 1) }).bump (F.XFR_CHSTAT_EXTRA c)
          1).count P.XFR 5 else l
        let q := l.xchan c
        if q.cause ≠ 0 ∨ xLen (q.desc.getD []) ≤ l.get (F.XFR_CHPOS_DONE c) then l.setChn c Chn.active else l)

/-- TRANSFER_BUS_ERROR (R429): an error, which the map does not tell, at the beat that follows `bytes` bytes of the
descriptor. -/
def execTransferBusError (x : Lane) (c : Fin 16) (bytes : Nat) (read : Bool) (s : State) :
    Host.Outcome State Fault Refusal :=
  let l := s.lane x
  let c := c.val
  let d := (l.xchan c).desc.getD []
  let paced := decide (l.chnState c = Chn.waitReq)
  done (
    if !l.chnOn c ∨ (l.xchan c).desc.isNone ∨ (l.xchan c).cause ≠ 0 ∨ xLen d ≤ bytes ∨
        (l.chnState c ≠ Chn.active ∧ !(paced ∧ l.reqHigh s.freeCtr (reqselOf d))) then s
    else
      let s := if paced then s else s.moveBursts x c bytes (l.burstsLeft c)
      let pos := (s.lane x).get (F.XFR_CHPOS_DONE c)
      let s := if read ∨ bytes - pos < 8 then s else s.moveBurst x c ((bytes - pos) / 8 * 8)
      s.modLane x fun l =>
        if (l.xchan c).cause ≠ 0 then l.setChn c Chn.active
        else if l.get (F.XFR_CHPOS_DONE c) + xBurst d ≤ bytes then l
        else (l.xferError c (if read then Cse.srcErr else Cse.dstErr)).setChn c Chn.active)

/-- The write-back of a finished descriptor (R420, R428, R430, R433). -/
def LaneState.writeBackDesc (l : LaneState) (c : Nat) (d : List Word) : LaneState :=
  if !l.alive then l else
  let q := l.xchan c
  let bad := decide (q.cause ≠ 0)
  let crcv : Word := if xCrc d = 0 ∨ Cse.overlap ≤ q.cause then 0 else ~~~q.crc
  let w7 := bit bad * 2 ^ 30 + q.cause * 2 ^ 24 + q.extra * 2 ^ 16 + bit (xDescending d && decide (q.cause < Cse.overlap))
  let l := (l.dmaStore (q.home + 20) 4 (l.get (F.XFR_CHPOS_DONE c))).dmaStore (q.home + 24) 4 crcv.toNat
  let l := (l.dmaStore (q.home + 28) 4 w7).beats c 2
  let l := l.bump (if bad then F.XFR_CHCNT_BAD c else F.XFR_CHCNT_OK c) 1
  let l := l.put (F.XFR_CHSTAT_IDX c) ((l.get (F.XFR_CHSTAT_IDX c) + 1) % max 1 (l.get (F.XFR_CHRLEN_N c)))
  let l := if Cse.overlap ≤ q.cause then l.raise 71 else l
  let l := l.irqPulse P.XFR ((if xIrq d then mbit c else 0) ||| if bad then mbit 16 else 0)
  let l := if xIrq d ∨ (bad ∧ l.get (F.XFR_CHCTRL_BADMSG c) = 1) then l.sendMsg (R.XFR_CHMSG c) else l
  let l := (l.modX c fun q => { q with desc := none, cause := 0, extra := 0 }).count P.XFR (if bad then 3 else 2)
  l.setChn c Chn.fetch

/-- Whether the write-back of a descriptor waits: a destination write of it is not complete, or the line of its last words
is held uncommitted (R420, R95). -/
def LaneState.backWaits (l : LaneState) (c : Nat) (d : List Word) : Bool :=
  let n := if xDfix d then 8 else xLen d
  l.uStores.any (fun e => decide (xDst d ≤ e.1 ∧ e.1 < xDst d + n)) || l.heldU ((l.xchan c).home + 20) 12

/-- DESCRIPTOR_WRITE_BACK (R420, R425, R426, R428): the rest of an unpaced descriptor moves, up to an error, and the
descriptor is written back; the channel fetches the next. While a read or a write of it waits (R68, R95) the descriptor is
not finished. -/
def execDescriptorWriteBack (x : Lane) (w : ChannelWriteBack) (s : State) : Host.Outcome State Fault Refusal :=
  let c := w.chan.val
  let l := s.lane x
  match (l.xchan c).desc with
  | none => done s
  | some d =>
    if !l.chnOn c ∨ l.chnState c ≠ Chn.active then done s
    else
      let s := (s.modLane x (·.memLat 4 w.lats)).moveBursts x c (xLen d) (l.burstsLeft c)
      done (s.modLane x fun l =>
        if (l.xchan c).cause = 0 ∧ l.get (F.XFR_CHPOS_DONE c) < xLen d then l
        else if l.backWaits c d then l.snoopAll ((l.xchan c).home + 20) 12
        else l.writeBackDesc c d)

/-- CHANNEL_DISABLE (R431): `bytes` more have moved, in whole bursts, when the channel stops. -/
def execChannelDisable (x : Lane) (c : Fin 16) (v : Word) (bytes : Nat) (s : State) : Host.Outcome State Fault Refusal :=
  let l := s.lane x
  let s := if l.chnOn c.val ∧ l.chnState c.val = Chn.active ∧ v.getLsbD 0 = false then
      s.moveBursts x c.val (l.get (F.XFR_CHPOS_DONE c.val) + bytes) (l.burstsLeft c.val) else s
  done (s.modLane x (·.chctrlWrite c.val v))

end Sys2Proof.Machine
end

