-- ==== Sys2Proof/Machine/Dispatch.lean ====
section
/-!
DEFINITION. Which meaning each command has: one arm per constructor of Instr.
-/
namespace Sys2Proof.Machine
open Sys2Proof

def exec (i : Instr) (s : State) : Host.Outcome State Fault Refusal :=
  match i with
  | .phaseCmdReceived l n arg u v w => Sys2Proof.Machine.execPhaseCmdReceived l n arg u v w s
  | .verdictReceived l arg payload => Sys2Proof.Machine.execVerdictReceived l arg payload s
  | .duplexOutReceived l slot rot fn outs => Sys2Proof.Machine.execDuplexOutReceived l slot rot fn outs s
  | .verdictDeadline l slot => Sys2Proof.Machine.execVerdictDeadline l slot s
  | .pwmPeriodBoundary n t => Sys2Proof.Machine.execPwmPeriodBoundary n t s
  | .bridgeTerminalEntry n => Sys2Proof.Machine.execBridgeTerminalEntry n s
  | .bridgeLinkFrameReceived l up words parityOk => Sys2Proof.Machine.execBridgeLinkFrameReceived l up words parityOk s
  | .laneLinkFrameReceived l words parityOk => Sys2Proof.Machine.execLaneLinkFrameReceived l words parityOk s
  | .linkSilenceTimeout e => Sys2Proof.Machine.execLinkSilenceTimeout e s
  | .linkCountingIntervalEnd e => Sys2Proof.Machine.execLinkCountingIntervalEnd e s
  | .syncAbsenceIntervalTimeout l => Sys2Proof.Machine.execSyncAbsenceIntervalTimeout l s
  | .laneLinkFrameStart l cycle => Sys2Proof.Machine.execLaneLinkFrameStart l cycle s
  | .bridgeSyncReceived l arg payload => Sys2Proof.Machine.execBridgeSyncReceived l arg payload s
  | .laneLinkSyncReceived l fnLo fnHi cyc corr => Sys2Proof.Machine.execLaneLinkSyncReceived l fnLo fnHi cyc corr s
  | .masterPeriodBoundary => Sys2Proof.Machine.execMasterPeriodBoundary s
  | .currentConversionStart samples => Sys2Proof.Machine.execCurrentConversionStart samples s
  | .currentFrameReceived l n m u v w => Sys2Proof.Machine.execCurrentFrameReceived l n m u v w s
  | .overcurrentDetected n p => Sys2Proof.Machine.execOvercurrentDetected n p s
  | .statusFrameReceived l n arg payload => Sys2Proof.Machine.execStatusFrameReceived l n arg payload s
  | .regWrReceived l n offset data parityOk => Sys2Proof.Machine.execRegWrReceived l n offset data parityOk s
  | .regRdReceived l n offset => Sys2Proof.Machine.execRegRdReceived l n offset s
  | .regRspReceived l data => Sys2Proof.Machine.execRegRspReceived l data s
  | .bridgeWindowWrite l g a => Sys2Proof.Machine.execBridgeWindowWrite l g a s
  | .bridgeWindowRead l g a => Sys2Proof.Machine.execBridgeWindowRead l g a s
  | .bridgeReadTimeout l g => Sys2Proof.Machine.execBridgeReadTimeout l g s
  | .registerWrite l g a bad => Sys2Proof.Machine.execRegisterWrite l g a bad s
  | .readParityError l g addr => Sys2Proof.Machine.execReadParityError l g addr s
  | .softReset l g page => Sys2Proof.Machine.execSoftReset l g page s
  | .blockRun l g page => Sys2Proof.Machine.execBlockRun l g page s
  | .blockStopRequest l g page => Sys2Proof.Machine.execBlockStopRequest l g page s
  | .blockStopComplete l page => Sys2Proof.Machine.execBlockStopComplete l page s
  | .lockkeyWrite l g page v => Sys2Proof.Machine.execLockkeyWrite l g page v s
  | .counterLowRead l g addr => Sys2Proof.Machine.execCounterLowRead l g addr s
  | .counterHighWrite l g addr v => Sys2Proof.Machine.execCounterHighWrite l g addr v s
  | .counterLowWrite l g addr v => Sys2Proof.Machine.execCounterLowWrite l g addr v s
  | .imsicMessageDelivery l w ident => Sys2Proof.Machine.execImsicMessageDelivery l w ident s
  | .nop l => Sys2Proof.Machine.execNop l s
  | .renew l => Sys2Proof.Machine.execRenew l s
  | .release l => Sys2Proof.Machine.execRelease l s
  | .standby l => Sys2Proof.Machine.execStandby l s
  | .driveOn l => Sys2Proof.Machine.execDriveOn l s
  | .driveOff l => Sys2Proof.Machine.execDriveOff l s
  | .park l => Sys2Proof.Machine.execPark l s
  | .faultAck l => Sys2Proof.Machine.execFaultAck l s
  | .faultClear l => Sys2Proof.Machine.execFaultClear l s
  | .goSafe l => Sys2Proof.Machine.execGoSafe l s
  | .peerWindowRead l g a => Sys2Proof.Machine.execPeerWindowRead l g a s
  | .peerRdReqReceived l tag addrLo addrHi count => Sys2Proof.Machine.execPeerRdReqReceived l tag addrLo addrHi count s
  | .peerRdRspReceived l tag words => Sys2Proof.Machine.execPeerRdRspReceived l tag words s
  | .peerReadTimeout l g => Sys2Proof.Machine.execPeerReadTimeout l g s
  | .przCkpt l p w => Sys2Proof.Machine.execPrzCkpt l p w s
  | .przCksn l p w => Sys2Proof.Machine.execPrzCksn l p w s
  | .przLogfree l p w => Sys2Proof.Machine.execPrzLogfree l p w s
  | .checkpointTimerExpiry l p => Sys2Proof.Machine.execCheckpointTimerExpiry l p s
  | .paircmdCkpt l g p => Sys2Proof.Machine.execPaircmdCkpt l g p s
  | .paircmdRevive l g p => Sys2Proof.Machine.execPaircmdRevive l g p s
  | .checkpointCommit l c => Sys2Proof.Machine.execCheckpointCommit l c s
  | .forceCheckpointSet l p addr => Sys2Proof.Machine.execForceCheckpointSet l p addr s
  | .forceCheckpointSnoop l p addr => Sys2Proof.Machine.execForceCheckpointSnoop l p addr s
  | .deviceAccessRelease l p d => Sys2Proof.Machine.execDeviceAccessRelease l p d s
  | .lockstepMismatch l p group eic => Sys2Proof.Machine.execLockstepMismatch l p group eic s
  | .checkpointRestartComplete l p => Sys2Proof.Machine.execCheckpointRestartComplete l p s
  | .replayDivergence l p => Sys2Proof.Machine.execReplayDivergence l p s
  | .replayEnd l p => Sys2Proof.Machine.execReplayEnd l p s
  | .cacheCorrectableError l p => Sys2Proof.Machine.execCacheCorrectableError l p s
  | .cacheUncorrectableError l p addr l2 => Sys2Proof.Machine.execCacheUncorrectableError l p addr l2 s
  | .debugHaltRequest l p cause => Sys2Proof.Machine.execDebugHaltRequest l p cause s
  | .debugModeEntry l p => Sys2Proof.Machine.execDebugModeEntry l p s
  | .debugResume l p => Sys2Proof.Machine.execDebugResume l p s
  | .debugAccessRegister l p regno write => Sys2Proof.Machine.execDebugAccessRegister l p regno write s
  | .debugProgramBuffer l p changes => Sys2Proof.Machine.execDebugProgramBuffer l p changes s
  | .debugSystemBusAccess l a => Sys2Proof.Machine.execDebugSystemBusAccess l a s
  | .debugHartreset l p => Sys2Proof.Machine.execDebugHartreset l p s
  | .debugNdmreset l => Sys2Proof.Machine.execDebugNdmreset l s
  | .eMac l w => Sys2Proof.Machine.execEMac l w s
  | .eMsu l w => Sys2Proof.Machine.execEMsu l w s
  | .eMpy l w => Sys2Proof.Machine.execEMpy l w s
  | .eVmac l w => Sys2Proof.Machine.execEVmac l w s
  | .eVmpy l w => Sys2Proof.Machine.execEVmpy l w s
  | .eAdda l w => Sys2Proof.Machine.execEAdda l w s
  | .eLda l w => Sys2Proof.Machine.execELda l w s
  | .eVclr l w => Sys2Proof.Machine.execEVclr l w s
  | .eMove l w => Sys2Proof.Machine.execEMove l w s
  | .eRnd l w => Sys2Proof.Machine.execERnd l w s
  | .eLdi l w => Sys2Proof.Machine.execELdi l w s
  | .eLdih l w => Sys2Proof.Machine.execELdih l w s
  | .eMaci l w => Sys2Proof.Machine.execEMaci l w s
  | .eMpyi l w => Sys2Proof.Machine.execEMpyi l w s
  | .eAddi l w => Sys2Proof.Machine.execEAddi l w s
  | .eMov l w => Sys2Proof.Machine.execEMov l w s
  | .eAdd l w => Sys2Proof.Machine.execEAdd l w s
  | .eSub l w => Sys2Proof.Machine.execESub l w s
  | .eAdds l w => Sys2Proof.Machine.execEAdds l w s
  | .eSubs l w => Sys2Proof.Machine.execESubs l w s
  | .eAnd l w => Sys2Proof.Machine.execEAnd l w s
  | .eOr l w => Sys2Proof.Machine.execEOr l w s
  | .eXor l w => Sys2Proof.Machine.execEXor l w s
  | .eShl l w => Sys2Proof.Machine.execEShl l w s
  | .eSar l w => Sys2Proof.Machine.execESar l w s
  | .eShr l w => Sys2Proof.Machine.execEShr l w s
  | .eMin l w => Sys2Proof.Machine.execEMin l w s
  | .eMax l w => Sys2Proof.Machine.execEMax l w s
  | .eClamp l w => Sys2Proof.Machine.execEClamp l w s
  | .eAbs l w => Sys2Proof.Machine.execEAbs l w s
  | .eNeg l w => Sys2Proof.Machine.execENeg l w s
  | .eAgcfg l w => Sys2Proof.Machine.execEAgcfg l w s
  | .eAgset l w => Sys2Proof.Machine.execEAgset l w s
  | .eAgget l w => Sys2Proof.Machine.execEAgget l w s
  | .eXld l w => Sys2Proof.Machine.execEXld l w s
  | .eXst l w => Sys2Proof.Machine.execEXst l w s
  | .eCrdrot l w => Sys2Proof.Machine.execECrdrot l w s
  | .eCrdvec l w => Sys2Proof.Machine.execECrdvec l w s
  | .cordicResultReady l => Sys2Proof.Machine.execCordicResultReady l s
  | .eCrdget l w => Sys2Proof.Machine.execECrdget l w s
  | .eGetsw l w => Sys2Proof.Machine.execEGetsw l w s
  | .eClrsw l w => Sys2Proof.Machine.execEClrsw l w s
  | .eBr l w => Sys2Proof.Machine.execEBr l w s
  | .eLoop l w => Sys2Proof.Machine.execELoop l w s
  | .eEnd l w => Sys2Proof.Machine.execEEnd l w s
  | .frameStart l lateCommit lateSwaps => Sys2Proof.Machine.execFrameStart l lateCommit lateSwaps s
  | .tableCommitRequest l v => Sys2Proof.Machine.execTableCommitRequest l v s
  | .coefficientSwapRequest l c v => Sys2Proof.Machine.execCoefficientSwapRequest l c v s
  | .loopEngineRun l v => Sys2Proof.Machine.execLoopEngineRun l v s
  | .slotSnapshot l n => Sys2Proof.Machine.execSlotSnapshot l n s
  | .slotEntry l => Sys2Proof.Machine.execSlotEntry l s
  | .slotOverrun l => Sys2Proof.Machine.execSlotOverrun l s
  | .slotOutputStage l => Sys2Proof.Machine.execSlotOutputStage l s
  | .slotLaunch l n => Sys2Proof.Machine.execSlotLaunch l n s
  | .trackerAnalysisComplete l k cycles => Sys2Proof.Machine.execTrackerAnalysisComplete l k cycles s
  | .trackerAccept l k bin => Sys2Proof.Machine.execTrackerAccept l k bin s
  | .trackerReject l k bin => Sys2Proof.Machine.execTrackerReject l k bin s
  | .trkcfgWrite l k v => Sys2Proof.Machine.execTrkcfgWrite l k v s
  | .plcCommit l => Sys2Proof.Machine.execPlcCommit l s
  | .plcReplace l => Sys2Proof.Machine.execPlcReplace l s
  | .initRefillComplete l => Sys2Proof.Machine.execInitRefillComplete l s
  | .placementRunStart l fn => Sys2Proof.Machine.execPlacementRunStart l fn s
  | .placeTrigReceived l mask fn => Sys2Proof.Machine.execPlaceTrigReceived l mask fn s
  | .placeInputReceived l run digest slots rest holders => Sys2Proof.Machine.execPlaceInputReceived l run digest slots rest holders s
  | .placeResultReceived l run digest lead => Sys2Proof.Machine.execPlaceResultReceived l run digest lead s
  | .stateLoadComplete l => Sys2Proof.Machine.execStateLoadComplete l s
  | .placementEffect l => Sys2Proof.Machine.execPlacementEffect l s
  | .placeSnapReceived l c fn => Sys2Proof.Machine.execPlaceSnapReceived l c fn s
  | .mirrorFrameReceived l c offset words => Sys2Proof.Machine.execMirrorFrameReceived l c offset words s
  | .placePlcstateReceived l first words => Sys2Proof.Machine.execPlacePlcstateReceived l first words s
  | .placeSyncedReceived l c => Sys2Proof.Machine.execPlaceSyncedReceived l c s
  | .rampOutput l c => Sys2Proof.Machine.execRampOutput l c s
  | .laneHeartbeatStart l => Sys2Proof.Machine.execLaneHeartbeatStart l s
  | .heartbeatMissing l => Sys2Proof.Machine.execHeartbeatMissing l s
  | .laneStartUpComplete l us => Sys2Proof.Machine.execLaneStartUpComplete l us s
  | .startTimeout => Sys2Proof.Machine.execStartTimeout s
  | .kilnFailWire l => Sys2Proof.Machine.execKilnFailWire l s
  | .laneDownFlag l => Sys2Proof.Machine.execLaneDownFlag l s
  | .leaseExpiry d => Sys2Proof.Machine.execLeaseExpiry d s
  | .standbyReadyExpiry l d => Sys2Proof.Machine.execStandbyReadyExpiry l d s
  | .selfDiagnosisRise l d => Sys2Proof.Machine.execSelfDiagnosisRise l d s
  | .selectReceived w => Sys2Proof.Machine.execSelectReceived w s
  | .selectAck codes acts cycles => Sys2Proof.Machine.execSelectAck codes acts cycles s
  | .selectRepeat => Sys2Proof.Machine.execSelectRepeat s
  | .selectPeriodic => Sys2Proof.Machine.execSelectPeriodic s
  | .selectTimeout => Sys2Proof.Machine.execSelectTimeout s
  | .orphanTimeout => Sys2Proof.Machine.execOrphanTimeout s
  | .bedrockHalfRetire h0 h1 => Sys2Proof.Machine.execBedrockHalfRetire h0 h1 s
  | .feedPowerOnRise l tst tstd => Sys2Proof.Machine.execFeedPowerOnRise l tst tstd s
  | .feedPowerOnFall l => Sys2Proof.Machine.execFeedPowerOnFall l s
  | .feedUndervoltageFall l => Sys2Proof.Machine.execFeedUndervoltageFall l s
  | .feedUndervoltageRise l => Sys2Proof.Machine.execFeedUndervoltageRise l s
  | .gateSupplyFall l => Sys2Proof.Machine.execGateSupplyFall l s
  | .gateSupplyRise l => Sys2Proof.Machine.execGateSupplyRise l s
  | .gateSuppliesLostTimeout => Sys2Proof.Machine.execGateSuppliesLostTimeout s
  | .bootstrapUndervoltage n p v => Sys2Proof.Machine.execBootstrapUndervoltage n p v s
  | .bootuvFaultLatch n p => Sys2Proof.Machine.execBootuvFaultLatch n p s
  | .prechargeEnd n => Sys2Proof.Machine.execPrechargeEnd n s
  | .commutationCodeChange n pins => Sys2Proof.Machine.execCommutationCodeChange n pins s
  | .interlockRefusal n p => Sys2Proof.Machine.execInterlockRefusal n p s
  | .desatDetected n sw => Sys2Proof.Machine.execDesatDetected n sw s
  | .bridgeSupplyUndervoltage v => Sys2Proof.Machine.execBridgeSupplyUndervoltage v s
  | .bridgeSupplyOvervoltage v => Sys2Proof.Machine.execBridgeSupplyOvervoltage v s
  | .overtemperature n temp => Sys2Proof.Machine.execOvertemperature n temp s
  | .temperatureWarning n temp => Sys2Proof.Machine.execTemperatureWarning n temp s
  | .benFall n => Sys2Proof.Machine.execBenFall n s
  | .benLowTimeout n => Sys2Proof.Machine.execBenLowTimeout n s
  | .benRise n lowNs vbsOk uvOk ovOk tempOk => Sys2Proof.Machine.execBenRise n lowNs vbsOk uvOk ovOk tempOk s
  | .terminalRequest l n key => Sys2Proof.Machine.execTerminalRequest l n key s
  | .masterTimebaseStart => Sys2Proof.Machine.execMasterTimebaseStart s
  | .bridgePllLockLoss => Sys2Proof.Machine.execBridgePllLockLoss s
  | .bridgePllLock => Sys2Proof.Machine.execBridgePllLock s
  | .orphStrapSample samples => Sys2Proof.Machine.execOrphStrapSample samples s
  | .quadratureStateChange l k was code h => Sys2Proof.Machine.execQuadratureStateChange l k was code h s
  | .hallCodeChange l k code h => Sys2Proof.Machine.execHallCodeChange l k code h s
  | .toothEdge l k e => Sys2Proof.Machine.execToothEdge l k e s
  | .pdirPulse l k v b h => Sys2Proof.Machine.execPdirPulse l k v b h s
  | .dutyRisingEdge l k e high => Sys2Proof.Machine.execDutyRisingEdge l k e high s
  | .freqRisingEdge l k e => Sys2Proof.Machine.execFreqRisingEdge l k e s
  | .feedbackTimeout l k => Sys2Proof.Machine.execFeedbackTimeout l k s
  | .speedWindowEnd l k => Sys2Proof.Machine.execSpeedWindowEnd l k s
  | .channelConfigReset l k reg v => Sys2Proof.Machine.execChannelConfigReset l k reg v s
  | .posWrite l k v => Sys2Proof.Machine.execPosWrite l k v s
  | .chevtRead l g k => Sys2Proof.Machine.execChevtRead l g k s
  | .dividedOutputStep l j => Sys2Proof.Machine.execDividedOutputStep l j s
  | .sentFrameReceived l p cal nibs pause => Sys2Proof.Machine.execSentFrameReceived l p cal nibs pause s
  | .psi5FrameReceived l p t bits crc viol => Sys2Proof.Machine.execPsi5FrameReceived l p t bits crc viol s
  | .psi5SyncTrigger l p => Sys2Proof.Machine.execPsi5SyncTrigger l p s
  | .sensorLostTimeout l p => Sys2Proof.Machine.execSensorLostTimeout l p s
  | .pevtRead l g p => Sys2Proof.Machine.execPevtRead l g p s
  | .adcstartGo l v => Sys2Proof.Machine.execAdcstartGo l v s
  | .adcFrameTrigger l => Sys2Proof.Machine.execAdcFrameTrigger l s
  | .adcConversionComplete l value => Sys2Proof.Machine.execAdcConversionComplete l value s
  | .adcCalibrationComplete l ok => Sys2Proof.Machine.execAdcCalibrationComplete l ok s
  | .adcfifoRead l g => Sys2Proof.Machine.execAdcfifoRead l g s
  | .portRun l p v => Sys2Proof.Machine.execPortRun l p v s
  | .portStop l p => Sys2Proof.Machine.execPortStop l p s
  | .transmitDeadline l p n => Sys2Proof.Machine.execTransmitDeadline l p n s
  | .actionPoint l p n carrier => Sys2Proof.Machine.execActionPoint l p n carrier s
  | .strataCollision l p => Sys2Proof.Machine.execStrataCollision l p s
  | .strataFrameReceived l p bytes fcsOk t => Sys2Proof.Machine.execStrataFrameReceived l p bytes fcsOk t s
  | .safetyPairTimeout l n => Sys2Proof.Machine.execSafetyPairTimeout l n s
  | .coldstartFrameReceived l p bytes fcsOk => Sys2Proof.Machine.execColdstartFrameReceived l p bytes fcsOk s
  | .slotEnd l p n => Sys2Proof.Machine.execSlotEnd l p n s
  | .cycleEnd l p => Sys2Proof.Machine.execCycleEnd l p s
  | .syncWindowStart l p => Sys2Proof.Machine.execSyncWindowStart l p s
  | .listenTimeout l p => Sys2Proof.Machine.execListenTimeout l p s
  | .coldstartAttempt l p => Sys2Proof.Machine.execColdstartAttempt l p s
  | .coldstartBackoffEnd l p => Sys2Proof.Machine.execColdstartBackoffEnd l p s
  | .integrateTimeout l p => Sys2Proof.Machine.execIntegrateTimeout l p s
  | .cyclePoint l j => Sys2Proof.Machine.execCyclePoint l j s
  | .txrdyWrite l k v => Sys2Proof.Machine.execTxrdyWrite l k v s
  | .rxqRead l g p => Sys2Proof.Machine.execRxqRead l g p s
  | .safeqRead l g => Sys2Proof.Machine.execSafeqRead l g s
  | .canBusIntegrated l n => Sys2Proof.Machine.execCanBusIntegrated l n s
  | .canTxreq l n v => Sys2Proof.Machine.execCanTxreq l n v s
  | .canTxabort l n v bus => Sys2Proof.Machine.execCanTxabort l n v bus s
  | .canFrameSent l n late ago => Sys2Proof.Machine.execCanFrameSent l n late ago s
  | .canArbitrationLost l n late err => Sys2Proof.Machine.execCanArbitrationLost l n late err s
  | .canFrameReceived l n errs f => Sys2Proof.Machine.execCanFrameReceived l n errs f s
  | .canRxpop l n v => Sys2Proof.Machine.execCanRxpop l n v s
  | .canBusOff l n => Sys2Proof.Machine.execCanBusOff l n s
  | .canBusOffRecovery l n => Sys2Proof.Machine.execCanBusOffRecovery l n s
  | .txpoll l v => Sys2Proof.Machine.execTxpoll l v s
  | .ethFrameTransmitted l ago stop busErr => Sys2Proof.Machine.execEthFrameTransmitted l ago stop busErr s
  | .ethFrameReceived l frame fcsOk ago stop busErr => Sys2Proof.Machine.execEthFrameReceived l frame fcsOk ago stop busErr s
  | .ptpadjWrite l v ticks sameTick => Sys2Proof.Machine.execPtpadjWrite l v ticks sameTick s
  | .mdioAccess l v => Sys2Proof.Machine.execMdioAccess l v s
  | .mdioComplete l data => Sys2Proof.Machine.execMdioComplete l data s
  | .hspiNop l frame early => Sys2Proof.Machine.execHspiNop l frame early s
  | .hspiRead32 l frame m => Sys2Proof.Machine.execHspiRead32 l frame m s
  | .hspiWrite32 l frame m => Sys2Proof.Machine.execHspiWrite32 l frame m s
  | .wakePortWrite l addr bytes => Sys2Proof.Machine.execWakePortWrite l addr bytes s
  | .wakePortRead l addr => Sys2Proof.Machine.execWakePortRead l addr s
  | .gpioEdge l k e => Sys2Proof.Machine.execGpioEdge l k e s
  | .goutset l v => Sys2Proof.Machine.execGoutset l v s
  | .goutclr l v => Sys2Proof.Machine.execGoutclr l v s
  | .safetyInputChange a b srst rawA rawB rawSrst sample => Sys2Proof.Machine.execSafetyInputChange a b srst rawA rawB rawSrst sample s
  | .discrepancyTimeout e second => Sys2Proof.Machine.execDiscrepancyTimeout e second s
  | .lcurtOffToleranceExpiry e chB => Sys2Proof.Machine.execLcurtOffToleranceExpiry e chB s
  | .twohandTimeout e => Sys2Proof.Machine.execTwohandTimeout e s
  | .testPulseStart j preA preB => Sys2Proof.Machine.execTestPulseStart j preA preB s
  | .testPulseCheck j lastA lastB endA endB rbFault => Sys2Proof.Machine.execTestPulseCheck j lastA lastB endA endB rbFault s
  | .resetPulseEnd src sample rbOk => Sys2Proof.Machine.execResetPulseEnd src sample rbOk s
  | .sdemandWrite l g v parityOk => Sys2Proof.Machine.execSdemandWrite l g v parityOk s
  | .demandTimeout l => Sys2Proof.Machine.execDemandTimeout l s
  | .laneDiscrepancyTimeout k => Sys2Proof.Machine.execLaneDiscrepancyTimeout k s
  | .pathDiscrepancyTimeout k => Sys2Proof.Machine.execPathDiscrepancyTimeout k s
  | .safeOutputTestPulse k chB readbackHigh => Sys2Proof.Machine.execSafeOutputTestPulse k chB readbackHigh s
  | .outputReadbackFault k chB level => Sys2Proof.Machine.execOutputReadbackFault k chB level s
  | .faultSourceEvent l src unit sameCycle cause => Sys2Proof.Machine.execFaultSourceEvent l src unit sameCycle cause s
  | .laneDownReset l => Sys2Proof.Machine.execLaneDownReset l s
  | .bucketLeave l src => Sys2Proof.Machine.execBucketLeave l src s
  | .shadowExpiry l src => Sys2Proof.Machine.execShadowExpiry l src s
  | .wireFault l src => Sys2Proof.Machine.execWireFault l src s
  | .maskedEnd l src => Sys2Proof.Machine.execMaskedEnd l src s
  | .spineTokenTimeout l => Sys2Proof.Machine.execSpineTokenTimeout l s
  | .laneLinkFaultReceived l src sev => Sys2Proof.Machine.execLaneLinkFaultReceived l src sev s
  | .clrcmdAck l src => Sys2Proof.Machine.execClrcmdAck l src s
  | .clrcmdClear l src => Sys2Proof.Machine.execClrcmdClear l src s
  | .bedrockFaultEvent src l m => Sys2Proof.Machine.execBedrockFaultEvent src l m s
  | .chkick l c v => Sys2Proof.Machine.execChkick l c v s
  | .descriptorFetchComplete l f => Sys2Proof.Machine.execDescriptorFetchComplete l f s
  | .pacedBurstGrant l c m => Sys2Proof.Machine.execPacedBurstGrant l c m s
  | .transferBusError l c bytes read => Sys2Proof.Machine.execTransferBusError l c bytes read s
  | .descriptorWriteBack l w => Sys2Proof.Machine.execDescriptorWriteBack l w s
  | .channelEnable l c v => Sys2Proof.Machine.execChannelEnable l c v s
  | .channelDisable l c v bytes => Sys2Proof.Machine.execChannelDisable l c v bytes s
  | .psreqDoze l g => Sys2Proof.Machine.execPsreqDoze l g s
  | .wfiTimeout l => Sys2Proof.Machine.execWfiTimeout l s
  | .dozeExit l => Sys2Proof.Machine.execDozeExit l s
  | .psreqPark l g => Sys2Proof.Machine.execPsreqPark l g s
  | .parkAbort l who us => Sys2Proof.Machine.execParkAbort l who us s
  | .parkGrant => Sys2Proof.Machine.execParkGrant s
  | .bedrockClockStop => Sys2Proof.Machine.execBedrockClockStop s
  | .wakeEvent l ss => Sys2Proof.Machine.execWakeEvent l ss s
  | .wakeRegulatorsReady l => Sys2Proof.Machine.execWakeRegulatorsReady l s
  | .wakeReferenceReady l => Sys2Proof.Machine.execWakeReferenceReady l s
  | .referenceCrystalTimeout l => Sys2Proof.Machine.execReferenceCrystalTimeout l s
  | .referenceCrystalStop l => Sys2Proof.Machine.execReferenceCrystalStop l s
  | .wakePllLock l => Sys2Proof.Machine.execWakePllLock l s
  | .wakeMemoriesDone l corr uncorr => Sys2Proof.Machine.execWakeMemoriesDone l corr uncorr s
  | .wakeFailed l => Sys2Proof.Machine.execWakeFailed l s
  | .crustTimerMatch l => Sys2Proof.Machine.execCrustTimerMatch l s
  | .clockMonitorExcursion l k off => Sys2Proof.Machine.execClockMonitorExcursion l k off s
  | .fselWrite l v => Sys2Proof.Machine.execFselWrite l v s
  | .vselWrite l v => Sys2Proof.Machine.execVselWrite l v s
  | .coreRailSettled l => Sys2Proof.Machine.execCoreRailSettled l s
  | .rstcmdLane l => Sys2Proof.Machine.execRstcmdLane l s
  | .rstcmdWarm l => Sys2Proof.Machine.execRstcmdWarm l s
  | .peerwake l v => Sys2Proof.Machine.execPeerwake l v s
  | .lostbankClear l high v => Sys2Proof.Machine.execLostbankClear l high v s
  | .resetRelease l => Sys2Proof.Machine.execResetRelease l s
  | .bedrockLoadGrant ra rb => Sys2Proof.Machine.execBedrockLoadGrant ra rb s
  | .bedrockLoadDone => Sys2Proof.Machine.execBedrockLoadDone s
  | .bedrockLoadHolderLoss => Sys2Proof.Machine.execBedrockLoadHolderLoss s
  | .startUpFailure l power => Sys2Proof.Machine.execStartUpFailure l power s
  | .mramProgram l g v => Sys2Proof.Machine.execMramProgram l g v s
  | .mramProgramComplete l => Sys2Proof.Machine.execMramProgramComplete l s
  | .kilnBlockComplete l ok misr => Sys2Proof.Machine.execKilnBlockComplete l ok misr s
  | .kilnSliceComplete l us => Sys2Proof.Machine.execKilnSliceComplete l us s
  | .samplerEnable l v => Sys2Proof.Machine.execSamplerEnable l v s
  | .sampleTag l p => Sys2Proof.Machine.execSampleTag l p s
  | .sampleRecordAppend l p retired pc kind flags daddr cycles dataCycles => Sys2Proof.Machine.execSampleRecordAppend l p retired pc kind flags daddr cycles dataCycles s
  | .smpack l v => Sys2Proof.Machine.execSmpack l v s
  | .histclr l u v => Sys2Proof.Machine.execHistclr l u v s
  | .indexInputEdge l k idx ab => Sys2Proof.Machine.execIndexInputEdge l k idx ab s
  | .ptpsecCarry l ticks => Sys2Proof.Machine.execPtpsecCarry l ticks s
  | .frequencySwitchComplete l => Sys2Proof.Machine.execFrequencySwitchComplete l s
  | .reqcmdWrite l g v => Sys2Proof.Machine.execReqcmdWrite l g v s
  | .workingStore l p w data lats => Sys2Proof.Machine.execWorkingStore l p w data lats s
  | .interruptTaken l p eic latency => Sys2Proof.Machine.execInterruptTaken l p eic latency s
  | .wfiEntry l p => Sys2Proof.Machine.execWfiEntry l p s
  | .wakeInputChange l pin level => Sys2Proof.Machine.execWakeInputChange l pin level s

end Sys2Proof.Machine
end

