-- ==== Sys2Proof/Machine/Step.lean ====
section
/-!
DEFINITION. The step of the block: the command at the front of the queue acts; with none waiting, 1 µs passes. No row of
spec/opcode_table.json has bits, so no word spells a command and withFetchWord changes nothing.
-/
namespace Sys2Proof.Machine
open Sys2Proof

/-- One step: the front command on the queue's rest, or a tick of the model's clock. -/
def step (s : State) : Host.Outcome State Fault Refusal :=
  match s.pending with
  | [] => .next s.tick
  | c :: rest => exec c { s with pending := rest }

/-- The state with the command that a word spells put at the front of its queue; no word spells one. -/
def State.withFetchWord (s : State) (nbits w : Nat) : State :=
  match Sys2Proof.decodeTableWord nbits w with
  | some c => { s with pending := c :: s.pending }
  | none => s

end Sys2Proof.Machine
end

