-- ==== Sys2Proof/WellFormed.lean ====
section
/-!
DEFINITION. Well-formed commands: operands in the ranges that the rule of the command's row gives them. The machine takes
every command; a well-formed one is one that the hardware's surroundings can present.
-/
namespace Sys2Proof

/-- A bus access of 1, 2, 4 or 8 bytes at a 40-bit address (R46, R48). -/
def accessOk (a : Access) : Bool := [1, 2, 4, 8].contains a.size && decide (a.addr < 2 ^ 40)

/-- A page number of the register maps (R49, R71, R265). -/
def pageOk (p : Nat) : Bool :=
  decide (0x40000 ≤ p ∧ p < 0x40051) || decide (0x50000 ≤ p ∧ p < 0x50006) || decide (0x60000 ≤ p ∧ p < 0x60009)

/-- A SELECT word carries a code and an action per bridge, a two-bit mask and an 8-bit sequence number (R226). -/
def SelectWord.wf (w : SelectWord) : Bool :=
  w.codes.length == 8 && w.acts.length == 8 && w.codes.all (fun c => decide (c < 8)) &&
    w.acts.all (fun c => decide (c < 4)) && decide (w.mask < 4) && decide (w.seq < 256) && decide (w.copies ≤ 2)

/-- A changed register exists: 32 general and 32 floating-point registers, 4,096 control registers (R79). -/
def regChangeOk : RegChange → Bool
  | .gpr n _ => decide (n < 32)
  | .fpr n _ => decide (n < 32)
  | .csr n _ => decide (n < 4096)

/-- An access that the comparator passes names a bus access or a control register (R88). -/
def devAccessOk : DevAccess → Bool
  | .bus a => accessOk a
  | .imsic c _ => decide (c < 4096)
  | .vcsr c _ => decide (c < 4096)

/-- An instruction word of the custom-0 major opcode (R85). -/
def xprizu (w : Word) : Bool := w.extractLsb' 0 7 == 0x0B

/-- The well-formed commands: those not named carry no operand that their type does not bound. -/
def Instr.wf (i : Instr) : Bool :=
  match i with
  | .duplexOutReceived _ slot rot _ _ => decide (slot < 48) && decide (rot < 8)
  | .laneLinkFrameStart _ cycle => decide (cycle < 2 ^ 20)
  | .currentConversionStart samples => samples.length == 24
  | .currentFrameReceived _ _ m _ _ _ => decide (m.cycle < 800000)
  | .bridgeWindowWrite _ _ a => accessOk a && a.wdata.isSome
  | .bridgeWindowRead _ _ a => accessOk a && a.wdata.isNone
  | .registerWrite _ _ a _ => accessOk a && a.wdata.isSome
  | .readParityError _ _ addr => decide (addr < 2 ^ 40)
  | .softReset _ _ page => pageOk page
  | .blockRun _ _ page => pageOk page
  | .blockStopRequest _ _ page => pageOk page
  | .blockStopComplete _ page => pageOk page
  | .lockkeyWrite _ _ page _ => pageOk page
  | .counterLowRead _ _ addr => decide (addr < 2 ^ 40)
  | .counterHighWrite _ _ addr _ => decide (addr < 2 ^ 40)
  | .counterLowWrite _ _ addr _ => decide (addr < 2 ^ 40)
  | .imsicMessageDelivery _ w _ => decide (w.page < 2 ^ 20) && decide (w.hart < 32)
  | .peerWindowRead _ _ a => accessOk a && a.wdata.isNone
  | .peerRdRspReceived _ _ words => decide (words.length ≤ 2)
  | .przCkpt _ _ w => xprizu w && !([1, 2].contains (w.extractLsb' 12 3).toNat)
  | .przCksn _ _ w => xprizu w && (w.extractLsb' 12 3).toNat == 1
  | .przLogfree _ _ w => xprizu w && (w.extractLsb' 12 3).toNat == 2
  | .checkpointCommit _ c => decide (c.retired < 2 ^ 64)
  | .forceCheckpointSet _ _ addr => decide (addr < 2 ^ 40)
  | .forceCheckpointSnoop _ _ addr => decide (addr < 2 ^ 40)
  | .deviceAccessRelease _ _ d => devAccessOk d
  | .cacheUncorrectableError _ _ addr _ => decide (addr < 2 ^ 40)
  | .debugAccessRegister _ _ regno _ => decide (regno < 2 ^ 16)
  | .debugProgramBuffer _ _ changes => changes.all regChangeOk
  | .debugSystemBusAccess _ a => accessOk a
  | .frameStart _ _ lateSwaps => lateSwaps.all (fun c => decide (c < 128))
  | .trackerAnalysisComplete _ _ cycles => decide (cycles ≤ 24576)
  | .mirrorFrameReceived _ _ _ words => decide (words.length ≤ 31)
  | .placePlcstateReceived _ first words => decide (first < 128) && decide (words.length ≤ 16)
  | .selectReceived w => w.wf
  | .selectAck codes acts _ => codes.length == 8 && acts.length == 8
  | .orphStrapSample samples => samples.length == 8
  | .canTxabort _ _ _ bus => bus.all (fun i => decide (i < 256))
  | .canFrameReceived _ _ _ f => decide (f.frame.data.length ≤ 64)
  | .faultSourceEvent _ src unit _ _ => decide (src < 256) && decide (unit < 256)
  | .bedrockFaultEvent src _ _ => decide (src < 36)
  | .workingStore _ _ w _ _ => (if w.op = .store then [1, 2, 4, 8] else [4, 8]).contains w.size && decide (w.addr < 2 ^ 40)
  | _ => true

end Sys2Proof
end

