-- ==== Sys2Proof/Safety.lean ====
section
/-!
DEFINITION. What a safe run is, in the terms that the statements use: invariants of the state, what it means that a
command has an effect, and the frames of commands.
-/
namespace Sys2Proof.Machine
open Sys2Proof

/-- Both lanes' memories are in canonical form. -/
def State.memWf (s : State) : Bool := Memory.wf s.a.mem && Memory.wf s.b.mem

/-- Each lane die is the lane that its place in the state says, so that its per-lane reset values are its own (R16). -/
def State.ownLanes (s : State) : Prop := s.a.id = .A ∧ s.b.id = .B

/-- Every waiting command is well formed. -/
def State.queueWf (s : State) : Bool := s.pending.all Instr.wf

/-- A step that neither faults nor refuses. -/
def goesOn (o : Host.Outcome State Fault Refusal) : Prop := ∃ t, o = .next t

/-- The command answers a next state, and `P` holds of it. -/
def yields (c : Instr) (s : State) (P : State → Prop) : Prop := ∃ t, exec c s = .next t ∧ P t

/-- The command answers a next state that differs from `s` in lane `x` only, where it leaves the lane as `P` says. -/
def yieldsLane (x : Lane) (c : Instr) (s : State) (P : LaneState → Prop) : Prop :=
  ∃ l, exec c s = .next (s.setLane x l) ∧ P l

/-- What reading a byte of a lane's memory gives is the same in two states, for every address outside `hole`. -/
def sameBytes (l m : LaneState) (hole : Nat → Prop) : Prop := ∀ a, ¬ hole a → m.byte a = l.byte a

/-- Every register of a lane but those that `hole` picks holds the same word in two states. -/
def sameRegs (l m : LaneState) (hole : Nat → Prop) : Prop := ∀ a, ¬ hole a → m.rd a = l.rd a

/-- Every register of Bedrock but those that `hole` picks holds the same word. -/
def sameBedRegs (b c : BedState) (hole : Nat → Prop) : Prop := ∀ a, ¬ hole a → c.rd a = b.rd a

/-- Every register of the bridge die but those that `hole` picks holds the same word. -/
def sameBrgRegs (b c : BrgState) (hole : Nat → Prop) : Prop := ∀ a, ¬ hole a → c.rd a = b.rd a

/-- The lane is out of reset, the block of the register at `a` is not isolated, and no lock sequence is begun: a write of
the register is looked at field by field. -/
def LaneState.takes (l : LaneState) (a : Nat) : Bool := l.alive && !l.blockFenced a && l.lockSeq.isEmpty

/-- Every hart pair of a lane but `p` is the same in two states. -/
def sameOtherPairs (l m : LaneState) (p : Nat) : Prop := ∀ q, q ≠ p → m.pair q = l.pair q

/-- Pair `p` executes outside a replay, with no checkpoint pending and machine mode. -/
def LaneState.pairFree (l : LaneState) (p : Nat) : Bool :=
  l.alive && (l.pair p).released && l.pairState p == PState.run && !(l.pair p).replay && !(l.pair p).ckptReq &&
  (l.pair p).hart.priv == .machine

/-- An access leaves its agent at once: a hart's pair executes with room in its log, and its PMP regions permit the access
(R80, R88, R97). -/
def LaneState.passesOn (l : LaneState) (g : Agent) (a : Access) : Bool :=
  match g with
  | .hart n => l.pairFree n.val && decide ((l.pair n.val).log.length < 247) &&
      (l.pair n.val).hart.pmpAllows a.addr a.size a.wdata.isSome
  | _ => true

/-- The engine's next instruction is the word of opcode `opc` with the rest `w`: a program runs, its cycles are not over,
and the word at PC is that one with good parity. -/
def LaneState.issues (l : LaneState) (opc : Nat) (w : Code) : Bool :=
  l.loop.run.any (fun r => r.stage == .running) && decide (l.eng.cyc < 288) && l.alive &&
  decide (l.fetch = (BitVec.ofNat 6 opc ++ w, false)) && decide ((advance l.eng.pc l.eng.loops).1 ≤ 8191)

/-- A one-cycle instruction has gone on from `l` to `m`: to the next index, or back to the start of a loop. -/
def LaneState.wentOn (l m : LaneState) : Prop :=
  m.eng.pc = (advance l.eng.pc l.eng.loops).1 ∧ m.eng.loops = (advance l.eng.pc l.eng.loops).2 ∧
  m.eng.cyc = l.eng.cyc + 1 ∧ m.loop.run = l.loop.run ∧ m.regs = l.regs

/-- A one-cycle instruction has set register `d` of the engine to `v`, and changed no other D register, no accumulator, no
address generator and no memory. -/
def LaneState.putsD (l m : LaneState) (d : Nat) (v : DWord) : Prop :=
  l.wentOn m ∧ m.eng.d = l.eng.d.setIfInBounds d v ∧ m.eng.acc = l.eng.acc ∧ m.eng.sat = l.eng.sat ∧
  m.eng.ag = l.eng.ag ∧ m.mem = l.mem

/-- A one-cycle instruction has left the accumulators and their saturation states as those of `e`. -/
def LaneState.putsAcc (l m : LaneState) (e : Engine) : Prop :=
  l.wentOn m ∧ m.eng.acc = e.acc ∧ m.eng.sat = e.sat

/-- A value saturated to the signed 64-bit range (R122). -/
def satD (v : Int) : DWord := BitVec.ofInt 64 (min (max v (-(2 ^ 63))) (2 ^ 63 - 1))

/-- A descriptor, owned by the engine, that copies `n` bytes from 0x1000_1000 to 0x1000_2000 at once (R419). -/
def copyDesc (n : Nat) : List Word := [0x10001000, 0x10002000, 0, BitVec.ofNat 32 n, 0, 0, 0, 0x80000000]

/-- No cache of the lane holds a dirty line, so that what a master reads is what the memory holds. -/
def LaneState.uncached (l : LaneState) : Bool := l.l2.isEmpty && (List.range 4).all fun p => (l.pair p).lines.isEmpty

/-- The registers of a page. -/
def inPage (base a : Nat) : Prop := base ≤ a ∧ a < base + 0x1000

end Sys2Proof.Machine
end

