-- ==== Sys2Proof/Certificates/Slice0/Obligations.lean ====
section
/-!
DEFINITION. The statements for the provers. `yields c s P` says that the command answers a next state that is as `P`
says; `yieldsLane x c s P` says so too, and that the state differs from `s` in lane `x` alone. Hypotheses speak of the
state and the operands only.
-/

open Sys2Proof Sys2Proof.Machine

/-- The step of the machine, one command at a time in the order in which they were sent: with a command at the front of
the queue it is exec of that command on the state with the queue's rest. On an empty queue 1 µs passes, which is the
model's own choice (log entry 1) and no rule of the spec. -/
def Obligations.StepRunsFrontCommand : Prop :=
  (∀ (c : Instr) (s : State), step { s with pending := c :: s.pending } = exec c s) ∧
  (∀ s : State, s.pending = [] → ∃ t, step s = .next t ∧ t.nowUs = s.nowUs + 1 ∧ t.a = s.a ∧ t.b = s.b ∧ t.brg = s.brg ∧
    t.bed.regs = s.bed.regs ∧ t.bed.events = s.bed.events ∧ t.bed.safety = s.bed.safety ∧ t.freeCtr = s.freeCtr ∧ t.pending = [])

/-- Whatever the state and its operands, no command stops the machine: exec answers a next state, in which the queue of
waiting commands is what it was. (The spec gives every command an effect, or says that it is ignored; that a command
that does not apply changes nothing is log entry 3.) -/
def Obligations.EveryCommandGoesOn : Prop :=
  ∀ (c : Instr) (s : State), ∃ t, exec c s = .next t ∧ t.pending = s.pending

/-- R43: the device is in START; R453: working SRAM and the loop-engine memories read 0. Registers of several pages hold
the reset values that the spec gives them. No command, event or message waits, every memory is in canonical form and
each lane is its own. That both lanes are still held in their POR reset is log entry 4. -/
def Obligations.ResetState : Prop :=
  State.reset.devState = Dev.start ∧ State.reset.pending = [] ∧ State.reset.memWf = true ∧ State.reset.ownLanes ∧
  (∀ x : Lane, (State.reset.lane x).alive = false ∧ (State.reset.lane x).events = [] ∧ (State.reset.lane x).msgs = [] ∧
    (∀ a, 0x10000000 ≤ a → a < 0x20048000 → (State.reset.lane x).byte a = 0) ∧
    (State.reset.lane x).get (F.STR_CYCCFG_CYCLEN 0) = 1000 ∧ (State.reset.lane x).get (F.STR_CYCCFG_NSLOTS 1) = 8 ∧
    (State.reset.lane x).get (F.STR_SLOTTIM_SLOTLEN 0) = 100 ∧ (State.reset.lane x).get (F.sstAge 0 5) = 255 ∧
    (State.reset.lane x).get (F.CAN_NBT_TSEG1 1) = 127 ∧ (State.reset.lane x).rd R.ETH_TXRING = 0x10000000) ∧
  (∀ d, d < 8 → State.reset.bed.get (F.BLEASE_LSTAT_STATE d) = 0) ∧ State.reset.bed.get F.BSYS_BCFG_LOADED = 0

/-- R19: a PHASE_CMD frame overwrites the lane's staged command for its bridge, an uncommitted one is counted OVERWRITTEN,
and nothing else changes: no lane, no other staged command, no register of the bridge die and no other of Bedrock. -/
def Obligations.PhaseCmdStages : Prop :=
  ∀ (s : State) (l : Lane) (n : Fin 8) (arg : BitVec 9) (u v w : Half),
    (yields (.phaseCmdReceived l n arg u v w) s fun t =>
      t.brg.staged l n.val = some ⟨arg.toNat % 64, ⟨u.toNat, v.toNat, w.toNat⟩, arg.getLsbD 6, .none⟩ ∧
      (∀ y m, (y ≠ l ∨ m ≠ n.val) → t.brg.staged y m = s.brg.staged y m) ∧
      t.bed.get (F.ovwr l n.val) =
        (if (s.brg.staged l n.val).isSome then min (s.bed.get (F.ovwr l n.val) + 1) 0xFFFF
         else s.bed.get (F.ovwr l n.val)) ∧
      sameBedRegs s.bed t.bed (fun a => a = R.BENV_OVWR n.val) ∧
      t.a = s.a ∧ t.b = s.b ∧ t.brg.regs = s.brg.regs)

/-- R24: a VERDICT reaches the last duplex command of a bridge it covers; a DIFF that covers no bridge is a DISAGREE fault
(Bedrock source 21). -/
def Obligations.VerdictReachesStaging : Prop :=
  ∀ (s : State) (l : Lane) (arg : BitVec 9) (p : Half) (b : Fin 8) (c : Staged),
    (p.getLsbD b.val = true → s.brg.staged l b.val = some c → c.duplex = true → 
      yields (.verdictReceived l arg p) s fun t =>
        t.brg.staged l b.val = some { c with
          verdict := if arg.getLsbD 8 = true then (if p.getLsbD 8 = true then .disagree else .agree) else .none } ∧
        t.brg.staged l.peer b.val = s.brg.staged l.peer b.val ∧ t.a = s.a ∧ t.b = s.b ∧ t.bed = s.bed) ∧
    (p.toNat % 256 = 0 → p.getLsbD 8 = true → 
      yields (.verdictReceived l arg p) s fun t =>
        t = { s with bed := { s.bed with events := s.bed.events ++ [⟨21, none⟩] } })

/-- R23, R24: the peer's DUPLEX_OUT of another frame is late and counted; one of this frame waits for the lane's own run,
or is compared with it at once and answered by a VERDICT with ARG[8] = 1; without a usable one the VERDICT of the
deadline has ARG[8] = 0. -/
def Obligations.DuplexComparison : Prop :=
  ∀ (s : State) (x : Lane) (slot : Fin 48) (rot : Nat) (fn : Word) (outs : List DWord) (o : DupOwn),
    (s.lane x).alive = true →
    (s.lane x).llUp = true →
    (fn ≠ (s.lane x).rd R.LE_FN_LO → 
      yieldsLane x (.duplexOutReceived x slot.val rot fn outs) s fun l =>
        l.get F.LNK_DUPLATE_COUNT = min ((s.lane x).get F.LNK_DUPLATE_COUNT + 1) 0xFFFFFFFF ∧
        l.links = (s.lane x).links ∧ l.mem = (s.lane x).mem) ∧
    (fn = (s.lane x).rd R.LE_FN_LO → (s.lane x).links.own slot.val = none → 
      yieldsLane x (.duplexOutReceived x slot.val rot fn outs) s fun l =>
        l.links.peer slot.val = some ⟨rot, fn, outs⟩ ∧ l.links.blDown = (s.lane x).links.blDown ∧
        l.regs = (s.lane x).regs ∧ l.mem = (s.lane x).mem) ∧
    (fn = (s.lane x).rd R.LE_FN_LO → (s.lane x).links.own slot.val = some o → o.rot = rot → o.fn = fn → o.bridges < 256 → (s.lane x).fencedBy .blink = false → 
      yieldsLane x (.duplexOutReceived x slot.val rot fn outs) s fun l =>
        l.links.own slot.val = none ∧ l.links.peer slot.val = none ∧
        (l.links.blDown.getLastD []).take 2 =
          [blHeader 2 0 (slot.val + 256), BitVec.ofNat 16 (o.bridges + if o.outs = outs then 0 else 256)] ∧
        l.links.blDown.length = (s.lane x).links.blDown.length + 1) ∧
    ((s.lane x).links.own slot.val = some o → o.bridges < 256 → (s.lane x).fencedBy .blink = false → 
      yieldsLane x (.verdictDeadline x slot) s fun l =>
        l.links.own slot.val = none ∧
        (l.links.blDown.getLastD []).take 2 = [blHeader 2 0 slot.val, BitVec.ofNat 16 o.bridges] ∧
        l.links.blDown.length = (s.lane x).links.blDown.length + 1)

/-- R20, R26, R28: at a PWM boundary the holder's simplex command that has the commit lead and passes the envelope enters
the hold latches and leaves staging, and the hold count is 0 where no rank from 1 to 7 is in force. R28, R229: a
bridge whose hold count has reached MAXHOLD applies its terminal state, OFF where neither gate supply is valid, and
reports it in BSTAT and HOLD. -/
def Obligations.BoundaryCommitsOrTerminates : Prop :=
  ∀ (s : State) (n : Fin 8) (d : Nat) (b : BoundaryTimes) (c : Staged),
    (s.brg.get (F.running P.BCOM) = 1 → s.bedrockRuns = true → s.settle = s → s.selects n.val (s.holder d) = true → s.terminalDue n.val = false → (s.unit n.val).treq = false → s.domainOf n.val = some d → s.domState d = Dom.held → s.brg.staged (s.holder d) n.val = some c → s.brg.staged (s.holder d).peer n.val = none → c.duplex = false → 160 ≤ byLane (s.holder d) b.leadA b.leadB → s.passes n.val c = true → 
      yields (.pwmPeriodBoundary n b) s fun t =>
        t.brg.get (F.BRG_HLMODE_MODES n.val) = c.modes % 64 ∧
        t.brg.get (F.BRG_HLDUTY_0_U n.val) = c.duty.u % 65536 ∧
        t.brg.get (F.BRG_HLDUTY_0_V n.val) = c.duty.v % 65536 ∧
        t.brg.get (F.BRG_HLDUTY_1_W n.val) = c.duty.w % 65536 ∧
        t.brg.staged (s.holder d) n.val = none ∧
        (7 < s.brg.get (F.BRG_BSTAT_DRIVE n.val) → t.brg.get (F.BRG_BSTAT_HOLDCNT n.val) = 0) ∧
        t.a.mem = s.a.mem ∧ t.b.mem = s.b.mem) ∧
    (s.terminalDue n.val = true → 
      yields (.bridgeTerminalEntry n) s fun t =>
        t.brg.get (F.BRG_BSTAT_TERM n.val) = 1 ∧
        t.brg.get (F.BRG_BSTAT_TSTATE n.val) = (if s.noGateSupply then 0 else s.brg.envTerm n.val) ∧
        t.bed.get (F.BLEASE_HOLD_TERM n.val) = 1 ∧ t.a.mem = s.a.mem ∧ t.b.mem = s.b.mem)

/-- R33, R36, R39: a receiver takes a frame that passes its checks, counts it unless it is IDLE, and expects the next
sequence number; a bridge-link frame with a parity error and a lane-link frame whose CRC fails are discarded and
counted as such, and the bridge link is down from the fourth discard of an interval. -/
def Obligations.ReceiversCheckFrames : Prop :=
  ∀ (s : State) (x : Lane) (ws : List Half) (ls : List Word),
    (s.lane x).alive = true →
    (blCrcOk ws = true → (ws.getLastD 0).toNat / 256 = (s.lane x).links.blRx.expect → 0 < blType (ws.headD 0) → (blLen (blType (ws.headD 0))).isSome = true → 
      yields (.bridgeLinkFrameReceived x true ws true) s fun t =>
        (t.lane x).get F.LNK_BLRX_COUNT = min ((s.lane x).get F.LNK_BLRX_COUNT + 1) 0xFFFFFFFF ∧
        (t.lane x).links.blRx.expect = ((s.lane x).links.blRx.expect + 1) % 256 ∧
        (t.lane x).mem = (s.lane x).mem) ∧
    (yields (.bridgeLinkFrameReceived x true ws false) s (fun t =>
      (t.lane x).get F.LNK_BLDISC_PAR = min ((s.lane x).get F.LNK_BLDISC_PAR + 1) 0xFF ∧
      (t.lane x).links.blRx.discards = (s.lane x).links.blRx.discards + 1 ∧
      (t.lane x).links.blRx.expect = ((s.lane x).links.blRx.expect + 1) % 256 ∧
      (t.lane x).links.blRx.down =
        ((s.lane x).links.blRx.down || decide (4 ≤ (s.lane x).links.blRx.discards + 1)) ∧
      (t.lane x).mem = (s.lane x).mem)) ∧
    (llCrcOk ls = true → llSeqOf (ls.headD 0) = (s.lane x).links.llRx.expect → 0 < llType (ls.headD 0) → llType (ls.headD 0) < 8 → 
      yields (.laneLinkFrameReceived x ls true) s fun t =>
        (t.lane x).get F.LNK_LLRX_COUNT = min ((s.lane x).get F.LNK_LLRX_COUNT + 1) 0xFFFFFFFF ∧
        (t.lane x).get F.LNK_LSTAT_LLSEEN = 1 ∧
        (t.lane x).links.llRx.expect = ((s.lane x).links.llRx.expect + 1) % 16 ∧
        (t.lane x).mem = (s.lane x).mem ∧ t.bed = s.bed ∧ t.brg = s.brg) ∧
    (llCrcOk ls = false → 
      yields (.laneLinkFrameReceived x ls true) s fun t =>
        (t.lane x).get F.LNK_LLDISC_CRC = min ((s.lane x).get F.LNK_LLDISC_CRC + 1) 0xFF ∧
        (t.lane x).links.llRx.discards = (s.lane x).links.llRx.discards + 1 ∧
        (t.lane x).mem = (s.lane x).mem ∧ t.bed = s.bed ∧ t.brg = s.brg)

/-- R36, R531, R532: silence takes a link down and makes its source live; the interval that ends without four discards
after a whole one brings it up; the absence of SYNC ends the running intervals. -/
def Obligations.LinkUpAndDown : Prop :=
  ∀ (s : State) (x : Lane),
    (s.lane x).alive = true →
    ((s.lane x).links.llRx.down = false → 
      yieldsLane x (.linkSilenceTimeout (.laneLink x)) s fun l =>
        l.get F.LNK_LSTAT_LLUP = 0 ∧ l.get (F.FLT_SSTAT_LIVE 50) = 1 ∧ l.links.llRx.down = true ∧
        l.get F.LNK_DOWNCNT_LLDOWN = min ((s.lane x).get F.LNK_DOWNCNT_LLDOWN + 1) 0xFFFF ∧
        l.mem = (s.lane x).mem) ∧
    ((s.lane x).links.llRx.due = true → 
      yieldsLane x (.linkCountingIntervalEnd (.laneLink x)) s fun l =>
        l.links.llRx.discards = 0 ∧ l.links.llRx.due = false ∧ l.links.llRx.whole = true ∧
        ((s.lane x).links.llRx.down = true → (s.lane x).links.llRx.whole = true →
          (s.lane x).links.llRx.discards < 4 →
          l.links.llRx.down = false ∧ l.get F.LNK_LSTAT_LLUP = 1 ∧ l.get (F.FLT_SSTAT_LIVE 50) = 0)) ∧
    (yieldsLane x (.syncAbsenceIntervalTimeout x) s (fun l =>
      l.get F.LE_FRAMESTAT_SYNCED = 0 ∧ l.links.llRx.due = true ∧ l.links.blRx.due = true ∧
      sameRegs (s.lane x) l (fun a => a = R.LE_FRAMESTAT) ∧ l.mem = (s.lane x).mem))

/-- R22, R34, R37, R144: a SYNC frame synchronises a running engine and ends the links' counting intervals; the peer's
SYNC gives its frame number, Strata cycle and correction; the first ready frame in the order of R37 starts with the
next sequence number. -/
def Obligations.SyncAndSending : Prop :=
  ∀ (s : State) (x : Lane) (arg : BitVec 9) (p : Half) (lo hi cyc corr : Word) (c : Nat) (f : LLFrame),
    (s.lane x).alive = true →
    (yieldsLane x (.bridgeSyncReceived x arg p) s (fun l =>
      l.loop = (s.lane x).loop ∧
      l.links.llRx.due = true ∧ l.links.blRx.due = true ∧
      ((s.lane x).get (F.running P.LE) = 1 → l.get F.LE_FRAMESTAT_SYNCED = 1) ∧
      sameRegs (s.lane x) l (fun a => a = R.LE_FRAMESTAT) ∧ l.mem = (s.lane x).mem)) ∧
    ((s.lane x).llUp = true → 
      yieldsLane x (.laneLinkSyncReceived x lo hi cyc corr) s fun l =>
        l.loop = { (s.lane x).loop with peerFn := some (hi ++ lo) } ∧
        l.rd R.STR_PEERCYC = cyc ∧ l.rd R.STR_PEERCORR = corr ∧
        sameRegs (s.lane x) l (fun a => a = R.STR_PEERCYC ∨ a = R.STR_PEERCORR) ∧ l.mem = (s.lane x).mem) ∧
    ((s.lane x).fencedBy .llink = false → (s.lane x).loop.framing = false → pickFrame (s.lane x).links.ready c none = some f → 
      yieldsLane x (.laneLinkFrameStart x c) s fun l =>
        l.links.llWire = (s.lane x).links.llWire ++ [llWords f (s.lane x).llNext] ∧
        l.links.llSeq = ((s.lane x).llNext + 1) % 16 ∧
        l.links.ready.length + 1 = (s.lane x).links.ready.length ∧
        l.get F.LNK_LLTX_COUNT = min ((s.lane x).get F.LNK_LLTX_COUNT + 1) 0xFFFFFFFF ∧
        l.mem = (s.lane x).mem)

/-- R245, R260, R262, R267: BCOM starts the timebase when its PLL is locked; each master boundary counts a period,
restarts the sample counter and sends a SYNC frame to both lanes; a conversion of all channels stores 24 samples and
sends eight CURRENT frames. -/
def Obligations.MasterTimebase : Prop :=
  ∀ (s : State) (samples : List Half),
    (s.brg.get (F.run P.BCOM) = 1 → s.brg.get (F.running P.BCOM) = 0 → s.brg.get F.BCOM_TBSTAT_LOCK = 1 → 
      yields .masterTimebaseStart s fun t =>
        t.brg.get (F.running P.BCOM) = 1 ∧ t.brg.fresh = true ∧
        sameBrgRegs s.brg t.brg (fun a => a = R.blkstat P.BCOM) ∧ t.a = s.a ∧ t.b = s.b ∧ t.bed = s.bed) ∧
    (s.brg.get (F.running P.BCOM) = 1 → s.brg.fresh = false → s.brg.pllHold = false → 
      yields .masterPeriodBoundary s fun t =>
        t.brg.pcnt = (s.brg.pcnt + 1) % 2 ^ 25 ∧ t.brg.get F.BCOM_TBSTAT_PCNT = (s.brg.pcnt + 1) % 2 ^ 24 ∧
        t.brg.sampleK = 0 ∧ t.brg.rxA.due = true ∧ t.brg.rxB.due = true ∧
        t.a.links.blUp.length = s.a.links.blUp.length + 1 ∧ t.b.links.blUp.length = s.b.links.blUp.length + 1 ∧
        (t.a.links.blUp.getLastD []).head? = some (blHeader 9 0 ((s.brg.pcnt + 1) % 512)) ∧
        t.a.regs = s.a.regs ∧ t.b.regs = s.b.regs ∧ t.bed = s.bed) ∧
    (s.brg.get (F.running P.BCOM) = 1 → 
      yields (.currentConversionStart samples) s fun t =>
        t.brg.sampleK = s.brg.sampleK + 1 ∧
        t.a.links.blUp.length = s.a.links.blUp.length + 8 ∧ t.b.links.blUp.length = s.b.links.blUp.length + 8 ∧
        (∀ n i, n < 8 → i < 3 → s.brg.get (F.BRG_CSCFG_OFFS n i) = 0 →
          t.brg.get (F.BRG_CSLAST_SAMPLE n i) = (samples.getD (3 * n + i) 0).toNat ∧
          t.brg.get (F.BRG_CSLAST_CNT n i) = s.brg.sampleK % 512) ∧
        t.a.regs = s.a.regs ∧ t.b.regs = s.b.regs ∧ t.bed = s.bed)

/-- R157: a CURRENT frame's samples are kept by bridge and sample counter, with the frame and the frame cycle of their
reception. R266: a STATUS frame's ARG[5:0] gives the levels of the bridge's conditions in the lane and of the bridge's
fault sources. -/
def Obligations.FramesToLanes : Prop :=
  ∀ (s : State) (x : Lane) (n : Fin 8) (arg : BitVec 9) (u v w p : Half) (i : Fin 6) (c : Nat),
    (s.lane x).alive = true →
    ((s.lane x).blUp = true → 
      yieldsLane x (.currentFrameReceived x n ⟨arg, c⟩ u v w) s fun l =>
        l.loop.sample n.val arg.toNat = some ⟨(s.lane x).loop.gen, c, u, v, w⟩ ∧
        (∀ m k, m ≠ n.val → m < 8 → k < 512 → l.loop.sample m k = (s.lane x).loop.sample m k) ∧
        l.regs = (s.lane x).regs ∧ l.mem = (s.lane x).mem) ∧
    (yieldsLane x (.statusFrameReceived x n arg p) s (fun l =>
      (l.rd (R.irqRaw (P.BRG n.val))).getLsbD i.val = arg.getLsbD i.val ∧
      l.get (F.FLT_SSTAT_LIVE (138 + 9 * n.val + i.val)) = bit (arg.getLsbD i.val) ∧
      (l.rd (R.irqRaw (P.BRG n.val))).getLsbD 10 = p.getLsbD 7 ∧ l.loop = (s.lane x).loop ∧ l.mem = (s.lane x).mem))

/-- R56, R57, R63: a write of GCFG.FLT (legal from 1 to 255) stores the nearest legal value of its field and no other lane
register of its page but the clamp record; a value that had to be clamped is kept in CLAMPVAL with its offset, CLAMPED
is set; with a parity error nothing is stored, PARERR is set and the page's WRPAR source raised. -/
def Obligations.RegisterWriteClamps : Prop :=
  ∀ (s : State) (x : Lane) (v : DWord),
    (s.lane x).takes R.GPIO_GCFG = true →
    (yields (.registerWrite x .xfr ⟨R.GPIO_GCFG, 4, some v⟩ 0) s (fun t =>
      (t.lane x).get F.GPIO_GCFG_FLT = max 1 (v.toNat % 256) ∧
      (v.toNat % 256 = 0 → (t.lane x).get (F.clamped P.GPIO) = 1 ∧ (t.lane x).rd (R.clampVal P.GPIO) = v.setWidth 32 ∧
        (t.lane x).get (F.clampOffset P.GPIO) = 0x124 ∧ (t.lane x).get (F.clampLsb P.GPIO) = 0) ∧
      (v.toNat % 256 ≠ 0 → sameRegs (s.lane x) (t.lane x) (fun a => a = R.GPIO_GCFG)) ∧
      (t.lane x).mem = (s.lane x).mem ∧ t.lane x.peer = s.lane x.peer ∧ t.bed = s.bed ∧ t.brg = s.brg)) ∧
    (yields (.registerWrite x .xfr ⟨R.GPIO_GCFG, 4, some v⟩ 15) s (fun t =>
      (t.lane x).get (F.parErr P.GPIO) = 1 ∧
      sameRegs (s.lane x) (t.lane x) (fun a => a = R.blkstat P.GPIO) ∧
      (t.lane x).events = (s.lane x).events ++ [⟨getBits ((s.lane x).rd (P.GPIO + 0x028)) 0 8 + 1, 0⟩] ∧
      (t.lane x).mem = (s.lane x).mem ∧ t.lane x.peer = s.lane x.peer ∧ t.bed = s.bed ∧ t.brg = s.brg))

/-- R51 to R53: RUN = 1 starts a block at once; RUN = 0 asks for a stop, which completes later (at once for GPIO); SRST
returns every register of the page from 0x100 upward to its reset value and clears IRQRAW and IRQSTAT, unless the page
is locked, where it is ignored with IGNWR. -/
def Obligations.RunControl : Prop :=
  ∀ (s : State) (x : Lane) (g : Agent) (a : Nat),
    (s.lane x).takes P.GPIO = true →
    (s.lane x).takes P.HSPI = true →
    ((s.lane x).get (F.run P.HSPI) = 0 → (s.lane x).get (F.running P.HSPI) = 0 → 
      yields (.blockRun x g 0x40033) s fun t =>
        (t.lane x).get (F.run P.HSPI) = 1 ∧ (t.lane x).get (F.running P.HSPI) = 1 ∧
        sameRegs (s.lane x) (t.lane x) (fun r => r = R.blkctrl P.HSPI ∨ r = R.blkstat P.HSPI)) ∧
    ((s.lane x).get (F.run P.HSPI) = 1 → (s.lane x).get (F.running P.HSPI) = 1 → 
      yields (.blockStopRequest x g 0x40033) s fun t =>
        (t.lane x).get (F.run P.HSPI) = 0 ∧ (t.lane x).get (F.running P.HSPI) = 1 ∧
        sameRegs (s.lane x) (t.lane x) (fun r => r = R.blkctrl P.HSPI)) ∧
    ((s.lane x).get (F.run P.HSPI) = 0 → (s.lane x).get (F.running P.HSPI) = 1 → 
      yieldsLane x (.blockStopComplete x 0x40033) s fun l =>
        l.get (F.running P.HSPI) = 0 ∧ sameRegs (s.lane x) l (fun r => r = R.blkstat P.HSPI) ∧ l.mem = (s.lane x).mem) ∧
    ((s.lane x).get (F.locked P.GPIO) = 0 → P.GPIO + 0x100 ≤ a → a < P.GPIO + 0x1000 → 
      yields (.softReset x g 0x40035) s fun t =>
        (t.lane x).rd a = regReset (s.lane x).id a ∧ (t.lane x).rd (R.irqRaw P.GPIO) = 0 ∧
        (t.lane x).rd (R.irqStat P.GPIO) = 0 ∧ (t.lane x).get (F.run P.GPIO) = (s.lane x).get (F.run P.GPIO) ∧
        (t.lane x).mem = (s.lane x).mem) ∧
    ((s.lane x).get (F.locked P.GPIO) = 1 → 
      yields (.softReset x g 0x40035) s fun t =>
        (t.lane x).get (F.ignWr P.GPIO) = 1 ∧
        sameRegs (s.lane x) (t.lane x) (fun r => r = R.blkstat P.GPIO ∨ r = R.blkctrl P.GPIO))

/-- R59: 0xA55A then 0x5AA5 locks a page. R61: a read of a low word keeps the high word for that agent. R62: a write of a
high word is kept for the agent, and its write of the low word sets both halves of SETPT. -/
def Obligations.LockAndCounters : Prop :=
  ∀ (s : State) (x : Lane) (g : Agent) (v : Word) (k : Fin 32),
    (s.lane x).alive = true →
    ((s.lane x).blockFenced P.GPIO = false → (s.lane x).get (F.locked P.GPIO) = 0 → (s.lane x).lockSeq = [] → 
      yields (.lockkeyWrite x g 0x40035 0xA55A) s fun t =>
        (t.lane x).lockSeq = [0x40035] ∧ (t.lane x).regs = (s.lane x).regs) ∧
    ((s.lane x).blockFenced P.GPIO = false → (s.lane x).get (F.locked P.GPIO) = 0 → (s.lane x).lockSeq = [0x40035] → 
      yields (.lockkeyWrite x g 0x40035 0x5AA5) s fun t =>
        (t.lane x).get (F.locked P.GPIO) = 1 ∧ (t.lane x).lockSeq = [] ∧ (t.lane x).rd (R.lockKey P.GPIO) = 1 ∧
        sameRegs (s.lane x) (t.lane x) (fun r => r = R.blkstat P.GPIO ∨ r = R.lockKey P.GPIO)) ∧
    ((s.lane x).blockFenced P.LE = false → 
      yields (.counterLowRead x .xfr R.LE_FN_LO) s fun t =>
        (t.lane x).readShadow .xfr R.LE_FN_LO = some ((s.lane x).rd R.LE_FN_HI) ∧
        (t.lane x).response .xfr = .data (((s.lane x).rd R.LE_FN_LO).setWidth 64) ∧ (t.lane x).regs = (s.lane x).regs) ∧
    ((s.lane x).takes P.LE = true → 
      yields (.counterHighWrite x g (R.LE_SETPT_HI k.val) v) s fun t =>
        (t.lane x).writeShadow g (R.LE_SETPT_LO k.val) = v ∧ (t.lane x).regs = (s.lane x).regs) ∧
    ((s.lane x).takes P.LE = true → 
      yields (.counterLowWrite x g (R.LE_SETPT_LO k.val) v) s fun t =>
        (t.lane x).rd (R.LE_SETPT_LO k.val) = v ∧
        (t.lane x).rd (R.LE_SETPT_HI k.val) = (s.lane x).writeShadow g (R.LE_SETPT_LO k.val) ∧
        sameRegs (s.lane x) (t.lane x) (fun r => r = R.LE_SETPT_LO k.val ∨ r = R.LE_SETPT_HI k.val))

/-- R68: a store of any agent to a register that the bridge die holds posts a REG_WR, a load a REG_RD and waits; while the
link is down the store is discarded; a REG_RSP completes the oldest read, a timeout with an error. The bridge die
answers a REG_RD, unless a write posted before it is still on its way. R70: it refuses and counts the write of a lane
that its state bars; it applies an accepted one, or one with a parity error not at all (R63). -/
def Obligations.BridgeDieAccess : Prop :=
  ∀ (s : State) (x : Lane) (n : Fin 8) (o : Fin 1024) (v : Word) (d : DWord) (g : Agent) (a : Access) (off : Half) (w r : List Half) (rest : List (Agent × Access)) (more : List (List Half)),
    ((s.lane x).alive = true → (s.lane x).blUp = true → brgPerLane (4 * o.val) = false → (s.lane x).passesOn g ⟨P.BRG n.val + 4 * o.val, 4, some d⟩ = true → 
      yields (.bridgeWindowWrite x g ⟨P.BRG n.val + 4 * o.val, 4, some d⟩) s fun t =>
        (t.lane x).links.blDown.length = (s.lane x).links.blDown.length + 1 ∧
        ((t.lane x).links.blDown.getLastD []).take 4 =
          [blHeader 3 n.val 0, BitVec.ofNat 16 (4 * o.val), d.extractLsb' 0 16, d.extractLsb' 16 16] ∧
        (t.lane x).response g = .done ∧ t.brg = s.brg ∧ t.bed = s.bed ∧ (t.lane x).mem = (s.lane x).mem) ∧
    ((s.lane x).alive = true → (s.lane x).blUp = true → brgPerLane (4 * o.val) = false → (s.lane x).passesOn g ⟨P.BCOM + 4 * o.val, 4, some d⟩ = true → 
      yields (.bridgeWindowWrite x g ⟨P.BCOM + 4 * o.val, 4, some d⟩) s fun t =>
        ((t.lane x).links.blDown.getLastD []).take 4 =
          [blHeader 3 0 0, BitVec.ofNat 16 (0x8000 + 4 * o.val), d.extractLsb' 0 16, d.extractLsb' 16 16] ∧
        (t.lane x).response g = .done ∧ t.brg = s.brg ∧ t.bed = s.bed ∧ (t.lane x).mem = (s.lane x).mem) ∧
    ((s.lane x).alive = true → (s.lane x).blUp = false → brgPerLane (4 * o.val) = false → (s.lane x).passesOn g ⟨P.BRG n.val + 4 * o.val, 4, some d⟩ = true → 
      yields (.bridgeWindowWrite x g ⟨P.BRG n.val + 4 * o.val, 4, some d⟩) s fun t =>
        (t.lane x).links = (s.lane x).links ∧ (t.lane x).response g = .done ∧ t.brg = s.brg ∧ t.bed = s.bed) ∧
    ((s.lane x).alive = true → (s.lane x).blUp = true → brgPerLane (4 * o.val) = false → (s.lane x).passesOn g ⟨P.BRG n.val + 4 * o.val, 4, none⟩ = true → 
      yields (.bridgeWindowRead x g ⟨P.BRG n.val + 4 * o.val, 4, none⟩) s fun t =>
        (t.lane x).links.blDown.length = (s.lane x).links.blDown.length + 1 ∧
        ((t.lane x).links.blDown.getLastD []).take 2 = [blHeader 4 n.val 0, BitVec.ofNat 16 (4 * o.val)] ∧
        (t.lane x).links.pendRd = (s.lane x).links.pendRd ++ [(g, ⟨P.BRG n.val + 4 * o.val, 4, none⟩)] ∧
        (t.lane x).response g = .waiting ∧ t.brg = s.brg ∧ t.bed = s.bed ∧ (t.lane x).mem = (s.lane x).mem) ∧
    ((s.lane x).alive = true → (s.lane x).links.pendRd = (g, a) :: rest → a.wdata = none → (∀ h, g = .hart h → (s.lane x).pairFree h.val = true) → 
      yieldsLane x (.regRspReceived x v) s fun l =>
        l.links.pendRd = rest ∧ l.response g = .data (v.setWidth 64) ∧
        (∀ h, g = .hart h →
          (l.pair h.val).log = ((s.lane x).pair h.val).log ++ [.devrd a.addr a.size (some (v.setWidth 64))]) ∧
        ((∀ h, g ≠ .hart h) → l.regs = (s.lane x).regs) ∧ l.mem = (s.lane x).mem) ∧
    ((s.lane x).links.pendRd = (g, a) :: rest → a.wdata = none → (∀ h, g = .hart h → (s.lane x).pairFree h.val = true) → 
      yieldsLane x (.bridgeReadTimeout x g) s fun l =>
        l.links.pendRd = rest ∧ l.response g = .error ∧
        (∀ h, g = .hart h →
          (l.pair h.val).hart = ((s.lane x).pair h.val).hart.trap 5 false (BitVec.ofNat 64 a.addr)) ∧
        ((∀ h, g ≠ .hart h) → l.regs = (s.lane x).regs) ∧ l.mem = (s.lane x).mem) ∧
    ((s.lane x).writesWait = false → 
      yields (.regRdReceived x n off) s fun t =>
        (t.lane x).links.blUp.length = (s.lane x).links.blUp.length + 1 ∧
        ((t.lane x).links.blUp.getLastD []).take 3 = [blHeader 10 n.val 0,
          (s.brg.rd ((if off.getLsbD 15 then P.BCOM else P.BRG n.val) + off.toNat % 0x1000)).extractLsb' 0 16,
          (s.brg.rd ((if off.getLsbD 15 then P.BCOM else P.BRG n.val) + off.toNat % 0x1000)).extractLsb' 16 16] ∧
        t.brg.regs = s.brg.regs ∧ t.lane x.peer = s.lane x.peer ∧ t.bed = s.bed) ∧
    ((s.lane x).links.blDown = w :: r :: more → blType (w.headD 0) = 3 → isRegFrame 4 n.val [off] r = true → 
      yields (.regRdReceived x n off) s fun t => t = s) ∧
    (off.getLsbD 15 = false → (s.devState = Dev.drive ∨ s.devState = Dev.safe) → (s.devState = Dev.drive → ∀ e, s.domainOf n.val = some e → s.holderOf e ≠ some x) → (s.lane x).power.boot ≠ .load → 
      yields (.regWrReceived x n off v true) s fun t =>
        t.brg.get (F.ignWr (P.BRG n.val)) = 1 ∧
        t.brg.get (F.refused x) = min (s.brg.get (F.refused x) + 1) 0xFFFF ∧
        sameBrgRegs s.brg t.brg (fun b => b = R.blkstat (P.BRG n.val) ∨ b = R.BCOM_REFUSED) ∧
        (t.lane x).regs = (s.lane x).regs ∧ (t.lane x).mem = (s.lane x).mem ∧ t.lane x.peer = s.lane x.peer ∧ t.bed = s.bed) ∧
    (s.brgAccepts x (some n.val) = true → s.brg.lockSeq = [] → 
      yields (.regWrReceived x n 0x120 v true) s fun t =>
        t.brg.rd (R.BRG_COMCFG n.val) = s.brg.rd (R.BRG_COMCFG n.val) &&& 0xFFFFFE00 ||| v &&& 0x1FF) ∧
    (s.brgAccepts x (some n.val) = true → s.brg.lockSeq = [] → (s.lane x).power.boot ≠ .load → (s.lane x).alive = true → 
      yields (.regWrReceived x n 0x120 v false) s fun t =>
        t.brg.get (F.parErr (P.BRG n.val)) = 1 ∧ sameBrgRegs s.brg t.brg (fun b => b = R.blkstat (P.BRG n.val)) ∧
        (t.lane x).events = (s.lane x).events ++ [⟨getBits (s.brg.rd (P.BRG n.val + 0x028)) 0 8 + 1, 0⟩] ∧ t.lane x.peer = s.lane x.peer ∧ t.bed = s.bed)

/-- R75: a load in the peer window sends PEER_RD_REQ under a fresh tag and waits; its response completes it, a timeout
with an error. R76: a lane answers a request for its own words with PEER_RD_RSP, one it rejects with ARG[15] = 1. -/
def Obligations.PeerWindow : Prop :=
  ∀ (s : State) (x : Lane) (off : Fin 0x10000) (a : Access) (tag : Fin 32768) (w : Word),
    (s.lane x).alive = true →
    (s.lane x).llUp = true →
    ((s.lane x).fencedBy .llink = false → 
      yields (.peerWindowRead x .xfr ⟨0x74000000 + 4 * off.val, 4, none⟩) s fun t =>
        (t.lane x).links.ready = (s.lane x).links.ready ++ [⟨3, BitVec.ofNat 16 (s.lane x).links.peerTag,
          [BitVec.ofNat 32 (0x10000000 + 4 * off.val), 0, 1], false⟩] ∧
        (t.lane x).links.peerTag = ((s.lane x).links.peerTag + 1) % 2 ^ 15 ∧
        (t.lane x).links.peerPend = (s.lane x).links.peerPend ++
          [((s.lane x).links.peerTag, .xfr, ⟨0x74000000 + 4 * off.val, 4, none⟩)] ∧
        (t.lane x).response .xfr = .waiting ∧ (t.lane x).regs = (s.lane x).regs) ∧
    ((s.lane x).fencedBy .llink = false → (s.lane x).heldU (0x10000000 + 4 * off.val) 4 = false → 
      yields (.peerRdReqReceived x (BitVec.ofNat 16 tag.val) (BitVec.ofNat 32 (0x10000000 + 4 * off.val)) 0 1) s fun t =>
        (t.lane x).links.ready = (s.lane x).links.ready ++ [⟨4, BitVec.ofNat 16 tag.val,
          [(s.lane x).dmaWord (0x10000000 + 4 * off.val)], false⟩] ∧ (t.lane x).regs = (s.lane x).regs ∧
        (t.lane x).mem = (s.lane x).mem) ∧
    ((s.lane x).fencedBy .llink = false → 
      yields (.peerRdReqReceived x (BitVec.ofNat 16 tag.val) (BitVec.ofNat 32 (0x10000000 + 4 * off.val)) 0 65) s fun t =>
        (t.lane x).links.ready = (s.lane x).links.ready ++ [⟨4, BitVec.ofNat 16 (tag.val + 0x8000), [0xFFFFFFFF], false⟩]) ∧
    ((s.lane x).links.peerPend = [(tag.val, .xfr, a)] → a.size = 4 → 
      yieldsLane x (.peerRdRspReceived x (BitVec.ofNat 16 tag.val) [w]) s fun l =>
        l.links.peerPend = [] ∧ l.response .xfr = .data (w.setWidth 64) ∧ l.regs = (s.lane x).regs ∧ l.mem = (s.lane x).mem) ∧
    ((s.lane x).links.peerPend = [(tag.val, .xfr, a)] → 
      yieldsLane x (.peerReadTimeout x .xfr) s fun l =>
        l.links.peerPend = [] ∧ l.response .xfr = .error ∧ l.regs = (s.lane x).regs ∧ l.mem = (s.lane x).mem)

/-- R63: a read with a parity error is an access error to the reader and raises the page's WRPAR. R364: the debugger
stores a word in a loop-engine memory. R352 to R354: a host frame is executed, or refused by its CRC, and counted; bad
parity of what it reads gives STAT 5 and raises the page's WRPAR. -/
def Obligations.ReadParityAndDebugBus : Prop :=
  ∀ (s : State) (x : Lane) (v : DWord) (f : List (BitVec 8)),
    (s.lane x).alive = true →
    (yields (.readParityError x .xfr P.GPIO) s (fun t =>
      (t.lane x).response .xfr = .error ∧
      (t.lane x).events = (s.lane x).events ++ [⟨getBits ((s.lane x).rd (P.GPIO + 0x028)) 0 8 + 1, 0⟩] ∧
      (t.lane x).regs = (s.lane x).regs ∧ (t.lane x).mem = (s.lane x).mem ∧ t.bed = s.bed)) ∧
    ((s.lane x).dm.enabled = true → 
      yields (.debugSystemBusAccess x ⟨0x20010000, 8, some v⟩) s fun t =>
        (t.lane x).dword 0x20010000 = v ∧
        sameBytes (s.lane x) (t.lane x) (fun a => 0x20010000 ≤ a ∧ a < 0x20010008) ∧ (t.lane x).regs = (s.lane x).regs) ∧
    ((s.lane x).blockFenced P.HSPI = false → hspiCheck f false = 0 → hspiCmd f = 0 → 
      yields (.hspiNop x f false) s fun t =>
        (t.lane x).get F.HSPI_HCNT_EXEC = min ((s.lane x).get F.HSPI_HCNT_EXEC + 1) 0xFFFF ∧
        (t.lane x).get F.HSPI_HLAST_STAT = 0 ∧ (t.lane x).get F.HSPI_HLAST_CMD = 0 ∧
        (t.lane x).ports.hspi.reply = (s.lane x).ports.hspi.replyBytes ∧ (t.lane x).mem = (s.lane x).mem) ∧
    ((s.lane x).blockFenced P.HSPI = false → hspiCheck f false = 0 → (s.lane x).served = true → hspiCmd f = 1 → hspiAddr f = 0x10000000 → (s.lane x).heldU 0x10000000 4 = false → (s.lane x).hspiAllows 0x10000000 false = true → 
      yields (.hspiRead32 x f ⟨false, false⟩) s fun t =>
        (t.lane x).ports.hspi.data = (s.lane x).dmaWord 0x10000000 ∧ (t.lane x).ports.hspi.stat = 0 ∧
        (t.lane x).mem = (s.lane x).mem) ∧
    ((s.lane x).blockFenced P.HSPI = false → hspiCheck f false = 0 → (s.lane x).served = true → hspiCmd f = 2 → hspiAddr f = 0x10000000 → (s.lane x).hspiAllows 0x10000000 true = true → (s.lane x).l2 = [] → (s.lane x).pairs = [] → 
      yields (.hspiWrite32 x f ⟨false, false⟩) s fun t =>
        (t.lane x).word 0x10000000 = BitVec.ofNat 32 (hspiData f) ∧ (t.lane x).ports.hspi.stat = 0 ∧
        sameBytes (s.lane x) (t.lane x) (fun a => 0x10000000 ≤ a ∧ a < 0x10000004)) ∧
    ((s.lane x).blockFenced P.HSPI = false → hspiCheck f false = 0 → (s.lane x).served = true → hspiCmd f = 1 → hspiAddr f = R.GPIO_GCFG → (s.lane x).hspiAllows R.GPIO_GCFG false = true → 
      yields (.hspiRead32 x f ⟨false, true⟩) s fun t =>
        (t.lane x).ports.hspi.stat = Hst.accErr ∧ (t.lane x).get F.HSPI_HLAST_STAT = Hst.accErr ∧
        (t.lane x).get F.HSPI_HCNT_EXEC = min ((s.lane x).get F.HSPI_HCNT_EXEC + 1) 0xFFFF ∧
        ((t.lane x).events).contains ⟨getBits ((s.lane x).rd (P.GPIO + 0x028)) 0 8 + 1, 0⟩ = true ∧ (t.lane x).mem = (s.lane x).mem) ∧
    ((s.lane x).blockFenced P.HSPI = false → f.length = 10 → f.getLastD 0 ≠ crc8 (f.take 9) → 
      yields (.hspiNop x f false) s fun t =>
        (t.lane x).get F.HSPI_HCNT_REFUSED = min ((s.lane x).get F.HSPI_HCNT_REFUSED + 1) 0xFFFF ∧
        (t.lane x).get F.HSPI_HLAST_STAT = 1 ∧ (t.lane x).mem = (s.lane x).mem)

/-- R85, R89, R96, R108: PRZ_CKPT requests a checkpoint and waits for its commit; an encoding that R85 does not list is an
illegal instruction; PRZ_CKSN and PRZ_LOGFREE retire with the checkpoint serial number and the free log entries, which
the replay log records; the checkpoint timer and PAIRCMD request a checkpoint. A request puts the pair in SAVE. -/
def Obligations.PairInstructions : Prop :=
  ∀ (s : State) (x : Lane) (g : Agent) (p : Fin 4) (rd : Fin 32) (w : Word) (ad : Nat),
    (s.lane x).pairFree p.val = true →
    (((s.lane x).pair p.val).przReq = false → 
      yieldsLane x (.przCkpt x p 0x0000000B) s fun l =>
        l.pair p.val = { (s.lane x).pair p.val with przReq := true, ckptReq := true } ∧ l.pairState p.val = PState.save ∧
        sameRegs (s.lane x) l (fun r => r = R.CKP_PAIRSTAT p.val) ∧ sameOtherPairs (s.lane x) l p.val ∧ l.mem = (s.lane x).mem) ∧
    (((s.lane x).pair p.val).przReq = false → (getBits w 20 12 ≠ 0 ∨ getBits w 15 5 ≠ 0 ∨ 2 < getBits w 12 3) → 
      yieldsLane x (.przCkpt x p w) s fun l =>
        (l.pair p.val).hart = ((s.lane x).pair p.val).hart.trap 2 false 0 ∧ l.regs = (s.lane x).regs ∧
        sameOtherPairs (s.lane x) l p.val ∧ l.mem = (s.lane x).mem) ∧
    (((s.lane x).pair p.val).przReq = false → ((s.lane x).pair p.val).log.length < 247 → 
      yieldsLane x (.przCksn x p (BitVec.ofNat 32 (0x100B + 128 * rd.val))) s fun l =>
        (l.pair p.val).hart = { ((s.lane x).pair p.val).hart.setX rd.val ((s.lane x).cksn p.val) with
          pc := ((s.lane x).pair p.val).hart.pc + 4 } ∧
        (l.pair p.val).log = ((s.lane x).pair p.val).log ++ [.vcsr 0x1000 ((s.lane x).cksn p.val)] ∧
        l.get (F.CKP_PAIRSTAT_LOGUSED p.val) = ((s.lane x).pair p.val).log.length + 1 ∧
        sameRegs (s.lane x) l (fun r => r = R.CKP_PAIRSTAT p.val ∨ r = R.evtCnt P.CKP) ∧
        sameOtherPairs (s.lane x) l p.val ∧ l.mem = (s.lane x).mem) ∧
    (((s.lane x).pair p.val).przReq = false → ((s.lane x).pair p.val).log.length < 247 → 
      yieldsLane x (.przLogfree x p (BitVec.ofNat 32 (0x200B + 128 * rd.val))) s fun l =>
        (l.pair p.val).hart = { ((s.lane x).pair p.val).hart.setX rd.val
          (BitVec.ofNat 64 (256 - ((s.lane x).pair p.val).log.length)) with pc := ((s.lane x).pair p.val).hart.pc + 4 } ∧
        (l.pair p.val).log = ((s.lane x).pair p.val).log ++
          [.vcsr 0x1001 (BitVec.ofNat 64 (256 - ((s.lane x).pair p.val).log.length))] ∧
        sameRegs (s.lane x) l (fun r => r = R.CKP_PAIRSTAT p.val ∨ r = R.evtCnt P.CKP) ∧
        sameOtherPairs (s.lane x) l p.val ∧ l.mem = (s.lane x).mem) ∧
    ((s.lane x).get (F.CKP_PAIRCFG_PEREN p.val) = 1 → (s.lane x).get F.PWR_PSTAT_STATE ≠ 1 → 
      yieldsLane x (.checkpointTimerExpiry x p) s fun l =>
        (l.pair p.val) = { (s.lane x).pair p.val with ckptReq := true } ∧ l.pairState p.val = PState.save ∧
        sameRegs (s.lane x) l (fun r => r = R.CKP_PAIRSTAT p.val) ∧ sameOtherPairs (s.lane x) l p.val) ∧
    ((s.lane x).takes R.CKP_PAIRCMD = true → 
      yieldsLane x (.paircmdCkpt x g p) s fun l =>
        (l.pair p.val) = { (s.lane x).pair p.val with ckptReq := true } ∧ l.pairState p.val = PState.save ∧
        sameOtherPairs (s.lane x) l p.val ∧ l.mem = (s.lane x).mem) ∧
    (8 ≤ (s.lane x).waysU p.val (ad / 64) → 
      yieldsLane x (.forceCheckpointSet x p ad) s fun l =>
        l.get (F.CKP_FORCECNT_SET p.val) = min ((s.lane x).get (F.CKP_FORCECNT_SET p.val) + 1) 0x3FF ∧
        (l.pair p.val).ckptReq = true ∧ l.pairState p.val = PState.save ∧ l.mem = (s.lane x).mem) ∧
    (((s.lane x).cline p.val (ad / 64)).any (·.u) = true → 
      yieldsLane x (.forceCheckpointSnoop x p ad) s fun l =>
        l.get (F.CKP_FORCECNT_SNOOP p.val) = min ((s.lane x).get (F.CKP_FORCECNT_SNOOP p.val) + 1) 0x3FF ∧
        (l.pair p.val).ckptReq = true ∧ l.pairState p.val = PState.save ∧ l.mem = (s.lane x).mem)

/-- R91: a commit fills the other buffer, flips BUF, counts CKSN and makes every line committed. R100, R98: a mismatch
below FENCE discards what is uncommitted, and the restart resumes the hart of the last checkpoint. R99, R100: a
divergence, or a mismatch of severity FENCE or more, fences the pair. R98: replay ends when every entry is consumed,
and the count of replayed entries stands. R103: CMD 2 starts a fenced pair anew. -/
def Obligations.CheckpointAndRestart : Prop :=
  ∀ (s : State) (x : Lane) (g : Agent) (p : Fin 4) (m : Fin 16) (e : Fin 0x1000000) (k : Nat),
    (s.lane x).alive = true →
    (((s.lane x).pair p.val).ckptReq = true → (s.lane x).pairState p.val = PState.save → ((s.lane x).pair p.val).replay = false → (s.lane x).uStores = [] → 
      yieldsLane x (.checkpointCommit x ⟨p, k⟩) s fun l =>
        l.get (F.CKP_PAIRSTAT_BUF p.val) = 1 - (s.lane x).get (F.CKP_PAIRSTAT_BUF p.val) ∧
        l.cksn p.val = (s.lane x).cksn p.val + 1 ∧ l.pairState p.val = PState.run ∧
        (l.pair p.val).ckptReq = false ∧ (l.pair p.val).log = [] ∧
        (l.pair p.val).lines = ((s.lane x).pair p.val).lines.map (fun c => { c with u := false }) ∧
        (((s.lane x).pair p.val).haltReq = false →
          (l.pair p.val).hart = { ((s.lane x).pair p.val).hart with
            pc := ((s.lane x).pair p.val).hart.pc + if ((s.lane x).pair p.val).przReq then 4 else 0 } ∧
          l.lastCkpt p.val = (l.pair p.val).hart.record false) ∧
        sameOtherPairs (s.lane x) l p.val ∧ l.mem = (s.lane x).mem) ∧
    (((s.lane x).pair p.val).released = true → (s.lane x).pairState p.val = PState.run → (s.lane x).reaction (56 + p.val) < Sev.fence → (s.lane x).uStores = [] → 
      yieldsLane x (.lockstepMismatch x p m e.val) s fun l =>
        l.pairState p.val = PState.restart ∧ l.get (F.CKP_LASTMIS_GROUP p.val) = m.val ∧ l.get (F.CKP_LASTMIS_EIC p.val) = e.val ∧
        l.events = (s.lane x).events ++ [⟨56 + p.val, 0⟩] ∧
        (l.pair p.val).lines = ((s.lane x).pair p.val).lines.filter (fun c => !c.u) ∧
        sameRegs (s.lane x) l (fun r => r = R.CKP_PAIRSTAT p.val ∨ r = R.CKP_LASTMIS p.val) ∧
        sameOtherPairs (s.lane x) l p.val ∧ l.mem = (s.lane x).mem) ∧
    (((s.lane x).pair p.val).released = true → (s.lane x).pairState p.val = PState.run → Sev.fence ≤ (s.lane x).reaction (56 + p.val) → 
      yieldsLane x (.lockstepMismatch x p m e.val) s fun l =>
        l.pairState p.val = PState.fenced ∧ l.get (F.CKP_PAIRSTAT_LOGUSED p.val) = 0 ∧
        l.get (F.CKP_LASTMIS_GROUP p.val) = m.val ∧ (l.pair p.val).lines = [] ∧
        (l.pair p.val).cb0 = ((s.lane x).pair p.val).cb0 ∧ (l.pair p.val).cb1 = ((s.lane x).pair p.val).cb1) ∧
    ((s.lane x).pairState p.val = PState.restart → 
      yieldsLane x (.checkpointRestartComplete x p) s fun l =>
        (l.pair p.val).hart = ((s.lane x).lastCkpt p.val).restored ((s.lane x).pair p.val).hart ∧
        (l.pair p.val).logPos = 0 ∧ (l.pair p.val).replay = !((s.lane x).pair p.val).log.isEmpty ∧
        l.pairState p.val = (if ((s.lane x).pair p.val).ckptReq then PState.save else
          if ((s.lane x).pair p.val).log.isEmpty then PState.run else PState.replay) ∧
        l.get (F.CKP_RSTCNT_COUNT p.val) = min ((s.lane x).get (F.CKP_RSTCNT_COUNT p.val) + 1) 0xFFFF ∧
        l.get (F.CKP_RSTCNT_REPLAYED p.val) = 0 ∧ l.mem = (s.lane x).mem) ∧
    (((s.lane x).pair p.val).replays = true → (s.lane x).pairState p.val ≠ PState.fenced → 
      yieldsLane x (.replayDivergence x p) s fun l =>
        l.pairState p.val = PState.fenced ∧ (l.pair p.val).replay = false ∧ (l.pair p.val).log = []) ∧
    (((s.lane x).pair p.val).replay = true → ((s.lane x).pair p.val).log.length ≤ ((s.lane x).pair p.val).logPos → ((s.lane x).pair p.val).log.length ≤ 256 → 
      yieldsLane x (.replayEnd x p) s fun l =>
        (l.pair p.val) = { (s.lane x).pair p.val with replay := false } ∧
        l.rd (R.CKP_RSTCNT p.val) = (s.lane x).rd (R.CKP_RSTCNT p.val) ∧
        ((s.lane x).pairState p.val = PState.replay → l.pairState p.val = PState.run) ∧
        sameRegs (s.lane x) l (fun r => r = R.CKP_PAIRSTAT p.val ∨ r = R.CKP_RSTCNT p.val)) ∧
    ((s.lane x).takes R.CKP_PAIRCMD = true → (s.lane x).pairState p.val = PState.fenced → (s.lane x).pairFaulty p.val = false → (s.lane x).fencedBy (.pair p.val) = false → ((s.lane x).pair p.val).haltReq = false → 
      yieldsLane x (.paircmdRevive x g p) s fun l =>
        l.pairState p.val = PState.run ∧ (l.pair p.val).released = true ∧
        (l.pair p.val).hart.pc = BitVec.ofNat 64 ((s.lane x).word ((s.lane x).slotBase + 0x20 + 4 * p.val)).toNat ∧
        l.mem = (s.lane x).mem)

/-- R94: a store to working SRAM is seen by every reader of the line, leaves the SRAM below unchanged and ends the other
harts' reservations of its granule (R82); an LR makes a reservation; a store that PMP bars is an access fault (R80).
R88, R96: a released device read is answered and logged. R81, R96: the machine external interrupt is taken and logged.
R84: an uncorrectable error of L2 raises DATALOSS and the load traps. R66: the first waiting message of a page to a
hart sets its identity pending. -/
def Obligations.PairBoundary : Prop :=
  ∀ (s : State) (x : Lane) (p : Fin 4) (d : DWord) (a : Fin 0x80000) (e t n : Nat) (i : BitVec 8) (page : Nat) (lats : List Nat),
    (s.lane x).pairFree p.val = true →
    ((s.lane x).pair p.val).log.length < 247 →
    (((s.lane x).pair p.val).hart.pmpAllows (0x10000000 + 8 * a.val) 8 true = true → (s.lane x).lineForce p.val (0x400000 + a.val / 8) s.free.toNat = none → (s.lane x).l2Victim (0x400000 + a.val / 8) s.free.toNat = none → ((s.lane x).l1Set p.val (0x400000 + a.val / 8)).length < 8 → (s.lane x).uStores = [] → ((s.lane x).lineData (0x400000 + a.val / 8)).length = 64 → (∀ q, q < 4 → q ≠ p.val → (s.lane x).cline q (0x400000 + a.val / 8) = none) → 
      yields (.workingStore x p ⟨.store, 0x10000000 + 8 * a.val, 8⟩ d lats) s fun w =>
        (w.lane x).dmaDword (0x10000000 + 8 * a.val) = d ∧ (w.lane x).mem = (s.lane x).mem ∧ sameRegs (s.lane x) (w.lane x) (inPage P.PMU) ∧
        (((w.lane x).cline p.val (0x400000 + a.val / 8)).any (·.u)) = true ∧
        (∀ q, q < 4 → q ≠ p.val → ((w.lane x).pair q).resv ≠ some (0x400000 + a.val / 8)) ∧
        w.lane x.peer = s.lane x.peer ∧ w.bed = s.bed ∧ w.brg = s.brg) ∧
    (((s.lane x).pair p.val).hart.pmpAllows (0x10000000 + 8 * a.val) 8 false = true → (s.lane x).lineForce p.val (0x400000 + a.val / 8) s.free.toNat = none → 
      yields (.workingStore x p ⟨.lr, 0x10000000 + 8 * a.val, 8⟩ d lats) s fun w =>
        ((w.lane x).pair p.val).resv = some (0x400000 + a.val / 8) ∧
        (w.lane x).response (.hart p) = .data ((s.lane x).hartLoad (0x10000000 + 8 * a.val) 8) ∧
        (w.lane x).mem = (s.lane x).mem ∧ sameRegs (s.lane x) (w.lane x) (inPage P.PMU) ∧ sameOtherPairs (s.lane x) (w.lane x) p.val) ∧
    (((s.lane x).pair p.val).hart.pmpAllows (0x10000000 + 8 * a.val) 8 true = false → 
      yields (.workingStore x p ⟨.store, 0x10000000 + 8 * a.val, 8⟩ d lats) s fun w =>
        ((w.lane x).pair p.val).hart = ((s.lane x).pair p.val).hart.trap 7 false (BitVec.ofNat 64 (0x10000000 + 8 * a.val)) ∧
        (w.lane x).mem = (s.lane x).mem ∧ sameRegs (s.lane x) (w.lane x) (inPage P.PMU) ∧ sameOtherPairs (s.lane x) (w.lane x) p.val) ∧
    (((s.lane x).pair p.val).hart.pmpAllows R.GPIO_GCFG 4 false = true → (s.lane x).fencedBy (.block 0x40035) = false → 
      yields (.deviceAccessRelease x p (.bus ⟨R.GPIO_GCFG, 4, none⟩)) s fun w =>
        (w.lane x).response (.hart p) = .data (((s.lane x).rd R.GPIO_GCFG).setWidth 64) ∧
        ((w.lane x).pair p.val).log = ((s.lane x).pair p.val).log ++
          [.devrd R.GPIO_GCFG 4 (some (((s.lane x).rd R.GPIO_GCFG).setWidth 64))] ∧ (w.lane x).mem = (s.lane x).mem) ∧
    (((s.lane x).pair p.val).imsic.delivery = true → ((s.lane x).pair p.val).imsic.top ≠ 0 → (((s.lane x).pair p.val).hart.c Csr.mie).getLsbD 11 = true → (((s.lane x).pair p.val).hart.c Csr.mstatus).getLsbD 3 = true → 
      yieldsLane x (.interruptTaken x p e t) s fun l =>
        (l.pair p.val).hart = ((s.lane x).pair p.val).hart.trap 11 true 0 ∧ (l.pair p.val).wfi = false ∧
        (l.pair p.val).log = ((s.lane x).pair p.val).log ++ [.trap (BitVec.ofNat 64 (2 ^ 63 + 11)) e] ∧ l.mem = (s.lane x).mem) ∧
    (yieldsLane x (.cacheCorrectableError x p) s (fun l =>
      l.pair p.val = { (s.lane x).pair p.val with ceCount := ((s.lane x).pair p.val).ceCount + 1 } ∧
      sameOtherPairs (s.lane x) l p.val ∧ l.regs = (s.lane x).regs ∧ l.mem = (s.lane x).mem)) ∧
    (yieldsLane x (.cacheUncorrectableError x p n true) s (fun l =>
      (l.pair p.val).hart = ((s.lane x).pair p.val).hart.trap 5 false (BitVec.ofNat 64 n) ∧
      l.events = (s.lane x).events ++ [⟨64 + p.val, 0⟩] ∧ sameOtherPairs (s.lane x) l p.val ∧ l.regs = (s.lane x).regs)) ∧
    ((s.lane x).power.entry = 0 → 
      yieldsLane x (.wfiEntry x p) s fun l =>
        (l.pair p.val).wfi = true ∧ (l.pair p.val).hart = ((s.lane x).pair p.val).hart ∧
        sameOtherPairs (s.lane x) l p.val ∧ l.mem = (s.lane x).mem) ∧
    ((s.lane x).msgs.find? (fun m => m.page == page && m.hart == p.val + 0x10 * (s.lane x).id.num) = some ⟨page, p.val + 0x10 * (s.lane x).id.num, i.toNat⟩ → 
      yieldsLane x (.imsicMessageDelivery x ⟨page, p.val + 0x10 * (s.lane x).id.num⟩ i) s fun l =>
        (l.pair p.val).imsic = ((s.lane x).pair p.val).imsic.setPend i.toNat ∧
        l.msgs = (s.lane x).msgs.erase ⟨page, p.val + 0x10 * (s.lane x).id.num, i.toNat⟩ ∧
        (((s.lane x).pair p.val).imsic.enab.contains i.toNat = false → l.regs = (s.lane x).regs) ∧
        sameOtherPairs (s.lane x) l p.val)

/-- R104, R105, R106, R363: a halt request asks for a checkpoint; after its commit the pair is halted; a halted pair's
registers are written and read, and it resumes at dpc. R452: a DEBUG reset restarts the pair from its reset state at
the image's entry. -/
def Obligations.DebugOfPairs : Prop :=
  ∀ (s : State) (x : Lane) (p : Fin 4) (n : Fin 32) (d : DWord) (c : Fin 8),
    (s.lane x).alive = true →
    (s.lane x).dm.enabled = true →
    ((s.lane x).pairFree p.val = true → (s.lane x).get F.PWR_PSTAT_STATE = 0 → (s.lane x).power.entry = 0 → 
      yieldsLane x (.debugHaltRequest x p c) s fun l =>
        (l.pair p.val).haltReq = true ∧ (l.pair p.val).ckptReq = true ∧ l.pairState p.val = PState.save ∧
        sameOtherPairs (s.lane x) l p.val ∧ l.mem = (s.lane x).mem) ∧
    (((s.lane x).pair p.val).released = true → (s.lane x).pairState p.val = PState.run → ((s.lane x).pair p.val).haltReq = true → ((s.lane x).pair p.val).ckptReq = false → 
      yieldsLane x (.debugModeEntry x p) s fun l =>
        l.pairState p.val = PState.halted ∧ (l.pair p.val).haltReq = false ∧
        (l.pair p.val).hart = { ((s.lane x).pair p.val).hart with priv := .machine } ∧
        sameRegs (s.lane x) l (fun r => r = R.CKP_PAIRSTAT p.val) ∧ sameOtherPairs (s.lane x) l p.val) ∧
    ((s.lane x).pairState p.val = PState.halted → ((s.lane x).pair p.val).haltMis = false → 
      yieldsLane x (.debugResume x p) s fun l =>
        (l.pair p.val).hart.pc = ((s.lane x).pair p.val).hart.c Csr.dpc ∧ (l.pair p.val).hart.gpr = ((s.lane x).pair p.val).hart.gpr ∧
        l.pairState p.val = (if ((s.lane x).pair p.val).replay then PState.replay else PState.run) ∧
        l.get (F.CKP_PAIRSTAT_DBGRST p.val) = 0 ∧ sameRegs (s.lane x) l (fun r => r = R.CKP_PAIRSTAT p.val)) ∧
    ((s.lane x).pairState p.val = PState.halted → ((s.lane x).pair p.val).dbgNext = false → 
      yields (.debugAccessRegister x p (0x1000 + n.val) (some d)) s fun t =>
        ((t.lane x).pair p.val).hart.x n.val = (if n.val = 0 then 0 else d) ∧
        (∀ k, k ≠ n.val → ((t.lane x).pair p.val).hart.x k = ((s.lane x).pair p.val).hart.x k) ∧
        ((t.lane x).pair p.val).hart.pc = ((s.lane x).pair p.val).hart.pc ∧ (t.lane x).regs = (s.lane x).regs ∧ t.bed = s.bed) ∧
    ((s.lane x).pairState p.val = PState.halted → ((s.lane x).pair p.val).dbgNext = false → 
      yields (.debugAccessRegister x p (0x1000 + n.val) none) s fun t =>
        (t.lane x).response .dbg = .data (((s.lane x).pair p.val).hart.x n.val) ∧
        ((t.lane x).pair p.val).hart = ((s.lane x).pair p.val).hart) ∧
    ((s.lane x).pairState p.val = PState.halted → ((s.lane x).pair p.val).dbgNext = true → 
      yields (.debugAccessRegister x p (0x1000 + n.val) (some d)) s fun t =>
        ((t.lane x).pair p.val) = { (s.lane x).pair p.val with cmderr := 7, dbgNext := false }) ∧
    ((s.lane x).pairState p.val = PState.halted → ((s.lane x).pair p.val).dbgNext = false → 
      yieldsLane x (.debugProgramBuffer x p [.gpr n.val d]) s fun l =>
        (l.pair p.val).hart = ((s.lane x).pair p.val).hart.setX n.val d ∧ sameOtherPairs (s.lane x) l p.val ∧ l.regs = (s.lane x).regs) ∧
    (((s.lane x).pair p.val).released = true → (s.lane x).pairState p.val = PState.run → ((s.lane x).pair p.val).haltReq = false → ((s.lane x).pair p.val).lines = [] → (s.lane x).uStores = [] → 
      yieldsLane x (.debugHartreset x p) s fun l =>
        l.pairState p.val = PState.run ∧ (l.pair p.val).hart.x n.val =
          (if n.val = 10 then BitVec.ofNat 64 ((s.lane x).rd R.SYS_BOOTSTAT).toNat else
           if n.val = 11 then BitVec.ofNat 64 (s.lane x).slotBase else 0) ∧
        (l.pair p.val).hart.pc = BitVec.ofNat 64 ((s.lane x).word ((s.lane x).slotBase + 0x20 + 4 * p.val)).toNat ∧
        (l.pair p.val).imsic = ((s.lane x).pair p.val).imsic ∧ sameOtherPairs (s.lane x) l p.val ∧ l.mem = (s.lane x).mem) ∧
    ((∀ q, q < 4 → ((s.lane x).pair q).released = true) → (∀ q, q < 4 → (s.lane x).pairState q = PState.run) → (∀ q, q < 4 → ((s.lane x).pair q).haltReq = false) → (∀ q, q < 4 → ((s.lane x).pair q).lines = []) → (s.lane x).uStores = [] → 
      yieldsLane x (.debugNdmreset x) s fun l =>
        l.pairState p.val = PState.run ∧
        (l.pair p.val).hart.pc = BitVec.ofNat 64 ((s.lane x).word ((s.lane x).slotBase + 0x20 + 4 * p.val)).toNat ∧
        (l.pair p.val).hart.x 11 = BitVec.ofNat 64 (s.lane x).slotBase ∧ (l.pair p.val).log = [] ∧ l.mem = (s.lane x).mem)

/-- R73: a write of REQCMD while BUSY = 0 captures the operation and its arguments, one while BUSY = 1 is counted as
dropped. R72, R74: NOP completes with 1. R219: DRIVE_ON takes every domain with bridges to MAKE, DRIVE_OFF every
domain to IDLE. R437: PARK records the consent. R412: FAULT_ACK and FAULT_CLEAR act on a source of Bedrock. R233:
GO_SAFE enters DEVICE_SAFE with cause 1. -/
def Obligations.RequestsCaptured : Prop :=
  ∀ (s : State) (x : Lane) (d : Fin 8) (r : Request) (v : Word),
    s.bedrockRuns = true →
    ((s.lane x).alive = true → (s.lane x).get F.BREQ_REQSTAT_BUSY = 0 → v.toNat % 256 ≤ 9 → 
      yields (.reqcmdWrite x .xfr v) s fun t =>
        t.request x = some ⟨v.toNat % 256, v.toNat / 2 ^ 8 % 256, v.toNat / 2 ^ 16 % 16, (s.lane x).rd R.BREQ_REQDATA_0,
          (s.lane x).rd R.BREQ_REQDATA_1, (s.request x.peer).isSome⟩ ∧
        (t.lane x).get F.BREQ_REQSTAT_BUSY = 1 ∧ (t.lane x).get F.BREQ_REQSTAT_OP = v.toNat % 256 ∧
        (t.lane x).get F.reqAccepted = min ((s.lane x).get F.reqAccepted + 1) 0xFFFF ∧ (t.lane x).mem = (s.lane x).mem ∧
        t.brg = s.brg) ∧
    ((s.lane x).alive = true → (s.lane x).get F.BREQ_REQSTAT_BUSY = 1 → 
      yields (.reqcmdWrite x .xfr v) s fun t =>
        (t.lane x).get F.reqDropped = min ((s.lane x).get F.reqDropped + 1) 0xFFFF ∧ t.request x = s.request x ∧
        sameRegs (s.lane x) (t.lane x) (fun a => a = R.BREQ_REQCNT) ∧ sameBedRegs s.bed t.bed (fun a => a = R.blkstat P.BSYS)) ∧
    (s.request x = some r → s.mustWait x r = false → s.settle = s → r.op = 0 → 
      yields (.nop x) s fun t =>
        (t.lane x).get F.BREQ_REQSTAT_RESULT = 1 ∧ (t.lane x).get F.BREQ_REQSTAT_BUSY = 0 ∧ t.request x = none ∧
        sameRegs (s.lane x) (t.lane x) (fun a => a = R.BREQ_REQSTAT) ∧ t.bed.regs = s.bed.regs ∧ t.brg = s.brg) ∧
    (s.request x = some r → s.mustWait x r = false → s.settle = s → r.op = 4 → s.devState = Dev.idle → (∀ k, k < 8 → s.ready .A k = true ∨ s.ready .B k = true) → 
      yields (.driveOn x) s fun t =>
        t.devState = Dev.drive ∧ (t.lane x).get F.BREQ_REQSTAT_RESULT = 1 ∧ t.a.get F.PWR_PSTAT_CONSENT = 0 ∧
        t.b.get F.PWR_PSTAT_CONSENT = 0 ∧
        (s.domBridges d.val ≠ [] → t.domState d.val = Dom.make ∧
          t.holder d.val = (let p := laneOf (s.bed.get (F.BLEASE_LCFG_PREF d.val)); if s.ready p d.val then p else p.peer))) ∧
    (s.request x = some r → s.mustWait x r = false → s.settle = s → r.op = 5 → s.devState = Dev.drive → 
      yields (.driveOff x) s fun t =>
        t.devState = Dev.idle ∧ (t.lane x).get F.BREQ_REQSTAT_RESULT = 1 ∧ t.domState d.val = Dom.idle ∧
        t.bed.get (F.BLEASE_HOLD_COUNT d.val) = 0 ∧ t.bed.get (F.BLEASE_HOLD_TERM d.val) = 0 ∧ t.ready .A d.val = false ∧
        t.ready .B d.val = false ∧ (t.lane x).mem = (s.lane x).mem) ∧
    (s.request x = some r → s.mustWait x r = false → s.settle = s → r.op = 6 → s.devState = Dev.idle → 
      yields (.park x) s fun t =>
        (t.lane x).get F.PWR_PSTAT_CONSENT = 1 ∧ (t.lane x).get F.BREQ_REQSTAT_RESULT = 1 ∧ t.request x = none ∧
        sameRegs (s.lane x) (t.lane x) (fun a => a = R.PWR_PSTAT ∨ a = R.BREQ_REQSTAT) ∧ t.bed.regs = s.bed.regs) ∧
    (s.request x = some r → s.mustWait x r = false → s.settle = s → r.op = 7 → s.devState ≠ Dev.safe → r.d0.toNat < 36 → s.bed.get (F.bedAct r.d0.toNat) = 1 → 
      yields (.faultAck x) s fun t =>
        t.bed.get (F.bedAck r.d0.toNat) = 1 ∧ (t.lane x).get F.BREQ_REQSTAT_RESULT = 1 ∧
        sameBedRegs s.bed t.bed (fun a => a = R.BFLT_ACK_L ∨ a = R.BFLT_ACK_H) ∧ t.brg = s.brg) ∧
    (s.request x = some r → s.mustWait x r = false → s.settle = s → r.op = 8 → s.devState ≠ Dev.safe → r.d0.toNat < 36 → s.bed.get (F.bedAct r.d0.toNat) = 1 → s.bedLive r.d0.toNat = false → 
      yields (.faultClear x) s fun t =>
        t.bed.get (F.bedAct r.d0.toNat) = 0 ∧ t.bed.get (F.bedAck r.d0.toNat) = 0 ∧
        (t.lane x).get F.BREQ_REQSTAT_RESULT = 1) ∧
    (s.request x = some r → s.mustWait x r = false → s.settle = s → r.op = 9 → (s.devState = Dev.idle ∨ s.devState = Dev.drive) → 
      yields (.goSafe x) s fun t =>
        t.devState = Dev.safe ∧ t.bed.get F.BSYS_SAFECAUSE_CAUSE = 1 ∧ t.domState d.val = Dom.safe ∧ t.ready .A d.val = false ∧
        t.ready .B d.val = false ∧ t.bed.get F.BSAFE_SOSTAT_CMD = 0 ∧ (t.lane x).get F.BREQ_REQSTAT_RESULT = 1)

/-- R217, R219: a positive RENEW of a held domain restarts its lease; R222: one that finds the lease run out is refused,
and the lease expires. R218, R219: a positive STANDBY makes the lane standby-ready. R219, R221: RELEASE with a ready
peer, the expiry of the lease, and self-diagnosis with a ready peer take a held domain to BREAK with causes 2, 1 and
3. R218: readiness ends when it expires. -/
def Obligations.LeaseAndReadiness : Prop :=
  ∀ (s : State) (x : Lane) (d : Fin 8) (r : Request),
    s.bedrockRuns = true →
    (s.request x = some r → s.mustWait x r = false → s.settle = s → r.op = 1 → r.arg = 2 ^ d.val → s.devState = Dev.drive → s.holderOf d.val = some x → s.domState d.val = Dom.held → r.d0 = 0x936C6C93 → r.d1.toNat = (s.bed.get (F.rseq x) + 1) % 2 ^ 32 → s.laneStatus x = Stat.up → s.capable x = true → s.bed.get F.BSYS_BCFG_NETVOTE = 0 → 
      yields (.renew x) s fun t =>
        Table.get (fun _ => 0) t.bed.leaseAt d.val = s.nowUs ∧ t.bed.get (F.rseq x) = r.d1.toNat ∧
        (t.lane x).get F.BREQ_REQSTAT_RESULT = 1 ∧ t.request x = none ∧ t.devState = Dev.drive) ∧
    (s.request x = some r → s.mustWait x r = false → s.settle = s → r.op = 3 → r.arg = 2 ^ d.val → s.devState = Dev.idle → s.domState d.val = Dom.idle → r.d0 = 0x936C6C93 → r.d1.toNat = (s.bed.get (F.rseq x) + 1) % 2 ^ 32 → s.laneStatus x = Stat.up → s.capable x = true → s.bed.get F.BSYS_BCFG_NETVOTE = 0 → s.selfDiag x d.val = false → 
      yields (.standby x) s fun t =>
        t.ready x d.val = true ∧ t.domState d.val = Dom.idle ∧ t.bed.get (F.rseq x) = r.d1.toNat ∧
        (t.lane x).get F.BREQ_REQSTAT_RESULT = 1 ∧ t.request x = none) ∧
    (s.request x = some r → s.mustWait x r = false → s.settle = s → r.op = 2 → r.arg = 2 ^ d.val → s.devState = Dev.drive → s.domState d.val = Dom.held → s.holder d.val = x → s.ready x.peer d.val = true → 
      yields (.release x) s fun t =>
        t.domState d.val = Dom.brk ∧ t.bed.get (F.BLEASE_LLAST_CAUSE d.val) = 2 ∧
        t.bed.get (F.BLEASE_LLAST_FROM d.val) = x.num ∧ t.ready x d.val = false ∧ t.ready x.peer d.val = true ∧
        t.bed.get (F.BLEASE_LCNT_HANDOVER d.val) = min (s.bed.get (F.BLEASE_LCNT_HANDOVER d.val) + 1) 0xFFFF ∧
        (t.lane x).get F.BREQ_REQSTAT_RESULT = 1) ∧
    (s.request x = some r → s.mustWait x r = false → r.op = 1 → r.arg = 2 ^ d.val → s.devState = Dev.drive → s.domState d.val = Dom.held → s.holder d.val = x → s.leaseLeft d.val = 0 → (∀ k, k < 8 → k ≠ d.val → s.domState k ≠ Dom.held) → 
      yields (.renew x) s fun t =>
        (t.lane x).get F.BREQ_REQSTAT_RESULT = 4 ∧ t.domState d.val = Dom.brk ∧ t.bed.get (F.BLEASE_LLAST_CAUSE d.val) = 1 ∧
        t.request x = none) ∧
    (s.domState d.val = Dom.held → 
      yields (.leaseExpiry d) s fun t =>
        t.domState d.val = Dom.brk ∧ t.bed.get (F.BLEASE_LLAST_CAUSE d.val) = 1 ∧
        t.bed.get (F.BLEASE_LLAST_FROM d.val) = (s.holder d.val).num ∧ t.ready (s.holder d.val) d.val = false ∧
        t.bed.selOut.isSome = true ∧ t.brg = s.brg) ∧
    (yields (.standbyReadyExpiry x d) s (fun t =>
      t.ready x d.val = false ∧ t.domState d.val = s.domState d.val ∧ t.ready x.peer d.val = s.ready x.peer d.val ∧
      sameBedRegs s.bed t.bed (fun a => a = R.BLEASE_LSTAT d.val) ∧ t.a = s.a ∧ t.b = s.b ∧ t.brg = s.brg)) ∧
    (s.selfDiag x d.val = true → s.domState d.val = Dom.held → s.holder d.val = x → s.ready x.peer d.val = true → 
      yields (.selfDiagnosisRise x d) s fun t =>
        t.domState d.val = Dom.brk ∧ t.bed.get (F.BLEASE_LLAST_CAUSE d.val) = 3 ∧ t.ready x d.val = false ∧
        t.bed.get (F.BLEASE_LLAST_FROM d.val) = x.num ∧ t.brg = s.brg)

/-- R215: a heartbeat takes a lane from OFF, LOST or EXCLUDED to BOOT; a missing heartbeat and a LANE_DOWN flag take it to
LOST with causes 3 and 2; the Kiln-fail wire takes it from BOOT to EXCLUDED; the completion of start-up takes it to
UP, its pairs released. R470: START ends at its timeout in IDLE when one lane is UP and SINGLEOK = 1, in DEVICE_SAFE
with cause 6 when none is. -/
def Obligations.LaneStatusChanges : Prop :=
  ∀ (s : State) (x : Lane) (us p : Nat),
    s.devState ≠ Dev.parked →
    s.bedrockRuns = true →
    ((s.lane x).heartbeat = true → (s.laneStatus x = Stat.off ∨ s.laneStatus x = Stat.lost ∨ s.laneStatus x = Stat.excluded) → 
      yields (.laneHeartbeatStart x) s fun t =>
        t.laneStatus x = Stat.boot ∧ t.bed.get (F.rseq x) = 0 ∧ t.laneStatus x.peer = s.laneStatus x.peer ∧ (t.lane x).mem = (s.lane x).mem) ∧
    ((s.laneStatus x = Stat.up ∨ s.laneStatus x = Stat.boot) → 
      yields (.heartbeatMissing x) s fun t =>
        t.laneStatus x = Stat.lost ∧ t.bed.get (F.laneCause x) = 3 ∧ t.laneStatus x.peer = s.laneStatus x.peer ∧
        t.capable x = false ∧ (t.lane x).get F.PWR_PSTAT_CONSENT = 0 ∧ (t.lane x).mem = (s.lane x).mem) ∧
    ((s.lane x).col.laneDown = true → (s.laneStatus x = Stat.up ∨ s.laneStatus x = Stat.boot) → 
      yields (.laneDownFlag x) s fun t =>
        t.laneStatus x = Stat.lost ∧ t.bed.get (F.laneCause x) = 2 ∧ t.laneStatus x.peer = s.laneStatus x.peer ∧
        t.capable x = false) ∧
    ((s.lane x).power.kilnWire = true → s.laneStatus x = Stat.boot → 
      yields (.kilnFailWire x) s fun t =>
        t.laneStatus x = Stat.excluded ∧ t.laneStatus x.peer = s.laneStatus x.peer ∧ t.capable x = false) ∧
    (s.bed.get F.BSYS_BCFG_LOADED = 1 → (s.lane x).boot = .load → ((s.bootCheck x).lane x).boot = .load → (((s.bootCheck x).bootLock x).lane x).boot = .load → s.laneStatus x = Stat.boot → p < 4 → (((s.bootCheck x).bootLock x).lane x).pairState p ≠ PState.fenced → 
      yields (.laneStartUpComplete x us) s fun t =>
        (t.lane x).boot = .complete ∧ (t.lane x).rd R.SYS_BOOTTIME = BitVec.ofNat 32 us ∧ t.laneStatus x = Stat.up ∧
        ((t.lane x).pair p).released = true) ∧
    (s.devState = Dev.start → s.laneStatus .A ≠ Stat.up → s.laneStatus .B ≠ Stat.up → 
      yields .startTimeout s fun t =>
        t.devState = Dev.safe ∧ t.bed.get F.BSYS_SAFECAUSE_CAUSE = 6 ∧ t.laneStatus x = s.laneStatus x) ∧
    (s.devState = Dev.start → s.laneStatus x = Stat.up → s.bridgeLinkUp x = true → s.bed.get F.BSYS_BCFG_SINGLEOK = 1 → s.bed.tstd = false → 
      yields .startTimeout s fun t =>
        t.devState = Dev.idle ∧ t.capable x = true ∧ t.laneStatus x = Stat.up)

/-- R226: the bridge die applies a word that passes its checks and acknowledges it; a word whose CRC fails only counts.
R224, R226: Bedrock sends its selection again. R221: the acknowledgement of an accepted word that names the present
selection of a domain takes it from BREAK to MAKE toward a ready lane, and from MAKE to HELD, with the cycles of its
handover. R233: no acknowledgement enters DEVICE_SAFE with cause 5. R227: the orphan timer puts every bridge at rank 4
or below. -/
def Obligations.SelectionWords : Prop :=
  ∀ (s : State) (w : SelectWord) (d : Fin 8) (cy : List Nat),
    (selectOk s.brg.selExpect w = true → 
      yields (.selectReceived w) s fun t =>
        t.brg.get (F.BRG_BSTAT_SEL d.val) = w.codes.getD d.val 3 ∧ t.brg.get (F.BRG_BSTAT_ACT d.val) = w.acts.getD d.val 1 ∧
        t.brg.get F.BCOM_TBSTAT_ARMED = 1 ∧ t.brg.selExpect = (w.seq + 1) % 256 ∧
        t.bed.ackWire = s.bed.ackWire ++ [(w.seq, w.codes, w.acts)]) ∧
    (w.crcOk = false → 
      yields (.selectReceived w) s fun t =>
        sameBrgRegs s.brg t.brg (fun a => a = R.evtCnt P.BCOM) ∧ t.brg.selExpect = s.brg.selExpect ∧ t.bed.ackWire = s.bed.ackWire ∧
        t.a = s.a ∧ t.b = s.b) ∧
    (s.bedrockRuns = true → s.bed.ackWire.find? (fun e => decide (e.2 = (w.codes, w.acts))) = some (w.seq, w.codes, w.acts) → s.ackNames w.seq w.codes w.acts d.val = true → s.domState d.val = Dom.brk → s.ready (laneOf (s.bed.get (F.BLEASE_LLAST_FROM d.val))).peer d.val = true → 
      yields (.selectAck w.codes w.acts cy) s fun t =>
        t.domState d.val = Dom.make ∧ t.holder d.val = (laneOf (s.bed.get (F.BLEASE_LLAST_FROM d.val))).peer ∧
        t.bed.selOut.isSome = true) ∧
    (s.bedrockRuns = true → s.bed.ackWire.find? (fun e => decide (e.2 = (w.codes, w.acts))) = some (w.seq, w.codes, w.acts) → s.ackNames w.seq w.codes w.acts d.val = true → s.domState d.val = Dom.make → s.ready (s.holder d.val).peer d.val = false → 
      yields (.selectAck w.codes w.acts cy) s fun t =>
        t.domState d.val = Dom.held ∧ t.holder d.val = s.holder d.val ∧ Table.get (fun _ => 0) t.bed.leaseAt d.val = s.nowUs ∧
        (s.bed.hand.contains d.val = true → t.bed.get (F.BLEASE_LLAST_CYCLES d.val) = min (cy.getD d.val 0) 255)) ∧
    (s.bedrockRuns = true → s.bed.selOut.isSome = true → 
      yields .selectRepeat s fun t =>
        t.bed.selWire.length = s.bed.selWire.length + 1 ∧ t.bed.selSeq = (s.bed.selSeq + 1) % 256 ∧
        (t.bed.selOut.any fun v => v.codes == (List.range 8).map (fun n => (s.selection n).1) &&
          v.acts == (List.range 8).map (fun n => (s.selection n).2) && v.seq == s.bed.selSeq) = true ∧
        t.bed.regs = s.bed.regs ∧ t.a = s.a ∧ t.b = s.b ∧ t.brg = s.brg) ∧
    (s.bedrockRuns = true → 
      yields .selectPeriodic s fun t =>
        t.bed.selWire.length = s.bed.selWire.length + 1 ∧ t.bed.selSeq = (s.bed.selSeq + 1) % 256 ∧
        (t.bed.selOut.any fun v => v.codes == (List.range 8).map (fun n => (s.selection n).1) && v.seq == s.bed.selSeq) = true ∧
        t.bed.regs = s.bed.regs ∧ t.a = s.a ∧ t.b = s.b ∧ t.brg = s.brg) ∧
    (s.bedrockRuns = true → s.bed.selOut.isSome = true → (s.devState = Dev.idle ∨ s.devState = Dev.drive) → 
      yields .selectTimeout s fun t =>
        t.devState = Dev.safe ∧ t.bed.get F.BSYS_SAFECAUSE_CAUSE = 5 ∧ t.domState d.val = Dom.safe ∧ t.brg = s.brg) ∧
    (s.brg.get F.BCOM_TBSTAT_ARMED = 1 → s.brg.get F.BCOM_TBSTAT_ORPHLAT = 0 → 
      yields .orphanTimeout s fun t =>
        t.brg.get F.BCOM_TBSTAT_ORPHLAT = 1 ∧ t.brg.get (F.BRG_BSTAT_DRIVE d.val) ≤ 4 ∧ t.bed = s.bed)

/-- R452, R43: a feed that rises starts the lane from a POR, one that falls leaves it unpowered; the device is OFF without
a feed. R230: the undervoltage comparators hold and release the lane. R231: a gate supply's loss is shown and counted.
R233: the loss of both enters DEVICE_SAFE with cause 4. R225: a retired half's bit falls. -/
def Obligations.FeedsAndSupplies : Prop :=
  ∀ (s : State) (x : Lane) (t0 td : Bool),
    ((s.lane x).power.feedOn = false → 
      yields (.feedPowerOnRise x t0 td) s fun t =>
        (t.lane x).power.feedOn = true ∧ (t.lane x).power.held = true ∧ (t.lane x).power.tst = t0 ∧
        (t.lane x).get F.PWR_RSTCAUSE_KIND = Rst.por ∧ (s.bed.on = false → t.bed.on = true ∧ t.devState = Dev.start ∧
          t.bed.get F.BSYS_DEVSTAT_SUPSEL = x.num) ∧ (t.lane x.peer).mem = (s.lane x.peer).mem) ∧
    ((s.lane x).power.feedOn = true → 
      yields (.feedPowerOnFall x) s fun t =>
        (t.lane x).power.feedOn = false ∧ (t.lane x).power.railsOff = true ∧
        ((s.lane x.peer).power.feedOn = false → t.bed.on = false) ∧ (t.lane x.peer).power = (s.lane x.peer).power ∧
        (t.lane x.peer).mem = (s.lane x.peer).mem) ∧
    ((s.lane x).power.feedOn = true → (s.lane x).power.feedUv = false → 
      yields (.feedUndervoltageRise x) s fun t =>
        (t.lane x).power.feedUv = true ∧ t.bed.get (F.feed x) = 1 ∧ t.laneStatus x = s.laneStatus x ∧
        (t.lane x).mem = (s.lane x).mem ∧ t.brg = s.brg) ∧
    ((s.lane x).power.feedUv = true → 
      yields (.feedUndervoltageFall x) s fun t =>
        (t.lane x).power.feedUv = false ∧ t.bed.get (F.feed x) = 0 ∧ (t.lane x).power.held = true ∧
        (t.lane x).get F.PWR_RSTCAUSE_KIND = Rst.feedloss ∧
        ((s.bedrockRuns = true ∧ s.devState ≠ Dev.parked ∧ s.laneStatus x = Stat.up) → t.laneStatus x = Stat.lost ∧ t.bed.get (F.laneCause x) = 1) ∧
        (t.lane x.peer).mem = (s.lane x.peer).mem) ∧
    (s.bed.on = true → s.bed.get (F.vgd x) = 1 → 
      yields (.gateSupplyFall x) s fun t =>
        t.bed.get (F.vgd x) = 0 ∧ t.bed.get F.BSYS_SUPCNT_VGDLOSS = min (s.bed.get F.BSYS_SUPCNT_VGDLOSS + 1) 0xFFFF ∧
        t.bed.events = s.bed.events ++ [⟨4 + x.num, none⟩] ∧
        sameBedRegs s.bed t.bed (fun a => a = R.BSYS_DEVSTAT ∨ a = R.BSYS_SUPCNT)) ∧
    (s.bed.on = true → 
      yields (.gateSupplyRise x) s fun t =>
        t.bed.get (F.vgd x) = 1 ∧ sameBedRegs s.bed t.bed (fun a => a = R.BSYS_DEVSTAT)) ∧
    (s.bedrockRuns = true → s.noGateSupply = true → (s.devState = Dev.idle ∨ s.devState = Dev.drive) → 
      yields .gateSuppliesLostTimeout s fun t =>
        t.devState = Dev.safe ∧ t.bed.get F.BSYS_SAFECAUSE_CAUSE = 4 ∧ t.brg = s.brg) ∧
    (s.bed.on = true → s.bed.get F.BSYS_DEVSTAT_H0OK = 1 → 
      yields (.bedrockHalfRetire true t0) s fun t =>
        t.bed.get F.BSYS_DEVSTAT_H0OK = 0 ∧ (t0 = false → t.bed.get F.BSYS_DEVSTAT_H1OK = s.bed.get F.BSYS_DEVSTAT_H1OK) ∧
        (t0 = true → t.bed.get F.BSYS_DEVSTAT_H1OK = 0 ∧ t.bed.get F.BSAFE_SOSTAT_CMD = 0) ∧ t.brg = s.brg)

/-- R256, R257: over-current, DESAT, supply and temperature faults latch in FLTLAT, and the bridge is at a rank of 5 or
below (3 for DESAT). R251: a UV refresh is counted, and BUVN of them latch BOOTUV. Everything outside the bridge's
page, and Bedrock, is unchanged. -/
def Obligations.BridgeProtection : Prop :=
  ∀ (s : State) (n : Fin 8) (p : Fin 3) (sw : Fin 6) (k : BitVec 8) (st v af : Nat),
    (s.brg.get (F.BRG_OCCFG_OCCNT n.val) ≤ (s.unit n.val).ocOver.get p.val → 
      yields (.overcurrentDetected n p) s fun t =>
        (t.brg.rd (R.BRG_FLTLAT n.val)).getLsbD ((F.BRG_FLTLAT_OC n.val).lo + p.val) = true ∧
        t.brg.get (F.BRG_BSTAT_DRIVE n.val) ≤ 5 ∧
        sameBrgRegs s.brg t.brg (fun a => inPage (P.BRG n.val) a) ∧ t.bed = s.bed ∧ t.a.regs = s.a.regs ∧ t.b.regs = s.b.regs) ∧
    (((s.unit n.val).drive.get p.val).hiAny = true → (s.unit n.val).intlk.get p.val = false → v < 6000 + 500 * s.brg.get (F.BRG_BOOT_BSUV n.val) → af < 6000 + 500 * s.brg.get (F.BRG_BOOT_BSUV n.val) → 
      yields (.bootstrapUndervoltage n p ⟨st, v, af⟩) s fun t =>
        t.brg.get (F.BRG_REFCNT_UV n.val) = min (s.brg.get (F.BRG_REFCNT_UV n.val) + 1) 0xFFFF ∧
        t.brg.get (F.BRG_EVT_BUVREF n.val) = 1 ∧ (t.unit n.val).uvRuns.get p.val = (s.unit n.val).uvRuns.get p.val + 1 ∧
        (t.unit n.val).vbsLow.get p.val = true ∧ (t.unit n.val).uvAt.get p.val = (s.unit n.val).uvAt.get p.val ++ [(st : Int)] ∧
        t.brg.get (F.BRG_BSTAT_DRIVE n.val) = s.brg.get (F.BRG_BSTAT_DRIVE n.val) ∧
        sameBrgRegs s.brg t.brg (fun a => inPage (P.BRG n.val) a) ∧ t.bed = s.bed ∧ t.a.regs = s.a.regs ∧ t.b.regs = s.b.regs) ∧
    (s.brg.get (F.BRG_BOOT_BUVN n.val) ≤ (s.unit n.val).uvRuns.get p.val → (s.unit n.val).vbsLow.get p.val = true → s.brg.get (F.BRG_BSTAT_PRE n.val) = 0 → 
      yields (.bootuvFaultLatch n p) s fun t =>
        (t.brg.rd (R.BRG_FLTLAT n.val)).getLsbD ((F.BRG_FLTLAT_BOOTUV n.val).lo + p.val) = true ∧
        t.brg.get (F.BRG_BSTAT_DRIVE n.val) ≤ 5 ∧
        sameBrgRegs s.brg t.brg (fun a => inPage (P.BRG n.val) a) ∧ t.bed = s.bed ∧ t.a.regs = s.a.regs ∧ t.b.regs = s.b.regs) ∧
    (yields (.desatDetected n sw) s (fun t =>
      (t.brg.rd (R.BRG_FLTLAT n.val)).getLsbD ((F.BRG_FLTLAT_DESAT n.val).lo + sw.val) = true ∧
      t.brg.get (F.BRG_BSTAT_DRIVE n.val) ≤ 3 ∧
      sameBrgRegs s.brg t.brg (fun a => inPage (P.BRG n.val) a) ∧ t.bed = s.bed ∧ t.a.regs = s.a.regs ∧ t.b.regs = s.b.regs)) ∧
    (s.brg.get (F.run (P.BRG n.val)) = 1 → v < 500 * s.brg.get (F.BRG_VBRCFG_UVTH n.val) → 
      yields (.bridgeSupplyUndervoltage ⟨n, v⟩) s fun t =>
        t.brg.get (F.BRG_FLTLAT_VBRUV n.val) = 1 ∧ t.brg.get (F.BRG_FLTCAUSE_VBRUV n.val) = 1 ∧
        t.brg.get (F.BRG_BSTAT_DRIVE n.val) ≤ 5 ∧
        sameBrgRegs s.brg t.brg (fun a => inPage (P.BRG n.val) a) ∧ t.bed = s.bed ∧ t.a.regs = s.a.regs ∧ t.b.regs = s.b.regs) ∧
    (500 * s.brg.get (F.BRG_VBRCFG_OVTH n.val) < v → 
      yields (.bridgeSupplyOvervoltage ⟨n, v⟩) s (fun t =>
        t.brg.get (F.BRG_FLTLAT_VBROV n.val) = 1 ∧ t.brg.get (F.BRG_FLTCAUSE_VBROV n.val) = 1 ∧
        t.brg.get (F.BRG_BSTAT_DRIVE n.val) ≤ 5 ∧
        sameBrgRegs s.brg t.brg (fun a => inPage (P.BRG n.val) a) ∧ t.bed = s.bed ∧ t.a.regs = s.a.regs ∧ t.b.regs = s.b.regs)) ∧
    (234 < k.toNat → 
      yields (.overtemperature n k) s fun t =>
        t.brg.get (F.BRG_FLTLAT_OTEMP n.val) = 1 ∧ t.brg.get (F.BRG_BSTAT_TEMP n.val) = k.toNat ∧
        t.brg.get (F.BRG_BSTAT_DRIVE n.val) ≤ 5 ∧
        sameBrgRegs s.brg t.brg (fun a => inPage (P.BRG n.val) a) ∧ t.bed = s.bed ∧ t.a.regs = s.a.regs ∧ t.b.regs = s.b.regs) ∧
    (s.brg.get (F.BRG_TEMPCFG_TWARN n.val) + 64 < k.toNat → k.toNat ≤ 234 → 
      yields (.temperatureWarning n k) s fun t =>
        t.brg.get (F.BRG_EVT_TWARN n.val) = 1 ∧ t.brg.get (F.BRG_BSTAT_TEMP n.val) = k.toNat ∧
        t.brg.rd (R.BRG_FLTLAT n.val) = s.brg.rd (R.BRG_FLTLAT n.val) ∧
        t.brg.get (F.BRG_BSTAT_DRIVE n.val) = s.brg.get (F.BRG_BSTAT_DRIVE n.val) ∧
        sameBrgRegs s.brg t.brg (fun a => inPage (P.BRG n.val) a) ∧ t.bed = s.bed ∧ t.a.regs = s.a.regs ∧ t.b.regs = s.b.regs)

/-- R258: BEN_n low for 200 ns forces rank 1, and its rise after a low of 2 µs clears the latches whose cause is gone.
R253: the decoder's code follows the pins. R255: an interlock refusal turns the phase off and counts. R252: precharge
ends at rank 9. R259: the holder of the domain requests the terminal state. R267: a loss of lock puts every bridge at
rank 2 or below. R507: the straps are sampled once. -/
def Obligations.BridgePins : Prop :=
  ∀ (s : State) (x : Lane) (n : Fin 8) (p : Fin 3) (c : Fin 8) (t0 : Nat) (m : List (BitVec 8)),
    (yields (.benFall n) s (fun t =>
      t.brg.get (F.BRG_BSTAT_BEN n.val) = 0 ∧ (t.unit n.val).benLow = true ∧
      t.brg.get (F.BRG_BSTAT_DRIVE n.val) = s.brg.get (F.BRG_BSTAT_DRIVE n.val) ∧
      sameBrgRegs s.brg t.brg (fun a => a = R.BRG_BSTAT n.val) ∧ t.bed = s.bed ∧ t.a.regs = s.a.regs ∧ t.b.regs = s.b.regs)) ∧
    (s.brg.get (F.BRG_BSTAT_BEN n.val) = 0 → 
      yields (.benLowTimeout n) s fun t =>
        t.brg.get (F.BRG_BSTAT_DRIVE n.val) = 1 ∧ t.brg.get (F.BRG_BSTAT_PRE n.val) = 0 ∧
        t.brg.rd (R.BRG_FLTLAT n.val) = s.brg.rd (R.BRG_FLTLAT n.val) ∧
        sameBrgRegs s.brg t.brg (fun a => inPage (P.BRG n.val) a) ∧ t.bed = s.bed ∧ t.a.regs = s.a.regs ∧ t.b.regs = s.b.regs) ∧
    (2000 ≤ t0 → 
      yields (.benRise n t0 7 true true true) s fun t =>
        t.brg.get (F.BRG_BSTAT_BEN n.val) = 1 ∧ (t.unit n.val).benLow = false ∧
        t.brg.get (F.BRG_FLTLAT_VBRUV n.val) = 0 ∧ t.brg.get (F.BRG_FLTLAT_OTEMP n.val) = 0 ∧
        t.brg.get (F.BRG_FLTLAT_BOOTUV n.val) = 0 ∧
        sameBrgRegs s.brg t.brg (fun a => inPage (P.BRG n.val) a) ∧ t.bed = s.bed ∧ t.a.regs = s.a.regs ∧ t.b.regs = s.b.regs) ∧
    (t0 < 2000 → 
      yields (.benRise n t0 7 true true true) s fun t =>
        t.brg.get (F.BRG_BSTAT_BEN n.val) = 1 ∧ t.brg.rd (R.BRG_FLTLAT n.val) = s.brg.rd (R.BRG_FLTLAT n.val) ∧
        sameBrgRegs s.brg t.brg (fun a => inPage (P.BRG n.val) a) ∧ t.bed = s.bed ∧ t.a.regs = s.a.regs ∧ t.b.regs = s.b.regs) ∧
    (s.brg.get (F.BRG_BSTAT_PRE n.val) = 1 → 
      yields (.prechargeEnd n) s fun t =>
        t.brg.get (F.BRG_BSTAT_PRE n.val) = 0 ∧ t.brg.get (F.BRG_BSTAT_DRIVE n.val) = 9 ∧ (t.unit n.val).live = true ∧
        sameBrgRegs s.brg t.brg (fun a => inPage (P.BRG n.val) a) ∧ t.bed = s.bed ∧ t.a.regs = s.a.regs ∧ t.b.regs = s.b.regs) ∧
    (yields (.commutationCodeChange n c) s (fun t =>
      (t.unit n.val).code = (if s.brg.get (F.BRG_COMCFG_PINV n.val) = 1 then 7 - c.val else c.val) ∧
      t.brg.get (F.BRG_BSTAT_DRIVE n.val) = s.brg.get (F.BRG_BSTAT_DRIVE n.val) ∧
      sameBrgRegs s.brg t.brg (fun a => inPage (P.BRG n.val) a) ∧ t.bed = s.bed ∧ t.a.regs = s.a.regs ∧ t.b.regs = s.b.regs)) ∧
    ((s.unit n.val).intlk.get p.val = false → 
      yields (.interlockRefusal n p) s (fun t =>
        t.brg.get (F.BRG_INTLKCNT_INTLK n.val) = min (s.brg.get (F.BRG_INTLKCNT_INTLK n.val) + 1) 0xFFFF ∧
        t.brg.get (F.BRG_EVT_INTLK n.val) = 1 ∧ (t.unit n.val).intlk.get p.val = true ∧
        (t.unit n.val).gates.get p.val = [⟨0, false, false⟩] ∧
        sameBrgRegs s.brg t.brg (fun a => inPage (P.BRG n.val) a) ∧ t.bed = s.bed ∧ t.a.regs = s.a.regs ∧ t.b.regs = s.b.regs)) ∧
    (s.devState = Dev.drive → s.domainOf n.val = some c.val → s.holderOf c.val = some x → 
      yields (.terminalRequest x n 0x7E81) s fun t =>
        (t.unit n.val).treq = true ∧ t.brg.regs = s.brg.regs ∧ t.bed = s.bed ∧ t.a = s.a ∧ t.b = s.b) ∧
    (s.brg.get F.BCOM_TBSTAT_LOCK = 1 → 
      yields .bridgePllLockLoss s fun t =>
        t.brg.get F.BCOM_TBSTAT_LOCK = 0 ∧ t.brg.pllHold = true ∧ t.brg.get (F.BRG_BSTAT_DRIVE n.val) ≤ 2 ∧
        (t.lane x).events = (s.lane x).events ++ [⟨210, 0⟩] ∧ t.bed = s.bed) ∧
    (yields .bridgePllLock s (fun t =>
      t.brg.get F.BCOM_TBSTAT_LOCK = 1 ∧ t.brg.locked = true ∧ (s.brg.pllHold = true → t.brg.get (F.BRG_BSTAT_DRIVE n.val) ≤ 2) ∧
      t.bed = s.bed)) ∧
    (s.brg.strapped = false → m.length = 8 → 
      yields (.orphStrapSample m) s fun t =>
        t.brg.get F.BCOM_STRAPS_ORPH = (m.foldl (· &&& ·) 0xFF).toNat ∧ t.brg.strapped = true ∧ t.bed = s.bed ∧
        t.a.regs = s.a.regs ∧ t.b.regs = s.b.regs)

/-- R122, R141: the register instructions of the loop engine, on a word that R138 allows, set RD to their result (R122
saturates ADDS, SUBS, ABS and NEG) in one cycle and go on (R111, R130). -/
def Obligations.EngineRegisterOps : Prop :=
  ∀ (s : State) (x : Lane) (w : Code),
    ((s.lane x).issues 0x20 w = true → clean w (useD ||| useS) = true → 
      yieldsLane x (.eMov x w) s fun l => (s.lane x).putsD l (rRD w) (((s.lane x).eng.dreg (rRS w)))) ∧
    ((s.lane x).issues 0x21 w = true → clean w (useD ||| useS ||| useT) = true → 
      yieldsLane x (.eAdd x w) s fun l => (s.lane x).putsD l (rRD w) (((s.lane x).eng.dreg (rRS w)) + ((s.lane x).eng.dreg (rRT w)))) ∧
    ((s.lane x).issues 0x22 w = true → clean w (useD ||| useS ||| useT) = true → 
      yieldsLane x (.eSub x w) s fun l => (s.lane x).putsD l (rRD w) (((s.lane x).eng.dreg (rRS w)) - ((s.lane x).eng.dreg (rRT w)))) ∧
    ((s.lane x).issues 0x25 w = true → clean w (useD ||| useS ||| useT) = true → 
      yieldsLane x (.eAnd x w) s fun l => (s.lane x).putsD l (rRD w) (((s.lane x).eng.dreg (rRS w)) &&& ((s.lane x).eng.dreg (rRT w)))) ∧
    ((s.lane x).issues 0x26 w = true → clean w (useD ||| useS ||| useT) = true → 
      yieldsLane x (.eOr x w) s fun l => (s.lane x).putsD l (rRD w) (((s.lane x).eng.dreg (rRS w)) ||| ((s.lane x).eng.dreg (rRT w)))) ∧
    ((s.lane x).issues 0x27 w = true → clean w (useD ||| useS ||| useT) = true → 
      yieldsLane x (.eXor x w) s fun l => (s.lane x).putsD l (rRD w) (((s.lane x).eng.dreg (rRS w)) ^^^ ((s.lane x).eng.dreg (rRT w)))) ∧
    ((s.lane x).issues 0x28 w = true → clean w (useD ||| useS ||| ones 45 40) = true → 
      yieldsLane x (.eShl x w) s fun l => (s.lane x).putsD l (rRD w) (((s.lane x).eng.dreg (rRS w)) <<< fld w 45 40)) ∧
    ((s.lane x).issues 0x29 w = true → clean w (useD ||| useS ||| ones 45 40) = true → 
      yieldsLane x (.eSar x w) s fun l => (s.lane x).putsD l (rRD w) (((s.lane x).eng.dreg (rRS w)).sshiftRight (fld w 45 40))) ∧
    ((s.lane x).issues 0x2A w = true → clean w (useD ||| useS ||| ones 45 40) = true → 
      yieldsLane x (.eShr x w) s fun l => (s.lane x).putsD l (rRD w) (((s.lane x).eng.dreg (rRS w)) >>> fld w 45 40)) ∧
    ((s.lane x).issues 0x2B w = true → clean w (useD ||| useS ||| useT) = true → 
      yieldsLane x (.eMin x w) s fun l => (s.lane x).putsD l (rRD w) (if ((s.lane x).eng.dreg (rRS w)).toInt < ((s.lane x).eng.dreg (rRT w)).toInt then ((s.lane x).eng.dreg (rRS w)) else ((s.lane x).eng.dreg (rRT w)))) ∧
    ((s.lane x).issues 0x2C w = true → clean w (useD ||| useS ||| useT) = true → 
      yieldsLane x (.eMax x w) s fun l => (s.lane x).putsD l (rRD w) (if ((s.lane x).eng.dreg (rRT w)).toInt < ((s.lane x).eng.dreg (rRS w)).toInt then ((s.lane x).eng.dreg (rRS w)) else ((s.lane x).eng.dreg (rRT w)))) ∧
    ((s.lane x).issues 0x2D w = true → clean w (useD ||| useS ||| useT ||| useU) = true → 
      yieldsLane x (.eClamp x w) s fun l => (s.lane x).putsD l (rRD w) (smin (smax ((s.lane x).eng.dreg (rRS w)) ((s.lane x).eng.dreg (rRT w))) ((s.lane x).eng.dreg (rRU w)))) ∧
    ((s.lane x).issues 0x23 w = true → clean w (useD ||| useS ||| useT) = true → 
      yieldsLane x (.eAdds x w) s fun l => (s.lane x).putsD l (rRD w) (satD (((s.lane x).eng.dreg (rRS w)).toInt + ((s.lane x).eng.dreg (rRT w)).toInt))) ∧
    ((s.lane x).issues 0x24 w = true → clean w (useD ||| useS ||| useT) = true → 
      yieldsLane x (.eSubs x w) s fun l => (s.lane x).putsD l (rRD w) (satD (((s.lane x).eng.dreg (rRS w)).toInt - ((s.lane x).eng.dreg (rRT w)).toInt))) ∧
    ((s.lane x).issues 0x2E w = true → clean w (useD ||| useS) = true → 
      yieldsLane x (.eAbs x w) s fun l => (s.lane x).putsD l (rRD w) (satD (if ((s.lane x).eng.dreg (rRS w)).toInt < 0 then -((s.lane x).eng.dreg (rRS w)).toInt else ((s.lane x).eng.dreg (rRS w)).toInt))) ∧
    ((s.lane x).issues 0x2F w = true → clean w (useD ||| useS) = true → 
      yieldsLane x (.eNeg x w) s fun l => (s.lane x).putsD l (rRD w) (satD (-((s.lane x).eng.dreg (rRS w)).toInt)))

/-- R119, R141: MAC, MSU, MPY, VMAC, VMPY, ADDA, LDA, VCLR, MOVE, MACI and MPYI, on a word that R138 allows and operands
of good parity (R118), leave the accumulators at the exact result of the operands before the instruction (R139),
saturated where they accumulate. -/
def Obligations.EngineAccumulators : Prop :=
  ∀ (s : State) (x : Lane) (w : Code),
    ((s.lane x).issues 0x01 w = true → clean w (ones 57 56 ||| dataBits w ||| coefBits w ||| moveBits w) = true → fld w 55 52 ≤ 9 → fld w 51 50 ≤ 1 → movesLegal w = true → refsLegal (dataRef w ++ coefRef w ++ (moves w).map Move.ref) = true → (s.lane x).badReads (dataRef w ++ coefRef w ++ (moves w).map Move.ref) = false → 
      yieldsLane x (.eMac x w) s fun l => (s.lane x).putsAcc l ((s.lane x).eng.accum (fld w 57 56) (((s.lane x).eng.a (fld w 57 56)).toInt + (s.lane x).dataVal w * (s.lane x).coefVal w))) ∧
    ((s.lane x).issues 0x02 w = true → clean w (ones 57 56 ||| dataBits w ||| coefBits w ||| moveBits w) = true → fld w 55 52 ≤ 9 → fld w 51 50 ≤ 1 → movesLegal w = true → refsLegal (dataRef w ++ coefRef w ++ (moves w).map Move.ref) = true → (s.lane x).badReads (dataRef w ++ coefRef w ++ (moves w).map Move.ref) = false → 
      yieldsLane x (.eMsu x w) s fun l => (s.lane x).putsAcc l ((s.lane x).eng.accum (fld w 57 56) (((s.lane x).eng.a (fld w 57 56)).toInt - (s.lane x).dataVal w * (s.lane x).coefVal w))) ∧
    ((s.lane x).issues 0x03 w = true → clean w (ones 57 56 ||| dataBits w ||| coefBits w ||| moveBits w) = true → fld w 55 52 ≤ 9 → fld w 51 50 ≤ 1 → movesLegal w = true → refsLegal (dataRef w ++ coefRef w ++ (moves w).map Move.ref) = true → (s.lane x).badReads (dataRef w ++ coefRef w ++ (moves w).map Move.ref) = false → 
      yieldsLane x (.eMpy x w) s fun l => (s.lane x).putsAcc l ((s.lane x).eng.loadAcc (fld w 57 56) ((s.lane x).dataVal w * (s.lane x).coefVal w))) ∧
    ((s.lane x).issues 0x04 w = true → clean w (dataBits w ||| ones 51 50 ||| ones 46 42 ||| moveBits w) = true → fld w 55 52 ≤ 9 → fld w 51 50 = 1 → movesLegal w = true → refsLegal (dataRef w ++ [⟨.quad, fld w 46 44, fld w 43 42, false⟩] ++ (moves w).map Move.ref) = true → (s.lane x).badReads (dataRef w ++ [⟨.quad, fld w 46 44, fld w 43 42, false⟩] ++ (moves w).map Move.ref) = false → 
      yieldsLane x (.eVmac x w) s fun l => (s.lane x).putsAcc l ((List.range 4).foldl (fun e k => e.accum k ((e.a k).toInt + (s.lane x).dataVal w * (s.lane x).opQuad (fld w 46 44) k)) (s.lane x).eng)) ∧
    ((s.lane x).issues 0x05 w = true → clean w (dataBits w ||| ones 51 50 ||| ones 46 42 ||| moveBits w) = true → fld w 55 52 ≤ 9 → fld w 51 50 = 1 → movesLegal w = true → refsLegal (dataRef w ++ [⟨.quad, fld w 46 44, fld w 43 42, false⟩] ++ (moves w).map Move.ref) = true → (s.lane x).badReads (dataRef w ++ [⟨.quad, fld w 46 44, fld w 43 42, false⟩] ++ (moves w).map Move.ref) = false → 
      yieldsLane x (.eVmpy x w) s fun l => (s.lane x).putsAcc l ((List.range 4).foldl (fun e k => e.loadAcc k ((s.lane x).dataVal w * (s.lane x).opQuad (fld w 46 44) k)) (s.lane x).eng)) ∧
    ((s.lane x).issues 0x06 w = true → clean w (ones 57 56 ||| dataBits w ||| ones 36 31 ||| moveBits w) = true → fld w 55 52 ≤ 9 → fld w 36 31 ≤ 47 → movesLegal w = true → refsLegal (dataRef w ++ (moves w).map Move.ref) = true → (s.lane x).badReads (dataRef w ++ (moves w).map Move.ref) = false → 
      yieldsLane x (.eAdda x w) s fun l => (s.lane x).putsAcc l ((s.lane x).eng.accum (fld w 57 56) (((s.lane x).eng.a (fld w 57 56)).toInt + (s.lane x).dataVal w * 2 ^ fld w 36 31))) ∧
    ((s.lane x).issues 0x07 w = true → clean w (ones 57 56 ||| dataBits w ||| ones 36 31 ||| moveBits w) = true → fld w 55 52 ≤ 9 → fld w 36 31 ≤ 47 → movesLegal w = true → refsLegal (dataRef w ++ (moves w).map Move.ref) = true → (s.lane x).badReads (dataRef w ++ (moves w).map Move.ref) = false → 
      yieldsLane x (.eLda x w) s fun l => (s.lane x).putsAcc l ((s.lane x).eng.loadAcc (fld w 57 56) ((s.lane x).dataVal w * 2 ^ fld w 36 31))) ∧
    ((s.lane x).issues 0x08 w = true → clean w (0 ||| moveBits w) = true → movesLegal w = true → refsLegal ( (moves w).map Move.ref) = true → (s.lane x).badReads ( (moves w).map Move.ref) = false → 
      yieldsLane x (.eVclr x w) s fun l => (s.lane x).putsAcc l ((List.range 4).foldl (fun e k => e.loadAcc k 0) (s.lane x).eng)) ∧
    ((s.lane x).issues 0x09 w = true → clean w (0 ||| moveBits w) = true → movesLegal w = true → refsLegal ( (moves w).map Move.ref) = true → (s.lane x).badReads ( (moves w).map Move.ref) = false → 
      yieldsLane x (.eMove x w) s fun l => (s.lane x).putsAcc l ((s.lane x).eng)) ∧
    ((s.lane x).issues 0x16 w = true → clean w (ones 54 50 ||| ones 31 0) = true → 
      yieldsLane x (.eMaci x w) s fun l => (s.lane x).putsAcc l ((s.lane x).eng.accum (fld w 51 50) (((s.lane x).eng.a (fld w 51 50)).toInt + ((s.lane x).eng.dreg (fld w 54 52)).toInt * (imm w).toInt)) ∧ l.eng.d = (s.lane x).eng.d ∧ l.mem = (s.lane x).mem) ∧
    ((s.lane x).issues 0x17 w = true → clean w (ones 54 50 ||| ones 31 0) = true → 
      yieldsLane x (.eMpyi x w) s fun l => (s.lane x).putsAcc l ((s.lane x).eng.loadAcc (fld w 51 50) (((s.lane x).eng.dreg (fld w 54 52)).toInt * (imm w).toInt)) ∧ l.eng.d = (s.lane x).eng.d ∧ l.mem = (s.lane x).mem)

/-- R121, R141: RND writes an accumulator back, rounded and saturated, and with SEN stores it. R141: LDI, LDIH, ADDI,
GETSW and CLRSW. R124, R126: AGCFG and AGSET set an address generator, AGGET reads its pointer. R122: XLD and XST move
an entry of X. -/
def Obligations.EngineImmediatesAndAgs : Prop :=
  ∀ (s : State) (x : Lane) (w : Code),
    ((s.lane x).issues 0x14 w = true → clean w (ones 57 55 ||| ones 31 0) = true → 
      yieldsLane x (.eLdi x w) s fun l => (s.lane x).putsD l (fld w 57 55) ((imm w).signExtend 64)) ∧
    ((s.lane x).issues 0x15 w = true → clean w (ones 57 55 ||| ones 31 0) = true → 
      yieldsLane x (.eLdih x w) s fun l => (s.lane x).putsD l (fld w 57 55) (imm w ++ ((s.lane x).eng.dreg (fld w 57 55)).extractLsb' 0 32)) ∧
    ((s.lane x).issues 0x18 w = true → clean w (ones 57 52 ||| ones 31 0) = true → 
      yieldsLane x (.eAddi x w) s fun l => (s.lane x).putsD l (fld w 57 55) ((s.lane x).eng.dreg (fld w 54 52) + (imm w).signExtend 64)) ∧
    ((s.lane x).issues 0x38 w = true → clean w useD = true → 
      yieldsLane x (.eGetsw x w) s fun l => (s.lane x).putsD l (rRD w) ((s.lane x).eng.esw.setWidth 64)) ∧
    ((s.lane x).issues 0x39 w = true → clean w (ones 3 0) = true → 
      yieldsLane x (.eClrsw x w) s fun l => (s.lane x).wentOn l ∧ l.eng.sticky = (s.lane x).eng.sticky &&& ~~~(w.extractLsb' 0 4) ∧ l.eng.d = (s.lane x).eng.d ∧ l.eng.acc = (s.lane x).eng.acc ∧ l.mem = (s.lane x).mem) ∧
    ((s.lane x).issues 0x30 w = true → clean w (ones 57 9) = true → fld w 54 53 ≠ 3 → agValid (fld w 54 53) (fld w 52 39) (fld w 38 24) = true → 
      yieldsLane x (.eAgcfg x w) s fun l => (s.lane x).wentOn l ∧ l.eng.ag = (s.lane x).eng.ag.setIfInBounds (fld w 57 55) ⟨fld w 52 39, fld w 52 39, fld w 38 24, (w.extractLsb' 9 15).toInt, fld w 54 53⟩ ∧ l.eng.d = (s.lane x).eng.d ∧ l.mem = (s.lane x).mem) ∧
    ((s.lane x).issues 0x31 w = true → clean w (ones 57 55 ||| ones 50 37) = true → ((s.lane x).eng.agen (fld w 57 55)).mode = 0 → 
      yieldsLane x (.eAgset x w) s fun l => (s.lane x).wentOn l ∧ l.eng.ag = (s.lane x).eng.ag.setIfInBounds (fld w 57 55) { (s.lane x).eng.agen (fld w 57 55) with p := fld w 50 37 } ∧ l.eng.d = (s.lane x).eng.d ∧ l.mem = (s.lane x).mem) ∧
    ((s.lane x).issues 0x32 w = true → clean w (ones 57 55 ||| ones 53 51) = true → 
      yieldsLane x (.eAgget x w) s fun l => (s.lane x).putsD l (fld w 53 51) (BitVec.ofNat 64 ((s.lane x).eng.agen (fld w 57 55)).p)) ∧
    ((s.lane x).issues 0x33 w = true → clean w (ones 57 55 ||| ones 53 49) = true → (s.lane x).badReads [⟨.x, fld w 57 55, fld w 50 49, false⟩] = false → 
      yieldsLane x (.eXld x w) s fun l => (s.lane x).wentOn l ∧ l.eng.d = (s.lane x).eng.d.setIfInBounds (fld w 53 51) (BitVec.ofInt 64 ((s.lane x).opX (fld w 57 55))) ∧ l.eng.acc = (s.lane x).eng.acc ∧ l.mem = (s.lane x).mem ∧ l.eng.agen (fld w 57 55) = ((s.lane x).eng.agen (fld w 57 55)).step (fld w 50 49)) ∧
    ((s.lane x).issues 0x34 w = true → clean w (ones 57 55 ||| ones 53 49) = true → 
      yieldsLane x (.eXst x w) s fun l => (s.lane x).wentOn l ∧ (l.word ((s.lane x).eng.place .x (fld w 57 55)).1).toInt = min (max ((s.lane x).eng.dreg (fld w 53 51)).toInt (-(2 ^ 31))) (2 ^ 31 - 1) ∧ sameBytes (s.lane x) l (fun a => ((s.lane x).eng.place .x (fld w 57 55)).1 ≤ a ∧ a < ((s.lane x).eng.place .x (fld w 57 55)).1 + 4) ∧ l.eng.d = (s.lane x).eng.d ∧ l.eng.acc = (s.lane x).eng.acc) ∧
    ((s.lane x).issues 0x10 w = true → clean w (ones 57 45) = true → 
      yieldsLane x (.eRnd x w) s fun l => (s.lane x).wentOn l ∧ l.eng.d = (s.lane x).eng.d.setIfInBounds (fld w 55 53) (writeBackValue ((s.lane x).eng.a (fld w 57 56)).toInt ((s.lane x).eng.sat.getD (fld w 57 56) none) (fld w 52 47) (fld w 45 45 == 1)).1 ∧ l.mem = (s.lane x).mem ∧ (fld w 46 46 = 1 → l.eng.a (fld w 57 56) = 0) ∧ (fld w 46 46 = 0 → l.eng.acc = (s.lane x).eng.acc)) ∧
    ((s.lane x).issues 0x10 w = true → clean w (ones 57 38) = true → fld w 44 44 = 1 → 
      yieldsLane x (.eRnd x w) s fun l => (s.lane x).wentOn l ∧ l.dword ((s.lane x).eng.place (if fld w 43 43 = 0 then .y else .z) (fld w 42 40)).1 = (writeBackValue ((s.lane x).eng.a (fld w 57 56)).toInt ((s.lane x).eng.sat.getD (fld w 57 56) none) (fld w 52 47) (fld w 45 45 == 1)).1 ∧ sameBytes (s.lane x) l (fun a => ((s.lane x).eng.place (if fld w 43 43 = 0 then .y else .z) (fld w 42 40)).1 ≤ a ∧ a < ((s.lane x).eng.place (if fld w 43 43 = 0 then .y else .z) (fld w 42 40)).1 + 8))

/-- R134, R135: the CORDIC's results are ready 18 cycles after issue and are read by CRDGET, which waits for them. R133: a
branch taken goes to its target in two cycles and ends every loop. R130: LOOP begins its body. R114, R180: END records
cause FIN, the PC and the cycles. -/
def Obligations.EngineControl : Prop :=
  ∀ (s : State) (x : Lane) (w : Code),
    ((s.lane x).issues 0x35 w = true → clean w (useS ||| useT ||| useU) = true → (s.lane x).eng.crdReady < 288 → 
      yieldsLane x (.eCrdrot x w) s fun l => (l.eng.crd0, l.eng.crd1) = cordicRotate (((s.lane x).eng.dreg (rRS w)).extractLsb' 0 32) (((s.lane x).eng.dreg (rRT w)).extractLsb' 0 32) (((s.lane x).eng.dreg (rRU w)).extractLsb' 0 32) ∧ l.eng.crdReady = max (s.lane x).eng.cyc (s.lane x).eng.crdReady + 18 ∧ l.eng.cyc = max (s.lane x).eng.cyc (s.lane x).eng.crdReady + 1 ∧ l.eng.d = (s.lane x).eng.d ∧ l.eng.pc = (advance (s.lane x).eng.pc (s.lane x).eng.loops).1 ∧ l.mem = (s.lane x).mem ∧ l.regs = (s.lane x).regs) ∧
    ((s.lane x).issues 0x36 w = true → clean w (useS ||| useT) = true → (s.lane x).eng.crdReady < 288 → 
      yieldsLane x (.eCrdvec x w) s fun l => (l.eng.crd0, l.eng.crd1) = cordicVector (((s.lane x).eng.dreg (rRS w)).extractLsb' 0 32) (((s.lane x).eng.dreg (rRT w)).extractLsb' 0 32) ∧ l.eng.crdReady = max (s.lane x).eng.cyc (s.lane x).eng.crdReady + 18 ∧ l.eng.cyc = max (s.lane x).eng.cyc (s.lane x).eng.crdReady + 1 ∧ l.eng.d = (s.lane x).eng.d ∧ l.eng.pc = (advance (s.lane x).eng.pc (s.lane x).eng.loops).1 ∧ l.mem = (s.lane x).mem ∧ l.regs = (s.lane x).regs) ∧
    ((s.lane x).issues 0x37 w = true → clean w (useD ||| useT) = true → rRD w ≠ rRT w → (s.lane x).eng.crdReady < 288 → 
      yieldsLane x (.eCrdget x w) s fun l => l.eng.d = ((s.lane x).eng.d.setIfInBounds (rRD w) (s.lane x).eng.crd0).setIfInBounds (rRT w) (s.lane x).eng.crd1 ∧ l.eng.cyc = max (s.lane x).eng.cyc (s.lane x).eng.crdReady + 1 ∧ l.eng.acc = (s.lane x).eng.acc ∧ l.mem = (s.lane x).mem) ∧
    ((s.lane x).eng.cyc < (s.lane x).eng.crdReady → 
      yieldsLane x (.cordicResultReady x) s fun l => l = (s.lane x).modEng (fun e => { e with cyc := e.crdReady })) ∧
    ((s.lane x).issues 0x3A w = true → clean w (ones 57 51 ||| ones 44 32) = true → (1 ≤ fld w 57 54 ∧ fld w 57 54 ≤ 6) → (s.lane x).eng.cond (fld w 57 54) (fld w 53 51) = true → 
      yieldsLane x (.eBr x w) s fun l => l.eng.pc = fld w 44 32 ∧ l.eng.loops = [] ∧ l.eng.cyc = (s.lane x).eng.cyc + 2 ∧ l.eng.d = (s.lane x).eng.d ∧ l.eng.acc = (s.lane x).eng.acc ∧ l.mem = (s.lane x).mem ∧ l.regs = (s.lane x).regs) ∧
    ((s.lane x).issues 0x3A w = true → clean w (ones 57 51 ||| ones 44 32) = true → (1 ≤ fld w 57 54 ∧ fld w 57 54 ≤ 6) → (s.lane x).eng.cond (fld w 57 54) (fld w 53 51) = false → 
      yieldsLane x (.eBr x w) s fun l => (s.lane x).wentOn l ∧ l.eng.d = (s.lane x).eng.d ∧ l.eng.acc = (s.lane x).eng.acc ∧ l.mem = (s.lane x).mem) ∧
    ((s.lane x).issues 0x3A w = true → clean w (ones 44 32) = true → 
      yieldsLane x (.eBr x w) s fun l => l.eng.pc = fld w 44 32 ∧ l.eng.loops = [] ∧ l.eng.cyc = (s.lane x).eng.cyc + 2 ∧ l.eng.d = (s.lane x).eng.d ∧ l.mem = (s.lane x).mem) ∧
    ((s.lane x).issues 0x3B w = true → clean w (ones 53 32) = true → (s.lane x).eng.loops = [] → (s.lane x).eng.pc + fld w 37 32 + 1 ≤ 8191 → fld w 53 38 ≠ 0 → 
      yieldsLane x (.eLoop x w) s fun l => l.eng.pc = (s.lane x).eng.pc + 1 ∧ l.eng.loops = [⟨(s.lane x).eng.pc + 1, (s.lane x).eng.pc + fld w 37 32 + 1, fld w 53 38⟩] ∧ l.eng.cyc = (s.lane x).eng.cyc + 1 ∧ l.eng.d = (s.lane x).eng.d ∧ l.mem = (s.lane x).mem) ∧
    ((s.lane x).issues 0x3C w = true → w = 0 → (∀ r, (s.lane x).loop.run = some r → r.slot < 48 ∧ r.ctx < 128) → 
      yieldsLane x (.eEnd x w) s fun l => l.loop.run.any (fun r => r.stage == .ended) = true ∧ (∀ r, (s.lane x).loop.run = some r → l.get (F.LESLOT_SLOTSTAT_CAUSE r.slot) = Cause.fin ∧ l.get (F.LESLOT_SLOTSTAT_PC r.slot) = (s.lane x).eng.pc ∧ l.get (F.LESLOT_CYCLES_LAST r.slot) = min ((s.lane x).eng.cyc + 1) 511))

/-- R143: RUN = 1 starts the engine, and a frame start with RUN = 0 stops it. R164, R165: SWAP and COMMIT read 1 until
they are applied; a frame start applies a commit, advances FN by one (R144) and begins a frame. -/
def Obligations.EngineRequestsAndFrames : Prop :=
  ∀ (s : State) (x : Lane) (c : Fin 128) (v : Word) (b : List Nat),
    (s.lane x).alive = true →
    ((s.lane x).takes (R.blkctrl P.LE) = true → (s.lane x).get (F.running P.LE) = 0 → 
      yieldsLane x (.loopEngineRun x 1) s fun l =>
        l.get (F.run P.LE) = 1 ∧ l.get (F.running P.LE) = 1 ∧ l.loop.adopt = 2 ∧ l.loop.inHeld = [] ∧
        sameRegs (s.lane x) l (fun a => a = R.blkctrl P.LE ∨ a = R.blkstat P.LE) ∧ l.mem = (s.lane x).mem) ∧
    ((s.lane x).takes R.LE_TBLCTRL = true → (s.lane x).get (F.locked P.LE) = 0 → 
      yieldsLane x (.tableCommitRequest x 1) s fun l =>
        l.get F.LE_TBLCTRL_COMMIT = 1 ∧ l.active = (s.lane x).active ∧
        sameRegs (s.lane x) l (fun a => a = R.LE_TBLCTRL) ∧ l.mem = (s.lane x).mem) ∧
    ((s.lane x).takes (R.LE_CTXCOEF c.val) = true → v.getLsbD 25 = true → 
      yieldsLane x (.coefficientSwapRequest x c v) s fun l =>
        l.get (F.LE_CTXCOEF_SWAP c.val) = 1 ∧ l.get (F.LE_CTXCOEF_BANK c.val) = (s.lane x).get (F.LE_CTXCOEF_BANK c.val) ∧
        l.loop = (s.lane x).loop ∧ l.mem = (s.lane x).mem) ∧
    ((s.lane x).get (F.running P.LE) = 1 → (s.lane x).get (F.run P.LE) = 1 → (s.lane x).loop.adopt = 0 → 
      yields (.frameStart x false b) s fun t =>
        (t.lane x).fn = (s.lane x).fn + 1 ∧ (t.lane x).get F.LE_TBLCTRL_COMMIT = 0 ∧ (t.lane x).loop.framing = true ∧
        (t.lane x).loop.used = 0 ∧ (t.lane x).mem = (s.lane x).mem ∧ t.lane x.peer = s.lane x.peer ∧ t.bed = s.bed ∧ t.brg = s.brg) ∧
    ((s.lane x).get (F.running P.LE) = 1 → (s.lane x).get (F.run P.LE) = 0 → 
      yieldsLane x (.frameStart x false b) s fun l =>
        l.get (F.running P.LE) = 0 ∧ l.get F.LE_FRAMESTAT_SYNCED = 0 ∧ l.loop.framing = false ∧ l.loop.due = [] ∧ l.loop.run = none ∧
        l.fn = (s.lane x).fn ∧ sameRegs (s.lane x) l (fun a => a = R.blkstat P.LE ∨ a = R.LE_FRAMESTAT) ∧ l.mem = (s.lane x).mem)

/-- R148: the snapshot samples a due slot whose rotation entry is valid. R113: its program starts. R149, R180: an overrun
aborts the run with cause OVERRUN and source 40. R148, R160: the output stage holds the outputs of a run that ended,
and they are launched at the output phase. -/
def Obligations.SlotRuns : Prop :=
  ∀ (s : State) (x : Lane) (n : Fin 48) (k : Nat) (r : Run) (h : Launch) (hs : List Launch),
    (s.lane x).alive = true →
    ((s.lane x).loop.framing = true → n.val ∈ (s.lane x).loop.due → (s.lane x).slotFenced n.val = false → (s.lane x).loop.run = none → (s.lane x).rotation n.val (s.lane x).fn.toNat = some k → (s.lane x).sampleBad n.val ((s.lane x).act (F.LESLOT_ROT_CTX n.val k)) s.nowUs = false → 
      yieldsLane x (.slotSnapshot x n) s fun l =>
        (l.loop.run.any fun r => r.slot == n.val && r.rot == k && r.ctx == (s.lane x).act (F.LESLOT_ROT_CTX n.val k) && r.stage == .sampled) = true ∧
        l.eng.pc = (s.lane x).act (F.LESLOT_ROT_ENTRY n.val k) ∧ l.eng.cyc = 0 ∧
        l.loop.due = (s.lane x).loop.due.filter (· ≠ n.val)) ∧
    ((s.lane x).loop.run = some r → r.stage = .sampled → 
      yieldsLane x (.slotEntry x) s fun l =>
        l.loop = { (s.lane x).loop with run := some { r with stage := .running } } ∧ l.regs = (s.lane x).regs ∧ l.mem = (s.lane x).mem) ∧
    ((s.lane x).loop.run = some r → r.stage = .running → r.slot < 48 → r.ctx < 128 → 
      yieldsLane x (.slotOverrun x) s fun l =>
        l.loop.run = some { r with stage := .aborted } ∧ l.get (F.LESLOT_SLOTSTAT_CAUSE r.slot) = Cause.overrun ∧
        l.get (F.LESLOT_SLOTSTAT_CTX r.slot) = r.ctx ∧ l.get (F.LESLOT_CYCLES_LAST r.slot) = 288 ∧
        l.rd (R.LE_ABORTCNT) = (if (s.lane x).rd R.LE_ABORTCNT = 0xFFFFFFFF then 0xFFFFFFFF else (s.lane x).rd R.LE_ABORTCNT + 1) ∧
        l.events = (s.lane x).events ++ [⟨40, r.slot⟩] ∧ l.mem = (s.lane x).mem) ∧
    ((s.lane x).loop.run = some r → r.stage = .ended → r.outs.any (fun a => (s.lane x).zBad (24 * r.ctx + bZw a)) = false → 
      yieldsLane x (.slotOutputStage x) s fun l =>
        l.loop.run = none ∧ l.loop.held.length = (s.lane x).loop.held.length + 1 ∧
        (l.loop.held.getLast?.any fun h => h.slot == r.slot && h.duplex == r.duplex &&
          h.words == r.outs.map (fun a => (s.lane x).dword (zAddr (24 * r.ctx + bZw a)))) = true) ∧
    ((s.lane x).loop.held = h :: hs → h.slot = n.val → h.duplex = false → h.strata = [] → h.phases = [⟨k, 21, ⟨1, 2, 3⟩⟩] → k < 8 → (s.lane x).slotFenced n.val = false → (s.lane x).bridgeFenced k = false → (s.lane x).fencedBy .blink = false → 
      yieldsLane x (.slotLaunch x n) s fun l =>
        l.loop.held = hs ∧ l.links.blDown.length = (s.lane x).links.blDown.length + 1 ∧
        (l.links.blDown.getLastD []).take 4 = [blHeader 1 k 21, 1, 2, 3] ∧ l.mem = (s.lane x).mem)

/-- R172: a write of TRKCFG restarts collection from empty. R173, R174: an analysis records the peak bin and result 2
without a peak, 3 outside the limits, 4 at the current bin (the powers hold the free error of log entry 92). R175:
ACCEPT applies BIN, requests the swap and waits for the toggle; REJECT records result 5 and collects anew. -/
def Obligations.Trackers : Prop :=
  ∀ (s : State) (x : Lane) (k : Fin 4) (v : Word) (bin : BitVec 9) (cycles : Nat),
    (s.lane x).alive = true →
    ((s.lane x).takes (R.LE_TRKCFG k.val) = true → (s.lane x).get (F.LE_TRKSTAT_STATE k.val) ≠ Trk.analyse → 
      yieldsLane x (.trkcfgWrite x k v) s fun l =>
        l.tracker k.val = { (s.lane x).tracker k.val with runs := 0, count := 0 } ∧
        l.get (F.LE_TRKSTAT_STATE k.val) = (if l.get (F.LE_TRKCFG_EN k.val) = 1 ∧ l.trkHome k.val then Trk.collect else Trk.off) ∧
        l.mem = (s.lane x).mem) ∧
    ((s.lane x).loop.analysing = some k.val → 
      yields (.trackerAnalysisComplete x k cycles) s fun t =>
        (let l := s.lane x
         let ps := l.trkPowers k.val s.freeCtr
         let b := peakBin ps (l.get (F.LE_TRKBAND_KLO k.val)) (l.get (F.LE_TRKBAND_KHI k.val))
         (t.lane x).get (F.LE_TRKSTAT_PEAK k.val) = b ∧
         (t.lane x).get (F.LE_TRKPROP_CUR k.val) = l.get (F.LE_TRKPROP_CUR k.val) ∧
         (t.lane x).get (F.LE_TRKSTAT_RESULT k.val) =
           (if isPeak ps (l.get (F.LE_TRKBAND_KLO k.val)) (l.get (F.LE_TRKBAND_KHI k.val)) b (l.get (F.LE_TRKBAND_THRESH k.val)) = false then 2
            else if b < l.get (F.LE_TRKLIM_NLO k.val) ∨ l.get (F.LE_TRKLIM_NHI k.val) < b then 3
            else if b = l.get (F.LE_TRKPROP_CUR k.val) then 4
            else l.get (F.LE_TRKSTAT_RESULT k.val)) ∧
         (b = l.get (F.LE_TRKPROP_CUR k.val) →
           sameBytes l (t.lane x) (fun a => 0x2003E000 ≤ a ∧ a < 0x20040000)))) ∧
    ((s.lane x).takes (R.LE_TRKACK k.val) = true → (s.lane x).get (F.LE_TRKSTAT_STATE k.val) = Trk.waitack → (s.lane x).get (F.LE_TRKLIM_NLO k.val) ≤ bin.toNat → bin.toNat ≤ (s.lane x).get (F.LE_TRKLIM_NHI k.val) → 
      yieldsLane x (.trackerAccept x k bin) s fun l =>
        l.get (F.LE_TRKPROP_PROP k.val) = bin.toNat ∧ l.get (F.LE_TRKSTAT_STATE k.val) = Trk.pending ∧
        l.get (F.LE_CTXCOEF_SWAP (l.get (F.LE_TRKCFG_CTX k.val))) = 1 ∧
        l.get (F.LE_TRKPROP_CUR k.val) = (s.lane x).get (F.LE_TRKPROP_CUR k.val)) ∧
    ((s.lane x).takes (R.LE_TRKACK k.val) = true → (s.lane x).get (F.LE_TRKSTAT_STATE k.val) = Trk.waitack → 
      yieldsLane x (.trackerReject x k bin) s fun l =>
        l.get (F.LE_TRKSTAT_RESULT k.val) = 5 ∧
        l.get (F.LE_TRKSTAT_STATE k.val) = (if l.get (F.LE_TRKCFG_EN k.val) = 1 ∧ l.trkHome k.val then Trk.collect else Trk.off) ∧
        l.get (F.LE_TRKPROP_CUR k.val) = (s.lane x).get (F.LE_TRKPROP_CUR k.val) ∧ l.mem = (s.lane x).mem)

/-- R205, R203: an accepted COMMIT or REPLACE captures the descriptors and refills the initial-record store, and a command
while BUSY waits. R203, R204: a run starts at a pending trigger, goes on when the RESULTs agree and ends without
commit with RESULT 2 or 3 when digests differ; the state is loaded and COMMIT written in the frame before, and the
placement takes effect with RESULT 1. -/
def Obligations.PlacementRuns : Prop :=
  ∀ (s : State) (x : Lane) (r : PlcRun) (b : Nat) (w v : Word),
    (s.lane x).alive = true →
    ((s.lane x).takes R.PLC_CMD = true → (s.lane x).get F.PLC_STAT_BUSY = 0 → (s.lane x).bufAt Buf.init = some b → 
      yieldsLane x (.plcCommit x) s fun l =>
        l.sieve.filling = (s.lane x).sieve.filling ||| 1 ∧ l.sieve.initFull = false ∧
        l.rd R.PLC_DDIGEST = l.sieve.desc.descDigest ∧ l.sieve.run = (s.lane x).sieve.run ∧ l.mem = (s.lane x).mem) ∧
    ((s.lane x).takes R.PLC_CMD = true → (s.lane x).get F.PLC_STAT_BUSY = 1 → 
      yieldsLane x (.plcCommit x) s fun l =>
        l.sieve = { (s.lane x).sieve with queued := max (s.lane x).sieve.queued 1 } ∧ l.mem = (s.lane x).mem) ∧
    ((s.lane x).takes R.PLC_CMD = true → (s.lane x).get F.PLC_STAT_BUSY = 0 → (s.lane x).bufAt Buf.init = some b → 
      yieldsLane x (.plcReplace x) s fun l =>
        l.sieve.filling = (s.lane x).sieve.filling ||| 2 ∧ l.sieve.initFull = false ∧
        l.rd R.PLC_DDIGEST = l.sieve.desc.descDigest ∧ l.mem = (s.lane x).mem) ∧
    ((s.lane x).bufAt Buf.init = some b → (s.lane x).sieve.initFull = false → (s.lane x).sieve.filling = 1 → 
      yieldsLane x (.initRefillComplete x) s fun l =>
        l.sieve.initFull = true ∧ l.sieve.filling = 0 ∧ maskBit l.sieve.trigs 0 = true ∧ l.sieve.ripe = (s.lane x).sieve.ripe ∧ l.sieve.run = (s.lane x).sieve.run) ∧
    ((s.lane x).llUp = true → v = (s.lane x).rd R.LE_FN_LO → 
      yieldsLane x (.placeTrigReceived x w v) s fun l =>
        l = (s.lane x).modSieve (fun q => { q with trigs := q.trigs ||| (w.toNat % 1024 ||| 256) })) ∧
    ((s.lane x).plcRuns = true → (s.lane x).sieve.run = none → (s.lane x).loop.framing = true → s.sieveMode x = Mode.paired → (s.lane x).sieve.ripe % 1024 ≠ 0 → (s.lane x).sieve.peerIn = none → 
      yields (.placementRunStart x (s.lane x).fn) s fun t =>
        ((t.lane x).sieve.run.any fun q => q.stage == .input && q.mask == (s.lane x).sieve.ripe % 1024 && q.paired) = true ∧
        (t.lane x).sieve.ripe = 0 ∧ (t.lane x).sieve.runNo = (s.lane x).sieve.runNo + 1 ∧
        (t.lane x).get F.PLC_STAT_BUSY = 1 ∧ t.lane x.peer = s.lane x.peer ∧ t.bed = s.bed ∧ t.brg = s.brg) ∧
    ((s.lane x).plcRuns = true → (s.lane x).sieve.run = none → (s.lane x).loop.framing = true → s.sieveMode x = Mode.solo → (s.lane x).sieve.ripe % 1024 ≠ 0 → 
      yields (.placementRunStart x (s.lane x).fn) s fun t =>
        ((t.lane x).sieve.run.any fun q => q.stage == .load && q.mask == (s.lane x).sieve.ripe % 1024 && !q.paired && q.eff == q.fn + q.lead) = true ∧
        (t.lane x).sieve.ripe = 0 ∧ (t.lane x).get F.PLC_STAT_BUSY = 1 ∧ t.lane x.peer = s.lane x.peer ∧ t.bed = s.bed) ∧
    ((s.lane x).llUp = true → (s.lane x).sieve.peerSeen = true → (s.lane x).sieve.run = none → w ≠ 0 → 
      yields (.placeInputReceived x w v 3 4 5) s fun t =>
        (t.lane x).sieve.peerIn = some ⟨w.toNat, v, 3 + 4 * 2 ^ 32, 0⟩ ∧ (t.lane x).regs = (s.lane x).regs ∧ t.bed = s.bed) ∧
    ((s.lane x).llUp = true → (s.lane x).sieve.peerSeen = true → (s.lane x).sieve.run = some r → r.stage = .input → r.mask < 1024 → w ≠ 0 → v ≠ (s.lane x).rd R.PLC_DDIGEST → 
      yields (.placeInputReceived x w v 3 4 5) s fun t =>
        (t.lane x).sieve.run = none ∧ (t.lane x).get F.PLC_LASTRUN_RESULT = PlcRes.digest ∧
        (t.lane x).get F.PLC_LASTRUN_TRIG = r.mask ∧ (t.lane x).get F.PLC_STAT_BUSY = 0 ∧ t.bed = s.bed) ∧
    ((s.lane x).llUp = true → (s.lane x).sieve.run = some r → r.stage = .result → v = planDigest r.plan → 
      yieldsLane x (.placeResultReceived x w v 1) s fun l =>
        l = (s.lane x).toLoad r (max r.lead 1)) ∧
    ((s.lane x).llUp = true → (s.lane x).sieve.run = some r → r.stage = .result → v ≠ planDigest r.plan → 
      yieldsLane x (.placeResultReceived x w v 1) s fun l =>
        l.sieve.run = none ∧ l.get F.PLC_LASTRUN_RESULT = PlcRes.diff ∧ l.get F.PLC_STAT_BUSY = 0 ∧
        l.events = (s.lane x).events ++ [⟨26, 0⟩] ∧ l.mem = (s.lane x).mem) ∧
    ((s.lane x).sieve.run = some r → r.stage = .load → r.eff ≤ (s.lane x).fn.toNat + 1 → 
      yieldsLane x (.stateLoadComplete x) s fun l =>
        l.get F.LE_TBLCTRL_COMMIT = 1 ∧ (l.sieve.run.any fun q => q.stage == .commit && q.eff == r.eff) = true ∧
        l.active = (s.lane x).active) ∧
    ((s.lane x).sieve.run = some r → r.stage = .commit → r.eff ≤ (s.lane x).fn.toNat → (s.lane x).get F.LE_TBLCTRL_COMMIT = 0 → b < 128 → (r.plan.getD b ⟨0, 0⟩).rep < 2 ^ 15 → 
      yields (.placementEffect x) s fun t =>
        (t.lane x).sieve.run = none ∧ (t.lane x).plcrep b = (r.plan.getD b ⟨0, 0⟩).rep ∧
        (t.lane x).get F.PLC_LASTRUN_RESULT = PlcRes.done ∧ (t.lane x).rd R.PLC_DIGEST = planDigest r.plan ∧
        (t.lane x).rd R.PLC_EFFFN = BitVec.ofNat 32 r.eff ∧ (t.lane x).get F.PLC_STAT_BUSY = 0 ∧ t.bed = s.bed ∧ t.brg = s.brg)

/-- R199: a PLACE SNAP begins a snapshot in the buffer that is not current, MIRROR frames fill it, and its last word makes
it current. R206: an instance that has run no placement takes the survivor's, and SYNCED ends the resending of a
context. R201: a ramp's output stage runs once per due frame. -/
def Obligations.PlacementMirroring : Prop :=
  ∀ (s : State) (x : Lane) (c : Fin 128) (fn : Word) (m : MirRx) (ws : List Word) (j : Fin 32) (b : Nat),
    (s.lane x).alive = true →
    (s.lane x).llUp = true →
    ((s.lane x).bufAt Buf.mir = some b → 
      yieldsLane x (.placeSnapReceived x c fn) s fun l =>
        Table.get (fun _ => none) l.sieve.mirRx c.val = some ⟨fn, (match Table.get (fun _ => none) (s.lane x).sieve.mirCur c.val with
          | some (k, _) => 1 - k
          | none => 0), 0⟩ ∧ l.sieve.mirCur = (s.lane x).sieve.mirCur ∧ l.mem = (s.lane x).mem) ∧
    ((s.lane x).bufAt Buf.mir = some b → Table.get (fun _ => none) (s.lane x).sieve.mirRx c.val = some m → ws.length ≤ 31 → m.bytes + 4 * ws.length < 4 * (s.lane x).sieve.desc.mirWords c.val → 
      yields (.mirrorFrameReceived x c m.bytes ws) s fun t =>
        Table.get (fun _ => none) (t.lane x).sieve.mirRx c.val = some { m with bytes := m.bytes + 4 * ws.length } ∧
        (t.lane x).sieve.mirCur = (s.lane x).sieve.mirCur ∧ t.bed = s.bed) ∧
    ((s.lane x).bufAt Buf.mir = some b → Table.get (fun _ => none) (s.lane x).sieve.mirRx c.val = some m → ws.length ≤ 31 → 4 * (s.lane x).sieve.desc.mirWords c.val ≤ m.bytes + 4 * ws.length → 
      yields (.mirrorFrameReceived x c m.bytes ws) s fun t =>
        Table.get (fun _ => none) (t.lane x).sieve.mirRx c.val = none ∧
        Table.get (fun _ => none) (t.lane x).sieve.mirCur c.val = some (m.buf, m.fn) ∧ (t.lane x).rd (R.PLC_PLCMIR c.val) = m.fn ∧
        t.bed = s.bed) ∧
    ((s.lane x).rd R.PLC_RUNCNT = 0 → b + j.val < 128 → 
      yieldsLane x (.placePlcstateReceived x b ws) s fun l =>
        l.plcrep (b + j.val) = getBits (ws.getD (j.val / 2) 0) (16 * (j.val % 2)) 15 ∧
        sameRegs (s.lane x) l (fun a => R.PLC_PLCREP 0 ≤ a ∧ a < R.PLC_PLCREP 128) ∧
        l.sieve.peerSeen = true ∧ l.sieve.run = (s.lane x).sieve.run ∧ l.sieve.trigs = (s.lane x).sieve.trigs ∧ l.mem = (s.lane x).mem) ∧
    (yields (.placeSyncedReceived x c) s (fun t =>
      (t.lane x).sieve.syncSend = (s.lane x).sieve.syncSend.filter (· ≠ c.val) ∧ (t.lane x).mem = (s.lane x).mem ∧ t.bed = s.bed)) ∧
    ((Table.get (fun _ => none) (s.lane x).sieve.ramps c.val).isSome = true → c.val ∈ (s.lane x).sieve.rampDue → 
      yieldsLane x (.rampOutput x c) s fun l =>
        l.sieve.rampDue = (s.lane x).sieve.rampDue.filter (· ≠ c.val) ∧ l.sieve.ramps = (s.lane x).sieve.ramps ∧ l.mem = (s.lane x).mem)

/-- R271, R273 to R276: a legal step of QUAD, HALL, TOOTH or PDIR moves POS by one modulo CPR; a double change or an
impossible Hall code is a line error that leaves it. R276: DUTY and FREQ measure from one rising edge to the next.
R277: the first index event sets the reference. -/
def Obligations.FeedbackCounting : Prop :=
  ∀ (s : State) (x : Lane) (k : Fin 16) (a b : Fin 4) (t h : Nat) (c : Fin 8) (held : Nat) (u w : Bool),
    (s.lane x).chanOn k.val = true →
    (s.lane x).get (F.FBKCH_CHCFG_FLT k.val) ≤ held →
    (0 < (s.lane x).get (F.FBKCH_CPR_CPR k.val) → (s.lane x).get (F.FBKCH_CHCFG_DIR k.val) = 0 → (s.lane x).get (F.FBKCH_CHCFG_MODE k.val) = 1 → ((s.lane x).chan k.val).code = some ((s.lane x).lineCode k.val a.val 2) → quadPhase ((s.lane x).lineCode k.val b.val 2) = (quadPhase ((s.lane x).lineCode k.val a.val 2) + 1) % 4 → 
      yieldsLane x (.quadratureStateChange x k a b ⟨held, t⟩) s fun l =>
        l.get (F.FBKCH_POS_POS k.val) = ((s.lane x).get (F.FBKCH_POS_POS k.val) + 1) % (s.lane x).get (F.FBKCH_CPR_CPR k.val) ∧ l.get (F.FBKCH_STATE_DIRN k.val) = 0 ∧ (l.chan k.val).code = some ((s.lane x).lineCode k.val b.val 2) ∧ (l.chan k.val).win = (((s.lane x).chan k.val)).win + 1 ∧
        l.mem = (s.lane x).mem) ∧
    ((s.lane x).get (F.FBKCH_CHCFG_MODE k.val) = 1 → ((s.lane x).chan k.val).code = some ((s.lane x).lineCode k.val a.val 2) → quadPhase ((s.lane x).lineCode k.val b.val 2) = (quadPhase ((s.lane x).lineCode k.val a.val 2) + 2) % 4 → 
      yieldsLane x (.quadratureStateChange x k a b ⟨held, t⟩) s fun l =>
        l.get (F.FBKCH_ERRCNT_LINE k.val) = min ((s.lane x).get (F.FBKCH_ERRCNT_LINE k.val) + 1) 0xFFFF ∧ l.get (F.FBKCH_POS_POS k.val) = (s.lane x).get (F.FBKCH_POS_POS k.val) ∧
        l.events = (s.lane x).events ++ [⟨(s.lane x).pageSrc (fbkPage k.val) 2, 0⟩] ∧
        l.mem = (s.lane x).mem) ∧
    (0 < (s.lane x).get (F.FBKCH_CPR_CPR k.val) → (s.lane x).get (F.FBKCH_CHCFG_DIR k.val) = 0 → (s.lane x).get (F.FBKCH_CHCFG_MODE k.val) = 2 → ((s.lane x).chan k.val).code = some a.val → hallSector a.val < 6 → hallSector ((s.lane x).lineCode k.val c.val 3) = (hallSector a.val + 1) % 6 → 
      yieldsLane x (.hallCodeChange x k c ⟨held, t⟩) s fun l =>
        l.get (F.FBKCH_POS_POS k.val) = ((s.lane x).get (F.FBKCH_POS_POS k.val) + 1) % (s.lane x).get (F.FBKCH_CPR_CPR k.val) ∧ l.get (F.FBKCH_STATE_DIRN k.val) = 0 ∧ (l.chan k.val).code = some ((s.lane x).lineCode k.val c.val 3) ∧ l.get (F.FBKCH_STATE_SECTOR k.val) = hallSector ((s.lane x).lineCode k.val c.val 3) ∧
        l.mem = (s.lane x).mem) ∧
    ((s.lane x).get (F.FBKCH_CHCFG_MODE k.val) = 2 → ((s.lane x).lineCode k.val c.val 3 = 0 ∨ (s.lane x).lineCode k.val c.val 3 = 7) → ((s.lane x).chan k.val).code ≠ some ((s.lane x).lineCode k.val c.val 3) → 
      yieldsLane x (.hallCodeChange x k c ⟨held, t⟩) s fun l =>
        l.get (F.FBKCH_ERRCNT_LINE k.val) = min ((s.lane x).get (F.FBKCH_ERRCNT_LINE k.val) + 1) 0xFFFF ∧ l.get (F.FBKCH_POS_POS k.val) = (s.lane x).get (F.FBKCH_POS_POS k.val) ∧
        l.get (F.FBKCH_STATE_SECTOR k.val) = 7 ∧ (l.chan k.val).bad = true ∧
        l.mem = (s.lane x).mem) ∧
    (0 < (s.lane x).get (F.FBKCH_CPR_CPR k.val) → (s.lane x).get (F.FBKCH_CHCFG_DIR k.val) = 0 → (s.lane x).get (F.FBKCH_CHCFG_MODE k.val) = 3 → (s.lane x).lineLevel k.val 0 u = true → ((s.lane x).chan k.val).seen = false → 
      yieldsLane x (.toothEdge x k ⟨u, held, t⟩) s fun l =>
        l.get (F.FBKCH_POS_POS k.val) = ((s.lane x).get (F.FBKCH_POS_POS k.val) + 1) % (s.lane x).get (F.FBKCH_CPR_CPR k.val) ∧ l.get (F.FBKCH_STATE_DIRN k.val) = 0 ∧ (l.chan k.val).seen = true ∧ l.mem = (s.lane x).mem) ∧
    (0 < (s.lane x).get (F.FBKCH_CPR_CPR k.val) → (s.lane x).get (F.FBKCH_CHCFG_DIR k.val) = 0 → (s.lane x).get (F.FBKCH_CHCFG_MODE k.val) = 4 → (s.lane x).lineLevel k.val 0 u = true → (s.lane x).lineLevel k.val 1 w = false → 
      yieldsLane x (.pdirPulse x k u w ⟨held, t⟩) s fun l =>
        l.get (F.FBKCH_POS_POS k.val) = ((s.lane x).get (F.FBKCH_POS_POS k.val) + 1) % (s.lane x).get (F.FBKCH_CPR_CPR k.val) ∧ l.get (F.FBKCH_STATE_DIRN k.val) = 0 ∧ l.mem = (s.lane x).mem) ∧
    ((s.lane x).get (F.FBKCH_CHCFG_MODE k.val) = 5 → (s.lane x).lineLevel k.val 0 u = true → ((s.lane x).chan k.val).seen = true → 1 ≤ ((s.lane x).chan k.val).runs → 0 < t → t < 2 ^ 32 → h ≤ t → 
      yieldsLane x (.dutyRisingEdge x k ⟨u, held, t⟩ h) s fun l =>
        l.rd (R.FBKCH_PERIOD k.val) = BitVec.ofNat 32 t ∧ l.rd (R.FBKCH_HIGHT k.val) = BitVec.ofNat 32 h ∧
        (l.rd (R.FBKCH_DUTY k.val)).toNat = min 0xFFFF (h * 65536 / t) ∧ l.get (F.FBKCH_POS_POS k.val) = (s.lane x).get (F.FBKCH_POS_POS k.val) ∧
        l.mem = (s.lane x).mem) ∧
    ((s.lane x).get (F.FBKCH_CHCFG_MODE k.val) = 6 → (s.lane x).lineLevel k.val 0 u = true → ((s.lane x).chan k.val).seen = true → 1 ≤ ((s.lane x).chan k.val).runs → 0 < t → t < 2 ^ 32 → 
      yieldsLane x (.freqRisingEdge x k ⟨u, held, t⟩) s fun l =>
        l.rd (R.FBKCH_PERIOD k.val) = BitVec.ofNat 32 t ∧ l.rd (R.FBKCH_FREQ k.val) = BitVec.ofNat 32 (1600000000 / t) ∧
        l.mem = (s.lane x).mem) ∧
    (((s.lane x).get (F.FBKCH_CHCFG_MODE k.val) = 1 ∨ (s.lane x).get (F.FBKCH_CHCFG_MODE k.val) = 4) → (s.lane x).lineLevel k.val 2 u = true → (s.lane x).get (F.FBKCH_CHCFG_IDXEN k.val) = 1 → (s.lane x).get (F.FBKCH_CHCFG_IDXQ k.val) = 0 → (s.lane x).get (F.FBKCH_STATE_REFOK k.val) = 0 → 
      yieldsLane x (.indexInputEdge x k ⟨u, held⟩ ⟨w, w⟩) s fun l =>
        l.get (F.FBKCH_STATE_REFOK k.val) = 1 ∧
        l.rd (R.FBKCH_POS k.val) = (if (s.lane x).get (F.FBKCH_CHCFG_IDXMODE k.val) = 0 then (s.lane x).rd (R.FBKCH_POS k.val) else (s.lane x).rd (R.FBKCH_IDXPOS k.val)) ∧
        l.rd (R.FBKCH_IDXDELTA k.val) = BitVec.ofInt 32 (indexDelta ((s.lane x).get (F.FBKCH_IDXPOS_IDXPOS k.val)) ((s.lane x).get (F.FBKCH_POS_POS k.val)) ((s.lane x).get (F.FBKCH_CPR_CPR k.val))) ∧
        l.mem = (s.lane x).mem)

/-- R276, R279: a timeout sets PERIOD to all ones, a window's end gives WINCNT. R272: a change of CPR resets the channel,
and a write of POS sets it. R288: a read of CHEVT clears it. R282: a divided output emits its oldest step. -/
def Obligations.FeedbackTimingAndSetup : Prop :=
  ∀ (s : State) (x : Lane) (k : Fin 16) (j : Fin 4) (v : Word),
    (s.lane x).alive = true →
    ((s.lane x).chanOn k.val = true → ((s.lane x).chan k.val).bad = false → 
      yieldsLane x (.feedbackTimeout x k) s fun l =>
        l.rd (R.FBKCH_PERIOD k.val) = BitVec.allOnes 32 ∧ (l.chan k.val) = { ((s.lane x).chan k.val) with runs := 0 } ∧
        l.get (F.FBKCH_POS_POS k.val) = (s.lane x).get (F.FBKCH_POS_POS k.val) ∧ l.mem = (s.lane x).mem) ∧
    ((s.lane x).chanOn k.val = true → (s.lane x).get (F.FBKCH_CHCFG_MODE k.val) = 1 → ((s.lane x).chan k.val).bad = false → 
      yieldsLane x (.speedWindowEnd x k) s fun l =>
        l.rd (R.FBKCH_WINCNT k.val) = BitVec.ofInt 32 ((s.lane x).chan k.val).win ∧ (l.chan k.val) = { ((s.lane x).chan k.val) with win := 0 } ∧
        sameRegs (s.lane x) l (fun a => a = R.FBKCH_WINCNT k.val) ∧ l.mem = (s.lane x).mem) ∧
    ((s.lane x).takes (R.FBKCH_CPR k.val) = true → (s.lane x).rd (R.FBKCH_CPR k.val) ≠ 1000 → (s.lane x).get (F.locked (fbkPage k.val)) = 0 → 
      yieldsLane x (.channelConfigReset x k 1 1000) s fun l =>
        l.rd (R.FBKCH_CPR k.val) = 1000 ∧ l.rd (R.FBKCH_POS k.val) = 0 ∧ l.get (F.FBKCH_STATE_REFOK k.val) = 0 ∧
        l.rd (R.FBKCH_PERIOD k.val) = BitVec.allOnes 32 ∧ l.chan k.val = { FbkChan.reset with told := ((s.lane x).chan k.val).told } ∧ l.mem = (s.lane x).mem) ∧
    ((s.lane x).takes (R.FBKCH_POS k.val) = true → v.toNat < (s.lane x).get (F.FBKCH_CPR_CPR k.val) → 
      yieldsLane x (.posWrite x k v) s fun l =>
        l.get (F.FBKCH_POS_POS k.val) = v.toNat ∧ l.feed = (s.lane x).feed ∧
        sameRegs (s.lane x) l (fun a => a = R.FBKCH_POS k.val) ∧ l.mem = (s.lane x).mem) ∧
    ((s.lane x).blockFenced (R.FBKCH_CHEVT k.val) = false → 
      yieldsLane x (.chevtRead x .xfr k) s fun l =>
        l.rd (R.FBKCH_CHEVT k.val) = 0 ∧ l.response .xfr = .data (((s.lane x).rd (R.FBKCH_CHEVT k.val)).setWidth 64) ∧
        l.feed = (s.lane x).feed ∧ sameRegs (s.lane x) l (fun a => a = R.FBKCH_CHEVT k.val ∨ a = R.irqRaw (fbkPage k.val)) ∧ l.mem = (s.lane x).mem) ∧
    ((s.lane x).blockOn P.FBK = true → (s.lane x).get (F.FBK_OUTCFG_EN j.val) = 1 → ((s.lane x).fbOut j.val).queue = [.up, .down] → 
      yieldsLane x (.dividedOutputStep x j) s fun l =>
        (l.fbOut j.val).queue = [.down] ∧ l.get (F.FBK_OUTSTAT_STEPS j.val) = ((s.lane x).get (F.FBK_OUTSTAT_STEPS j.val) + 1) % 2 ^ 16 ∧
        l.get (F.FBK_OUTSTAT_PEND j.val) = ofSigned 9 (-1) ∧ l.mem = (s.lane x).mem)

/-- R284, R285: a frame that passes its checks is counted in OKCNT and its values stored; one that fails is discarded and
counted in ERRCNT with its cause in PEVT. R294 to R296: a start begins a scan of the selected channels in order, each
conversion stores its result, and the result FIFO is read oldest first. -/
def Obligations.SensorPortsAndConverter : Prop :=
  ∀ (s : State) (x : Lane) (p : Fin 4) (q : Nat) (ns : List Nat) (bs : List Bool) (e : Nat) (d : List Nat) (v : Half) (rest : List (Nat × Nat)) (inv : Bool),
    (s.lane x).alive = true →
    ((s.lane x).portOn p.val = true → (s.lane x).get (F.SNS_PCFG_INV p.val) = bit inv → (s.lane x).get (F.SNS_PCFG_PROT p.val) = 1 → 0 < q → (s.lane x).sentCheck p.val q ns none = .inr d → 
      yieldsLane x (.sentFrameReceived x ⟨p, inv⟩ q ns none) s fun l =>
        l.get (F.SNS_OKCNT_COUNT p.val) = min ((s.lane x).get (F.SNS_OKCNT_COUNT p.val) + 1) 0xFFFFFFFF ∧
        l.rd (R.SNS_DATA p.val 0) = BitVec.ofNat 32 (nibsNat ((d.drop 1).take ((s.lane x).get (F.SNS_SENTCFG_F1N p.val))) % 2 ^ 24) ∧
        (l.snsPort p.val).cal = some q ∧ l.get (F.SNS_ERRCNT_COUNT p.val) = (s.lane x).get (F.SNS_ERRCNT_COUNT p.val) ∧ l.mem = (s.lane x).mem) ∧
    ((s.lane x).portOn p.val = true → (s.lane x).get (F.SNS_PCFG_INV p.val) = bit inv → (s.lane x).get (F.SNS_PCFG_PROT p.val) = 1 → 0 < q → (s.lane x).sentCheck p.val q ns none = .inl e → e ≤ 3 → 
      yieldsLane x (.sentFrameReceived x ⟨p, inv⟩ q ns none) s fun l =>
        l.get (F.SNS_ERRCNT_COUNT p.val) = min ((s.lane x).get (F.SNS_ERRCNT_COUNT p.val) + 1) 0xFFFFFFFF ∧ (l.rd (R.SNS_PEVT p.val)).getLsbD e = true ∧
        l.get (F.SNS_OKCNT_COUNT p.val) = (s.lane x).get (F.SNS_OKCNT_COUNT p.val) ∧ l.rd (R.SNS_DATA p.val 0) = (s.lane x).rd (R.SNS_DATA p.val 0) ∧ l.mem = (s.lane x).mem) ∧
    ((s.lane x).portOn p.val = true → (s.lane x).get (F.SNS_PCFG_INV p.val) = bit inv → (s.lane x).get (F.SNS_PCFG_PROT p.val) = 2 → bs.length = (s.lane x).get (F.SNS_PSI5CFG_LEN p.val) → 
      yieldsLane x (.psi5FrameReceived x ⟨p, inv⟩ q bs (BitVec.ofNat 3 (psiCrc bs)) false) s fun l =>
        l.get (F.SNS_OKCNT_COUNT p.val) = min ((s.lane x).get (F.SNS_OKCNT_COUNT p.val) + 1) 0xFFFFFFFF ∧
        l.rd (R.SNS_DATA p.val 0) = BitVec.ofNat 32 (bitsNat (bs.reverse.map bit) % 2 ^ 24) ∧ l.mem = (s.lane x).mem) ∧
    ((s.lane x).portOn p.val = true → (s.lane x).get (F.SNS_PCFG_INV p.val) = bit inv → (s.lane x).get (F.SNS_PCFG_PROT p.val) = 2 → 
      yieldsLane x (.psi5FrameReceived x ⟨p, inv⟩ q bs 0 true) s fun l =>
        l.get (F.SNS_ERRCNT_COUNT p.val) = min ((s.lane x).get (F.SNS_ERRCNT_COUNT p.val) + 1) 0xFFFFFFFF ∧ (l.rd (R.SNS_PEVT p.val)).getLsbD Pevt.nib = true ∧
        l.get (F.SNS_OKCNT_COUNT p.val) = (s.lane x).get (F.SNS_OKCNT_COUNT p.val) ∧ l.mem = (s.lane x).mem) ∧
    ((s.lane x).portOn p.val = true → (s.lane x).get (F.SNS_PCFG_PROT p.val) = 3 → (s.lane x).get (F.SNS_SYNCCFG_EN p.val) = 1 → 
      yieldsLane x (.psi5SyncTrigger x p) s fun l =>
        l.snsPort p.val = { (s.lane x).snsPort p.val with used := [], syncs := ((s.lane x).snsPort p.val).syncs + 1 } ∧ l.regs = (s.lane x).regs ∧ l.mem = (s.lane x).mem) ∧
    ((s.lane x).portOn p.val = true → 
      yieldsLane x (.sensorLostTimeout x p) s fun l =>
        (l.rd (R.SNS_PEVT p.val)).getLsbD Pevt.lost = true ∧ l.events = (s.lane x).events ++ [⟨(s.lane x).pageSrc P.SNS 3, 0⟩] ∧
        l.feed = (s.lane x).feed ∧ l.mem = (s.lane x).mem) ∧
    ((s.lane x).blockFenced (R.SNS_PEVT p.val) = false → 
      yieldsLane x (.pevtRead x .xfr p) s fun l =>
        l.rd (R.SNS_PEVT p.val) = 0 ∧ l.response .xfr = .data (((s.lane x).rd (R.SNS_PEVT p.val)).setWidth 64) ∧
        l.feed = (s.lane x).feed ∧ l.mem = (s.lane x).mem) ∧
    ((s.lane x).takes R.ADC_ADCSTART = true → (s.lane x).blockOn P.ADC = true → (s.lane x).get F.ADC_ADCCFG_TRIG = 0 → (s.lane x).get F.ADC_ADCSTAT_CAL = 0 → (s.lane x).feed.adc.scan = [] → 
      yieldsLane x (.adcstartGo x 1) s fun l =>
        l.feed.adc.scan = (List.range 16).filter (fun k => (s.lane x).get F.ADC_ADCSCAN_SCAN / 2 ^ k % 2 == 1) ∧ l.rd R.ADC_ADCSTART = 0 ∧
        l.feed.adc.fifo = (s.lane x).feed.adc.fifo ∧ l.mem = (s.lane x).mem) ∧
    ((s.lane x).blockOn P.ADC = true → (s.lane x).get F.ADC_ADCCFG_TRIG = 2 → (s.lane x).get F.ADC_ADCSTAT_CAL = 0 → (s.lane x).feed.adc.scan = [] → 
      yieldsLane x (.adcFrameTrigger x) s fun l =>
        l.feed.adc.scan = (List.range 16).filter (fun k => (s.lane x).get F.ADC_ADCSCAN_SCAN / 2 ^ k % 2 == 1) ∧
        l.feed.adc.fifo = (s.lane x).feed.adc.fifo ∧ l.mem = (s.lane x).mem) ∧
    ((s.lane x).get (F.running P.ADC) = 1 → (s.lane x).get (F.run P.ADC) = 1 → (s.lane x).blockFenced P.ADC = false → (s.lane x).feed.adc.scan = q :: ns → q < 16 → (s.lane x).feed.adc.fifo.length < 32 → (s.lane x).get F.ADC_ADCFEN_EN / 2 ^ q % 2 = 1 → 
      yieldsLane x (.adcConversionComplete x v) s fun l =>
        l.get (F.ADC_ADCRES_VALUE q) = v.toNat ∧ l.feed.adc.fifo = (s.lane x).feed.adc.fifo ++ [(q, v.toNat)] ∧
        (ns ≠ [] → l.feed.adc.scan = ns) ∧ l.mem = (s.lane x).mem) ∧
    ((s.lane x).blockOn P.ADC = true → (s.lane x).get F.ADC_ADCSTAT_CAL = 1 → 
      yieldsLane x (.adcCalibrationComplete x true) s fun l =>
        l.get F.ADC_ADCSTAT_CAL = 0 ∧ l.get F.ADC_ADCSTAT_CALFAIL = 0 ∧ l.events = (s.lane x).events ∧ l.mem = (s.lane x).mem) ∧
    ((s.lane x).blockFenced R.ADC_ADCFIFO = false → (s.lane x).feed.adc.fifo = (q, e) :: rest → q < 16 → e < 65536 → rest.length < 32 → (s.lane x).feed.adc.ovr = false → 
      yieldsLane x (.adcfifoRead x .xfr) s fun l =>
        l.feed.adc.fifo = rest ∧ l.response .xfr = .data ((BitVec.ofNat 32 (e + q * 2 ^ 16 + rest.length * 2 ^ 24 + 2 ^ 31)).setWidth 64) ∧
        l.get F.ADC_ADCSTAT_LEVEL = rest.length ∧ l.mem = (s.lane x).mem)

/-- R308, R316: RUN = 1 with a good configuration takes a stopped port to LISTEN; a bad one sets CFGERR. R309, R310: at
the deadline a DATA entry with READY latches its buffer with AGE 0; at the action point the frame goes out with the
cycle number, or is put off where a carrier is sensed; a collision ends it. -/
def Obligations.StrataSending : Prop :=
  ∀ (s : State) (x : Lane) (p : Fin 2) (n : Fin 64) (b : Bool) (f : StrFrame) (ws : List DWord) (v : Word),
    (s.lane x).alive = true →
    ((s.lane x).portState p.val = Prt.stopped → (s.lane x).takes (R.STR_PCTL p.val) = true → (s.lane x).get (F.run P.STR) = 1 → (s.lane x).fencedBy (.port p.val) = false → v.getLsbD 0 = true → ((s.lane x).regWrite (R.STR_PCTL p.val) v).2.getLsbD 0 = true → ((s.lane x).regWrite (R.STR_PCTL p.val) v).1.cfgErr p.val = b → 
      yieldsLane x (.portRun x p v) s fun l =>
        l.portState p.val = (if b then Prt.stopped else Prt.listen) ∧ l.get (F.STR_PSTAT_CFGERR p.val) = (if b then 1 else 0) ∧
        l.get (F.STR_PSTAT_CSATT p.val) = 0 ∧ l.get (F.STR_PCTL_RUN p.val) = 1 ∧ l.mem = (s.lane x).mem) ∧
    ((s.lane x).portState p.val ≠ Prt.stopped → (s.lane x).get (F.STR_PCTL_RUN p.val) = 0 → 
      yieldsLane x (.portStop x p) s fun l =>
        l.portState p.val = Prt.stopped ∧ (l.port p.val).air = none ∧ (l.port p.val).out = none ∧
        l.get (F.STR_CYCCNT_CYCLE p.val) = (s.lane x).get (F.STR_CYCCNT_CYCLE p.val) ∧ l.mem = (s.lane x).mem) ∧
    ((s.lane x).inCycle p.val = true → ((s.lane x).slotsOf p.val).contains n.val = true → (s.lane x).isTx p.val n.val = true → (s.lane x).isSafe p.val n.val = false → (s.lane x).txReady p.val n.val = true → 
      yieldsLane x (.transmitDeadline x p n) s fun l =>
        (l.port p.val).out = some ((s.lane x).strFrame p.val n.val (some ((s.lane x).bufWords p.val n.val)) 0 0) ∧
        l.txReady p.val n.val = false ∧ l.get (F.sstAge p.val n.val) = 0 ∧ l.portState p.val = (s.lane x).portState p.val ∧ l.mem = (s.lane x).mem) ∧
    ((s.lane x).inCycle p.val = true → ((s.lane x).slotsOf p.val).contains n.val = true → (s.lane x).isTx p.val n.val = true → (s.lane x).isSafe p.val n.val = false → (s.lane x).txReady p.val n.val = false → Table.get (fun _ => none) ((s.lane x).port p.val).latched n.val = some ws → 
      yieldsLane x (.transmitDeadline x p n) s fun l =>
        l.get (F.sstAge p.val n.val) = min ((s.lane x).get (F.sstAge p.val n.val) + 1) 255 ∧
        (l.port p.val).out = some ((s.lane x).strFrame p.val n.val (some ws) (l.get (F.sstAge p.val n.val)) 0) ∧ l.mem = (s.lane x).mem) ∧
    ((s.lane x).inCycle p.val = true → ((s.lane x).port p.val).out = some f → f.slot = n.val → (s.lane x).maySend p.val n.val = true → 
      yieldsLane x (.actionPoint x p n b) s fun l =>
        (l.port p.val).out = none ∧
        (b = false → l.regs = (s.lane x).regs ∧
          (l.port p.val).air = some { f with cycle := (s.lane x).rd (R.STR_CYCCNT p.val), cstart := (s.lane x).portState p.val == Prt.coldstart }) ∧
        (b = true → (l.port p.val).air = ((s.lane x).port p.val).air ∧ l.get (F.sstCause p.val n.val) = SCause.defer ∧
          l.get (F.STR_TXFAIL_DEFER p.val) = min ((s.lane x).get (F.STR_TXFAIL_DEFER p.val) + 1) 0xFFFF) ∧ l.mem = (s.lane x).mem) ∧
    (((s.lane x).port p.val).air = some f → f.kind ≠ Kind.coldstart → f.slot < 64 → 
      yieldsLane x (.strataCollision x p) s fun l =>
        (l.port p.val).air = none ∧ l.get (F.sstCause p.val f.slot) = SCause.coll ∧
        l.get (F.STR_TXFAIL_COLL p.val) = min ((s.lane x).get (F.STR_TXFAIL_COLL p.val) + 1) 0xFFFF ∧ l.portState p.val = (s.lane x).portState p.val ∧ l.mem = (s.lane x).mem) ∧
    ((s.lane x).inCycle p.val = true → ((s.lane x).port p.val).air = some f → f.slot = n.val → f.kind = Kind.data → (s.lane x).isRx p.val n.val = false → 
      yieldsLane x (.slotEnd x p n) s fun l =>
        (l.port p.val).air = none ∧ l.get (F.sstCause p.val n.val) = SCause.ok ∧ l.get (F.sstCyc p.val n.val) = f.cycle.toNat % 256 ∧
        l.get (F.STR_TXCNT_COUNT p.val) = min ((s.lane x).get (F.STR_TXCNT_COUNT p.val) + 1) 0xFFFFFFFF ∧ l.mem = (s.lane x).mem) ∧
    ((s.lane x).inCycle p.val = true → (s.lane x).isRx p.val n.val = true → ((s.lane x).slotsOf p.val).contains n.val = true → n.val ∉ ((s.lane x).port p.val).stored → n.val ∉ ((s.lane x).port p.val).caused → ((s.lane x).port p.val).air = none → 
      yieldsLane x (.slotEnd x p n) s fun l =>
        l.get (F.sstCause p.val n.val) = SCause.missing ∧ sameRegs (s.lane x) l (fun a => a = R.sst p.val n.val) ∧ l.mem = (s.lane x).mem) ∧
    ((s.lane x).takes (R.STR_TXRDY_XL) = true → (s.lane x).isTx 0 n.val = true → (s.lane x).txHome 0 n.val = (0, n.val) → n.val < 32 → v = BitVec.ofNat 32 (2 ^ n.val) → 
      yieldsLane x (.txrdyWrite x 0 v) s fun l =>
        l.txReady 0 n.val = true ∧ l.get (F.sstReady 0 n.val) = 1 ∧
        sameRegs (s.lane x) l (fun a => a = R.STR_TXRDY_XL ∨ a = R.sst 0 n.val) ∧ l.strata = (s.lane x).strata ∧ l.mem = (s.lane x).mem)

/-- R301: a frame that is no Strata frame is only counted. R311, R313: one that passes every check is stored in its slot's
buffer; one that fails the first failed check's cause is discarded. R328: a copy left alone for PAIRTMO is MISSING.
R314, R329: RXQ and SAFEQ are read oldest first. -/
def Obligations.StrataReceivingAndSafety : Prop :=
  ∀ (s : State) (x : Lane) (p : Fin 2) (n : Fin 64) (bytes : List Byte) (t : Int) (f : StrFrame) (z : Bool) (i : Fin 64) (j lat : Nat),
    (s.lane x).alive = true →
    (s.lane x).blockFenced P.STR = false →
    ((s.lane x).portState p.val ≠ Prt.stopped → (s.lane x).strParse p.val bytes = none → 
      yieldsLane x (.strataFrameReceived x p bytes z ⟨t, lat⟩) s fun l =>
        l.get (F.STR_STRANGER_COUNT p.val) = min ((s.lane x).get (F.STR_STRANGER_COUNT p.val) + 1) 0xFFFFFFFF ∧ l.strata = (s.lane x).strata ∧
        sameRegs (s.lane x) l (fun a => a = R.STR_STRANGER p.val ∨ a = R.evtCnt P.STR) ∧ l.mem = (s.lane x).mem) ∧
    ((s.lane x).inCycle p.val = true → (s.lane x).portState p.val ≠ Prt.coldstart → (s.lane x).strParse p.val bytes = some (f, z) → f.kind = Kind.data → f.sync = false → (s.lane x).windowSlot p.val t = some n.val → (s.lane x).rxCheck p.val n.val f = (SCause.ok, 8) → (s.lane x).get (F.schNotify p.val n.val) = 0 → f.payload.length ≤ 8 → f.age < 256 → 
      yieldsLane x (.strataFrameReceived x p bytes true ⟨t, lat⟩) s fun l =>
        (∀ w, w < f.payload.length → l.rd64 (R.buf p.val n.val w) = f.payload.getD w 0) ∧
        l.get (F.sstCause p.val n.val) = SCause.ok ∧ l.get (F.sstAge p.val n.val) = 0 ∧ l.get (F.sstSrcage p.val n.val) = f.age ∧
        l.get (F.STR_RXOK_COUNT p.val) = min ((s.lane x).get (F.STR_RXOK_COUNT p.val) + 1) 0xFFFFFFFF ∧ n.val ∈ (l.port p.val).stored ∧ l.mem = (s.lane x).mem) ∧
    ((s.lane x).inCycle p.val = true → (s.lane x).portState p.val ≠ Prt.coldstart → (s.lane x).strParse p.val bytes = some (f, z) → f.kind = Kind.data → f.sync = false → (s.lane x).windowSlot p.val t = some n.val → ((s.lane x).rxCheck p.val n.val f).1 = j → 0 < j → j < 16 → 
      yieldsLane x (.strataFrameReceived x p bytes true ⟨t, lat⟩) s fun l =>
        l.get (F.sstCause p.val n.val) = j ∧ l.get (F.STR_RXDISC_COUNT p.val) = min ((s.lane x).get (F.STR_RXDISC_COUNT p.val) + 1) 0xFFFFFFFF ∧
        l.events = (s.lane x).events ++ [⟨99, 0⟩] ∧ n.val ∈ (l.port p.val).caused ∧ l.feed = (s.lane x).feed ∧ l.mem = (s.lane x).mem) ∧
    ((s.lane x).inCycle p.val = true → (s.lane x).portState p.val ≠ Prt.coldstart → (s.lane x).strParse p.val bytes = some (f, z) → f.kind = Kind.data → (s.lane x).windowSlot p.val t = some n.val → 
      yieldsLane x (.strataFrameReceived x p bytes false ⟨t, lat⟩) s fun l =>
        l.get (F.sstCause p.val n.val) = SCause.fcs ∧ l.get (F.STR_RXDISC_COUNT p.val) = min ((s.lane x).get (F.STR_RXDISC_COUNT p.val) + 1) 0xFFFFFFFF ∧
        l.events = (s.lane x).events ++ [⟨99, 0⟩] ∧ l.mem = (s.lane x).mem) ∧
    (((s.lane x).pendCopy i.val).isSome = true → 
      yieldsLane x (.safetyPairTimeout x i) s fun l =>
        l.pendCopy i.val = none ∧ l.get (F.SCH_SAFEST_CAUSE i.val) = Safe.missing ∧
        l.get F.STR_SAFEERR_MISS = min ((s.lane x).get F.STR_SAFEERR_MISS + 1) 255 ∧ l.mem = (s.lane x).mem) ∧
    (((s.lane x).port p.val).rxq = [(3, 8), (4, 8)] → ((s.lane x).port p.val).ovf = z → 
      yieldsLane x (.rxqRead x .xfr p) s fun l =>
        l.response .xfr = .data (BitVec.ofNat 64 (3 + 8 * 2 ^ 8 + 2 ^ 16 + bit z * 2 ^ 30 + 2 ^ 31)) ∧
        l.port p.val = { ((s.lane x).port p.val) with rxq := [(4, 8)], ovf := false } ∧ l.regs = (s.lane x).regs ∧ l.mem = (s.lane x).mem) ∧
    (((s.lane x).port p.val).rxq = [] → ((s.lane x).port p.val).ovf = z → 
      yieldsLane x (.rxqRead x .xfr p) s fun l =>
        l.response .xfr = .data (BitVec.ofNat 64 (bit z * 2 ^ 30)) ∧ (l.port p.val).ovf = false ∧ l.regs = (s.lane x).regs ∧ l.mem = (s.lane x).mem) ∧
    ((s.lane x).strata.safeq = [3, 9] → (s.lane x).strata.safeOvf = z → 
      yieldsLane x (.safeqRead x .xfr) s fun l =>
        l.response .xfr = .data (BitVec.ofNat 64 (3 + 2 ^ 16 + bit z * 2 ^ 30 + 2 ^ 31)) ∧
        l.strata = { (s.lane x).strata with safeq := [9], safeOvf := false } ∧ l.regs = (s.lane x).regs ∧ l.mem = (s.lane x).mem)

/-- R316 to R318: the timeouts and attempts of start-up. R317: a valid COLDSTART frame in LISTEN is adopted. R321, R324: a
port in SYNC with too few sync frames goes to PASSIVE. R330: a cycle point pulses its condition. -/
def Obligations.StrataStartUpAndClock : Prop :=
  ∀ (s : State) (x : Lane) (p : Fin 2) (bytes : List Byte) (f : StrFrame) (j : Fin 8),
    (s.lane x).alive = true →
    (s.lane x).blockFenced P.STR = false →
    ((s.lane x).portState p.val = Prt.listen → (s.lane x).strParse p.val bytes = some (f, true) → f.kind = Kind.coldstart → 
      yieldsLane x (.coldstartFrameReceived x p bytes true) s fun l =>
        l.portState p.val = Prt.integrate ∧ l.rd (R.STR_CYCCNT p.val) = f.cycle ∧ l.rd (R.STR_RTERM p.val) = 0 ∧ l.rd (R.STR_OCORR p.val) = 0 ∧
        (l.port p.val).meas = 0 ∧ l.mem = (s.lane x).mem) ∧
    ((s.lane x).portState p.val = Prt.listen → (s.lane x).get (F.STR_PCTL_CSN p.val) = 1 → (s.lane x).get (F.STR_PSTAT_CSATT p.val) < 3 → 
      yieldsLane x (.listenTimeout x p) s fun l =>
        l.portState p.val = Prt.coldstart ∧ (l.port p.val).cs = 0 ∧
        sameRegs (s.lane x) l (fun a => a = R.STR_PSTAT p.val) ∧ l.mem = (s.lane x).mem) ∧
    ((s.lane x).portState p.val = Prt.coldstart → ((s.lane x).port p.val).cs = 0 → (s.lane x).get (F.STR_PSTAT_CSATT p.val) < 3 → 
      yieldsLane x (.coldstartAttempt x p) s fun l =>
        l.get (F.STR_PSTAT_CSATT p.val) = (s.lane x).get (F.STR_PSTAT_CSATT p.val) + 1 ∧ l.rd (R.STR_CYCCNT p.val) = 0 ∧ (l.port p.val).cs = 1 ∧
        (l.port p.val).air = some (coldFrame ((s.lane x).syncSlot p.val) ((s.lane x).get (F.STR_PCTL_NODE p.val))) ∧ l.portState p.val = Prt.coldstart ∧ l.mem = (s.lane x).mem) ∧
    ((s.lane x).portState p.val = Prt.coldstart → ((s.lane x).port p.val).cs = 2 → 
      yieldsLane x (.coldstartBackoffEnd x p) s fun l =>
        l.port p.val = { ((s.lane x).port p.val) with cs := 0 } ∧ l.regs = (s.lane x).regs ∧ l.mem = (s.lane x).mem) ∧
    ((s.lane x).portState p.val = Prt.coldstart → ((s.lane x).port p.val).air = some f → f.kind = Kind.coldstart → (s.lane x).get (F.STR_PSTAT_CSATT p.val) = 3 → 
      yieldsLane x (.strataCollision x p) s fun l =>
        l.portState p.val = Prt.listenOnly ∧ l.events = (s.lane x).events ++ [⟨98, 0⟩] ∧ (l.port p.val).air = none ∧ l.mem = (s.lane x).mem) ∧
    ((s.lane x).portState p.val = Prt.integrate → 
      yieldsLane x (.integrateTimeout x p) s fun l =>
        l.portState p.val = (if ((s.lane x).port p.val).fromLO then Prt.listenOnly else Prt.listen) ∧ l.rd (R.STR_CYCCNT p.val) = (s.lane x).rd (R.STR_CYCCNT p.val) ∧ l.mem = (s.lane x).mem) ∧
    ((s.lane x).portState p.val = Prt.sync → (s.lane x).inCycle p.val = true → ((s.lane x).rd (R.STR_CYCCNT p.val)).toNat % 2 = 1 → ((s.lane x).port p.val).dev = [] → 0 < (s.lane x).get (F.STR_SYNCCFG_SYNCMIN p.val) → (s.lane x).rd (R.STR_RTERM p.val) = 0 → 
      yieldsLane x (.syncWindowStart x p) s fun l =>
        l.portState p.val = Prt.passive ∧ l.get (F.STR_PSTAT_PASSCAUSE p.val) = 3 ∧ l.get (F.STR_PSTAT_NSYNC p.val) = 0 ∧
        l.get (F.STR_PASSCNT_PASSIVE p.val) = min ((s.lane x).get (F.STR_PASSCNT_PASSIVE p.val) + 1) 0xFFFF ∧ l.rd (R.STR_OCORR p.val) = 0 ∧ l.rd (R.STR_RTERM p.val) = 0 ∧
        l.events = (s.lane x).events ++ [⟨95 + p.val, 0⟩] ∧ l.mem = (s.lane x).mem) ∧
    ((s.lane x).inCycle p.val = true → 
      yieldsLane x (.cycleEnd x p) s fun l =>
        (l.inCycle p.val = true → l.rd (R.STR_CYCCNT p.val) = (s.lane x).rd (R.STR_CYCCNT p.val) + 1 ∧ (l.port p.val).prev = ((s.lane x).port p.val).dev ∧
          (l.port p.val).dev = [] ∧ (l.port p.val).stored = [] ∧ (l.port p.val).caused = [] ∧
          (l.rd (R.irqStat P.STR)).getLsbD (4 + p.val) = true) ∧
        (l.inCycle p.val = false → l.rd (R.STR_CYCCNT p.val) = (s.lane x).rd (R.STR_CYCCNT p.val) ∧ (s.lane x).portState p.val ≠ Prt.sync) ∧ l.mem = (s.lane x).mem) ∧
    ((s.lane x).portState p.val = Prt.integrate → ((s.lane x).port p.val).meas = 2 → ((s.lane x).port p.val).cond = false → ((s.lane x).rd (R.STR_CYCCNT p.val)).toNat % 2 = 1 → (s.lane x).get (F.STR_PCTL_SYNCN p.val) = 0 → (s.lane x).get (F.STR_SYNCCFG_SYNCMIN p.val) ≤ (s.lane x).bothNodes p.val → 
      yieldsLane x (.cycleEnd x p) s fun l => l.portState p.val = Prt.sync ∧ l.get (F.STR_PSTAT_CSATT p.val) = 0 ∧ l.mem = (s.lane x).mem) ∧
    ((s.lane x).get (F.STR_CPT_EN j.val) = 1 → (s.lane x).portState ((s.lane x).get (F.STR_CPT_PORT j.val)) = Prt.sync → (s.lane x).get (F.STR_CPT_MT j.val) < (s.lane x).get (F.STR_CYCCFG_CYCLEN ((s.lane x).get (F.STR_CPT_PORT j.val))) → (s.lane x).get (F.identity (R.STR_CPMSG j.val)) = 7 → 
      yieldsLane x (.cyclePoint x j) s fun l =>
        (l.rd (R.irqStat P.STR)).getLsbD (8 + j.val) = true ∧
        ⟨pageOf P.STR, (s.lane x).get (F.hart (R.STR_CPMSG j.val)), 7⟩ ∈ l.msgs ∧ l.strata = (s.lane x).strata ∧ l.mem = (s.lane x).mem)

/-- R341: a running controller joins the bus once it has integrated. R343: the buffer that wins sends, and its request bit
falls; TXABORT cancels the others. R344: a frame takes the number of the lowest filter that accepts it; RXPOP drops
the head. R345: bus-off and the return from it. -/
def Obligations.CanControllers : Prop :=
  ∀ (s : State) (x : Lane) (n : Fin 2) (t : Nat) (e : Option Nat) (f : CanFrame) (k : Nat) (v : Word),
    (s.lane x).alive = true →
    ((s.lane x).blockOn (P.CAN n.val) = true → 
      yieldsLane x (.canBusIntegrated x n) s fun l =>
        l.can n.val = { ((s.lane x).can n.val) with joined := true } ∧ l.regs = (s.lane x).regs ∧ l.mem = (s.lane x).mem) ∧
    ((s.lane x).takes (R.CAN_TXREQ n.val) = true → 
      yieldsLane x (.canTxreq x n v) s fun l =>
        l.get (F.CAN_TXREQ_BUF n.val) = (s.lane x).get (F.CAN_TXREQ_BUF n.val) ||| v.toNat % 256 ∧ l.ports = (s.lane x).ports ∧
        sameRegs (s.lane x) l (fun a => a = R.CAN_TXREQ n.val) ∧ l.mem = (s.lane x).mem) ∧
    ((s.lane x).takes (R.CAN_TXABORT n.val) = true → 
      yieldsLane x (.canTxabort x n v none) s fun l =>
        l.get (F.CAN_TXREQ_BUF n.val) = (s.lane x).get (F.CAN_TXREQ_BUF n.val) &&& (255 - v.toNat % 256) ∧
        l.get ⟨R.CAN_TXDONE n.val, 8, 8⟩ = (s.lane x).get ⟨R.CAN_TXDONE n.val, 8, 8⟩ ||| ((s.lane x).get (F.CAN_TXREQ_BUF n.val) &&& v.toNat % 256) ∧
        l.rd (R.CAN_TXABORT n.val) = 0 ∧ l.ports = (s.lane x).ports ∧ l.mem = (s.lane x).mem) ∧
    ((s.lane x).takes (R.CAN_TXABORT n.val) = true → (s.lane x).canOn n.val = true → (s.lane x).canNext n.val 0 = some t → v = BitVec.ofNat 32 (2 ^ t) → t < 8 → 
      yieldsLane x (.canTxabort x n v (some 0)) s fun l => l.get (F.CAN_TXREQ_BUF n.val) = (s.lane x).get (F.CAN_TXREQ_BUF n.val) ∧ l.mem = (s.lane x).mem) ∧
    ((s.lane x).canOn n.val = true → (s.lane x).get (F.CAN_MODE_LISTEN n.val) = 0 → (s.lane x).get (F.CAN_MODE_LOOP n.val) = 0 → (s.lane x).canNext n.val k = some t → 
      yieldsLane x (.canFrameSent x n k 7) s fun l =>
        l.get ⟨R.CAN_TXREQ n.val, t, 1⟩ = 0 ∧ l.get ⟨R.CAN_TXDONE n.val, t, 1⟩ = 1 ∧ (l.rd (R.irqStat (P.CAN n.val))).getLsbD 2 = true ∧
        l.get (F.CAN_ECNT_TEC n.val) = (s.lane x).get (F.CAN_ECNT_TEC n.val) - 1 ∧ l.can n.val = ((s.lane x).can n.val) ∧ l.mem = (s.lane x).mem) ∧
    ((s.lane x).canOn n.val = true → (s.lane x).get (F.CAN_MODE_LISTEN n.val) = 0 → (s.lane x).get (F.CAN_MODE_ONESHOT n.val) = 0 → (s.lane x).canNext n.val k = some t → 
      yieldsLane x (.canArbitrationLost x n k e) s fun l =>
        l.get (F.CAN_TXREQ_BUF n.val) = (s.lane x).get (F.CAN_TXREQ_BUF n.val) ∧
        l.get (F.CAN_ECNT_TEC n.val) = (match e with | none => (s.lane x).get (F.CAN_ECNT_TEC n.val) | some m => min ((s.lane x).get (F.CAN_ECNT_TEC n.val) + m) 255) ∧
        l.can n.val = ((s.lane x).can n.val) ∧ l.mem = (s.lane x).mem) ∧
    ((s.lane x).canOn n.val = true → (s.lane x).canFilter n.val (canIdent f) f.xtd = some k → ((s.lane x).can n.val).fifo.length < 32 → f.fdf = false → 
      yields (.canFrameReceived x n [] ⟨f, t⟩) s fun u =>
        ((u.lane x).can n.val).fifo = ((s.lane x).can n.val).fifo ++ [canRecord f ((s.lane x).tscnt n.val s.nowUs t) k] ∧ (u.lane x).get (F.CAN_RXSTAT_LEVEL n.val) = ((s.lane x).can n.val).fifo.length + 1 ∧
        (u.lane x).get (F.CAN_ECNT_TEC n.val) = (s.lane x).get (F.CAN_ECNT_TEC n.val) ∧ (u.lane x).mem = (s.lane x).mem ∧
        u.lane x.peer = s.lane x.peer ∧ u.bed = s.bed ∧ u.brg = s.brg ∧ u.pending = s.pending) ∧
    ((s.lane x).takes (R.CAN_RXPOP n.val) = true → 
      yieldsLane x (.canRxpop x n 1) s fun l =>
        (l.can n.val).fifo = ((s.lane x).can n.val).fifo.drop 1 ∧ l.get (F.CAN_RXSTAT_LEVEL n.val) = (((s.lane x).can n.val).fifo.length - 1) % 64 ∧ l.rd (R.CAN_RXPOP n.val) = 0 ∧ l.mem = (s.lane x).mem) ∧
    ((s.lane x).canOn n.val = true → (s.lane x).get (F.CAN_ECNT_TEC n.val) = 255 → 
      yieldsLane x (.canBusOff x n) s fun l =>
        l.canState n.val = CanSt.busOff ∧ l.canOn n.val = false ∧ (l.rd (R.irqRaw (P.CAN n.val))).getLsbD 4 = true ∧
        l.events = (s.lane x).events ++ [⟨(s.lane x).pageSrc (P.CAN n.val) 2, 0⟩] ∧ l.mem = (s.lane x).mem) ∧
    ((s.lane x).blockOn (P.CAN n.val) = true → (s.lane x).get (F.CAN_MODE_ARECOV n.val) = 1 → (s.lane x).canState n.val = CanSt.busOff → 
      yieldsLane x (.canBusOffRecovery x n) s fun l =>
        l.canState n.val = CanSt.active ∧ l.get (F.CAN_ECNT_TEC n.val) = 0 ∧ l.get (F.CAN_ECNT_REC n.val) = 0 ∧ l.can n.val = ((s.lane x).can n.val) ∧ l.mem = (s.lane x).mem)

/-- R349: a transmitted descriptor loses OWN, takes its time stamp where asked, and the ring moves on; a received frame is
stored in the descriptor at the position. R347: a frame with a wrong FCS is dropped and counted in RXERR. R350: PTPADJ
is added at the next tick, and seconds take the carry. -/
def Obligations.EthernetAndPtp : Prop :=
  ∀ (s : State) (x : Lane) (ns : Word) (ago : Nat) (fr : List (BitVec 8)) (k : Nat) (v : Word),
    (s.lane x).alive = true →
    ((s.lane x).takes R.ETH_TXPOLL = true → (s.lane x).blockOn P.ETH = true → (s.lane x).ethOwn (s.lane x).txDesc = true → 
      yieldsLane x (.txpoll x 1) s fun l =>
        l.ports.eth = { (s.lane x).ports.eth with txOn := true } ∧ l.rd R.ETH_TXPOLL = 0 ∧ sameRegs (s.lane x) l (fun a => a = R.ETH_TXPOLL) ∧ l.mem = (s.lane x).mem) ∧
    ((s.lane x).blockOn P.ETH = true → (s.lane x).ports.eth.txOn = true → (s.lane x).uncached = true → (s.lane x).txDesc = 0x10000000 → (s.lane x).dmaWord 0x10000000 = 0x10000010 → (s.lane x).dmaWord 0x10000004 = 0x30014 → 
      yields (.ethFrameTransmitted x ago k false) s fun u =>
        (u.lane x).dmaWord 0x10000004 = 0x60014 ∧ (u.lane x).dmaWord 0x10000008 = ((s.lane x).ethStamp s.nowUs ago s.free).1 ∧
        (u.lane x).dmaWord 0x1000000C = ((s.lane x).ethStamp s.nowUs ago s.free).2 ∧
        (let body := (s.lane x).dmaBytes 0x10000010 20 ++ List.replicate 40 0
         (u.lane x).ports.eth.sent = body ++ ethFcs body) ∧
        (u.lane x).ports.eth.tx = ((s.lane x).ports.eth.tx + 1) % max 1 ((s.lane x).get F.ETH_RINGLEN_TXN) ∧
        (u.lane x).rd R.ETH_TXOK = (if (s.lane x).rd R.ETH_TXOK = BitVec.allOnes 32 then BitVec.allOnes 32 else (s.lane x).rd R.ETH_TXOK + 1) ∧
        sameBytes (s.lane x) (u.lane x) (fun a => 0x10000004 ≤ a ∧ a < 0x10000010) ∧
        u.lane x.peer = s.lane x.peer ∧ u.bed = s.bed ∧ u.brg = s.brg ∧ u.pending = s.pending) ∧
    ((s.lane x).blockOn P.ETH = true → fr.length = 64 → (s.lane x).ethMine fr = true → (s.lane x).uncached = true → (s.lane x).rxDesc = 0x10000100 → (s.lane x).dmaWord 0x10000100 = 0x10000110 → (s.lane x).dmaWord 0x10000104 = 0x10040 → 
      yields (.ethFrameReceived x fr true ago k false) s fun u =>
        (u.lane x).dmaWord 0x10000104 = 0x4003C ∧ (u.lane x).dmaWord 0x10000108 = ((s.lane x).ethStamp s.nowUs ago s.free).1 ∧
        (u.lane x).dmaWord 0x1000010C = ((s.lane x).ethStamp s.nowUs ago s.free).2 ∧
        (u.lane x).dmaBytes 0x10000110 60 = fr.take 60 ∧
        (u.lane x).ports.eth.rx = ((s.lane x).ports.eth.rx + 1) % max 1 ((s.lane x).get F.ETH_RINGLEN_RXN) ∧
        (u.lane x).rd R.ETH_RXOK = (if (s.lane x).rd R.ETH_RXOK = BitVec.allOnes 32 then BitVec.allOnes 32 else (s.lane x).rd R.ETH_RXOK + 1) ∧
        sameBytes (s.lane x) (u.lane x) (fun a => 0x10000104 ≤ a ∧ a < 0x1000014C) ∧
        u.lane x.peer = s.lane x.peer ∧ u.bed = s.bed ∧ u.brg = s.brg ∧ u.pending = s.pending) ∧
    ((s.lane x).blockOn P.ETH = true → 
      yields (.ethFrameReceived x fr false ago k false) s fun u =>
        (u.lane x).rd R.ETH_RXERR = (if (s.lane x).rd R.ETH_RXERR = BitVec.allOnes 32 then BitVec.allOnes 32 else (s.lane x).rd R.ETH_RXERR + 1) ∧
        (u.lane x).ports.eth = (s.lane x).ports.eth ∧ (u.lane x).mem = (s.lane x).mem ∧ u.lane x.peer = s.lane x.peer ∧ u.bed = s.bed ∧
        u.brg = s.brg ∧ u.pending = s.pending) ∧
    ((s.lane x).takes R.ETH_PTPADJ = true → (s.lane x).ports.eth.frac = 0 → (s.lane x).rd R.ETH_PTPINCR = 0x08000000 → (s.lane x).rd R.ETH_PTPNS = ns → (s.lane x).ports.eth.tick ≤ ethTick s.nowUs k → ago = ethTick s.nowUs k + 1 - (s.lane x).ports.eth.tick → ns.toNat + 8 * ago + v.toNat < 1000000000 → v.toNat < 2 ^ 31 → 
      yieldsLane x (.ptpadjWrite x v k false) s fun l =>
        l.rd R.ETH_PTPNS = BitVec.ofNat 32 (ns.toNat + 8 * ago + v.toNat) ∧ l.rd R.ETH_PTPSEC = (s.lane x).rd R.ETH_PTPSEC ∧ l.mem = (s.lane x).mem) ∧
    ((s.lane x).blockFenced P.ETH = false → 1000000000 ≤ ((s.lane x).ptpAhead (ethTick s.nowUs k)).1 → ((s.lane x).ptpAhead (ethTick s.nowUs k)).1 < 2000000000 → 
      yieldsLane x (.ptpsecCarry x k) s fun l =>
        l.rd R.ETH_PTPNS = BitVec.ofNat 32 (((s.lane x).ptpAhead (ethTick s.nowUs k)).1 - 1000000000) ∧ l.rd R.ETH_PTPSEC = (s.lane x).rd R.ETH_PTPSEC + 1 ∧
        (l.rd (R.irqStat P.ETH)).getLsbD 3 = true ∧ l.mem = (s.lane x).mem) ∧
    ((s.lane x).takes R.ETH_MDIO = true → (s.lane x).get F.ETH_MDIO_GO = 0 → v.getLsbD 15 = true → ((s.lane x).regWrite R.ETH_MDIO v).2.getLsbD 15 = true → 
      yieldsLane x (.mdioAccess x v) s fun l => l.get F.ETH_MDIO_GO = 1 ∧ l.ports = (s.lane x).ports ∧ l.mem = (s.lane x).mem) ∧
    ((s.lane x).blockFenced P.ETH = false → (s.lane x).get F.ETH_MDIO_GO = 1 → (s.lane x).get F.ETH_MDIO_WRITE = 0 → 
      yieldsLane x (.mdioComplete x (v.setWidth 16)) s fun l =>
        l.get F.ETH_MDIO_GO = 0 ∧ l.get F.ETH_MDIO_DATA = v.toNat % 2 ^ 16 ∧
        sameRegs (s.lane x) l (fun a => a = R.ETH_MDIO) ∧ l.ports = (s.lane x).ports ∧ l.mem = (s.lane x).mem)

/-- R374: an ESTOP evaluator in RUN whose input falls leaves RUN, is counted, and R382: its outputs lose the hardwired
demand and their command. R372, R386: a discrepancy, and the faults of outputs and paths, lock the evaluator out with
their cause. -/
def Obligations.SafetyEvaluators : Prop :=
  ∀ (s : State) (e k : Fin 8) (x : Lane) (a b : Half) (n : Nat) (z : Bool),
    s.bedrockRuns = true →
    (s.bed.get (F.BSAFE_EVCFG_TYPE e.val) = 1 → s.evState e.val = 4 → s.bed.get F.BSYS_BCFG_LOADED = 1 → s.bed.safety.windows = [] → a.getLsbD (s.bed.get (F.BSAFE_EVCFG_INP0 e.val)) = false → 
      yields (.safetyInputChange a b z a b z n) s fun t =>
        (∀ j, j < 16 → t.siA j = a.getLsbD j ∧ t.siB j = b.getLsbD j) ∧ t.bed.safety.srst = z ∧
        (t.evState e.val = 1 ∨ t.evState e.val = 2) ∧ t.bed.get (F.BSAFE_EVCNT_DEMANDS e.val) = min (s.bed.get (F.BSAFE_EVCNT_DEMANDS e.val) + 1) 0xFFFF ∧
        (∀ j, j < 8 → s.bed.get (F.BSAFE_EVOUT_OUTMASK e.val) / 2 ^ j % 2 = 1 → t.bed.get F.BSAFE_SOSTAT_HWDMD / 2 ^ j % 2 = 0 ∧ t.bed.get F.BSAFE_SOSTAT_CMD / 2 ^ j % 2 = 0) ∧
        sameBedRegs s.bed t.bed (inPage P.BSAFE) ∧ t.a.mem = s.a.mem ∧ t.b.mem = s.b.mem ∧ t.brg = s.brg ∧ t.pending = s.pending) ∧
    (s.bed.get F.BSYS_BCFG_LOADED = 0 → s.bed.safety.windows = [] → 
      yields (.safetyInputChange a b z a b z n) s fun t =>
        t.bed.safety.evals = s.bed.safety.evals ∧ (∀ j, j < 8 → t.evState j = s.evState j) ∧
        (∀ j, j < 16 → t.siA j = a.getLsbD j ∧ t.siB j = b.getLsbD j) ∧ t.bed.safety.srst = z ∧
        (∀ j, j < 16 → (t.lane x).get (F.SYS_SIMIR_A j) = bit (a.getLsbD j) ∧ (t.lane x).get (F.SYS_SIMIR_B j) = bit (b.getLsbD j)) ∧
        (t.lane x).get F.SYS_SOMIR_SRST = bit z ∧ sameBedRegs s.bed t.bed (inPage P.BSAFE) ∧ t.a.mem = s.a.mem ∧ t.b.mem = s.b.mem ∧ t.brg = s.brg ∧ t.pending = s.pending) ∧
    (s.bed.get F.BSYS_BCFG_LOADED = 1 → s.discrepant e.val z = true → 1 ≤ s.evState e.val → s.evState e.val ≤ 4 → 
      yields (.discrepancyTimeout e z) s fun t =>
        t.evState e.val = 5 ∧ t.bed.get (F.BSAFE_EVSTAT_CAUSE e.val) = 1 ∧
        t.bed.get (F.BSAFE_EVCNT_LOCKOUTS e.val) = min (s.bed.get (F.BSAFE_EVCNT_LOCKOUTS e.val) + 1) 0xFFFF ∧ t.bed.events = s.bed.events ++ [⟨24, none⟩] ∧
        (∀ j, j < 8 → s.bed.get (F.BSAFE_EVOUT_OUTMASK e.val) / 2 ^ j % 2 = 1 → t.bed.get F.BSAFE_SOSTAT_HWDMD / 2 ^ j % 2 = 0 ∧ t.bed.get F.BSAFE_SOSTAT_CMD / 2 ^ j % 2 = 0) ∧
        sameBedRegs s.bed t.bed (inPage P.BSAFE) ∧ t.a.mem = s.a.mem ∧ t.b.mem = s.b.mem ∧ t.brg = s.brg ∧ t.pending = s.pending) ∧
    (s.bed.get F.BSYS_BCFG_LOADED = 1 → s.evType e.val = 4 → s.evState e.val = 4 → s.siA (s.bed.get (F.BSAFE_EVCFG_INP0 e.val)) = false → 
      yields (.lcurtOffToleranceExpiry e false) s fun t =>
        (t.eval e.val).osA = false ∧ (t.evState e.val = 1 ∨ t.evState e.val = 2) ∧ t.bed.get (F.BSAFE_EVCNT_DEMANDS e.val) = min (s.bed.get (F.BSAFE_EVCNT_DEMANDS e.val) + 1) 0xFFFF ∧
        sameBedRegs s.bed t.bed (inPage P.BSAFE) ∧ t.a.mem = s.a.mem ∧ t.b.mem = s.b.mem ∧ t.brg = s.brg ∧ t.pending = s.pending) ∧
    (s.bed.get F.BSYS_BCFG_LOADED = 1 → s.evType e.val = 3 → s.evState e.val = 2 → s.pressed e.val false = true → s.pressed e.val true = false → 
      yields (.twohandTimeout e) s fun t =>
        t.evState e.val = 1 ∧ t.bed.events = s.bed.events ∧ (∀ i, i < 8 → i ≠ e.val → t.evState i = s.evState i) ∧ sameBedRegs s.bed t.bed (inPage P.BSAFE) ∧ t.a.mem = s.a.mem ∧ t.b.mem = s.b.mem ∧ t.brg = s.brg ∧ t.pending = s.pending) ∧
    (s.bed.get (F.joined x) = 1 → s.bed.get F.BSAFE_PSTAT_DMD / 2 ^ k.val % 2 = 1 → s.bed.get F.BSAFE_SOSTAT_HWDMD / 2 ^ k.val % 2 = 0 → s.bed.get (F.BSAFE_EVOUT_OUTMASK e.val) / 2 ^ k.val % 2 = 1 → 1 ≤ s.evState e.val → s.evState e.val ≤ 4 → 
      yields (.pathDiscrepancyTimeout k) s fun t =>
        t.evState e.val = 5 ∧ t.bed.get (F.BSAFE_EVSTAT_CAUSE e.val) = 5 ∧
        t.bed.get (F.BSAFE_EVCNT_LOCKOUTS e.val) = min (s.bed.get (F.BSAFE_EVCNT_LOCKOUTS e.val) + 1) 0xFFFF ∧ t.bed.events = s.bed.events ++ [⟨28, none⟩] ∧
        (∀ j, j < 8 → s.bed.get (F.BSAFE_EVOUT_OUTMASK e.val) / 2 ^ j % 2 = 1 → t.bed.get F.BSAFE_SOSTAT_HWDMD / 2 ^ j % 2 = 0 ∧ t.bed.get F.BSAFE_SOSTAT_CMD / 2 ^ j % 2 = 0) ∧
        sameBedRegs s.bed t.bed (inPage P.BSAFE) ∧ t.a.mem = s.a.mem ∧ t.b.mem = s.b.mem ∧ t.brg = s.brg ∧ t.pending = s.pending) ∧
    (s.bed.get F.BSAFE_SOSTAT_CMD / 2 ^ k.val % 2 = 1 → s.bed.get F.BSAFE_SOTCFG_SOTPER ≠ 0 → s.bed.get (F.BSAFE_EVOUT_OUTMASK e.val) / 2 ^ k.val % 2 = 1 → 1 ≤ s.evState e.val → s.evState e.val ≤ 4 → 
      yields (.safeOutputTestPulse k z true) s fun t =>
        t.evState e.val = 5 ∧ t.bed.get (F.BSAFE_EVSTAT_CAUSE e.val) = 4 ∧
        t.bed.get (F.BSAFE_EVCNT_LOCKOUTS e.val) = min (s.bed.get (F.BSAFE_EVCNT_LOCKOUTS e.val) + 1) 0xFFFF ∧ t.bed.events = s.bed.events ++ [⟨27, none⟩] ∧
        (∀ j, j < 8 → s.bed.get (F.BSAFE_EVOUT_OUTMASK e.val) / 2 ^ j % 2 = 1 → t.bed.get F.BSAFE_SOSTAT_HWDMD / 2 ^ j % 2 = 0 ∧ t.bed.get F.BSAFE_SOSTAT_CMD / 2 ^ j % 2 = 0) ∧
        sameBedRegs s.bed t.bed (inPage P.BSAFE) ∧ t.a.mem = s.a.mem ∧ t.b.mem = s.b.mem ∧ t.brg = s.brg ∧ t.pending = s.pending) ∧
    (yields (.safeOutputTestPulse k z false) s fun t => t = s) ∧
    (s.bed.get F.BSAFE_SOSTAT_CMD / 2 ^ k.val % 2 = 0 → s.bed.get (F.BSAFE_EVOUT_OUTMASK e.val) / 2 ^ k.val % 2 = 1 → 1 ≤ s.evState e.val → s.evState e.val ≤ 4 → 
      yields (.outputReadbackFault k z true) s fun t =>
        t.evState e.val = 5 ∧ t.bed.get (F.BSAFE_EVSTAT_CAUSE e.val) = 4 ∧
        t.bed.get (F.BSAFE_EVCNT_LOCKOUTS e.val) = min (s.bed.get (F.BSAFE_EVCNT_LOCKOUTS e.val) + 1) 0xFFFF ∧ t.bed.events = s.bed.events ++ [⟨27, none⟩] ∧
        (∀ j, j < 8 → s.bed.get (F.BSAFE_EVOUT_OUTMASK e.val) / 2 ^ j % 2 = 1 → t.bed.get F.BSAFE_SOSTAT_HWDMD / 2 ^ j % 2 = 0 ∧ t.bed.get F.BSAFE_SOSTAT_CMD / 2 ^ j % 2 = 0) ∧
        sameBedRegs s.bed t.bed (inPage P.BSAFE) ∧ t.a.mem = s.a.mem ∧ t.b.mem = s.b.mem ∧ t.brg = s.brg ∧ t.pending = s.pending)

/-- R369: a test pulse opens a window that holds the fed channels, and a channel still high at its end is TPFAIL. R377: a
valid reset pulse takes READY to RUN. R380: an accepted demand word is taken; R381: a joined lane that is no longer
current, or that deviates, leaves the join. -/
def Obligations.SafetyPulsesAndPath : Prop :=
  ∀ (s : State) (e k : Fin 8) (x : Lane) (a b : Half) (n : Nat),
    s.bedrockRuns = true →
    (s.bed.get F.BSAFE_TPCFG_TPEN / 2 ^ k.val % 2 = 1 → s.bed.get F.BSYS_BCFG_LOADED = 1 → 
      yields (.testPulseStart k a b) s fun t =>
        t.bed.get F.BSAFE_TPSTAT_CMD = s.bed.get F.BSAFE_TPSTAT_CMD &&& (255 - 2 ^ k.val) ∧ k.val ∈ t.bed.safety.windows ∧
        (t.lane x).get F.SYS_SOMIR_TP = t.bed.get F.BSAFE_TPSTAT_CMD ∧ t.bed.safety.evals = s.bed.safety.evals ∧ sameBedRegs s.bed t.bed (inPage P.BSAFE) ∧ t.a.mem = s.a.mem ∧ t.b.mem = s.b.mem ∧ t.brg = s.brg ∧ t.pending = s.pending) ∧
    (s.bed.get F.BSYS_BCFG_LOADED = 1 → k.val ∈ s.bed.safety.windows → Table.get (fun _ => 0) s.bed.safety.tpPre k.val = 0 → 
      yields (.testPulseCheck k a b a b false) s fun t =>
        t.bed.get F.BSAFE_TPSTAT_CMD = s.bed.get F.BSAFE_TPSTAT_CMD ||| 2 ^ k.val ∧ k.val ∉ t.bed.safety.windows ∧
        t.bed.events = s.bed.events ∧ (∀ i, i < 8 → t.evState i = s.evState i) ∧ sameBedRegs s.bed t.bed (inPage P.BSAFE) ∧ t.a.mem = s.a.mem ∧ t.b.mem = s.b.mem ∧ t.brg = s.brg ∧ t.pending = s.pending) ∧
    (s.bed.get F.BSYS_BCFG_LOADED = 1 → k.val ∈ s.bed.safety.windows → s.tpSel (s.bed.get (F.BSAFE_EVCFG_INP0 e.val)) false = k.val + 1 → Table.get (fun _ => 0) s.bed.safety.tpPre k.val = 0xFFFF → a.getLsbD (s.bed.get (F.BSAFE_EVCFG_INP0 e.val)) = true → s.evType e.val ≠ 0 → 1 ≤ s.evState e.val → s.evState e.val ≤ 4 → 
      yields (.testPulseCheck k a b a b false) s fun t =>
        t.evState e.val = 5 ∧ t.bed.get (F.BSAFE_EVSTAT_CAUSE e.val) = 2 ∧ ⟨25, none⟩ ∈ t.bed.events ∧
        2 * s.bed.get (F.BSAFE_EVCFG_INP0 e.val) ∈ (t.eval e.val).needPass ∧ k.val ∉ t.bed.safety.windows ∧ sameBedRegs s.bed t.bed (inPage P.BSAFE) ∧ t.a.mem = s.a.mem ∧ t.b.mem = s.b.mem ∧ t.brg = s.brg ∧ t.pending = s.pending) ∧
    (s.bed.get F.BSYS_BCFG_LOADED = 1 → s.devState ≠ Dev.safe → s.evType e.val ≠ 0 → s.evState e.val = 3 → s.runCond e.val = true → s.bed.get (F.BSAFE_EVCFG_RSTSRC e.val) = 0 → Table.get (fun _ => none) s.bed.safety.rises 0 = some 100 → 30100 ≤ n → n ≤ 300100 → 
      yields (.resetPulseEnd 0 n 0) s fun t =>
        t.evState e.val = 4 ∧ t.bed.get F.BSAFE_RSTCNT_ACC = min (s.bed.get F.BSAFE_RSTCNT_ACC + 1) 0x3FF ∧ t.bed.events = s.bed.events ∧ sameBedRegs s.bed t.bed (inPage P.BSAFE) ∧ t.a.mem = s.a.mem ∧ t.b.mem = s.b.mem ∧ t.brg = s.brg ∧ t.pending = s.pending) ∧
    (s.bed.get F.BSYS_BCFG_LOADED = 1 → Table.get (fun _ => none) s.bed.safety.rises 0 = some 100 → n < 30100 → 
      yields (.resetPulseEnd 0 n 0) s fun t =>
        t.bed.get F.BSAFE_RSTCNT_BADLEN = min (s.bed.get F.BSAFE_RSTCNT_BADLEN + 1) 0x3FF ∧ t.bed.safety.evals = s.bed.safety.evals ∧
        sameBedRegs s.bed t.bed (fun w => w = R.BSAFE_RSTCNT) ∧ t.a = s.a ∧ t.b = s.b ∧ t.brg = s.brg ∧ t.pending = s.pending) ∧
    (s.laneStatus x = Stat.up → (s.lane x).alive = true → b = ~~~a → 
      yields (.sdemandWrite x .xfr ((b.extractLsb' 8 8 ++ a.extractLsb' 8 8) ++ (b.extractLsb' 0 8 ++ a.extractLsb' 0 8)) true) s fun t =>
        (t.path x).dmd = a.toNat % 256 ∧ (t.path x).inh = a.toNat / 256 ∧ t.bed.get (F.cur x) = 1 ∧ (t.lane x).response .xfr = .done ∧
        t.bed.events = s.bed.events ∧ sameBedRegs s.bed t.bed (inPage P.BSAFE) ∧ t.a.mem = s.a.mem ∧ t.b.mem = s.b.mem ∧ t.brg = s.brg ∧ t.pending = s.pending) ∧
    ((s.lane x).alive = true → b ≠ ~~~a → 
      yields (.sdemandWrite x .xfr ((b.extractLsb' 8 8 ++ a.extractLsb' 8 8) ++ (b.extractLsb' 0 8 ++ a.extractLsb' 0 8)) true) s fun t =>
        t.bed = { s.bed with events := s.bed.events ++ [⟨31, none⟩] } ∧ (t.lane x).response .xfr = .done ∧ t.a.mem = s.a.mem ∧ t.b.mem = s.b.mem ∧ t.brg = s.brg ∧ t.pending = s.pending) ∧
    (s.bed.get (F.cur x) = 1 → s.bed.get (F.joined x) = 1 → 
      yields (.demandTimeout x) s fun t =>
        t.bed.get (F.cur x) = 0 ∧ t.bed.get (F.joined x) = 0 ∧ t.bed.get (F.dtmo x) = 1 ∧ t.bed.events = s.bed.events ++ [⟨30, some x⟩] ∧ sameBedRegs s.bed t.bed (inPage P.BSAFE) ∧ t.a.mem = s.a.mem ∧ t.b.mem = s.b.mem ∧ t.brg = s.brg ∧ t.pending = s.pending) ∧
    (s.bed.get (F.joined .A) = 1 → s.bed.get (F.joined .B) = 1 → s.bed.safety.pathA.dmd / 2 ^ k.val % 2 ≠ s.bed.get F.BSAFE_SOSTAT_HWDMD / 2 ^ k.val % 2 → s.bed.safety.pathB.dmd / 2 ^ k.val % 2 = s.bed.get F.BSAFE_SOSTAT_HWDMD / 2 ^ k.val % 2 → 
      yields (.laneDiscrepancyTimeout k) s fun t =>
        t.bed.get (F.joined .A) = 0 ∧ t.bed.get (F.ldis .A) = 1 ∧ t.bed.events = s.bed.events ++ [⟨29, some .A⟩] ∧
        (∀ i, i < 8 → t.evState i = s.evState i) ∧ sameBedRegs s.bed t.bed (inPage P.BSAFE) ∧ t.a.mem = s.a.mem ∧ t.b.mem = s.b.mem ∧ t.brg = s.brg ∧ t.pending = s.pending)

/-- R356: the first byte of a write to the wake port's address is the code, and a read returns the status byte. R360: the
edges that GEDGE selects set their event bit. R359: GOUTSET and GOUTCLR set and clear the output levels that are
written as 1. -/
def Obligations.WakePortAndPins : Prop :=
  ∀ (s : State) (x : Lane) (k : Fin 16) (c : BitVec 8) (bytes : List (BitVec 8)) (ad : BitVec 7) (v : Word) (z : Bool) (held : Nat),
    ((s.lane x).wakeOn ad.toNat = true → (s.lane x).alive = true → (s.lane x).parked = false → (s.lane x).power.entry = 0 → (s.lane x).pstate = 0 → 
      yieldsLane x (.wakePortWrite x ad (c :: bytes)) s fun l =>
        l.get F.WAKE_WCODE_CODE = c.toNat ∧ l.get F.WAKE_WCODE_RCVD = ((s.lane x).get F.WAKE_WCODE_RCVD + 1) % 256 ∧ l.get F.WAKE_WSTAT_NEW = 1 ∧
        ((s.lane x).get F.WAKE_WSTAT_NEW = 1 → l.get F.WAKE_WSTAT_OVR = 1) ∧ l.power = (s.lane x).power ∧ l.mem = (s.lane x).mem) ∧
    ((s.lane x).wakeOn ad.toNat = true → 
      yieldsLane x (.wakePortRead x ad) s fun l =>
        l.ports = { (s.lane x).ports with wakeOut := some (s.lane x).wakeStatus } ∧ l.regs = (s.lane x).regs ∧ l.mem = (s.lane x).mem) ∧
    ((s.lane x).alive = true → (s.lane x).blockFenced P.GPIO = false → (s.lane x).get F.GPIO_GCFG_FLT ≤ held → (s.lane x).ports.gpioSeen / 2 ^ k.val % 2 = 0 → (s.lane x).ports.gpio / 2 ^ k.val % 2 = 0 → 
      yieldsLane x (.gpioEdge x k ⟨z, held⟩) s fun l =>
        l.ports.gpio / 2 ^ k.val % 2 = bit z ∧ l.ports.gpioSeen / 2 ^ k.val % 2 = 1 ∧
        l.get F.GPIO_GEVT_EVT / 2 ^ k.val % 2 = max ((s.lane x).get F.GPIO_GEVT_EVT / 2 ^ k.val % 2) ((s.lane x).get (F.GPIO_GEDGE_EDGE k.val) / (if z then 1 else 2) % 2) ∧
        l.mem = (s.lane x).mem) ∧
    ((s.lane x).takes R.GPIO_GOUTSET = true → 
      yieldsLane x (.goutset x v) s fun l =>
        l.rd R.GPIO_GOUT = (s.lane x).rd R.GPIO_GOUT ||| (v &&& 0xFFFF) ∧ l.ports = (s.lane x).ports ∧ sameRegs (s.lane x) l (fun a => a = R.GPIO_GOUT) ∧ l.mem = (s.lane x).mem) ∧
    ((s.lane x).takes R.GPIO_GOUTCLR = true → 
      yieldsLane x (.goutclr x v) s fun l =>
        l.rd R.GPIO_GOUT = (s.lane x).rd R.GPIO_GOUT &&& ~~~(v &&& 0xFFFF) ∧ l.ports = (s.lane x).ports ∧ sameRegs (s.lane x) l (fun a => a = R.GPIO_GOUT) ∧ l.mem = (s.lane x).mem) ∧
    ((s.lane x).alive = true → 
      yieldsLane x (.wakeInputChange x (Fin.ofNat 4 k.val) z) s fun l => l = (s.lane x).aplicLevel (17 + k.val % 4) z)

/-- R436, R438: a request of DOZE or PARK begins an entry that waits for WFI; PARK is refused by a block that runs or
without consent. R445: a stopper aborts an entry and is recorded. R439: the grant powers down the ready lanes and
takes the device to PARKED. -/
def Obligations.PowerStateEntries : Prop :=
  ∀ (s : State) (x : Lane) (g : Agent) (n us p : Nat),
    ((s.lane x).alive = true → s.devState ≠ Dev.drive → ((s.lane x).notWfi).isSome = true → (s.lane x).power.entry = 0 → (s.lane x).pstate = PSt.run → 
      yieldsLane x (.psreqDoze x g) s fun l => l.power = { (s.lane x).power with entry := 1 } ∧ l.pstate = PSt.run ∧ sameRegs (s.lane x) l (inPage P.PWR) ∧ l.mem = (s.lane x).mem) ∧
    ((s.lane x).alive = true → (s.lane x).parkRefuser = none → ((s.lane x).notWfi).isSome = true → (s.lane x).power.entry = 0 → (s.lane x).pstate = PSt.run → 
      yieldsLane x (.psreqPark x g) s fun l => l.power = { (s.lane x).power with entry := 2 } ∧ l.pstate = PSt.entering ∧ sameRegs (s.lane x) l (inPage P.PWR) ∧ l.mem = (s.lane x).mem) ∧
    ((s.lane x).alive = true → (s.lane x).parkRefuser = some n → n < 2 ^ 24 → (s.lane x).power.entry = 0 → (s.lane x).pstate = PSt.run → 
      yieldsLane x (.psreqPark x g) s fun l =>
        l.power.entry = 0 ∧ l.pstate = PSt.run ∧ l.rd R.PWR_PSLAST = BitVec.ofNat 32 (n + 2 ^ 24 + 2 * 2 ^ 28) ∧
        l.get F.PWR_PSCNT_REFUSED = min ((s.lane x).get F.PWR_PSCNT_REFUSED + 1) 0xFFFF ∧ l.mem = (s.lane x).mem) ∧
    ((s.lane x).alive = true → (s.lane x).pstate = PSt.doze → (s.lane x).power.entry = 0 → 
      yieldsLane x (.psreqDoze x .host) s fun l => l.pstate = PSt.run ∧ l.power = (s.lane x).power ∧ sameRegs (s.lane x) l (inPage P.PWR) ∧ l.mem = (s.lane x).mem) ∧
    ((s.lane x).notWfi = some p → p < 4 → ((s.lane x).power.entry = 1 ∨ (s.lane x).power.entry = 2) → 
      yieldsLane x (.wfiTimeout x) s fun l =>
        l.power = { (s.lane x).power with entry := 0, parkReady := false } ∧ l.pstate = PSt.run ∧
        l.rd R.PWR_PSLAST = BitVec.ofNat 32 (0xFF0000 + 0x10 * (s.lane x).id.num + p + 2 ^ 24 + (s.lane x).power.entry * 2 ^ 28) ∧
        l.get F.PWR_PSCNT_REFUSED = min ((s.lane x).get F.PWR_PSCNT_REFUSED + 1) 0xFFFF ∧ l.mem = (s.lane x).mem) ∧
    ((s.lane x).pstate = PSt.doze → 
      yieldsLane x (.dozeExit x) s fun l => l.pstate = PSt.run ∧ l.power = (s.lane x).power ∧ sameRegs (s.lane x) l (fun a => a = R.PWR_PSTAT) ∧ l.mem = (s.lane x).mem) ∧
    (((s.lane x).power.entry = 1 ∨ (s.lane x).power.entry = 2) → 
      yieldsLane x (.parkAbort x .debug us) s fun l =>
        l.power = { (s.lane x).power with entry := 0, parkReady := false } ∧ l.pstate = PSt.run ∧
        l.rd R.PWR_PSLAST = BitVec.ofNat 32 (0xFF0300 + 2 * 2 ^ 24 + (s.lane x).power.entry * 2 ^ 28) ∧
        l.get F.PWR_PSCNT_ABORTED = min ((s.lane x).get F.PWR_PSCNT_ABORTED + 1) 0xFFFF ∧ l.mem = (s.lane x).mem) ∧
    (s.mayPark = true → s.laneStatus x = Stat.up → 
      yields .parkGrant s fun t =>
        t.devState = Dev.parked ∧ (t.lane x).parked = (s.lane x).power.feedOn ∧ (t.lane x).power.parkReady = false ∧
        (t.lane x).get F.PWR_WAKESTAT_FAILCNT = 0 ∧ (∀ e, e < 8 → t.evState e = 0 ∨ t.evState e = 5) ∧ t.bed.get F.BSAFE_SOSTAT_CMD = 0 ∧
        t.brg.get F.BCOM_TBSTAT_LOCK = 0 ∧ t.brg.pllHold = true ∧ t.a.mem = s.a.mem ∧ t.b.mem = s.b.mem ∧ t.pending = s.pending) ∧
    (s.devState = Dev.parked → s.a.power.wakeStep = 0 → s.b.power.wakeStep = 0 → 
      yields .bedrockClockStop s fun t => t = { s with bed := { s.bed with clockOff := true } })

/-- R446: an enabled source is latched in PARK and starts the wake; R447: its steps follow in order. R442: a crystal that
does not start or stops is replaced by the internal oscillator. R448: a failed wake records its step. R452, R453:
RSTCMD resets the lane; a LANE reset keeps working SRAM. -/
def Obligations.WakesAndClocks : Prop :=
  ∀ (s : State) (x : Lane) (ss : Fin 8) (k : Fin 12) (z : Bool) (a : Nat),
    ((s.lane x).parked = true → (s.lane x).get F.PWR_WAKEEN_EN / 2 ^ ss.val % 2 = 1 → (s.lane x).power.wakeStep = 0 → 
      yields (.wakeEvent x ss) s fun t =>
        (t.lane x).power = { (s.lane x).power with wakeStep := 2, wakeSrc := 2 ^ ss.val } ∧ (t.lane x).get F.PWR_WAKESTAT_SRC = 2 ^ ss.val ∧
        t.bed = { s.bed with clockOff := false } ∧ (t.lane x).mem = (s.lane x).mem ∧ t.lane x.peer = s.lane x.peer ∧ t.brg = s.brg ∧ t.pending = s.pending) ∧
    ((s.lane x).parked = true → (s.lane x).get F.PWR_WAKEEN_EN / 2 ^ 5 % 2 = 1 → (s.lane x).power.wakeStep = 0 → 
      yields (.crustTimerMatch x) s fun t =>
        (t.lane x).power = { (s.lane x).power with wakeStep := 2, wakeSrc := 32 } ∧ (t.lane x).get F.PWR_WAKESTAT_SRC = 32 ∧
        (t.lane x).mem = (s.lane x).mem ∧ t.lane x.peer = s.lane x.peer ∧ t.brg = s.brg ∧ t.pending = s.pending) ∧
    ((s.lane x).parked = true → (s.lane x).power.wakeStep = 2 → 
      yieldsLane x (.wakeRegulatorsReady x) s fun l => l = { (s.lane x) with power := { (s.lane x).power with wakeStep := 3 } }) ∧
    ((s.lane x).parked = true → (s.lane x).power.wakeStep = 3 → 
      yieldsLane x (.wakeReferenceReady x) s fun l => l.power = { (s.lane x).power with wakeStep := 4 } ∧ l.get F.CLK_CLKSTAT_XTALOK = 1 ∧
        sameRegs (s.lane x) l (fun w => w = R.CLK_CLKSTAT) ∧ l.mem = (s.lane x).mem) ∧
    ((s.lane x).parked = true → (s.lane x).power.wakeStep = 4 → 
      yieldsLane x (.wakePllLock x) s fun l => l.power = { (s.lane x).power with wakeStep := 5 } ∧ l.get F.CLK_CLKSTAT_LOCK = 7 ∧
        sameRegs (s.lane x) l (fun w => w = R.CLK_CLKSTAT) ∧ l.mem = (s.lane x).mem) ∧
    ((s.lane x).parked = true → (s.lane x).power.wakeStep = 3 → 
      yieldsLane x (.referenceCrystalTimeout x) s fun l => l.power = { (s.lane x).power with wakeStep := 4 } ∧ l.get F.CLK_CLKSTAT_XTALFB = 1 ∧
        l.get F.CLK_CLKSTAT_XTALOK = 0 ∧ l.get F.PWR_WAKESTAT_XTALFB = 1 ∧ l.get F.CLK_CLKSTAT_XTALCNT = min ((s.lane x).get F.CLK_CLKSTAT_XTALCNT + 1) (2 ^ F.CLK_CLKSTAT_XTALCNT.width - 1) ∧ l.mem = (s.lane x).mem) ∧
    ((s.lane x).alive = true → (s.lane x).get F.CLK_CLKSTAT_XTALFB = 0 → (s.lane x).get (F.FLT_SSTAT_LIVE 10) = 0 → 
      yieldsLane x (.referenceCrystalStop x) s fun l => l.get F.CLK_CLKSTAT_XTALFB = 1 ∧ l.get F.CLK_CLKSTAT_XTALOK = 0 ∧
        l.events = (s.lane x).events ++ [⟨10, 0⟩] ∧ l.get (F.FLT_SSTAT_LIVE 10) = 1 ∧ l.power = (s.lane x).power ∧ l.mem = (s.lane x).mem) ∧
    ((s.lane x).parked = true → (s.lane x).power.wakeStep = 2 → 
      yieldsLane x (.wakeFailed x) s fun l => l.power = { (s.lane x).power with wakeStep := 0, wakeSrc := 0 } ∧ l.get F.PWR_WAKESTAT_WAKEFAIL = 1 ∧
        l.get F.PWR_WAKESTAT_STEP = 1 ∧ l.get F.PWR_WAKESTAT_FAILCNT = min ((s.lane x).get F.PWR_WAKESTAT_FAILCNT + 1) (2 ^ F.PWR_WAKESTAT_FAILCNT.width - 1) ∧ l.mem = (s.lane x).mem) ∧
    ((s.lane x).parked = true → (s.lane x).power.wakeStep = 5 → (s.lane x).power.retainNone = true → (s.lane x).power.feedUv = false → (s.lane x).power.held = false → 
      yields (.wakeMemoriesDone x 0 0) s fun t =>
        (t.lane x).parked = false ∧ (t.lane x).power.held = true ∧ (t.lane x).get F.PWR_RSTCAUSE_KIND = Rst.wake ∧
        (0x10000000 ≤ a → a < 0x14000000 → (t.lane x).byte a = 0) ∧ (t.lane x.peer).mem = (s.lane x.peer).mem ∧ t.brg = s.brg ∧ t.pending = s.pending) ∧
    ((s.lane x).alive = true → 1 ≤ k.val → k.val ≤ 9 → 
      yieldsLane x (.clockMonitorExcursion x k z) s fun l =>
        l.get ⟨R.CLK_MONSTAT, k.val, 1⟩ = bit z ∧ (z = true → l.get (F.FLT_SSTAT_LIVE 12) = 1) ∧ l.power = (s.lane x).power ∧ l.mem = (s.lane x).mem) ∧
    ((s.lane x).takes R.PWR_RSTCMD = true → 
      yields (.rstcmdLane x) s fun t =>
        (t.lane x).power.held = true ∧ (t.lane x).power.boot = .none ∧ (t.lane x).get F.PWR_RSTCAUSE_KIND = Rst.lane ∧
        (t.lane x).get F.PWR_RSTCAUSE_LSRC = 1 ∧ (0x10000000 ≤ a → a < 0x14000000 → (t.lane x).byte a = (s.lane x).byte a) ∧
        (0x20000000 ≤ a → a < 0x20048000 → (t.lane x).byte a = 0) ∧ t.brg = s.brg ∧ t.pending = s.pending) ∧
    ((s.lane x).takes R.PWR_RSTCMD = true → (s.lane x).uncached = true → 
      yields (.rstcmdWarm x) s fun t =>
        (t.lane x).power.held = true ∧ (t.lane x).get F.PWR_RSTCAUSE_KIND = Rst.warm ∧ (t.lane x).mem = (s.lane x).mem ∧
        (t.lane x).dm = (s.lane x).dm ∧ t.brg = s.brg ∧ t.pending = s.pending)

/-- R444: a voltage or frequency write that keeps the pair legal and finds the rail settled is taken, any other is refused
and recorded. R446: PEERWAKE wakes the other lane. R450: a lost-bank bit is cleared by writing 1. -/
def Obligations.OperatingPoints : Prop :=
  ∀ (s : State) (x : Lane) (n : Nat) (v : Word) (i : Fin 32),
    (s.lane x).alive = true →
    ((s.lane x).blockFenced R.CLK_CORECLK = false → v = BitVec.ofNat 32 n → n < 4 → (s.lane x).get F.PWR_COREV_VSEL ≤ n → (s.lane x).get F.PWR_VSTAT_SETTLED = 1 → 
      yieldsLane x (.fselWrite x v) s fun l => l.get F.CLK_CORECLK_FSEL = n ∧ l.get F.CLK_CLKSTAT_FBUSY = 1 ∧
        sameRegs (s.lane x) l (fun a => a = R.CLK_CORECLK ∨ a = R.CLK_CLKSTAT) ∧ l.power = (s.lane x).power ∧ l.mem = (s.lane x).mem) ∧
    ((s.lane x).blockFenced R.CLK_CORECLK = false → v = BitVec.ofNat 32 n → n < 4 → n < (s.lane x).get F.PWR_COREV_VSEL → 
      yieldsLane x (.fselWrite x v) s fun l => l.get F.CLK_CORECLK_FSEL = (s.lane x).get F.CLK_CORECLK_FSEL ∧ l.get (F.ignWr P.CLK) = 1 ∧
        l.get F.PWR_OPREF_COUNT = min ((s.lane x).get F.PWR_OPREF_COUNT + 1) (2 ^ F.PWR_OPREF_COUNT.width - 1) ∧ l.get F.PWR_OPREF_VAL = n ∧ l.get F.PWR_OPREF_REG = 0 ∧
        l.get F.PWR_OPREF_OTHER = (s.lane x).get F.PWR_COREV_VSEL ∧ l.mem = (s.lane x).mem) ∧
    ((s.lane x).blockFenced R.PWR_COREV = false → v = BitVec.ofNat 32 n → n < 4 → n ≤ (s.lane x).get F.CLK_CORECLK_FSEL → (s.lane x).get F.PWR_VSTAT_SETTLED = 1 → 
      yieldsLane x (.vselWrite x v) s fun l => l.get F.PWR_COREV_VSEL = n ∧
        l.get F.PWR_VSTAT_SETTLED = (if n = (s.lane x).get F.PWR_VSTAT_CURV then 1 else 0) ∧ l.power = (s.lane x).power ∧ sameRegs (s.lane x) l (inPage P.PWR) ∧ l.mem = (s.lane x).mem) ∧
    ((s.lane x).get F.PWR_VSTAT_SETTLED = 0 → 
      yieldsLane x (.coreRailSettled x) s fun l => l.get F.PWR_VSTAT_SETTLED = 1 ∧ l.get F.PWR_VSTAT_CURV = (s.lane x).get F.PWR_COREV_VSEL ∧ l.power = (s.lane x).power ∧ sameRegs (s.lane x) l (inPage P.PWR) ∧ l.mem = (s.lane x).mem) ∧
    ((s.lane x).get F.CLK_CLKSTAT_FBUSY = 1 → 
      yieldsLane x (.frequencySwitchComplete x) s fun l => l.get F.CLK_CLKSTAT_FBUSY = 0 ∧ l.get F.CLK_CLKSTAT_CURF = (s.lane x).get F.CLK_CORECLK_FSEL ∧
        sameRegs (s.lane x) l (inPage P.CLK) ∧ l.power = (s.lane x).power ∧ l.mem = (s.lane x).mem) ∧
    (v.toNat % 256 = 0xA5 → (s.lane x).takes R.PWR_PEERWAKE = true → (s.lane x.peer).parked = true → (s.lane x.peer).get F.PWR_WAKEEN_EN / 2 ^ 7 % 2 = 1 → (s.lane x.peer).power.wakeStep = 0 → 
      yields (.peerwake x v) s fun t => (t.lane x.peer).power = { (s.lane x.peer).power with wakeStep := 2, wakeSrc := 128 } ∧
        (t.lane x).mem = (s.lane x).mem ∧ t.brg = s.brg ∧ t.pending = s.pending) ∧
    ((s.lane x).blockFenced R.PWR_LOSTBANK_L = false → v = BitVec.ofNat 32 (2 ^ i.val) → (s.lane x).fencedBy (.bank i.val) = false → 
      yieldsLane x (.lostbankClear x false v) s fun l =>
        l.rd R.PWR_LOSTBANK_L = (s.lane x).rd R.PWR_LOSTBANK_L &&& ~~~v ∧ l.rd R.PWR_LOSTBANK_H = (s.lane x).rd R.PWR_LOSTBANK_H ∧ l.events = (s.lane x).events ∧
        l.power = (s.lane x).power ∧ l.mem = (s.lane x).mem)

/-- R452, R467: a released lane runs start-up to the choice of its path; R468: a STALE record and a WARM reset skip Kiln.
R465: one lane is granted the load, whose end raises LOADED and locks the pages. R469: a failed start-up enters
service mode. -/
def Obligations.StartUpOfALane : Prop :=
  ∀ (s : State) (x : Lane) (c : Nat),
    ((s.lane x).power.held = true → (s.lane x).power.feedOn = true → (s.lane x).power.feedUv = true → (s.lane x).power.tst = false → (s.lane x).power.kilnWire = false → (s.lane x).power.railsOff = false → (s.lane x).power.boot = .none → krecState (s.lane x).krec = KSt.stale → (s.lane x).get F.PWR_RSTCAUSE_KIND = Rst.warm → 
      yields (.resetRelease x) s fun t =>
        (t.lane x).alive = true ∧ (t.lane x).power = { (s.lane x).power with held := false, boot := .image } ∧ (t.lane x).get F.SYS_BOOTSTAT_PATH = 0 ∧
        (t.lane x).get F.CLK_CLKSTAT_LOCK = 7 ∧ (t.lane x).get F.KILN_KREC_RSTATE = KSt.stale ∧ (t.lane x).mem = (s.lane x).mem ∧ (t.lane x.peer).mem = (s.lane x.peer).mem ∧ t.brg = s.brg ∧ t.pending = s.pending) ∧
    ((s.lane x).power.held = true → (s.lane x).power.feedOn = true → (s.lane x).power.feedUv = true → (s.lane x).power.tst = false → (s.lane x).power.kilnWire = false → (s.lane x).power.railsOff = false → (s.lane x).power.boot = .none → krecState (s.lane x).krec = KSt.failed → (s.lane x).get F.PWR_RSTCAUSE_KIND = Rst.lane → 
      yields (.resetRelease x) s fun t =>
        (t.lane x).power = { (s.lane x).power with kilnWire := true, boot := .failed Fail.kiln } ∧ (t.lane x).get (F.FLT_SSTAT_LIVE 134) = 1 ∧
        t.brg = s.brg ∧ t.pending = s.pending) ∧
    (s.bed.grant = none → s.bedrockRuns = true → s.bed.get F.BSYS_BCFG_LOADED = 0 → s.a.boot = .load → s.laneStatus .A = Stat.boot → s.a.mySections s.a.slotApplied Sec.bedrock ≠ [] → s.a.bedrockEntries = [] → 
      yields (.bedrockLoadGrant true false) s fun t => t = { s with bed := { s.bed with grant := some .A } }) ∧
    (s.bed.grant = some x → s.bedrockRuns = true → (s.lane x).boot = .load → s.laneStatus x = Stat.boot → 
      yields .bedrockLoadDone s fun t =>
        t.bed.get F.BSYS_BCFG_LOADED = 1 ∧ t.bed.grant = none ∧ (∀ p, p ∈ bedPages → t.bed.get (F.locked p) = 1) ∧
        ((t.lane x).boot = .load ∨ (t.lane x).boot = .failed Fail.clamp) ∧ t.pending = s.pending ∧ (t.lane x).mem = (s.lane x).mem) ∧
    (s.bed.grant = some x → s.laneStatus x = Stat.lost → (s.lane x.peer).boot ≠ .load → 
      yields .bedrockLoadHolderLoss s fun t =>
        t.bed.grant = none ∧ (∀ d, d < 8 → t.bed.rd (R.BLEASE_LCFG d) = ({ s.bed.regs with tab := [] } : RegFile).rd (R.BLEASE_LCFG d)) ∧
        t.a = s.a ∧ t.b = s.b ∧ t.brg = s.brg ∧ t.pending = s.pending) ∧
    ((s.lane x).power.railsOff = false → (s.lane x).boot = .failed c → 1 ≤ c → c ≤ 4 → 
      yieldsLane x (.startUpFailure x false) s fun l =>
        l.boot = .service ∧ l.get F.SYS_BOOTSTAT_FAIL = c ∧ l.get F.SYS_BOOTSTAT_SERVICE = 1 ∧ l.get (F.HSPI_HWBASE_BASE 0) = P.SYS / 4096 ∧
        l.get (F.HSPI_HWCFG_RD 0) = 1 ∧ l.get (F.HSPI_HWCFG_WR 1) = 1 ∧ l.dm = .reset ∧ sameBytes (s.lane x) l (fun a => 0x1000 ≤ a ∧ a < 0x1100)) ∧
    ((s.lane x).power.railsOff = false → (s.lane x).boot = .load → 
      yieldsLane x (.startUpFailure x true) s fun l =>
        l = { (s.lane x) with power := { (s.lane x).power with boot := .failed 0, held := true } })

/-- R460: a programming command stores its doubleword unless another is busy or the address is protected, and completes
later. R473, R474: the slices run in order; a failing block ends its slice with FAIL and the portion with it. -/
def Obligations.MramAndKiln : Prop :=
  ∀ (s : State) (x : Lane) (us k : Nat) (m : Word) (a : Nat),
    ((s.lane x).takes R.SYS_MPCMD = true → (s.lane x).get F.SYS_MPSTAT_BUSY = 0 → (s.lane x).get F.SYS_MPADDR_ADDR = a → 0x2000 ≤ a → a % 8 = 0 → a + 8 ≤ 0x1000000 → (s.lane x).mramRefuses a = false → 
      yieldsLane x (.mramProgram x .xfr 0x9601) s fun l =>
        l.dword a = (s.lane x).rd R.SYS_MPDATA_H ++ (s.lane x).rd R.SYS_MPDATA_L ∧ l.get F.SYS_MPSTAT_BUSY = 1 ∧ l.response .xfr = .done ∧
        sameBytes (s.lane x) l (fun b => a ≤ b ∧ b < a + 8) ∧ l.power = (s.lane x).power) ∧
    ((s.lane x).takes R.SYS_MPCMD = true → (s.lane x).get F.SYS_MPSTAT_BUSY = 0 → (s.lane x).get F.SYS_MPADDR_ADDR = a → (s.lane x).mramRefuses a = true → 
      yieldsLane x (.mramProgram x .xfr 0x9601) s fun l =>
        l.get F.SYS_MPSTAT_RESULT = 2 ∧ l.get F.SYS_MPSTAT_BUSY = 0 ∧ l.response .xfr = .done ∧ l.mem = (s.lane x).mem) ∧
    ((s.lane x).alive = true → (s.lane x).get F.SYS_MPSTAT_BUSY = 1 → 
      yieldsLane x (.mramProgramComplete x) s fun l =>
        l.get F.SYS_MPSTAT_BUSY = 0 ∧ l.get F.SYS_MPSTAT_RESULT = 1 ∧ l.get F.SYS_MPSTAT_COUNT = min ((s.lane x).get F.SYS_MPSTAT_COUNT + 1) (2 ^ F.SYS_MPSTAT_COUNT.width - 1) ∧
        sameRegs (s.lane x) l (fun a => a = R.SYS_MPSTAT) ∧ l.mem = (s.lane x).mem) ∧
    ((s.lane x).get F.KILN_KSTAT_STATE ≠ 0 → (s.lane x).power.kilnFail = none → 
      yieldsLane x (.kilnBlockComplete x true m) s fun l =>
        l.get F.KILN_KSTAT_STATE = 2 ∧ l.get F.KILN_KSTAT_BLOCK = ((s.lane x).get F.KILN_KSTAT_BLOCK + 1) % 2 ^ F.KILN_KSTAT_BLOCK.width ∧ l.power = (s.lane x).power ∧ l.mem = (s.lane x).mem) ∧
    ((s.lane x).get F.KILN_KSTAT_STATE ≠ 0 → (s.lane x).power.kilnFail = none → 
      yieldsLane x (.kilnBlockComplete x false m) s fun l =>
        l.power = { (s.lane x).power with kilnFail := some m } ∧ l.get F.KILN_KSTAT_STATE = (if (s.lane x).power.entry = 3 then 4 else 3) ∧ l.mem = (s.lane x).mem) ∧
    ((s.lane x).get F.KILN_KSTAT_STATE ≠ 0 → (s.lane x).power.entry = 3 → (s.lane x).power.kilnFail = none → (s.lane x).get F.KILN_KSTAT_SLICE = k → k < 63 → 
      yieldsLane x (.kilnSliceComplete x us) s fun l =>
        l.get F.KILN_KSTAT_SLICE = k + 1 ∧ l.get F.KILN_KSTAT_STATE = 1 ∧ l.get F.KILN_KSTAT_BLOCK = 0 ∧ l.power = (s.lane x).power ∧
        l.get ⟨R.KILN_KSLICE (k / 16), 2 * (k % 16), 2⟩ = 1 ∧ l.rd R.KILN_KTIME = BitVec.ofNat 32 us ∧ sameBytes (s.lane x) l (fun a => 0x1000 ≤ a ∧ a < 0x1100)) ∧
    ((s.lane x).get F.KILN_KSTAT_STATE ≠ 0 → (s.lane x).power.entry = 3 → (s.lane x).power.kilnFail = some m → (s.lane x).get F.KILN_KSTAT_SLICE = k → 
      yieldsLane x (.kilnSliceComplete x us) s fun l =>
        l.pstate = PSt.parkwait ∧ l.power = { (s.lane x).power with entry := 0, parkReady := true, kilnFail := none } ∧ l.get F.KILN_KSTAT_STATE = 0 ∧
        l.rd R.KILN_KFAILMISR = m ∧ l.get ⟨R.KILN_KSLICE (k / 16), 2 * (k % 16), 2⟩ = 2 ∧ sameBytes (s.lane x) l (fun a => 0x1000 ≤ a ∧ a < 0x1100))

/-- R399, R400: an event makes its source ACTIVE, is logged, and enters the bucket. R403: one under a shadow only
activates and is logged. R404: FENCE isolates the unit; R407: LANE_DOWN raises the flag whose LANE reset follows;
R408: DEVICE_SAFE takes the device there. -/
def Obligations.LaneFaultEvents : Prop :=
  ∀ (s : State) (x : Lane) (k : BitVec 8) (u : Nat) (z : Bool) (o : Nat),
    ((s.lane x).alive = true → (s.lane x).get F.KILN_KSTAT_STATE = 0 → outerLasting k.toNat = false → srcReserved k.toNat = false → (s.lane x).get (F.FLT_SSTAT_MASKED k.toNat) = 0 → (s.lane x).opener k.toNat = none → (s.lane x).get (F.FLT_SRCCFG_ESC k.toNat) = 0 → (s.lane x).get (F.FLT_SRCCFG_CNTN k.toNat) = 0 → (s.lane x).get (F.FLT_SRCCFG_SEV k.toNat) ≤ Sev.warn → 
      yields (.faultSourceEvent x k.toNat u z true) s fun t =>
        (t.lane x).get (F.FLT_SSTAT_STATE k.toNat) = 1 ∧ (t.lane x).get (F.actBit k.toNat) = 1 ∧ (t.lane x).get (F.ackBit k.toNat) = 0 ∧
        (t.lane x).get (F.FLT_SSTAT_LEVEL k.toNat) = min ((s.lane x).bucket k.toNat + 1) 15 ∧ (t.lane x).fences = (s.lane x).fences ∧ (t.lane x).events = (s.lane x).events.erase ⟨k.toNat, u⟩ ∧
        (t.lane x).get F.FLT_LOGSTAT_NEXT = ((s.lane x).get F.FLT_LOGSTAT_NEXT + 1) % 64 ∧
        (t.lane x).rd (R.FLT_LOGT ((s.lane x).get F.FLT_LOGSTAT_NEXT)) = BitVec.ofNat 32 ((s.lane x).time s.nowUs) ∧
        (t.lane x).col.laneDown = (s.lane x).col.laneDown ∧ (t.lane x).mem = (s.lane x).mem ∧ (t.lane x.peer).mem = (s.lane x.peer).mem ∧ t.brg = s.brg ∧ t.pending = s.pending) ∧
    ((s.lane x).alive = true → (s.lane x).get F.KILN_KSTAT_STATE = 0 → outerLasting k.toNat = false → srcReserved k.toNat = false → (s.lane x).get (F.FLT_SSTAT_MASKED k.toNat) = 0 → (s.lane x).opener k.toNat = some o → 
      yields (.faultSourceEvent x k.toNat u z true) s fun t =>
        (t.lane x).get (F.FLT_SSTAT_STATE k.toNat) = 1 ∧ (t.lane x).get (F.actBit k.toNat) = 1 ∧ (t.lane x).get (F.ackBit k.toNat) = 0 ∧ (t.lane x).col.buckets = (s.lane x).col.buckets ∧ (t.lane x).fences = (s.lane x).fences ∧ (t.lane x).col.shadows = (s.lane x).col.shadows ∧
        (t.lane x).rd R.FLT_FIRST = (if z ∧ (s.lane x).col.firstNow then ((s.lane x).bump F.FLT_FIRST_SAME 1).rd R.FLT_FIRST else (s.lane x).rd R.FLT_FIRST) ∧ (t.lane x).mem = (s.lane x).mem ∧ (t.lane x.peer).mem = (s.lane x.peer).mem ∧ t.brg = s.brg ∧ t.pending = s.pending) ∧
    ((s.lane x).alive = true → (s.lane x).get F.KILN_KSTAT_STATE = 0 → outerLasting k.toNat = false → (s.lane x).get (F.FLT_SSTAT_MASKED k.toNat) = 1 → 
      yields (.faultSourceEvent x k.toNat u z true) s fun t =>
        t = (s.setLane x { (s.lane x) with events := (s.lane x).events.erase ⟨k.toNat, u⟩ }).capUpdate) ∧
    ((s.lane x).alive = true → (s.lane x).get F.KILN_KSTAT_STATE = 0 → outerLasting k.toNat = false → srcReserved k.toNat = false → (s.lane x).get (F.FLT_SSTAT_MASKED k.toNat) = 0 → (s.lane x).opener k.toNat = none → (s.lane x).get (F.FLT_SRCCFG_ESC k.toNat) = 0 → (s.lane x).get (F.FLT_SRCCFG_CNTN k.toNat) = 0 → k = 95 → (s.lane x).get (F.FLT_SRCCFG_SEV k.toNat) = Sev.fence → 
      yields (.faultSourceEvent x k.toNat u z true) s fun t =>
        (t.lane x).get (F.FLT_SSTAT_STATE k.toNat) = 1 ∧ (t.lane x).get (F.actBit k.toNat) = 1 ∧ (t.lane x).get (F.ackBit k.toNat) = 0 ∧ (95, FenceUnit.port 0) ∈ (t.lane x).fences ∧ (t.lane x).fencedBy (.port 0) = true ∧ 95 ∈ (t.lane x).col.shadows ∧
        (t.lane x).mem = (s.lane x).mem ∧ (t.lane x.peer).mem = (s.lane x.peer).mem ∧ t.brg = s.brg ∧ t.pending = s.pending) ∧
    ((s.lane x).alive = true → (s.lane x).get F.KILN_KSTAT_STATE = 0 → outerLasting k.toNat = false → srcReserved k.toNat = false → (s.lane x).get (F.FLT_SSTAT_MASKED k.toNat) = 0 → (s.lane x).opener k.toNat = none → (s.lane x).get (F.FLT_SRCCFG_ESC k.toNat) = 0 → (s.lane x).get (F.FLT_SRCCFG_CNTN k.toNat) = 0 → (s.lane x).get (F.FLT_SRCCFG_SEV k.toNat) = Sev.laneDown → 
      yields (.faultSourceEvent x k.toNat u z true) s fun t =>
        (t.lane x).get (F.FLT_SSTAT_STATE k.toNat) = 1 ∧ (t.lane x).get (F.actBit k.toNat) = 1 ∧ (t.lane x).get (F.ackBit k.toNat) = 0 ∧ (t.lane x).col.laneDown = true ∧ (t.lane x).mem = (s.lane x).mem ∧ (t.lane x.peer).mem = (s.lane x.peer).mem ∧ t.brg = s.brg ∧ t.pending = s.pending) ∧
    ((s.lane x).alive = true → (s.lane x).get F.KILN_KSTAT_STATE = 0 → outerLasting k.toNat = false → srcReserved k.toNat = false → (s.lane x).get (F.FLT_SSTAT_MASKED k.toNat) = 0 → (s.lane x).opener k.toNat = none → (s.lane x).get (F.FLT_SRCCFG_ESC k.toNat) = 0 → (s.lane x).get (F.FLT_SRCCFG_CNTN k.toNat) = 0 → (s.lane x).get (F.FLT_SRCCFG_SEV k.toNat) = Sev.deviceSafe → s.devState = Dev.idle → s.bedrockRuns = true → 
      yields (.faultSourceEvent x k.toNat u z true) s fun t =>
        (t.lane x).get (F.FLT_SSTAT_STATE k.toNat) = 1 ∧ (t.lane x).get (F.actBit k.toNat) = 1 ∧ (t.lane x).get (F.ackBit k.toNat) = 0 ∧ t.devState = Dev.safe ∧ t.bed.get F.BSYS_SAFECAUSE_CAUSE = 2 ∧ (t.lane x).col.laneDown = (s.lane x).col.laneDown) ∧
    ((s.lane x).col.laneDown = true → 
      yields (.laneDownReset x) s fun t =>
        (t.lane x).power.held = true ∧ (t.lane x).power.boot = .none ∧ (t.lane x).get F.PWR_RSTCAUSE_KIND = Rst.lane ∧
        (t.lane x).get F.PWR_RSTCAUSE_LSRC = 0 ∧ (t.lane x).col.laneDown = false ∧ (t.lane x).rd R.FLT_PFIRST = (s.lane x).rd R.FLT_FIRST ∧
        (t.lane x.peer).mem = (s.lane x.peer).mem ∧ t.brg = s.brg ∧ t.pending = s.pending)

/-- R400, R403: events leave the bucket and shadows end. R395: a pair that stays non-complementary masks its source. R411:
ACK and CLEAR change the source's state and post their result. R410: Bedrock's events are recorded and react by their
severity. -/
def Obligations.CollectorUpkeep : Prop :=
  ∀ (s : State) (x : Lane) (k : BitVec 8) (j : Fin 36) (w v : Word),
    ((s.lane x).bucket k.toNat ≤ 15 → 
      yieldsLane x (.bucketLeave x k) s fun l =>
        l.bucket k.toNat = (s.lane x).bucket k.toNat - 1 ∧ l.get (F.FLT_SSTAT_LEVEL k.toNat) = (s.lane x).bucket k.toNat - 1 ∧
        sameRegs (s.lane x) l (fun a => a = R.FLT_SSTAT k.toNat) ∧ l.mem = (s.lane x).mem) ∧
    (yieldsLane x (.shadowExpiry x k) s fun l =>
      k.toNat ∉ l.col.shadows ∧ (∀ o, o ≠ k.toNat → (o ∈ l.col.shadows ↔ o ∈ (s.lane x).col.shadows)) ∧ l.regs = (s.lane x).regs ∧ l.mem = (s.lane x).mem) ∧
    ((s.lane x).alive = true → srcReserved k.toNat = false → k ≠ 21 → (s.lane x).col.broken = [] → (s.lane x).get (F.FLT_SSTAT_LIVE 21) = 0 → 
      yieldsLane x (.wireFault x k) s fun l =>
        l.col.broken = [k.toNat] ∧ l.get (F.FLT_SSTAT_MASKED k.toNat) = 1 ∧ l.get F.FLT_WIRESTAT_SRC = k.toNat ∧ l.get F.FLT_WIRESTAT_NOW = 1 ∧
        l.get F.FLT_WIRESTAT_COUNT = min ((s.lane x).get F.FLT_WIRESTAT_COUNT + 1) 0xFFFF ∧ l.events = (s.lane x).events ++ [⟨21, k.toNat⟩] ∧ l.mem = (s.lane x).mem) ∧
    ((s.lane x).alive = true → (s.lane x).get (F.FLT_SSTAT_MASKED k.toNat) = 1 → (s.lane x).col.broken = [k.toNat] → (s.lane x).quiet 21 = true → k ≠ 21 → (s.lane x).get (F.FLT_SSTAT_LIVE k.toNat) = 0 → 
      yieldsLane x (.maskedEnd x k) s fun l =>
        l.col.broken = [] ∧ l.get (F.FLT_SSTAT_MASKED k.toNat) = 0 ∧ l.get F.FLT_WIRESTAT_NOW = 0 ∧ l.get (F.FLT_SSTAT_LIVE 21) = 0 ∧
        l.events = (s.lane x).events ∧ l.mem = (s.lane x).mem) ∧
    (yieldsLane x (.spineTokenTimeout x) s fun l => l = { (s.lane x) with events := (s.lane x).events ++ [⟨22, 0⟩] }) ∧
    (yieldsLane x (.laneLinkFaultReceived x w v) s fun l =>
      l.get F.FLT_PEERLAST_SRC = w.toNat % 2 ^ F.FLT_PEERLAST_SRC.width ∧ l.get F.FLT_PEERLAST_SEV = v.toNat % 2 ^ F.FLT_PEERLAST_SEV.width ∧
      l.get F.FLT_PEERLAST_COUNT = min ((s.lane x).get F.FLT_PEERLAST_COUNT + 1) 0xFFFF ∧ l.fences = (s.lane x).fences ∧ l.mem = (s.lane x).mem) ∧
    ((s.lane x).takes R.FLT_CLRCMD = true → (s.lane x).get (F.FLT_SSTAT_STATE k.toNat) = 1 → 
      yieldsLane x (.clrcmdAck x k) s fun l =>
        l.get (F.FLT_SSTAT_STATE k.toNat) = 2 ∧ l.get (F.ackBit k.toNat) = 1 ∧ l.get F.FLT_CLRSTAT_SRC = k.toNat ∧ l.get F.FLT_CLRSTAT_OP = 1 ∧
        l.get F.FLT_CLRSTAT_RESULT = 1 ∧ l.fences = (s.lane x).fences ∧ l.mem = (s.lane x).mem) ∧
    ((s.lane x).takes R.FLT_CLRCMD = true → (s.lane x).quiet k.toNat = true → 
      yieldsLane x (.clrcmdAck x k) s fun l =>
        l.get (F.FLT_SSTAT_STATE k.toNat) = 0 ∧ l.get F.FLT_CLRSTAT_RESULT = 3 ∧ l.get F.FLT_CLRSTAT_REFUSED = min ((s.lane x).get F.FLT_CLRSTAT_REFUSED + 1) 0xFFFF ∧
        l.fences = (s.lane x).fences ∧ l.mem = (s.lane x).mem) ∧
    ((s.lane x).takes R.FLT_CLRCMD = true → (s.lane x).quiet k.toNat = false → (s.lane x).get (F.FLT_SSTAT_LIVE k.toNat) = 0 → k ≠ 21 → 
      yields (.clrcmdClear x k) s fun t =>
        (t.lane x).quiet k.toNat = true ∧ (t.lane x).get (F.FLT_SSTAT_ACTSEV k.toNat) = 0 ∧ (t.lane x).get (F.actBit k.toNat) = 0 ∧
        (t.lane x).fences = (s.lane x).fences.filter (fun e => e.1 ≠ k.toNat) ∧ (t.lane x).get F.FLT_CLRSTAT_RESULT = 1 ∧ (t.lane x).mem = (s.lane x).mem ∧ (t.lane x.peer).mem = (s.lane x.peer).mem ∧ t.brg = s.brg ∧ t.pending = s.pending) ∧
    (s.bedrockRuns = true → j.val ∉ s.bed.wires → s.bedSev j.val < Sev.fence → s.bed.get (F.bedAct j.val) = 1 → 
      yields (.bedrockFaultEvent j.val none ⟨false, true⟩) s fun t =>
        t.bed.get (F.bedAct j.val) = 1 ∧ t.bed.get (F.bedAck j.val) = 0 ∧ t.bed.rd R.BFLT_FIRST = s.bed.rd R.BFLT_FIRST ∧
        t.bed.events = s.bed.events.erase ⟨j.val, none⟩ ∧ t.devState = s.devState ∧ t.a.events = s.a.events ∧ t.a.mem = s.a.mem ∧ t.b.mem = s.b.mem ∧
        t.brg = s.brg ∧ t.pending = s.pending) ∧
    (s.bedrockRuns = true → j.val ∉ s.bed.wires → s.bedSev j.val = Sev.fence → 
      yields (.bedrockFaultEvent j.val (some x) ⟨false, true⟩) s fun t =>
        t.bed.get (F.bedAct j.val) = 1 ∧ ⟨23, 0⟩ ∈ (t.lane x).events ∧ t.devState = s.devState ∧ (t.lane x).mem = (s.lane x).mem ∧ (t.lane x.peer).mem = (s.lane x.peer).mem ∧ t.brg = s.brg ∧ t.pending = s.pending)

/-- R423, R431: enabling a channel makes it fetch, a kick wakes an idle one, EN = 0 stops it. R420: an owned descriptor
becomes active, and when its bytes have moved it is written back with OWN clear. R429: a bus error makes it bad. -/
def Obligations.TransferEngineChannels : Prop :=
  ∀ (s : State) (x : Lane) (c : Fin 16) (n : Nat) (lats : List Nat),
    (s.lane x).alive = true →
    ((s.lane x).takes (R.XFR_CHCTRL c.val) = true → (s.lane x).get (F.XFR_CHCTRL_EN c.val) = 0 → (s.lane x).get (F.run P.XFR) = 1 → ((s.lane x).xchan c.val).desc = none → 
      yieldsLane x (.channelEnable x c 1) s fun l =>
        l.chnState c.val = Chn.fetch ∧ l.get (F.XFR_CHCTRL_EN c.val) = 1 ∧ (∀ k, k < 16 → k ≠ c.val → l.chnState k = (s.lane x).chnState k) ∧ l.mem = (s.lane x).mem) ∧
    ((s.lane x).takes (R.XFR_CHCTRL c.val) = true → (s.lane x).get (F.XFR_CHCTRL_EN c.val) = 1 → (s.lane x).chnState c.val ≠ Chn.active → 
      yieldsLane x (.channelDisable x c 0 n) s fun l =>
        l.chnState c.val = Chn.stopped ∧ l.get (F.XFR_CHCTRL_EN c.val) = 0 ∧ l.xchan c.val = ((s.lane x).xchan c.val) ∧ l.mem = (s.lane x).mem) ∧
    ((s.lane x).takes (R.XFR_CHKICK c.val) = true → (s.lane x).chnState c.val = Chn.idle → 
      yieldsLane x (.chkick x c 1) s fun l => l.chnState c.val = Chn.fetch ∧ l.rd (R.XFR_CHKICK c.val) = 0 ∧ l.xfr = (s.lane x).xfr ∧ l.mem = (s.lane x).mem) ∧
    ((s.lane x).chnOn c.val = true → (s.lane x).chnState c.val = Chn.fetch → (s.lane x).alive = true → ((s.lane x).rd (R.XFR_CHRBASE c.val)).toNat = 0x10000000 → (s.lane x).get (F.XFR_CHSTAT_IDX c.val) = 0 → (s.lane x).heldU 0x10000000 32 = false → (List.range 8).map (fun i => (s.lane x).dmaWord (0x10000000 + 4 * i)) = copyDesc n → 1 ≤ n → n < 4097 → 
      yieldsLane x (.descriptorFetchComplete x ⟨c, false, lats⟩) s fun l =>
        l.chnState c.val = Chn.active ∧ (l.xchan c.val).desc = some (copyDesc n) ∧ (l.xchan c.val).home = 0x10000000 ∧ (l.xchan c.val).cause = 0 ∧
        l.get (F.XFR_CHPOS_DONE c.val) = 0 ∧ l.mem = (s.lane x).mem) ∧
    ((s.lane x).chnOn c.val = true → (s.lane x).chnState c.val = Chn.fetch → (s.lane x).alive = true → ((s.lane x).rd (R.XFR_CHRBASE c.val)).toNat = 0x10000000 → (s.lane x).get (F.XFR_CHSTAT_IDX c.val) = 0 → (s.lane x).heldU 0x10000000 32 = false → ((s.lane x).dmaWord 0x1000001C).getLsbD 31 = false → ((s.lane x).xchan c.val).kick = false → 
      yieldsLane x (.descriptorFetchComplete x ⟨c, false, lats⟩) s fun l => l.chnState c.val = Chn.idle ∧ l.xfr = (s.lane x).xfr ∧ l.mem = (s.lane x).mem) ∧
    ((s.lane x).chnOn c.val = true → (s.lane x).chnState c.val = Chn.active → ((s.lane x).xchan c.val).desc = some (copyDesc 8) → ((s.lane x).xchan c.val).cause = 0 → ((s.lane x).xchan c.val).home = 0x10000000 → (s.lane x).get (F.XFR_CHPOS_DONE c.val) = 0 → (s.lane x).uncached = true → 
      yieldsLane x (.descriptorWriteBack x ⟨c, lats⟩) s fun l =>
        l.dword 0x10002000 = (s.lane x).dword 0x10001000 ∧ l.dmaWord 0x10000014 = 8 ∧ l.dmaWord 0x10000018 = 0 ∧ l.dmaWord 0x1000001C = BitVec.ofNat 32 (((s.lane x).xchan c.val).extra * 2 ^ 16) ∧
        l.chnState c.val = Chn.fetch ∧ (l.xchan c.val).desc = none ∧ l.get (F.XFR_CHCNT_OK c.val) = min ((s.lane x).get (F.XFR_CHCNT_OK c.val) + 1) 0xFFFF ∧
        l.get (F.XFR_CHSTAT_IDX c.val) = ((s.lane x).get (F.XFR_CHSTAT_IDX c.val) + 1) % max 1 ((s.lane x).get (F.XFR_CHRLEN_N c.val)) ∧
        sameBytes (s.lane x) l (fun a => (0x10002000 ≤ a ∧ a < 0x10002008) ∨ (0x10000014 ≤ a ∧ a < 0x10000020))) ∧
    ((s.lane x).chnOn c.val = true → (s.lane x).chnState c.val = Chn.waitReq → ((s.lane x).xchan c.val).desc = some ((copyDesc 16).set 4 0x300) → ((s.lane x).xchan c.val).cause = 0 → (s.lane x).get (F.XFR_CHPOS_DONE c.val) = 0 → 3 ∈ (s.lane x).xfr.latch → (s.lane x).uncached = true → 
      yields (.pacedBurstGrant x c ⟨false, lats⟩) s fun t =>
        (t.lane x).dword 0x10002000 = (s.lane x).dword 0x10001000 ∧ (t.lane x).get (F.XFR_CHPOS_DONE c.val) = 8 ∧ (t.lane x).chnState c.val = Chn.waitReq ∧
        3 ∉ (t.lane x).xfr.latch ∧ sameBytes (s.lane x) (t.lane x) (fun a => 0x10002000 ≤ a ∧ a < 0x10002008) ∧
        t.lane x.peer = s.lane x.peer ∧ t.bed = s.bed ∧ t.brg = s.brg ∧ t.pending = s.pending) ∧
    ((s.lane x).chnOn c.val = true → (s.lane x).chnState c.val = Chn.active → ((s.lane x).xchan c.val).desc = some (copyDesc 16) → ((s.lane x).xchan c.val).cause = 0 → (s.lane x).get (F.XFR_CHPOS_DONE c.val) = 0 → 
      yields (.transferBusError x c 0 true) s fun t =>
        (t.lane x).xchan c.val = { ((s.lane x).xchan c.val) with cause := Cse.srcErr } ∧ (t.lane x).chnState c.val = Chn.active ∧
        (t.lane x).events = (s.lane x).events ++ [⟨70, 0⟩] ∧ (t.lane x).mem = (s.lane x).mem ∧ t.lane x.peer = s.lane x.peer ∧ t.bed = s.bed ∧ t.brg = s.brg ∧ t.pending = s.pending)

/-- R485: enabling loads every LFSR and chooses an interval; the tag is put when the countdown ends. R486: a retired
tagged instruction appends its record, a squashed one is skipped; SMPACK removes the oldest. R488: HISTCLR clears a
unit. -/
def Obligations.PerformanceMonitor : Prop :=
  ∀ (s : State) (x : Lane) (p : Fin 4) (n : Nat) (m : Sampler) (pc : BitVec 40) (v : Word),
    (s.lane x).alive = true →
    (s.lane x).blockFenced P.PMU = false →
    ((s.lane x).takes R.PMU_SMPCTL = true → (s.lane x).get F.PMU_SMPCTL_EN = 0 → 
      yieldsLane x (.samplerEnable x 0xF1) s fun l =>
        l.get F.PMU_SMPCTL_EN = 1 ∧ l.sampler p.val = some ((s.lane x).pickInterval ⟨(s.lane x).get F.PMU_SMPSEED_SEED, 0, false, false⟩) ∧ l.pmu.recs = (s.lane x).pmu.recs ∧ l.mem = (s.lane x).mem) ∧
    ((s.lane x).get F.PMU_SMPCTL_EN = 1 → (s.lane x).get F.PMU_SMPCTL_HARTS / 2 ^ p.val % 2 = 1 → (s.lane x).sampler p.val = some m → m.flight = false → 
      yieldsLane x (.sampleTag x p) s fun l =>
        l.sampler p.val = some { (s.lane x).pickInterval m with flight := true, inReplay := ((s.lane x).pair p.val).replay } ∧ l.regs = (s.lane x).regs ∧
        l.pmu.recs = (s.lane x).pmu.recs ∧ l.mem = (s.lane x).mem) ∧
    ((s.lane x).get F.PMU_SMPCTL_EN = 1 → (s.lane x).get F.PMU_SMPCTL_HARTS / 2 ^ p.val % 2 = 1 → (s.lane x).sampler p.val = some m → m.flight = true → 
      yieldsLane x (.sampleTag x p) s fun l =>
        l.sampler p.val = some ((s.lane x).pickInterval m) ∧ l.get F.PMU_SMPSKIP_COUNT = min ((s.lane x).get F.PMU_SMPSKIP_COUNT + 1) 0xFFFFFFFF ∧ l.pmu.recs = (s.lane x).pmu.recs ∧ l.mem = (s.lane x).mem) ∧
    ((s.lane x).sampler p.val = some m → m.flight = true → (s.lane x).pmu.recs.length < 256 → pc.toNat < 2 ^ 32 → 
      yieldsLane x (.sampleRecordAppend x p true pc 0 0 v 7 8) s fun l =>
        (l.pmu.recs.map fun r => r.w0) = ((s.lane x).pmu.recs.map fun r => r.w0) ++ [pc.setWidth 32] ∧ l.get F.PMU_SMPSTAT_COUNT = (s.lane x).pmu.recs.length + 1 ∧
        l.sampler p.val = some { m with flight := false } ∧ l.mem = (s.lane x).mem) ∧
    ((s.lane x).sampler p.val = some m → m.flight = true → 
      yieldsLane x (.sampleRecordAppend x p false pc 0 0 v 7 8) s fun l =>
        l.pmu.recs = (s.lane x).pmu.recs ∧ l.get F.PMU_SMPSKIP_COUNT = min ((s.lane x).get F.PMU_SMPSKIP_COUNT + 1) 0xFFFFFFFF ∧ l.sampler p.val = some { m with flight := false } ∧ l.mem = (s.lane x).mem) ∧
    ((s.lane x).takes R.PMU_SMPACK = true → v = BitVec.ofNat 32 n → n ≤ 256 → (s.lane x).pmu.recs.length ≤ 256 → 
      yieldsLane x (.smpack x v) s fun l =>
        l.pmu.recs = (s.lane x).pmu.recs.drop n ∧ l.get F.PMU_SMPSTAT_COUNT = (s.lane x).pmu.recs.length - n ∧ l.pmu.samplers = (s.lane x).pmu.samplers ∧ l.mem = (s.lane x).mem) ∧
    ((s.lane x).takes (R.PMU_HISTCLR p.val) = true → 
      yieldsLane x (.histclr x p 1) s fun l =>
        (∀ b, b < 16 → l.get (F.PMU_BIN_COUNT p.val b) = 0) ∧ l.get (F.PMU_HISTSTAT_SAT p.val) = 0 ∧ l.get (F.PMU_HISTSTAT_MISSED p.val) = 0 ∧
        l.pmu = (s.lane x).pmu ∧ l.mem = (s.lane x).mem)

/-- For every state, reached by a run or not: if both lanes' memories are in canonical form and each lane die is the lane
of its place, every step leaves them so. (The canonical form is the model's own: addresses strictly rising, no entry
equal to what an unlisted address reads as, log entry 7.) -/
def Obligations.MemoryAndLanesInvariant : Prop :=
  ∀ s t : State, s.memWf = true → s.ownLanes → step s = .next t → t.memWf = true ∧ t.ownLanes

/-- R44: while Bedrock is powered and the device is in DEVICE_SAFE, every step, whichever command it runs and whichever
lane or request it comes from, leaves the device in DEVICE_SAFE or takes it to OFF: Bedrock unpowered and both feeds
below their power-on threshold. -/
def Obligations.DeviceSafeIsLeftOnlyThroughOff : Prop :=
  ∀ s t : State, s.bed.on = true → s.devState = Dev.safe → step s = .next t →
    t.devState = Dev.safe ∨ (t.bed.on = false ∧ t.a.power.feedOn = false ∧ t.b.power.feedOn = false)
end

