-- ==== Sys2Proof/Laws/Table.lean ====
section
/-!
SUPPORT. Sparse maps: a read after a write, and the canonical form under every operation. A list without key `k` is written
`Table.lacks t k`.
-/
namespace Sys2Proof.Machine

variable {V : Type} (d : Nat → V)

/-- Key `k` is not listed. -/
def Table.lacks (t : Table V) (k : Nat) : Prop := ∀ e ∈ t, e.1 ≠ k

theorem Table.lacks_erase (t : Table V) (k : Nat) : (Table.erase t k).lacks k := fun e he => by
  simpa using (List.mem_filter.mp he).2

theorem Table.get_lacks (t : Table V) (k : Nat) (h : t.lacks k) : Table.get d t k = d k := by
  fun_induction Table.get d t k with
  | case1 => rfl
  | case2 v r => exact absurd rfl (h _ List.mem_cons_self)
  | case3 _ _ _ _ ih => exact ih fun e he => h e (List.mem_cons_of_mem _ he)

theorem Table.get_erase (t : Table V) (k j : Nat) (h : j ≠ k) :
    Table.get d (Table.erase t k) j = Table.get d t j := by
  fun_induction Table.get d t j with
  | case1 => rfl
  | case2 v r => simp [Table.erase, List.filter, h, Table.get]
  | case3 i v r hi ih =>
    rw [← ih]
    by_cases hk : i = k <;> simp [Table.erase, List.filter, hk, Table.get, hi]

theorem Table.get_put (t : Table V) (k j : Nat) (v : V) (h : t.lacks k) :
    Table.get d (Table.put t k v) j = if j = k then v else Table.get d t j := by
  fun_induction Table.put t k v
  all_goals simp_all [Table.get, Table.lacks, eq_comm (a := j)]
  grind

/-- A read after a write. -/
theorem Table.get_set [DecidableEq V] (t : Table V) (k j : Nat) (v : V) :
    Table.get d (Table.set d t k v) j = if j = k then v else Table.get d t j := by
  have gone := Table.lacks_erase t k
  rw [Table.set]
  split
  next hv =>
    split
    next hj => rw [hj, Table.get_lacks d _ _ gone, hv]
    next hj => exact Table.get_erase d t k j hj
  next =>
    rw [Table.get_put d _ _ _ _ gone]
    split
    next => rfl
    next hj => exact Table.get_erase d t k j hj

/-- The canonical form in words: keys that rise, and no entry equal to what an unlisted key reads as. -/
theorem Table.wf_iff [DecidableEq V] (t : Table V) :
    Table.wf d t = true ↔ t.Pairwise (fun e f => e.1 < f.1) ∧ ∀ e ∈ t, e.2 ≠ d e.1 := by
  fun_induction Table.wf d t <;> simp_all [and_assoc, and_left_comm]

theorem Table.wf_filter [DecidableEq V] (t : Table V) (p : Nat × V → Bool) (h : Table.wf d t = true) :
    Table.wf d (t.filter p) = true := by
  rw [Table.wf_iff] at *
  exact ⟨h.1.filter p, fun e he => h.2 e (List.mem_of_mem_filter he)⟩

theorem Table.mem_put (t : Table V) (k : Nat) (v : V) (e : Nat × V) : e ∈ Table.put t k v ↔ e = (k, v) ∨ e ∈ t := by
  fun_induction Table.put t k v <;> simp_all [or_left_comm]

theorem Table.put_rises (t : Table V) (k : Nat) (v : V) (hk : t.lacks k) (h : t.Pairwise fun e f => e.1 < f.1) :
    (Table.put t k v).Pairwise fun e f => e.1 < f.1 := by
  fun_induction Table.put t k v with
  | case1 => simp
  | case2 j w r hj => exact h.cons fun e he => by rcases List.mem_cons.mp he with rfl | he; exacts [hj, hj.trans (List.rel_of_pairwise_cons h he)]
  | case3 j w r hj ih =>
    refine (ih (fun e he => hk e (List.mem_cons_of_mem _ he)) h.of_cons).cons fun e he => ?_
    rcases (Table.mem_put r k v e).mp he with rfl | he
    · exact Nat.lt_of_le_of_ne (Nat.not_lt.mp hj) (hk (j, w) List.mem_cons_self)
    · exact List.rel_of_pairwise_cons h he

/-- A write keeps the canonical form. -/
theorem Table.wf_set [DecidableEq V] (t : Table V) (k : Nat) (v : V) (h : Table.wf d t = true) :
    Table.wf d (Table.set d t k v) = true := by
  have he : Table.wf d (Table.erase t k) = true := Table.wf_filter d t _ h
  unfold Table.set
  split
  next => exact he
  next hv =>
    rw [Table.wf_iff] at he ⊢
    refine ⟨Table.put_rises _ _ _ (Table.lacks_erase t k) he.1, fun e hm => ?_⟩
    rcases (Table.mem_put _ _ _ _).mp hm with rfl | hm
    exacts [hv, he.2 e hm]

@[simp] theorem Table.get_set_same [DecidableEq V] (t : Table V) (k : Nat) (v : V) :
    Table.get d (Table.set d t k v) k = v := by simp [Table.get_set]

theorem Table.get_set_ne [DecidableEq V] (t : Table V) {k j : Nat} (v : V) (h : j ≠ k) :
    Table.get d (Table.set d t k v) j = Table.get d t j := by simp [Table.get_set, h]

end Sys2Proof.Machine
end

