-- ==== Sys2Proof/Laws/Regs.lean ====
section
/-!
SUPPORT. Registers and fields: what a read gives after a write of the same register or field, of another one, and of
disjoint bits of the same register.
-/
namespace Sys2Proof.Machine
open Sys2Proof

theorem getBits_lt (w : Word) (lo width : Nat) : getBits w lo width < 2 ^ width :=
  Nat.mod_lt _ (Nat.two_pow_pos _)

theorem getBits_testBit (w : Word) (lo width i : Nat) :
    (getBits w lo width).testBit i = (decide (i < width) && w.getLsbD (lo + i)) := by
  simp [getBits, Nat.testBit_mod_two_pow, Nat.testBit_shiftRight, BitVec.getLsbD]

theorem fieldMask_getLsbD (lo width i : Nat) (h : lo + width ≤ 32) :
    (fieldMask lo width).getLsbD i = decide (lo ≤ i ∧ i < lo + width) := by
  simp only [fieldMask, BitVec.getLsbD_shiftLeft, BitVec.getLsbD_ushiftRight, BitVec.getLsbD_allOnes]
  by_cases h1 : lo ≤ i
  · by_cases h2 : i < lo + width
    · have a : i < 32 := by omega
      have b : 32 - width + (i - lo) < 32 := by omega
      have c : ¬ i < lo := by omega
      simp [h1, h2, a, b, c]
    · by_cases a : i < 32
      · have b : ¬ 32 - width + (i - lo) < 32 := by omega
        simp [h1, h2, b]
      · simp [h1, h2, a]
  · have c : i < lo := by omega
    simp [h1, c]

theorem setBits_getLsbD (w : Word) (lo width v i : Nat) (h : lo + width ≤ 32) :
    (setBits w lo width v).getLsbD i =
      if lo ≤ i ∧ i < lo + width then (v.testBit (i - lo)) else w.getLsbD i := by
  unfold setBits
  by_cases hi : i < 32
  · simp only [BitVec.getLsbD_or, BitVec.getLsbD_and, BitVec.getLsbD_not, fieldMask_getLsbD lo width i h,
      BitVec.getLsbD_shiftLeft, BitVec.getLsbD_ofNat, hi]
    by_cases hr : lo ≤ i ∧ i < lo + width
    · have c : ¬ i < lo := by omega
      have d : i - lo < 32 := by omega
      simp [hr, c, d]
    · simp [hr]
  · have hr : ¬ (lo ≤ i ∧ i < lo + width) := by omega
    rw [if_neg hr, BitVec.getLsbD_of_ge _ _ (by omega), BitVec.getLsbD_of_ge _ _ (by omega)]

theorem getBits_setBits_same (w : Word) (lo width v : Nat) (h : lo + width ≤ 32) :
    getBits (setBits w lo width v) lo width = v % 2 ^ width := by
  apply Nat.eq_of_testBit_eq
  intro i
  rw [getBits_testBit, setBits_getLsbD _ _ _ _ _ h, Nat.testBit_mod_two_pow]
  by_cases hi : i < width
  · have : lo ≤ lo + i ∧ lo + i < lo + width := by omega
    simp [hi]
  · simp [hi]

theorem getBits_setBits_disjoint (w : Word) (lo width v lo' width' : Nat) (h : lo + width ≤ 32)
    (hd : lo' + width' ≤ lo ∨ lo + width ≤ lo') :
    getBits (setBits w lo width v) lo' width' = getBits w lo' width' := by
  apply Nat.eq_of_testBit_eq
  intro i
  rw [getBits_testBit, getBits_testBit, setBits_getLsbD _ _ _ _ _ h]
  by_cases hi : i < width'
  · have : ¬ (lo ≤ lo' + i ∧ lo' + i < lo + width) := by omega
    simp [this]
  · simp [hi]

/-! ### Register files -/

theorem RegFile.rd_wr (rf : RegFile) (a b : Nat) (w : Word) : (rf.wr a w).rd b = if b = a then w else rf.rd b := by
  simp only [RegFile.rd, RegFile.wr]
  exact Table.get_set _ _ _ _ _

@[simp] theorem RegFile.rd_wr_same (rf : RegFile) (a : Nat) (w : Word) : (rf.wr a w).rd a = w := by
  rw [RegFile.rd_wr, if_pos rfl]

theorem RegFile.rd_wr_ne (rf : RegFile) {a b : Nat} (w : Word) (h : b ≠ a) : (rf.wr a w).rd b = rf.rd b := by
  rw [RegFile.rd_wr, if_neg h]

theorem RegFile.rd_put_ne (rf : RegFile) (f : Fld) (v : Nat) {b : Nat} (h : b ≠ f.addr) : (rf.put f v).rd b = rf.rd b :=
  RegFile.rd_wr_ne rf _ h

theorem RegFile.get_put_same (rf : RegFile) (f : Fld) (v : Nat) (h : f.lo + f.width ≤ 32) :
    (rf.put f v).get f = v % 2 ^ f.width := by
  simp only [RegFile.get, RegFile.put, RegFile.rd_wr_same]
  exact getBits_setBits_same _ _ _ _ h

theorem RegFile.get_put_ne (rf : RegFile) (f g : Fld) (v : Nat) (h : g.addr ≠ f.addr) :
    (rf.put f v).get g = rf.get g := by
  simp only [RegFile.get, RegFile.put, RegFile.rd_wr_ne _ _ h]

theorem RegFile.get_put_disjoint (rf : RegFile) (f g : Fld) (v : Nat) (h : f.lo + f.width ≤ 32)
    (hd : g.lo + g.width ≤ f.lo ∨ f.lo + f.width ≤ g.lo) : (rf.put f v).get g = rf.get g := by
  by_cases ha : g.addr = f.addr
  · simp only [RegFile.get, RegFile.put, ha, RegFile.rd_wr_same]
    exact getBits_setBits_disjoint _ _ _ _ _ _ h hd
  · exact RegFile.get_put_ne rf f g v ha

theorem RegFile.get_lt (rf : RegFile) (f : Fld) : rf.get f < 2 ^ f.width := getBits_lt _ _ _

@[simp] theorem RegFile.own_wr (rf : RegFile) (a : Nat) (w : Word) : (rf.wr a w).own = rf.own := rfl
@[simp] theorem RegFile.own_put (rf : RegFile) (f : Fld) (v : Nat) : (rf.put f v).own = rf.own := rfl
@[simp] theorem RegFile.own_bump (rf : RegFile) (f : Fld) (v : Nat) : (rf.bump f v).own = rf.own := rfl
@[simp] theorem RegFile.own_clear (rf : RegFile) (p : Nat → Bool) : (rf.clear p).own = rf.own := rfl

/-! ### A lane, Bedrock, the bridge die -/

@[simp] theorem LaneState.rd_wr_same (l : LaneState) (a : Nat) (w : Word) : (l.wr a w).rd a = w := by
  simp [LaneState.rd, LaneState.wr]
theorem LaneState.rd_wr_ne (l : LaneState) {a b : Nat} (w : Word) (h : b ≠ a) : (l.wr a w).rd b = l.rd b :=
  RegFile.rd_wr_ne l.regs w h
theorem LaneState.rd_put_ne (l : LaneState) (f : Fld) (v : Nat) {b : Nat} (h : b ≠ f.addr) : (l.put f v).rd b = l.rd b :=
  RegFile.rd_put_ne l.regs f v h
theorem LaneState.get_put_same (l : LaneState) (f : Fld) (v : Nat) (h : f.lo + f.width ≤ 32) :
    (l.put f v).get f = v % 2 ^ f.width := RegFile.get_put_same l.regs f v h
theorem LaneState.get_put_ne (l : LaneState) (f g : Fld) (v : Nat) (h : g.addr ≠ f.addr) :
    (l.put f v).get g = l.get g := RegFile.get_put_ne l.regs f g v h
theorem LaneState.get_put_disjoint (l : LaneState) (f g : Fld) (v : Nat) (h : f.lo + f.width ≤ 32)
    (hd : g.lo + g.width ≤ f.lo ∨ f.lo + f.width ≤ g.lo) : (l.put f v).get g = l.get g :=
  RegFile.get_put_disjoint l.regs f g v h hd
theorem LaneState.get_wr_ne (l : LaneState) (a : Nat) (w : Word) (g : Fld) (h : g.addr ≠ a) :
    (l.wr a w).get g = l.get g := by
  simp only [LaneState.get, LaneState.wr, RegFile.get, RegFile.rd_wr_ne _ _ h]
theorem LaneState.get_wr_same (l : LaneState) (w : Word) (g : Fld) : (l.wr g.addr w).get g = getBits w g.lo g.width := by
  simp [LaneState.get, LaneState.wr, RegFile.get]
theorem LaneState.get_lt (l : LaneState) (f : Fld) : l.get f < 2 ^ f.width := getBits_lt _ _ _

@[simp] theorem BedState.rd_wr_same (b : BedState) (a : Nat) (w : Word) : (b.wr a w).rd a = w := by
  simp [BedState.rd, BedState.wr]
theorem BedState.rd_wr_ne (b : BedState) {a c : Nat} (w : Word) (h : c ≠ a) : (b.wr a w).rd c = b.rd c :=
  RegFile.rd_wr_ne b.regs w h
theorem BedState.rd_put_ne (b : BedState) (f : Fld) (v : Nat) {c : Nat} (h : c ≠ f.addr) : (b.put f v).rd c = b.rd c :=
  RegFile.rd_put_ne b.regs f v h
theorem BedState.get_put_same (b : BedState) (f : Fld) (v : Nat) (h : f.lo + f.width ≤ 32) :
    (b.put f v).get f = v % 2 ^ f.width := RegFile.get_put_same b.regs f v h
theorem BedState.get_put_ne (b : BedState) (f g : Fld) (v : Nat) (h : g.addr ≠ f.addr) :
    (b.put f v).get g = b.get g := RegFile.get_put_ne b.regs f g v h
theorem BedState.get_put_disjoint (b : BedState) (f g : Fld) (v : Nat) (h : f.lo + f.width ≤ 32)
    (hd : g.lo + g.width ≤ f.lo ∨ f.lo + f.width ≤ g.lo) : (b.put f v).get g = b.get g :=
  RegFile.get_put_disjoint b.regs f g v h hd
theorem BedState.get_lt (b : BedState) (f : Fld) : b.get f < 2 ^ f.width := getBits_lt _ _ _

@[simp] theorem BrgState.rd_wr_same (b : BrgState) (a : Nat) (w : Word) : (b.wr a w).rd a = w := by
  simp [BrgState.rd, BrgState.wr]
theorem BrgState.rd_wr_ne (b : BrgState) {a c : Nat} (w : Word) (h : c ≠ a) : (b.wr a w).rd c = b.rd c :=
  RegFile.rd_wr_ne b.regs w h
theorem BrgState.get_put_same (b : BrgState) (f : Fld) (v : Nat) (h : f.lo + f.width ≤ 32) :
    (b.put f v).get f = v % 2 ^ f.width := RegFile.get_put_same b.regs f v h
theorem BrgState.get_put_ne (b : BrgState) (f g : Fld) (v : Nat) (h : g.addr ≠ f.addr) :
    (b.put f v).get g = b.get g := RegFile.get_put_ne b.regs f g v h
theorem BrgState.get_put_disjoint (b : BrgState) (f g : Fld) (v : Nat) (h : f.lo + f.width ≤ 32)
    (hd : g.lo + g.width ≤ f.lo ∨ f.lo + f.width ≤ g.lo) : (b.put f v).get g = b.get g :=
  RegFile.get_put_disjoint b.regs f g v h hd

end Sys2Proof.Machine
end

