-- ==== Sys2Proof/Laws/State.lean ====
section
/-!
SUPPORT. What each elementary update of the state leaves alone: one lemma per field and update, true by unfolding.
-/
namespace Sys2Proof.Machine
open Sys2Proof

@[simp] theorem LaneState.active_wr {l a w} : (wr l a w).active = l.active := rfl
@[simp] theorem LaneState.mem_wr {l a w} : (wr l a w).mem = l.mem := rfl
@[simp] theorem LaneState.badPar_wr {l a w} : (wr l a w).badPar = l.badPar := rfl
@[simp] theorem LaneState.resp_wr {l a w} : (wr l a w).resp = l.resp := rfl
@[simp] theorem LaneState.shadowR_wr {l a w} : (wr l a w).shadowR = l.shadowR := rfl
@[simp] theorem LaneState.shadowW_wr {l a w} : (wr l a w).shadowW = l.shadowW := rfl
@[simp] theorem LaneState.lockSeq_wr {l a w} : (wr l a w).lockSeq = l.lockSeq := rfl
@[simp] theorem LaneState.events_wr {l a w} : (wr l a w).events = l.events := rfl
@[simp] theorem LaneState.msgs_wr {l a w} : (wr l a w).msgs = l.msgs := rfl
@[simp] theorem LaneState.fences_wr {l a w} : (wr l a w).fences = l.fences := rfl
@[simp] theorem LaneState.links_wr {l a w} : (wr l a w).links = l.links := rfl
@[simp] theorem LaneState.pairs_wr {l a w} : (wr l a w).pairs = l.pairs := rfl
@[simp] theorem LaneState.l2_wr {l a w} : (wr l a w).l2 = l.l2 := rfl
@[simp] theorem LaneState.uStores_wr {l a w} : (wr l a w).uStores = l.uStores := rfl
@[simp] theorem LaneState.dm_wr {l a w} : (wr l a w).dm = l.dm := rfl
@[simp] theorem LaneState.aplicIn_wr {l a w} : (wr l a w).aplicIn = l.aplicIn := rfl
@[simp] theorem LaneState.loop_wr {l a w} : (wr l a w).loop = l.loop := rfl
@[simp] theorem LaneState.sieve_wr {l a w} : (wr l a w).sieve = l.sieve := rfl
@[simp] theorem LaneState.strata_wr {l a w} : (wr l a w).strata = l.strata := rfl
@[simp] theorem LaneState.feed_wr {l a w} : (wr l a w).feed = l.feed := rfl
@[simp] theorem LaneState.ports_wr {l a w} : (wr l a w).ports = l.ports := rfl
@[simp] theorem LaneState.xfr_wr {l a w} : (wr l a w).xfr = l.xfr := rfl
@[simp] theorem LaneState.pmu_wr {l a w} : (wr l a w).pmu = l.pmu := rfl
@[simp] theorem LaneState.col_wr {l a w} : (wr l a w).col = l.col := rfl
@[simp] theorem LaneState.power_wr {l a w} : (wr l a w).power = l.power := rfl

@[simp] theorem LaneState.active_put {l f v} : (put l f v).active = l.active := rfl
@[simp] theorem LaneState.mem_put {l f v} : (put l f v).mem = l.mem := rfl
@[simp] theorem LaneState.badPar_put {l f v} : (put l f v).badPar = l.badPar := rfl
@[simp] theorem LaneState.resp_put {l f v} : (put l f v).resp = l.resp := rfl
@[simp] theorem LaneState.shadowR_put {l f v} : (put l f v).shadowR = l.shadowR := rfl
@[simp] theorem LaneState.shadowW_put {l f v} : (put l f v).shadowW = l.shadowW := rfl
@[simp] theorem LaneState.lockSeq_put {l f v} : (put l f v).lockSeq = l.lockSeq := rfl
@[simp] theorem LaneState.events_put {l f v} : (put l f v).events = l.events := rfl
@[simp] theorem LaneState.msgs_put {l f v} : (put l f v).msgs = l.msgs := rfl
@[simp] theorem LaneState.fences_put {l f v} : (put l f v).fences = l.fences := rfl
@[simp] theorem LaneState.links_put {l f v} : (put l f v).links = l.links := rfl
@[simp] theorem LaneState.pairs_put {l f v} : (put l f v).pairs = l.pairs := rfl
@[simp] theorem LaneState.l2_put {l f v} : (put l f v).l2 = l.l2 := rfl
@[simp] theorem LaneState.uStores_put {l f v} : (put l f v).uStores = l.uStores := rfl
@[simp] theorem LaneState.dm_put {l f v} : (put l f v).dm = l.dm := rfl
@[simp] theorem LaneState.aplicIn_put {l f v} : (put l f v).aplicIn = l.aplicIn := rfl
@[simp] theorem LaneState.loop_put {l f v} : (put l f v).loop = l.loop := rfl
@[simp] theorem LaneState.sieve_put {l f v} : (put l f v).sieve = l.sieve := rfl
@[simp] theorem LaneState.strata_put {l f v} : (put l f v).strata = l.strata := rfl
@[simp] theorem LaneState.feed_put {l f v} : (put l f v).feed = l.feed := rfl
@[simp] theorem LaneState.ports_put {l f v} : (put l f v).ports = l.ports := rfl
@[simp] theorem LaneState.xfr_put {l f v} : (put l f v).xfr = l.xfr := rfl
@[simp] theorem LaneState.pmu_put {l f v} : (put l f v).pmu = l.pmu := rfl
@[simp] theorem LaneState.col_put {l f v} : (put l f v).col = l.col := rfl
@[simp] theorem LaneState.power_put {l f v} : (put l f v).power = l.power := rfl

@[simp] theorem LaneState.active_bump {l f v} : (bump l f v).active = l.active := rfl
@[simp] theorem LaneState.mem_bump {l f v} : (bump l f v).mem = l.mem := rfl
@[simp] theorem LaneState.badPar_bump {l f v} : (bump l f v).badPar = l.badPar := rfl
@[simp] theorem LaneState.resp_bump {l f v} : (bump l f v).resp = l.resp := rfl
@[simp] theorem LaneState.shadowR_bump {l f v} : (bump l f v).shadowR = l.shadowR := rfl
@[simp] theorem LaneState.shadowW_bump {l f v} : (bump l f v).shadowW = l.shadowW := rfl
@[simp] theorem LaneState.lockSeq_bump {l f v} : (bump l f v).lockSeq = l.lockSeq := rfl
@[simp] theorem LaneState.events_bump {l f v} : (bump l f v).events = l.events := rfl
@[simp] theorem LaneState.msgs_bump {l f v} : (bump l f v).msgs = l.msgs := rfl
@[simp] theorem LaneState.fences_bump {l f v} : (bump l f v).fences = l.fences := rfl
@[simp] theorem LaneState.links_bump {l f v} : (bump l f v).links = l.links := rfl
@[simp] theorem LaneState.pairs_bump {l f v} : (bump l f v).pairs = l.pairs := rfl
@[simp] theorem LaneState.l2_bump {l f v} : (bump l f v).l2 = l.l2 := rfl
@[simp] theorem LaneState.uStores_bump {l f v} : (bump l f v).uStores = l.uStores := rfl
@[simp] theorem LaneState.dm_bump {l f v} : (bump l f v).dm = l.dm := rfl
@[simp] theorem LaneState.aplicIn_bump {l f v} : (bump l f v).aplicIn = l.aplicIn := rfl
@[simp] theorem LaneState.loop_bump {l f v} : (bump l f v).loop = l.loop := rfl
@[simp] theorem LaneState.sieve_bump {l f v} : (bump l f v).sieve = l.sieve := rfl
@[simp] theorem LaneState.strata_bump {l f v} : (bump l f v).strata = l.strata := rfl
@[simp] theorem LaneState.feed_bump {l f v} : (bump l f v).feed = l.feed := rfl
@[simp] theorem LaneState.ports_bump {l f v} : (bump l f v).ports = l.ports := rfl
@[simp] theorem LaneState.xfr_bump {l f v} : (bump l f v).xfr = l.xfr := rfl
@[simp] theorem LaneState.pmu_bump {l f v} : (bump l f v).pmu = l.pmu := rfl
@[simp] theorem LaneState.col_bump {l f v} : (bump l f v).col = l.col := rfl
@[simp] theorem LaneState.power_bump {l f v} : (bump l f v).power = l.power := rfl

@[simp] theorem LaneState.active_incr {l f} : (incr l f).active = l.active := rfl
@[simp] theorem LaneState.mem_incr {l f} : (incr l f).mem = l.mem := rfl
@[simp] theorem LaneState.badPar_incr {l f} : (incr l f).badPar = l.badPar := rfl
@[simp] theorem LaneState.resp_incr {l f} : (incr l f).resp = l.resp := rfl
@[simp] theorem LaneState.shadowR_incr {l f} : (incr l f).shadowR = l.shadowR := rfl
@[simp] theorem LaneState.shadowW_incr {l f} : (incr l f).shadowW = l.shadowW := rfl
@[simp] theorem LaneState.lockSeq_incr {l f} : (incr l f).lockSeq = l.lockSeq := rfl
@[simp] theorem LaneState.events_incr {l f} : (incr l f).events = l.events := rfl
@[simp] theorem LaneState.msgs_incr {l f} : (incr l f).msgs = l.msgs := rfl
@[simp] theorem LaneState.fences_incr {l f} : (incr l f).fences = l.fences := rfl
@[simp] theorem LaneState.links_incr {l f} : (incr l f).links = l.links := rfl
@[simp] theorem LaneState.pairs_incr {l f} : (incr l f).pairs = l.pairs := rfl
@[simp] theorem LaneState.l2_incr {l f} : (incr l f).l2 = l.l2 := rfl
@[simp] theorem LaneState.uStores_incr {l f} : (incr l f).uStores = l.uStores := rfl
@[simp] theorem LaneState.dm_incr {l f} : (incr l f).dm = l.dm := rfl
@[simp] theorem LaneState.aplicIn_incr {l f} : (incr l f).aplicIn = l.aplicIn := rfl
@[simp] theorem LaneState.loop_incr {l f} : (incr l f).loop = l.loop := rfl
@[simp] theorem LaneState.sieve_incr {l f} : (incr l f).sieve = l.sieve := rfl
@[simp] theorem LaneState.strata_incr {l f} : (incr l f).strata = l.strata := rfl
@[simp] theorem LaneState.feed_incr {l f} : (incr l f).feed = l.feed := rfl
@[simp] theorem LaneState.ports_incr {l f} : (incr l f).ports = l.ports := rfl
@[simp] theorem LaneState.xfr_incr {l f} : (incr l f).xfr = l.xfr := rfl
@[simp] theorem LaneState.pmu_incr {l f} : (incr l f).pmu = l.pmu := rfl
@[simp] theorem LaneState.col_incr {l f} : (incr l f).col = l.col := rfl
@[simp] theorem LaneState.power_incr {l f} : (incr l f).power = l.power := rfl

@[simp] theorem LaneState.regs_setByte {l a v} : (setByte l a v).regs = l.regs := rfl
@[simp] theorem LaneState.active_setByte {l a v} : (setByte l a v).active = l.active := rfl
@[simp] theorem LaneState.badPar_setByte {l a v} : (setByte l a v).badPar = l.badPar := rfl
@[simp] theorem LaneState.resp_setByte {l a v} : (setByte l a v).resp = l.resp := rfl
@[simp] theorem LaneState.shadowR_setByte {l a v} : (setByte l a v).shadowR = l.shadowR := rfl
@[simp] theorem LaneState.shadowW_setByte {l a v} : (setByte l a v).shadowW = l.shadowW := rfl
@[simp] theorem LaneState.lockSeq_setByte {l a v} : (setByte l a v).lockSeq = l.lockSeq := rfl
@[simp] theorem LaneState.events_setByte {l a v} : (setByte l a v).events = l.events := rfl
@[simp] theorem LaneState.msgs_setByte {l a v} : (setByte l a v).msgs = l.msgs := rfl
@[simp] theorem LaneState.fences_setByte {l a v} : (setByte l a v).fences = l.fences := rfl
@[simp] theorem LaneState.links_setByte {l a v} : (setByte l a v).links = l.links := rfl
@[simp] theorem LaneState.pairs_setByte {l a v} : (setByte l a v).pairs = l.pairs := rfl
@[simp] theorem LaneState.l2_setByte {l a v} : (setByte l a v).l2 = l.l2 := rfl
@[simp] theorem LaneState.uStores_setByte {l a v} : (setByte l a v).uStores = l.uStores := rfl
@[simp] theorem LaneState.dm_setByte {l a v} : (setByte l a v).dm = l.dm := rfl
@[simp] theorem LaneState.aplicIn_setByte {l a v} : (setByte l a v).aplicIn = l.aplicIn := rfl
@[simp] theorem LaneState.loop_setByte {l a v} : (setByte l a v).loop = l.loop := rfl
@[simp] theorem LaneState.sieve_setByte {l a v} : (setByte l a v).sieve = l.sieve := rfl
@[simp] theorem LaneState.strata_setByte {l a v} : (setByte l a v).strata = l.strata := rfl
@[simp] theorem LaneState.feed_setByte {l a v} : (setByte l a v).feed = l.feed := rfl
@[simp] theorem LaneState.ports_setByte {l a v} : (setByte l a v).ports = l.ports := rfl
@[simp] theorem LaneState.xfr_setByte {l a v} : (setByte l a v).xfr = l.xfr := rfl
@[simp] theorem LaneState.pmu_setByte {l a v} : (setByte l a v).pmu = l.pmu := rfl
@[simp] theorem LaneState.col_setByte {l a v} : (setByte l a v).col = l.col := rfl
@[simp] theorem LaneState.power_setByte {l a v} : (setByte l a v).power = l.power := rfl

@[simp] theorem LaneState.regs_modLoop {l f} : (modLoop l f).regs = l.regs := rfl
@[simp] theorem LaneState.active_modLoop {l f} : (modLoop l f).active = l.active := rfl
@[simp] theorem LaneState.mem_modLoop {l f} : (modLoop l f).mem = l.mem := rfl
@[simp] theorem LaneState.badPar_modLoop {l f} : (modLoop l f).badPar = l.badPar := rfl
@[simp] theorem LaneState.resp_modLoop {l f} : (modLoop l f).resp = l.resp := rfl
@[simp] theorem LaneState.shadowR_modLoop {l f} : (modLoop l f).shadowR = l.shadowR := rfl
@[simp] theorem LaneState.shadowW_modLoop {l f} : (modLoop l f).shadowW = l.shadowW := rfl
@[simp] theorem LaneState.lockSeq_modLoop {l f} : (modLoop l f).lockSeq = l.lockSeq := rfl
@[simp] theorem LaneState.events_modLoop {l f} : (modLoop l f).events = l.events := rfl
@[simp] theorem LaneState.msgs_modLoop {l f} : (modLoop l f).msgs = l.msgs := rfl
@[simp] theorem LaneState.fences_modLoop {l f} : (modLoop l f).fences = l.fences := rfl
@[simp] theorem LaneState.links_modLoop {l f} : (modLoop l f).links = l.links := rfl
@[simp] theorem LaneState.pairs_modLoop {l f} : (modLoop l f).pairs = l.pairs := rfl
@[simp] theorem LaneState.l2_modLoop {l f} : (modLoop l f).l2 = l.l2 := rfl
@[simp] theorem LaneState.uStores_modLoop {l f} : (modLoop l f).uStores = l.uStores := rfl
@[simp] theorem LaneState.dm_modLoop {l f} : (modLoop l f).dm = l.dm := rfl
@[simp] theorem LaneState.aplicIn_modLoop {l f} : (modLoop l f).aplicIn = l.aplicIn := rfl
@[simp] theorem LaneState.sieve_modLoop {l f} : (modLoop l f).sieve = l.sieve := rfl
@[simp] theorem LaneState.strata_modLoop {l f} : (modLoop l f).strata = l.strata := rfl
@[simp] theorem LaneState.feed_modLoop {l f} : (modLoop l f).feed = l.feed := rfl
@[simp] theorem LaneState.ports_modLoop {l f} : (modLoop l f).ports = l.ports := rfl
@[simp] theorem LaneState.xfr_modLoop {l f} : (modLoop l f).xfr = l.xfr := rfl
@[simp] theorem LaneState.pmu_modLoop {l f} : (modLoop l f).pmu = l.pmu := rfl
@[simp] theorem LaneState.col_modLoop {l f} : (modLoop l f).col = l.col := rfl
@[simp] theorem LaneState.power_modLoop {l f} : (modLoop l f).power = l.power := rfl

@[simp] theorem LaneState.regs_modEng {l f} : (modEng l f).regs = l.regs := rfl
@[simp] theorem LaneState.active_modEng {l f} : (modEng l f).active = l.active := rfl
@[simp] theorem LaneState.mem_modEng {l f} : (modEng l f).mem = l.mem := rfl
@[simp] theorem LaneState.badPar_modEng {l f} : (modEng l f).badPar = l.badPar := rfl
@[simp] theorem LaneState.resp_modEng {l f} : (modEng l f).resp = l.resp := rfl
@[simp] theorem LaneState.shadowR_modEng {l f} : (modEng l f).shadowR = l.shadowR := rfl
@[simp] theorem LaneState.shadowW_modEng {l f} : (modEng l f).shadowW = l.shadowW := rfl
@[simp] theorem LaneState.lockSeq_modEng {l f} : (modEng l f).lockSeq = l.lockSeq := rfl
@[simp] theorem LaneState.events_modEng {l f} : (modEng l f).events = l.events := rfl
@[simp] theorem LaneState.msgs_modEng {l f} : (modEng l f).msgs = l.msgs := rfl
@[simp] theorem LaneState.fences_modEng {l f} : (modEng l f).fences = l.fences := rfl
@[simp] theorem LaneState.links_modEng {l f} : (modEng l f).links = l.links := rfl
@[simp] theorem LaneState.pairs_modEng {l f} : (modEng l f).pairs = l.pairs := rfl
@[simp] theorem LaneState.l2_modEng {l f} : (modEng l f).l2 = l.l2 := rfl
@[simp] theorem LaneState.uStores_modEng {l f} : (modEng l f).uStores = l.uStores := rfl
@[simp] theorem LaneState.dm_modEng {l f} : (modEng l f).dm = l.dm := rfl
@[simp] theorem LaneState.aplicIn_modEng {l f} : (modEng l f).aplicIn = l.aplicIn := rfl
@[simp] theorem LaneState.sieve_modEng {l f} : (modEng l f).sieve = l.sieve := rfl
@[simp] theorem LaneState.strata_modEng {l f} : (modEng l f).strata = l.strata := rfl
@[simp] theorem LaneState.feed_modEng {l f} : (modEng l f).feed = l.feed := rfl
@[simp] theorem LaneState.ports_modEng {l f} : (modEng l f).ports = l.ports := rfl
@[simp] theorem LaneState.xfr_modEng {l f} : (modEng l f).xfr = l.xfr := rfl
@[simp] theorem LaneState.pmu_modEng {l f} : (modEng l f).pmu = l.pmu := rfl
@[simp] theorem LaneState.col_modEng {l f} : (modEng l f).col = l.col := rfl
@[simp] theorem LaneState.power_modEng {l f} : (modEng l f).power = l.power := rfl

@[simp] theorem LaneState.regs_setRun {l r} : (setRun l r).regs = l.regs := rfl
@[simp] theorem LaneState.active_setRun {l r} : (setRun l r).active = l.active := rfl
@[simp] theorem LaneState.mem_setRun {l r} : (setRun l r).mem = l.mem := rfl
@[simp] theorem LaneState.badPar_setRun {l r} : (setRun l r).badPar = l.badPar := rfl
@[simp] theorem LaneState.resp_setRun {l r} : (setRun l r).resp = l.resp := rfl
@[simp] theorem LaneState.shadowR_setRun {l r} : (setRun l r).shadowR = l.shadowR := rfl
@[simp] theorem LaneState.shadowW_setRun {l r} : (setRun l r).shadowW = l.shadowW := rfl
@[simp] theorem LaneState.lockSeq_setRun {l r} : (setRun l r).lockSeq = l.lockSeq := rfl
@[simp] theorem LaneState.events_setRun {l r} : (setRun l r).events = l.events := rfl
@[simp] theorem LaneState.msgs_setRun {l r} : (setRun l r).msgs = l.msgs := rfl
@[simp] theorem LaneState.fences_setRun {l r} : (setRun l r).fences = l.fences := rfl
@[simp] theorem LaneState.links_setRun {l r} : (setRun l r).links = l.links := rfl
@[simp] theorem LaneState.pairs_setRun {l r} : (setRun l r).pairs = l.pairs := rfl
@[simp] theorem LaneState.l2_setRun {l r} : (setRun l r).l2 = l.l2 := rfl
@[simp] theorem LaneState.uStores_setRun {l r} : (setRun l r).uStores = l.uStores := rfl
@[simp] theorem LaneState.dm_setRun {l r} : (setRun l r).dm = l.dm := rfl
@[simp] theorem LaneState.aplicIn_setRun {l r} : (setRun l r).aplicIn = l.aplicIn := rfl
@[simp] theorem LaneState.sieve_setRun {l r} : (setRun l r).sieve = l.sieve := rfl
@[simp] theorem LaneState.strata_setRun {l r} : (setRun l r).strata = l.strata := rfl
@[simp] theorem LaneState.feed_setRun {l r} : (setRun l r).feed = l.feed := rfl
@[simp] theorem LaneState.ports_setRun {l r} : (setRun l r).ports = l.ports := rfl
@[simp] theorem LaneState.xfr_setRun {l r} : (setRun l r).xfr = l.xfr := rfl
@[simp] theorem LaneState.pmu_setRun {l r} : (setRun l r).pmu = l.pmu := rfl
@[simp] theorem LaneState.col_setRun {l r} : (setRun l r).col = l.col := rfl
@[simp] theorem LaneState.power_setRun {l r} : (setRun l r).power = l.power := rfl

@[simp] theorem LaneState.regs_raise {l k} : (raise l k).regs = l.regs := rfl
@[simp] theorem LaneState.active_raise {l k} : (raise l k).active = l.active := rfl
@[simp] theorem LaneState.mem_raise {l k} : (raise l k).mem = l.mem := rfl
@[simp] theorem LaneState.badPar_raise {l k} : (raise l k).badPar = l.badPar := rfl
@[simp] theorem LaneState.resp_raise {l k} : (raise l k).resp = l.resp := rfl
@[simp] theorem LaneState.shadowR_raise {l k} : (raise l k).shadowR = l.shadowR := rfl
@[simp] theorem LaneState.shadowW_raise {l k} : (raise l k).shadowW = l.shadowW := rfl
@[simp] theorem LaneState.lockSeq_raise {l k} : (raise l k).lockSeq = l.lockSeq := rfl
@[simp] theorem LaneState.msgs_raise {l k} : (raise l k).msgs = l.msgs := rfl
@[simp] theorem LaneState.fences_raise {l k} : (raise l k).fences = l.fences := rfl
@[simp] theorem LaneState.links_raise {l k} : (raise l k).links = l.links := rfl
@[simp] theorem LaneState.pairs_raise {l k} : (raise l k).pairs = l.pairs := rfl
@[simp] theorem LaneState.l2_raise {l k} : (raise l k).l2 = l.l2 := rfl
@[simp] theorem LaneState.uStores_raise {l k} : (raise l k).uStores = l.uStores := rfl
@[simp] theorem LaneState.dm_raise {l k} : (raise l k).dm = l.dm := rfl
@[simp] theorem LaneState.aplicIn_raise {l k} : (raise l k).aplicIn = l.aplicIn := rfl
@[simp] theorem LaneState.loop_raise {l k} : (raise l k).loop = l.loop := rfl
@[simp] theorem LaneState.sieve_raise {l k} : (raise l k).sieve = l.sieve := rfl
@[simp] theorem LaneState.strata_raise {l k} : (raise l k).strata = l.strata := rfl
@[simp] theorem LaneState.feed_raise {l k} : (raise l k).feed = l.feed := rfl
@[simp] theorem LaneState.ports_raise {l k} : (raise l k).ports = l.ports := rfl
@[simp] theorem LaneState.xfr_raise {l k} : (raise l k).xfr = l.xfr := rfl
@[simp] theorem LaneState.pmu_raise {l k} : (raise l k).pmu = l.pmu := rfl
@[simp] theorem LaneState.col_raise {l k} : (raise l k).col = l.col := rfl
@[simp] theorem LaneState.power_raise {l k} : (raise l k).power = l.power := rfl

@[simp] theorem LaneState.regs_raiseAt {l k u} : (raiseAt l k u).regs = l.regs := rfl
@[simp] theorem LaneState.active_raiseAt {l k u} : (raiseAt l k u).active = l.active := rfl
@[simp] theorem LaneState.mem_raiseAt {l k u} : (raiseAt l k u).mem = l.mem := rfl
@[simp] theorem LaneState.badPar_raiseAt {l k u} : (raiseAt l k u).badPar = l.badPar := rfl
@[simp] theorem LaneState.resp_raiseAt {l k u} : (raiseAt l k u).resp = l.resp := rfl
@[simp] theorem LaneState.shadowR_raiseAt {l k u} : (raiseAt l k u).shadowR = l.shadowR := rfl
@[simp] theorem LaneState.shadowW_raiseAt {l k u} : (raiseAt l k u).shadowW = l.shadowW := rfl
@[simp] theorem LaneState.lockSeq_raiseAt {l k u} : (raiseAt l k u).lockSeq = l.lockSeq := rfl
@[simp] theorem LaneState.msgs_raiseAt {l k u} : (raiseAt l k u).msgs = l.msgs := rfl
@[simp] theorem LaneState.fences_raiseAt {l k u} : (raiseAt l k u).fences = l.fences := rfl
@[simp] theorem LaneState.links_raiseAt {l k u} : (raiseAt l k u).links = l.links := rfl
@[simp] theorem LaneState.pairs_raiseAt {l k u} : (raiseAt l k u).pairs = l.pairs := rfl
@[simp] theorem LaneState.l2_raiseAt {l k u} : (raiseAt l k u).l2 = l.l2 := rfl
@[simp] theorem LaneState.uStores_raiseAt {l k u} : (raiseAt l k u).uStores = l.uStores := rfl
@[simp] theorem LaneState.dm_raiseAt {l k u} : (raiseAt l k u).dm = l.dm := rfl
@[simp] theorem LaneState.aplicIn_raiseAt {l k u} : (raiseAt l k u).aplicIn = l.aplicIn := rfl
@[simp] theorem LaneState.loop_raiseAt {l k u} : (raiseAt l k u).loop = l.loop := rfl
@[simp] theorem LaneState.sieve_raiseAt {l k u} : (raiseAt l k u).sieve = l.sieve := rfl
@[simp] theorem LaneState.strata_raiseAt {l k u} : (raiseAt l k u).strata = l.strata := rfl
@[simp] theorem LaneState.feed_raiseAt {l k u} : (raiseAt l k u).feed = l.feed := rfl
@[simp] theorem LaneState.ports_raiseAt {l k u} : (raiseAt l k u).ports = l.ports := rfl
@[simp] theorem LaneState.xfr_raiseAt {l k u} : (raiseAt l k u).xfr = l.xfr := rfl
@[simp] theorem LaneState.pmu_raiseAt {l k u} : (raiseAt l k u).pmu = l.pmu := rfl
@[simp] theorem LaneState.col_raiseAt {l k u} : (raiseAt l k u).col = l.col := rfl
@[simp] theorem LaneState.power_raiseAt {l k u} : (raiseAt l k u).power = l.power := rfl

@[simp] theorem LaneState.regs_respond {l g r} : (respond l g r).regs = l.regs := rfl
@[simp] theorem LaneState.active_respond {l g r} : (respond l g r).active = l.active := rfl
@[simp] theorem LaneState.mem_respond {l g r} : (respond l g r).mem = l.mem := rfl
@[simp] theorem LaneState.badPar_respond {l g r} : (respond l g r).badPar = l.badPar := rfl
@[simp] theorem LaneState.shadowR_respond {l g r} : (respond l g r).shadowR = l.shadowR := rfl
@[simp] theorem LaneState.shadowW_respond {l g r} : (respond l g r).shadowW = l.shadowW := rfl
@[simp] theorem LaneState.lockSeq_respond {l g r} : (respond l g r).lockSeq = l.lockSeq := rfl
@[simp] theorem LaneState.events_respond {l g r} : (respond l g r).events = l.events := rfl
@[simp] theorem LaneState.msgs_respond {l g r} : (respond l g r).msgs = l.msgs := rfl
@[simp] theorem LaneState.fences_respond {l g r} : (respond l g r).fences = l.fences := rfl
@[simp] theorem LaneState.links_respond {l g r} : (respond l g r).links = l.links := rfl
@[simp] theorem LaneState.pairs_respond {l g r} : (respond l g r).pairs = l.pairs := rfl
@[simp] theorem LaneState.l2_respond {l g r} : (respond l g r).l2 = l.l2 := rfl
@[simp] theorem LaneState.uStores_respond {l g r} : (respond l g r).uStores = l.uStores := rfl
@[simp] theorem LaneState.dm_respond {l g r} : (respond l g r).dm = l.dm := rfl
@[simp] theorem LaneState.aplicIn_respond {l g r} : (respond l g r).aplicIn = l.aplicIn := rfl
@[simp] theorem LaneState.loop_respond {l g r} : (respond l g r).loop = l.loop := rfl
@[simp] theorem LaneState.sieve_respond {l g r} : (respond l g r).sieve = l.sieve := rfl
@[simp] theorem LaneState.strata_respond {l g r} : (respond l g r).strata = l.strata := rfl
@[simp] theorem LaneState.feed_respond {l g r} : (respond l g r).feed = l.feed := rfl
@[simp] theorem LaneState.ports_respond {l g r} : (respond l g r).ports = l.ports := rfl
@[simp] theorem LaneState.xfr_respond {l g r} : (respond l g r).xfr = l.xfr := rfl
@[simp] theorem LaneState.pmu_respond {l g r} : (respond l g r).pmu = l.pmu := rfl
@[simp] theorem LaneState.col_respond {l g r} : (respond l g r).col = l.col := rfl
@[simp] theorem LaneState.power_respond {l g r} : (respond l g r).power = l.power := rfl

@[simp] theorem LaneState.regs_modPair {l p f} : (modPair l p f).regs = l.regs := rfl
@[simp] theorem LaneState.active_modPair {l p f} : (modPair l p f).active = l.active := rfl
@[simp] theorem LaneState.mem_modPair {l p f} : (modPair l p f).mem = l.mem := rfl
@[simp] theorem LaneState.badPar_modPair {l p f} : (modPair l p f).badPar = l.badPar := rfl
@[simp] theorem LaneState.resp_modPair {l p f} : (modPair l p f).resp = l.resp := rfl
@[simp] theorem LaneState.shadowR_modPair {l p f} : (modPair l p f).shadowR = l.shadowR := rfl
@[simp] theorem LaneState.shadowW_modPair {l p f} : (modPair l p f).shadowW = l.shadowW := rfl
@[simp] theorem LaneState.lockSeq_modPair {l p f} : (modPair l p f).lockSeq = l.lockSeq := rfl
@[simp] theorem LaneState.events_modPair {l p f} : (modPair l p f).events = l.events := rfl
@[simp] theorem LaneState.msgs_modPair {l p f} : (modPair l p f).msgs = l.msgs := rfl
@[simp] theorem LaneState.fences_modPair {l p f} : (modPair l p f).fences = l.fences := rfl
@[simp] theorem LaneState.links_modPair {l p f} : (modPair l p f).links = l.links := rfl
@[simp] theorem LaneState.l2_modPair {l p f} : (modPair l p f).l2 = l.l2 := rfl
@[simp] theorem LaneState.uStores_modPair {l p f} : (modPair l p f).uStores = l.uStores := rfl
@[simp] theorem LaneState.dm_modPair {l p f} : (modPair l p f).dm = l.dm := rfl
@[simp] theorem LaneState.aplicIn_modPair {l p f} : (modPair l p f).aplicIn = l.aplicIn := rfl
@[simp] theorem LaneState.loop_modPair {l p f} : (modPair l p f).loop = l.loop := rfl
@[simp] theorem LaneState.sieve_modPair {l p f} : (modPair l p f).sieve = l.sieve := rfl
@[simp] theorem LaneState.strata_modPair {l p f} : (modPair l p f).strata = l.strata := rfl
@[simp] theorem LaneState.feed_modPair {l p f} : (modPair l p f).feed = l.feed := rfl
@[simp] theorem LaneState.ports_modPair {l p f} : (modPair l p f).ports = l.ports := rfl
@[simp] theorem LaneState.xfr_modPair {l p f} : (modPair l p f).xfr = l.xfr := rfl
@[simp] theorem LaneState.pmu_modPair {l p f} : (modPair l p f).pmu = l.pmu := rfl
@[simp] theorem LaneState.col_modPair {l p f} : (modPair l p f).col = l.col := rfl
@[simp] theorem LaneState.power_modPair {l p f} : (modPair l p f).power = l.power := rfl

@[simp] theorem LaneState.regs_setL2 {l n d} : (setL2 l n d).regs = l.regs := rfl
@[simp] theorem LaneState.active_setL2 {l n d} : (setL2 l n d).active = l.active := rfl
@[simp] theorem LaneState.mem_setL2 {l n d} : (setL2 l n d).mem = l.mem := rfl
@[simp] theorem LaneState.badPar_setL2 {l n d} : (setL2 l n d).badPar = l.badPar := rfl
@[simp] theorem LaneState.resp_setL2 {l n d} : (setL2 l n d).resp = l.resp := rfl
@[simp] theorem LaneState.shadowR_setL2 {l n d} : (setL2 l n d).shadowR = l.shadowR := rfl
@[simp] theorem LaneState.shadowW_setL2 {l n d} : (setL2 l n d).shadowW = l.shadowW := rfl
@[simp] theorem LaneState.lockSeq_setL2 {l n d} : (setL2 l n d).lockSeq = l.lockSeq := rfl
@[simp] theorem LaneState.events_setL2 {l n d} : (setL2 l n d).events = l.events := rfl
@[simp] theorem LaneState.msgs_setL2 {l n d} : (setL2 l n d).msgs = l.msgs := rfl
@[simp] theorem LaneState.fences_setL2 {l n d} : (setL2 l n d).fences = l.fences := rfl
@[simp] theorem LaneState.links_setL2 {l n d} : (setL2 l n d).links = l.links := rfl
@[simp] theorem LaneState.pairs_setL2 {l n d} : (setL2 l n d).pairs = l.pairs := rfl
@[simp] theorem LaneState.uStores_setL2 {l n d} : (setL2 l n d).uStores = l.uStores := rfl
@[simp] theorem LaneState.dm_setL2 {l n d} : (setL2 l n d).dm = l.dm := rfl
@[simp] theorem LaneState.aplicIn_setL2 {l n d} : (setL2 l n d).aplicIn = l.aplicIn := rfl
@[simp] theorem LaneState.loop_setL2 {l n d} : (setL2 l n d).loop = l.loop := rfl
@[simp] theorem LaneState.sieve_setL2 {l n d} : (setL2 l n d).sieve = l.sieve := rfl
@[simp] theorem LaneState.strata_setL2 {l n d} : (setL2 l n d).strata = l.strata := rfl
@[simp] theorem LaneState.feed_setL2 {l n d} : (setL2 l n d).feed = l.feed := rfl
@[simp] theorem LaneState.ports_setL2 {l n d} : (setL2 l n d).ports = l.ports := rfl
@[simp] theorem LaneState.xfr_setL2 {l n d} : (setL2 l n d).xfr = l.xfr := rfl
@[simp] theorem LaneState.pmu_setL2 {l n d} : (setL2 l n d).pmu = l.pmu := rfl
@[simp] theorem LaneState.col_setL2 {l n d} : (setL2 l n d).col = l.col := rfl
@[simp] theorem LaneState.power_setL2 {l n d} : (setL2 l n d).power = l.power := rfl

@[simp] theorem LaneState.regs_modPower {l f} : (modPower l f).regs = l.regs := rfl
@[simp] theorem LaneState.active_modPower {l f} : (modPower l f).active = l.active := rfl
@[simp] theorem LaneState.mem_modPower {l f} : (modPower l f).mem = l.mem := rfl
@[simp] theorem LaneState.badPar_modPower {l f} : (modPower l f).badPar = l.badPar := rfl
@[simp] theorem LaneState.resp_modPower {l f} : (modPower l f).resp = l.resp := rfl
@[simp] theorem LaneState.shadowR_modPower {l f} : (modPower l f).shadowR = l.shadowR := rfl
@[simp] theorem LaneState.shadowW_modPower {l f} : (modPower l f).shadowW = l.shadowW := rfl
@[simp] theorem LaneState.lockSeq_modPower {l f} : (modPower l f).lockSeq = l.lockSeq := rfl
@[simp] theorem LaneState.events_modPower {l f} : (modPower l f).events = l.events := rfl
@[simp] theorem LaneState.msgs_modPower {l f} : (modPower l f).msgs = l.msgs := rfl
@[simp] theorem LaneState.fences_modPower {l f} : (modPower l f).fences = l.fences := rfl
@[simp] theorem LaneState.links_modPower {l f} : (modPower l f).links = l.links := rfl
@[simp] theorem LaneState.pairs_modPower {l f} : (modPower l f).pairs = l.pairs := rfl
@[simp] theorem LaneState.l2_modPower {l f} : (modPower l f).l2 = l.l2 := rfl
@[simp] theorem LaneState.uStores_modPower {l f} : (modPower l f).uStores = l.uStores := rfl
@[simp] theorem LaneState.dm_modPower {l f} : (modPower l f).dm = l.dm := rfl
@[simp] theorem LaneState.aplicIn_modPower {l f} : (modPower l f).aplicIn = l.aplicIn := rfl
@[simp] theorem LaneState.loop_modPower {l f} : (modPower l f).loop = l.loop := rfl
@[simp] theorem LaneState.sieve_modPower {l f} : (modPower l f).sieve = l.sieve := rfl
@[simp] theorem LaneState.strata_modPower {l f} : (modPower l f).strata = l.strata := rfl
@[simp] theorem LaneState.feed_modPower {l f} : (modPower l f).feed = l.feed := rfl
@[simp] theorem LaneState.ports_modPower {l f} : (modPower l f).ports = l.ports := rfl
@[simp] theorem LaneState.xfr_modPower {l f} : (modPower l f).xfr = l.xfr := rfl
@[simp] theorem LaneState.pmu_modPower {l f} : (modPower l f).pmu = l.pmu := rfl
@[simp] theorem LaneState.col_modPower {l f} : (modPower l f).col = l.col := rfl

@[simp] theorem LaneState.regs_modSieve {l f} : (modSieve l f).regs = l.regs := rfl
@[simp] theorem LaneState.active_modSieve {l f} : (modSieve l f).active = l.active := rfl
@[simp] theorem LaneState.mem_modSieve {l f} : (modSieve l f).mem = l.mem := rfl
@[simp] theorem LaneState.badPar_modSieve {l f} : (modSieve l f).badPar = l.badPar := rfl
@[simp] theorem LaneState.resp_modSieve {l f} : (modSieve l f).resp = l.resp := rfl
@[simp] theorem LaneState.shadowR_modSieve {l f} : (modSieve l f).shadowR = l.shadowR := rfl
@[simp] theorem LaneState.shadowW_modSieve {l f} : (modSieve l f).shadowW = l.shadowW := rfl
@[simp] theorem LaneState.lockSeq_modSieve {l f} : (modSieve l f).lockSeq = l.lockSeq := rfl
@[simp] theorem LaneState.events_modSieve {l f} : (modSieve l f).events = l.events := rfl
@[simp] theorem LaneState.msgs_modSieve {l f} : (modSieve l f).msgs = l.msgs := rfl
@[simp] theorem LaneState.fences_modSieve {l f} : (modSieve l f).fences = l.fences := rfl
@[simp] theorem LaneState.links_modSieve {l f} : (modSieve l f).links = l.links := rfl
@[simp] theorem LaneState.pairs_modSieve {l f} : (modSieve l f).pairs = l.pairs := rfl
@[simp] theorem LaneState.l2_modSieve {l f} : (modSieve l f).l2 = l.l2 := rfl
@[simp] theorem LaneState.uStores_modSieve {l f} : (modSieve l f).uStores = l.uStores := rfl
@[simp] theorem LaneState.dm_modSieve {l f} : (modSieve l f).dm = l.dm := rfl
@[simp] theorem LaneState.aplicIn_modSieve {l f} : (modSieve l f).aplicIn = l.aplicIn := rfl
@[simp] theorem LaneState.loop_modSieve {l f} : (modSieve l f).loop = l.loop := rfl
@[simp] theorem LaneState.strata_modSieve {l f} : (modSieve l f).strata = l.strata := rfl
@[simp] theorem LaneState.feed_modSieve {l f} : (modSieve l f).feed = l.feed := rfl
@[simp] theorem LaneState.ports_modSieve {l f} : (modSieve l f).ports = l.ports := rfl
@[simp] theorem LaneState.xfr_modSieve {l f} : (modSieve l f).xfr = l.xfr := rfl
@[simp] theorem LaneState.pmu_modSieve {l f} : (modSieve l f).pmu = l.pmu := rfl
@[simp] theorem LaneState.col_modSieve {l f} : (modSieve l f).col = l.col := rfl
@[simp] theorem LaneState.power_modSieve {l f} : (modSieve l f).power = l.power := rfl

@[simp] theorem LaneState.regs_modFeed {l f} : (modFeed l f).regs = l.regs := rfl
@[simp] theorem LaneState.active_modFeed {l f} : (modFeed l f).active = l.active := rfl
@[simp] theorem LaneState.mem_modFeed {l f} : (modFeed l f).mem = l.mem := rfl
@[simp] theorem LaneState.badPar_modFeed {l f} : (modFeed l f).badPar = l.badPar := rfl
@[simp] theorem LaneState.resp_modFeed {l f} : (modFeed l f).resp = l.resp := rfl
@[simp] theorem LaneState.shadowR_modFeed {l f} : (modFeed l f).shadowR = l.shadowR := rfl
@[simp] theorem LaneState.shadowW_modFeed {l f} : (modFeed l f).shadowW = l.shadowW := rfl
@[simp] theorem LaneState.lockSeq_modFeed {l f} : (modFeed l f).lockSeq = l.lockSeq := rfl
@[simp] theorem LaneState.events_modFeed {l f} : (modFeed l f).events = l.events := rfl
@[simp] theorem LaneState.msgs_modFeed {l f} : (modFeed l f).msgs = l.msgs := rfl
@[simp] theorem LaneState.fences_modFeed {l f} : (modFeed l f).fences = l.fences := rfl
@[simp] theorem LaneState.links_modFeed {l f} : (modFeed l f).links = l.links := rfl
@[simp] theorem LaneState.pairs_modFeed {l f} : (modFeed l f).pairs = l.pairs := rfl
@[simp] theorem LaneState.l2_modFeed {l f} : (modFeed l f).l2 = l.l2 := rfl
@[simp] theorem LaneState.uStores_modFeed {l f} : (modFeed l f).uStores = l.uStores := rfl
@[simp] theorem LaneState.dm_modFeed {l f} : (modFeed l f).dm = l.dm := rfl
@[simp] theorem LaneState.aplicIn_modFeed {l f} : (modFeed l f).aplicIn = l.aplicIn := rfl
@[simp] theorem LaneState.loop_modFeed {l f} : (modFeed l f).loop = l.loop := rfl
@[simp] theorem LaneState.sieve_modFeed {l f} : (modFeed l f).sieve = l.sieve := rfl
@[simp] theorem LaneState.strata_modFeed {l f} : (modFeed l f).strata = l.strata := rfl
@[simp] theorem LaneState.ports_modFeed {l f} : (modFeed l f).ports = l.ports := rfl
@[simp] theorem LaneState.xfr_modFeed {l f} : (modFeed l f).xfr = l.xfr := rfl
@[simp] theorem LaneState.pmu_modFeed {l f} : (modFeed l f).pmu = l.pmu := rfl
@[simp] theorem LaneState.col_modFeed {l f} : (modFeed l f).col = l.col := rfl
@[simp] theorem LaneState.power_modFeed {l f} : (modFeed l f).power = l.power := rfl

@[simp] theorem LaneState.regs_modChan {l k f} : (modChan l k f).regs = l.regs := rfl
@[simp] theorem LaneState.active_modChan {l k f} : (modChan l k f).active = l.active := rfl
@[simp] theorem LaneState.mem_modChan {l k f} : (modChan l k f).mem = l.mem := rfl
@[simp] theorem LaneState.badPar_modChan {l k f} : (modChan l k f).badPar = l.badPar := rfl
@[simp] theorem LaneState.resp_modChan {l k f} : (modChan l k f).resp = l.resp := rfl
@[simp] theorem LaneState.shadowR_modChan {l k f} : (modChan l k f).shadowR = l.shadowR := rfl
@[simp] theorem LaneState.shadowW_modChan {l k f} : (modChan l k f).shadowW = l.shadowW := rfl
@[simp] theorem LaneState.lockSeq_modChan {l k f} : (modChan l k f).lockSeq = l.lockSeq := rfl
@[simp] theorem LaneState.events_modChan {l k f} : (modChan l k f).events = l.events := rfl
@[simp] theorem LaneState.msgs_modChan {l k f} : (modChan l k f).msgs = l.msgs := rfl
@[simp] theorem LaneState.fences_modChan {l k f} : (modChan l k f).fences = l.fences := rfl
@[simp] theorem LaneState.links_modChan {l k f} : (modChan l k f).links = l.links := rfl
@[simp] theorem LaneState.pairs_modChan {l k f} : (modChan l k f).pairs = l.pairs := rfl
@[simp] theorem LaneState.l2_modChan {l k f} : (modChan l k f).l2 = l.l2 := rfl
@[simp] theorem LaneState.uStores_modChan {l k f} : (modChan l k f).uStores = l.uStores := rfl
@[simp] theorem LaneState.dm_modChan {l k f} : (modChan l k f).dm = l.dm := rfl
@[simp] theorem LaneState.aplicIn_modChan {l k f} : (modChan l k f).aplicIn = l.aplicIn := rfl
@[simp] theorem LaneState.loop_modChan {l k f} : (modChan l k f).loop = l.loop := rfl
@[simp] theorem LaneState.sieve_modChan {l k f} : (modChan l k f).sieve = l.sieve := rfl
@[simp] theorem LaneState.strata_modChan {l k f} : (modChan l k f).strata = l.strata := rfl
@[simp] theorem LaneState.ports_modChan {l k f} : (modChan l k f).ports = l.ports := rfl
@[simp] theorem LaneState.xfr_modChan {l k f} : (modChan l k f).xfr = l.xfr := rfl
@[simp] theorem LaneState.pmu_modChan {l k f} : (modChan l k f).pmu = l.pmu := rfl
@[simp] theorem LaneState.col_modChan {l k f} : (modChan l k f).col = l.col := rfl
@[simp] theorem LaneState.power_modChan {l k f} : (modChan l k f).power = l.power := rfl

@[simp] theorem LaneState.regs_modSns {l p f} : (modSns l p f).regs = l.regs := rfl
@[simp] theorem LaneState.active_modSns {l p f} : (modSns l p f).active = l.active := rfl
@[simp] theorem LaneState.mem_modSns {l p f} : (modSns l p f).mem = l.mem := rfl
@[simp] theorem LaneState.badPar_modSns {l p f} : (modSns l p f).badPar = l.badPar := rfl
@[simp] theorem LaneState.resp_modSns {l p f} : (modSns l p f).resp = l.resp := rfl
@[simp] theorem LaneState.shadowR_modSns {l p f} : (modSns l p f).shadowR = l.shadowR := rfl
@[simp] theorem LaneState.shadowW_modSns {l p f} : (modSns l p f).shadowW = l.shadowW := rfl
@[simp] theorem LaneState.lockSeq_modSns {l p f} : (modSns l p f).lockSeq = l.lockSeq := rfl
@[simp] theorem LaneState.events_modSns {l p f} : (modSns l p f).events = l.events := rfl
@[simp] theorem LaneState.msgs_modSns {l p f} : (modSns l p f).msgs = l.msgs := rfl
@[simp] theorem LaneState.fences_modSns {l p f} : (modSns l p f).fences = l.fences := rfl
@[simp] theorem LaneState.links_modSns {l p f} : (modSns l p f).links = l.links := rfl
@[simp] theorem LaneState.pairs_modSns {l p f} : (modSns l p f).pairs = l.pairs := rfl
@[simp] theorem LaneState.l2_modSns {l p f} : (modSns l p f).l2 = l.l2 := rfl
@[simp] theorem LaneState.uStores_modSns {l p f} : (modSns l p f).uStores = l.uStores := rfl
@[simp] theorem LaneState.dm_modSns {l p f} : (modSns l p f).dm = l.dm := rfl
@[simp] theorem LaneState.aplicIn_modSns {l p f} : (modSns l p f).aplicIn = l.aplicIn := rfl
@[simp] theorem LaneState.loop_modSns {l p f} : (modSns l p f).loop = l.loop := rfl
@[simp] theorem LaneState.sieve_modSns {l p f} : (modSns l p f).sieve = l.sieve := rfl
@[simp] theorem LaneState.strata_modSns {l p f} : (modSns l p f).strata = l.strata := rfl
@[simp] theorem LaneState.ports_modSns {l p f} : (modSns l p f).ports = l.ports := rfl
@[simp] theorem LaneState.xfr_modSns {l p f} : (modSns l p f).xfr = l.xfr := rfl
@[simp] theorem LaneState.pmu_modSns {l p f} : (modSns l p f).pmu = l.pmu := rfl
@[simp] theorem LaneState.col_modSns {l p f} : (modSns l p f).col = l.col := rfl
@[simp] theorem LaneState.power_modSns {l p f} : (modSns l p f).power = l.power := rfl

@[simp] theorem LaneState.regs_modAdc {l f} : (modAdc l f).regs = l.regs := rfl
@[simp] theorem LaneState.active_modAdc {l f} : (modAdc l f).active = l.active := rfl
@[simp] theorem LaneState.mem_modAdc {l f} : (modAdc l f).mem = l.mem := rfl
@[simp] theorem LaneState.badPar_modAdc {l f} : (modAdc l f).badPar = l.badPar := rfl
@[simp] theorem LaneState.resp_modAdc {l f} : (modAdc l f).resp = l.resp := rfl
@[simp] theorem LaneState.shadowR_modAdc {l f} : (modAdc l f).shadowR = l.shadowR := rfl
@[simp] theorem LaneState.shadowW_modAdc {l f} : (modAdc l f).shadowW = l.shadowW := rfl
@[simp] theorem LaneState.lockSeq_modAdc {l f} : (modAdc l f).lockSeq = l.lockSeq := rfl
@[simp] theorem LaneState.events_modAdc {l f} : (modAdc l f).events = l.events := rfl
@[simp] theorem LaneState.msgs_modAdc {l f} : (modAdc l f).msgs = l.msgs := rfl
@[simp] theorem LaneState.fences_modAdc {l f} : (modAdc l f).fences = l.fences := rfl
@[simp] theorem LaneState.links_modAdc {l f} : (modAdc l f).links = l.links := rfl
@[simp] theorem LaneState.pairs_modAdc {l f} : (modAdc l f).pairs = l.pairs := rfl
@[simp] theorem LaneState.l2_modAdc {l f} : (modAdc l f).l2 = l.l2 := rfl
@[simp] theorem LaneState.uStores_modAdc {l f} : (modAdc l f).uStores = l.uStores := rfl
@[simp] theorem LaneState.dm_modAdc {l f} : (modAdc l f).dm = l.dm := rfl
@[simp] theorem LaneState.aplicIn_modAdc {l f} : (modAdc l f).aplicIn = l.aplicIn := rfl
@[simp] theorem LaneState.loop_modAdc {l f} : (modAdc l f).loop = l.loop := rfl
@[simp] theorem LaneState.sieve_modAdc {l f} : (modAdc l f).sieve = l.sieve := rfl
@[simp] theorem LaneState.strata_modAdc {l f} : (modAdc l f).strata = l.strata := rfl
@[simp] theorem LaneState.ports_modAdc {l f} : (modAdc l f).ports = l.ports := rfl
@[simp] theorem LaneState.xfr_modAdc {l f} : (modAdc l f).xfr = l.xfr := rfl
@[simp] theorem LaneState.pmu_modAdc {l f} : (modAdc l f).pmu = l.pmu := rfl
@[simp] theorem LaneState.col_modAdc {l f} : (modAdc l f).col = l.col := rfl
@[simp] theorem LaneState.power_modAdc {l f} : (modAdc l f).power = l.power := rfl

@[simp] theorem LaneState.regs_modPort {l p f} : (modPort l p f).regs = l.regs := rfl
@[simp] theorem LaneState.active_modPort {l p f} : (modPort l p f).active = l.active := rfl
@[simp] theorem LaneState.mem_modPort {l p f} : (modPort l p f).mem = l.mem := rfl
@[simp] theorem LaneState.badPar_modPort {l p f} : (modPort l p f).badPar = l.badPar := rfl
@[simp] theorem LaneState.resp_modPort {l p f} : (modPort l p f).resp = l.resp := rfl
@[simp] theorem LaneState.shadowR_modPort {l p f} : (modPort l p f).shadowR = l.shadowR := rfl
@[simp] theorem LaneState.shadowW_modPort {l p f} : (modPort l p f).shadowW = l.shadowW := rfl
@[simp] theorem LaneState.lockSeq_modPort {l p f} : (modPort l p f).lockSeq = l.lockSeq := rfl
@[simp] theorem LaneState.events_modPort {l p f} : (modPort l p f).events = l.events := rfl
@[simp] theorem LaneState.msgs_modPort {l p f} : (modPort l p f).msgs = l.msgs := rfl
@[simp] theorem LaneState.fences_modPort {l p f} : (modPort l p f).fences = l.fences := rfl
@[simp] theorem LaneState.links_modPort {l p f} : (modPort l p f).links = l.links := rfl
@[simp] theorem LaneState.pairs_modPort {l p f} : (modPort l p f).pairs = l.pairs := rfl
@[simp] theorem LaneState.l2_modPort {l p f} : (modPort l p f).l2 = l.l2 := rfl
@[simp] theorem LaneState.uStores_modPort {l p f} : (modPort l p f).uStores = l.uStores := rfl
@[simp] theorem LaneState.dm_modPort {l p f} : (modPort l p f).dm = l.dm := rfl
@[simp] theorem LaneState.aplicIn_modPort {l p f} : (modPort l p f).aplicIn = l.aplicIn := rfl
@[simp] theorem LaneState.loop_modPort {l p f} : (modPort l p f).loop = l.loop := rfl
@[simp] theorem LaneState.sieve_modPort {l p f} : (modPort l p f).sieve = l.sieve := rfl
@[simp] theorem LaneState.feed_modPort {l p f} : (modPort l p f).feed = l.feed := rfl
@[simp] theorem LaneState.ports_modPort {l p f} : (modPort l p f).ports = l.ports := rfl
@[simp] theorem LaneState.xfr_modPort {l p f} : (modPort l p f).xfr = l.xfr := rfl
@[simp] theorem LaneState.pmu_modPort {l p f} : (modPort l p f).pmu = l.pmu := rfl
@[simp] theorem LaneState.col_modPort {l p f} : (modPort l p f).col = l.col := rfl
@[simp] theorem LaneState.power_modPort {l p f} : (modPort l p f).power = l.power := rfl

@[simp] theorem LaneState.regs_modX {l c f} : (modX l c f).regs = l.regs := rfl
@[simp] theorem LaneState.active_modX {l c f} : (modX l c f).active = l.active := rfl
@[simp] theorem LaneState.mem_modX {l c f} : (modX l c f).mem = l.mem := rfl
@[simp] theorem LaneState.badPar_modX {l c f} : (modX l c f).badPar = l.badPar := rfl
@[simp] theorem LaneState.resp_modX {l c f} : (modX l c f).resp = l.resp := rfl
@[simp] theorem LaneState.shadowR_modX {l c f} : (modX l c f).shadowR = l.shadowR := rfl
@[simp] theorem LaneState.shadowW_modX {l c f} : (modX l c f).shadowW = l.shadowW := rfl
@[simp] theorem LaneState.lockSeq_modX {l c f} : (modX l c f).lockSeq = l.lockSeq := rfl
@[simp] theorem LaneState.events_modX {l c f} : (modX l c f).events = l.events := rfl
@[simp] theorem LaneState.msgs_modX {l c f} : (modX l c f).msgs = l.msgs := rfl
@[simp] theorem LaneState.fences_modX {l c f} : (modX l c f).fences = l.fences := rfl
@[simp] theorem LaneState.links_modX {l c f} : (modX l c f).links = l.links := rfl
@[simp] theorem LaneState.pairs_modX {l c f} : (modX l c f).pairs = l.pairs := rfl
@[simp] theorem LaneState.l2_modX {l c f} : (modX l c f).l2 = l.l2 := rfl
@[simp] theorem LaneState.uStores_modX {l c f} : (modX l c f).uStores = l.uStores := rfl
@[simp] theorem LaneState.dm_modX {l c f} : (modX l c f).dm = l.dm := rfl
@[simp] theorem LaneState.aplicIn_modX {l c f} : (modX l c f).aplicIn = l.aplicIn := rfl
@[simp] theorem LaneState.loop_modX {l c f} : (modX l c f).loop = l.loop := rfl
@[simp] theorem LaneState.sieve_modX {l c f} : (modX l c f).sieve = l.sieve := rfl
@[simp] theorem LaneState.strata_modX {l c f} : (modX l c f).strata = l.strata := rfl
@[simp] theorem LaneState.feed_modX {l c f} : (modX l c f).feed = l.feed := rfl
@[simp] theorem LaneState.ports_modX {l c f} : (modX l c f).ports = l.ports := rfl
@[simp] theorem LaneState.pmu_modX {l c f} : (modX l c f).pmu = l.pmu := rfl
@[simp] theorem LaneState.col_modX {l c f} : (modX l c f).col = l.col := rfl
@[simp] theorem LaneState.power_modX {l c f} : (modX l c f).power = l.power := rfl

@[simp] theorem LaneState.regs_modCan {l n f} : (modCan l n f).regs = l.regs := rfl
@[simp] theorem LaneState.active_modCan {l n f} : (modCan l n f).active = l.active := rfl
@[simp] theorem LaneState.mem_modCan {l n f} : (modCan l n f).mem = l.mem := rfl
@[simp] theorem LaneState.badPar_modCan {l n f} : (modCan l n f).badPar = l.badPar := rfl
@[simp] theorem LaneState.resp_modCan {l n f} : (modCan l n f).resp = l.resp := rfl
@[simp] theorem LaneState.shadowR_modCan {l n f} : (modCan l n f).shadowR = l.shadowR := rfl
@[simp] theorem LaneState.shadowW_modCan {l n f} : (modCan l n f).shadowW = l.shadowW := rfl
@[simp] theorem LaneState.lockSeq_modCan {l n f} : (modCan l n f).lockSeq = l.lockSeq := rfl
@[simp] theorem LaneState.events_modCan {l n f} : (modCan l n f).events = l.events := rfl
@[simp] theorem LaneState.msgs_modCan {l n f} : (modCan l n f).msgs = l.msgs := rfl
@[simp] theorem LaneState.fences_modCan {l n f} : (modCan l n f).fences = l.fences := rfl
@[simp] theorem LaneState.links_modCan {l n f} : (modCan l n f).links = l.links := rfl
@[simp] theorem LaneState.pairs_modCan {l n f} : (modCan l n f).pairs = l.pairs := rfl
@[simp] theorem LaneState.l2_modCan {l n f} : (modCan l n f).l2 = l.l2 := rfl
@[simp] theorem LaneState.uStores_modCan {l n f} : (modCan l n f).uStores = l.uStores := rfl
@[simp] theorem LaneState.dm_modCan {l n f} : (modCan l n f).dm = l.dm := rfl
@[simp] theorem LaneState.aplicIn_modCan {l n f} : (modCan l n f).aplicIn = l.aplicIn := rfl
@[simp] theorem LaneState.loop_modCan {l n f} : (modCan l n f).loop = l.loop := rfl
@[simp] theorem LaneState.sieve_modCan {l n f} : (modCan l n f).sieve = l.sieve := rfl
@[simp] theorem LaneState.strata_modCan {l n f} : (modCan l n f).strata = l.strata := rfl
@[simp] theorem LaneState.feed_modCan {l n f} : (modCan l n f).feed = l.feed := rfl
@[simp] theorem LaneState.xfr_modCan {l n f} : (modCan l n f).xfr = l.xfr := rfl
@[simp] theorem LaneState.pmu_modCan {l n f} : (modCan l n f).pmu = l.pmu := rfl
@[simp] theorem LaneState.col_modCan {l n f} : (modCan l n f).col = l.col := rfl
@[simp] theorem LaneState.power_modCan {l n f} : (modCan l n f).power = l.power := rfl

@[simp] theorem LaneState.regs_modEth {l f} : (modEth l f).regs = l.regs := rfl
@[simp] theorem LaneState.active_modEth {l f} : (modEth l f).active = l.active := rfl
@[simp] theorem LaneState.mem_modEth {l f} : (modEth l f).mem = l.mem := rfl
@[simp] theorem LaneState.badPar_modEth {l f} : (modEth l f).badPar = l.badPar := rfl
@[simp] theorem LaneState.resp_modEth {l f} : (modEth l f).resp = l.resp := rfl
@[simp] theorem LaneState.shadowR_modEth {l f} : (modEth l f).shadowR = l.shadowR := rfl
@[simp] theorem LaneState.shadowW_modEth {l f} : (modEth l f).shadowW = l.shadowW := rfl
@[simp] theorem LaneState.lockSeq_modEth {l f} : (modEth l f).lockSeq = l.lockSeq := rfl
@[simp] theorem LaneState.events_modEth {l f} : (modEth l f).events = l.events := rfl
@[simp] theorem LaneState.msgs_modEth {l f} : (modEth l f).msgs = l.msgs := rfl
@[simp] theorem LaneState.fences_modEth {l f} : (modEth l f).fences = l.fences := rfl
@[simp] theorem LaneState.links_modEth {l f} : (modEth l f).links = l.links := rfl
@[simp] theorem LaneState.pairs_modEth {l f} : (modEth l f).pairs = l.pairs := rfl
@[simp] theorem LaneState.l2_modEth {l f} : (modEth l f).l2 = l.l2 := rfl
@[simp] theorem LaneState.uStores_modEth {l f} : (modEth l f).uStores = l.uStores := rfl
@[simp] theorem LaneState.dm_modEth {l f} : (modEth l f).dm = l.dm := rfl
@[simp] theorem LaneState.aplicIn_modEth {l f} : (modEth l f).aplicIn = l.aplicIn := rfl
@[simp] theorem LaneState.loop_modEth {l f} : (modEth l f).loop = l.loop := rfl
@[simp] theorem LaneState.sieve_modEth {l f} : (modEth l f).sieve = l.sieve := rfl
@[simp] theorem LaneState.strata_modEth {l f} : (modEth l f).strata = l.strata := rfl
@[simp] theorem LaneState.feed_modEth {l f} : (modEth l f).feed = l.feed := rfl
@[simp] theorem LaneState.xfr_modEth {l f} : (modEth l f).xfr = l.xfr := rfl
@[simp] theorem LaneState.pmu_modEth {l f} : (modEth l f).pmu = l.pmu := rfl
@[simp] theorem LaneState.col_modEth {l f} : (modEth l f).col = l.col := rfl
@[simp] theorem LaneState.power_modEth {l f} : (modEth l f).power = l.power := rfl

@[simp] theorem LaneState.regs_modTracker {l k f} : (modTracker l k f).regs = l.regs := rfl
@[simp] theorem LaneState.active_modTracker {l k f} : (modTracker l k f).active = l.active := rfl
@[simp] theorem LaneState.mem_modTracker {l k f} : (modTracker l k f).mem = l.mem := rfl
@[simp] theorem LaneState.badPar_modTracker {l k f} : (modTracker l k f).badPar = l.badPar := rfl
@[simp] theorem LaneState.resp_modTracker {l k f} : (modTracker l k f).resp = l.resp := rfl
@[simp] theorem LaneState.shadowR_modTracker {l k f} : (modTracker l k f).shadowR = l.shadowR := rfl
@[simp] theorem LaneState.shadowW_modTracker {l k f} : (modTracker l k f).shadowW = l.shadowW := rfl
@[simp] theorem LaneState.lockSeq_modTracker {l k f} : (modTracker l k f).lockSeq = l.lockSeq := rfl
@[simp] theorem LaneState.events_modTracker {l k f} : (modTracker l k f).events = l.events := rfl
@[simp] theorem LaneState.msgs_modTracker {l k f} : (modTracker l k f).msgs = l.msgs := rfl
@[simp] theorem LaneState.fences_modTracker {l k f} : (modTracker l k f).fences = l.fences := rfl
@[simp] theorem LaneState.links_modTracker {l k f} : (modTracker l k f).links = l.links := rfl
@[simp] theorem LaneState.pairs_modTracker {l k f} : (modTracker l k f).pairs = l.pairs := rfl
@[simp] theorem LaneState.l2_modTracker {l k f} : (modTracker l k f).l2 = l.l2 := rfl
@[simp] theorem LaneState.uStores_modTracker {l k f} : (modTracker l k f).uStores = l.uStores := rfl
@[simp] theorem LaneState.dm_modTracker {l k f} : (modTracker l k f).dm = l.dm := rfl
@[simp] theorem LaneState.aplicIn_modTracker {l k f} : (modTracker l k f).aplicIn = l.aplicIn := rfl
@[simp] theorem LaneState.sieve_modTracker {l k f} : (modTracker l k f).sieve = l.sieve := rfl
@[simp] theorem LaneState.strata_modTracker {l k f} : (modTracker l k f).strata = l.strata := rfl
@[simp] theorem LaneState.feed_modTracker {l k f} : (modTracker l k f).feed = l.feed := rfl
@[simp] theorem LaneState.ports_modTracker {l k f} : (modTracker l k f).ports = l.ports := rfl
@[simp] theorem LaneState.xfr_modTracker {l k f} : (modTracker l k f).xfr = l.xfr := rfl
@[simp] theorem LaneState.pmu_modTracker {l k f} : (modTracker l k f).pmu = l.pmu := rfl
@[simp] theorem LaneState.col_modTracker {l k f} : (modTracker l k f).col = l.col := rfl
@[simp] theorem LaneState.power_modTracker {l k f} : (modTracker l k f).power = l.power := rfl

@[simp] theorem LaneState.regs_setSampler {l p m} : (setSampler l p m).regs = l.regs := rfl
@[simp] theorem LaneState.active_setSampler {l p m} : (setSampler l p m).active = l.active := rfl
@[simp] theorem LaneState.mem_setSampler {l p m} : (setSampler l p m).mem = l.mem := rfl
@[simp] theorem LaneState.badPar_setSampler {l p m} : (setSampler l p m).badPar = l.badPar := rfl
@[simp] theorem LaneState.resp_setSampler {l p m} : (setSampler l p m).resp = l.resp := rfl
@[simp] theorem LaneState.shadowR_setSampler {l p m} : (setSampler l p m).shadowR = l.shadowR := rfl
@[simp] theorem LaneState.shadowW_setSampler {l p m} : (setSampler l p m).shadowW = l.shadowW := rfl
@[simp] theorem LaneState.lockSeq_setSampler {l p m} : (setSampler l p m).lockSeq = l.lockSeq := rfl
@[simp] theorem LaneState.events_setSampler {l p m} : (setSampler l p m).events = l.events := rfl
@[simp] theorem LaneState.msgs_setSampler {l p m} : (setSampler l p m).msgs = l.msgs := rfl
@[simp] theorem LaneState.fences_setSampler {l p m} : (setSampler l p m).fences = l.fences := rfl
@[simp] theorem LaneState.links_setSampler {l p m} : (setSampler l p m).links = l.links := rfl
@[simp] theorem LaneState.pairs_setSampler {l p m} : (setSampler l p m).pairs = l.pairs := rfl
@[simp] theorem LaneState.l2_setSampler {l p m} : (setSampler l p m).l2 = l.l2 := rfl
@[simp] theorem LaneState.uStores_setSampler {l p m} : (setSampler l p m).uStores = l.uStores := rfl
@[simp] theorem LaneState.dm_setSampler {l p m} : (setSampler l p m).dm = l.dm := rfl
@[simp] theorem LaneState.aplicIn_setSampler {l p m} : (setSampler l p m).aplicIn = l.aplicIn := rfl
@[simp] theorem LaneState.loop_setSampler {l p m} : (setSampler l p m).loop = l.loop := rfl
@[simp] theorem LaneState.sieve_setSampler {l p m} : (setSampler l p m).sieve = l.sieve := rfl
@[simp] theorem LaneState.strata_setSampler {l p m} : (setSampler l p m).strata = l.strata := rfl
@[simp] theorem LaneState.feed_setSampler {l p m} : (setSampler l p m).feed = l.feed := rfl
@[simp] theorem LaneState.ports_setSampler {l p m} : (setSampler l p m).ports = l.ports := rfl
@[simp] theorem LaneState.xfr_setSampler {l p m} : (setSampler l p m).xfr = l.xfr := rfl
@[simp] theorem LaneState.col_setSampler {l p m} : (setSampler l p m).col = l.col := rfl
@[simp] theorem LaneState.power_setSampler {l p m} : (setSampler l p m).power = l.power := rfl

@[simp] theorem LaneState.regs_setBoot {l b} : (setBoot l b).regs = l.regs := rfl
@[simp] theorem LaneState.active_setBoot {l b} : (setBoot l b).active = l.active := rfl
@[simp] theorem LaneState.mem_setBoot {l b} : (setBoot l b).mem = l.mem := rfl
@[simp] theorem LaneState.badPar_setBoot {l b} : (setBoot l b).badPar = l.badPar := rfl
@[simp] theorem LaneState.resp_setBoot {l b} : (setBoot l b).resp = l.resp := rfl
@[simp] theorem LaneState.shadowR_setBoot {l b} : (setBoot l b).shadowR = l.shadowR := rfl
@[simp] theorem LaneState.shadowW_setBoot {l b} : (setBoot l b).shadowW = l.shadowW := rfl
@[simp] theorem LaneState.lockSeq_setBoot {l b} : (setBoot l b).lockSeq = l.lockSeq := rfl
@[simp] theorem LaneState.events_setBoot {l b} : (setBoot l b).events = l.events := rfl
@[simp] theorem LaneState.msgs_setBoot {l b} : (setBoot l b).msgs = l.msgs := rfl
@[simp] theorem LaneState.fences_setBoot {l b} : (setBoot l b).fences = l.fences := rfl
@[simp] theorem LaneState.links_setBoot {l b} : (setBoot l b).links = l.links := rfl
@[simp] theorem LaneState.pairs_setBoot {l b} : (setBoot l b).pairs = l.pairs := rfl
@[simp] theorem LaneState.l2_setBoot {l b} : (setBoot l b).l2 = l.l2 := rfl
@[simp] theorem LaneState.uStores_setBoot {l b} : (setBoot l b).uStores = l.uStores := rfl
@[simp] theorem LaneState.dm_setBoot {l b} : (setBoot l b).dm = l.dm := rfl
@[simp] theorem LaneState.aplicIn_setBoot {l b} : (setBoot l b).aplicIn = l.aplicIn := rfl
@[simp] theorem LaneState.loop_setBoot {l b} : (setBoot l b).loop = l.loop := rfl
@[simp] theorem LaneState.sieve_setBoot {l b} : (setBoot l b).sieve = l.sieve := rfl
@[simp] theorem LaneState.strata_setBoot {l b} : (setBoot l b).strata = l.strata := rfl
@[simp] theorem LaneState.feed_setBoot {l b} : (setBoot l b).feed = l.feed := rfl
@[simp] theorem LaneState.ports_setBoot {l b} : (setBoot l b).ports = l.ports := rfl
@[simp] theorem LaneState.xfr_setBoot {l b} : (setBoot l b).xfr = l.xfr := rfl
@[simp] theorem LaneState.pmu_setBoot {l b} : (setBoot l b).pmu = l.pmu := rfl
@[simp] theorem LaneState.col_setBoot {l b} : (setBoot l b).col = l.col := rfl

@[simp] theorem State.a_modBed {s f} : (modBed s f).a = s.a := rfl
@[simp] theorem State.b_modBed {s f} : (modBed s f).b = s.b := rfl
@[simp] theorem State.brg_modBed {s f} : (modBed s f).brg = s.brg := rfl
@[simp] theorem State.nowUs_modBed {s f} : (modBed s f).nowUs = s.nowUs := rfl
@[simp] theorem State.freeCtr_modBed {s f} : (modBed s f).freeCtr = s.freeCtr := rfl
@[simp] theorem State.pending_modBed {s f} : (modBed s f).pending = s.pending := rfl

@[simp] theorem State.a_modBrg {s f} : (modBrg s f).a = s.a := rfl
@[simp] theorem State.b_modBrg {s f} : (modBrg s f).b = s.b := rfl
@[simp] theorem State.bed_modBrg {s f} : (modBrg s f).bed = s.bed := rfl
@[simp] theorem State.nowUs_modBrg {s f} : (modBrg s f).nowUs = s.nowUs := rfl
@[simp] theorem State.freeCtr_modBrg {s f} : (modBrg s f).freeCtr = s.freeCtr := rfl
@[simp] theorem State.pending_modBrg {s f} : (modBrg s f).pending = s.pending := rfl

@[simp] theorem State.bed_modLanes {s f} : (modLanes s f).bed = s.bed := rfl
@[simp] theorem State.brg_modLanes {s f} : (modLanes s f).brg = s.brg := rfl
@[simp] theorem State.nowUs_modLanes {s f} : (modLanes s f).nowUs = s.nowUs := rfl
@[simp] theorem State.freeCtr_modLanes {s f} : (modLanes s f).freeCtr = s.freeCtr := rfl
@[simp] theorem State.pending_modLanes {s f} : (modLanes s f).pending = s.pending := rfl

@[simp] theorem State.a_freeNext {s} : (freeNext s).a = s.a := rfl
@[simp] theorem State.b_freeNext {s} : (freeNext s).b = s.b := rfl
@[simp] theorem State.bed_freeNext {s} : (freeNext s).bed = s.bed := rfl
@[simp] theorem State.brg_freeNext {s} : (freeNext s).brg = s.brg := rfl
@[simp] theorem State.nowUs_freeNext {s} : (freeNext s).nowUs = s.nowUs := rfl
@[simp] theorem State.pending_freeNext {s} : (freeNext s).pending = s.pending := rfl

@[simp] theorem State.a_tick {s} : (tick s).a = s.a := rfl
@[simp] theorem State.b_tick {s} : (tick s).b = s.b := rfl
@[simp] theorem State.brg_tick {s} : (tick s).brg = s.brg := rfl
@[simp] theorem State.freeCtr_tick {s} : (tick s).freeCtr = s.freeCtr := rfl
@[simp] theorem State.pending_tick {s} : (tick s).pending = s.pending := rfl

@[simp] theorem State.a_bput {s f v} : (bput s f v).a = s.a := rfl
@[simp] theorem State.b_bput {s f v} : (bput s f v).b = s.b := rfl
@[simp] theorem State.brg_bput {s f v} : (bput s f v).brg = s.brg := rfl
@[simp] theorem State.nowUs_bput {s f v} : (bput s f v).nowUs = s.nowUs := rfl
@[simp] theorem State.freeCtr_bput {s f v} : (bput s f v).freeCtr = s.freeCtr := rfl
@[simp] theorem State.pending_bput {s f v} : (bput s f v).pending = s.pending := rfl

@[simp] theorem State.a_bbump {s f v} : (bbump s f v).a = s.a := rfl
@[simp] theorem State.b_bbump {s f v} : (bbump s f v).b = s.b := rfl
@[simp] theorem State.brg_bbump {s f v} : (bbump s f v).brg = s.brg := rfl
@[simp] theorem State.nowUs_bbump {s f v} : (bbump s f v).nowUs = s.nowUs := rfl
@[simp] theorem State.freeCtr_bbump {s f v} : (bbump s f v).freeCtr = s.freeCtr := rfl
@[simp] theorem State.pending_bbump {s f v} : (bbump s f v).pending = s.pending := rfl

@[simp] theorem State.a_bedRaise {s k} : (bedRaise s k).a = s.a := rfl
@[simp] theorem State.b_bedRaise {s k} : (bedRaise s k).b = s.b := rfl
@[simp] theorem State.brg_bedRaise {s k} : (bedRaise s k).brg = s.brg := rfl
@[simp] theorem State.nowUs_bedRaise {s k} : (bedRaise s k).nowUs = s.nowUs := rfl
@[simp] theorem State.freeCtr_bedRaise {s k} : (bedRaise s k).freeCtr = s.freeCtr := rfl
@[simp] theorem State.pending_bedRaise {s k} : (bedRaise s k).pending = s.pending := rfl

@[simp] theorem State.a_bedRaiseFor {s k x} : (bedRaiseFor s k x).a = s.a := rfl
@[simp] theorem State.b_bedRaiseFor {s k x} : (bedRaiseFor s k x).b = s.b := rfl
@[simp] theorem State.brg_bedRaiseFor {s k x} : (bedRaiseFor s k x).brg = s.brg := rfl
@[simp] theorem State.nowUs_bedRaiseFor {s k x} : (bedRaiseFor s k x).nowUs = s.nowUs := rfl
@[simp] theorem State.freeCtr_bedRaiseFor {s k x} : (bedRaiseFor s k x).freeCtr = s.freeCtr := rfl
@[simp] theorem State.pending_bedRaiseFor {s k x} : (bedRaiseFor s k x).pending = s.pending := rfl

@[simp] theorem State.bed_irqPulseBoth {s b m} : (irqPulseBoth s b m).bed = s.bed := rfl
@[simp] theorem State.brg_irqPulseBoth {s b m} : (irqPulseBoth s b m).brg = s.brg := rfl
@[simp] theorem State.nowUs_irqPulseBoth {s b m} : (irqPulseBoth s b m).nowUs = s.nowUs := rfl
@[simp] theorem State.freeCtr_irqPulseBoth {s b m} : (irqPulseBoth s b m).freeCtr = s.freeCtr := rfl
@[simp] theorem State.pending_irqPulseBoth {s b m} : (irqPulseBoth s b m).pending = s.pending := rfl

@[simp] theorem State.bed_irqLevelBoth {s b i v} : (irqLevelBoth s b i v).bed = s.bed := rfl
@[simp] theorem State.brg_irqLevelBoth {s b i v} : (irqLevelBoth s b i v).brg = s.brg := rfl
@[simp] theorem State.nowUs_irqLevelBoth {s b i v} : (irqLevelBoth s b i v).nowUs = s.nowUs := rfl
@[simp] theorem State.freeCtr_irqLevelBoth {s b i v} : (irqLevelBoth s b i v).freeCtr = s.freeCtr := rfl
@[simp] theorem State.pending_irqLevelBoth {s b i v} : (irqLevelBoth s b i v).pending = s.pending := rfl

@[simp] theorem State.bed_attention {s} : (attention s).bed = s.bed := rfl
@[simp] theorem State.brg_attention {s} : (attention s).brg = s.brg := rfl
@[simp] theorem State.nowUs_attention {s} : (attention s).nowUs = s.nowUs := rfl
@[simp] theorem State.freeCtr_attention {s} : (attention s).freeCtr = s.freeCtr := rfl
@[simp] theorem State.pending_attention {s} : (attention s).pending = s.pending := rfl

@[simp] theorem State.a_modUnit {s n f} : (modUnit s n f).a = s.a := rfl
@[simp] theorem State.b_modUnit {s n f} : (modUnit s n f).b = s.b := rfl
@[simp] theorem State.bed_modUnit {s n f} : (modUnit s n f).bed = s.bed := rfl
@[simp] theorem State.nowUs_modUnit {s n f} : (modUnit s n f).nowUs = s.nowUs := rfl
@[simp] theorem State.freeCtr_modUnit {s n f} : (modUnit s n f).freeCtr = s.freeCtr := rfl
@[simp] theorem State.pending_modUnit {s n f} : (modUnit s n f).pending = s.pending := rfl

@[simp] theorem State.a_modEval {s e f} : (modEval s e f).a = s.a := rfl
@[simp] theorem State.b_modEval {s e f} : (modEval s e f).b = s.b := rfl
@[simp] theorem State.brg_modEval {s e f} : (modEval s e f).brg = s.brg := rfl
@[simp] theorem State.nowUs_modEval {s e f} : (modEval s e f).nowUs = s.nowUs := rfl
@[simp] theorem State.freeCtr_modEval {s e f} : (modEval s e f).freeCtr = s.freeCtr := rfl
@[simp] theorem State.pending_modEval {s e f} : (modEval s e f).pending = s.pending := rfl

@[simp] theorem State.a_modSafety {s f} : (modSafety s f).a = s.a := rfl
@[simp] theorem State.b_modSafety {s f} : (modSafety s f).b = s.b := rfl
@[simp] theorem State.brg_modSafety {s f} : (modSafety s f).brg = s.brg := rfl
@[simp] theorem State.nowUs_modSafety {s f} : (modSafety s f).nowUs = s.nowUs := rfl
@[simp] theorem State.freeCtr_modSafety {s f} : (modSafety s f).freeCtr = s.freeCtr := rfl
@[simp] theorem State.pending_modSafety {s f} : (modSafety s f).pending = s.pending := rfl

@[simp] theorem State.bed_modBed (s : State) (f : BedState → BedState) : (s.modBed f).bed = f s.bed := rfl
@[simp] theorem State.brg_modBrg (s : State) (f : BrgState → BrgState) : (s.modBrg f).brg = f s.brg := rfl
@[simp] theorem State.a_modLanes (s : State) (f : LaneState → LaneState) : (s.modLanes f).a = f s.a := rfl
@[simp] theorem State.b_modLanes (s : State) (f : LaneState → LaneState) : (s.modLanes f).b = f s.b := rfl
@[simp] theorem State.lane_modLanes (s : State) (f : LaneState → LaneState) (x : Lane) :
    (s.modLanes f).lane x = f (s.lane x) := by cases x <;> rfl
@[simp] theorem State.lane_setLane_same (s : State) (x : Lane) (l : LaneState) : (s.setLane x l).lane x = l := by cases x <;> rfl
@[simp] theorem State.lane_modLane_same (s : State) (x : Lane) (f : LaneState → LaneState) :
    (s.modLane x f).lane x = f (s.lane x) := by cases x <;> rfl
@[simp] theorem State.lane_setLane_peer (s : State) (x : Lane) (l : LaneState) :
    (s.setLane x l).lane x.peer = s.lane x.peer := by cases x <;> rfl
@[simp] theorem State.lane_modLane_peer (s : State) (x : Lane) (f : LaneState → LaneState) :
    (s.modLane x f).lane x.peer = s.lane x.peer := by cases x <;> rfl
@[simp] theorem State.lane_peer_setLane (s : State) (x : Lane) (l : LaneState) :
    (s.setLane x.peer l).lane x = s.lane x := by cases x <;> rfl
@[simp] theorem Lane.peer_peer (x : Lane) : x.peer.peer = x := by cases x <;> rfl
@[simp] theorem State.lane_modBed (s : State) (f : BedState → BedState) (x : Lane) : (s.modBed f).lane x = s.lane x := by cases x <;> rfl
@[simp] theorem State.lane_modBrg (s : State) (f : BrgState → BrgState) (x : Lane) : (s.modBrg f).lane x = s.lane x := by cases x <;> rfl
@[simp] theorem State.lane_bput (s : State) (f : Fld) (v : Nat) (x : Lane) : (s.bput f v).lane x = s.lane x := by cases x <;> rfl
@[simp] theorem State.lane_bbump (s : State) (f : Fld) (v : Nat) (x : Lane) : (s.bbump f v).lane x = s.lane x := by cases x <;> rfl
@[simp] theorem State.lane_bedRaise (s : State) (k : Nat) (x : Lane) : (s.bedRaise k).lane x = s.lane x := by cases x <;> rfl
@[simp] theorem State.lane_freeNext (s : State) (x : Lane) : s.freeNext.lane x = s.lane x := by cases x <;> rfl
@[simp] theorem State.lane_tick (s : State) (x : Lane) : s.tick.lane x = s.lane x := by cases x <;> rfl

@[simp] theorem State.bed_setLane (s : State) (x : Lane) (l : LaneState) : (s.setLane x l).bed = s.bed := by cases x <;> rfl
@[simp] theorem State.bed_modLane (s : State) (x : Lane) (f : LaneState → LaneState) : (s.modLane x f).bed = s.bed := by cases x <;> rfl
@[simp] theorem State.brg_setLane (s : State) (x : Lane) (l : LaneState) : (s.setLane x l).brg = s.brg := by cases x <;> rfl
@[simp] theorem State.brg_modLane (s : State) (x : Lane) (f : LaneState → LaneState) : (s.modLane x f).brg = s.brg := by cases x <;> rfl
@[simp] theorem State.nowUs_setLane (s : State) (x : Lane) (l : LaneState) : (s.setLane x l).nowUs = s.nowUs := by cases x <;> rfl
@[simp] theorem State.nowUs_modLane (s : State) (x : Lane) (f : LaneState → LaneState) : (s.modLane x f).nowUs = s.nowUs := by cases x <;> rfl
@[simp] theorem State.freeCtr_setLane (s : State) (x : Lane) (l : LaneState) : (s.setLane x l).freeCtr = s.freeCtr := by cases x <;> rfl
@[simp] theorem State.freeCtr_modLane (s : State) (x : Lane) (f : LaneState → LaneState) : (s.modLane x f).freeCtr = s.freeCtr := by cases x <;> rfl
@[simp] theorem State.pending_setLane (s : State) (x : Lane) (l : LaneState) : (s.setLane x l).pending = s.pending := by cases x <;> rfl
@[simp] theorem State.pending_modLane (s : State) (x : Lane) (f : LaneState → LaneState) : (s.modLane x f).pending = s.pending := by cases x <;> rfl

@[simp] theorem BedState.on_wr {t a w} : (wr t a w).on = t.on := rfl
@[simp] theorem BedState.reqA_wr {t a w} : (wr t a w).reqA = t.reqA := rfl
@[simp] theorem BedState.reqB_wr {t a w} : (wr t a w).reqB = t.reqB := rfl
@[simp] theorem BedState.events_wr {t a w} : (wr t a w).events = t.events := rfl
@[simp] theorem BedState.negA_wr {t a w} : (wr t a w).negA = t.negA := rfl
@[simp] theorem BedState.negB_wr {t a w} : (wr t a w).negB = t.negB := rfl
@[simp] theorem BedState.leaseAt_wr {t a w} : (wr t a w).leaseAt = t.leaseAt := rfl
@[simp] theorem BedState.selSeq_wr {t a w} : (wr t a w).selSeq = t.selSeq := rfl
@[simp] theorem BedState.selOut_wr {t a w} : (wr t a w).selOut = t.selOut := rfl
@[simp] theorem BedState.selWire_wr {t a w} : (wr t a w).selWire = t.selWire := rfl
@[simp] theorem BedState.ackWire_wr {t a w} : (wr t a w).ackWire = t.ackWire := rfl
@[simp] theorem BedState.domSeq_wr {t a w} : (wr t a w).domSeq = t.domSeq := rfl
@[simp] theorem BedState.firstNow_wr {t a w} : (wr t a w).firstNow = t.firstNow := rfl
@[simp] theorem BedState.clockOff_wr {t a w} : (wr t a w).clockOff = t.clockOff := rfl
@[simp] theorem BedState.btime_wr {t a w} : (wr t a w).btime = t.btime := rfl
@[simp] theorem BedState.grant_wr {t a w} : (wr t a w).grant = t.grant := rfl
@[simp] theorem BedState.hand_wr {t a w} : (wr t a w).hand = t.hand := rfl
@[simp] theorem BedState.tstd_wr {t a w} : (wr t a w).tstd = t.tstd := rfl
@[simp] theorem BedState.wires_wr {t a w} : (wr t a w).wires = t.wires := rfl
@[simp] theorem BedState.safety_wr {t a w} : (wr t a w).safety = t.safety := rfl
@[simp] theorem BrgState.lockSeq_wr {t a w} : (wr t a w).lockSeq = t.lockSeq := rfl
@[simp] theorem BrgState.rxA_wr {t a w} : (wr t a w).rxA = t.rxA := rfl
@[simp] theorem BrgState.rxB_wr {t a w} : (wr t a w).rxB = t.rxB := rfl
@[simp] theorem BrgState.seqA_wr {t a w} : (wr t a w).seqA = t.seqA := rfl
@[simp] theorem BrgState.seqB_wr {t a w} : (wr t a w).seqB = t.seqB := rfl
@[simp] theorem BrgState.sentA_wr {t a w} : (wr t a w).sentA = t.sentA := rfl
@[simp] theorem BrgState.sentB_wr {t a w} : (wr t a w).sentB = t.sentB := rfl
@[simp] theorem BrgState.stA_wr {t a w} : (wr t a w).stA = t.stA := rfl
@[simp] theorem BrgState.stB_wr {t a w} : (wr t a w).stB = t.stB := rfl
@[simp] theorem BrgState.units_wr {t a w} : (wr t a w).units = t.units := rfl
@[simp] theorem BrgState.selExpect_wr {t a w} : (wr t a w).selExpect = t.selExpect := rfl
@[simp] theorem BrgState.pllHold_wr {t a w} : (wr t a w).pllHold = t.pllHold := rfl
@[simp] theorem BrgState.locked_wr {t a w} : (wr t a w).locked = t.locked := rfl
@[simp] theorem BrgState.envCopy_wr {t a w} : (wr t a w).envCopy = t.envCopy := rfl
@[simp] theorem BrgState.sampleK_wr {t a w} : (wr t a w).sampleK = t.sampleK := rfl
@[simp] theorem BrgState.strapped_wr {t a w} : (wr t a w).strapped = t.strapped := rfl
@[simp] theorem BrgState.pcnt_wr {t a w} : (wr t a w).pcnt = t.pcnt := rfl
@[simp] theorem BrgState.fresh_wr {t a w} : (wr t a w).fresh = t.fresh := rfl
@[simp] theorem BedState.on_put {t f v} : (put t f v).on = t.on := rfl
@[simp] theorem BedState.reqA_put {t f v} : (put t f v).reqA = t.reqA := rfl
@[simp] theorem BedState.reqB_put {t f v} : (put t f v).reqB = t.reqB := rfl
@[simp] theorem BedState.events_put {t f v} : (put t f v).events = t.events := rfl
@[simp] theorem BedState.negA_put {t f v} : (put t f v).negA = t.negA := rfl
@[simp] theorem BedState.negB_put {t f v} : (put t f v).negB = t.negB := rfl
@[simp] theorem BedState.leaseAt_put {t f v} : (put t f v).leaseAt = t.leaseAt := rfl
@[simp] theorem BedState.selSeq_put {t f v} : (put t f v).selSeq = t.selSeq := rfl
@[simp] theorem BedState.selOut_put {t f v} : (put t f v).selOut = t.selOut := rfl
@[simp] theorem BedState.selWire_put {t f v} : (put t f v).selWire = t.selWire := rfl
@[simp] theorem BedState.ackWire_put {t f v} : (put t f v).ackWire = t.ackWire := rfl
@[simp] theorem BedState.domSeq_put {t f v} : (put t f v).domSeq = t.domSeq := rfl
@[simp] theorem BedState.firstNow_put {t f v} : (put t f v).firstNow = t.firstNow := rfl
@[simp] theorem BedState.clockOff_put {t f v} : (put t f v).clockOff = t.clockOff := rfl
@[simp] theorem BedState.btime_put {t f v} : (put t f v).btime = t.btime := rfl
@[simp] theorem BedState.grant_put {t f v} : (put t f v).grant = t.grant := rfl
@[simp] theorem BedState.hand_put {t f v} : (put t f v).hand = t.hand := rfl
@[simp] theorem BedState.tstd_put {t f v} : (put t f v).tstd = t.tstd := rfl
@[simp] theorem BedState.wires_put {t f v} : (put t f v).wires = t.wires := rfl
@[simp] theorem BedState.safety_put {t f v} : (put t f v).safety = t.safety := rfl
@[simp] theorem BrgState.lockSeq_put {t f v} : (put t f v).lockSeq = t.lockSeq := rfl
@[simp] theorem BrgState.rxA_put {t f v} : (put t f v).rxA = t.rxA := rfl
@[simp] theorem BrgState.rxB_put {t f v} : (put t f v).rxB = t.rxB := rfl
@[simp] theorem BrgState.seqA_put {t f v} : (put t f v).seqA = t.seqA := rfl
@[simp] theorem BrgState.seqB_put {t f v} : (put t f v).seqB = t.seqB := rfl
@[simp] theorem BrgState.sentA_put {t f v} : (put t f v).sentA = t.sentA := rfl
@[simp] theorem BrgState.sentB_put {t f v} : (put t f v).sentB = t.sentB := rfl
@[simp] theorem BrgState.stA_put {t f v} : (put t f v).stA = t.stA := rfl
@[simp] theorem BrgState.stB_put {t f v} : (put t f v).stB = t.stB := rfl
@[simp] theorem BrgState.units_put {t f v} : (put t f v).units = t.units := rfl
@[simp] theorem BrgState.selExpect_put {t f v} : (put t f v).selExpect = t.selExpect := rfl
@[simp] theorem BrgState.pllHold_put {t f v} : (put t f v).pllHold = t.pllHold := rfl
@[simp] theorem BrgState.locked_put {t f v} : (put t f v).locked = t.locked := rfl
@[simp] theorem BrgState.envCopy_put {t f v} : (put t f v).envCopy = t.envCopy := rfl
@[simp] theorem BrgState.sampleK_put {t f v} : (put t f v).sampleK = t.sampleK := rfl
@[simp] theorem BrgState.strapped_put {t f v} : (put t f v).strapped = t.strapped := rfl
@[simp] theorem BrgState.pcnt_put {t f v} : (put t f v).pcnt = t.pcnt := rfl
@[simp] theorem BrgState.fresh_put {t f v} : (put t f v).fresh = t.fresh := rfl
@[simp] theorem BedState.on_bump {t f v} : (bump t f v).on = t.on := rfl
@[simp] theorem BedState.reqA_bump {t f v} : (bump t f v).reqA = t.reqA := rfl
@[simp] theorem BedState.reqB_bump {t f v} : (bump t f v).reqB = t.reqB := rfl
@[simp] theorem BedState.events_bump {t f v} : (bump t f v).events = t.events := rfl
@[simp] theorem BedState.negA_bump {t f v} : (bump t f v).negA = t.negA := rfl
@[simp] theorem BedState.negB_bump {t f v} : (bump t f v).negB = t.negB := rfl
@[simp] theorem BedState.leaseAt_bump {t f v} : (bump t f v).leaseAt = t.leaseAt := rfl
@[simp] theorem BedState.selSeq_bump {t f v} : (bump t f v).selSeq = t.selSeq := rfl
@[simp] theorem BedState.selOut_bump {t f v} : (bump t f v).selOut = t.selOut := rfl
@[simp] theorem BedState.selWire_bump {t f v} : (bump t f v).selWire = t.selWire := rfl
@[simp] theorem BedState.ackWire_bump {t f v} : (bump t f v).ackWire = t.ackWire := rfl
@[simp] theorem BedState.domSeq_bump {t f v} : (bump t f v).domSeq = t.domSeq := rfl
@[simp] theorem BedState.firstNow_bump {t f v} : (bump t f v).firstNow = t.firstNow := rfl
@[simp] theorem BedState.clockOff_bump {t f v} : (bump t f v).clockOff = t.clockOff := rfl
@[simp] theorem BedState.btime_bump {t f v} : (bump t f v).btime = t.btime := rfl
@[simp] theorem BedState.grant_bump {t f v} : (bump t f v).grant = t.grant := rfl
@[simp] theorem BedState.hand_bump {t f v} : (bump t f v).hand = t.hand := rfl
@[simp] theorem BedState.tstd_bump {t f v} : (bump t f v).tstd = t.tstd := rfl
@[simp] theorem BedState.wires_bump {t f v} : (bump t f v).wires = t.wires := rfl
@[simp] theorem BedState.safety_bump {t f v} : (bump t f v).safety = t.safety := rfl
@[simp] theorem BrgState.lockSeq_bump {t f v} : (bump t f v).lockSeq = t.lockSeq := rfl
@[simp] theorem BrgState.rxA_bump {t f v} : (bump t f v).rxA = t.rxA := rfl
@[simp] theorem BrgState.rxB_bump {t f v} : (bump t f v).rxB = t.rxB := rfl
@[simp] theorem BrgState.seqA_bump {t f v} : (bump t f v).seqA = t.seqA := rfl
@[simp] theorem BrgState.seqB_bump {t f v} : (bump t f v).seqB = t.seqB := rfl
@[simp] theorem BrgState.sentA_bump {t f v} : (bump t f v).sentA = t.sentA := rfl
@[simp] theorem BrgState.sentB_bump {t f v} : (bump t f v).sentB = t.sentB := rfl
@[simp] theorem BrgState.stA_bump {t f v} : (bump t f v).stA = t.stA := rfl
@[simp] theorem BrgState.stB_bump {t f v} : (bump t f v).stB = t.stB := rfl
@[simp] theorem BrgState.units_bump {t f v} : (bump t f v).units = t.units := rfl
@[simp] theorem BrgState.selExpect_bump {t f v} : (bump t f v).selExpect = t.selExpect := rfl
@[simp] theorem BrgState.pllHold_bump {t f v} : (bump t f v).pllHold = t.pllHold := rfl
@[simp] theorem BrgState.locked_bump {t f v} : (bump t f v).locked = t.locked := rfl
@[simp] theorem BrgState.envCopy_bump {t f v} : (bump t f v).envCopy = t.envCopy := rfl
@[simp] theorem BrgState.sampleK_bump {t f v} : (bump t f v).sampleK = t.sampleK := rfl
@[simp] theorem BrgState.strapped_bump {t f v} : (bump t f v).strapped = t.strapped := rfl
@[simp] theorem BrgState.pcnt_bump {t f v} : (bump t f v).pcnt = t.pcnt := rfl
@[simp] theorem BrgState.fresh_bump {t f v} : (bump t f v).fresh = t.fresh := rfl

/-! ### Registers through updates of other fields -/

@[simp] theorem LaneState.rd_setByte {l a v q} : (setByte l a v).rd q = l.rd q := rfl
@[simp] theorem LaneState.get_setByte {l a v fl} : (setByte l a v).get fl = l.get fl := rfl
@[simp] theorem LaneState.rd_modLoop {l f q} : (modLoop l f).rd q = l.rd q := rfl
@[simp] theorem LaneState.get_modLoop {l f fl} : (modLoop l f).get fl = l.get fl := rfl
@[simp] theorem LaneState.rd_modEng {l f q} : (modEng l f).rd q = l.rd q := rfl
@[simp] theorem LaneState.get_modEng {l f fl} : (modEng l f).get fl = l.get fl := rfl
@[simp] theorem LaneState.rd_raise {l k q} : (raise l k).rd q = l.rd q := rfl
@[simp] theorem LaneState.get_raise {l k fl} : (raise l k).get fl = l.get fl := rfl
@[simp] theorem LaneState.rd_raiseAt {l k u q} : (raiseAt l k u).rd q = l.rd q := rfl
@[simp] theorem LaneState.get_raiseAt {l k u fl} : (raiseAt l k u).get fl = l.get fl := rfl
@[simp] theorem LaneState.rd_respond {l g r q} : (respond l g r).rd q = l.rd q := rfl
@[simp] theorem LaneState.get_respond {l g r fl} : (respond l g r).get fl = l.get fl := rfl
@[simp] theorem LaneState.rd_modPair {l p f q} : (modPair l p f).rd q = l.rd q := rfl
@[simp] theorem LaneState.get_modPair {l p f fl} : (modPair l p f).get fl = l.get fl := rfl
@[simp] theorem LaneState.rd_setL2 {l n d q} : (setL2 l n d).rd q = l.rd q := rfl
@[simp] theorem LaneState.get_setL2 {l n d fl} : (setL2 l n d).get fl = l.get fl := rfl
@[simp] theorem LaneState.rd_modPower {l f q} : (modPower l f).rd q = l.rd q := rfl
@[simp] theorem LaneState.get_modPower {l f fl} : (modPower l f).get fl = l.get fl := rfl
@[simp] theorem LaneState.rd_modSieve {l f q} : (modSieve l f).rd q = l.rd q := rfl
@[simp] theorem LaneState.get_modSieve {l f fl} : (modSieve l f).get fl = l.get fl := rfl
@[simp] theorem LaneState.rd_modFeed {l f q} : (modFeed l f).rd q = l.rd q := rfl
@[simp] theorem LaneState.get_modFeed {l f fl} : (modFeed l f).get fl = l.get fl := rfl
@[simp] theorem LaneState.rd_modChan {l k f q} : (modChan l k f).rd q = l.rd q := rfl
@[simp] theorem LaneState.get_modChan {l k f fl} : (modChan l k f).get fl = l.get fl := rfl
@[simp] theorem LaneState.rd_modSns {l p f q} : (modSns l p f).rd q = l.rd q := rfl
@[simp] theorem LaneState.get_modSns {l p f fl} : (modSns l p f).get fl = l.get fl := rfl
@[simp] theorem LaneState.rd_modAdc {l f q} : (modAdc l f).rd q = l.rd q := rfl
@[simp] theorem LaneState.get_modAdc {l f fl} : (modAdc l f).get fl = l.get fl := rfl
@[simp] theorem LaneState.rd_modPort {l p f q} : (modPort l p f).rd q = l.rd q := rfl
@[simp] theorem LaneState.get_modPort {l p f fl} : (modPort l p f).get fl = l.get fl := rfl
@[simp] theorem LaneState.rd_modX {l c f q} : (modX l c f).rd q = l.rd q := rfl
@[simp] theorem LaneState.get_modX {l c f fl} : (modX l c f).get fl = l.get fl := rfl
@[simp] theorem LaneState.rd_modCan {l n f q} : (modCan l n f).rd q = l.rd q := rfl
@[simp] theorem LaneState.get_modCan {l n f fl} : (modCan l n f).get fl = l.get fl := rfl
@[simp] theorem LaneState.rd_modEth {l f q} : (modEth l f).rd q = l.rd q := rfl
@[simp] theorem LaneState.get_modEth {l f fl} : (modEth l f).get fl = l.get fl := rfl
@[simp] theorem LaneState.rd_setBoot {l b q} : (setBoot l b).rd q = l.rd q := rfl
@[simp] theorem LaneState.get_setBoot {l b fl} : (setBoot l b).get fl = l.get fl := rfl
@[simp] theorem LaneState.byte_wr {l a w q} : (wr l a w).byte q = l.byte q := rfl
@[simp] theorem LaneState.id_wr {l a w} : (wr l a w).id = l.id := rfl
@[simp] theorem LaneState.byte_put {l f v q} : (put l f v).byte q = l.byte q := rfl
@[simp] theorem LaneState.id_put {l f v} : (put l f v).id = l.id := rfl
@[simp] theorem LaneState.byte_bump {l f v q} : (bump l f v).byte q = l.byte q := rfl
@[simp] theorem LaneState.id_bump {l f v} : (bump l f v).id = l.id := rfl
@[simp] theorem LaneState.byte_raise {l k q} : (raise l k).byte q = l.byte q := rfl
@[simp] theorem LaneState.id_raise {l k} : (raise l k).id = l.id := rfl
@[simp] theorem LaneState.byte_raiseAt {l k u q} : (raiseAt l k u).byte q = l.byte q := rfl
@[simp] theorem LaneState.id_raiseAt {l k u} : (raiseAt l k u).id = l.id := rfl
@[simp] theorem LaneState.byte_modLoop {l f q} : (modLoop l f).byte q = l.byte q := rfl
@[simp] theorem LaneState.id_modLoop {l f} : (modLoop l f).id = l.id := rfl
@[simp] theorem LaneState.byte_modPair {l p f q} : (modPair l p f).byte q = l.byte q := rfl
@[simp] theorem LaneState.id_modPair {l p f} : (modPair l p f).id = l.id := rfl
@[simp] theorem LaneState.byte_modPower {l f q} : (modPower l f).byte q = l.byte q := rfl
@[simp] theorem LaneState.id_modPower {l f} : (modPower l f).id = l.id := rfl

end Sys2Proof.Machine
end

