-- ==== Sys2Proof/Laws/Ops.lean ====
section
/-!
SUPPORT. What the shared operations on interrupt conditions, messages and event counters do: the registers they touch
and what they leave alone.
-/
namespace Sys2Proof.Machine
open Sys2Proof

@[simp] theorem LaneState.regs_sendMsg {l r} : (sendMsg l r).regs = l.regs := by unfold LaneState.sendMsg; split <;> rfl
@[simp] theorem LaneState.active_sendMsg {l r} : (sendMsg l r).active = l.active := by unfold LaneState.sendMsg; split <;> rfl
@[simp] theorem LaneState.mem_sendMsg {l r} : (sendMsg l r).mem = l.mem := by unfold LaneState.sendMsg; split <;> rfl
@[simp] theorem LaneState.badPar_sendMsg {l r} : (sendMsg l r).badPar = l.badPar := by unfold LaneState.sendMsg; split <;> rfl
@[simp] theorem LaneState.resp_sendMsg {l r} : (sendMsg l r).resp = l.resp := by unfold LaneState.sendMsg; split <;> rfl
@[simp] theorem LaneState.shadowR_sendMsg {l r} : (sendMsg l r).shadowR = l.shadowR := by unfold LaneState.sendMsg; split <;> rfl
@[simp] theorem LaneState.shadowW_sendMsg {l r} : (sendMsg l r).shadowW = l.shadowW := by unfold LaneState.sendMsg; split <;> rfl
@[simp] theorem LaneState.lockSeq_sendMsg {l r} : (sendMsg l r).lockSeq = l.lockSeq := by unfold LaneState.sendMsg; split <;> rfl
@[simp] theorem LaneState.events_sendMsg {l r} : (sendMsg l r).events = l.events := by unfold LaneState.sendMsg; split <;> rfl
@[simp] theorem LaneState.fences_sendMsg {l r} : (sendMsg l r).fences = l.fences := by unfold LaneState.sendMsg; split <;> rfl
@[simp] theorem LaneState.links_sendMsg {l r} : (sendMsg l r).links = l.links := by unfold LaneState.sendMsg; split <;> rfl
@[simp] theorem LaneState.pairs_sendMsg {l r} : (sendMsg l r).pairs = l.pairs := by unfold LaneState.sendMsg; split <;> rfl
@[simp] theorem LaneState.l2_sendMsg {l r} : (sendMsg l r).l2 = l.l2 := by unfold LaneState.sendMsg; split <;> rfl
@[simp] theorem LaneState.uStores_sendMsg {l r} : (sendMsg l r).uStores = l.uStores := by unfold LaneState.sendMsg; split <;> rfl
@[simp] theorem LaneState.dm_sendMsg {l r} : (sendMsg l r).dm = l.dm := by unfold LaneState.sendMsg; split <;> rfl
@[simp] theorem LaneState.aplicIn_sendMsg {l r} : (sendMsg l r).aplicIn = l.aplicIn := by unfold LaneState.sendMsg; split <;> rfl
@[simp] theorem LaneState.loop_sendMsg {l r} : (sendMsg l r).loop = l.loop := by unfold LaneState.sendMsg; split <;> rfl
@[simp] theorem LaneState.sieve_sendMsg {l r} : (sendMsg l r).sieve = l.sieve := by unfold LaneState.sendMsg; split <;> rfl
@[simp] theorem LaneState.strata_sendMsg {l r} : (sendMsg l r).strata = l.strata := by unfold LaneState.sendMsg; split <;> rfl
@[simp] theorem LaneState.feed_sendMsg {l r} : (sendMsg l r).feed = l.feed := by unfold LaneState.sendMsg; split <;> rfl
@[simp] theorem LaneState.ports_sendMsg {l r} : (sendMsg l r).ports = l.ports := by unfold LaneState.sendMsg; split <;> rfl
@[simp] theorem LaneState.xfr_sendMsg {l r} : (sendMsg l r).xfr = l.xfr := by unfold LaneState.sendMsg; split <;> rfl
@[simp] theorem LaneState.pmu_sendMsg {l r} : (sendMsg l r).pmu = l.pmu := by unfold LaneState.sendMsg; split <;> rfl
@[simp] theorem LaneState.col_sendMsg {l r} : (sendMsg l r).col = l.col := by unfold LaneState.sendMsg; split <;> rfl
@[simp] theorem LaneState.power_sendMsg {l r} : (sendMsg l r).power = l.power := by unfold LaneState.sendMsg; split <;> rfl

@[simp] theorem LaneState.active_irqLatch {l b m} : (irqLatch l b m).active = l.active := by unfold LaneState.irqLatch; dsimp only; split <;> simp
@[simp] theorem LaneState.mem_irqLatch {l b m} : (irqLatch l b m).mem = l.mem := by unfold LaneState.irqLatch; dsimp only; split <;> simp
@[simp] theorem LaneState.badPar_irqLatch {l b m} : (irqLatch l b m).badPar = l.badPar := by unfold LaneState.irqLatch; dsimp only; split <;> simp
@[simp] theorem LaneState.resp_irqLatch {l b m} : (irqLatch l b m).resp = l.resp := by unfold LaneState.irqLatch; dsimp only; split <;> simp
@[simp] theorem LaneState.shadowR_irqLatch {l b m} : (irqLatch l b m).shadowR = l.shadowR := by unfold LaneState.irqLatch; dsimp only; split <;> simp
@[simp] theorem LaneState.shadowW_irqLatch {l b m} : (irqLatch l b m).shadowW = l.shadowW := by unfold LaneState.irqLatch; dsimp only; split <;> simp
@[simp] theorem LaneState.lockSeq_irqLatch {l b m} : (irqLatch l b m).lockSeq = l.lockSeq := by unfold LaneState.irqLatch; dsimp only; split <;> simp
@[simp] theorem LaneState.events_irqLatch {l b m} : (irqLatch l b m).events = l.events := by unfold LaneState.irqLatch; dsimp only; split <;> simp
@[simp] theorem LaneState.fences_irqLatch {l b m} : (irqLatch l b m).fences = l.fences := by unfold LaneState.irqLatch; dsimp only; split <;> simp
@[simp] theorem LaneState.links_irqLatch {l b m} : (irqLatch l b m).links = l.links := by unfold LaneState.irqLatch; dsimp only; split <;> simp
@[simp] theorem LaneState.pairs_irqLatch {l b m} : (irqLatch l b m).pairs = l.pairs := by unfold LaneState.irqLatch; dsimp only; split <;> simp
@[simp] theorem LaneState.l2_irqLatch {l b m} : (irqLatch l b m).l2 = l.l2 := by unfold LaneState.irqLatch; dsimp only; split <;> simp
@[simp] theorem LaneState.uStores_irqLatch {l b m} : (irqLatch l b m).uStores = l.uStores := by unfold LaneState.irqLatch; dsimp only; split <;> simp
@[simp] theorem LaneState.dm_irqLatch {l b m} : (irqLatch l b m).dm = l.dm := by unfold LaneState.irqLatch; dsimp only; split <;> simp
@[simp] theorem LaneState.aplicIn_irqLatch {l b m} : (irqLatch l b m).aplicIn = l.aplicIn := by unfold LaneState.irqLatch; dsimp only; split <;> simp
@[simp] theorem LaneState.loop_irqLatch {l b m} : (irqLatch l b m).loop = l.loop := by unfold LaneState.irqLatch; dsimp only; split <;> simp
@[simp] theorem LaneState.sieve_irqLatch {l b m} : (irqLatch l b m).sieve = l.sieve := by unfold LaneState.irqLatch; dsimp only; split <;> simp
@[simp] theorem LaneState.strata_irqLatch {l b m} : (irqLatch l b m).strata = l.strata := by unfold LaneState.irqLatch; dsimp only; split <;> simp
@[simp] theorem LaneState.feed_irqLatch {l b m} : (irqLatch l b m).feed = l.feed := by unfold LaneState.irqLatch; dsimp only; split <;> simp
@[simp] theorem LaneState.ports_irqLatch {l b m} : (irqLatch l b m).ports = l.ports := by unfold LaneState.irqLatch; dsimp only; split <;> simp
@[simp] theorem LaneState.xfr_irqLatch {l b m} : (irqLatch l b m).xfr = l.xfr := by unfold LaneState.irqLatch; dsimp only; split <;> simp
@[simp] theorem LaneState.pmu_irqLatch {l b m} : (irqLatch l b m).pmu = l.pmu := by unfold LaneState.irqLatch; dsimp only; split <;> simp
@[simp] theorem LaneState.col_irqLatch {l b m} : (irqLatch l b m).col = l.col := by unfold LaneState.irqLatch; dsimp only; split <;> simp
@[simp] theorem LaneState.power_irqLatch {l b m} : (irqLatch l b m).power = l.power := by unfold LaneState.irqLatch; dsimp only; split <;> simp

@[simp] theorem LaneState.active_irqRise {l b m} : (irqRise l b m).active = l.active := by simp [LaneState.irqRise]
@[simp] theorem LaneState.mem_irqRise {l b m} : (irqRise l b m).mem = l.mem := by simp [LaneState.irqRise]
@[simp] theorem LaneState.badPar_irqRise {l b m} : (irqRise l b m).badPar = l.badPar := by simp [LaneState.irqRise]
@[simp] theorem LaneState.resp_irqRise {l b m} : (irqRise l b m).resp = l.resp := by simp [LaneState.irqRise]
@[simp] theorem LaneState.shadowR_irqRise {l b m} : (irqRise l b m).shadowR = l.shadowR := by simp [LaneState.irqRise]
@[simp] theorem LaneState.shadowW_irqRise {l b m} : (irqRise l b m).shadowW = l.shadowW := by simp [LaneState.irqRise]
@[simp] theorem LaneState.lockSeq_irqRise {l b m} : (irqRise l b m).lockSeq = l.lockSeq := by simp [LaneState.irqRise]
@[simp] theorem LaneState.events_irqRise {l b m} : (irqRise l b m).events = l.events := by simp [LaneState.irqRise]
@[simp] theorem LaneState.fences_irqRise {l b m} : (irqRise l b m).fences = l.fences := by simp [LaneState.irqRise]
@[simp] theorem LaneState.links_irqRise {l b m} : (irqRise l b m).links = l.links := by simp [LaneState.irqRise]
@[simp] theorem LaneState.pairs_irqRise {l b m} : (irqRise l b m).pairs = l.pairs := by simp [LaneState.irqRise]
@[simp] theorem LaneState.l2_irqRise {l b m} : (irqRise l b m).l2 = l.l2 := by simp [LaneState.irqRise]
@[simp] theorem LaneState.uStores_irqRise {l b m} : (irqRise l b m).uStores = l.uStores := by simp [LaneState.irqRise]
@[simp] theorem LaneState.dm_irqRise {l b m} : (irqRise l b m).dm = l.dm := by simp [LaneState.irqRise]
@[simp] theorem LaneState.aplicIn_irqRise {l b m} : (irqRise l b m).aplicIn = l.aplicIn := by simp [LaneState.irqRise]
@[simp] theorem LaneState.loop_irqRise {l b m} : (irqRise l b m).loop = l.loop := by simp [LaneState.irqRise]
@[simp] theorem LaneState.sieve_irqRise {l b m} : (irqRise l b m).sieve = l.sieve := by simp [LaneState.irqRise]
@[simp] theorem LaneState.strata_irqRise {l b m} : (irqRise l b m).strata = l.strata := by simp [LaneState.irqRise]
@[simp] theorem LaneState.feed_irqRise {l b m} : (irqRise l b m).feed = l.feed := by simp [LaneState.irqRise]
@[simp] theorem LaneState.ports_irqRise {l b m} : (irqRise l b m).ports = l.ports := by simp [LaneState.irqRise]
@[simp] theorem LaneState.xfr_irqRise {l b m} : (irqRise l b m).xfr = l.xfr := by simp [LaneState.irqRise]
@[simp] theorem LaneState.pmu_irqRise {l b m} : (irqRise l b m).pmu = l.pmu := by simp [LaneState.irqRise]
@[simp] theorem LaneState.col_irqRise {l b m} : (irqRise l b m).col = l.col := by simp [LaneState.irqRise]
@[simp] theorem LaneState.power_irqRise {l b m} : (irqRise l b m).power = l.power := by simp [LaneState.irqRise]

@[simp] theorem LaneState.active_irqFall {l b m} : (irqFall l b m).active = l.active := rfl
@[simp] theorem LaneState.mem_irqFall {l b m} : (irqFall l b m).mem = l.mem := rfl
@[simp] theorem LaneState.badPar_irqFall {l b m} : (irqFall l b m).badPar = l.badPar := rfl
@[simp] theorem LaneState.resp_irqFall {l b m} : (irqFall l b m).resp = l.resp := rfl
@[simp] theorem LaneState.shadowR_irqFall {l b m} : (irqFall l b m).shadowR = l.shadowR := rfl
@[simp] theorem LaneState.shadowW_irqFall {l b m} : (irqFall l b m).shadowW = l.shadowW := rfl
@[simp] theorem LaneState.lockSeq_irqFall {l b m} : (irqFall l b m).lockSeq = l.lockSeq := rfl
@[simp] theorem LaneState.events_irqFall {l b m} : (irqFall l b m).events = l.events := rfl
@[simp] theorem LaneState.msgs_irqFall {l b m} : (irqFall l b m).msgs = l.msgs := rfl
@[simp] theorem LaneState.fences_irqFall {l b m} : (irqFall l b m).fences = l.fences := rfl
@[simp] theorem LaneState.links_irqFall {l b m} : (irqFall l b m).links = l.links := rfl
@[simp] theorem LaneState.pairs_irqFall {l b m} : (irqFall l b m).pairs = l.pairs := rfl
@[simp] theorem LaneState.l2_irqFall {l b m} : (irqFall l b m).l2 = l.l2 := rfl
@[simp] theorem LaneState.uStores_irqFall {l b m} : (irqFall l b m).uStores = l.uStores := rfl
@[simp] theorem LaneState.dm_irqFall {l b m} : (irqFall l b m).dm = l.dm := rfl
@[simp] theorem LaneState.aplicIn_irqFall {l b m} : (irqFall l b m).aplicIn = l.aplicIn := rfl
@[simp] theorem LaneState.loop_irqFall {l b m} : (irqFall l b m).loop = l.loop := rfl
@[simp] theorem LaneState.sieve_irqFall {l b m} : (irqFall l b m).sieve = l.sieve := rfl
@[simp] theorem LaneState.strata_irqFall {l b m} : (irqFall l b m).strata = l.strata := rfl
@[simp] theorem LaneState.feed_irqFall {l b m} : (irqFall l b m).feed = l.feed := rfl
@[simp] theorem LaneState.ports_irqFall {l b m} : (irqFall l b m).ports = l.ports := rfl
@[simp] theorem LaneState.xfr_irqFall {l b m} : (irqFall l b m).xfr = l.xfr := rfl
@[simp] theorem LaneState.pmu_irqFall {l b m} : (irqFall l b m).pmu = l.pmu := rfl
@[simp] theorem LaneState.col_irqFall {l b m} : (irqFall l b m).col = l.col := rfl
@[simp] theorem LaneState.power_irqFall {l b m} : (irqFall l b m).power = l.power := rfl

@[simp] theorem LaneState.active_irqPulse {l b m} : (irqPulse l b m).active = l.active := by simp [LaneState.irqPulse]
@[simp] theorem LaneState.mem_irqPulse {l b m} : (irqPulse l b m).mem = l.mem := by simp [LaneState.irqPulse]
@[simp] theorem LaneState.badPar_irqPulse {l b m} : (irqPulse l b m).badPar = l.badPar := by simp [LaneState.irqPulse]
@[simp] theorem LaneState.resp_irqPulse {l b m} : (irqPulse l b m).resp = l.resp := by simp [LaneState.irqPulse]
@[simp] theorem LaneState.shadowR_irqPulse {l b m} : (irqPulse l b m).shadowR = l.shadowR := by simp [LaneState.irqPulse]
@[simp] theorem LaneState.shadowW_irqPulse {l b m} : (irqPulse l b m).shadowW = l.shadowW := by simp [LaneState.irqPulse]
@[simp] theorem LaneState.lockSeq_irqPulse {l b m} : (irqPulse l b m).lockSeq = l.lockSeq := by simp [LaneState.irqPulse]
@[simp] theorem LaneState.events_irqPulse {l b m} : (irqPulse l b m).events = l.events := by simp [LaneState.irqPulse]
@[simp] theorem LaneState.fences_irqPulse {l b m} : (irqPulse l b m).fences = l.fences := by simp [LaneState.irqPulse]
@[simp] theorem LaneState.links_irqPulse {l b m} : (irqPulse l b m).links = l.links := by simp [LaneState.irqPulse]
@[simp] theorem LaneState.pairs_irqPulse {l b m} : (irqPulse l b m).pairs = l.pairs := by simp [LaneState.irqPulse]
@[simp] theorem LaneState.l2_irqPulse {l b m} : (irqPulse l b m).l2 = l.l2 := by simp [LaneState.irqPulse]
@[simp] theorem LaneState.uStores_irqPulse {l b m} : (irqPulse l b m).uStores = l.uStores := by simp [LaneState.irqPulse]
@[simp] theorem LaneState.dm_irqPulse {l b m} : (irqPulse l b m).dm = l.dm := by simp [LaneState.irqPulse]
@[simp] theorem LaneState.aplicIn_irqPulse {l b m} : (irqPulse l b m).aplicIn = l.aplicIn := by simp [LaneState.irqPulse]
@[simp] theorem LaneState.loop_irqPulse {l b m} : (irqPulse l b m).loop = l.loop := by simp [LaneState.irqPulse]
@[simp] theorem LaneState.sieve_irqPulse {l b m} : (irqPulse l b m).sieve = l.sieve := by simp [LaneState.irqPulse]
@[simp] theorem LaneState.strata_irqPulse {l b m} : (irqPulse l b m).strata = l.strata := by simp [LaneState.irqPulse]
@[simp] theorem LaneState.feed_irqPulse {l b m} : (irqPulse l b m).feed = l.feed := by simp [LaneState.irqPulse]
@[simp] theorem LaneState.ports_irqPulse {l b m} : (irqPulse l b m).ports = l.ports := by simp [LaneState.irqPulse]
@[simp] theorem LaneState.xfr_irqPulse {l b m} : (irqPulse l b m).xfr = l.xfr := by simp [LaneState.irqPulse]
@[simp] theorem LaneState.pmu_irqPulse {l b m} : (irqPulse l b m).pmu = l.pmu := by simp [LaneState.irqPulse]
@[simp] theorem LaneState.col_irqPulse {l b m} : (irqPulse l b m).col = l.col := by simp [LaneState.irqPulse]
@[simp] theorem LaneState.power_irqPulse {l b m} : (irqPulse l b m).power = l.power := by simp [LaneState.irqPulse]

@[simp] theorem LaneState.active_irqLevel {l b i v} : (irqLevel l b i v).active = l.active := by unfold LaneState.irqLevel; split <;> simp
@[simp] theorem LaneState.mem_irqLevel {l b i v} : (irqLevel l b i v).mem = l.mem := by unfold LaneState.irqLevel; split <;> simp
@[simp] theorem LaneState.badPar_irqLevel {l b i v} : (irqLevel l b i v).badPar = l.badPar := by unfold LaneState.irqLevel; split <;> simp
@[simp] theorem LaneState.resp_irqLevel {l b i v} : (irqLevel l b i v).resp = l.resp := by unfold LaneState.irqLevel; split <;> simp
@[simp] theorem LaneState.shadowR_irqLevel {l b i v} : (irqLevel l b i v).shadowR = l.shadowR := by unfold LaneState.irqLevel; split <;> simp
@[simp] theorem LaneState.shadowW_irqLevel {l b i v} : (irqLevel l b i v).shadowW = l.shadowW := by unfold LaneState.irqLevel; split <;> simp
@[simp] theorem LaneState.lockSeq_irqLevel {l b i v} : (irqLevel l b i v).lockSeq = l.lockSeq := by unfold LaneState.irqLevel; split <;> simp
@[simp] theorem LaneState.events_irqLevel {l b i v} : (irqLevel l b i v).events = l.events := by unfold LaneState.irqLevel; split <;> simp
@[simp] theorem LaneState.fences_irqLevel {l b i v} : (irqLevel l b i v).fences = l.fences := by unfold LaneState.irqLevel; split <;> simp
@[simp] theorem LaneState.links_irqLevel {l b i v} : (irqLevel l b i v).links = l.links := by unfold LaneState.irqLevel; split <;> simp
@[simp] theorem LaneState.pairs_irqLevel {l b i v} : (irqLevel l b i v).pairs = l.pairs := by unfold LaneState.irqLevel; split <;> simp
@[simp] theorem LaneState.l2_irqLevel {l b i v} : (irqLevel l b i v).l2 = l.l2 := by unfold LaneState.irqLevel; split <;> simp
@[simp] theorem LaneState.uStores_irqLevel {l b i v} : (irqLevel l b i v).uStores = l.uStores := by unfold LaneState.irqLevel; split <;> simp
@[simp] theorem LaneState.dm_irqLevel {l b i v} : (irqLevel l b i v).dm = l.dm := by unfold LaneState.irqLevel; split <;> simp
@[simp] theorem LaneState.aplicIn_irqLevel {l b i v} : (irqLevel l b i v).aplicIn = l.aplicIn := by unfold LaneState.irqLevel; split <;> simp
@[simp] theorem LaneState.loop_irqLevel {l b i v} : (irqLevel l b i v).loop = l.loop := by unfold LaneState.irqLevel; split <;> simp
@[simp] theorem LaneState.sieve_irqLevel {l b i v} : (irqLevel l b i v).sieve = l.sieve := by unfold LaneState.irqLevel; split <;> simp
@[simp] theorem LaneState.strata_irqLevel {l b i v} : (irqLevel l b i v).strata = l.strata := by unfold LaneState.irqLevel; split <;> simp
@[simp] theorem LaneState.feed_irqLevel {l b i v} : (irqLevel l b i v).feed = l.feed := by unfold LaneState.irqLevel; split <;> simp
@[simp] theorem LaneState.ports_irqLevel {l b i v} : (irqLevel l b i v).ports = l.ports := by unfold LaneState.irqLevel; split <;> simp
@[simp] theorem LaneState.xfr_irqLevel {l b i v} : (irqLevel l b i v).xfr = l.xfr := by unfold LaneState.irqLevel; split <;> simp
@[simp] theorem LaneState.pmu_irqLevel {l b i v} : (irqLevel l b i v).pmu = l.pmu := by unfold LaneState.irqLevel; split <;> simp
@[simp] theorem LaneState.col_irqLevel {l b i v} : (irqLevel l b i v).col = l.col := by unfold LaneState.irqLevel; split <;> simp
@[simp] theorem LaneState.power_irqLevel {l b i v} : (irqLevel l b i v).power = l.power := by unfold LaneState.irqLevel; split <;> simp

@[simp] theorem LaneState.active_countN {l b code k} : (countN l b code k).active = l.active := by unfold LaneState.countN; split <;> rfl
@[simp] theorem LaneState.mem_countN {l b code k} : (countN l b code k).mem = l.mem := by unfold LaneState.countN; split <;> rfl
@[simp] theorem LaneState.badPar_countN {l b code k} : (countN l b code k).badPar = l.badPar := by unfold LaneState.countN; split <;> rfl
@[simp] theorem LaneState.resp_countN {l b code k} : (countN l b code k).resp = l.resp := by unfold LaneState.countN; split <;> rfl
@[simp] theorem LaneState.shadowR_countN {l b code k} : (countN l b code k).shadowR = l.shadowR := by unfold LaneState.countN; split <;> rfl
@[simp] theorem LaneState.shadowW_countN {l b code k} : (countN l b code k).shadowW = l.shadowW := by unfold LaneState.countN; split <;> rfl
@[simp] theorem LaneState.lockSeq_countN {l b code k} : (countN l b code k).lockSeq = l.lockSeq := by unfold LaneState.countN; split <;> rfl
@[simp] theorem LaneState.events_countN {l b code k} : (countN l b code k).events = l.events := by unfold LaneState.countN; split <;> rfl
@[simp] theorem LaneState.msgs_countN {l b code k} : (countN l b code k).msgs = l.msgs := by unfold LaneState.countN; split <;> rfl
@[simp] theorem LaneState.fences_countN {l b code k} : (countN l b code k).fences = l.fences := by unfold LaneState.countN; split <;> rfl
@[simp] theorem LaneState.links_countN {l b code k} : (countN l b code k).links = l.links := by unfold LaneState.countN; split <;> rfl
@[simp] theorem LaneState.pairs_countN {l b code k} : (countN l b code k).pairs = l.pairs := by unfold LaneState.countN; split <;> rfl
@[simp] theorem LaneState.l2_countN {l b code k} : (countN l b code k).l2 = l.l2 := by unfold LaneState.countN; split <;> rfl
@[simp] theorem LaneState.uStores_countN {l b code k} : (countN l b code k).uStores = l.uStores := by unfold LaneState.countN; split <;> rfl
@[simp] theorem LaneState.dm_countN {l b code k} : (countN l b code k).dm = l.dm := by unfold LaneState.countN; split <;> rfl
@[simp] theorem LaneState.aplicIn_countN {l b code k} : (countN l b code k).aplicIn = l.aplicIn := by unfold LaneState.countN; split <;> rfl
@[simp] theorem LaneState.loop_countN {l b code k} : (countN l b code k).loop = l.loop := by unfold LaneState.countN; split <;> rfl
@[simp] theorem LaneState.sieve_countN {l b code k} : (countN l b code k).sieve = l.sieve := by unfold LaneState.countN; split <;> rfl
@[simp] theorem LaneState.strata_countN {l b code k} : (countN l b code k).strata = l.strata := by unfold LaneState.countN; split <;> rfl
@[simp] theorem LaneState.feed_countN {l b code k} : (countN l b code k).feed = l.feed := by unfold LaneState.countN; split <;> rfl
@[simp] theorem LaneState.ports_countN {l b code k} : (countN l b code k).ports = l.ports := by unfold LaneState.countN; split <;> rfl
@[simp] theorem LaneState.xfr_countN {l b code k} : (countN l b code k).xfr = l.xfr := by unfold LaneState.countN; split <;> rfl
@[simp] theorem LaneState.pmu_countN {l b code k} : (countN l b code k).pmu = l.pmu := by unfold LaneState.countN; split <;> rfl
@[simp] theorem LaneState.col_countN {l b code k} : (countN l b code k).col = l.col := by unfold LaneState.countN; split <;> rfl
@[simp] theorem LaneState.power_countN {l b code k} : (countN l b code k).power = l.power := by unfold LaneState.countN; split <;> rfl

@[simp] theorem LaneState.active_count {l b code} : (count l b code).active = l.active := by simp [LaneState.count]
@[simp] theorem LaneState.mem_count {l b code} : (count l b code).mem = l.mem := by simp [LaneState.count]
@[simp] theorem LaneState.badPar_count {l b code} : (count l b code).badPar = l.badPar := by simp [LaneState.count]
@[simp] theorem LaneState.resp_count {l b code} : (count l b code).resp = l.resp := by simp [LaneState.count]
@[simp] theorem LaneState.shadowR_count {l b code} : (count l b code).shadowR = l.shadowR := by simp [LaneState.count]
@[simp] theorem LaneState.shadowW_count {l b code} : (count l b code).shadowW = l.shadowW := by simp [LaneState.count]
@[simp] theorem LaneState.lockSeq_count {l b code} : (count l b code).lockSeq = l.lockSeq := by simp [LaneState.count]
@[simp] theorem LaneState.events_count {l b code} : (count l b code).events = l.events := by simp [LaneState.count]
@[simp] theorem LaneState.msgs_count {l b code} : (count l b code).msgs = l.msgs := by simp [LaneState.count]
@[simp] theorem LaneState.fences_count {l b code} : (count l b code).fences = l.fences := by simp [LaneState.count]
@[simp] theorem LaneState.links_count {l b code} : (count l b code).links = l.links := by simp [LaneState.count]
@[simp] theorem LaneState.pairs_count {l b code} : (count l b code).pairs = l.pairs := by simp [LaneState.count]
@[simp] theorem LaneState.l2_count {l b code} : (count l b code).l2 = l.l2 := by simp [LaneState.count]
@[simp] theorem LaneState.uStores_count {l b code} : (count l b code).uStores = l.uStores := by simp [LaneState.count]
@[simp] theorem LaneState.dm_count {l b code} : (count l b code).dm = l.dm := by simp [LaneState.count]
@[simp] theorem LaneState.aplicIn_count {l b code} : (count l b code).aplicIn = l.aplicIn := by simp [LaneState.count]
@[simp] theorem LaneState.loop_count {l b code} : (count l b code).loop = l.loop := by simp [LaneState.count]
@[simp] theorem LaneState.sieve_count {l b code} : (count l b code).sieve = l.sieve := by simp [LaneState.count]
@[simp] theorem LaneState.strata_count {l b code} : (count l b code).strata = l.strata := by simp [LaneState.count]
@[simp] theorem LaneState.feed_count {l b code} : (count l b code).feed = l.feed := by simp [LaneState.count]
@[simp] theorem LaneState.ports_count {l b code} : (count l b code).ports = l.ports := by simp [LaneState.count]
@[simp] theorem LaneState.xfr_count {l b code} : (count l b code).xfr = l.xfr := by simp [LaneState.count]
@[simp] theorem LaneState.pmu_count {l b code} : (count l b code).pmu = l.pmu := by simp [LaneState.count]
@[simp] theorem LaneState.col_count {l b code} : (count l b code).col = l.col := by simp [LaneState.count]
@[simp] theorem LaneState.power_count {l b code} : (count l b code).power = l.power := by simp [LaneState.count]

/-! ### Registers -/

@[simp] theorem LaneState.rd_sendMsg (l : LaneState) (r a : Nat) : (l.sendMsg r).rd a = l.rd a := by simp [LaneState.rd]
@[simp] theorem LaneState.get_sendMsg (l : LaneState) (r : Nat) (f : Fld) : (l.sendMsg r).get f = l.get f := by
  simp [LaneState.get]

theorem LaneState.rd_irqLatch (l : LaneState) (b : Nat) (m : Word) {a : Nat} (h : a ≠ R.irqStat b) :
    (l.irqLatch b m).rd a = l.rd a := by
  unfold LaneState.irqLatch; dsimp only; split <;> simp [LaneState.rd_wr_ne _ _ h]
theorem LaneState.rd_irqFall (l : LaneState) (b : Nat) (m : Word) {a : Nat} (h : a ≠ R.irqRaw b) :
    (l.irqFall b m).rd a = l.rd a := LaneState.rd_wr_ne _ _ h
theorem LaneState.rd_irqRise (l : LaneState) (b : Nat) (m : Word) {a : Nat} (h : a ≠ R.irqRaw b) (h' : a ≠ R.irqStat b) :
    (l.irqRise b m).rd a = l.rd a := by
  simp only [LaneState.irqRise, LaneState.rd_irqLatch _ _ _ h', LaneState.rd_wr_ne _ _ h]
theorem LaneState.rd_irqPulse (l : LaneState) (b : Nat) (m : Word) {a : Nat} (h : a ≠ R.irqStat b) :
    (l.irqPulse b m).rd a = l.rd a := LaneState.rd_irqLatch _ _ _ h
theorem LaneState.rd_irqLevel (l : LaneState) (b i : Nat) (v : Bool) {a : Nat} (h : a ≠ R.irqRaw b)
    (h' : a ≠ R.irqStat b) : (l.irqLevel b i v).rd a = l.rd a := by
  unfold LaneState.irqLevel; split
  · exact LaneState.rd_irqRise _ _ _ h h'
  · exact LaneState.rd_irqFall _ _ _ h
theorem LaneState.rd_countN (l : LaneState) (b code k : Nat) {a : Nat} (h : a ≠ R.evtCnt b) :
    (l.countN b code k).rd a = l.rd a := by
  unfold LaneState.countN; split
  · exact LaneState.rd_wr_ne _ _ h
  · rfl
theorem LaneState.rd_count (l : LaneState) (b code : Nat) {a : Nat} (h : a ≠ R.evtCnt b) :
    (l.count b code).rd a = l.rd a := LaneState.rd_countN _ _ _ _ h

theorem LaneState.get_eq_rd (l : LaneState) (f : Fld) : l.get f = getBits (l.rd f.addr) f.lo f.width := rfl

theorem LaneState.get_irqPulse (l : LaneState) (b : Nat) (m : Word) (f : Fld) (h : f.addr ≠ R.irqStat b) :
    (l.irqPulse b m).get f = l.get f := by rw [LaneState.get_eq_rd, LaneState.rd_irqPulse _ _ _ h, ← LaneState.get_eq_rd]
theorem LaneState.get_irqLatch (l : LaneState) (b : Nat) (m : Word) (f : Fld) (h : f.addr ≠ R.irqStat b) :
    (l.irqLatch b m).get f = l.get f := by rw [LaneState.get_eq_rd, LaneState.rd_irqLatch _ _ _ h, ← LaneState.get_eq_rd]
theorem LaneState.get_irqFall (l : LaneState) (b : Nat) (m : Word) (f : Fld) (h : f.addr ≠ R.irqRaw b) :
    (l.irqFall b m).get f = l.get f := by rw [LaneState.get_eq_rd, LaneState.rd_irqFall _ _ _ h, ← LaneState.get_eq_rd]
theorem LaneState.get_irqRise (l : LaneState) (b : Nat) (m : Word) (f : Fld) (h : f.addr ≠ R.irqRaw b)
    (h' : f.addr ≠ R.irqStat b) : (l.irqRise b m).get f = l.get f := by
  rw [LaneState.get_eq_rd, LaneState.rd_irqRise _ _ _ h h', ← LaneState.get_eq_rd]
theorem LaneState.get_irqLevel (l : LaneState) (b i : Nat) (v : Bool) (f : Fld) (h : f.addr ≠ R.irqRaw b)
    (h' : f.addr ≠ R.irqStat b) : (l.irqLevel b i v).get f = l.get f := by
  rw [LaneState.get_eq_rd, LaneState.rd_irqLevel _ _ _ _ h h', ← LaneState.get_eq_rd]
theorem LaneState.get_countN (l : LaneState) (b code k : Nat) (f : Fld) (h : f.addr ≠ R.evtCnt b) :
    (l.countN b code k).get f = l.get f := by
  rw [LaneState.get_eq_rd, LaneState.rd_countN _ _ _ _ h, ← LaneState.get_eq_rd]
theorem LaneState.get_count (l : LaneState) (b code : Nat) (f : Fld) (h : f.addr ≠ R.evtCnt b) :
    (l.count b code).get f = l.get f := LaneState.get_countN _ _ _ _ _ h

/-- A saturating counter. -/
theorem LaneState.get_bump_same (l : LaneState) (f : Fld) (k : Nat) (h : f.lo + f.width ≤ 32) :
    (l.bump f k).get f = min (l.get f + k) (2 ^ f.width - 1) := by
  show RegFile.get (RegFile.put l.regs f _) f = _
  rw [RegFile.get_put_same _ _ _ h, Nat.mod_eq_of_lt]
  · rfl
  · have := Nat.two_pow_pos f.width; omega
theorem LaneState.get_bump_ne (l : LaneState) (f g : Fld) (k : Nat) (h : g.addr ≠ f.addr) :
    (l.bump f k).get g = l.get g := RegFile.get_put_ne _ _ _ _ h
theorem LaneState.get_bump_disjoint (l : LaneState) (f g : Fld) (k : Nat) (h : f.lo + f.width ≤ 32)
    (hd : g.lo + g.width ≤ f.lo ∨ f.lo + f.width ≤ g.lo) : (l.bump f k).get g = l.get g :=
  RegFile.get_put_disjoint _ _ _ _ h hd
theorem LaneState.rd_bump_ne (l : LaneState) (f : Fld) (k : Nat) {a : Nat} (h : a ≠ f.addr) :
    (l.bump f k).rd a = l.rd a := RegFile.rd_put_ne _ _ _ h

theorem BedState.get_bump_same (b : BedState) (f : Fld) (k : Nat) (h : f.lo + f.width ≤ 32) :
    (b.bump f k).get f = min (b.get f + k) (2 ^ f.width - 1) := by
  show RegFile.get (RegFile.put b.regs f _) f = _
  rw [RegFile.get_put_same _ _ _ h, Nat.mod_eq_of_lt]
  · rfl
  · have := Nat.two_pow_pos f.width; omega
theorem BedState.get_bump_ne (b : BedState) (f g : Fld) (k : Nat) (h : g.addr ≠ f.addr) :
    (b.bump f k).get g = b.get g := RegFile.get_put_ne _ _ _ _ h
theorem BedState.get_bump_disjoint (b : BedState) (f g : Fld) (k : Nat) (h : f.lo + f.width ≤ 32)
    (hd : g.lo + g.width ≤ f.lo ∨ f.lo + f.width ≤ g.lo) : (b.bump f k).get g = b.get g :=
  RegFile.get_put_disjoint _ _ _ _ h hd
theorem BrgState.get_bump_same (b : BrgState) (f : Fld) (k : Nat) (h : f.lo + f.width ≤ 32) :
    (b.bump f k).get f = min (b.get f + k) (2 ^ f.width - 1) := by
  show RegFile.get (RegFile.put b.regs f _) f = _
  rw [RegFile.get_put_same _ _ _ h, Nat.mod_eq_of_lt]
  · rfl
  · have := Nat.two_pow_pos f.width; omega
theorem BrgState.get_bump_ne (b : BrgState) (f g : Fld) (k : Nat) (h : g.addr ≠ f.addr) :
    (b.bump f k).get g = b.get g := RegFile.get_put_ne _ _ _ _ h

/-- Writes that a bus agent makes to a register with an effect of its own: what is left where the lane does not answer,
and where the block is fenced (R405). -/
theorem LaneState.command_dead (l : LaneState) (a : Nat) (v : Word) (f : LaneState → Word → LaneState)
    (h : l.alive = false) : l.command a v f = l := by simp [LaneState.command, h]
theorem LaneState.command_fenced (l : LaneState) (a : Nat) (v : Word) (f : LaneState → Word → LaneState)
    (h : l.alive = true) (hf : l.blockFenced a = true) :
    l.command a v f = l.put (F.ignWr (pageOf a * 0x1000)) 1 := by simp [LaneState.command, h, hf]
theorem LaneState.command_live (l : LaneState) (a : Nat) (v : Word) (f : LaneState → Word → LaneState)
    (h : l.alive = true) (hf : l.blockFenced a = false) :
    l.command a v f = f (l.regWrite a v).1 (l.regWrite a v).2 := by simp [LaneState.command, h, hf]

end Sys2Proof.Machine
end

