-- ==== Sys2Proof/Laws/Memory.lean ====
section
/-!
SUPPORT. A lane's memory: what a byte reads as after a store, and the canonical form under every operation that stores.
-/
namespace Sys2Proof.Machine
open Sys2Proof

/-- The lane's memory is in canonical form. -/
def LaneState.memOk (l : LaneState) : Prop := Memory.wf l.mem = true

/-- What keeps the memory keeps its form. -/
theorem LaneState.memOk_of_mem {l m : LaneState} (e : m.mem = l.mem) (h : l.memOk) : m.memOk := by
  rw [LaneState.memOk, e]; exact h

theorem LaneState.memOk_setByte {l : LaneState} (a : Nat) (v : BitVec 8) (h : l.memOk) : (l.setByte a v).memOk :=
  Table.wf_set _ _ _ _ h

theorem LaneState.byte_setByte (l : LaneState) (a b : Nat) (v : BitVec 8) :
    (l.setByte a v).byte b = if b = a then v else l.byte b := Table.get_set _ _ _ _ _

/-- A fold keeps what each of its steps keeps. -/
theorem foldl_keeps {α β : Type} (P : β → Prop) {f : β → α → β} (h : ∀ b a, P b → P (f b a)) (xs : List α) (b : β)
    (hb : P b) : P (xs.foldl f b) :=
  List.foldlRecOn xs f hb fun c hc a _ => h c a hc

/-! ### Stores of `n` bytes -/

theorem LaneState.memOk_store {l : LaneState} (a n v : Nat) (h : l.memOk) : (l.store a n v).memOk := by
  fun_induction LaneState.store l a n v
  case case1 => exact h
  case case2 ih => exact ih (LaneState.memOk_setByte _ _ h)

/-- A store changes no byte outside its own. -/
theorem LaneState.byte_store_outside (l : LaneState) (a n v b : Nat) (h : b < a ∨ a + n ≤ b) :
    (l.store a n v).byte b = l.byte b := by
  fun_induction LaneState.store l a n v
  case case1 => rfl
  case case2 ih => rw [ih (by omega), LaneState.byte_setByte, if_neg (by omega)]

/-- The byte at offset `i` of a store is the one that the value has there, little-endian (R12). -/
theorem LaneState.byte_store_inside (l : LaneState) (a n v i : Nat) (h : i < n) :
    (l.store a n v).byte (a + i) = BitVec.ofNat 8 (v / 256 ^ i) := by
  fun_induction LaneState.store l a n v generalizing i
  case case1 => omega
  case case2 l a v k ih =>
    match i with
    | 0 => rw [LaneState.byte_store_outside _ _ _ _ _ (by omega), LaneState.byte_setByte]; simp
    | j + 1 =>
      have e := ih j (by omega)
      rw [Nat.div_div_eq_div_mul, ← Nat.pow_succ', show a + 1 + j = a + (j + 1) by omega] at e
      exact e

theorem LaneState.memOk_engStore {l : LaneState} (a n v : Nat) (h : l.memOk) : (l.engStore a n v).memOk :=
  LaneState.memOk_store (l := l) a n v h

theorem LaneState.byte_engStore_outside (l : LaneState) (a n v b : Nat) (h : b < a ∨ a + n ≤ b) :
    (l.engStore a n v).byte b = l.byte b := LaneState.byte_store_outside l a n v b h

theorem LaneState.memOk_setDwords {l : LaneState} (ws : List DWord) (a : Nat) (h : l.memOk) : (l.setDwords a ws).memOk :=
  foldl_keeps LaneState.memOk (fun _ _ => LaneState.memOk_engStore _ _ _) _ l h

/-! ### Stores of byte lists -/

theorem LaneState.memOk_putBytes {l : LaneState} (a : Nat) (bs : List Byte) (h : l.memOk) : (l.putBytes a bs).memOk := by
  fun_induction LaneState.putBytes l a bs
  case case1 => exact h
  case case2 ih => exact ih (LaneState.memOk_setByte _ _ h)

theorem LaneState.byte_putBytes_outside (l : LaneState) (a b : Nat) (bs : List Byte) (h : b < a ∨ a + bs.length ≤ b) :
    (l.putBytes a bs).byte b = l.byte b := by
  fun_induction LaneState.putBytes l a bs
  case case1 => rfl
  case case2 ih =>
    rw [List.length_cons] at h
    rw [ih (by omega), LaneState.byte_setByte, if_neg (by omega)]

theorem LaneState.byte_putBytes_inside (l : LaneState) (a i : Nat) (bs : List Byte) (h : i < bs.length) :
    (l.putBytes a bs).byte (a + i) = bs.getD i 0 := by
  fun_induction LaneState.putBytes l a bs generalizing i
  case case1 => exact absurd h (Nat.not_lt_zero i)
  case case2 l a c r ih =>
    match i with
    | 0 => rw [LaneState.byte_putBytes_outside _ _ _ _ (by omega), LaneState.byte_setByte]; simp
    | j + 1 =>
      have e := ih j (Nat.lt_of_succ_lt_succ h)
      rwa [show a + 1 + j = a + (j + 1) by omega] at e

/-! ### Caches and other masters -/

@[simp] theorem LaneState.mem_ckptRequest {l p} : (ckptRequest l p).mem = l.mem := by
  unfold ckptRequest; dsimp only; repeat' split
  all_goals simp
@[simp] theorem LaneState.mem_ckptForceNew {l p f} : (ckptForceNew l p f).mem = l.mem := by
  unfold ckptForceNew ckptForce; split <;> simp
@[simp] theorem LaneState.mem_snoop {l n} : (snoop l n).mem = l.mem := by
  unfold snoop; split <;> simp

theorem LaneState.memOk_dmaByteIn {l : LaneState} (a : Nat) (b : Byte) (h : l.memOk) : (l.dmaByteIn a b).memOk := by
  have copies : ((List.range 4).foldl (fun m p => m.dmaShare p a b) l).memOk :=
    foldl_keeps LaneState.memOk (fun m p => LaneState.memOk_of_mem (by
      unfold LaneState.dmaShare; dsimp only; split <;> split <;> simp [LaneState.putLine])) _ l h
  refine LaneState.memOk_setByte _ _ ?_
  split
  · exact LaneState.memOk_of_mem LaneState.mem_setL2 copies
  · exact copies

theorem LaneState.memOk_dmaPut {l : LaneState} (a : Nat) (b : Byte) (h : l.memOk) : (l.dmaPut a b).memOk := by
  unfold LaneState.dmaPut
  split
  · exact LaneState.memOk_of_mem (l := l) LaneState.mem_snoop h
  · exact LaneState.memOk_dmaByteIn a b h

theorem LaneState.memOk_dmaStore {l : LaneState} (a n v : Nat) (h : l.memOk) : (l.dmaStore a n v).memOk := by
  fun_induction LaneState.dmaStore l a n v
  case case1 => exact h
  case case2 ih => exact ih (LaneState.memOk_dmaPut _ _ h)

theorem LaneState.memOk_dmaPutBytes {l : LaneState} (a : Nat) (bs : List Byte) (h : l.memOk) :
    (l.dmaPutBytes a bs).memOk := by
  fun_induction LaneState.dmaPutBytes l a bs
  case case1 => exact h
  case case2 ih => exact ih (LaneState.memOk_dmaPut _ _ h)

theorem LaneState.memOk_serveStores {l : LaneState} (h : l.memOk) : l.serveStores.memOk :=
  foldl_keeps LaneState.memOk (fun _ _ => LaneState.memOk_dmaByteIn _ _) _ _ (LaneState.memOk_of_mem (l := l) rfl h)

theorem LaneState.memOk_flushPair {l : LaneState} (p : Nat) (h : l.memOk) : (l.flushPair p).memOk := by
  refine LaneState.memOk_of_mem LaneState.mem_modPair (foldl_keeps LaneState.memOk (fun m c hm => ?_) _ l h)
  split
  · exact hm
  · exact LaneState.memOk_putBytes _ _ (LaneState.memOk_of_mem LaneState.mem_setL2 hm)

theorem LaneState.memOk_writeBack {l : LaneState} (h : l.memOk) : l.writeBack.memOk := by
  refine foldl_keeps LaneState.memOk (fun _ p => LaneState.memOk_flushPair p) _ _ ?_
  refine LaneState.memOk_of_mem (l := l.l2.foldl _ l) rfl (foldl_keeps LaneState.memOk (fun m e hm => ?_) _ l h)
  split
  · exact LaneState.memOk_putBytes _ _ hm
  · exact hm

theorem LaneState.memOk_memCopy {l : LaneState} (src dst n : Nat) (h : l.memOk) : (l.memCopy src dst n).memOk := by
  refine LaneState.memOk_of_mem rfl (foldl_keeps LaneState.memOk (fun m i hm => ?_) (List.range n) l h)
  dsimp only
  split
  · exact hm
  · exact LaneState.memOk_setByte _ _ hm

/-- A lane right after reset lists no byte. -/
theorem State.reset_memOk : State.reset.a.memOk ∧ State.reset.b.memOk := ⟨rfl, rfl⟩

end Sys2Proof.Machine
end

