-- ==== Sys2Proof/Machine/Balls.lean ====
section
/-!
DEFINITION. The package (spec/18_package_and_balls.md R491 to R503): where each ball lies, what it carries, and the state of
a lane's balls in reset and in PARK.
-/
namespace Sys2Proof.Machine
open Sys2Proof

/-- A ball site: the row counted from A as 0, and the column from 1 (R491). -/
structure Ball where
  row : Nat
  col : Nat
  deriving DecidableEq, Repr

/-- The index of a one-letter row; I, O, Q, R, S, X and Z are not used (R491). -/
def rowIndex (c : Char) : Nat := "ABCDEFGHJKLMNPTUVWY".toList.idxOf c
/-- A row by its letters: A to Y, AA to AY, then BA to BC. -/
def rowOf (name : String) : Nat :=
  match name.toList with
  | ['A', c] => 19 + rowIndex c
  | ['B', c] => 38 + rowIndex c
  | c :: _ => rowIndex c
  | [] => 0

/-- Signals of a lane (R497). -/
inductive LaneSig where
  | fba (k : Fin 16) | fbb (k : Fin 16) | fbi (k : Fin 16) | ain (k : Fin 16) | gpio (k : Fin 16)
  | fboa (j : Fin 4) | fbob (j : Fin 4) | fboi (j : Fin 4) | snrx (p : Fin 4) | snsy (p : Fin 4)
  | wscl | wsda | wake (i : Fin 4) | err | cantx (n : Fin 2) | canrx (n : Fin 2) | tst
  | hsck | hscsN | hmosi | hmiso | tck | tms | tdi | tdo | mdc | mdio | x32k (out : Bool)
  | rgtxc | rgtxctl | rgtxd (i : Fin 4) | xref (out : Bool) | rgrxc | rgrxctl | rgrxd (i : Fin 4)
  | t1s (y : Bool) (b : Bool)
  deriving DecidableEq, Repr

/-- Signals of the package: a lane's, Bedrock's (R499) and the bridge die's (R500 to R502). -/
inductive Signal where
  | lane (x : Lane) (g : LaneSig)
  | si (n : Fin 16) (b : Bool) | tp (j : Fin 8) | so (k : Fin 8) (b : Bool) | srst | errD (n : Bool) | tstd
  | csp (k : Fin 24) | csn (k : Fin 24) | ben (n : Fin 8) | vorph | cm (n : Fin 8) (p : Fin 3) | orph (n : Fin 8)
  | vbr (n : Fin 8) | bst (n : Fin 8) (p : Fin 3) | gh (n : Fin 8) (p : Fin 3) | sw (n : Fin 8) (p : Fin 3)
  | gl (n : Fin 8) (p : Fin 3)
  deriving DecidableEq, Repr

/-- The Lane A ball of a lane signal (R497). -/
def LaneSig.ball : LaneSig → Ball
  | .fba k => ⟨k, 1⟩
  | .fbb k => ⟨k, 2⟩
  | .fbi k => ⟨k, 3⟩
  | .ain k => ⟨k, 4⟩
  | .gpio k => ⟨k, 5⟩
  | .fboa j => ⟨j, 6⟩
  | .fbob j => ⟨j + 4, 6⟩
  | .fboi j => ⟨j + 8, 6⟩
  | .snrx p => ⟨p + 12, 6⟩
  | .snsy p => ⟨rowOf "V", p + 1⟩
  | .wscl => ⟨rowOf "V", 5⟩
  | .wsda => ⟨rowOf "V", 6⟩
  | .wake i => ⟨rowOf "W", i + 1⟩
  | .err => ⟨rowOf "W", 6⟩
  | .cantx n => ⟨rowOf "Y", 2 * n + 1⟩
  | .canrx n => ⟨rowOf "Y", 2 * n + 2⟩
  | .tst => ⟨rowOf "Y", 6⟩
  | .hsck => ⟨rowOf "AA", 1⟩
  | .hscsN => ⟨rowOf "AA", 2⟩
  | .hmosi => ⟨rowOf "AA", 3⟩
  | .hmiso => ⟨rowOf "AA", 4⟩
  | .tck => ⟨rowOf "AB", 1⟩
  | .tms => ⟨rowOf "AB", 2⟩
  | .tdi => ⟨rowOf "AB", 3⟩
  | .tdo => ⟨rowOf "AB", 4⟩
  | .mdc => ⟨rowOf "AC", 1⟩
  | .mdio => ⟨rowOf "AC", 2⟩
  | .x32k o => ⟨rowOf "AC", 4 + bit o⟩
  | .rgtxc => ⟨rowOf "AD", 1⟩
  | .rgtxctl => ⟨rowOf "AD", 2⟩
  | .rgtxd i => ⟨rowOf "AD", 3 + i⟩
  | .xref o => ⟨rowOf "AE", 4 + bit o⟩
  | .rgrxc => ⟨rowOf "AF", 1⟩
  | .rgrxctl => ⟨rowOf "AF", 2⟩
  | .rgrxd i => ⟨rowOf "AF", 3 + i⟩
  | .t1s y b => ⟨rowOf "AG", 1 + 3 * bit y + bit b⟩

/-- The column of a Lane B ball whose Lane A counterpart lies in column `c`, and back (R498). -/
def Ball.mirror (b : Ball) : Ball := ⟨b.row, 42 - b.col⟩

/-- The ball of a signal (R497 to R502). -/
def Signal.ball : Signal → Ball
  | .lane .A g => g.ball
  | .lane .B g => g.ball.mirror
  | .si n b => ⟨2 * (n / 8) + bit b, 14 + 2 * (n % 8 : Nat)⟩
  | .tp j => ⟨rowOf "E", 14 + 2 * j⟩
  | .so k b => ⟨rowOf "F" + bit b, 14 + 2 * k⟩
  | .srst => ⟨rowOf "H", 14⟩
  | .errD n => ⟨rowOf "H", 16 + 2 * bit n⟩
  | .tstd => ⟨rowOf "H", 20⟩
  | .csp k => if (k : Nat) < 12 then ⟨rowOf "AD", 14 + k⟩ else ⟨rowOf "AF", 2 + k⟩
  | .csn k => if (k : Nat) < 12 then ⟨rowOf "AE", 14 + k⟩ else ⟨rowOf "AG", 2 + k⟩
  | .ben n => ⟨rowOf "AD" + n % 4, 26 + n / 4⟩
  | .vorph => ⟨rowOf "AD", 28⟩
  | .cm n p => bridgeEdge n p
  | .orph n => bridgeEdge n 3
  | .vbr n => ⟨rowOf "AK", 5 + 4 * n⟩
  | .bst n p => ⟨rowOf "AK", 6 + 4 * n + p⟩
  | .gh n p => ⟨rowOf "AL", 6 + 4 * n + p⟩
  | .sw n p => ⟨rowOf "AM", 6 + 4 * n + p⟩
  | .gl n p => ⟨rowOf "AN", 6 + 4 * n + p⟩
where
  /-- CMU_n, CMV_n, CMW_n and ORPH_n (R501). -/
  bridgeEdge (n i : Nat) : Ball :=
    if n % 4 = 3 then ⟨rowOf "AK" + i, if n = 3 then 2 else 40⟩
    else ⟨rowOf "AK" + 4 * (n % 4) + i, if n < 4 then 1 else 41⟩

/-- The I/O type of a ball (R494). -/
inductive BallDomain where
  | lio | cru | rgm | t1s | ana | xtl | bsf | brl | csa | hv | hvg | lvg
  deriving DecidableEq, Repr

def LaneSig.domain : LaneSig → BallDomain
  | .ain _ => .ana
  | .wscl | .wsda | .wake _ | .err | .tst | .x32k _ => .cru
  | .mdc | .mdio | .rgtxc | .rgtxctl | .rgtxd _ | .rgrxc | .rgrxctl | .rgrxd _ => .rgm
  | .xref _ => .xtl
  | .t1s _ _ => .t1s
  | .fba _ | .fbb _ | .fbi _ | .gpio _ | .fboa _ | .fbob _ | .fboi _ | .snrx _ | .snsy _ | .cantx _ | .canrx _ | .hsck
  | .hscsN | .hmosi | .hmiso | .tck | .tms | .tdi | .tdo => .lio

def Signal.domain : Signal → BallDomain
  | .lane _ g => g.domain
  | .si _ _ | .tp _ | .so _ _ | .srst | .errD _ | .tstd => .bsf
  | .csp _ | .csn _ => .csa
  | .ben _ | .vorph | .cm _ _ | .orph _ => .brl
  | .vbr _ | .sw _ _ => .hv
  | .bst _ _ | .gh _ _ => .hvg
  | .gl _ _ => .lvg

/-- The state of a ball that no block has changed (R495): high impedance, with a weak pull, driven, a crystal that runs or
stands, or supplied. -/
inductive BallState where
  | z | pu | pd | h | l | oscillating | stopped | supplied
  deriving DecidableEq, Repr

/-- The reset state of a lane ball (R497). -/
def LaneSig.rest : LaneSig → BallState
  | .fba _ | .fbb _ | .fbi _ | .gpio _ | .wake _ | .tst | .hsck | .hmosi | .tck | .rgrxc | .rgrxctl | .rgrxd _ => .pd
  | .snrx _ | .canrx _ | .hscsN | .tms | .tdi | .mdio => .pu
  | .ain _ | .wscl | .wsda | .hmiso | .tdo | .t1s _ _ => .z
  | .fboa _ | .fbob _ | .fboi _ | .snsy _ | .err | .mdc | .rgtxc | .rgtxctl | .rgtxd _ => .l
  | .cantx _ => .h
  | .x32k _ => .oscillating
  | .xref _ => .stopped

/-- The reset state of a ball; those of the power stage that are inputs or supplies have none (R499, R500, R502). -/
def Signal.rest : Signal → Option BallState
  | .lane _ g => some g.rest
  | .si _ _ | .srst | .tstd | .ben _ | .cm _ _ | .orph _ => some .pd
  | .tp _ | .so _ _ | .gh _ _ | .gl _ _ => some .l
  | .errD n => some (if n then .l else .h)
  | .csp _ | .csn _ => some .z
  | .vorph => some .supplied
  | .vbr _ | .bst _ _ | .sw _ _ => none

/-- What holds a lane's ball, where no block of the lane has it: without a feed and in PARK it is unpowered but for the
Crust's, in a lane reset it is at its reset state (R495, R496). -/
def LaneState.ballHeld (l : LaneState) (g : LaneSig) : Option BallState :=
  if !l.power.feedOn then some .z
  else if l.power.railsOff then (if g.domain = .cru then none else some .z)
  else if l.power.held then some g.rest
  else none

/-- Every signal of a lane, and every signal of the package. -/
def LaneSig.all : List LaneSig :=
  let f := List.finRange 16
  let q := List.finRange 4
  let t := List.finRange 2
  let b := [false, true]
  f.map .fba ++ f.map .fbb ++ f.map .fbi ++ f.map .ain ++ f.map .gpio ++ q.map .fboa ++ q.map .fbob ++ q.map .fboi ++
  q.map .snrx ++ q.map .snsy ++ [.wscl, .wsda] ++ q.map .wake ++ [.err] ++ t.map .cantx ++ t.map .canrx ++
  [.tst, .hsck, .hscsN, .hmosi, .hmiso, .tck, .tms, .tdi, .tdo, .mdc, .mdio] ++ b.map .x32k ++
  [.rgtxc, .rgtxctl] ++ q.map .rgtxd ++ b.map .xref ++ [.rgrxc, .rgrxctl] ++ q.map .rgrxd ++
  b.flatMap fun y => b.map fun w => .t1s y w
def Signal.all : List Signal :=
  let e := List.finRange 8
  let w := List.finRange 24
  let b := [false, true]
  let per := fun (f : Fin 8 → Fin 3 → Signal) => e.flatMap fun n => (List.finRange 3).map fun p => f n p
  LaneSig.all.map (.lane .A) ++ LaneSig.all.map (.lane .B) ++
  ((List.finRange 16).flatMap fun n => b.map fun c => .si n c) ++ e.map .tp ++ (e.flatMap fun k => b.map fun c => .so k c) ++
  [.srst, .errD false, .errD true, .tstd] ++ w.map .csp ++ w.map .csn ++ e.map .ben ++ [.vorph] ++ per .cm ++ e.map .orph ++
  e.map .vbr ++ per .bst ++ per .gh ++ per .sw ++ per .gl

/-- Supply and ground rails (R503). -/
inductive Rail where
  | feed (x : Lane) | vgd (x : Lane) | pgnd (n : Fin 8) | gnd
  deriving DecidableEq, Repr

/-- Lane A's GND balls (R503). -/
def gndLaneA (b : Ball) : Bool :=
  let r := b.row
  decide (r ≤ rowOf "AG") && ([7, 8, 12, 13].contains b.col || (decide (r ≤ rowOf "P") && [9, 10, 11].contains b.col)) ||
  [("W", 5), ("Y", 5), ("AA", 5), ("AA", 6), ("AB", 5), ("AB", 6), ("AC", 3), ("AC", 6), ("AE", 1), ("AE", 2), ("AE", 3),
    ("AE", 6), ("AG", 3), ("AG", 6)].any fun p => rowOf p.1 == r && p.2 == b.col

/-- The other GND balls (R503). -/
def gndCentre (b : Ball) : Bool :=
  let r := b.row
  let c := b.col
  let mid := decide (14 ≤ c ∧ c ≤ 28)
  let low := decide (rowOf "AP" ≤ r ∧ r ≤ rowOf "BC")
  (mid && decide (r < rowOf "H") && c % 2 == 1) ||
  (r == rowOf "H" && ([15, 17, 19].contains c || decide (21 ≤ c ∧ c ≤ 28))) ||
  (mid && decide (rowOf "J" ≤ r ∧ r ≤ rowOf "AC")) ||
  (c == 28 && decide (rowOf "AE" ≤ r ∧ r ≤ rowOf "AG")) ||
  (r == rowOf "AH" && (decide (1 ≤ c ∧ c ≤ 4) || decide (38 ≤ c ∧ c ≤ 41))) ||
  (r == rowOf "AJ" && [1, 2, 40, 41].contains c) ||
  (r == rowOf "BC" && (c == 1 || c == 41)) || (low && (c == 2 || c == 40)) ||
  (c == 37 && decide (rowOf "AK" ≤ r ∧ r ≤ rowOf "BC"))

/-- The PGND balls of bridge `n` (R502). -/
def pgnd (n : Nat) (b : Ball) : Bool :=
  let c := 5 + 4 * n
  (b.col == c && decide (rowOf "AL" ≤ b.row ∧ b.row ≤ rowOf "AN")) ||
  (decide (c ≤ b.col ∧ b.col ≤ c + 3) && decide (rowOf "AP" ≤ b.row ∧ b.row ≤ rowOf "BC"))

/-- The rail of a supply or ground ball (R503). -/
def Ball.rail (b : Ball) : Option Rail :=
  let power := decide (rowOf "AK" ≤ b.row ∧ b.row ≤ rowOf "BC")
  let feed := decide (rowOf "T" ≤ b.row ∧ b.row ≤ rowOf "AG")
  if feed && [9, 10, 11].contains b.col then some (.feed .A)
  else if feed && [31, 32, 33].contains b.col then some (.feed .B)
  else if power && b.col == 4 then some (.vgd .A)
  else if power && b.col == 38 then some (.vgd .B)
  else if gndLaneA b || (decide (29 ≤ b.col) && gndLaneA b.mirror) || gndCentre b then some .gnd
  else ((List.finRange 8).find? fun n => pgnd n.val b).map .pgnd

/-- Depopulated sites (R493). -/
def Ball.empty (b : Ball) : Bool :=
  (b.row == rowOf "AH" && decide (5 ≤ b.col ∧ b.col ≤ 37)) || (b.row == rowOf "AJ" && decide (3 ≤ b.col ∧ b.col ≤ 39)) ||
  (decide (rowOf "AK" ≤ b.row) && (b.col == 3 || b.col == 39))

/-- Every site of the grid (R491). -/
def Ball.sites : List Ball := (List.range 41).flatMap fun r => (List.range 41).map fun c => ⟨r, c + 1⟩

/-- A set of sites as one number, a bit to a site. -/
def ballMask (bs : List Ball) : Nat := bs.foldl (fun m b => m ||| 2 ^ (64 * b.row + b.col)) 0

end Sys2Proof.Machine
end

