-- ==== Sys2Proof/Tests/Slice0.lean ====
section
/-!
SUPPORT. Tests: for each statement a state and operands that meet the hypotheses of each of its clauses, and for each
check of well-formedness a command that it refuses.
-/
namespace Sys2Proof.Machine
open Sys2Proof

-- One theorem at a time: the kernel's evaluations then need no thread each.
set_option Elab.async false

/-! ### States -/

/-- A lane out of reset whose start-up is complete, with both links up. -/
def wLane (x : Lane) : LaneState :=
  let l := LaneState.reset x
  ({ l with power := { l.power with held := false, boot := .complete } }.put F.LNK_LSTAT_LLUP 1).put F.LNK_LSTAT_BLUP 1

/-- Both lanes out of reset, every other register at its reset value. -/
def wLive : State := { State.reset with a := wLane .A, b := wLane .B }

/-- Fields set in lane A. -/
def State.lput (s : State) (fs : List (Fld × Nat)) : State :=
  s.modLane .A fun l => fs.foldl (fun l f => l.put f.1 f.2) l
/-- Fields set in Bedrock. -/
def State.bputs (s : State) (fs : List (Fld × Nat)) : State := s.modBed fun b => fs.foldl (fun b f => b.put f.1 f.2) b
/-- Fields set in the bridge die. -/
def State.gputs (s : State) (fs : List (Fld × Nat)) : State := s.modBrg fun b => fs.foldl (fun b f => b.put f.1 f.2) b

/-- A duplex command. -/
def wCmd : Staged := ⟨0, ⟨100, 200, 300⟩, true, .none⟩
/-- Lane A holds domain 0 with all bridges, the timebase runs, and lane A has a command staged for bridge 2. -/
def wStaged : State :=
  ((wLive.bputs [(F.BLEASE_LCFG_BRIDGES 0, 0xFF), (F.BLEASE_LSTAT_STATE 0, 1), (F.BENV_ENVCFG_DMAX 2, 0xFFFF),
    (F.BENV_ENVCFG_DSTEP 2, 0xFFFF)]).gputs [(F.running P.BCOM, 1), (F.BRG_BSTAT_SEL 2, Sel.lane .A), (F.BRG_BSTAT_ACT 2, Act.run)]).modBrg fun b => b.setStaged .A 2 (some wCmd)
/-- A DUPLEX run's outputs. -/
def wOwn : DupOwn := ⟨2, 0, [7], 4, true⟩
/-- A frame of the bridge link with sequence number 0. -/
def wBlFrame : List Half := [blHeader 9 0 1, 2] ++ [blTrailer [blHeader 9 0 1, 2] 0]
/-- The timebase runs on a locked PLL. -/
def wTb (fs : List (Fld × Nat)) : State :=
  wLive.gputs ([(F.run P.BCOM, 1), (F.running P.BCOM, 1), (F.BCOM_TBSTAT_LOCK, 1)] ++ fs)
/-- A frame of the host SPI for an address of working SRAM. -/
def wFrame (cmd hi : Nat) : List (BitVec 8) :=
  let b : List (BitVec 8) := [BitVec.ofNat 8 cmd, BitVec.ofNat 8 hi, 0, 0, 0, 1, 2, 3, 4]
  b ++ [crc8 b]
/-- The host may read and write the first pages of working SRAM. -/
def wHost : State :=
  wLive.lput [(F.HSPI_HWBASE_BASE 0, 0x10000), (F.HSPI_HWCFG_SIZE 0, 4), (F.HSPI_HWCFG_RD 0, 1), (F.HSPI_HWCFG_WR 0, 1)]
/-- The host may read the page of the GPIO block. -/
def wHost2 : State := wLive.lput [(F.HSPI_HWBASE_BASE 0, 0x40035), (F.HSPI_HWCFG_SIZE 0, 1), (F.HSPI_HWCFG_RD 0, 1)]
/-- Pair 2 of lane A runs. -/
def wPair (fs : List (Fld × Nat)) : State :=
  (wLive.modLane .A fun l => l.modPair 2 fun q => { q with released := true }).lput fs
/-- Pair 2 of lane A is halted. -/
def wHalted : State := (wPair [(F.CKP_PAIRSTAT_STATE 2, 4)]).modLane .A fun l => { l with dm := { DebugMod.reset with enabled := true, active := true } }
/-- Every pair of lane A runs. -/
def wAllPairs : State := wLive.modLane .A fun l =>
  (List.range 4).foldl (fun (l : LaneState) p => l.modPair p fun q => { q with released := true }) { l with dm := { DebugMod.reset with enabled := true, active := true } }
/-- Lane A's request waits in a device state. -/
def wRq (dev : Nat) (r : Request) (fs : List (Fld × Nat)) : State :=
  (wLive.bputs ([(F.BSYS_DEVSTAT_DEVSTATE, dev)] ++ fs)).setRequest .A (some r)
/-- Lane A, up and capable, holds domain 3. -/
def wHolds : List (Fld × Nat) := [(F.BLEASE_LSTAT_STATE 3, 1), (F.status .A, 2), (F.cap .A, 1), (F.BSYS_BCFG_NETVOTE, 0)]
/-- Both feeds are present. -/
def wFeed (fs : List (Fld × Nat)) : State :=
  (wLive.modLanes fun l => { l with power := { l.power with feedOn := true, feedUv := true } }).bputs fs
/-- A SELECT word of two halves. -/
def wWord : SelectWord := ⟨List.replicate 8 3, List.replicate 8 1, 3, 0, true, 2, true⟩
/-- A slot program of lane A runs, its word at index 0. -/
def wEng (opc : Nat) (w : Code) : State :=
  wLive.modLane .A fun l => (l.setDword 0x20000000 (BitVec.ofNat 6 opc ++ w)).modLoop fun p =>
    { p with run := some ⟨3, 4, 1, 0, false, [], .running⟩ }
/-- Slot 3 of lane A is due: its rotation entry 0 is valid. -/
def wDue : State := wLive.modLane .A fun l =>
  { l with active := ((l.active.put (F.LESLOT_SLOTCFG_DIV 3) 1).put (F.LESLOT_SLOTCFG_EN 3) 1).put (F.LESLOT_ROT_VALID 3 0) 1 }.modLoop
    fun p => { p with framing := true, due := [3] }
/-- A run of slot 3 of lane A stands at a stage. -/
def wRun (st : RunStage) : State := wLive.modLane .A fun l => l.setRun (some ⟨3, 2, 0, 77, false, [], st⟩)
/-- Sieve of lane A has its buffers, and both lanes are up. -/
def wPlc (fs : List (Fld × Nat)) : State :=
  ((wLive.bputs [(F.status .A, 2), (F.status .B, 2)]).modLane .A fun l => l.modSieve fun v =>
    { v with bufs := [(0, some 3), (1, some 200)] }).lput fs
/-- A placement run. -/
def wPlan : PlcRun := ⟨0, 5, true, .input, 0, 0, 0, 0, 3, [], [], [], 1, 0⟩
/-- A run of lane A's Sieve stands at a stage. -/
def wPlan1 (st : PlcStage) : State := (wPlc []).modLane .A fun l => l.modSieve fun v =>
  { v with run := some { wPlan with stage := st } }
/-- Channel 2 of lane A is configured. -/
def wFbk (fs : List (Fld × Nat)) : State :=
  wLive.lput ([(F.run (P.FBKCH 0), 1), (F.running (P.FBKCH 0), 1), (F.FBKCH_CPR_CPR 2, 1000)] ++ fs)
/-- The sensor ports and the converter of lane A run. -/
def wSns (fs : List (Fld × Nat)) : State :=
  wLive.lput ([(F.run P.SNS, 1), (F.running P.SNS, 1), (F.run P.ADC, 1), (F.running P.ADC, 1)] ++ fs)
/-- The nibble pulses of a SENT frame with a tick of 12 samples. -/
def wSent (ns : List Nat) : List Nat := (ns ++ [sentCrc (ns.drop 1) false]).map fun n => 12 * (12 + n)
/-- Port X of lane A is in a state, in cycle 8; slot 3 is a TX entry and slot 4 an RX entry, with one word each. -/
def wStr (st : Nat) (fs : List (Fld × Nat)) : State :=
  wLive.lput ([(F.run P.STR, 1), (F.running P.STR, 1), (F.STR_PCTL_RUN 0, 1), (F.STR_PSTAT_STATE 0, st), (⟨R.STR_CYCCNT 0, 0, 32⟩, 8),
    (F.schDir 0 3, 1), (F.schLen 0 3, 1), (F.schDir 0 4, 2), (F.schLen 0 4, 1)] ++ fs)
/-- A port of lane A changed. -/
def State.strPort (s : State) (f : StrPort → StrPort) : State := s.modLane .A fun l => l.modPort 0 f
/-- A DATA frame for a slot. -/
def wData (slot : Nat) : StrFrame := ⟨1, slot, 5, false, false, false, 8, 0, 1, 0, [77], 0, false⟩
/-- A frame as bytes with the addresses of lane A's port X. -/
def wBytes (f : StrFrame) : List Byte := (wLive.a).strBytes 0 f
/-- Controller 0 of lane A is on the bus, with buffers 2 and 5 requested. -/
def wCan (fs : List (Fld × Nat)) : State :=
  (wLive.lput ([(F.run (P.CAN 0), 1), (F.running (P.CAN 0), 1), (F.CAN_TXREQ_BUF 0, 36)] ++ fs)).modLane .A fun l =>
    l.modCan 0 fun c => { c with joined := true }
/-- A received frame with identifier 9. -/
def wCanFrame : CanFrame := ⟨0x240000, false, false, 2, false, false, false, [1, 2]⟩
/-- The Ethernet MAC of lane A runs with one descriptor in each ring, owned by the MAC, with its buffer behind it. -/
def wEth (fs : List (Fld × Nat)) : State :=
  (wLive.lput ([(F.run P.ETH, 1), (F.running P.ETH, 1), (⟨R.ETH_TXRING, 0, 32⟩, 0x10000000), (⟨R.ETH_RXRING, 0, 32⟩, 0x10000100)] ++ fs)).modLane .A
    fun l => (((((l.dmaStore 0x10000000 4 0x10000010).dmaStore 0x10000004 4 (0x30000 + 20)).dmaStore 0x10000100 4 0x10000110).dmaStore
      0x10000104 4 (0x10000 + 64))).modEth fun e => { e with txOn := true }
/-- Evaluator 3 of BSAFE has a type and a state, evaluation has begun, and both lanes are UP. -/
def wSafe (ty st : Nat) (fs : List (Fld × Nat)) : State :=
  wLive.bputs ([(F.BSYS_BCFG_LOADED, 1), (F.status .A, 2), (F.status .B, 2), (F.BSAFE_EVCFG_TYPE 3, ty), (F.BSAFE_EVCFG_INP0 3, 5),
    (F.BSAFE_EVCFG_INP1 3, 6), (F.BSAFE_EVCFG_RSTSRC 3, 8), (F.BSAFE_EVOUT_OUTMASK 3, 4), (F.BSAFE_EVSTAT_STATE 3, st)] ++ fs)
/-- Lane A in RUN with its pair 2 running. -/
def wPwr (fs : List (Fld × Nat)) (f : Power → Power) : State :=
  (wAllPairs.lput fs).modLane .A fun l => { l with power := f { l.power with feedOn := true, feedUv := true } }
/-- Lane A in PARK, at a step of a wake. -/
def wPark (step : Nat) (fs : List (Fld × Nat)) : State :=
  wPwr fs fun p => { p with railsOff := true, boot := .complete, wakeStep := step }
/-- Both lanes stand park-ready in IDLE. -/
def wGrant : State :=
  let f := fun (l : LaneState) => { l.put F.PWR_PSTAT_CONSENT 1 with power := { l.power with parkReady := true } }
  { (wLive.bputs [(F.BSYS_DEVSTAT_DEVSTATE, 2), (F.status .A, 2), (F.status .B, 2), (F.BSYS_BCFG_LOADED, 1)]) with
    a := f wLive.a, b := f wLive.b }
/-- Lane A held in reset with its supplies good, its record in a state, after a reset of a kind. -/
def wHeld (st kind : Nat) : State :=
  wLive.modLane .A fun l =>
    let l := { (l.krecWrite fun ws => krecSetState ws st).put F.PWR_RSTCAUSE_KIND kind with power :=
      { l.power with held := true, feedOn := true, feedUv := true, boot := .none } }
    l
/-- Lane A stands at a stage of its start-up, with a BEDROCK section that is empty. -/
def wBoot (b : Boot) (fs : List (Fld × Nat)) : State :=
  ((wLive.bputs [(F.status .A, 1), (F.BSYS_BCFG_LOADED, 0)]).modLane .A fun l =>
    let l := (l.setDword 0x100010 1).setDword 0x100040 0x303
    { l with power := { l.power with boot := b } }).lput fs
/-- Channel 2 of lane A's transfer engine is enabled and in a state. -/
def wXfr (st : Nat) (f : XChan → XChan) : State :=
  (wLive.lput [(F.run P.XFR, 1), (F.running P.XFR, 1), (F.XFR_CHCTRL_EN 2, 1), (F.XFR_CHSTAT_STATE 2, st),
    (⟨R.XFR_CHRBASE 2, 0, 32⟩, 0x10000000), (F.XFR_CHRLEN_N 2, 4)]).modLane .A fun l => l.modX 2 f

/-! ### Hypotheses that are met -/

theorem test_hyps_VerdictReachesStaging :
    ((fun (s : State) (l : Lane) (_ : BitVec 9) (p : Half) (b : Fin 8) (c : Staged) =>
      p.getLsbD b.val = true ∧
      s.brg.staged l b.val = some c ∧
      c.duplex = true)
      wStaged .A 0x100 4 2 wCmd) ∧
    ((fun (_ : State) (_ : Lane) (_ : BitVec 9) (p : Half) (_ : Fin 8) (_ : Staged) =>
      p.toNat % 256 = 0 ∧
      p.getLsbD 8 = true)
      wStaged .A 0x100 0x100 0 wCmd) :=
  ⟨by decide +kernel, by decide +kernel⟩

theorem test_hyps_DuplexComparison :
    ((fun (s : State) (x : Lane) (_ : Fin 48) (_ : Nat) (fn : Word) (_ : List DWord) (_ : DupOwn) =>
      (s.lane x).alive = true ∧
      (s.lane x).llUp = true ∧
      fn ≠ (s.lane x).rd R.LE_FN_LO)
      wLive .A 3 0 5 [] wOwn) ∧
    ((fun (s : State) (x : Lane) (slot : Fin 48) (_ : Nat) (fn : Word) (_ : List DWord) (_ : DupOwn) =>
      (s.lane x).alive = true ∧
      (s.lane x).llUp = true ∧
      fn = (s.lane x).rd R.LE_FN_LO ∧
      (s.lane x).links.own slot.val = none)
      wLive .A 3 0 0 [] wOwn) ∧
    ((fun (s : State) (x : Lane) (slot : Fin 48) (rot : Nat) (fn : Word) (_ : List DWord) (o : DupOwn) =>
      (s.lane x).alive = true ∧
      (s.lane x).llUp = true ∧
      fn = (s.lane x).rd R.LE_FN_LO ∧
      (s.lane x).links.own slot.val = some o ∧
      o.rot = rot ∧
      o.fn = fn ∧
      o.bridges < 256 ∧
      (s.lane x).fencedBy .blink = false)
      (wLive.modLane .A fun l => { l with links := l.links.setOwn 3 (some wOwn) }) .A 3 2 0 [7] wOwn) ∧
    ((fun (s : State) (x : Lane) (slot : Fin 48) (_ : Nat) (_ : Word) (_ : List DWord) (o : DupOwn) =>
      (s.lane x).alive = true ∧
      (s.lane x).llUp = true ∧
      (s.lane x).links.own slot.val = some o ∧
      o.bridges < 256 ∧
      (s.lane x).fencedBy .blink = false)
      (wLive.modLane .A fun l => { l with links := l.links.setOwn 3 (some wOwn) }) .A 3 2 0 [7] wOwn) :=
  ⟨by decide +kernel, by decide +kernel, by decide +kernel, by decide +kernel⟩

theorem test_hyps_BoundaryCommitsOrTerminates :
    ((fun (s : State) (n : Fin 8) (d : Nat) (b : BoundaryTimes) (c : Staged) =>
      s.brg.get (F.running P.BCOM) = 1 ∧
      s.bedrockRuns = true ∧
      s.settle = s ∧
      s.selects n.val (s.holder d) = true ∧
      s.terminalDue n.val = false ∧
      (s.unit n.val).treq = false ∧
      s.domainOf n.val = some d ∧
      s.domState d = Dom.held ∧
      s.brg.staged (s.holder d) n.val = some c ∧
      s.brg.staged (s.holder d).peer n.val = none ∧
      c.duplex = false ∧
      160 ≤ byLane (s.holder d) b.leadA b.leadB ∧
      s.passes n.val c = true)
      (wStaged.modBrg fun b => b.setStaged .A 2 (some { wCmd with duplex := false })) 2 0 ⟨200, 0, 0, 0⟩ { wCmd with duplex := false }) ∧
    ((fun (s : State) (n : Fin 8) (_ : Nat) (_ : BoundaryTimes) (_ : Staged) =>
      s.terminalDue n.val = true)
      (wLive.modBrg fun b => b.put (F.BRG_BSTAT_HOLDCNT 3) 4) 3 0 ⟨0, 0, 0, 0⟩ wCmd) :=
  ⟨by decide +kernel, by decide +kernel⟩

theorem test_hyps_ReceiversCheckFrames :
    ((fun (s : State) (x : Lane) (ws : List Half) (_ : List Word) =>
      (s.lane x).alive = true ∧
      blCrcOk ws = true ∧
      (ws.getLastD 0).toNat / 256 = (s.lane x).links.blRx.expect ∧
      0 < blType (ws.headD 0) ∧
      (blLen (blType (ws.headD 0))).isSome = true)
      wLive .A wBlFrame []) ∧
    ((fun (s : State) (x : Lane) (_ : List Half) (_ : List Word) =>
      (s.lane x).alive = true)
      wLive .A [] [1, 2]) ∧
    ((fun (s : State) (x : Lane) (_ : List Half) (ls : List Word) =>
      (s.lane x).alive = true ∧
      llCrcOk ls = true ∧
      llSeqOf (ls.headD 0) = (s.lane x).links.llRx.expect ∧
      0 < llType (ls.headD 0) ∧
      llType (ls.headD 0) < 8)
      wLive .A [] (llWords ⟨3, 0, [5], false⟩ 0)) ∧
    ((fun (s : State) (x : Lane) (_ : List Half) (ls : List Word) =>
      (s.lane x).alive = true ∧
      llCrcOk ls = false)
      wLive .A [] [1, 2]) :=
  ⟨by decide +kernel, by decide +kernel, by decide +kernel, by decide +kernel⟩

theorem test_hyps_LinkUpAndDown :
    ((fun (s : State) (x : Lane) =>
      (s.lane x).alive = true ∧
      (s.lane x).links.llRx.down = false)
      wLive .A) ∧
    ((fun (s : State) (x : Lane) =>
      (s.lane x).alive = true ∧
      (s.lane x).links.llRx.due = true)
      (wLive.modLane .A fun l => l.setLlRx ⟨0, 1, true, true, true⟩) .A) ∧
    ((fun (s : State) (x : Lane) =>
      (s.lane x).alive = true)
      wLive .A) :=
  ⟨by decide +kernel, by decide +kernel, by decide +kernel⟩

theorem test_hyps_SyncAndSending :
    ((fun (s : State) (x : Lane) (_ : BitVec 9) (_ : Half) (_ : Word) (_ : Word) (_ : Word) (_ : Word) (_ : Nat) (_ : LLFrame) =>
      (s.lane x).alive = true)
      (wLive.modLane .A fun l => l.llReady 3 0 [7]) .A 0 0 1 2 3 4 5 ⟨3, 0, [7], false⟩) ∧
    ((fun (s : State) (x : Lane) (_ : BitVec 9) (_ : Half) (_ : Word) (_ : Word) (_ : Word) (_ : Word) (_ : Nat) (_ : LLFrame) =>
      (s.lane x).alive = true ∧
      (s.lane x).llUp = true)
      (wLive.modLane .A fun l => l.llReady 3 0 [7]) .A 0 0 1 2 3 4 5 ⟨3, 0, [7], false⟩) ∧
    ((fun (s : State) (x : Lane) (_ : BitVec 9) (_ : Half) (_ : Word) (_ : Word) (_ : Word) (_ : Word) (c : Nat) (f : LLFrame) =>
      (s.lane x).alive = true ∧
      (s.lane x).fencedBy .llink = false ∧
      (s.lane x).loop.framing = false ∧
      pickFrame (s.lane x).links.ready c none = some f)
      (wLive.modLane .A fun l => l.llReady 3 0 [7]) .A 0 0 1 2 3 4 5 ⟨3, 0, [7], false⟩) :=
  ⟨by decide +kernel, by decide +kernel, by decide +kernel⟩

theorem test_hyps_MasterTimebase :
    ((fun (s : State) (_ : List Half) =>
      s.brg.get (F.run P.BCOM) = 1 ∧
      s.brg.get (F.running P.BCOM) = 0 ∧
      s.brg.get F.BCOM_TBSTAT_LOCK = 1)
      (wTb [(F.running P.BCOM, 0)]) []) ∧
    ((fun (s : State) (_ : List Half) =>
      s.brg.get (F.running P.BCOM) = 1 ∧
      s.brg.fresh = false ∧
      s.brg.pllHold = false)
      (wTb []) []) ∧
    ((fun (s : State) (_ : List Half) =>
      s.brg.get (F.running P.BCOM) = 1)
      (wTb []) []) :=
  ⟨by decide +kernel, by decide +kernel, by decide +kernel⟩

theorem test_hyps_FramesToLanes :
    ((fun (s : State) (x : Lane) (_ : Fin 8) (_ : BitVec 9) (_ : Half) (_ : Half) (_ : Half) (_ : Half) (_ : Fin 6) (_ : Nat) =>
      (s.lane x).alive = true ∧
      (s.lane x).blUp = true)
      wLive .A 3 5 1 2 3 4 2 799) ∧
    ((fun (s : State) (x : Lane) (_ : Fin 8) (_ : BitVec 9) (_ : Half) (_ : Half) (_ : Half) (_ : Half) (_ : Fin 6) (_ : Nat) =>
      (s.lane x).alive = true)
      wLive .A 3 5 1 2 3 4 2 799) :=
  ⟨by decide +kernel, by decide +kernel⟩

theorem test_hyps_RegisterWriteClamps :
    (fun (s : State) (x : Lane) (_ : DWord) =>
      (s.lane x).takes R.GPIO_GCFG = true)
      wLive .A 0x100 :=
  by decide +kernel

theorem test_hyps_RunControl :
    ((fun (s : State) (x : Lane) (_ : Agent) (_ : Nat) =>
      (s.lane x).takes P.GPIO = true ∧
      (s.lane x).takes P.HSPI = true ∧
      (s.lane x).get (F.run P.HSPI) = 0 ∧
      (s.lane x).get (F.running P.HSPI) = 0)
      wLive .A .xfr 0x40035118) ∧
    ((fun (s : State) (x : Lane) (_ : Agent) (_ : Nat) =>
      (s.lane x).takes P.GPIO = true ∧
      (s.lane x).takes P.HSPI = true ∧
      (s.lane x).get (F.run P.HSPI) = 1 ∧
      (s.lane x).get (F.running P.HSPI) = 1)
      (wLive.lput [(F.run P.HSPI, 1), (F.running P.HSPI, 1)]) .A .xfr 0x40035118) ∧
    ((fun (s : State) (x : Lane) (_ : Agent) (_ : Nat) =>
      (s.lane x).takes P.GPIO = true ∧
      (s.lane x).takes P.HSPI = true ∧
      (s.lane x).get (F.run P.HSPI) = 0 ∧
      (s.lane x).get (F.running P.HSPI) = 1)
      (wLive.lput [(F.running P.HSPI, 1)]) .A .xfr 0x40035118) ∧
    ((fun (s : State) (x : Lane) (_ : Agent) (a : Nat) =>
      (s.lane x).takes P.GPIO = true ∧
      (s.lane x).takes P.HSPI = true ∧
      (s.lane x).get (F.locked P.GPIO) = 0 ∧
      P.GPIO + 0x100 ≤ a ∧
      a < P.GPIO + 0x1000)
      wLive .A .xfr 0x40035118) ∧
    ((fun (s : State) (x : Lane) (_ : Agent) (_ : Nat) =>
      (s.lane x).takes P.GPIO = true ∧
      (s.lane x).takes P.HSPI = true ∧
      (s.lane x).get (F.locked P.GPIO) = 1)
      (wLive.lput [(F.locked P.GPIO, 1)]) .A .xfr 0x40035118) :=
  ⟨by decide +kernel, by decide +kernel, by decide +kernel, by decide +kernel, by decide +kernel⟩

theorem test_hyps_LockAndCounters :
    ((fun (s : State) (x : Lane) (_ : Agent) (_ : Word) (_ : Fin 32) =>
      (s.lane x).alive = true ∧
      (s.lane x).blockFenced P.GPIO = false ∧
      (s.lane x).get (F.locked P.GPIO) = 0 ∧
      (s.lane x).lockSeq = [])
      wLive .A .xfr 7 3) ∧
    ((fun (s : State) (x : Lane) (_ : Agent) (_ : Word) (_ : Fin 32) =>
      (s.lane x).alive = true ∧
      (s.lane x).blockFenced P.GPIO = false ∧
      (s.lane x).get (F.locked P.GPIO) = 0 ∧
      (s.lane x).lockSeq = [0x40035])
      (wLive.modLane .A fun l => { l with lockSeq := [0x40035] }) .A .xfr 7 3) ∧
    ((fun (s : State) (x : Lane) (_ : Agent) (_ : Word) (_ : Fin 32) =>
      (s.lane x).alive = true ∧
      (s.lane x).blockFenced P.LE = false)
      wLive .A .xfr 7 3) ∧
    ((fun (s : State) (x : Lane) (_ : Agent) (_ : Word) (_ : Fin 32) =>
      (s.lane x).alive = true ∧
      (s.lane x).takes P.LE = true)
      wLive .A .xfr 7 3) :=
  ⟨by decide +kernel, by decide +kernel, by decide +kernel, by decide +kernel⟩

theorem test_hyps_BridgeDieAccess :
    ((fun (s : State) (x : Lane) (n : Fin 8) (o : Fin 1024) (_ : Word) (d : DWord) (g : Agent) (_ : Access) (_ : Half) (_ : List Half) (_ : List Half) (_ : List (Agent × Access)) (_ : List (List Half)) =>
      (s.lane x).alive = true ∧
      (s.lane x).blUp = true ∧
      brgPerLane (4 * o.val) = false ∧
      (s.lane x).passesOn g ⟨P.BRG n.val + 4 * o.val, 4, some d⟩ = true)
      wLive .A 2 0x48 5 6 .xfr ⟨0, 4, none⟩ 0x120 [] [] [] []) ∧
    ((fun (s : State) (x : Lane) (_ : Fin 8) (o : Fin 1024) (_ : Word) (d : DWord) (g : Agent) (_ : Access) (_ : Half) (_ : List Half) (_ : List Half) (_ : List (Agent × Access)) (_ : List (List Half)) =>
      (s.lane x).alive = true ∧
      (s.lane x).blUp = true ∧
      brgPerLane (4 * o.val) = false ∧
      (s.lane x).passesOn g ⟨P.BCOM + 4 * o.val, 4, some d⟩ = true)
      wLive .A 2 0x48 5 6 .xfr ⟨0, 4, none⟩ 0x120 [] [] [] []) ∧
    ((fun (s : State) (x : Lane) (n : Fin 8) (o : Fin 1024) (_ : Word) (d : DWord) (g : Agent) (_ : Access) (_ : Half) (_ : List Half) (_ : List Half) (_ : List (Agent × Access)) (_ : List (List Half)) =>
      (s.lane x).alive = true ∧
      (s.lane x).blUp = false ∧
      brgPerLane (4 * o.val) = false ∧
      (s.lane x).passesOn g ⟨P.BRG n.val + 4 * o.val, 4, some d⟩ = true)
      (wLive.lput [(F.LNK_LSTAT_BLUP, 0)]) .A 2 0x48 5 6 .xfr ⟨0, 4, none⟩ 0 [] [] [] []) ∧
    ((fun (s : State) (x : Lane) (n : Fin 8) (o : Fin 1024) (_ : Word) (_ : DWord) (g : Agent) (_ : Access) (_ : Half) (_ : List Half) (_ : List Half) (_ : List (Agent × Access)) (_ : List (List Half)) =>
      (s.lane x).alive = true ∧
      (s.lane x).blUp = true ∧
      brgPerLane (4 * o.val) = false ∧
      (s.lane x).passesOn g ⟨P.BRG n.val + 4 * o.val, 4, none⟩ = true)
      wLive .A 2 0x48 5 6 .xfr ⟨0, 4, none⟩ 0x120 [] [] [] []) ∧
    ((fun (s : State) (x : Lane) (_ : Fin 8) (_ : Fin 1024) (_ : Word) (_ : DWord) (g : Agent) (a : Access) (_ : Half) (_ : List Half) (_ : List Half) (rest : List (Agent × Access)) (_ : List (List Half)) =>
      (s.lane x).alive = true ∧
      (s.lane x).links.pendRd = (g, a) :: rest ∧
      a.wdata = none ∧
      (∀ h, g = .hart h → (s.lane x).pairFree h.val = true))
      (wLive.modLane .A fun l => { l with links := { l.links with pendRd := [(.xfr, ⟨0, 4, none⟩)] } }) .A 2 0x48 5 6 .xfr ⟨0, 4, none⟩ 0 [] [] [] []) ∧
    ((fun (s : State) (x : Lane) (_ : Fin 8) (_ : Fin 1024) (_ : Word) (_ : DWord) (g : Agent) (a : Access) (_ : Half) (_ : List Half) (_ : List Half) (rest : List (Agent × Access)) (_ : List (List Half)) =>
      (s.lane x).links.pendRd = (g, a) :: rest ∧
      a.wdata = none ∧
      (∀ h, g = .hart h → (s.lane x).pairFree h.val = true))
      (wLive.modLane .A fun l => { l with links := { l.links with pendRd := [(.xfr, ⟨0, 4, none⟩)] } }) .A 2 0x48 5 6 .xfr ⟨0, 4, none⟩ 0 [] [] [] []) ∧
    ((fun (s : State) (x : Lane) (_ : Fin 8) (_ : Fin 1024) (_ : Word) (_ : DWord) (_ : Agent) (_ : Access) (_ : Half) (_ : List Half) (_ : List Half) (_ : List (Agent × Access)) (_ : List (List Half)) =>
      (s.lane x).writesWait = false)
      wLive .A 2 0x48 5 6 .xfr ⟨0, 4, none⟩ 0x120 [] [] [] []) ∧
    ((fun (s : State) (x : Lane) (n : Fin 8) (_ : Fin 1024) (_ : Word) (_ : DWord) (_ : Agent) (_ : Access) (off : Half) (w : List Half) (r : List Half) (_ : List (Agent × Access)) (more : List (List Half)) =>
      (s.lane x).links.blDown = w :: r :: more ∧
      blType (w.headD 0) = 3 ∧
      isRegFrame 4 n.val [off] r = true)
      (wLive.modLane .A fun l => { l with links := { l.links with blDown := [[blHeader 3 2 0, 0x120, 0, 0, 0], [blHeader 4 2 0, 0x120, 0]] } }) .A 2 0x48 5 6 .xfr ⟨0, 4, none⟩ 0x120 [blHeader 3 2 0, 0x120, 0, 0, 0] [blHeader 4 2 0, 0x120, 0] [] []) ∧
    ((fun (s : State) (x : Lane) (n : Fin 8) (_ : Fin 1024) (_ : Word) (_ : DWord) (_ : Agent) (_ : Access) (off : Half) (_ : List Half) (_ : List Half) (_ : List (Agent × Access)) (_ : List (List Half)) =>
      off.getLsbD 15 = false ∧
      (s.devState = Dev.drive ∨ s.devState = Dev.safe) ∧
      (s.devState = Dev.drive → ∀ e, s.domainOf n.val = some e → s.holderOf e ≠ some x) ∧
      (s.lane x).power.boot ≠ .load)
      (wLive.bputs [(F.BSYS_DEVSTAT_DEVSTATE, 3)]) .A 2 0x48 5 6 .xfr ⟨0, 4, none⟩ 0x120 [] [] [] []) ∧
    ((fun (s : State) (x : Lane) (n : Fin 8) (_ : Fin 1024) (_ : Word) (_ : DWord) (_ : Agent) (_ : Access) (_ : Half) (_ : List Half) (_ : List Half) (_ : List (Agent × Access)) (_ : List (List Half)) =>
      s.brgAccepts x (some n.val) = true ∧
      s.brg.lockSeq = [])
      (wLive.bputs [(F.BSYS_DEVSTAT_DEVSTATE, 2)]) .A 2 0x48 5 6 .xfr ⟨0, 4, none⟩ 0x120 [] [] [] []) ∧
    ((fun (s : State) (x : Lane) (n : Fin 8) (_ : Fin 1024) (_ : Word) (_ : DWord) (_ : Agent) (_ : Access) (_ : Half) (_ : List Half) (_ : List Half) (_ : List (Agent × Access)) (_ : List (List Half)) =>
      s.brgAccepts x (some n.val) = true ∧
      s.brg.lockSeq = [] ∧
      (s.lane x).power.boot ≠ .load ∧
      (s.lane x).alive = true)
      (wLive.bputs [(F.BSYS_DEVSTAT_DEVSTATE, 2)]) .A 2 0x48 5 6 .xfr ⟨0, 4, none⟩ 0x120 [] [] [] []) :=
  ⟨by decide +kernel, by decide +kernel, by decide +kernel, by decide +kernel, by decide +kernel, by decide +kernel, by decide +kernel, by decide +kernel, by decide +kernel, by decide +kernel, by decide +kernel⟩

theorem test_hyps_PeerWindow :
    ((fun (s : State) (x : Lane) (_ : Fin 0x10000) (_ : Access) (_ : Fin 32768) (_ : Word) =>
      (s.lane x).alive = true ∧
      (s.lane x).llUp = true ∧
      (s.lane x).fencedBy .llink = false)
      wLive .A 0 ⟨0, 4, none⟩ 3 9) ∧
    ((fun (s : State) (x : Lane) (off : Fin 0x10000) (_ : Access) (_ : Fin 32768) (_ : Word) =>
      (s.lane x).alive = true ∧
      (s.lane x).llUp = true ∧
      (s.lane x).fencedBy .llink = false ∧
      (s.lane x).heldU (0x10000000 + 4 * off.val) 4 = false)
      wLive .A 0 ⟨0, 4, none⟩ 3 9) ∧
    ((fun (s : State) (x : Lane) (_ : Fin 0x10000) (a : Access) (tag : Fin 32768) (_ : Word) =>
      (s.lane x).alive = true ∧
      (s.lane x).llUp = true ∧
      (s.lane x).links.peerPend = [(tag.val, .xfr, a)] ∧
      a.size = 4)
      (wLive.modLane .A fun l => { l with links := { l.links with peerPend := [(3, .xfr, ⟨0, 4, none⟩)] } }) .A 0 ⟨0, 4, none⟩ 3 9) ∧
    ((fun (s : State) (x : Lane) (_ : Fin 0x10000) (a : Access) (tag : Fin 32768) (_ : Word) =>
      (s.lane x).alive = true ∧
      (s.lane x).llUp = true ∧
      (s.lane x).links.peerPend = [(tag.val, .xfr, a)])
      (wLive.modLane .A fun l => { l with links := { l.links with peerPend := [(3, .xfr, ⟨0, 4, none⟩)] } }) .A 0 ⟨0, 4, none⟩ 3 9) :=
  ⟨by decide +kernel, by decide +kernel, by decide +kernel, by decide +kernel⟩

theorem test_hyps_ReadParityAndDebugBus :
    ((fun (s : State) (x : Lane) (_ : DWord) (_ : List (BitVec 8)) =>
      (s.lane x).alive = true)
      wLive .A 0 (wFrame 0 0)) ∧
    ((fun (s : State) (x : Lane) (_ : DWord) (_ : List (BitVec 8)) =>
      (s.lane x).alive = true ∧
      (s.lane x).dm.enabled = true)
      (wLive.modLane .A fun l => { l with dm := { DebugMod.reset with enabled := true, active := true } }) .A 5 []) ∧
    ((fun (s : State) (x : Lane) (_ : DWord) (f : List (BitVec 8)) =>
      (s.lane x).alive = true ∧
      (s.lane x).blockFenced P.HSPI = false ∧
      hspiCheck f false = 0 ∧
      hspiCmd f = 0)
      wLive .A 0 (wFrame 0 0)) ∧
    ((fun (s : State) (x : Lane) (_ : DWord) (f : List (BitVec 8)) =>
      (s.lane x).alive = true ∧
      (s.lane x).blockFenced P.HSPI = false ∧
      hspiCheck f false = 0 ∧
      (s.lane x).served = true ∧
      hspiCmd f = 1 ∧
      hspiAddr f = 0x10000000 ∧
      (s.lane x).heldU 0x10000000 4 = false ∧
      (s.lane x).hspiAllows 0x10000000 false = true)
      wHost .A 0 (wFrame 1 0x10)) ∧
    ((fun (s : State) (x : Lane) (_ : DWord) (f : List (BitVec 8)) =>
      (s.lane x).alive = true ∧
      (s.lane x).blockFenced P.HSPI = false ∧
      hspiCheck f false = 0 ∧
      (s.lane x).served = true ∧
      hspiCmd f = 2 ∧
      hspiAddr f = 0x10000000 ∧
      (s.lane x).hspiAllows 0x10000000 true = true ∧
      (s.lane x).l2 = [] ∧
      (s.lane x).pairs = [])
      wHost .A 0 (wFrame 2 0x10)) ∧
    ((fun (s : State) (x : Lane) (_ : DWord) (f : List (BitVec 8)) =>
      (s.lane x).alive = true ∧
      (s.lane x).blockFenced P.HSPI = false ∧
      hspiCheck f false = 0 ∧
      (s.lane x).served = true ∧
      hspiCmd f = 1 ∧
      hspiAddr f = R.GPIO_GCFG ∧
      (s.lane x).hspiAllows R.GPIO_GCFG false = true)
      wHost2 .A 0 (hspiReadOf R.GPIO_GCFG)) ∧
    ((fun (s : State) (x : Lane) (_ : DWord) (f : List (BitVec 8)) =>
      (s.lane x).alive = true ∧
      (s.lane x).blockFenced P.HSPI = false ∧
      f.length = 10 ∧
      f.getLastD 0 ≠ crc8 (f.take 9))
      wLive .A 0 [0, 0, 0, 0, 0, 0, 0, 0, 0, 0]) :=
  ⟨by decide +kernel, by decide +kernel, by decide +kernel, by decide +kernel, by decide +kernel, by decide +kernel, by decide +kernel⟩

theorem test_hyps_PairInstructions :
    ((fun (s : State) (x : Lane) (_ : Agent) (p : Fin 4) (_ : Fin 32) (_ : Word) (_ : Nat) =>
      (s.lane x).pairFree p.val = true ∧
      ((s.lane x).pair p.val).przReq = false)
      (wPair []) .A .xfr 2 5 0 0) ∧
    ((fun (s : State) (x : Lane) (_ : Agent) (p : Fin 4) (_ : Fin 32) (w : Word) (_ : Nat) =>
      (s.lane x).pairFree p.val = true ∧
      ((s.lane x).pair p.val).przReq = false ∧
      (getBits w 20 12 ≠ 0 ∨ getBits w 15 5 ≠ 0 ∨ 2 < getBits w 12 3))
      (wPair []) .A .xfr 2 5 0x0000300B 0) ∧
    ((fun (s : State) (x : Lane) (_ : Agent) (p : Fin 4) (_ : Fin 32) (_ : Word) (_ : Nat) =>
      (s.lane x).pairFree p.val = true ∧
      ((s.lane x).pair p.val).przReq = false ∧
      ((s.lane x).pair p.val).log.length < 247)
      (wPair []) .A .xfr 2 5 0 0) ∧
    ((fun (s : State) (x : Lane) (_ : Agent) (p : Fin 4) (_ : Fin 32) (_ : Word) (_ : Nat) =>
      (s.lane x).pairFree p.val = true ∧
      (s.lane x).get (F.CKP_PAIRCFG_PEREN p.val) = 1 ∧
      (s.lane x).get F.PWR_PSTAT_STATE ≠ 1)
      (wPair [(F.CKP_PAIRCFG_PEREN 2, 1)]) .A .xfr 2 5 0 0) ∧
    ((fun (s : State) (x : Lane) (_ : Agent) (p : Fin 4) (_ : Fin 32) (_ : Word) (_ : Nat) =>
      (s.lane x).pairFree p.val = true ∧
      (s.lane x).takes R.CKP_PAIRCMD = true)
      (wPair []) .A .xfr 2 5 0 0) ∧
    ((fun (s : State) (x : Lane) (_ : Agent) (p : Fin 4) (_ : Fin 32) (_ : Word) (ad : Nat) =>
      (s.lane x).pairFree p.val = true ∧
      8 ≤ (s.lane x).waysU p.val (ad / 64))
      ((wPair []).modLane .A fun l => l.modPair 2 fun q => { q with lines := (List.range 8).map fun k => ⟨0x400000 + 64 * k, true, []⟩ }) .A .xfr 2 5 0 0x10000000) ∧
    ((fun (s : State) (x : Lane) (_ : Agent) (p : Fin 4) (_ : Fin 32) (_ : Word) (ad : Nat) =>
      (s.lane x).pairFree p.val = true ∧
      ((s.lane x).cline p.val (ad / 64)).any (·.u) = true)
      ((wPair []).modLane .A fun l => l.modPair 2 fun q => { q with lines := [⟨0x400001, true, []⟩] }) .A .xfr 2 5 0 0x10000040) :=
  ⟨by decide +kernel, by decide +kernel, by decide +kernel, by decide +kernel, by decide +kernel, by decide +kernel, by decide +kernel⟩

theorem test_hyps_CheckpointAndRestart :
    ((fun (s : State) (x : Lane) (_ : Agent) (p : Fin 4) (_ : Fin 16) (_ : Fin 0x1000000) (_ : Nat) =>
      (s.lane x).alive = true ∧
      ((s.lane x).pair p.val).ckptReq = true ∧
      (s.lane x).pairState p.val = PState.save ∧
      ((s.lane x).pair p.val).replay = false ∧
      (s.lane x).uStores = [])
      ((wPair [(F.CKP_PAIRSTAT_STATE 2, 1)]).modLane .A fun l => l.modPair 2 fun q => { q with ckptReq := true }) .A .xfr 2 3 9 7) ∧
    ((fun (s : State) (x : Lane) (_ : Agent) (p : Fin 4) (_ : Fin 16) (_ : Fin 0x1000000) (_ : Nat) =>
      (s.lane x).alive = true ∧
      ((s.lane x).pair p.val).released = true ∧
      (s.lane x).pairState p.val = PState.run ∧
      (s.lane x).reaction (56 + p.val) < Sev.fence ∧
      (s.lane x).uStores = [])
      (wPair [(F.FLT_SRCCFG_SEV 58, 0)]) .A .xfr 2 3 9 7) ∧
    ((fun (s : State) (x : Lane) (_ : Agent) (p : Fin 4) (_ : Fin 16) (_ : Fin 0x1000000) (_ : Nat) =>
      (s.lane x).alive = true ∧
      ((s.lane x).pair p.val).released = true ∧
      (s.lane x).pairState p.val = PState.run ∧
      Sev.fence ≤ (s.lane x).reaction (56 + p.val))
      (wPair [(F.FLT_SRCCFG_SEV 58, 4)]) .A .xfr 2 3 9 7) ∧
    ((fun (s : State) (x : Lane) (_ : Agent) (p : Fin 4) (_ : Fin 16) (_ : Fin 0x1000000) (_ : Nat) =>
      (s.lane x).alive = true ∧
      (s.lane x).pairState p.val = PState.restart)
      (wPair [(F.CKP_PAIRSTAT_STATE 2, 2)]) .A .xfr 2 3 9 7) ∧
    ((fun (s : State) (x : Lane) (_ : Agent) (p : Fin 4) (_ : Fin 16) (_ : Fin 0x1000000) (_ : Nat) =>
      (s.lane x).alive = true ∧
      ((s.lane x).pair p.val).replays = true ∧
      (s.lane x).pairState p.val ≠ PState.fenced)
      ((wPair []).modLane .A fun l => l.modPair 2 fun q => { q with replay := true, log := [.vcsr 1 2] }) .A .xfr 2 3 9 0) ∧
    ((fun (s : State) (x : Lane) (_ : Agent) (p : Fin 4) (_ : Fin 16) (_ : Fin 0x1000000) (_ : Nat) =>
      (s.lane x).alive = true ∧
      ((s.lane x).pair p.val).replay = true ∧
      ((s.lane x).pair p.val).log.length ≤ ((s.lane x).pair p.val).logPos ∧
      ((s.lane x).pair p.val).log.length ≤ 256)
      ((wPair []).modLane .A fun l => l.modPair 2 fun q => { q with replay := true }) .A .xfr 2 3 9 0) ∧
    ((fun (s : State) (x : Lane) (_ : Agent) (p : Fin 4) (_ : Fin 16) (_ : Fin 0x1000000) (_ : Nat) =>
      (s.lane x).alive = true ∧
      (s.lane x).takes R.CKP_PAIRCMD = true ∧
      (s.lane x).pairState p.val = PState.fenced ∧
      (s.lane x).pairFaulty p.val = false ∧
      (s.lane x).fencedBy (.pair p.val) = false ∧
      ((s.lane x).pair p.val).haltReq = false)
      (wPair [(F.CKP_PAIRSTAT_STATE 2, 5)]) .A .xfr 2 3 9 7) :=
  ⟨by decide +kernel, by decide +kernel, by decide +kernel, by decide +kernel, by decide +kernel, by decide +kernel, by decide +kernel⟩

theorem test_hyps_PairBoundary :
    ((fun (s : State) (x : Lane) (p : Fin 4) (_ : DWord) (a : Fin 0x80000) (_ : Nat) (_ : Nat) (_ : Nat) (_ : BitVec 8) (_ : Nat) (_ : List Nat) =>
      (s.lane x).pairFree p.val = true ∧
      ((s.lane x).pair p.val).log.length < 247 ∧
      ((s.lane x).pair p.val).hart.pmpAllows (0x10000000 + 8 * a.val) 8 true = true ∧
      (s.lane x).lineForce p.val (0x400000 + a.val / 8) s.free.toNat = none ∧
      (s.lane x).l2Victim (0x400000 + a.val / 8) s.free.toNat = none ∧
      ((s.lane x).l1Set p.val (0x400000 + a.val / 8)).length < 8 ∧
      (s.lane x).uStores = [] ∧
      ((s.lane x).lineData (0x400000 + a.val / 8)).length = 64 ∧
      (∀ q, q < 4 → q ≠ p.val → (s.lane x).cline q (0x400000 + a.val / 8) = none))
      (wPair []) .A 2 5 3 0 0 0 7 0 [9]) ∧
    ((fun (s : State) (x : Lane) (p : Fin 4) (_ : DWord) (a : Fin 0x80000) (_ : Nat) (_ : Nat) (_ : Nat) (_ : BitVec 8) (_ : Nat) (_ : List Nat) =>
      (s.lane x).pairFree p.val = true ∧
      ((s.lane x).pair p.val).log.length < 247 ∧
      ((s.lane x).pair p.val).hart.pmpAllows (0x10000000 + 8 * a.val) 8 false = true ∧
      (s.lane x).lineForce p.val (0x400000 + a.val / 8) s.free.toNat = none)
      (wPair []) .A 2 5 3 0 0 0 7 0 [9]) ∧
    ((fun (s : State) (x : Lane) (p : Fin 4) (_ : DWord) (a : Fin 0x80000) (_ : Nat) (_ : Nat) (_ : Nat) (_ : BitVec 8) (_ : Nat) (_ : List Nat) =>
      (s.lane x).pairFree p.val = true ∧
      ((s.lane x).pair p.val).log.length < 247 ∧
      ((s.lane x).pair p.val).hart.pmpAllows (0x10000000 + 8 * a.val) 8 true = false)
      ((wPair []).modLane .A fun l => l.modPair 2 fun q => { q with hart := (q.hart.setC 0x3A0 0x98).setC 0x3B0 0x4FFFFFF }) .A 2 5 3 0 0 0 7 0 [9]) ∧
    ((fun (s : State) (x : Lane) (p : Fin 4) (_ : DWord) (_ : Fin 0x80000) (_ : Nat) (_ : Nat) (_ : Nat) (_ : BitVec 8) (_ : Nat) (_ : List Nat) =>
      (s.lane x).pairFree p.val = true ∧
      ((s.lane x).pair p.val).log.length < 247 ∧
      ((s.lane x).pair p.val).hart.pmpAllows R.GPIO_GCFG 4 false = true ∧
      (s.lane x).fencedBy (.block 0x40035) = false)
      (wPair []) .A 2 5 3 0 0 0 7 0 [9]) ∧
    ((fun (s : State) (x : Lane) (p : Fin 4) (_ : DWord) (_ : Fin 0x80000) (_ : Nat) (_ : Nat) (_ : Nat) (_ : BitVec 8) (_ : Nat) (_ : List Nat) =>
      (s.lane x).pairFree p.val = true ∧
      ((s.lane x).pair p.val).log.length < 247 ∧
      ((s.lane x).pair p.val).imsic.delivery = true ∧
      ((s.lane x).pair p.val).imsic.top ≠ 0 ∧
      (((s.lane x).pair p.val).hart.c Csr.mie).getLsbD 11 = true ∧
      (((s.lane x).pair p.val).hart.c Csr.mstatus).getLsbD 3 = true)
      ((wPair []).modLane .A fun l => l.modPair 2 fun q => { q with imsic := ⟨[7], [7], true, 0⟩, hart := (q.hart.setC 0x304 0x800).setC 0x300 8 }) .A 2 5 3 0 0 0 7 0 [9]) ∧
    ((fun (s : State) (x : Lane) (p : Fin 4) (_ : DWord) (_ : Fin 0x80000) (_ : Nat) (_ : Nat) (_ : Nat) (_ : BitVec 8) (_ : Nat) (_ : List Nat) =>
      (s.lane x).pairFree p.val = true ∧
      ((s.lane x).pair p.val).log.length < 247)
      (wPair []) .A 2 5 3 0 0 0 7 0 [9]) ∧
    ((fun (s : State) (x : Lane) (p : Fin 4) (_ : DWord) (_ : Fin 0x80000) (_ : Nat) (_ : Nat) (_ : Nat) (_ : BitVec 8) (_ : Nat) (_ : List Nat) =>
      (s.lane x).pairFree p.val = true ∧
      ((s.lane x).pair p.val).log.length < 247 ∧
      (s.lane x).power.entry = 0)
      (wPair []) .A 2 5 3 0 0 0 7 0 [9]) ∧
    ((fun (s : State) (x : Lane) (p : Fin 4) (_ : DWord) (_ : Fin 0x80000) (_ : Nat) (_ : Nat) (_ : Nat) (i : BitVec 8) (page : Nat) (_ : List Nat) =>
      (s.lane x).pairFree p.val = true ∧
      ((s.lane x).pair p.val).log.length < 247 ∧
      (s.lane x).msgs.find? (fun m => m.page == page && m.hart == p.val + 0x10 * (s.lane x).id.num) = some ⟨page, p.val + 0x10 * (s.lane x).id.num, i.toNat⟩)
      ((wPair []).modLane .A fun l => { l with msgs := [⟨0x40035, 2, 7⟩] }) .A 2 5 3 0 0 0 7 0x40035 [9]) :=
  ⟨by decide +kernel, by decide +kernel, by decide +kernel, by decide +kernel, by decide +kernel, by decide +kernel, by decide +kernel, by decide +kernel⟩

theorem test_hyps_DebugOfPairs :
    ((fun (s : State) (x : Lane) (p : Fin 4) (_ : Fin 32) (_ : DWord) (_ : Fin 8) =>
      (s.lane x).alive = true ∧
      (s.lane x).dm.enabled = true ∧
      (s.lane x).pairFree p.val = true ∧
      (s.lane x).get F.PWR_PSTAT_STATE = 0 ∧
      (s.lane x).power.entry = 0)
      ((wPair []).modLane .A fun l => { l with dm := { DebugMod.reset with enabled := true, active := true } }) .A 2 5 3 9) ∧
    ((fun (s : State) (x : Lane) (p : Fin 4) (_ : Fin 32) (_ : DWord) (_ : Fin 8) =>
      (s.lane x).alive = true ∧
      (s.lane x).dm.enabled = true ∧
      ((s.lane x).pair p.val).released = true ∧
      (s.lane x).pairState p.val = PState.run ∧
      ((s.lane x).pair p.val).haltReq = true ∧
      ((s.lane x).pair p.val).ckptReq = false)
      ((wPair []).modLane .A fun l => { l.modPair 2 fun q => { q with haltReq := true } with dm := { DebugMod.reset with enabled := true, active := true } }) .A 2 5 3 9) ∧
    ((fun (s : State) (x : Lane) (p : Fin 4) (_ : Fin 32) (_ : DWord) (_ : Fin 8) =>
      (s.lane x).alive = true ∧
      (s.lane x).dm.enabled = true ∧
      (s.lane x).pairState p.val = PState.halted ∧
      ((s.lane x).pair p.val).haltMis = false)
      wHalted .A 2 5 3 9) ∧
    ((fun (s : State) (x : Lane) (p : Fin 4) (_ : Fin 32) (_ : DWord) (_ : Fin 8) =>
      (s.lane x).alive = true ∧
      (s.lane x).dm.enabled = true ∧
      (s.lane x).pairState p.val = PState.halted ∧
      ((s.lane x).pair p.val).dbgNext = false)
      wHalted .A 2 5 3 9) ∧
    ((fun (s : State) (x : Lane) (p : Fin 4) (_ : Fin 32) (_ : DWord) (_ : Fin 8) =>
      (s.lane x).alive = true ∧
      (s.lane x).dm.enabled = true ∧
      (s.lane x).pairState p.val = PState.halted ∧
      ((s.lane x).pair p.val).dbgNext = true)
      (wHalted.modLane .A fun l => l.modPair 2 fun q => { q with dbgNext := true }) .A 2 5 3 9) ∧
    ((fun (s : State) (x : Lane) (p : Fin 4) (_ : Fin 32) (_ : DWord) (_ : Fin 8) =>
      (s.lane x).alive = true ∧
      (s.lane x).dm.enabled = true ∧
      ((s.lane x).pair p.val).released = true ∧
      (s.lane x).pairState p.val = PState.run ∧
      ((s.lane x).pair p.val).haltReq = false ∧
      ((s.lane x).pair p.val).lines = [] ∧
      (s.lane x).uStores = [])
      ((wPair []).modLane .A fun l => { l with dm := { DebugMod.reset with enabled := true, active := true } }) .A 2 5 3 9) ∧
    ((fun (s : State) (x : Lane) (_ : Fin 4) (_ : Fin 32) (_ : DWord) (_ : Fin 8) =>
      (s.lane x).alive = true ∧
      (s.lane x).dm.enabled = true ∧
      (∀ q, q < 4 → ((s.lane x).pair q).released = true) ∧
      (∀ q, q < 4 → (s.lane x).pairState q = PState.run) ∧
      (∀ q, q < 4 → ((s.lane x).pair q).haltReq = false) ∧
      (∀ q, q < 4 → ((s.lane x).pair q).lines = []) ∧
      (s.lane x).uStores = [])
      wAllPairs .A 2 5 3 9) :=
  ⟨by decide +kernel, by decide +kernel, by decide +kernel, by decide +kernel, by decide +kernel, by decide +kernel, by decide +kernel⟩

theorem test_hyps_RequestsCaptured :
    ((fun (s : State) (x : Lane) (_ : Fin 8) (_ : Request) (v : Word) =>
      s.bedrockRuns = true ∧
      (s.lane x).alive = true ∧
      (s.lane x).get F.BREQ_REQSTAT_BUSY = 0 ∧
      v.toNat % 256 ≤ 9)
      wLive .A 3 ⟨0, 0, 0, 0, 0, false⟩ 0x10401) ∧
    ((fun (s : State) (x : Lane) (_ : Fin 8) (_ : Request) (_ : Word) =>
      s.bedrockRuns = true ∧
      (s.lane x).alive = true ∧
      (s.lane x).get F.BREQ_REQSTAT_BUSY = 1)
      (wLive.lput [(F.BREQ_REQSTAT_BUSY, 1)]) .A 3 ⟨0, 0, 0, 0, 0, false⟩ 0x10401) ∧
    ((fun (s : State) (x : Lane) (_ : Fin 8) (r : Request) (_ : Word) =>
      s.bedrockRuns = true ∧
      s.request x = some r ∧
      s.mustWait x r = false ∧
      s.settle = s ∧
      r.op = 0)
      (wRq 2 ⟨0, 8, 1, 0x936C6C93, 1, false⟩ []) .A 3 ⟨0, 8, 1, 0x936C6C93, 1, false⟩ 0) ∧
    ((fun (s : State) (x : Lane) (_ : Fin 8) (r : Request) (_ : Word) =>
      s.bedrockRuns = true ∧
      s.request x = some r ∧
      s.mustWait x r = false ∧
      s.settle = s ∧
      r.op = 4 ∧
      s.devState = Dev.idle ∧
      (∀ k, k < 8 → s.ready .A k = true ∨ s.ready .B k = true))
      (wRq 2 ⟨4, 8, 1, 0x936C6C93, 1, false⟩ ((List.range 8).map fun k => (F.rdy .A k, 1))) .A 3 ⟨4, 8, 1, 0x936C6C93, 1, false⟩ 0) ∧
    ((fun (s : State) (x : Lane) (_ : Fin 8) (r : Request) (_ : Word) =>
      s.bedrockRuns = true ∧
      s.request x = some r ∧
      s.mustWait x r = false ∧
      s.settle = s ∧
      r.op = 5 ∧
      s.devState = Dev.drive)
      (wRq 3 ⟨5, 8, 1, 0x936C6C93, 1, false⟩ []) .A 3 ⟨5, 8, 1, 0x936C6C93, 1, false⟩ 0) ∧
    ((fun (s : State) (x : Lane) (_ : Fin 8) (r : Request) (_ : Word) =>
      s.bedrockRuns = true ∧
      s.request x = some r ∧
      s.mustWait x r = false ∧
      s.settle = s ∧
      r.op = 6 ∧
      s.devState = Dev.idle)
      (wRq 2 ⟨6, 8, 1, 0x936C6C93, 1, false⟩ []) .A 3 ⟨6, 8, 1, 0x936C6C93, 1, false⟩ 0) ∧
    ((fun (s : State) (x : Lane) (_ : Fin 8) (r : Request) (_ : Word) =>
      s.bedrockRuns = true ∧
      s.request x = some r ∧
      s.mustWait x r = false ∧
      s.settle = s ∧
      r.op = 7 ∧
      s.devState ≠ Dev.safe ∧
      r.d0.toNat < 36 ∧
      s.bed.get (F.bedAct r.d0.toNat) = 1)
      (wRq 2 ⟨7, 1, 0, 3, 0, false⟩ [(F.bedAct 3, 1)]) .A 3 ⟨7, 1, 0, 3, 0, false⟩ 0) ∧
    ((fun (s : State) (x : Lane) (_ : Fin 8) (r : Request) (_ : Word) =>
      s.bedrockRuns = true ∧
      s.request x = some r ∧
      s.mustWait x r = false ∧
      s.settle = s ∧
      r.op = 8 ∧
      s.devState ≠ Dev.safe ∧
      r.d0.toNat < 36 ∧
      s.bed.get (F.bedAct r.d0.toNat) = 1 ∧
      s.bedLive r.d0.toNat = false)
      (wRq 2 ⟨8, 1, 0, 20, 0, false⟩ [(F.bedAct 20, 1)]) .A 3 ⟨8, 1, 0, 20, 0, false⟩ 0) ∧
    ((fun (s : State) (x : Lane) (_ : Fin 8) (r : Request) (_ : Word) =>
      s.bedrockRuns = true ∧
      s.request x = some r ∧
      s.mustWait x r = false ∧
      s.settle = s ∧
      r.op = 9 ∧
      (s.devState = Dev.idle ∨ s.devState = Dev.drive))
      (wRq 3 ⟨9, 8, 1, 0x936C6C93, 1, false⟩ []) .A 3 ⟨9, 8, 1, 0x936C6C93, 1, false⟩ 0) :=
  ⟨by decide +kernel, by decide +kernel, by decide +kernel, by decide +kernel, by decide +kernel, by decide +kernel, by decide +kernel, by decide +kernel, by decide +kernel⟩

theorem test_hyps_LeaseAndReadiness :
    ((fun (s : State) (x : Lane) (d : Fin 8) (r : Request) =>
      s.bedrockRuns = true ∧
      s.request x = some r ∧
      s.mustWait x r = false ∧
      s.settle = s ∧
      r.op = 1 ∧
      r.arg = 2 ^ d.val ∧
      s.devState = Dev.drive ∧
      s.holderOf d.val = some x ∧
      s.domState d.val = Dom.held ∧
      r.d0 = 0x936C6C93 ∧
      r.d1.toNat = (s.bed.get (F.rseq x) + 1) % 2 ^ 32 ∧
      s.laneStatus x = Stat.up ∧
      s.capable x = true ∧
      s.bed.get F.BSYS_BCFG_NETVOTE = 0)
      (wRq 3 ⟨1, 8, 1, 0x936C6C93, 1, false⟩ wHolds) .A 3 ⟨1, 8, 1, 0x936C6C93, 1, false⟩) ∧
    ((fun (s : State) (x : Lane) (d : Fin 8) (r : Request) =>
      s.bedrockRuns = true ∧
      s.request x = some r ∧
      s.mustWait x r = false ∧
      s.settle = s ∧
      r.op = 3 ∧
      r.arg = 2 ^ d.val ∧
      s.devState = Dev.idle ∧
      s.domState d.val = Dom.idle ∧
      r.d0 = 0x936C6C93 ∧
      r.d1.toNat = (s.bed.get (F.rseq x) + 1) % 2 ^ 32 ∧
      s.laneStatus x = Stat.up ∧
      s.capable x = true ∧
      s.bed.get F.BSYS_BCFG_NETVOTE = 0 ∧
      s.selfDiag x d.val = false)
      (wRq 2 ⟨3, 8, 1, 0x936C6C93, 1, false⟩ [(F.BSYS_BCFG_NETVOTE, 0), (F.status .A, 2), (F.cap .A, 1)]) .A 3 ⟨3, 8, 1, 0x936C6C93, 1, false⟩) ∧
    ((fun (s : State) (x : Lane) (d : Fin 8) (r : Request) =>
      s.bedrockRuns = true ∧
      s.request x = some r ∧
      s.mustWait x r = false ∧
      s.settle = s ∧
      r.op = 2 ∧
      r.arg = 2 ^ d.val ∧
      s.devState = Dev.drive ∧
      s.domState d.val = Dom.held ∧
      s.holder d.val = x ∧
      s.ready x.peer d.val = true)
      (wRq 3 ⟨2, 8, 1, 0x936C6C93, 1, false⟩ (wHolds ++ [(F.rdy .B 3, 1)])) .A 3 ⟨2, 8, 1, 0x936C6C93, 1, false⟩) ∧
    ((fun (s : State) (x : Lane) (d : Fin 8) (r : Request) =>
      s.bedrockRuns = true ∧
      s.request x = some r ∧
      s.mustWait x r = false ∧
      r.op = 1 ∧
      r.arg = 2 ^ d.val ∧
      s.devState = Dev.drive ∧
      s.domState d.val = Dom.held ∧
      s.holder d.val = x ∧
      s.leaseLeft d.val = 0 ∧
      (∀ k, k < 8 → k ≠ d.val → s.domState k ≠ Dom.held))
      { (wRq 3 ⟨1, 8, 1, 0x936C6C93, 1, false⟩ wHolds) with nowUs := 1000 } .A 3 ⟨1, 8, 1, 0x936C6C93, 1, false⟩) ∧
    ((fun (s : State) (_ : Lane) (d : Fin 8) (_ : Request) =>
      s.bedrockRuns = true ∧
      s.domState d.val = Dom.held)
      (wRq 3 ⟨1, 8, 1, 0x936C6C93, 1, false⟩ wHolds) .A 3 ⟨1, 8, 1, 0x936C6C93, 1, false⟩) ∧
    ((fun (s : State) (_ : Lane) (_ : Fin 8) (_ : Request) =>
      s.bedrockRuns = true)
      wLive .A 3 ⟨0, 0, 0, 0, 0, false⟩) ∧
    ((fun (s : State) (x : Lane) (d : Fin 8) (_ : Request) =>
      s.bedrockRuns = true ∧
      s.selfDiag x d.val = true ∧
      s.domState d.val = Dom.held ∧
      s.holder d.val = x ∧
      s.ready x.peer d.val = true)
      ((wRq 3 ⟨1, 8, 1, 0x936C6C93, 1, false⟩ (wHolds ++ [(F.rdy .B 3, 1)])).modBed fun b => { b with negA := [3] }) .A 3 ⟨1, 8, 1, 0x936C6C93, 1, false⟩) :=
  ⟨by decide +kernel, by decide +kernel, by decide +kernel, by decide +kernel, by decide +kernel, by decide +kernel, by decide +kernel⟩

theorem test_hyps_LaneStatusChanges :
    ((fun (s : State) (x : Lane) (_ : Nat) (_ : Nat) =>
      s.devState ≠ Dev.parked ∧
      s.bedrockRuns = true ∧
      (s.lane x).heartbeat = true ∧
      (s.laneStatus x = Stat.off ∨ s.laneStatus x = Stat.lost ∨ s.laneStatus x = Stat.excluded))
      (wFeed [(F.status .A, 3)]) .A 0 0) ∧
    ((fun (s : State) (x : Lane) (_ : Nat) (_ : Nat) =>
      s.devState ≠ Dev.parked ∧
      s.bedrockRuns = true ∧
      (s.laneStatus x = Stat.up ∨ s.laneStatus x = Stat.boot))
      (wFeed [(F.status .A, 2)]) .A 0 0) ∧
    ((fun (s : State) (x : Lane) (_ : Nat) (_ : Nat) =>
      s.devState ≠ Dev.parked ∧
      s.bedrockRuns = true ∧
      (s.lane x).col.laneDown = true ∧
      (s.laneStatus x = Stat.up ∨ s.laneStatus x = Stat.boot))
      ((wFeed [(F.status .A, 2)]).modLane .A fun l => { l with col := { l.col with laneDown := true } }) .A 0 0) ∧
    ((fun (s : State) (x : Lane) (_ : Nat) (_ : Nat) =>
      s.devState ≠ Dev.parked ∧
      s.bedrockRuns = true ∧
      (s.lane x).power.kilnWire = true ∧
      s.laneStatus x = Stat.boot)
      ((wFeed [(F.status .A, 1)]).modLane .A fun l => l.modPower fun p => { p with kilnWire := true }) .A 0 0) ∧
    ((fun (s : State) (x : Lane) (_ : Nat) (p : Nat) =>
      s.devState ≠ Dev.parked ∧
      s.bedrockRuns = true ∧
      s.bed.get F.BSYS_BCFG_LOADED = 1 ∧
      (s.lane x).boot = .load ∧
      ((s.bootCheck x).lane x).boot = .load ∧
      (((s.bootCheck x).bootLock x).lane x).boot = .load ∧
      s.laneStatus x = Stat.boot ∧
      p < 4 ∧
      (((s.bootCheck x).bootLock x).lane x).pairState p ≠ PState.fenced)
      ((wFeed [(F.status .A, 1), (F.BSYS_BCFG_LOADED, 1)]).modLane .A fun l => l.modPower fun p => { p with boot := .load }) .A 0 0) ∧
    ((fun (s : State) (_ : Lane) (_ : Nat) (_ : Nat) =>
      s.devState ≠ Dev.parked ∧
      s.bedrockRuns = true ∧
      s.devState = Dev.start ∧
      s.laneStatus .A ≠ Stat.up ∧
      s.laneStatus .B ≠ Stat.up)
      (wFeed []) .A 0 0) ∧
    ((fun (s : State) (x : Lane) (_ : Nat) (_ : Nat) =>
      s.devState ≠ Dev.parked ∧
      s.bedrockRuns = true ∧
      s.devState = Dev.start ∧
      s.laneStatus x = Stat.up ∧
      s.bridgeLinkUp x = true ∧
      s.bed.get F.BSYS_BCFG_SINGLEOK = 1 ∧
      s.bed.tstd = false)
      ((wFeed [(F.status .A, 2), (F.BSYS_BCFG_SINGLEOK, 1)]).modBrg fun b => { b with rxA := { b.rxA with down := false } }) .A 0 0) :=
  ⟨by decide +kernel, by decide +kernel, by decide +kernel, by decide +kernel, by decide +kernel, by decide +kernel, by decide +kernel⟩

theorem test_hyps_SelectionWords :
    ((fun (s : State) (w : SelectWord) (_ : Fin 8) (_ : List Nat) =>
      selectOk s.brg.selExpect w = true)
      wLive wWord 3 []) ∧
    ((fun (_ : State) (w : SelectWord) (_ : Fin 8) (_ : List Nat) =>
      w.crcOk = false)
      wLive { wWord with crcOk := false } 3 []) ∧
    ((fun (s : State) (w : SelectWord) (d : Fin 8) (_ : List Nat) =>
      s.bedrockRuns = true ∧
      s.bed.ackWire.find? (fun e => decide (e.2 = (w.codes, w.acts))) = some (w.seq, w.codes, w.acts) ∧
      s.ackNames w.seq w.codes w.acts d.val = true ∧
      s.domState d.val = Dom.brk ∧
      s.ready (laneOf (s.bed.get (F.BLEASE_LLAST_FROM d.val))).peer d.val = true)
      ((wFeed [(F.BLEASE_LSTAT_STATE 3, 2), (F.rdy .B 3, 1)]).modBed fun b => { b with selOut := some wWord, ackWire := [(wWord.seq, wWord.codes, wWord.acts)] }) wWord 3 []) ∧
    ((fun (s : State) (w : SelectWord) (d : Fin 8) (_ : List Nat) =>
      s.bedrockRuns = true ∧
      s.bed.ackWire.find? (fun e => decide (e.2 = (w.codes, w.acts))) = some (w.seq, w.codes, w.acts) ∧
      s.ackNames w.seq w.codes w.acts d.val = true ∧
      s.domState d.val = Dom.make ∧
      s.ready (s.holder d.val).peer d.val = false)
      ((wFeed [(F.BLEASE_LSTAT_STATE 3, 3)]).modBed fun b => { b with selOut := some wWord, ackWire := [(wWord.seq, wWord.codes, wWord.acts)] }) wWord 3 []) ∧
    ((fun (s : State) (_ : SelectWord) (_ : Fin 8) (_ : List Nat) =>
      s.bedrockRuns = true ∧
      s.bed.selOut.isSome = true)
      ((wFeed []).modBed fun b => { b with selOut := some wWord, ackWire := [(wWord.seq, wWord.codes, wWord.acts)] }) wWord 3 []) ∧
    ((fun (s : State) (_ : SelectWord) (_ : Fin 8) (_ : List Nat) =>
      s.bedrockRuns = true)
      (wFeed []) wWord 3 []) ∧
    ((fun (s : State) (_ : SelectWord) (_ : Fin 8) (_ : List Nat) =>
      s.bedrockRuns = true ∧
      s.bed.selOut.isSome = true ∧
      (s.devState = Dev.idle ∨ s.devState = Dev.drive))
      ((wFeed [(F.BSYS_DEVSTAT_DEVSTATE, 3)]).modBed fun b => { b with selOut := some wWord, ackWire := [(wWord.seq, wWord.codes, wWord.acts)] }) wWord 3 []) ∧
    ((fun (s : State) (_ : SelectWord) (_ : Fin 8) (_ : List Nat) =>
      s.brg.get F.BCOM_TBSTAT_ARMED = 1 ∧
      s.brg.get F.BCOM_TBSTAT_ORPHLAT = 0)
      (wLive.gputs [(F.BCOM_TBSTAT_ARMED, 1)]) wWord 3 []) :=
  ⟨by decide +kernel, by decide +kernel, by decide +kernel, by decide +kernel, by decide +kernel, by decide +kernel, by decide +kernel, by decide +kernel⟩

theorem test_hyps_FeedsAndSupplies :
    ((fun (s : State) (x : Lane) (_ : Bool) (_ : Bool) =>
      (s.lane x).power.feedOn = false)
      ((wFeed []).modLane .A fun l => l.modPower fun p => { p with feedOn := false }) .A false false) ∧
    ((fun (s : State) (x : Lane) (_ : Bool) (_ : Bool) =>
      (s.lane x).power.feedOn = true)
      (wFeed []) .A false false) ∧
    ((fun (s : State) (x : Lane) (_ : Bool) (_ : Bool) =>
      (s.lane x).power.feedOn = true ∧
      (s.lane x).power.feedUv = false)
      ((wFeed []).modLane .A fun l => l.modPower fun p => { p with feedUv := false }) .A false false) ∧
    ((fun (s : State) (x : Lane) (_ : Bool) (_ : Bool) =>
      (s.lane x).power.feedUv = true)
      (wFeed []) .A false false) ∧
    ((fun (s : State) (x : Lane) (_ : Bool) (_ : Bool) =>
      s.bed.on = true ∧
      s.bed.get (F.vgd x) = 1)
      (wFeed [(F.vgd .A, 1)]) .A false false) ∧
    ((fun (s : State) (_ : Lane) (_ : Bool) (_ : Bool) =>
      s.bed.on = true)
      (wFeed []) .A false false) ∧
    ((fun (s : State) (_ : Lane) (_ : Bool) (_ : Bool) =>
      s.bedrockRuns = true ∧
      s.noGateSupply = true ∧
      (s.devState = Dev.idle ∨ s.devState = Dev.drive))
      (wFeed [(F.BSYS_DEVSTAT_DEVSTATE, 2), (F.vgd .A, 0), (F.vgd .B, 0)]) .A false false) ∧
    ((fun (s : State) (_ : Lane) (_ : Bool) (_ : Bool) =>
      s.bed.on = true ∧
      s.bed.get F.BSYS_DEVSTAT_H0OK = 1)
      (wFeed []) .A false false) :=
  ⟨by decide +kernel, by decide +kernel, by decide +kernel, by decide +kernel, by decide +kernel, by decide +kernel, by decide +kernel, by decide +kernel⟩

theorem test_hyps_BridgeProtection :
    ((fun (s : State) (n : Fin 8) (p : Fin 3) (_ : Fin 6) (_ : BitVec 8) (_ : Nat) (_ : Nat) (_ : Nat) =>
      s.brg.get (F.BRG_OCCFG_OCCNT n.val) ≤ (s.unit n.val).ocOver.get p.val)
      ((wLive.gputs [(F.BRG_OCCFG_OCCNT 2, 2)]).modUnit 2 fun u => { u with ocOver := ⟨9, 9, 9⟩ }) 2 1 3 0 0 0 0) ∧
    ((fun (s : State) (n : Fin 8) (p : Fin 3) (_ : Fin 6) (_ : BitVec 8) (_ : Nat) (v : Nat) (af : Nat) =>
      ((s.unit n.val).drive.get p.val).hiAny = true ∧
      (s.unit n.val).intlk.get p.val = false ∧
      v < 6000 + 500 * s.brg.get (F.BRG_BOOT_BSUV n.val) ∧
      af < 6000 + 500 * s.brg.get (F.BRG_BOOT_BSUV n.val))
      (wLive.modUnit 2 fun u => { u with drive := Tri.all (.both true false) }) 2 1 3 0 100 5000 5500) ∧
    ((fun (s : State) (n : Fin 8) (p : Fin 3) (_ : Fin 6) (_ : BitVec 8) (_ : Nat) (_ : Nat) (_ : Nat) =>
      s.brg.get (F.BRG_BOOT_BUVN n.val) ≤ (s.unit n.val).uvRuns.get p.val ∧
      (s.unit n.val).vbsLow.get p.val = true ∧
      s.brg.get (F.BRG_BSTAT_PRE n.val) = 0)
      (wLive.modUnit 2 fun u => { u with uvRuns := Tri.all 99, vbsLow := Tri.all true }) 2 1 3 0 0 0 0) ∧
    ((fun (s : State) (n : Fin 8) (_ : Fin 3) (_ : Fin 6) (_ : BitVec 8) (_ : Nat) (v : Nat) (_ : Nat) =>
      s.brg.get (F.run (P.BRG n.val)) = 1 ∧
      v < 500 * s.brg.get (F.BRG_VBRCFG_UVTH n.val))
      (wLive.gputs [(F.run (P.BRG 2), 1), (F.BRG_VBRCFG_UVTH 2, 16)]) 2 1 3 0 0 5000 0) ∧
    ((fun (s : State) (n : Fin 8) (_ : Fin 3) (_ : Fin 6) (_ : BitVec 8) (_ : Nat) (v : Nat) (_ : Nat) =>
      500 * s.brg.get (F.BRG_VBRCFG_OVTH n.val) < v)
      wLive 2 1 3 0 0 200000 0) ∧
    ((fun (_ : State) (_ : Fin 8) (_ : Fin 3) (_ : Fin 6) (k : BitVec 8) (_ : Nat) (_ : Nat) (_ : Nat) =>
      234 < k.toNat)
      wLive 2 1 3 240 0 0 0) ∧
    ((fun (s : State) (n : Fin 8) (_ : Fin 3) (_ : Fin 6) (k : BitVec 8) (_ : Nat) (_ : Nat) (_ : Nat) =>
      s.brg.get (F.BRG_TEMPCFG_TWARN n.val) + 64 < k.toNat ∧
      k.toNat ≤ 234)
      wLive 2 1 3 234 0 0 0) :=
  ⟨by decide +kernel, by decide +kernel, by decide +kernel, by decide +kernel, by decide +kernel, by decide +kernel, by decide +kernel⟩

theorem test_hyps_BridgePins :
    ((fun (s : State) (_ : Lane) (n : Fin 8) (_ : Fin 3) (_ : Fin 8) (_ : Nat) (_ : List (BitVec 8)) =>
      s.brg.get (F.BRG_BSTAT_BEN n.val) = 0)
      wLive .A 2 1 3 5000 []) ∧
    ((fun (_ : State) (_ : Lane) (_ : Fin 8) (_ : Fin 3) (_ : Fin 8) (t0 : Nat) (_ : List (BitVec 8)) =>
      2000 ≤ t0)
      wLive .A 2 1 3 5000 []) ∧
    ((fun (_ : State) (_ : Lane) (_ : Fin 8) (_ : Fin 3) (_ : Fin 8) (t0 : Nat) (_ : List (BitVec 8)) =>
      t0 < 2000)
      wLive .A 2 1 3 5 []) ∧
    ((fun (s : State) (_ : Lane) (n : Fin 8) (_ : Fin 3) (_ : Fin 8) (_ : Nat) (_ : List (BitVec 8)) =>
      s.brg.get (F.BRG_BSTAT_PRE n.val) = 1)
      (wLive.gputs [(F.BRG_BSTAT_PRE 2, 1)]) .A 2 1 3 5 []) ∧
    ((fun (s : State) (_ : Lane) (n : Fin 8) (p : Fin 3) (_ : Fin 8) (_ : Nat) (_ : List (BitVec 8)) =>
      (s.unit n.val).intlk.get p.val = false)
      wLive .A 2 1 3 5000 []) ∧
    ((fun (s : State) (x : Lane) (n : Fin 8) (_ : Fin 3) (c : Fin 8) (_ : Nat) (_ : List (BitVec 8)) =>
      s.devState = Dev.drive ∧
      s.domainOf n.val = some c.val ∧
      s.holderOf c.val = some x)
      (wLive.bputs [(F.BSYS_DEVSTAT_DEVSTATE, 3), (F.BLEASE_LCFG_BRIDGES 1, 4), (F.BLEASE_LSTAT_STATE 1, 1)]) .A 2 1 1 5 []) ∧
    ((fun (s : State) (_ : Lane) (_ : Fin 8) (_ : Fin 3) (_ : Fin 8) (_ : Nat) (_ : List (BitVec 8)) =>
      s.brg.get F.BCOM_TBSTAT_LOCK = 1)
      (wLive.gputs [(F.BCOM_TBSTAT_LOCK, 1)]) .A 2 1 3 5 []) ∧
    ((fun (s : State) (_ : Lane) (_ : Fin 8) (_ : Fin 3) (_ : Fin 8) (_ : Nat) (m : List (BitVec 8)) =>
      s.brg.strapped = false ∧
      m.length = 8)
      wLive .A 2 1 3 5 (List.replicate 8 7)) :=
  ⟨by decide +kernel, by decide +kernel, by decide +kernel, by decide +kernel, by decide +kernel, by decide +kernel, by decide +kernel, by decide +kernel⟩

theorem test_hyps_EngineRegisterOps :
    ((fun (s : State) (x : Lane) (w : Code) =>
      (s.lane x).issues 0x20 w = true ∧
      clean w (useD ||| useS) = true)
      (wEng 0x20 0xA0000000000000) .A 0xA0000000000000) ∧
    ((fun (s : State) (x : Lane) (w : Code) =>
      (s.lane x).issues 0x21 w = true ∧
      clean w (useD ||| useS ||| useT) = true)
      (wEng 0x21 0xA6000000000000) .A 0xA6000000000000) ∧
    ((fun (s : State) (x : Lane) (w : Code) =>
      (s.lane x).issues 0x22 w = true ∧
      clean w (useD ||| useS ||| useT) = true)
      (wEng 0x22 0xA6000000000000) .A 0xA6000000000000) ∧
    ((fun (s : State) (x : Lane) (w : Code) =>
      (s.lane x).issues 0x25 w = true ∧
      clean w (useD ||| useS ||| useT) = true)
      (wEng 0x25 0xA6000000000000) .A 0xA6000000000000) ∧
    ((fun (s : State) (x : Lane) (w : Code) =>
      (s.lane x).issues 0x26 w = true ∧
      clean w (useD ||| useS ||| useT) = true)
      (wEng 0x26 0xA6000000000000) .A 0xA6000000000000) ∧
    ((fun (s : State) (x : Lane) (w : Code) =>
      (s.lane x).issues 0x27 w = true ∧
      clean w (useD ||| useS ||| useT) = true)
      (wEng 0x27 0xA6000000000000) .A 0xA6000000000000) ∧
    ((fun (s : State) (x : Lane) (w : Code) =>
      (s.lane x).issues 0x28 w = true ∧
      clean w (useD ||| useS ||| ones 45 40) = true)
      (wEng 0x28 0xA0050000000000) .A 0xA0050000000000) ∧
    ((fun (s : State) (x : Lane) (w : Code) =>
      (s.lane x).issues 0x29 w = true ∧
      clean w (useD ||| useS ||| ones 45 40) = true)
      (wEng 0x29 0xA0050000000000) .A 0xA0050000000000) ∧
    ((fun (s : State) (x : Lane) (w : Code) =>
      (s.lane x).issues 0x2A w = true ∧
      clean w (useD ||| useS ||| ones 45 40) = true)
      (wEng 0x2A 0xA0050000000000) .A 0xA0050000000000) ∧
    ((fun (s : State) (x : Lane) (w : Code) =>
      (s.lane x).issues 0x2B w = true ∧
      clean w (useD ||| useS ||| useT) = true)
      (wEng 0x2B 0xA6000000000000) .A 0xA6000000000000) ∧
    ((fun (s : State) (x : Lane) (w : Code) =>
      (s.lane x).issues 0x2C w = true ∧
      clean w (useD ||| useS ||| useT) = true)
      (wEng 0x2C 0xA6000000000000) .A 0xA6000000000000) ∧
    ((fun (s : State) (x : Lane) (w : Code) =>
      (s.lane x).issues 0x2D w = true ∧
      clean w (useD ||| useS ||| useT ||| useU) = true)
      (wEng 0x2D 0xA7000000000000) .A 0xA7000000000000) ∧
    ((fun (s : State) (x : Lane) (w : Code) =>
      (s.lane x).issues 0x23 w = true ∧
      clean w (useD ||| useS ||| useT) = true)
      (wEng 0x23 0xA6000000000000) .A 0xA6000000000000) ∧
    ((fun (s : State) (x : Lane) (w : Code) =>
      (s.lane x).issues 0x24 w = true ∧
      clean w (useD ||| useS ||| useT) = true)
      (wEng 0x24 0xA6000000000000) .A 0xA6000000000000) ∧
    ((fun (s : State) (x : Lane) (w : Code) =>
      (s.lane x).issues 0x2E w = true ∧
      clean w (useD ||| useS) = true)
      (wEng 0x2E 0xA0000000000000) .A 0xA0000000000000) ∧
    ((fun (s : State) (x : Lane) (w : Code) =>
      (s.lane x).issues 0x2F w = true ∧
      clean w (useD ||| useS) = true)
      (wEng 0x2F 0xA0000000000000) .A 0xA0000000000000) :=
  ⟨by decide +kernel, by decide +kernel, by decide +kernel, by decide +kernel, by decide +kernel, by decide +kernel, by decide +kernel, by decide +kernel, by decide +kernel, by decide +kernel, by decide +kernel, by decide +kernel, by decide +kernel, by decide +kernel, by decide +kernel, by decide +kernel⟩

theorem test_hyps_EngineAccumulators :
    ((fun (s : State) (x : Lane) (w : Code) =>
      (s.lane x).issues 0x01 w = true ∧
      clean w (ones 57 56 ||| dataBits w ||| coefBits w ||| moveBits w) = true ∧
      fld w 55 52 ≤ 9 ∧
      fld w 51 50 ≤ 1 ∧
      movesLegal w = true ∧
      refsLegal (dataRef w ++ coefRef w ++ (moves w).map Move.ref) = true ∧
      (s.lane x).badReads (dataRef w ++ coefRef w ++ (moves w).map Move.ref) = false)
      (wEng 0x01 0x121800000000000) .A 0x121800000000000) ∧
    ((fun (s : State) (x : Lane) (w : Code) =>
      (s.lane x).issues 0x02 w = true ∧
      clean w (ones 57 56 ||| dataBits w ||| coefBits w ||| moveBits w) = true ∧
      fld w 55 52 ≤ 9 ∧
      fld w 51 50 ≤ 1 ∧
      movesLegal w = true ∧
      refsLegal (dataRef w ++ coefRef w ++ (moves w).map Move.ref) = true ∧
      (s.lane x).badReads (dataRef w ++ coefRef w ++ (moves w).map Move.ref) = false)
      (wEng 0x02 0x121800000000000) .A 0x121800000000000) ∧
    ((fun (s : State) (x : Lane) (w : Code) =>
      (s.lane x).issues 0x03 w = true ∧
      clean w (ones 57 56 ||| dataBits w ||| coefBits w ||| moveBits w) = true ∧
      fld w 55 52 ≤ 9 ∧
      fld w 51 50 ≤ 1 ∧
      movesLegal w = true ∧
      refsLegal (dataRef w ++ coefRef w ++ (moves w).map Move.ref) = true ∧
      (s.lane x).badReads (dataRef w ++ coefRef w ++ (moves w).map Move.ref) = false)
      (wEng 0x03 0x184110000000000) .A 0x184110000000000) ∧
    ((fun (s : State) (x : Lane) (w : Code) =>
      (s.lane x).issues 0x04 w = true ∧
      clean w (dataBits w ||| ones 51 50 ||| ones 46 42 ||| moveBits w) = true ∧
      fld w 55 52 ≤ 9 ∧
      fld w 51 50 = 1 ∧
      movesLegal w = true ∧
      refsLegal (dataRef w ++ [⟨.quad, fld w 46 44, fld w 43 42, false⟩] ++ (moves w).map Move.ref) = true ∧
      (s.lane x).badReads (dataRef w ++ [⟨.quad, fld w 46 44, fld w 43 42, false⟩] ++ (moves w).map Move.ref) = false)
      (wEng 0x04 0x24100000000000) .A 0x24100000000000) ∧
    ((fun (s : State) (x : Lane) (w : Code) =>
      (s.lane x).issues 0x05 w = true ∧
      clean w (dataBits w ||| ones 51 50 ||| ones 46 42 ||| moveBits w) = true ∧
      fld w 55 52 ≤ 9 ∧
      fld w 51 50 = 1 ∧
      movesLegal w = true ∧
      refsLegal (dataRef w ++ [⟨.quad, fld w 46 44, fld w 43 42, false⟩] ++ (moves w).map Move.ref) = true ∧
      (s.lane x).badReads (dataRef w ++ [⟨.quad, fld w 46 44, fld w 43 42, false⟩] ++ (moves w).map Move.ref) = false)
      (wEng 0x05 0x24100000000000) .A 0x24100000000000) ∧
    ((fun (s : State) (x : Lane) (w : Code) =>
      (s.lane x).issues 0x06 w = true ∧
      clean w (ones 57 56 ||| dataBits w ||| ones 36 31 ||| moveBits w) = true ∧
      fld w 55 52 ≤ 9 ∧
      fld w 36 31 ≤ 47 ∧
      movesLegal w = true ∧
      refsLegal (dataRef w ++ (moves w).map Move.ref) = true ∧
      (s.lane x).badReads (dataRef w ++ (moves w).map Move.ref) = false)
      (wEng 0x06 0x120000200000000) .A 0x120000200000000) ∧
    ((fun (s : State) (x : Lane) (w : Code) =>
      (s.lane x).issues 0x07 w = true ∧
      clean w (ones 57 56 ||| dataBits w ||| ones 36 31 ||| moveBits w) = true ∧
      fld w 55 52 ≤ 9 ∧
      fld w 36 31 ≤ 47 ∧
      movesLegal w = true ∧
      refsLegal (dataRef w ++ (moves w).map Move.ref) = true ∧
      (s.lane x).badReads (dataRef w ++ (moves w).map Move.ref) = false)
      (wEng 0x07 0x120000200000000) .A 0x120000200000000) ∧
    ((fun (s : State) (x : Lane) (w : Code) =>
      (s.lane x).issues 0x08 w = true ∧
      clean w (0 ||| moveBits w) = true ∧
      movesLegal w = true ∧
      refsLegal ( (moves w).map Move.ref) = true ∧
      (s.lane x).badReads ( (moves w).map Move.ref) = false)
      (wEng 0x08 0x0) .A 0x0) ∧
    ((fun (s : State) (x : Lane) (w : Code) =>
      (s.lane x).issues 0x09 w = true ∧
      clean w (0 ||| moveBits w) = true ∧
      movesLegal w = true ∧
      refsLegal ( (moves w).map Move.ref) = true ∧
      (s.lane x).badReads ( (moves w).map Move.ref) = false)
      (wEng 0x09 0x64800000) .A 0x64800000) ∧
    ((fun (s : State) (x : Lane) (w : Code) =>
      (s.lane x).issues 0x16 w = true ∧
      clean w (ones 54 50 ||| ones 31 0) = true)
      (wEng 0x16 0x18000000000007) .A 0x18000000000007) ∧
    ((fun (s : State) (x : Lane) (w : Code) =>
      (s.lane x).issues 0x17 w = true ∧
      clean w (ones 54 50 ||| ones 31 0) = true)
      (wEng 0x17 0x18000000000007) .A 0x18000000000007) :=
  ⟨by decide +kernel, by decide +kernel, by decide +kernel, by decide +kernel, by decide +kernel, by decide +kernel, by decide +kernel, by decide +kernel, by decide +kernel, by decide +kernel, by decide +kernel⟩

theorem test_hyps_EngineImmediatesAndAgs :
    ((fun (s : State) (x : Lane) (w : Code) =>
      (s.lane x).issues 0x14 w = true ∧
      clean w (ones 57 55 ||| ones 31 0) = true)
      (wEng 0x14 0x80000000000007) .A 0x80000000000007) ∧
    ((fun (s : State) (x : Lane) (w : Code) =>
      (s.lane x).issues 0x15 w = true ∧
      clean w (ones 57 55 ||| ones 31 0) = true)
      (wEng 0x15 0x80000000000007) .A 0x80000000000007) ∧
    ((fun (s : State) (x : Lane) (w : Code) =>
      (s.lane x).issues 0x18 w = true ∧
      clean w (ones 57 52 ||| ones 31 0) = true)
      (wEng 0x18 0x80000000000007) .A 0x80000000000007) ∧
    ((fun (s : State) (x : Lane) (w : Code) =>
      (s.lane x).issues 0x38 w = true ∧
      clean w useD = true)
      (wEng 0x38 0x80000000000000) .A 0x80000000000000) ∧
    ((fun (s : State) (x : Lane) (w : Code) =>
      (s.lane x).issues 0x39 w = true ∧
      clean w (ones 3 0) = true)
      (wEng 0x39 0xF) .A 0xF) ∧
    ((fun (s : State) (x : Lane) (w : Code) =>
      (s.lane x).issues 0x30 w = true ∧
      clean w (ones 57 9) = true ∧
      fld w 54 53 ≠ 3 ∧
      agValid (fld w 54 53) (fld w 52 39) (fld w 38 24) = true)
      (wEng 0x30 0xA0040004000000) .A 0xA0040004000000) ∧
    ((fun (s : State) (x : Lane) (w : Code) =>
      (s.lane x).issues 0x31 w = true ∧
      clean w (ones 57 55 ||| ones 50 37) = true ∧
      ((s.lane x).eng.agen (fld w 57 55)).mode = 0)
      (wEng 0x31 0x80012000000000) .A 0x80012000000000) ∧
    ((fun (s : State) (x : Lane) (w : Code) =>
      (s.lane x).issues 0x32 w = true ∧
      clean w (ones 57 55 ||| ones 53 51) = true)
      (wEng 0x32 0x90000000000000) .A 0x90000000000000) ∧
    ((fun (s : State) (x : Lane) (w : Code) =>
      (s.lane x).issues 0x33 w = true ∧
      clean w (ones 57 55 ||| ones 53 49) = true ∧
      (s.lane x).badReads [⟨.x, fld w 57 55, fld w 50 49, false⟩] = false)
      (wEng 0x33 0x92000000000000) .A 0x92000000000000) ∧
    ((fun (s : State) (x : Lane) (w : Code) =>
      (s.lane x).issues 0x34 w = true ∧
      clean w (ones 57 55 ||| ones 53 49) = true)
      (wEng 0x34 0x92000000000000) .A 0x92000000000000) ∧
    ((fun (s : State) (x : Lane) (w : Code) =>
      (s.lane x).issues 0x10 w = true ∧
      clean w (ones 57 45) = true)
      (wEng 0x10 0x141800000000000) .A 0x141800000000000) ∧
    ((fun (s : State) (x : Lane) (w : Code) =>
      (s.lane x).issues 0x10 w = true ∧
      clean w (ones 57 38) = true ∧
      fld w 44 44 = 1)
      (wEng 0x10 0x141900000000000) .A 0x141900000000000) :=
  ⟨by decide +kernel, by decide +kernel, by decide +kernel, by decide +kernel, by decide +kernel, by decide +kernel, by decide +kernel, by decide +kernel, by decide +kernel, by decide +kernel, by decide +kernel, by decide +kernel⟩

theorem test_hyps_EngineControl :
    ((fun (s : State) (x : Lane) (w : Code) =>
      (s.lane x).issues 0x35 w = true ∧
      clean w (useS ||| useT ||| useU) = true ∧
      (s.lane x).eng.crdReady < 288)
      (wEng 0x35 0x27000000000000) .A 0x27000000000000) ∧
    ((fun (s : State) (x : Lane) (w : Code) =>
      (s.lane x).issues 0x36 w = true ∧
      clean w (useS ||| useT) = true ∧
      (s.lane x).eng.crdReady < 288)
      (wEng 0x36 0x26000000000000) .A 0x26000000000000) ∧
    ((fun (s : State) (x : Lane) (w : Code) =>
      (s.lane x).issues 0x37 w = true ∧
      clean w (useD ||| useT) = true ∧
      rRD w ≠ rRT w ∧
      (s.lane x).eng.crdReady < 288)
      (wEng 0x37 0x86000000000000) .A 0x86000000000000) ∧
    ((fun (s : State) (x : Lane) (_ : Code) =>
      (s.lane x).eng.cyc < (s.lane x).eng.crdReady)
      ((wEng 0 0).modLane .A fun l => l.modEng fun e => { e with crdReady := 18 }) .A 0) ∧
    ((fun (s : State) (x : Lane) (w : Code) =>
      (s.lane x).issues 0x3A w = true ∧
      clean w (ones 57 51 ||| ones 44 32) = true ∧
      (1 ≤ fld w 57 54 ∧
      fld w 57 54 ≤ 6) ∧
      (s.lane x).eng.cond (fld w 57 54) (fld w 53 51) = true)
      (wEng 0x3A 0x50004D00000000) .A 0x50004D00000000) ∧
    ((fun (s : State) (x : Lane) (w : Code) =>
      (s.lane x).issues 0x3A w = true ∧
      clean w (ones 57 51 ||| ones 44 32) = true ∧
      (1 ≤ fld w 57 54 ∧
      fld w 57 54 ≤ 6) ∧
      (s.lane x).eng.cond (fld w 57 54) (fld w 53 51) = false)
      (wEng 0x3A 0x90004D00000000) .A 0x90004D00000000) ∧
    ((fun (s : State) (x : Lane) (w : Code) =>
      (s.lane x).issues 0x3A w = true ∧
      clean w (ones 44 32) = true)
      (wEng 0x3A 0x4D00000000) .A 0x4D00000000) ∧
    ((fun (s : State) (x : Lane) (w : Code) =>
      (s.lane x).issues 0x3B w = true ∧
      clean w (ones 53 32) = true ∧
      (s.lane x).eng.loops = [] ∧
      (s.lane x).eng.pc + fld w 37 32 + 1 ≤ 8191 ∧
      fld w 53 38 ≠ 0)
      (wEng 0x3B 0xC200000000) .A 0xC200000000) ∧
    ((fun (s : State) (x : Lane) (w : Code) =>
      (s.lane x).issues 0x3C w = true ∧
      w = 0 ∧
      (∀ r, (s.lane x).loop.run = some r → r.slot < 48 ∧
      r.ctx < 128))
      (wEng 0x3C 0x0) .A 0x0) :=
  ⟨by decide +kernel, by decide +kernel, by decide +kernel, by decide +kernel, by decide +kernel, by decide +kernel, by decide +kernel, by decide +kernel, by decide +kernel⟩

theorem test_hyps_EngineRequestsAndFrames :
    ((fun (s : State) (x : Lane) (_ : Fin 128) (_ : Word) (_ : List Nat) =>
      (s.lane x).alive = true ∧
      (s.lane x).takes (R.blkctrl P.LE) = true ∧
      (s.lane x).get (F.running P.LE) = 0)
      wLive .A 0 0 []) ∧
    ((fun (s : State) (x : Lane) (_ : Fin 128) (_ : Word) (_ : List Nat) =>
      (s.lane x).alive = true ∧
      (s.lane x).takes R.LE_TBLCTRL = true ∧
      (s.lane x).get (F.locked P.LE) = 0)
      wLive .A 0 0 []) ∧
    ((fun (s : State) (x : Lane) (c : Fin 128) (v : Word) (_ : List Nat) =>
      (s.lane x).alive = true ∧
      (s.lane x).takes (R.LE_CTXCOEF c.val) = true ∧
      v.getLsbD 25 = true)
      wLive .A 0 0x2000000 []) ∧
    ((fun (s : State) (x : Lane) (_ : Fin 128) (_ : Word) (_ : List Nat) =>
      (s.lane x).alive = true ∧
      (s.lane x).get (F.running P.LE) = 1 ∧
      (s.lane x).get (F.run P.LE) = 1 ∧
      (s.lane x).loop.adopt = 0)
      (wLive.lput [(F.running P.LE, 1), (F.run P.LE, 1)]) .A 0 0 []) ∧
    ((fun (s : State) (x : Lane) (_ : Fin 128) (_ : Word) (_ : List Nat) =>
      (s.lane x).alive = true ∧
      (s.lane x).get (F.running P.LE) = 1 ∧
      (s.lane x).get (F.run P.LE) = 0)
      (wLive.lput [(F.running P.LE, 1)]) .A 0 0 []) :=
  ⟨by decide +kernel, by decide +kernel, by decide +kernel, by decide +kernel, by decide +kernel⟩

theorem test_hyps_SlotRuns :
    ((fun (s : State) (x : Lane) (n : Fin 48) (k : Nat) (_ : Run) (_ : Launch) (_ : List Launch) =>
      (s.lane x).alive = true ∧
      (s.lane x).loop.framing = true ∧
      n.val ∈ (s.lane x).loop.due ∧
      (s.lane x).slotFenced n.val = false ∧
      (s.lane x).loop.run = none ∧
      (s.lane x).rotation n.val (s.lane x).fn.toNat = some k ∧
      (s.lane x).sampleBad n.val ((s.lane x).act (F.LESLOT_ROT_CTX n.val k)) s.nowUs = false)
      wDue .A 3 0 ⟨3, 2, 0, 77, false, [], .sampled⟩ ⟨3, 2, 0, false, [], [], []⟩ []) ∧
    ((fun (s : State) (x : Lane) (_ : Fin 48) (_ : Nat) (r : Run) (_ : Launch) (_ : List Launch) =>
      (s.lane x).alive = true ∧
      (s.lane x).loop.run = some r ∧
      r.stage = .sampled)
      (wRun .sampled) .A 3 0 ⟨3, 2, 0, 77, false, [], .sampled⟩ ⟨3, 2, 0, false, [], [], []⟩ []) ∧
    ((fun (s : State) (x : Lane) (_ : Fin 48) (_ : Nat) (r : Run) (_ : Launch) (_ : List Launch) =>
      (s.lane x).alive = true ∧
      (s.lane x).loop.run = some r ∧
      r.stage = .running ∧
      r.slot < 48 ∧
      r.ctx < 128)
      (wRun .running) .A 3 0 ⟨3, 2, 0, 77, false, [], .running⟩ ⟨3, 2, 0, false, [], [], []⟩ []) ∧
    ((fun (s : State) (x : Lane) (_ : Fin 48) (_ : Nat) (r : Run) (_ : Launch) (_ : List Launch) =>
      (s.lane x).alive = true ∧
      (s.lane x).loop.run = some r ∧
      r.stage = .ended ∧
      r.outs.any (fun a => (s.lane x).zBad (24 * r.ctx + bZw a)) = false)
      (wRun .ended) .A 3 0 ⟨3, 2, 0, 77, false, [], .ended⟩ ⟨3, 2, 0, false, [], [], []⟩ []) ∧
    ((fun (s : State) (x : Lane) (n : Fin 48) (k : Nat) (_ : Run) (h : Launch) (hs : List Launch) =>
      (s.lane x).alive = true ∧
      (s.lane x).loop.held = h :: hs ∧
      h.slot = n.val ∧
      h.duplex = false ∧
      h.strata = [] ∧
      h.phases = [⟨k, 21, ⟨1, 2, 3⟩⟩] ∧
      k < 8 ∧
      (s.lane x).slotFenced n.val = false ∧
      (s.lane x).bridgeFenced k = false ∧
      (s.lane x).fencedBy .blink = false)
      (wLive.modLane .A fun l => l.modLoop fun p => { p with held := [⟨3, 2, 0, false, [⟨1, 21, ⟨1, 2, 3⟩⟩], [], []⟩] }) .A 3 1 ⟨3, 2, 0, 77, false, [], .ended⟩ ⟨3, 2, 0, false, [⟨1, 21, ⟨1, 2, 3⟩⟩], [], []⟩ []) :=
  ⟨by decide +kernel, by decide +kernel, by decide +kernel, by decide +kernel, by decide +kernel⟩

theorem test_hyps_Trackers :
    ((fun (s : State) (x : Lane) (k : Fin 4) (_ : Word) (_ : BitVec 9) (_ : Nat) =>
      (s.lane x).alive = true ∧
      (s.lane x).takes (R.LE_TRKCFG k.val) = true ∧
      (s.lane x).get (F.LE_TRKSTAT_STATE k.val) ≠ Trk.analyse)
      wLive .A 2 0 20 0) ∧
    ((fun (s : State) (x : Lane) (k : Fin 4) (_ : Word) (_ : BitVec 9) (_ : Nat) =>
      (s.lane x).alive = true ∧
      (s.lane x).loop.analysing = some k.val)
      (wLive.lput [(F.LE_TRKSTAT_STATE 2, 2)] |>.modLane .A fun l => l.modLoop fun p => { p with analysing := some 2 }) .A 2 0 20 0) ∧
    ((fun (s : State) (x : Lane) (k : Fin 4) (_ : Word) (bin : BitVec 9) (_ : Nat) =>
      (s.lane x).alive = true ∧
      (s.lane x).takes (R.LE_TRKACK k.val) = true ∧
      (s.lane x).get (F.LE_TRKSTAT_STATE k.val) = Trk.waitack ∧
      (s.lane x).get (F.LE_TRKLIM_NLO k.val) ≤ bin.toNat ∧
      bin.toNat ≤ (s.lane x).get (F.LE_TRKLIM_NHI k.val))
      (wLive.lput [(F.LE_TRKSTAT_STATE 2, 3), (F.LE_TRKLIM_NHI 2, 100)]) .A 2 0 20 0) ∧
    ((fun (s : State) (x : Lane) (k : Fin 4) (_ : Word) (_ : BitVec 9) (_ : Nat) =>
      (s.lane x).alive = true ∧
      (s.lane x).takes (R.LE_TRKACK k.val) = true ∧
      (s.lane x).get (F.LE_TRKSTAT_STATE k.val) = Trk.waitack)
      (wLive.lput [(F.LE_TRKSTAT_STATE 2, 3)]) .A 2 0 20 0) :=
  ⟨by decide +kernel, by decide +kernel, by decide +kernel, by decide +kernel⟩

theorem test_hyps_PlacementRuns :
    ((fun (s : State) (x : Lane) (_ : PlcRun) (b : Nat) (_ : Word) (_ : Word) =>
      (s.lane x).alive = true ∧
      (s.lane x).takes R.PLC_CMD = true ∧
      (s.lane x).get F.PLC_STAT_BUSY = 0 ∧
      (s.lane x).bufAt Buf.init = some b)
      (wPlc []) .A wPlan 200 0 0) ∧
    ((fun (s : State) (x : Lane) (_ : PlcRun) (_ : Nat) (_ : Word) (_ : Word) =>
      (s.lane x).alive = true ∧
      (s.lane x).takes R.PLC_CMD = true ∧
      (s.lane x).get F.PLC_STAT_BUSY = 1)
      (wPlc [(F.PLC_STAT_BUSY, 1)]) .A wPlan 200 0 0) ∧
    ((fun (s : State) (x : Lane) (_ : PlcRun) (b : Nat) (_ : Word) (_ : Word) =>
      (s.lane x).alive = true ∧
      (s.lane x).bufAt Buf.init = some b ∧
      (s.lane x).sieve.initFull = false ∧
      (s.lane x).sieve.filling = 1)
      ((wPlc []).modLane .A fun l => l.modSieve fun v => { v with filling := 1 }) .A wPlan 200 0 0) ∧
    ((fun (s : State) (x : Lane) (_ : PlcRun) (_ : Nat) (_ : Word) (v : Word) =>
      (s.lane x).alive = true ∧
      (s.lane x).llUp = true ∧
      v = (s.lane x).rd R.LE_FN_LO)
      (wPlc []) .A wPlan 200 4 0) ∧
    ((fun (s : State) (x : Lane) (_ : PlcRun) (_ : Nat) (_ : Word) (_ : Word) =>
      (s.lane x).alive = true ∧
      (s.lane x).plcRuns = true ∧
      (s.lane x).sieve.run = none ∧
      (s.lane x).loop.framing = true ∧
      s.sieveMode x = Mode.paired ∧
      (s.lane x).sieve.ripe % 1024 ≠ 0 ∧
      (s.lane x).sieve.peerIn = none)
      ((wPlc [(F.run P.PLC, 1), (F.running P.PLC, 1)]).modLane .A fun l => (l.modSieve fun v => { v with ripe := 1 }).modLoop fun p => { p with framing := true }) .A wPlan 200 4 0) ∧
    ((fun (s : State) (x : Lane) (_ : PlcRun) (_ : Nat) (_ : Word) (_ : Word) =>
      (s.lane x).alive = true ∧
      (s.lane x).plcRuns = true ∧
      (s.lane x).sieve.run = none ∧
      (s.lane x).loop.framing = true ∧
      s.sieveMode x = Mode.solo ∧
      (s.lane x).sieve.ripe % 1024 ≠ 0)
      (((wPlc [(F.run P.PLC, 1), (F.running P.PLC, 1)]).bputs [(F.status .B, 3)]).modLane .A fun l => (l.modSieve fun v => { v with ripe := 1 }).modLoop fun p => { p with framing := true }) .A wPlan 200 4 0) ∧
    ((fun (s : State) (x : Lane) (_ : PlcRun) (_ : Nat) (w : Word) (_ : Word) =>
      (s.lane x).alive = true ∧
      (s.lane x).llUp = true ∧
      (s.lane x).sieve.peerSeen = true ∧
      (s.lane x).sieve.run = none ∧
      w ≠ 0)
      ((wPlc []).modLane .A fun l => l.modSieve fun v => { v with peerSeen := true }) .A wPlan 200 4 0) ∧
    ((fun (s : State) (x : Lane) (r : PlcRun) (_ : Nat) (w : Word) (v : Word) =>
      (s.lane x).alive = true ∧
      (s.lane x).llUp = true ∧
      (s.lane x).sieve.peerSeen = true ∧
      (s.lane x).sieve.run = some r ∧
      r.stage = .input ∧
      r.mask < 1024 ∧
      w ≠ 0 ∧
      v ≠ (s.lane x).rd R.PLC_DDIGEST)
      ((wPlc []).modLane .A fun l => l.modSieve fun v => { v with peerSeen := true, run := some { wPlan with stage := .input } }) .A { wPlan with stage := .input } 200 4 9) ∧
    ((fun (s : State) (x : Lane) (r : PlcRun) (_ : Nat) (_ : Word) (v : Word) =>
      (s.lane x).alive = true ∧
      (s.lane x).llUp = true ∧
      (s.lane x).sieve.run = some r ∧
      r.stage = .result ∧
      v = planDigest r.plan)
      (wPlan1 .result) .A { wPlan with stage := .result } 200 4 (planDigest wPlan.plan)) ∧
    ((fun (s : State) (x : Lane) (r : PlcRun) (_ : Nat) (_ : Word) (v : Word) =>
      (s.lane x).alive = true ∧
      (s.lane x).llUp = true ∧
      (s.lane x).sieve.run = some r ∧
      r.stage = .result ∧
      v ≠ planDigest r.plan)
      (wPlan1 .result) .A { wPlan with stage := .result } 200 4 (planDigest wPlan.plan + 1)) ∧
    ((fun (s : State) (x : Lane) (r : PlcRun) (_ : Nat) (_ : Word) (_ : Word) =>
      (s.lane x).alive = true ∧
      (s.lane x).sieve.run = some r ∧
      r.stage = .load ∧
      r.eff ≤ (s.lane x).fn.toNat + 1)
      (wPlan1 .load) .A { wPlan with stage := .load } 200 4 0) ∧
    ((fun (s : State) (x : Lane) (r : PlcRun) (b : Nat) (_ : Word) (_ : Word) =>
      (s.lane x).alive = true ∧
      (s.lane x).sieve.run = some r ∧
      r.stage = .commit ∧
      r.eff ≤ (s.lane x).fn.toNat ∧
      (s.lane x).get F.LE_TBLCTRL_COMMIT = 0 ∧
      b < 128 ∧
      (r.plan.getD b ⟨0, 0⟩).rep < 2 ^ 15)
      (wPlan1 .commit) .A { wPlan with stage := .commit } 3 4 0) :=
  ⟨by decide +kernel, by decide +kernel, by decide +kernel, by decide +kernel, by decide +kernel, by decide +kernel, by decide +kernel, by decide +kernel, by decide +kernel, by decide +kernel, by decide +kernel, by decide +kernel⟩

theorem test_hyps_PlacementMirroring :
    ((fun (s : State) (x : Lane) (_ : Fin 128) (_ : Word) (_ : MirRx) (_ : List Word) (_ : Fin 32) (b : Nat) =>
      (s.lane x).alive = true ∧
      (s.lane x).llUp = true ∧
      (s.lane x).bufAt Buf.mir = some b)
      (wPlc []) .A 2 0 ⟨40, 1, 88⟩ [] 3 3) ∧
    ((fun (s : State) (x : Lane) (c : Fin 128) (_ : Word) (m : MirRx) (ws : List Word) (_ : Fin 32) (b : Nat) =>
      (s.lane x).alive = true ∧
      (s.lane x).llUp = true ∧
      (s.lane x).bufAt Buf.mir = some b ∧
      Table.get (fun _ => none) (s.lane x).sieve.mirRx c.val = some m ∧
      ws.length ≤ 31 ∧
      m.bytes + 4 * ws.length < 4 * (s.lane x).sieve.desc.mirWords c.val)
      ((wPlc []).modLane .A fun l => l.modSieve fun v => { v with mirRx := [(2, some ⟨40, 1, 8⟩)] }) .A 2 0 ⟨40, 1, 8⟩ [1, 2] 3 3) ∧
    ((fun (s : State) (x : Lane) (c : Fin 128) (_ : Word) (m : MirRx) (ws : List Word) (_ : Fin 32) (b : Nat) =>
      (s.lane x).alive = true ∧
      (s.lane x).llUp = true ∧
      (s.lane x).bufAt Buf.mir = some b ∧
      Table.get (fun _ => none) (s.lane x).sieve.mirRx c.val = some m ∧
      ws.length ≤ 31 ∧
      4 * (s.lane x).sieve.desc.mirWords c.val ≤ m.bytes + 4 * ws.length)
      ((wPlc []).modLane .A fun l => l.modSieve fun v => { v with mirRx := [(2, some ⟨40, 1, 88⟩)] }) .A 2 0 ⟨40, 1, 88⟩ [1, 2] 3 3) ∧
    ((fun (s : State) (x : Lane) (_ : Fin 128) (_ : Word) (_ : MirRx) (_ : List Word) (j : Fin 32) (b : Nat) =>
      (s.lane x).alive = true ∧
      (s.lane x).llUp = true ∧
      (s.lane x).rd R.PLC_RUNCNT = 0 ∧
      b + j.val < 128)
      (wPlc []) .A 2 0 ⟨40, 1, 88⟩ [] 3 3) ∧
    ((fun (s : State) (x : Lane) (_ : Fin 128) (_ : Word) (_ : MirRx) (_ : List Word) (_ : Fin 32) (_ : Nat) =>
      (s.lane x).alive = true ∧
      (s.lane x).llUp = true)
      (wPlc []) .A 2 0 ⟨40, 1, 88⟩ [] 3 3) ∧
    ((fun (s : State) (x : Lane) (c : Fin 128) (_ : Word) (_ : MirRx) (_ : List Word) (_ : Fin 32) (_ : Nat) =>
      (s.lane x).alive = true ∧
      (s.lane x).llUp = true ∧
      (Table.get (fun _ => none) (s.lane x).sieve.ramps c.val).isSome = true ∧
      c.val ∈ (s.lane x).sieve.rampDue)
      ((wPlc []).modLane .A fun l => l.modSieve fun v => { v with ramps := [(2, some [])], rampDue := [2] }) .A 2 0 ⟨40, 1, 88⟩ [] 3 3) :=
  ⟨by decide +kernel, by decide +kernel, by decide +kernel, by decide +kernel, by decide +kernel, by decide +kernel⟩

theorem test_hyps_FeedbackCounting :
    ((fun (s : State) (x : Lane) (k : Fin 16) (a : Fin 4) (b : Fin 4) (_ : Nat) (_ : Nat) (_ : Fin 8) (held : Nat) (_ : Bool) (_ : Bool) =>
      (s.lane x).chanOn k.val = true ∧
      (s.lane x).get (F.FBKCH_CHCFG_FLT k.val) ≤ held ∧
      0 < (s.lane x).get (F.FBKCH_CPR_CPR k.val) ∧
      (s.lane x).get (F.FBKCH_CHCFG_DIR k.val) = 0 ∧
      (s.lane x).get (F.FBKCH_CHCFG_MODE k.val) = 1 ∧
      ((s.lane x).chan k.val).code = some ((s.lane x).lineCode k.val a.val 2) ∧
      quadPhase ((s.lane x).lineCode k.val b.val 2) = (quadPhase ((s.lane x).lineCode k.val a.val 2) + 1) % 4)
      ((wFbk [(F.FBKCH_CHCFG_MODE 2, 1)]).modLane .A fun l => l.modChan 2 fun c => { c with code := some 0 }) .A 2 0 2 50 20 0 5000 true false) ∧
    ((fun (s : State) (x : Lane) (k : Fin 16) (a : Fin 4) (b : Fin 4) (_ : Nat) (_ : Nat) (_ : Fin 8) (held : Nat) (_ : Bool) (_ : Bool) =>
      (s.lane x).chanOn k.val = true ∧
      (s.lane x).get (F.FBKCH_CHCFG_FLT k.val) ≤ held ∧
      (s.lane x).get (F.FBKCH_CHCFG_MODE k.val) = 1 ∧
      ((s.lane x).chan k.val).code = some ((s.lane x).lineCode k.val a.val 2) ∧
      quadPhase ((s.lane x).lineCode k.val b.val 2) = (quadPhase ((s.lane x).lineCode k.val a.val 2) + 2) % 4)
      ((wFbk [(F.FBKCH_CHCFG_MODE 2, 1)]).modLane .A fun l => l.modChan 2 fun c => { c with code := some 0 }) .A 2 0 3 50 20 0 5000 true false) ∧
    ((fun (s : State) (x : Lane) (k : Fin 16) (a : Fin 4) (_ : Fin 4) (_ : Nat) (_ : Nat) (c : Fin 8) (held : Nat) (_ : Bool) (_ : Bool) =>
      (s.lane x).chanOn k.val = true ∧
      (s.lane x).get (F.FBKCH_CHCFG_FLT k.val) ≤ held ∧
      0 < (s.lane x).get (F.FBKCH_CPR_CPR k.val) ∧
      (s.lane x).get (F.FBKCH_CHCFG_DIR k.val) = 0 ∧
      (s.lane x).get (F.FBKCH_CHCFG_MODE k.val) = 2 ∧
      ((s.lane x).chan k.val).code = some a.val ∧
      hallSector a.val < 6 ∧
      hallSector ((s.lane x).lineCode k.val c.val 3) = (hallSector a.val + 1) % 6)
      ((wFbk [(F.FBKCH_CHCFG_MODE 2, 2)]).modLane .A fun l => l.modChan 2 fun c => { c with code := some 1 }) .A 2 1 3 50 20 3 5000 true false) ∧
    ((fun (s : State) (x : Lane) (k : Fin 16) (_ : Fin 4) (_ : Fin 4) (_ : Nat) (_ : Nat) (c : Fin 8) (held : Nat) (_ : Bool) (_ : Bool) =>
      (s.lane x).chanOn k.val = true ∧
      (s.lane x).get (F.FBKCH_CHCFG_FLT k.val) ≤ held ∧
      (s.lane x).get (F.FBKCH_CHCFG_MODE k.val) = 2 ∧
      ((s.lane x).lineCode k.val c.val 3 = 0 ∨ (s.lane x).lineCode k.val c.val 3 = 7) ∧
      ((s.lane x).chan k.val).code ≠ some ((s.lane x).lineCode k.val c.val 3))
      ((wFbk [(F.FBKCH_CHCFG_MODE 2, 2)])) .A 2 0 1 50 20 0 5000 true false) ∧
    ((fun (s : State) (x : Lane) (k : Fin 16) (_ : Fin 4) (_ : Fin 4) (_ : Nat) (_ : Nat) (_ : Fin 8) (held : Nat) (u : Bool) (_ : Bool) =>
      (s.lane x).chanOn k.val = true ∧
      (s.lane x).get (F.FBKCH_CHCFG_FLT k.val) ≤ held ∧
      0 < (s.lane x).get (F.FBKCH_CPR_CPR k.val) ∧
      (s.lane x).get (F.FBKCH_CHCFG_DIR k.val) = 0 ∧
      (s.lane x).get (F.FBKCH_CHCFG_MODE k.val) = 3 ∧
      (s.lane x).lineLevel k.val 0 u = true ∧
      ((s.lane x).chan k.val).seen = false)
      ((wFbk [(F.FBKCH_CHCFG_MODE 2, 3)])) .A 2 0 1 50 20 0 5000 true false) ∧
    ((fun (s : State) (x : Lane) (k : Fin 16) (_ : Fin 4) (_ : Fin 4) (_ : Nat) (_ : Nat) (_ : Fin 8) (held : Nat) (u : Bool) (w : Bool) =>
      (s.lane x).chanOn k.val = true ∧
      (s.lane x).get (F.FBKCH_CHCFG_FLT k.val) ≤ held ∧
      0 < (s.lane x).get (F.FBKCH_CPR_CPR k.val) ∧
      (s.lane x).get (F.FBKCH_CHCFG_DIR k.val) = 0 ∧
      (s.lane x).get (F.FBKCH_CHCFG_MODE k.val) = 4 ∧
      (s.lane x).lineLevel k.val 0 u = true ∧
      (s.lane x).lineLevel k.val 1 w = false)
      ((wFbk [(F.FBKCH_CHCFG_MODE 2, 4)])) .A 2 0 1 50 20 0 5000 true false) ∧
    ((fun (s : State) (x : Lane) (k : Fin 16) (_ : Fin 4) (_ : Fin 4) (t : Nat) (h : Nat) (_ : Fin 8) (held : Nat) (u : Bool) (_ : Bool) =>
      (s.lane x).chanOn k.val = true ∧
      (s.lane x).get (F.FBKCH_CHCFG_FLT k.val) ≤ held ∧
      (s.lane x).get (F.FBKCH_CHCFG_MODE k.val) = 5 ∧
      (s.lane x).lineLevel k.val 0 u = true ∧
      ((s.lane x).chan k.val).seen = true ∧
      1 ≤ ((s.lane x).chan k.val).runs ∧
      0 < t ∧
      t < 2 ^ 32 ∧
      h ≤ t)
      ((wFbk [(F.FBKCH_CHCFG_MODE 2, 5)]).modLane .A fun l => l.modChan 2 fun c => { c with seen := true, runs := 1 }) .A 2 0 1 50 20 0 5000 true false) ∧
    ((fun (s : State) (x : Lane) (k : Fin 16) (_ : Fin 4) (_ : Fin 4) (t : Nat) (_ : Nat) (_ : Fin 8) (held : Nat) (u : Bool) (_ : Bool) =>
      (s.lane x).chanOn k.val = true ∧
      (s.lane x).get (F.FBKCH_CHCFG_FLT k.val) ≤ held ∧
      (s.lane x).get (F.FBKCH_CHCFG_MODE k.val) = 6 ∧
      (s.lane x).lineLevel k.val 0 u = true ∧
      ((s.lane x).chan k.val).seen = true ∧
      1 ≤ ((s.lane x).chan k.val).runs ∧
      0 < t ∧
      t < 2 ^ 32)
      ((wFbk [(F.FBKCH_CHCFG_MODE 2, 6)]).modLane .A fun l => l.modChan 2 fun c => { c with seen := true, runs := 1 }) .A 2 0 1 50 20 0 5000 true false) ∧
    ((fun (s : State) (x : Lane) (k : Fin 16) (_ : Fin 4) (_ : Fin 4) (_ : Nat) (_ : Nat) (_ : Fin 8) (held : Nat) (u : Bool) (_ : Bool) =>
      (s.lane x).chanOn k.val = true ∧
      (s.lane x).get (F.FBKCH_CHCFG_FLT k.val) ≤ held ∧
      ((s.lane x).get (F.FBKCH_CHCFG_MODE k.val) = 1 ∨ (s.lane x).get (F.FBKCH_CHCFG_MODE k.val) = 4) ∧
      (s.lane x).lineLevel k.val 2 u = true ∧
      (s.lane x).get (F.FBKCH_CHCFG_IDXEN k.val) = 1 ∧
      (s.lane x).get (F.FBKCH_CHCFG_IDXQ k.val) = 0 ∧
      (s.lane x).get (F.FBKCH_STATE_REFOK k.val) = 0)
      ((wFbk [(F.FBKCH_CHCFG_MODE 2, 1), (F.FBKCH_CHCFG_IDXEN 2, 1)])) .A 2 0 1 50 20 0 5000 true false) :=
  ⟨by decide +kernel, by decide +kernel, by decide +kernel, by decide +kernel, by decide +kernel, by decide +kernel, by decide +kernel, by decide +kernel, by decide +kernel⟩

theorem test_hyps_FeedbackTimingAndSetup :
    ((fun (s : State) (x : Lane) (k : Fin 16) (_ : Fin 4) (_ : Word) =>
      (s.lane x).alive = true ∧
      (s.lane x).chanOn k.val = true ∧
      ((s.lane x).chan k.val).bad = false)
      ((wFbk [(F.FBKCH_CHCFG_MODE 2, 1)])) .A 2 1 5) ∧
    ((fun (s : State) (x : Lane) (k : Fin 16) (_ : Fin 4) (_ : Word) =>
      (s.lane x).alive = true ∧
      (s.lane x).chanOn k.val = true ∧
      (s.lane x).get (F.FBKCH_CHCFG_MODE k.val) = 1 ∧
      ((s.lane x).chan k.val).bad = false)
      ((wFbk [(F.FBKCH_CHCFG_MODE 2, 1)])) .A 2 1 5) ∧
    ((fun (s : State) (x : Lane) (k : Fin 16) (_ : Fin 4) (_ : Word) =>
      (s.lane x).alive = true ∧
      (s.lane x).takes (R.FBKCH_CPR k.val) = true ∧
      (s.lane x).rd (R.FBKCH_CPR k.val) ≠ 1000 ∧
      (s.lane x).get (F.locked (fbkPage k.val)) = 0)
      (wLive.lput [(F.FBKCH_CPR_CPR 2, 500)]) .A 2 1 5) ∧
    ((fun (s : State) (x : Lane) (k : Fin 16) (_ : Fin 4) (v : Word) =>
      (s.lane x).alive = true ∧
      (s.lane x).takes (R.FBKCH_POS k.val) = true ∧
      v.toNat < (s.lane x).get (F.FBKCH_CPR_CPR k.val))
      ((wFbk [(F.FBKCH_CPR_CPR 2, 100)])) .A 2 1 5) ∧
    ((fun (s : State) (x : Lane) (k : Fin 16) (_ : Fin 4) (_ : Word) =>
      (s.lane x).alive = true ∧
      (s.lane x).blockFenced (R.FBKCH_CHEVT k.val) = false)
      wLive .A 2 1 5) ∧
    ((fun (s : State) (x : Lane) (_ : Fin 16) (j : Fin 4) (_ : Word) =>
      (s.lane x).alive = true ∧
      (s.lane x).blockOn P.FBK = true ∧
      (s.lane x).get (F.FBK_OUTCFG_EN j.val) = 1 ∧
      ((s.lane x).fbOut j.val).queue = [.up, .down])
      ((wFbk [(F.FBK_OUTCFG_EN 1, 1), (F.run P.FBK, 1), (F.running P.FBK, 1)]).modLane .A fun l => l.modFeed fun v => { v with outs := [(1, { FbkOut.reset with queue := [.up, .down] })] }) .A 2 1 5) :=
  ⟨by decide +kernel, by decide +kernel, by decide +kernel, by decide +kernel, by decide +kernel, by decide +kernel⟩

theorem test_hyps_SensorPortsAndConverter :
    ((fun (s : State) (x : Lane) (p : Fin 4) (q : Nat) (ns : List Nat) (_ : List Bool) (_ : Nat) (d : List Nat) (_ : Half) (_ : List (Nat × Nat)) (inv : Bool) =>
      (s.lane x).alive = true ∧
      (s.lane x).portOn p.val = true ∧
      (s.lane x).get (F.SNS_PCFG_INV p.val) = bit inv ∧
      (s.lane x).get (F.SNS_PCFG_PROT p.val) = 1 ∧
      0 < q ∧
      (s.lane x).sentCheck p.val q ns none = .inr d)
      (wSns [(F.SNS_PCFG_PROT 1, 1), (F.SNS_SENTCFG_TICK 1, 12), (F.SNS_SENTCFG_NIB 1, 2)]) .A 1 672 (wSent [1, 4, 5]) [] 0 [1, 4, 5] 0 [] false) ∧
    ((fun (s : State) (x : Lane) (p : Fin 4) (q : Nat) (ns : List Nat) (_ : List Bool) (e : Nat) (_ : List Nat) (_ : Half) (_ : List (Nat × Nat)) (inv : Bool) =>
      (s.lane x).alive = true ∧
      (s.lane x).portOn p.val = true ∧
      (s.lane x).get (F.SNS_PCFG_INV p.val) = bit inv ∧
      (s.lane x).get (F.SNS_PCFG_PROT p.val) = 1 ∧
      0 < q ∧
      (s.lane x).sentCheck p.val q ns none = .inl e ∧
      e ≤ 3)
      (wSns [(F.SNS_PCFG_PROT 1, 1), (F.SNS_SENTCFG_TICK 1, 12), (F.SNS_SENTCFG_NIB 1, 2)]) .A 1 67 [1, 2] [] 0 [] 0 [] false) ∧
    ((fun (s : State) (x : Lane) (p : Fin 4) (_ : Nat) (_ : List Nat) (bs : List Bool) (_ : Nat) (_ : List Nat) (_ : Half) (_ : List (Nat × Nat)) (inv : Bool) =>
      (s.lane x).alive = true ∧
      (s.lane x).portOn p.val = true ∧
      (s.lane x).get (F.SNS_PCFG_INV p.val) = bit inv ∧
      (s.lane x).get (F.SNS_PCFG_PROT p.val) = 2 ∧
      bs.length = (s.lane x).get (F.SNS_PSI5CFG_LEN p.val))
      (wSns [(F.SNS_PCFG_PROT 1, 2), (F.SNS_PSI5CFG_LEN 1, 10)]) .A 1 672 [] (List.replicate 10 true) 0 [] 0 [] false) ∧
    ((fun (s : State) (x : Lane) (p : Fin 4) (_ : Nat) (_ : List Nat) (_ : List Bool) (_ : Nat) (_ : List Nat) (_ : Half) (_ : List (Nat × Nat)) (inv : Bool) =>
      (s.lane x).alive = true ∧
      (s.lane x).portOn p.val = true ∧
      (s.lane x).get (F.SNS_PCFG_INV p.val) = bit inv ∧
      (s.lane x).get (F.SNS_PCFG_PROT p.val) = 2)
      (wSns [(F.SNS_PCFG_PROT 1, 2)]) .A 1 672 [] (List.replicate 10 true) 0 [] 0 [] false) ∧
    ((fun (s : State) (x : Lane) (p : Fin 4) (_ : Nat) (_ : List Nat) (_ : List Bool) (_ : Nat) (_ : List Nat) (_ : Half) (_ : List (Nat × Nat)) (_ : Bool) =>
      (s.lane x).alive = true ∧
      (s.lane x).portOn p.val = true ∧
      (s.lane x).get (F.SNS_PCFG_PROT p.val) = 3 ∧
      (s.lane x).get (F.SNS_SYNCCFG_EN p.val) = 1)
      (wSns [(F.SNS_PCFG_PROT 1, 3), (F.SNS_SYNCCFG_EN 1, 1)]) .A 1 672 [] (List.replicate 10 true) 0 [] 0 [] false) ∧
    ((fun (s : State) (x : Lane) (p : Fin 4) (_ : Nat) (_ : List Nat) (_ : List Bool) (_ : Nat) (_ : List Nat) (_ : Half) (_ : List (Nat × Nat)) (_ : Bool) =>
      (s.lane x).alive = true ∧
      (s.lane x).portOn p.val = true)
      (wSns [(F.SNS_PCFG_PROT 1, 3)]) .A 1 672 [] (List.replicate 10 true) 0 [] 0 [] false) ∧
    ((fun (s : State) (x : Lane) (p : Fin 4) (_ : Nat) (_ : List Nat) (_ : List Bool) (_ : Nat) (_ : List Nat) (_ : Half) (_ : List (Nat × Nat)) (_ : Bool) =>
      (s.lane x).alive = true ∧
      (s.lane x).blockFenced (R.SNS_PEVT p.val) = false)
      wLive .A 1 672 [] [] 0 [] 0 [] false) ∧
    ((fun (s : State) (x : Lane) (_ : Fin 4) (_ : Nat) (_ : List Nat) (_ : List Bool) (_ : Nat) (_ : List Nat) (_ : Half) (_ : List (Nat × Nat)) (_ : Bool) =>
      (s.lane x).alive = true ∧
      (s.lane x).takes R.ADC_ADCSTART = true ∧
      (s.lane x).blockOn P.ADC = true ∧
      (s.lane x).get F.ADC_ADCCFG_TRIG = 0 ∧
      (s.lane x).get F.ADC_ADCSTAT_CAL = 0 ∧
      (s.lane x).feed.adc.scan = [])
      (wSns [(F.ADC_ADCSCAN_SCAN, 9)]) .A 1 672 [] [] 0 [] 0 [] false) ∧
    ((fun (s : State) (x : Lane) (_ : Fin 4) (_ : Nat) (_ : List Nat) (_ : List Bool) (_ : Nat) (_ : List Nat) (_ : Half) (_ : List (Nat × Nat)) (_ : Bool) =>
      (s.lane x).alive = true ∧
      (s.lane x).blockOn P.ADC = true ∧
      (s.lane x).get F.ADC_ADCCFG_TRIG = 2 ∧
      (s.lane x).get F.ADC_ADCSTAT_CAL = 0 ∧
      (s.lane x).feed.adc.scan = [])
      (wSns [(F.ADC_ADCSCAN_SCAN, 9), (F.ADC_ADCCFG_TRIG, 2)]) .A 1 672 [] [] 0 [] 0 [] false) ∧
    ((fun (s : State) (x : Lane) (_ : Fin 4) (q : Nat) (ns : List Nat) (_ : List Bool) (_ : Nat) (_ : List Nat) (_ : Half) (_ : List (Nat × Nat)) (_ : Bool) =>
      (s.lane x).alive = true ∧
      (s.lane x).get (F.running P.ADC) = 1 ∧
      (s.lane x).get (F.run P.ADC) = 1 ∧
      (s.lane x).blockFenced P.ADC = false ∧
      (s.lane x).feed.adc.scan = q :: ns ∧
      q < 16 ∧
      (s.lane x).feed.adc.fifo.length < 32 ∧
      (s.lane x).get F.ADC_ADCFEN_EN / 2 ^ q % 2 = 1)
      ((wSns [(F.ADC_ADCFEN_EN, 8)]).modLane .A fun l => l.modAdc fun v => { v with scan := [3, 9] }) .A 1 3 [9] [] 0 [] 77 [] false) ∧
    ((fun (s : State) (x : Lane) (_ : Fin 4) (_ : Nat) (_ : List Nat) (_ : List Bool) (_ : Nat) (_ : List Nat) (_ : Half) (_ : List (Nat × Nat)) (_ : Bool) =>
      (s.lane x).alive = true ∧
      (s.lane x).blockOn P.ADC = true ∧
      (s.lane x).get F.ADC_ADCSTAT_CAL = 1)
      (wSns [(F.ADC_ADCSTAT_CAL, 1)]) .A 1 672 [] [] 0 [] 0 [] false) ∧
    ((fun (s : State) (x : Lane) (_ : Fin 4) (q : Nat) (_ : List Nat) (_ : List Bool) (e : Nat) (_ : List Nat) (_ : Half) (rest : List (Nat × Nat)) (_ : Bool) =>
      (s.lane x).alive = true ∧
      (s.lane x).blockFenced R.ADC_ADCFIFO = false ∧
      (s.lane x).feed.adc.fifo = (q, e) :: rest ∧
      q < 16 ∧
      e < 65536 ∧
      rest.length < 32 ∧
      (s.lane x).feed.adc.ovr = false)
      ((wSns []).modLane .A fun l => l.modAdc fun v => { v with fifo := [(3, 9)] }) .A 1 3 [] [] 9 [] 0 [] false) :=
  ⟨by decide +kernel, by decide +kernel, by decide +kernel, by decide +kernel, by decide +kernel, by decide +kernel, by decide +kernel, by decide +kernel, by decide +kernel, by decide +kernel, by decide +kernel, by decide +kernel⟩

theorem test_hyps_StrataSending :
    ((fun (s : State) (x : Lane) (p : Fin 2) (_ : Fin 64) (b : Bool) (_ : StrFrame) (_ : List DWord) (v : Word) =>
      (s.lane x).alive = true ∧
      (s.lane x).portState p.val = Prt.stopped ∧
      (s.lane x).takes (R.STR_PCTL p.val) = true ∧
      (s.lane x).get (F.run P.STR) = 1 ∧
      (s.lane x).fencedBy (.port p.val) = false ∧
      v.getLsbD 0 = true ∧
      ((s.lane x).regWrite (R.STR_PCTL p.val) v).2.getLsbD 0 = true ∧
      ((s.lane x).regWrite (R.STR_PCTL p.val) v).1.cfgErr p.val = b)
      (wStr 0 []) .A 0 3 false (wData 3) [] 1) ∧
    ((fun (s : State) (x : Lane) (p : Fin 2) (_ : Fin 64) (_ : Bool) (_ : StrFrame) (_ : List DWord) (_ : Word) =>
      (s.lane x).alive = true ∧
      (s.lane x).portState p.val ≠ Prt.stopped ∧
      (s.lane x).get (F.STR_PCTL_RUN p.val) = 0)
      (wStr 4 [(F.STR_PCTL_RUN 0, 0)]) .A 0 3 false (wData 3) [] 0) ∧
    ((fun (s : State) (x : Lane) (p : Fin 2) (n : Fin 64) (_ : Bool) (_ : StrFrame) (_ : List DWord) (_ : Word) =>
      (s.lane x).alive = true ∧
      (s.lane x).inCycle p.val = true ∧
      ((s.lane x).slotsOf p.val).contains n.val = true ∧
      (s.lane x).isTx p.val n.val = true ∧
      (s.lane x).isSafe p.val n.val = false ∧
      (s.lane x).txReady p.val n.val = true)
      (wStr 4 [(F.txrdy 0 3, 1)]) .A 0 3 false (wData 3) [] 0) ∧
    ((fun (s : State) (x : Lane) (p : Fin 2) (n : Fin 64) (_ : Bool) (_ : StrFrame) (ws : List DWord) (_ : Word) =>
      (s.lane x).alive = true ∧
      (s.lane x).inCycle p.val = true ∧
      ((s.lane x).slotsOf p.val).contains n.val = true ∧
      (s.lane x).isTx p.val n.val = true ∧
      (s.lane x).isSafe p.val n.val = false ∧
      (s.lane x).txReady p.val n.val = false ∧
      Table.get (fun _ => none) ((s.lane x).port p.val).latched n.val = some ws)
      ((wStr 4 []).strPort fun q => { q with latched := [(3, some [5])] }) .A 0 3 false (wData 3) [5] 0) ∧
    ((fun (s : State) (x : Lane) (p : Fin 2) (n : Fin 64) (_ : Bool) (f : StrFrame) (_ : List DWord) (_ : Word) =>
      (s.lane x).alive = true ∧
      (s.lane x).inCycle p.val = true ∧
      ((s.lane x).port p.val).out = some f ∧
      f.slot = n.val ∧
      (s.lane x).maySend p.val n.val = true)
      ((wStr 4 []).strPort fun q => { q with out := some (wData 3) }) .A 0 3 false (wData 3) [] 0) ∧
    ((fun (s : State) (x : Lane) (p : Fin 2) (_ : Fin 64) (_ : Bool) (f : StrFrame) (_ : List DWord) (_ : Word) =>
      (s.lane x).alive = true ∧
      ((s.lane x).port p.val).air = some f ∧
      f.kind ≠ Kind.coldstart ∧
      f.slot < 64)
      ((wStr 4 []).strPort fun q => { q with air := some (wData 3) }) .A 0 3 false (wData 3) [] 0) ∧
    ((fun (s : State) (x : Lane) (p : Fin 2) (n : Fin 64) (_ : Bool) (f : StrFrame) (_ : List DWord) (_ : Word) =>
      (s.lane x).alive = true ∧
      (s.lane x).inCycle p.val = true ∧
      ((s.lane x).port p.val).air = some f ∧
      f.slot = n.val ∧
      f.kind = Kind.data ∧
      (s.lane x).isRx p.val n.val = false)
      ((wStr 4 []).strPort fun q => { q with air := some (wData 3) }) .A 0 3 false (wData 3) [] 0) ∧
    ((fun (s : State) (x : Lane) (p : Fin 2) (n : Fin 64) (_ : Bool) (_ : StrFrame) (_ : List DWord) (_ : Word) =>
      (s.lane x).alive = true ∧
      (s.lane x).inCycle p.val = true ∧
      (s.lane x).isRx p.val n.val = true ∧
      ((s.lane x).slotsOf p.val).contains n.val = true ∧
      n.val ∉ ((s.lane x).port p.val).stored ∧
      n.val ∉ ((s.lane x).port p.val).caused ∧
      ((s.lane x).port p.val).air = none)
      (wStr 4 []) .A 0 4 false (wData 3) [] 0) ∧
    ((fun (s : State) (x : Lane) (_ : Fin 2) (n : Fin 64) (_ : Bool) (_ : StrFrame) (_ : List DWord) (v : Word) =>
      (s.lane x).alive = true ∧
      (s.lane x).takes (R.STR_TXRDY_XL) = true ∧
      (s.lane x).isTx 0 n.val = true ∧
      (s.lane x).txHome 0 n.val = (0, n.val) ∧
      n.val < 32 ∧
      v = BitVec.ofNat 32 (2 ^ n.val))
      (wStr 4 []) .A 0 3 false (wData 3) [] 8) :=
  ⟨by decide +kernel, by decide +kernel, by decide +kernel, by decide +kernel, by decide +kernel, by decide +kernel, by decide +kernel, by decide +kernel, by decide +kernel⟩

theorem test_hyps_StrataReceivingAndSafety :
    ((fun (s : State) (x : Lane) (p : Fin 2) (_ : Fin 64) (bytes : List Byte) (_ : Int) (_ : StrFrame) (_ : Bool) (_ : Fin 64) (_ : Nat) (_ : Nat) =>
      (s.lane x).alive = true ∧
      (s.lane x).blockFenced P.STR = false ∧
      (s.lane x).portState p.val ≠ Prt.stopped ∧
      (s.lane x).strParse p.val bytes = none)
      (wStr 4 []) .A 0 4 [1, 2] 0 (wData 4) true 5 0 2) ∧
    ((fun (s : State) (x : Lane) (p : Fin 2) (n : Fin 64) (bytes : List Byte) (t : Int) (f : StrFrame) (z : Bool) (_ : Fin 64) (_ : Nat) (_ : Nat) =>
      (s.lane x).alive = true ∧
      (s.lane x).blockFenced P.STR = false ∧
      (s.lane x).inCycle p.val = true ∧
      (s.lane x).portState p.val ≠ Prt.coldstart ∧
      (s.lane x).strParse p.val bytes = some (f, z) ∧
      f.kind = Kind.data ∧
      f.sync = false ∧
      (s.lane x).windowSlot p.val t = some n.val ∧
      (s.lane x).rxCheck p.val n.val f = (SCause.ok, 8) ∧
      (s.lane x).get (F.schNotify p.val n.val) = 0 ∧
      f.payload.length ≤ 8 ∧
      f.age < 256)
      (wStr 4 [(F.STR_CYCCFG_CYCLEN 0, 1000)]) .A 0 4 (wBytes (wData 4)) 41640 (wData 4) true 5 0 2) ∧
    ((fun (s : State) (x : Lane) (p : Fin 2) (n : Fin 64) (bytes : List Byte) (t : Int) (f : StrFrame) (z : Bool) (_ : Fin 64) (j : Nat) (_ : Nat) =>
      (s.lane x).alive = true ∧
      (s.lane x).blockFenced P.STR = false ∧
      (s.lane x).inCycle p.val = true ∧
      (s.lane x).portState p.val ≠ Prt.coldstart ∧
      (s.lane x).strParse p.val bytes = some (f, z) ∧
      f.kind = Kind.data ∧
      f.sync = false ∧
      (s.lane x).windowSlot p.val t = some n.val ∧
      ((s.lane x).rxCheck p.val n.val f).1 = j ∧
      0 < j ∧
      j < 16)
      (wStr 4 []) .A 0 4 (wBytes { wData 4 with cycle := 9 }) 41640 { wData 4 with cycle := 9 } true 5 8 2) ∧
    ((fun (s : State) (x : Lane) (p : Fin 2) (n : Fin 64) (bytes : List Byte) (t : Int) (f : StrFrame) (z : Bool) (_ : Fin 64) (_ : Nat) (_ : Nat) =>
      (s.lane x).alive = true ∧
      (s.lane x).blockFenced P.STR = false ∧
      (s.lane x).inCycle p.val = true ∧
      (s.lane x).portState p.val ≠ Prt.coldstart ∧
      (s.lane x).strParse p.val bytes = some (f, z) ∧
      f.kind = Kind.data ∧
      (s.lane x).windowSlot p.val t = some n.val)
      (wStr 4 []) .A 0 4 (wBytes (wData 4)) 41640 (wData 4) true 5 0 2) ∧
    ((fun (s : State) (x : Lane) (_ : Fin 2) (_ : Fin 64) (_ : List Byte) (_ : Int) (_ : StrFrame) (_ : Bool) (i : Fin 64) (_ : Nat) (_ : Nat) =>
      (s.lane x).alive = true ∧
      (s.lane x).blockFenced P.STR = false ∧
      ((s.lane x).pendCopy i.val).isSome = true)
      ((wStr 4 []).modLane .A fun l => l.setPend 5 (some ⟨0, 5, [7]⟩)) .A 0 4 [] 0 (wData 4) true 5 0 2) ∧
    ((fun (s : State) (x : Lane) (p : Fin 2) (_ : Fin 64) (_ : List Byte) (_ : Int) (_ : StrFrame) (z : Bool) (_ : Fin 64) (_ : Nat) (_ : Nat) =>
      (s.lane x).alive = true ∧
      (s.lane x).blockFenced P.STR = false ∧
      ((s.lane x).port p.val).rxq = [(3, 8), (4, 8)] ∧
      ((s.lane x).port p.val).ovf = z)
      ((wStr 4 []).strPort fun q => { q with rxq := [(3, 8), (4, 8)], ovf := true }) .A 0 4 [] 0 (wData 4) true 5 0 2) ∧
    ((fun (s : State) (x : Lane) (p : Fin 2) (_ : Fin 64) (_ : List Byte) (_ : Int) (_ : StrFrame) (z : Bool) (_ : Fin 64) (_ : Nat) (_ : Nat) =>
      (s.lane x).alive = true ∧
      (s.lane x).blockFenced P.STR = false ∧
      ((s.lane x).port p.val).rxq = [] ∧
      ((s.lane x).port p.val).ovf = z)
      (wStr 4 []) .A 0 4 [] 0 (wData 4) false 5 0 2) ∧
    ((fun (s : State) (x : Lane) (_ : Fin 2) (_ : Fin 64) (_ : List Byte) (_ : Int) (_ : StrFrame) (z : Bool) (_ : Fin 64) (_ : Nat) (_ : Nat) =>
      (s.lane x).alive = true ∧
      (s.lane x).blockFenced P.STR = false ∧
      (s.lane x).strata.safeq = [3, 9] ∧
      (s.lane x).strata.safeOvf = z)
      ((wStr 4 []).modLane .A fun l => { l with strata := { l.strata with safeq := [3, 9] } }) .A 0 4 [] 0 (wData 4) false 5 0 2) :=
  ⟨by decide +kernel, by decide +kernel, by decide +kernel, by decide +kernel, by decide +kernel, by decide +kernel, by decide +kernel, by decide +kernel⟩

theorem test_hyps_StrataStartUpAndClock :
    ((fun (s : State) (x : Lane) (p : Fin 2) (bytes : List Byte) (f : StrFrame) (_ : Fin 8) =>
      (s.lane x).alive = true ∧
      (s.lane x).blockFenced P.STR = false ∧
      (s.lane x).portState p.val = Prt.listen ∧
      (s.lane x).strParse p.val bytes = some (f, true) ∧
      f.kind = Kind.coldstart)
      (wStr 1 []) .A 0 (wBytes (coldFrame 4 5)) { coldFrame 4 5 with crcOk := false } 0) ∧
    ((fun (s : State) (x : Lane) (p : Fin 2) (_ : List Byte) (_ : StrFrame) (_ : Fin 8) =>
      (s.lane x).alive = true ∧
      (s.lane x).blockFenced P.STR = false ∧
      (s.lane x).portState p.val = Prt.listen ∧
      (s.lane x).get (F.STR_PCTL_CSN p.val) = 1 ∧
      (s.lane x).get (F.STR_PSTAT_CSATT p.val) < 3)
      (wStr 1 [(F.STR_PCTL_CSN 0, 1)]) .A 0 [] (wData 3) 0) ∧
    ((fun (s : State) (x : Lane) (p : Fin 2) (_ : List Byte) (_ : StrFrame) (_ : Fin 8) =>
      (s.lane x).alive = true ∧
      (s.lane x).blockFenced P.STR = false ∧
      (s.lane x).portState p.val = Prt.coldstart ∧
      ((s.lane x).port p.val).cs = 0 ∧
      (s.lane x).get (F.STR_PSTAT_CSATT p.val) < 3)
      (wStr 2 []) .A 0 [] (wData 3) 0) ∧
    ((fun (s : State) (x : Lane) (p : Fin 2) (_ : List Byte) (_ : StrFrame) (_ : Fin 8) =>
      (s.lane x).alive = true ∧
      (s.lane x).blockFenced P.STR = false ∧
      (s.lane x).portState p.val = Prt.coldstart ∧
      ((s.lane x).port p.val).cs = 2)
      ((wStr 2 []).strPort fun q => { q with cs := 2 }) .A 0 [] (wData 3) 0) ∧
    ((fun (s : State) (x : Lane) (p : Fin 2) (_ : List Byte) (f : StrFrame) (_ : Fin 8) =>
      (s.lane x).alive = true ∧
      (s.lane x).blockFenced P.STR = false ∧
      (s.lane x).portState p.val = Prt.coldstart ∧
      ((s.lane x).port p.val).air = some f ∧
      f.kind = Kind.coldstart ∧
      (s.lane x).get (F.STR_PSTAT_CSATT p.val) = 3)
      ((wStr 2 [(F.STR_PSTAT_CSATT 0, 3)]).strPort fun q => { q with air := some (coldFrame 3 0) }) .A 0 [] (coldFrame 3 0) 0) ∧
    ((fun (s : State) (x : Lane) (p : Fin 2) (_ : List Byte) (_ : StrFrame) (_ : Fin 8) =>
      (s.lane x).alive = true ∧
      (s.lane x).blockFenced P.STR = false ∧
      (s.lane x).portState p.val = Prt.integrate)
      (wStr 3 []) .A 0 [] (wData 3) 0) ∧
    ((fun (s : State) (x : Lane) (p : Fin 2) (_ : List Byte) (_ : StrFrame) (_ : Fin 8) =>
      (s.lane x).alive = true ∧
      (s.lane x).blockFenced P.STR = false ∧
      (s.lane x).portState p.val = Prt.sync ∧
      (s.lane x).inCycle p.val = true ∧
      ((s.lane x).rd (R.STR_CYCCNT p.val)).toNat % 2 = 1 ∧
      ((s.lane x).port p.val).dev = [] ∧
      0 < (s.lane x).get (F.STR_SYNCCFG_SYNCMIN p.val) ∧
      (s.lane x).rd (R.STR_RTERM p.val) = 0)
      (wStr 4 [(⟨R.STR_CYCCNT 0, 0, 32⟩, 9)]) .A 0 [] (wData 3) 0) ∧
    ((fun (s : State) (x : Lane) (p : Fin 2) (_ : List Byte) (_ : StrFrame) (_ : Fin 8) =>
      (s.lane x).alive = true ∧
      (s.lane x).blockFenced P.STR = false ∧
      (s.lane x).inCycle p.val = true)
      (wStr 4 []) .A 0 [] (wData 3) 0) ∧
    ((fun (s : State) (x : Lane) (p : Fin 2) (_ : List Byte) (_ : StrFrame) (_ : Fin 8) =>
      (s.lane x).alive = true ∧
      (s.lane x).blockFenced P.STR = false ∧
      (s.lane x).portState p.val = Prt.integrate ∧
      ((s.lane x).port p.val).meas = 2 ∧
      ((s.lane x).port p.val).cond = false ∧
      ((s.lane x).rd (R.STR_CYCCNT p.val)).toNat % 2 = 1 ∧
      (s.lane x).get (F.STR_PCTL_SYNCN p.val) = 0 ∧
      (s.lane x).get (F.STR_SYNCCFG_SYNCMIN p.val) ≤ (s.lane x).bothNodes p.val)
      ((wStr 3 [(⟨R.STR_CYCCNT 0, 0, 32⟩, 9)]).strPort fun q => { q with meas := 2, dev := [(3, 5), (4, 5)], prev := [(3, 5), (4, 5)] }) .A 0 [] (wData 3) 0) ∧
    ((fun (s : State) (x : Lane) (_ : Fin 2) (_ : List Byte) (_ : StrFrame) (j : Fin 8) =>
      (s.lane x).alive = true ∧
      (s.lane x).blockFenced P.STR = false ∧
      (s.lane x).get (F.STR_CPT_EN j.val) = 1 ∧
      (s.lane x).portState ((s.lane x).get (F.STR_CPT_PORT j.val)) = Prt.sync ∧
      (s.lane x).get (F.STR_CPT_MT j.val) < (s.lane x).get (F.STR_CYCCFG_CYCLEN ((s.lane x).get (F.STR_CPT_PORT j.val))) ∧
      (s.lane x).get (F.identity (R.STR_CPMSG j.val)) = 7)
      (wStr 4 [(F.STR_CPT_EN 2, 1), (F.identity (R.STR_CPMSG 2), 7)]) .A 0 [] (wData 3) 2) :=
  ⟨by decide +kernel, by decide +kernel, by decide +kernel, by decide +kernel, by decide +kernel, by decide +kernel, by decide +kernel, by decide +kernel, by decide +kernel, by decide +kernel⟩

theorem test_hyps_CanControllers :
    ((fun (s : State) (x : Lane) (n : Fin 2) (_ : Nat) (_ : Option Nat) (_ : CanFrame) (_ : Nat) (_ : Word) =>
      (s.lane x).alive = true ∧
      (s.lane x).blockOn (P.CAN n.val) = true)
      (wCan []) .A 0 2 none wCanFrame 0 0) ∧
    ((fun (s : State) (x : Lane) (n : Fin 2) (_ : Nat) (_ : Option Nat) (_ : CanFrame) (_ : Nat) (_ : Word) =>
      (s.lane x).alive = true ∧
      (s.lane x).takes (R.CAN_TXREQ n.val) = true)
      (wCan []) .A 0 2 none wCanFrame 0 0x180) ∧
    ((fun (s : State) (x : Lane) (n : Fin 2) (_ : Nat) (_ : Option Nat) (_ : CanFrame) (_ : Nat) (_ : Word) =>
      (s.lane x).alive = true ∧
      (s.lane x).takes (R.CAN_TXABORT n.val) = true)
      (wCan []) .A 0 2 none wCanFrame 0 0x34) ∧
    ((fun (s : State) (x : Lane) (n : Fin 2) (t : Nat) (_ : Option Nat) (_ : CanFrame) (_ : Nat) (v : Word) =>
      (s.lane x).alive = true ∧
      (s.lane x).takes (R.CAN_TXABORT n.val) = true ∧
      (s.lane x).canOn n.val = true ∧
      (s.lane x).canNext n.val 0 = some t ∧
      v = BitVec.ofNat 32 (2 ^ t) ∧
      t < 8)
      (wCan []) .A 0 2 none wCanFrame 0 4) ∧
    ((fun (s : State) (x : Lane) (n : Fin 2) (t : Nat) (_ : Option Nat) (_ : CanFrame) (k : Nat) (_ : Word) =>
      (s.lane x).alive = true ∧
      (s.lane x).canOn n.val = true ∧
      (s.lane x).get (F.CAN_MODE_LISTEN n.val) = 0 ∧
      (s.lane x).get (F.CAN_MODE_LOOP n.val) = 0 ∧
      (s.lane x).canNext n.val k = some t)
      (wCan []) .A 0 2 none wCanFrame 0 0) ∧
    ((fun (s : State) (x : Lane) (n : Fin 2) (t : Nat) (_ : Option Nat) (_ : CanFrame) (k : Nat) (_ : Word) =>
      (s.lane x).alive = true ∧
      (s.lane x).canOn n.val = true ∧
      (s.lane x).get (F.CAN_MODE_LISTEN n.val) = 0 ∧
      (s.lane x).get (F.CAN_MODE_ONESHOT n.val) = 0 ∧
      (s.lane x).canNext n.val k = some t)
      (wCan []) .A 0 2 (some 8) wCanFrame 0 0) ∧
    ((fun (s : State) (x : Lane) (n : Fin 2) (_ : Nat) (_ : Option Nat) (f : CanFrame) (k : Nat) (_ : Word) =>
      (s.lane x).alive = true ∧
      (s.lane x).canOn n.val = true ∧
      (s.lane x).canFilter n.val (canIdent f) f.xtd = some k ∧
      ((s.lane x).can n.val).fifo.length < 32 ∧
      f.fdf = false)
      (wCan [(F.CAN_FID_EN 0 3, 1), (F.CAN_FID_ID 0 3, 0x240000), (F.CAN_FMASK_MASK 0 3, 0x1FFFFFFF)]) .A 0 2 none wCanFrame 3 0) ∧
    ((fun (s : State) (x : Lane) (n : Fin 2) (_ : Nat) (_ : Option Nat) (_ : CanFrame) (_ : Nat) (_ : Word) =>
      (s.lane x).alive = true ∧
      (s.lane x).takes (R.CAN_RXPOP n.val) = true)
      ((wCan []).modLane .A fun l => l.modCan 0 fun c => { c with fifo := [[5], [6]] }) .A 0 2 none wCanFrame 0 0) ∧
    ((fun (s : State) (x : Lane) (n : Fin 2) (_ : Nat) (_ : Option Nat) (_ : CanFrame) (_ : Nat) (_ : Word) =>
      (s.lane x).alive = true ∧
      (s.lane x).canOn n.val = true ∧
      (s.lane x).get (F.CAN_ECNT_TEC n.val) = 255)
      (wCan [(F.CAN_ECNT_TEC 0, 255)]) .A 0 2 none wCanFrame 0 0) ∧
    ((fun (s : State) (x : Lane) (n : Fin 2) (_ : Nat) (_ : Option Nat) (_ : CanFrame) (_ : Nat) (_ : Word) =>
      (s.lane x).alive = true ∧
      (s.lane x).blockOn (P.CAN n.val) = true ∧
      (s.lane x).get (F.CAN_MODE_ARECOV n.val) = 1 ∧
      (s.lane x).canState n.val = CanSt.busOff)
      (wCan [(F.CAN_ECNT_STATE 0, 2), (F.CAN_MODE_ARECOV 0, 1)]) .A 0 2 none wCanFrame 0 0) :=
  ⟨by decide +kernel, by decide +kernel, by decide +kernel, by decide +kernel, by decide +kernel, by decide +kernel, by decide +kernel, by decide +kernel, by decide +kernel, by decide +kernel⟩

theorem test_hyps_EthernetAndPtp :
    ((fun (s : State) (x : Lane) (_ : Word) (_ : Nat) (_ : List (BitVec 8)) (_ : Nat) (_ : Word) =>
      (s.lane x).alive = true ∧
      (s.lane x).takes R.ETH_TXPOLL = true ∧
      (s.lane x).blockOn P.ETH = true ∧
      (s.lane x).ethOwn (s.lane x).txDesc = true)
      (wEth []) .A 7 9 [] 0 0) ∧
    ((fun (s : State) (x : Lane) (_ : Word) (_ : Nat) (_ : List (BitVec 8)) (_ : Nat) (_ : Word) =>
      (s.lane x).alive = true ∧
      (s.lane x).blockOn P.ETH = true ∧
      (s.lane x).ports.eth.txOn = true ∧
      (s.lane x).uncached = true ∧
      (s.lane x).txDesc = 0x10000000 ∧
      (s.lane x).dmaWord 0x10000000 = 0x10000010 ∧
      (s.lane x).dmaWord 0x10000004 = 0x30014)
      (wEth []) .A 7 9 [] 0 0) ∧
    ((fun (s : State) (x : Lane) (_ : Word) (_ : Nat) (fr : List (BitVec 8)) (_ : Nat) (_ : Word) =>
      (s.lane x).alive = true ∧
      (s.lane x).blockOn P.ETH = true ∧
      fr.length = 64 ∧
      (s.lane x).ethMine fr = true ∧
      (s.lane x).uncached = true ∧
      (s.lane x).rxDesc = 0x10000100 ∧
      (s.lane x).dmaWord 0x10000100 = 0x10000110 ∧
      (s.lane x).dmaWord 0x10000104 = 0x10040)
      (wEth []) .A 7 9 (List.replicate 64 255) 0 0) ∧
    ((fun (s : State) (x : Lane) (_ : Word) (_ : Nat) (_ : List (BitVec 8)) (_ : Nat) (_ : Word) =>
      (s.lane x).alive = true ∧
      (s.lane x).blockOn P.ETH = true)
      (wEth []) .A 7 9 [] 0 0) ∧
    ((fun (s : State) (x : Lane) (ns : Word) (ago : Nat) (_ : List (BitVec 8)) (k : Nat) (v : Word) =>
      (s.lane x).alive = true ∧
      (s.lane x).takes R.ETH_PTPADJ = true ∧
      (s.lane x).ports.eth.frac = 0 ∧
      (s.lane x).rd R.ETH_PTPINCR = 0x08000000 ∧
      (s.lane x).rd R.ETH_PTPNS = ns ∧
      (s.lane x).ports.eth.tick ≤ ethTick s.nowUs k ∧
      ago = ethTick s.nowUs k + 1 - (s.lane x).ports.eth.tick ∧
      ns.toNat + 8 * ago + v.toNat < 1000000000 ∧
      v.toNat < 2 ^ 31)
      (wEth [(⟨R.ETH_PTPINCR, 0, 32⟩, 0x08000000), (⟨R.ETH_PTPNS, 0, 32⟩, 7)]) .A 7 1 [] 0 0) ∧
    ((fun (s : State) (x : Lane) (_ : Word) (_ : Nat) (_ : List (BitVec 8)) (k : Nat) (_ : Word) =>
      (s.lane x).alive = true ∧
      (s.lane x).blockFenced P.ETH = false ∧
      1000000000 ≤ ((s.lane x).ptpAhead (ethTick s.nowUs k)).1 ∧
      ((s.lane x).ptpAhead (ethTick s.nowUs k)).1 < 2000000000)
      (wEth [(⟨R.ETH_PTPINCR, 0, 32⟩, 0x08000000), (⟨R.ETH_PTPNS, 0, 32⟩, 999999999)]) .A 7 9 [] 1 0) ∧
    ((fun (s : State) (x : Lane) (_ : Word) (_ : Nat) (_ : List (BitVec 8)) (_ : Nat) (v : Word) =>
      (s.lane x).alive = true ∧
      (s.lane x).takes R.ETH_MDIO = true ∧
      (s.lane x).get F.ETH_MDIO_GO = 0 ∧
      v.getLsbD 15 = true ∧
      ((s.lane x).regWrite R.ETH_MDIO v).2.getLsbD 15 = true)
      (wEth []) .A 7 9 [] 0 0x8000) ∧
    ((fun (s : State) (x : Lane) (_ : Word) (_ : Nat) (_ : List (BitVec 8)) (_ : Nat) (_ : Word) =>
      (s.lane x).alive = true ∧
      (s.lane x).blockFenced P.ETH = false ∧
      (s.lane x).get F.ETH_MDIO_GO = 1 ∧
      (s.lane x).get F.ETH_MDIO_WRITE = 0)
      (wEth [(F.ETH_MDIO_GO, 1)]) .A 7 9 [] 0 0) :=
  ⟨by decide +kernel, by decide +kernel, by decide +kernel, by decide +kernel, by decide +kernel, by decide +kernel, by decide +kernel, by decide +kernel⟩

theorem test_hyps_SafetyEvaluators :
    ((fun (s : State) (e : Fin 8) (_ : Fin 8) (_ : Lane) (a : Half) (_ : Half) (_ : Nat) (_ : Bool) =>
      s.bedrockRuns = true ∧
      s.bed.get (F.BSAFE_EVCFG_TYPE e.val) = 1 ∧
      s.evState e.val = 4 ∧
      s.bed.get F.BSYS_BCFG_LOADED = 1 ∧
      s.bed.safety.windows = [] ∧
      a.getLsbD (s.bed.get (F.BSAFE_EVCFG_INP0 e.val)) = false)
      (wSafe 1 4 []) 3 2 .A 0 0 40000 false) ∧
    ((fun (s : State) (_ : Fin 8) (_ : Fin 8) (_ : Lane) (_ : Half) (_ : Half) (_ : Nat) (_ : Bool) =>
      s.bedrockRuns = true ∧
      s.bed.get F.BSYS_BCFG_LOADED = 0 ∧
      s.bed.safety.windows = [])
      (wSafe 1 4 [(F.BSYS_BCFG_LOADED, 0)]) 3 2 .A 0 0 40000 false) ∧
    ((fun (s : State) (e : Fin 8) (_ : Fin 8) (_ : Lane) (_ : Half) (_ : Half) (_ : Nat) (z : Bool) =>
      s.bedrockRuns = true ∧
      s.bed.get F.BSYS_BCFG_LOADED = 1 ∧
      s.discrepant e.val z = true ∧
      1 ≤ s.evState e.val ∧
      s.evState e.val ≤ 4)
      (wSafe 1 4 [(F.BSAFE_SISTAT_A 5, 1)]) 3 2 .A 0 0 40000 false) ∧
    ((fun (s : State) (e : Fin 8) (_ : Fin 8) (_ : Lane) (_ : Half) (_ : Half) (_ : Nat) (_ : Bool) =>
      s.bedrockRuns = true ∧
      s.bed.get F.BSYS_BCFG_LOADED = 1 ∧
      s.evType e.val = 4 ∧
      s.evState e.val = 4 ∧
      s.siA (s.bed.get (F.BSAFE_EVCFG_INP0 e.val)) = false)
      (wSafe 4 4 []) 3 2 .A 0 0 40000 false) ∧
    ((fun (s : State) (e : Fin 8) (_ : Fin 8) (_ : Lane) (_ : Half) (_ : Half) (_ : Nat) (_ : Bool) =>
      s.bedrockRuns = true ∧
      s.bed.get F.BSYS_BCFG_LOADED = 1 ∧
      s.evType e.val = 3 ∧
      s.evState e.val = 2 ∧
      s.pressed e.val false = true ∧
      s.pressed e.val true = false)
      (wSafe 3 2 [(F.BSAFE_SISTAT_A 5, 1)]) 3 2 .A 0 0 40000 false) ∧
    ((fun (s : State) (e : Fin 8) (k : Fin 8) (x : Lane) (_ : Half) (_ : Half) (_ : Nat) (_ : Bool) =>
      s.bedrockRuns = true ∧
      s.bed.get (F.joined x) = 1 ∧
      s.bed.get F.BSAFE_PSTAT_DMD / 2 ^ k.val % 2 = 1 ∧
      s.bed.get F.BSAFE_SOSTAT_HWDMD / 2 ^ k.val % 2 = 0 ∧
      s.bed.get (F.BSAFE_EVOUT_OUTMASK e.val) / 2 ^ k.val % 2 = 1 ∧
      1 ≤ s.evState e.val ∧
      s.evState e.val ≤ 4)
      (wSafe 1 4 [(F.joined .A, 1), (F.BSAFE_PSTAT_DMD, 4)]) 3 2 .A 0 0 40000 false) ∧
    ((fun (s : State) (e : Fin 8) (k : Fin 8) (_ : Lane) (_ : Half) (_ : Half) (_ : Nat) (_ : Bool) =>
      s.bedrockRuns = true ∧
      s.bed.get F.BSAFE_SOSTAT_CMD / 2 ^ k.val % 2 = 1 ∧
      s.bed.get F.BSAFE_SOTCFG_SOTPER ≠ 0 ∧
      s.bed.get (F.BSAFE_EVOUT_OUTMASK e.val) / 2 ^ k.val % 2 = 1 ∧
      1 ≤ s.evState e.val ∧
      s.evState e.val ≤ 4)
      (wSafe 1 4 [(F.BSAFE_SOSTAT_CMD, 4), (F.BSAFE_SOTCFG_SOTPER, 1)]) 3 2 .A 0 0 40000 false) ∧
    ((fun (s : State) (_ : Fin 8) (_ : Fin 8) (_ : Lane) (_ : Half) (_ : Half) (_ : Nat) (_ : Bool) =>
      s.bedrockRuns = true)
      (wSafe 1 4 []) 3 2 .A 0 0 40000 false) ∧
    ((fun (s : State) (e : Fin 8) (k : Fin 8) (_ : Lane) (_ : Half) (_ : Half) (_ : Nat) (_ : Bool) =>
      s.bedrockRuns = true ∧
      s.bed.get F.BSAFE_SOSTAT_CMD / 2 ^ k.val % 2 = 0 ∧
      s.bed.get (F.BSAFE_EVOUT_OUTMASK e.val) / 2 ^ k.val % 2 = 1 ∧
      1 ≤ s.evState e.val ∧
      s.evState e.val ≤ 4)
      (wSafe 1 4 []) 3 2 .A 0 0 40000 false) :=
  ⟨by decide +kernel, by decide +kernel, by decide +kernel, by decide +kernel, by decide +kernel, by decide +kernel, by decide +kernel, by decide +kernel, by decide +kernel⟩

theorem test_hyps_SafetyPulsesAndPath :
    ((fun (s : State) (_ : Fin 8) (k : Fin 8) (_ : Lane) (_ : Half) (_ : Half) (_ : Nat) =>
      s.bedrockRuns = true ∧
      s.bed.get F.BSAFE_TPCFG_TPEN / 2 ^ k.val % 2 = 1 ∧
      s.bed.get F.BSYS_BCFG_LOADED = 1)
      (wSafe 1 4 [(F.BSAFE_TPCFG_TPEN, 4)]) 3 2 .A 0 0 40000) ∧
    ((fun (s : State) (_ : Fin 8) (k : Fin 8) (_ : Lane) (_ : Half) (_ : Half) (_ : Nat) =>
      s.bedrockRuns = true ∧
      s.bed.get F.BSYS_BCFG_LOADED = 1 ∧
      k.val ∈ s.bed.safety.windows ∧
      Table.get (fun _ => 0) s.bed.safety.tpPre k.val = 0)
      ((wSafe 1 4 [(F.BSAFE_TPCFG_TPEN, 4)]).modSafety fun f => { f with windows := [2] }) 3 2 .A 0 0 40000) ∧
    ((fun (s : State) (e : Fin 8) (k : Fin 8) (_ : Lane) (a : Half) (_ : Half) (_ : Nat) =>
      s.bedrockRuns = true ∧
      s.bed.get F.BSYS_BCFG_LOADED = 1 ∧
      k.val ∈ s.bed.safety.windows ∧
      s.tpSel (s.bed.get (F.BSAFE_EVCFG_INP0 e.val)) false = k.val + 1 ∧
      Table.get (fun _ => 0) s.bed.safety.tpPre k.val = 0xFFFF ∧
      a.getLsbD (s.bed.get (F.BSAFE_EVCFG_INP0 e.val)) = true ∧
      s.evType e.val ≠ 0 ∧
      1 ≤ s.evState e.val ∧
      s.evState e.val ≤ 4)
      ((wSafe 1 4 [(F.BSAFE_TPCFG_TPEN, 4), (F.BSAFE_SICFG_TPSELA 5, 3)]).modSafety fun f => { f with windows := [2], tpPre := [(2, 0xFFFF)] }) 3 2 .A 0xFFFF 0 40000) ∧
    ((fun (s : State) (e : Fin 8) (_ : Fin 8) (_ : Lane) (_ : Half) (_ : Half) (n : Nat) =>
      s.bedrockRuns = true ∧
      s.bed.get F.BSYS_BCFG_LOADED = 1 ∧
      s.devState ≠ Dev.safe ∧
      s.evType e.val ≠ 0 ∧
      s.evState e.val = 3 ∧
      s.runCond e.val = true ∧
      s.bed.get (F.BSAFE_EVCFG_RSTSRC e.val) = 0 ∧
      Table.get (fun _ => none) s.bed.safety.rises 0 = some 100 ∧
      30100 ≤ n ∧
      n ≤ 300100)
      ((wSafe 1 3 [(F.BSAFE_SISTAT_A 5, 1), (F.BSAFE_SISTAT_B 5, 1), (F.BSAFE_EVCFG_RSTSRC 3, 0)]).modSafety fun f => { f with rises := [(0, some 100)] }) 3 2 .A 0 0 40000) ∧
    ((fun (s : State) (_ : Fin 8) (_ : Fin 8) (_ : Lane) (_ : Half) (_ : Half) (n : Nat) =>
      s.bedrockRuns = true ∧
      s.bed.get F.BSYS_BCFG_LOADED = 1 ∧
      Table.get (fun _ => none) s.bed.safety.rises 0 = some 100 ∧
      n < 30100)
      ((wSafe 1 3 []).modSafety fun f => { f with rises := [(0, some 100)] }) 3 2 .A 0 0 4000) ∧
    ((fun (s : State) (_ : Fin 8) (_ : Fin 8) (x : Lane) (a : Half) (b : Half) (_ : Nat) =>
      s.bedrockRuns = true ∧
      s.laneStatus x = Stat.up ∧
      (s.lane x).alive = true ∧
      b = ~~~a)
      (wSafe 1 3 []) 3 2 .A 0x1234 0xEDCB 4000) ∧
    ((fun (s : State) (_ : Fin 8) (_ : Fin 8) (x : Lane) (a : Half) (b : Half) (_ : Nat) =>
      s.bedrockRuns = true ∧
      (s.lane x).alive = true ∧
      b ≠ ~~~a)
      (wSafe 1 3 []) 3 2 .A 0x1234 0 4000) ∧
    ((fun (s : State) (_ : Fin 8) (_ : Fin 8) (x : Lane) (_ : Half) (_ : Half) (_ : Nat) =>
      s.bedrockRuns = true ∧
      s.bed.get (F.cur x) = 1 ∧
      s.bed.get (F.joined x) = 1)
      (wSafe 1 4 [(F.cur .A, 1), (F.joined .A, 1)]) 3 2 .A 0 0 40000) ∧
    ((fun (s : State) (_ : Fin 8) (k : Fin 8) (_ : Lane) (_ : Half) (_ : Half) (_ : Nat) =>
      s.bedrockRuns = true ∧
      s.bed.get (F.joined .A) = 1 ∧
      s.bed.get (F.joined .B) = 1 ∧
      s.bed.safety.pathA.dmd / 2 ^ k.val % 2 ≠ s.bed.get F.BSAFE_SOSTAT_HWDMD / 2 ^ k.val % 2 ∧
      s.bed.safety.pathB.dmd / 2 ^ k.val % 2 = s.bed.get F.BSAFE_SOSTAT_HWDMD / 2 ^ k.val % 2)
      ((wSafe 1 4 [(F.joined .A, 1), (F.joined .B, 1)]).modSafety fun f => { f with pathA := ⟨4, 0, true, true⟩ }) 3 2 .A 0 0 40000) :=
  ⟨by decide +kernel, by decide +kernel, by decide +kernel, by decide +kernel, by decide +kernel, by decide +kernel, by decide +kernel, by decide +kernel, by decide +kernel⟩

theorem test_hyps_WakePortAndPins :
    ((fun (s : State) (x : Lane) (_ : Fin 16) (_ : BitVec 8) (_ : List (BitVec 8)) (ad : BitVec 7) (_ : Word) (_ : Bool) (_ : Nat) =>
      (s.lane x).wakeOn ad.toNat = true ∧
      (s.lane x).alive = true ∧
      (s.lane x).parked = false ∧
      (s.lane x).power.entry = 0 ∧
      (s.lane x).pstate = 0)
      ((wFeed []).lput [(F.WAKE_WCFG_EN, 1), (F.WAKE_WCFG_ADDR, 9)]) .A 2 7 [] 9 0 true 5000) ∧
    ((fun (s : State) (x : Lane) (_ : Fin 16) (_ : BitVec 8) (_ : List (BitVec 8)) (ad : BitVec 7) (_ : Word) (_ : Bool) (_ : Nat) =>
      (s.lane x).wakeOn ad.toNat = true)
      ((wFeed []).lput [(F.WAKE_WCFG_EN, 1), (F.WAKE_WCFG_ADDR, 9)]) .A 2 7 [] 9 0 true 5000) ∧
    ((fun (s : State) (x : Lane) (k : Fin 16) (_ : BitVec 8) (_ : List (BitVec 8)) (_ : BitVec 7) (_ : Word) (_ : Bool) (held : Nat) =>
      (s.lane x).alive = true ∧
      (s.lane x).blockFenced P.GPIO = false ∧
      (s.lane x).get F.GPIO_GCFG_FLT ≤ held ∧
      (s.lane x).ports.gpioSeen / 2 ^ k.val % 2 = 0 ∧
      (s.lane x).ports.gpio / 2 ^ k.val % 2 = 0)
      wLive .A 2 7 [] 9 0 true 5000) ∧
    ((fun (s : State) (x : Lane) (_ : Fin 16) (_ : BitVec 8) (_ : List (BitVec 8)) (_ : BitVec 7) (_ : Word) (_ : Bool) (_ : Nat) =>
      (s.lane x).takes R.GPIO_GOUTSET = true)
      wLive .A 2 7 [] 9 0 true 5000) ∧
    ((fun (s : State) (x : Lane) (_ : Fin 16) (_ : BitVec 8) (_ : List (BitVec 8)) (_ : BitVec 7) (_ : Word) (_ : Bool) (_ : Nat) =>
      (s.lane x).takes R.GPIO_GOUTCLR = true)
      wLive .A 2 7 [] 9 0 true 5000) ∧
    ((fun (s : State) (x : Lane) (_ : Fin 16) (_ : BitVec 8) (_ : List (BitVec 8)) (_ : BitVec 7) (_ : Word) (_ : Bool) (_ : Nat) =>
      (s.lane x).alive = true)
      wLive .A 2 7 [] 9 0 true 5000) :=
  ⟨by decide +kernel, by decide +kernel, by decide +kernel, by decide +kernel, by decide +kernel, by decide +kernel⟩

theorem test_hyps_PowerStateEntries :
    ((fun (s : State) (x : Lane) (_ : Agent) (_ : Nat) (_ : Nat) (_ : Nat) =>
      (s.lane x).alive = true ∧
      s.devState ≠ Dev.drive ∧
      ((s.lane x).notWfi).isSome = true ∧
      (s.lane x).power.entry = 0 ∧
      (s.lane x).pstate = PSt.run)
      (wPwr [] id) .A .xfr 0 0 2) ∧
    ((fun (s : State) (x : Lane) (_ : Agent) (_ : Nat) (_ : Nat) (_ : Nat) =>
      (s.lane x).alive = true ∧
      (s.lane x).parkRefuser = none ∧
      ((s.lane x).notWfi).isSome = true ∧
      (s.lane x).power.entry = 0 ∧
      (s.lane x).pstate = PSt.run)
      (wPwr [(F.PWR_PSTAT_CONSENT, 1)] id) .A .xfr 0 0 2) ∧
    ((fun (s : State) (x : Lane) (_ : Agent) (n : Nat) (_ : Nat) (_ : Nat) =>
      (s.lane x).alive = true ∧
      (s.lane x).parkRefuser = some n ∧
      n < 2 ^ 24 ∧
      (s.lane x).power.entry = 0 ∧
      (s.lane x).pstate = PSt.run)
      (wPwr [(F.PWR_PSTAT_CONSENT, 0)] id) .A .xfr 0xFF0100 0 2) ∧
    ((fun (s : State) (x : Lane) (_ : Agent) (_ : Nat) (_ : Nat) (_ : Nat) =>
      (s.lane x).alive = true ∧
      (s.lane x).pstate = PSt.doze ∧
      (s.lane x).power.entry = 0)
      (wPwr [(F.PWR_PSTAT_STATE, 1)] id) .A .xfr 0 0 2) ∧
    ((fun (s : State) (x : Lane) (_ : Agent) (_ : Nat) (_ : Nat) (p : Nat) =>
      (s.lane x).notWfi = some p ∧
      p < 4 ∧
      ((s.lane x).power.entry = 1 ∨ (s.lane x).power.entry = 2))
      (wPwr [] fun p => { p with entry := 1 }) .A .xfr 0 0 0) ∧
    ((fun (s : State) (x : Lane) (_ : Agent) (_ : Nat) (_ : Nat) (_ : Nat) =>
      (s.lane x).pstate = PSt.doze)
      (wPwr [(F.PWR_PSTAT_STATE, 1)] id) .A .xfr 0 0 2) ∧
    ((fun (s : State) (x : Lane) (_ : Agent) (_ : Nat) (_ : Nat) (_ : Nat) =>
      ((s.lane x).power.entry = 1 ∨ (s.lane x).power.entry = 2))
      (wPwr [] fun p => { p with entry := 2 }) .A .xfr 0 0 2) ∧
    ((fun (s : State) (x : Lane) (_ : Agent) (_ : Nat) (_ : Nat) (_ : Nat) =>
      s.mayPark = true ∧
      s.laneStatus x = Stat.up)
      wGrant .A .xfr 0 0 2) ∧
    ((fun (s : State) (_ : Lane) (_ : Agent) (_ : Nat) (_ : Nat) (_ : Nat) =>
      s.devState = Dev.parked ∧
      s.a.power.wakeStep = 0 ∧
      s.b.power.wakeStep = 0)
      (wLive.bputs [(F.BSYS_DEVSTAT_DEVSTATE, 4)]) .A .xfr 0 0 2) :=
  ⟨by decide +kernel, by decide +kernel, by decide +kernel, by decide +kernel, by decide +kernel, by decide +kernel, by decide +kernel, by decide +kernel, by decide +kernel⟩

theorem test_hyps_WakesAndClocks :
    ((fun (s : State) (x : Lane) (ss : Fin 8) (_ : Fin 12) (_ : Bool) (_ : Nat) =>
      (s.lane x).parked = true ∧
      (s.lane x).get F.PWR_WAKEEN_EN / 2 ^ ss.val % 2 = 1 ∧
      (s.lane x).power.wakeStep = 0)
      (wPark 0 [(F.PWR_WAKEEN_EN, 255)]) .A 0 3 false 2) ∧
    ((fun (s : State) (x : Lane) (_ : Fin 8) (_ : Fin 12) (_ : Bool) (_ : Nat) =>
      (s.lane x).parked = true ∧
      (s.lane x).get F.PWR_WAKEEN_EN / 2 ^ 5 % 2 = 1 ∧
      (s.lane x).power.wakeStep = 0)
      (wPark 0 [(F.PWR_WAKEEN_EN, 255)]) .A 0 3 false 2) ∧
    ((fun (s : State) (x : Lane) (_ : Fin 8) (_ : Fin 12) (_ : Bool) (_ : Nat) =>
      (s.lane x).parked = true ∧
      (s.lane x).power.wakeStep = 2)
      (wPark 2 []) .A 0 3 false 2) ∧
    ((fun (s : State) (x : Lane) (_ : Fin 8) (_ : Fin 12) (_ : Bool) (_ : Nat) =>
      (s.lane x).parked = true ∧
      (s.lane x).power.wakeStep = 3)
      (wPark 3 []) .A 0 3 false 2) ∧
    ((fun (s : State) (x : Lane) (_ : Fin 8) (_ : Fin 12) (_ : Bool) (_ : Nat) =>
      (s.lane x).parked = true ∧
      (s.lane x).power.wakeStep = 4)
      (wPark 4 []) .A 0 3 false 2) ∧
    ((fun (s : State) (x : Lane) (_ : Fin 8) (_ : Fin 12) (_ : Bool) (_ : Nat) =>
      (s.lane x).alive = true ∧
      (s.lane x).get F.CLK_CLKSTAT_XTALFB = 0 ∧
      (s.lane x).get (F.FLT_SSTAT_LIVE 10) = 0)
      wLive .A 0 3 false 2) ∧
    ((fun (s : State) (x : Lane) (_ : Fin 8) (_ : Fin 12) (_ : Bool) (_ : Nat) =>
      (s.lane x).parked = true ∧
      (s.lane x).power.wakeStep = 5 ∧
      (s.lane x).power.retainNone = true ∧
      (s.lane x).power.feedUv = false ∧
      (s.lane x).power.held = false)
      (wPwr [] fun p => { p with railsOff := true, wakeStep := 5, retainNone := true, feedUv := false }) .A 0 3 false 2) ∧
    ((fun (s : State) (x : Lane) (_ : Fin 8) (k : Fin 12) (_ : Bool) (_ : Nat) =>
      (s.lane x).alive = true ∧
      1 ≤ k.val ∧
      k.val ≤ 9)
      wLive .A 0 3 false 2) ∧
    ((fun (s : State) (x : Lane) (_ : Fin 8) (_ : Fin 12) (_ : Bool) (_ : Nat) =>
      (s.lane x).takes R.PWR_RSTCMD = true)
      wLive .A 0 3 false 2) ∧
    ((fun (s : State) (x : Lane) (_ : Fin 8) (_ : Fin 12) (_ : Bool) (_ : Nat) =>
      (s.lane x).takes R.PWR_RSTCMD = true ∧
      (s.lane x).uncached = true)
      wLive .A 0 3 false 2) :=
  ⟨by decide +kernel, by decide +kernel, by decide +kernel, by decide +kernel, by decide +kernel, by decide +kernel, by decide +kernel, by decide +kernel, by decide +kernel, by decide +kernel⟩

theorem test_hyps_OperatingPoints :
    ((fun (s : State) (x : Lane) (n : Nat) (v : Word) (_ : Fin 32) =>
      (s.lane x).alive = true ∧
      (s.lane x).blockFenced R.CLK_CORECLK = false ∧
      v = BitVec.ofNat 32 n ∧
      n < 4 ∧
      (s.lane x).get F.PWR_COREV_VSEL ≤ n ∧
      (s.lane x).get F.PWR_VSTAT_SETTLED = 1)
      (wLive.lput [(F.PWR_VSTAT_SETTLED, 1), (F.PWR_COREV_VSEL, 1)]) .A 2 2 0) ∧
    ((fun (s : State) (x : Lane) (n : Nat) (v : Word) (_ : Fin 32) =>
      (s.lane x).alive = true ∧
      (s.lane x).blockFenced R.CLK_CORECLK = false ∧
      v = BitVec.ofNat 32 n ∧
      n < 4 ∧
      n < (s.lane x).get F.PWR_COREV_VSEL)
      (wLive.lput [(F.PWR_VSTAT_SETTLED, 1), (F.PWR_COREV_VSEL, 3)]) .A 2 2 0) ∧
    ((fun (s : State) (x : Lane) (n : Nat) (v : Word) (_ : Fin 32) =>
      (s.lane x).alive = true ∧
      (s.lane x).blockFenced R.PWR_COREV = false ∧
      v = BitVec.ofNat 32 n ∧
      n < 4 ∧
      n ≤ (s.lane x).get F.CLK_CORECLK_FSEL ∧
      (s.lane x).get F.PWR_VSTAT_SETTLED = 1)
      (wLive.lput [(F.PWR_VSTAT_SETTLED, 1), (F.CLK_CORECLK_FSEL, 3)]) .A 2 2 0) ∧
    ((fun (s : State) (x : Lane) (_ : Nat) (_ : Word) (_ : Fin 32) =>
      (s.lane x).alive = true ∧
      (s.lane x).get F.PWR_VSTAT_SETTLED = 0)
      (wLive.lput [(F.PWR_VSTAT_SETTLED, 0)]) .A 2 2 0) ∧
    ((fun (s : State) (x : Lane) (_ : Nat) (_ : Word) (_ : Fin 32) =>
      (s.lane x).alive = true ∧
      (s.lane x).get F.CLK_CLKSTAT_FBUSY = 1)
      (wLive.lput [(F.CLK_CLKSTAT_FBUSY, 1)]) .A 2 2 0) ∧
    ((fun (s : State) (x : Lane) (_ : Nat) (v : Word) (_ : Fin 32) =>
      (s.lane x).alive = true ∧
      v.toNat % 256 = 0xA5 ∧
      (s.lane x).takes R.PWR_PEERWAKE = true ∧
      (s.lane x.peer).parked = true ∧
      (s.lane x.peer).get F.PWR_WAKEEN_EN / 2 ^ 7 % 2 = 1 ∧
      (s.lane x.peer).power.wakeStep = 0)
      { wLive with b := (wPark 0 [(F.PWR_WAKEEN_EN, 255)]).a } .A 2 0xA5 0) ∧
    ((fun (s : State) (x : Lane) (_ : Nat) (v : Word) (i : Fin 32) =>
      (s.lane x).alive = true ∧
      (s.lane x).blockFenced R.PWR_LOSTBANK_L = false ∧
      v = BitVec.ofNat 32 (2 ^ i.val) ∧
      (s.lane x).fencedBy (.bank i.val) = false)
      (wLive.lput [(⟨R.PWR_LOSTBANK_L, 0, 32⟩, 6)]) .A 2 2 1) :=
  ⟨by decide +kernel, by decide +kernel, by decide +kernel, by decide +kernel, by decide +kernel, by decide +kernel, by decide +kernel⟩

set_option maxRecDepth 100000 in
theorem test_hyps_StartUpOfALane :
    ((fun (s : State) (x : Lane) (_ : Nat) =>
      (s.lane x).power.held = true ∧
      (s.lane x).power.feedOn = true ∧
      (s.lane x).power.feedUv = true ∧
      (s.lane x).power.tst = false ∧
      (s.lane x).power.kilnWire = false ∧
      (s.lane x).power.railsOff = false ∧
      (s.lane x).power.boot = .none ∧
      krecState (s.lane x).krec = KSt.stale ∧
      (s.lane x).get F.PWR_RSTCAUSE_KIND = Rst.warm)
      (wHeld 5 3) .A 2) ∧
    ((fun (s : State) (x : Lane) (_ : Nat) =>
      (s.lane x).power.held = true ∧
      (s.lane x).power.feedOn = true ∧
      (s.lane x).power.feedUv = true ∧
      (s.lane x).power.tst = false ∧
      (s.lane x).power.kilnWire = false ∧
      (s.lane x).power.railsOff = false ∧
      (s.lane x).power.boot = .none ∧
      krecState (s.lane x).krec = KSt.failed ∧
      (s.lane x).get F.PWR_RSTCAUSE_KIND = Rst.lane)
      (wHeld 4 2) .A 2) ∧
    ((fun (s : State) (_ : Lane) (_ : Nat) =>
      s.bed.grant = none ∧
      s.bedrockRuns = true ∧
      s.bed.get F.BSYS_BCFG_LOADED = 0 ∧
      s.a.boot = .load ∧
      s.laneStatus .A = Stat.boot ∧
      s.a.mySections s.a.slotApplied Sec.bedrock ≠ [] ∧
      s.a.bedrockEntries = [])
      (wBoot .load []) .A 2) ∧
    ((fun (s : State) (x : Lane) (_ : Nat) =>
      s.bed.grant = some x ∧
      s.bedrockRuns = true ∧
      (s.lane x).boot = .load ∧
      s.laneStatus x = Stat.boot)
      ((wBoot .load []).modBed fun b => { b with grant := some .A }) .A 2) ∧
    ((fun (s : State) (x : Lane) (_ : Nat) =>
      s.bed.grant = some x ∧
      s.laneStatus x = Stat.lost ∧
      (s.lane x.peer).boot ≠ .load)
      (((wBoot .complete [(F.BLEASE_LCFG_BRIDGES 3, 7)]).bputs [(F.status .A, 3)]).modBed (fun b => { b with grant := some .A })) .A 2) ∧
    ((fun (s : State) (x : Lane) (c : Nat) =>
      (s.lane x).power.railsOff = false ∧
      (s.lane x).boot = .failed c ∧
      1 ≤ c ∧
      c ≤ 4)
      (wBoot (.failed 2) []) .A 2) ∧
    ((fun (s : State) (x : Lane) (_ : Nat) =>
      (s.lane x).power.railsOff = false ∧
      (s.lane x).boot = .load)
      (wBoot .load []) .A 2) :=
  ⟨by decide +kernel, by decide +kernel, by decide +kernel, by decide +kernel, by decide +kernel, by decide +kernel, by decide +kernel⟩

theorem test_hyps_MramAndKiln :
    ((fun (s : State) (x : Lane) (_ : Nat) (_ : Nat) (_ : Word) (a : Nat) =>
      (s.lane x).takes R.SYS_MPCMD = true ∧
      (s.lane x).get F.SYS_MPSTAT_BUSY = 0 ∧
      (s.lane x).get F.SYS_MPADDR_ADDR = a ∧
      0x2000 ≤ a ∧
      a % 8 = 0 ∧
      a + 8 ≤ 0x1000000 ∧
      (s.lane x).mramRefuses a = false)
      (wLive.lput [(F.SYS_MPADDR_ADDR, 0x3000), (⟨R.SYS_MPDATA_L, 0, 32⟩, 7)]) .A 0 0 0 0x3000) ∧
    ((fun (s : State) (x : Lane) (_ : Nat) (_ : Nat) (_ : Word) (a : Nat) =>
      (s.lane x).takes R.SYS_MPCMD = true ∧
      (s.lane x).get F.SYS_MPSTAT_BUSY = 0 ∧
      (s.lane x).get F.SYS_MPADDR_ADDR = a ∧
      (s.lane x).mramRefuses a = true)
      (wLive.lput [(F.SYS_MPADDR_ADDR, 0x1008)]) .A 0 0 0 0x1008) ∧
    ((fun (s : State) (x : Lane) (_ : Nat) (_ : Nat) (_ : Word) (_ : Nat) =>
      (s.lane x).alive = true ∧
      (s.lane x).get F.SYS_MPSTAT_BUSY = 1)
      (wLive.lput [(F.SYS_MPSTAT_BUSY, 1)]) .A 0 0 0 0) ∧
    ((fun (s : State) (x : Lane) (_ : Nat) (_ : Nat) (_ : Word) (_ : Nat) =>
      (s.lane x).get F.KILN_KSTAT_STATE ≠ 0 ∧
      (s.lane x).power.kilnFail = none)
      (wLive.lput [(F.KILN_KSTAT_STATE, 2)]) .A 0 0 0 0) ∧
    ((fun (s : State) (x : Lane) (_ : Nat) (_ : Nat) (_ : Word) (_ : Nat) =>
      (s.lane x).get F.KILN_KSTAT_STATE ≠ 0 ∧
      (s.lane x).power.kilnFail = none)
      (wLive.lput [(F.KILN_KSTAT_STATE, 2)]) .A 0 0 5 0) ∧
    ((fun (s : State) (x : Lane) (_ : Nat) (k : Nat) (_ : Word) (_ : Nat) =>
      (s.lane x).get F.KILN_KSTAT_STATE ≠ 0 ∧
      (s.lane x).power.entry = 3 ∧
      (s.lane x).power.kilnFail = none ∧
      (s.lane x).get F.KILN_KSTAT_SLICE = k ∧
      k < 63)
      ((wLive.lput [(F.KILN_KSTAT_STATE, 2), (F.KILN_KSTAT_SLICE, 9)]).modLane .A fun l => { l with power := { l.power with entry := 3 } }) .A 700 9 0 0) ∧
    ((fun (s : State) (x : Lane) (_ : Nat) (k : Nat) (m : Word) (_ : Nat) =>
      (s.lane x).get F.KILN_KSTAT_STATE ≠ 0 ∧
      (s.lane x).power.entry = 3 ∧
      (s.lane x).power.kilnFail = some m ∧
      (s.lane x).get F.KILN_KSTAT_SLICE = k)
      ((wLive.lput [(F.KILN_KSTAT_STATE, 2), (F.KILN_KSTAT_SLICE, 9)]).modLane .A fun l => { l with power := { l.power with entry := 3, kilnFail := some 5 } }) .A 700 9 5 0) :=
  ⟨by decide +kernel, by decide +kernel, by decide +kernel, by decide +kernel, by decide +kernel, by decide +kernel, by decide +kernel⟩

theorem test_hyps_LaneFaultEvents :
    ((fun (s : State) (x : Lane) (k : BitVec 8) (_ : Nat) (_ : Bool) (_ : Nat) =>
      (s.lane x).alive = true ∧
      (s.lane x).get F.KILN_KSTAT_STATE = 0 ∧
      outerLasting k.toNat = false ∧
      srcReserved k.toNat = false ∧
      (s.lane x).get (F.FLT_SSTAT_MASKED k.toNat) = 0 ∧
      (s.lane x).opener k.toNat = none ∧
      (s.lane x).get (F.FLT_SRCCFG_ESC k.toNat) = 0 ∧
      (s.lane x).get (F.FLT_SRCCFG_CNTN k.toNat) = 0 ∧
      (s.lane x).get (F.FLT_SRCCFG_SEV k.toNat) ≤ Sev.warn)
      (wLive.lput [(F.FLT_SRCCFG_CNTN 37, 0), (F.FLT_SRCCFG_SEV 37, 1)]) .A 37 0 false 0) ∧
    ((fun (s : State) (x : Lane) (k : BitVec 8) (_ : Nat) (_ : Bool) (o : Nat) =>
      (s.lane x).alive = true ∧
      (s.lane x).get F.KILN_KSTAT_STATE = 0 ∧
      outerLasting k.toNat = false ∧
      srcReserved k.toNat = false ∧
      (s.lane x).get (F.FLT_SSTAT_MASKED k.toNat) = 0 ∧
      (s.lane x).opener k.toNat = some o)
      (wLive.modLane .A fun l => { l with col := { l.col with shadows := [38] } }) .A 37 0 false 38) ∧
    ((fun (s : State) (x : Lane) (k : BitVec 8) (_ : Nat) (_ : Bool) (_ : Nat) =>
      (s.lane x).alive = true ∧
      (s.lane x).get F.KILN_KSTAT_STATE = 0 ∧
      outerLasting k.toNat = false ∧
      (s.lane x).get (F.FLT_SSTAT_MASKED k.toNat) = 1)
      (wLive.lput [(F.FLT_SSTAT_MASKED 37, 1)]) .A 37 0 false 0) ∧
    ((fun (s : State) (x : Lane) (k : BitVec 8) (_ : Nat) (_ : Bool) (_ : Nat) =>
      (s.lane x).alive = true ∧
      (s.lane x).get F.KILN_KSTAT_STATE = 0 ∧
      outerLasting k.toNat = false ∧
      srcReserved k.toNat = false ∧
      (s.lane x).get (F.FLT_SSTAT_MASKED k.toNat) = 0 ∧
      (s.lane x).opener k.toNat = none ∧
      (s.lane x).get (F.FLT_SRCCFG_ESC k.toNat) = 0 ∧
      (s.lane x).get (F.FLT_SRCCFG_CNTN k.toNat) = 0 ∧
      k = 95 ∧
      (s.lane x).get (F.FLT_SRCCFG_SEV k.toNat) = Sev.fence)
      (wLive.lput [(F.FLT_SRCCFG_CNTN 95, 0), (F.FLT_SRCCFG_SEV 95, 2)]) .A 95 0 false 0) ∧
    ((fun (s : State) (x : Lane) (k : BitVec 8) (_ : Nat) (_ : Bool) (_ : Nat) =>
      (s.lane x).alive = true ∧
      (s.lane x).get F.KILN_KSTAT_STATE = 0 ∧
      outerLasting k.toNat = false ∧
      srcReserved k.toNat = false ∧
      (s.lane x).get (F.FLT_SSTAT_MASKED k.toNat) = 0 ∧
      (s.lane x).opener k.toNat = none ∧
      (s.lane x).get (F.FLT_SRCCFG_ESC k.toNat) = 0 ∧
      (s.lane x).get (F.FLT_SRCCFG_CNTN k.toNat) = 0 ∧
      (s.lane x).get (F.FLT_SRCCFG_SEV k.toNat) = Sev.laneDown)
      (wLive.lput [(F.FLT_SRCCFG_CNTN 37, 0), (F.FLT_SRCCFG_SEV 37, 3)]) .A 37 0 false 0) ∧
    ((fun (s : State) (x : Lane) (k : BitVec 8) (_ : Nat) (_ : Bool) (_ : Nat) =>
      (s.lane x).alive = true ∧
      (s.lane x).get F.KILN_KSTAT_STATE = 0 ∧
      outerLasting k.toNat = false ∧
      srcReserved k.toNat = false ∧
      (s.lane x).get (F.FLT_SSTAT_MASKED k.toNat) = 0 ∧
      (s.lane x).opener k.toNat = none ∧
      (s.lane x).get (F.FLT_SRCCFG_ESC k.toNat) = 0 ∧
      (s.lane x).get (F.FLT_SRCCFG_CNTN k.toNat) = 0 ∧
      (s.lane x).get (F.FLT_SRCCFG_SEV k.toNat) = Sev.deviceSafe ∧
      s.devState = Dev.idle ∧
      s.bedrockRuns = true)
      ((wLive.lput [(F.FLT_SRCCFG_CNTN 37, 0), (F.FLT_SRCCFG_SEV 37, 4)]).bputs [(F.BSYS_DEVSTAT_DEVSTATE, 2)]) .A 37 0 false 0) ∧
    ((fun (s : State) (x : Lane) (_ : BitVec 8) (_ : Nat) (_ : Bool) (_ : Nat) =>
      (s.lane x).col.laneDown = true)
      (wLive.modLane .A fun l => { l with col := { l.col with laneDown := true } }) .A 37 0 false 0) :=
  ⟨by decide +kernel, by decide +kernel, by decide +kernel, by decide +kernel, by decide +kernel, by decide +kernel, by decide +kernel⟩

theorem test_hyps_CollectorUpkeep :
    ((fun (s : State) (x : Lane) (k : BitVec 8) (_ : Fin 36) (_ : Word) (_ : Word) =>
      (s.lane x).bucket k.toNat ≤ 15)
      (wLive.modLane .A fun l => l.setBucket 37 3) .A 37 0 0 0) ∧
    ((fun (s : State) (x : Lane) (k : BitVec 8) (_ : Fin 36) (_ : Word) (_ : Word) =>
      (s.lane x).alive = true ∧
      srcReserved k.toNat = false ∧
      k ≠ 21 ∧
      (s.lane x).col.broken = [] ∧
      (s.lane x).get (F.FLT_SSTAT_LIVE 21) = 0)
      wLive .A 37 0 0 0) ∧
    ((fun (s : State) (x : Lane) (k : BitVec 8) (_ : Fin 36) (_ : Word) (_ : Word) =>
      (s.lane x).alive = true ∧
      (s.lane x).get (F.FLT_SSTAT_MASKED k.toNat) = 1 ∧
      (s.lane x).col.broken = [k.toNat] ∧
      (s.lane x).quiet 21 = true ∧
      k ≠ 21 ∧
      (s.lane x).get (F.FLT_SSTAT_LIVE k.toNat) = 0)
      ((wLive.lput [(F.FLT_SSTAT_MASKED 37, 1)]).modLane .A fun l => { l with col := { l.col with broken := [37] } }) .A 37 0 0 0) ∧
    ((fun (s : State) (x : Lane) (k : BitVec 8) (_ : Fin 36) (_ : Word) (_ : Word) =>
      (s.lane x).takes R.FLT_CLRCMD = true ∧
      (s.lane x).get (F.FLT_SSTAT_STATE k.toNat) = 1)
      (wLive.lput [(F.FLT_SSTAT_STATE 37, 1)]) .A 37 0 0 0) ∧
    ((fun (s : State) (x : Lane) (k : BitVec 8) (_ : Fin 36) (_ : Word) (_ : Word) =>
      (s.lane x).takes R.FLT_CLRCMD = true ∧
      (s.lane x).quiet k.toNat = true)
      wLive .A 37 0 0 0) ∧
    ((fun (s : State) (x : Lane) (k : BitVec 8) (_ : Fin 36) (_ : Word) (_ : Word) =>
      (s.lane x).takes R.FLT_CLRCMD = true ∧
      (s.lane x).quiet k.toNat = false ∧
      (s.lane x).get (F.FLT_SSTAT_LIVE k.toNat) = 0 ∧
      k ≠ 21)
      (wLive.lput [(F.FLT_SSTAT_STATE 37, 1)]) .A 37 0 0 0) ∧
    ((fun (s : State) (_ : Lane) (_ : BitVec 8) (j : Fin 36) (_ : Word) (_ : Word) =>
      s.bedrockRuns = true ∧
      j.val ∉ s.bed.wires ∧
      s.bedSev j.val < Sev.fence ∧
      s.bed.get (F.bedAct j.val) = 1)
      (wLive.bputs [(F.bedAct 4, 1), (F.BFLT_SEV_SEV 0 4, 1)]) .A 37 4 0 0) ∧
    ((fun (s : State) (_ : Lane) (_ : BitVec 8) (j : Fin 36) (_ : Word) (_ : Word) =>
      s.bedrockRuns = true ∧
      j.val ∉ s.bed.wires ∧
      s.bedSev j.val = Sev.fence)
      (wLive.bputs [(F.BFLT_SEV_SEV 3 5, 2)]) .A 37 29 0 0) :=
  ⟨by decide +kernel, by decide +kernel, by decide +kernel, by decide +kernel, by decide +kernel, by decide +kernel, by decide +kernel, by decide +kernel⟩

theorem test_hyps_TransferEngineChannels :
    ((fun (s : State) (x : Lane) (c : Fin 16) (_ : Nat) (_ : List Nat) =>
      (s.lane x).alive = true ∧
      (s.lane x).takes (R.XFR_CHCTRL c.val) = true ∧
      (s.lane x).get (F.XFR_CHCTRL_EN c.val) = 0 ∧
      (s.lane x).get (F.run P.XFR) = 1 ∧
      ((s.lane x).xchan c.val).desc = none)
      ((wXfr 0 id).lput [(F.XFR_CHCTRL_EN 2, 0)]) .A 2 0 [3]) ∧
    ((fun (s : State) (x : Lane) (c : Fin 16) (_ : Nat) (_ : List Nat) =>
      (s.lane x).alive = true ∧
      (s.lane x).takes (R.XFR_CHCTRL c.val) = true ∧
      (s.lane x).get (F.XFR_CHCTRL_EN c.val) = 1 ∧
      (s.lane x).chnState c.val ≠ Chn.active)
      (wXfr 2 id) .A 2 0 [3]) ∧
    ((fun (s : State) (x : Lane) (c : Fin 16) (_ : Nat) (_ : List Nat) =>
      (s.lane x).alive = true ∧
      (s.lane x).takes (R.XFR_CHKICK c.val) = true ∧
      (s.lane x).chnState c.val = Chn.idle)
      (wXfr 1 id) .A 2 0 [3]) ∧
    ((fun (s : State) (x : Lane) (c : Fin 16) (n : Nat) (_ : List Nat) =>
      (s.lane x).alive = true ∧
      (s.lane x).chnOn c.val = true ∧
      (s.lane x).chnState c.val = Chn.fetch ∧
      (s.lane x).alive = true ∧
      ((s.lane x).rd (R.XFR_CHRBASE c.val)).toNat = 0x10000000 ∧
      (s.lane x).get (F.XFR_CHSTAT_IDX c.val) = 0 ∧
      (s.lane x).heldU 0x10000000 32 = false ∧
      (List.range 8).map (fun i => (s.lane x).dmaWord (0x10000000 + 4 * i)) = copyDesc n ∧
      1 ≤ n ∧
      n < 4097)
      ((wXfr 2 id).modLane .A fun l => (List.range 8).foldl (fun l i => l.dmaStore (0x10000000 + 4 * i) 4 ((copyDesc 8).getD i 0).toNat) l) .A 2 8 [3]) ∧
    ((fun (s : State) (x : Lane) (c : Fin 16) (_ : Nat) (_ : List Nat) =>
      (s.lane x).alive = true ∧
      (s.lane x).chnOn c.val = true ∧
      (s.lane x).chnState c.val = Chn.fetch ∧
      (s.lane x).alive = true ∧
      ((s.lane x).rd (R.XFR_CHRBASE c.val)).toNat = 0x10000000 ∧
      (s.lane x).get (F.XFR_CHSTAT_IDX c.val) = 0 ∧
      (s.lane x).heldU 0x10000000 32 = false ∧
      ((s.lane x).dmaWord 0x1000001C).getLsbD 31 = false ∧
      ((s.lane x).xchan c.val).kick = false)
      (wXfr 2 id) .A 2 8 [3]) ∧
    ((fun (s : State) (x : Lane) (c : Fin 16) (_ : Nat) (_ : List Nat) =>
      (s.lane x).alive = true ∧
      (s.lane x).chnOn c.val = true ∧
      (s.lane x).chnState c.val = Chn.active ∧
      ((s.lane x).xchan c.val).desc = some (copyDesc 8) ∧
      ((s.lane x).xchan c.val).cause = 0 ∧
      ((s.lane x).xchan c.val).home = 0x10000000 ∧
      (s.lane x).get (F.XFR_CHPOS_DONE c.val) = 0 ∧
      (s.lane x).uncached = true)
      (wXfr 3 fun q => { q with desc := some (copyDesc 8), home := 0x10000000 }) .A 2 8 [3]) ∧
    ((fun (s : State) (x : Lane) (c : Fin 16) (_ : Nat) (_ : List Nat) =>
      (s.lane x).alive = true ∧
      (s.lane x).chnOn c.val = true ∧
      (s.lane x).chnState c.val = Chn.waitReq ∧
      ((s.lane x).xchan c.val).desc = some ((copyDesc 16).set 4 0x300) ∧
      ((s.lane x).xchan c.val).cause = 0 ∧
      (s.lane x).get (F.XFR_CHPOS_DONE c.val) = 0 ∧
      3 ∈ (s.lane x).xfr.latch ∧
      (s.lane x).uncached = true)
      ((wXfr 4 fun q => { q with desc := some ((copyDesc 16).set 4 0x300), home := 0x10000000 }).modLane .A fun l => { l with xfr := { l.xfr with latch := [3] } }) .A 2 8 [3]) ∧
    ((fun (s : State) (x : Lane) (c : Fin 16) (_ : Nat) (_ : List Nat) =>
      (s.lane x).alive = true ∧
      (s.lane x).chnOn c.val = true ∧
      (s.lane x).chnState c.val = Chn.active ∧
      ((s.lane x).xchan c.val).desc = some (copyDesc 16) ∧
      ((s.lane x).xchan c.val).cause = 0 ∧
      (s.lane x).get (F.XFR_CHPOS_DONE c.val) = 0)
      (wXfr 3 fun q => { q with desc := some (copyDesc 16), home := 0x10000000 }) .A 2 8 [3]) :=
  ⟨by decide +kernel, by decide +kernel, by decide +kernel, by decide +kernel, by decide +kernel, by decide +kernel, by decide +kernel, by decide +kernel⟩

theorem test_hyps_PerformanceMonitor :
    ((fun (s : State) (x : Lane) (_ : Fin 4) (_ : Nat) (_ : Sampler) (_ : BitVec 40) (_ : Word) =>
      (s.lane x).alive = true ∧
      (s.lane x).blockFenced P.PMU = false ∧
      (s.lane x).takes R.PMU_SMPCTL = true ∧
      (s.lane x).get F.PMU_SMPCTL_EN = 0)
      wLive .A 2 0 ⟨1, 1, false, false⟩ 0 0) ∧
    ((fun (s : State) (x : Lane) (p : Fin 4) (_ : Nat) (m : Sampler) (_ : BitVec 40) (_ : Word) =>
      (s.lane x).alive = true ∧
      (s.lane x).blockFenced P.PMU = false ∧
      (s.lane x).get F.PMU_SMPCTL_EN = 1 ∧
      (s.lane x).get F.PMU_SMPCTL_HARTS / 2 ^ p.val % 2 = 1 ∧
      (s.lane x).sampler p.val = some m ∧
      m.flight = false)
      ((wLive.lput [(F.PMU_SMPCTL_EN, 1), (F.PMU_SMPCTL_HARTS, 15)]).modLane .A fun l => l.setSampler 2 (some ⟨7, 1, false, false⟩)) .A 2 0 ⟨7, 1, false, false⟩ 0 0) ∧
    ((fun (s : State) (x : Lane) (p : Fin 4) (_ : Nat) (m : Sampler) (_ : BitVec 40) (_ : Word) =>
      (s.lane x).alive = true ∧
      (s.lane x).blockFenced P.PMU = false ∧
      (s.lane x).get F.PMU_SMPCTL_EN = 1 ∧
      (s.lane x).get F.PMU_SMPCTL_HARTS / 2 ^ p.val % 2 = 1 ∧
      (s.lane x).sampler p.val = some m ∧
      m.flight = true)
      ((wLive.lput [(F.PMU_SMPCTL_EN, 1), (F.PMU_SMPCTL_HARTS, 15)]).modLane .A fun l => l.setSampler 2 (some ⟨7, 1, true, false⟩)) .A 2 0 ⟨7, 1, true, false⟩ 0 0) ∧
    ((fun (s : State) (x : Lane) (p : Fin 4) (_ : Nat) (m : Sampler) (pc : BitVec 40) (_ : Word) =>
      (s.lane x).alive = true ∧
      (s.lane x).blockFenced P.PMU = false ∧
      (s.lane x).sampler p.val = some m ∧
      m.flight = true ∧
      (s.lane x).pmu.recs.length < 256 ∧
      pc.toNat < 2 ^ 32)
      (wLive.modLane .A fun l => l.setSampler 2 (some ⟨7, 1, true, false⟩)) .A 2 0 ⟨7, 1, true, false⟩ 99 0) ∧
    ((fun (s : State) (x : Lane) (p : Fin 4) (_ : Nat) (m : Sampler) (_ : BitVec 40) (_ : Word) =>
      (s.lane x).alive = true ∧
      (s.lane x).blockFenced P.PMU = false ∧
      (s.lane x).sampler p.val = some m ∧
      m.flight = true)
      (wLive.modLane .A fun l => l.setSampler 2 (some ⟨7, 1, true, false⟩)) .A 2 0 ⟨7, 1, true, false⟩ 99 0) ∧
    ((fun (s : State) (x : Lane) (_ : Fin 4) (n : Nat) (_ : Sampler) (_ : BitVec 40) (v : Word) =>
      (s.lane x).alive = true ∧
      (s.lane x).blockFenced P.PMU = false ∧
      (s.lane x).takes R.PMU_SMPACK = true ∧
      v = BitVec.ofNat 32 n ∧
      n ≤ 256 ∧
      (s.lane x).pmu.recs.length ≤ 256)
      (wLive.modLane .A fun l => { l with pmu := { l.pmu with recs := [⟨1, 2, 3, 4⟩] } }) .A 2 1 ⟨7, 1, true, false⟩ 99 1) ∧
    ((fun (s : State) (x : Lane) (p : Fin 4) (_ : Nat) (_ : Sampler) (_ : BitVec 40) (_ : Word) =>
      (s.lane x).alive = true ∧
      (s.lane x).blockFenced P.PMU = false ∧
      (s.lane x).takes (R.PMU_HISTCLR p.val) = true)
      wLive .A 2 1 ⟨7, 1, true, false⟩ 99 1) :=
  ⟨by decide +kernel, by decide +kernel, by decide +kernel, by decide +kernel, by decide +kernel, by decide +kernel, by decide +kernel⟩

/-! ### Hypotheses of the statements about every step -/

theorem test_hyps_MemoryAndLanesInvariant :
    State.reset.memWf = true ∧ State.reset.ownLanes ∧ step State.reset = .next State.reset.tick :=
  ⟨by decide, ⟨rfl, rfl⟩, rfl⟩

/-- The device is in DEVICE_SAFE, with GO_SAFE of lane A waiting. -/
def wSafeDevice : State := { wLive.bputs [(F.BSYS_DEVSTAT_DEVSTATE, 7)] with pending := [] }
theorem test_hyps_DeviceSafeIsLeftOnlyThroughOff :
    wSafeDevice.bed.on = true ∧ wSafeDevice.devState = Dev.safe ∧ step wSafeDevice = .next wSafeDevice.tick :=
  ⟨by decide +kernel, by decide +kernel, rfl⟩

/-! ### Commands that are not well formed -/

theorem test_wf_slot : Instr.wf (.duplexOutReceived .A 48 0 0 []) = false := by decide
theorem test_wf_rotation : Instr.wf (.duplexOutReceived .A 0 8 0 []) = false := by decide
theorem test_wf_cycle : Instr.wf (.laneLinkFrameStart .A (2 ^ 20)) = false := by decide
theorem test_wf_samples : Instr.wf (.currentConversionStart []) = false := by decide
theorem test_wf_access_size : Instr.wf (.registerWrite .A .xfr ⟨0x40000000, 3, some 0⟩ 0) = false := by decide
theorem test_wf_access_address : Instr.wf (.registerWrite .A .xfr ⟨2 ^ 40, 4, some 0⟩ 0) = false := by decide
theorem test_wf_write_without_data : Instr.wf (.registerWrite .A .xfr ⟨0x40000000, 4, none⟩ 0) = false := by decide
theorem test_wf_read_with_data : Instr.wf (.bridgeWindowRead .A .xfr ⟨0x60000000, 4, some 0⟩) = false := by decide
theorem test_wf_page : Instr.wf (.softReset .A .xfr 0x40051) = false := by decide
theorem test_wf_hart : Instr.wf (.imsicMessageDelivery .A ⟨0x40020, 32⟩ 5) = false := by decide
theorem test_wf_select : Instr.wf (.selectReceived ⟨[], [], 0, 0, true, 0, true⟩) = false := by decide
theorem test_wf_source : Instr.wf (.faultSourceEvent .A 256 0 false true) = false := by decide
theorem test_wf_bedrock_source : Instr.wf (.bedrockFaultEvent 36 none ⟨false, true⟩) = false := by decide
theorem test_wf_can_set : Instr.wf (.canTxabort .A 0 0 (some 256)) = false := by decide
theorem test_wf_register : Instr.wf (.debugAccessRegister .A 0 0x10000 none) = false := by decide
theorem test_wf_good : Instr.wf (.duplexOutReceived .A 47 7 0 []) = true := by decide

theorem test_wf_prz_opcode : Instr.wf (.przCkpt .A 0 0x00000013) = false := by decide
theorem test_wf_prz_funct3 : Instr.wf (.przCksn .A 0 0x0000250B) = false := by decide
theorem test_wf_line : Instr.wf (.forceCheckpointSet .A 0 (2 ^ 40)) = false := by decide
theorem test_wf_device_access : Instr.wf (.deviceAccessRelease .A 0 (.imsic 4096 none)) = false := by decide
theorem test_wf_late_swap : Instr.wf (.frameStart .A 0 [128]) = false := by decide
theorem test_wf_analysis : Instr.wf (.trackerAnalysisComplete .A 0 24577) = false := by decide
theorem test_wf_mirror : Instr.wf (.mirrorFrameReceived .A 0 0 (List.replicate 32 0)) = false := by decide
theorem test_wf_plcstate : Instr.wf (.placePlcstateReceived .A 128 []) = false := by decide
theorem test_wf_ack : Instr.wf (.selectAck [] [] []) = false := by decide
theorem test_wf_strap : Instr.wf (.orphStrapSample []) = false := by decide
theorem test_wf_can_data : Instr.wf (.canFrameReceived .A 0 [] ⟨⟨0, false, false, 0, false, false, false, List.replicate 65 0⟩, 0⟩) = false := by decide
theorem test_wf_store_size : Instr.wf (.workingStore .A 0 ⟨.amo .add, 0x10000000, 2⟩ 0 []) = false := by decide
theorem test_wf_peer_words : Instr.wf (.peerRdRspReceived .A 0 [0, 0, 0]) = false := by decide
theorem test_wf_program_buffer : Instr.wf (.debugProgramBuffer .A 0 [.gpr 32 0]) = false := by decide
theorem test_wf_system_bus : Instr.wf (.debugSystemBusAccess .A ⟨0, 3, none⟩) = false := by decide
theorem test_wf_counter : Instr.wf (.counterLowRead .A .xfr (2 ^ 40)) = false := by decide
theorem test_wf_cycle_of_samples : Instr.wf (.currentFrameReceived .A 0 ⟨0, 800000⟩ 0 0 0) = false := by decide

/-! ### The balls (R497, R498, R502, R503) -/

theorem test_ball_mirror : (Signal.lane .B (.fba 0)).ball = ⟨0, 41⟩ := by decide
theorem test_ball_gate : (Signal.gh 2 1).ball = ⟨rowOf "AL", 15⟩ := by decide
theorem test_ball_rail : Ball.rail ⟨rowOf "T", 9⟩ = some (.feed .A) := by decide +kernel

/-! ### Words: no row of the opcode table has bits, so no word spells a command -/

theorem test_no_word : decodeTableWord 16 0x1234 = none := by decide
theorem test_with_no_word : wLive.withFetchWord 16 0x1234 = wLive := rfl

end Sys2Proof.Machine
end

section
/-!
SUPPORT. What every function of a lane die keeps: the canonical form of its memory and its place (log entry 7, R16).
One lemma per function of the model, in the model's order, each from the lemmas about the functions it calls.
-/
namespace Sys2Proof.Machine
open Sys2Proof

/-- A lane die's memory is in canonical form, and the die is lane `own`. -/
def LaneState.sound (own : Lane) (l : LaneState) : Prop := Memory.wf l.mem = true ∧ l.regs.own = own

namespace LaneState

theorem sound_of_same {own : Lane} {l m : LaneState} (hm : m.mem = l.mem) (hr : m.regs.own = l.regs.own) (h : sound own l) :
    sound own m := by
  rw [sound, hm, hr]; exact h

theorem sound_ite {own : Lane} {c : Prop} [Decidable c] {l m : LaneState} (h : sound own l) (h' : sound own m) :
    sound own (if c then l else m) := by
  split
  exacts [h, h']

theorem sound_foldl {own : Lane} {α : Type} {f : LaneState → α → LaneState} {xs : List α} {l : LaneState}
    (hf : ∀ m a, sound own m → sound own (f m a)) (h : sound own l) : sound own (xs.foldl f l) :=
  foldl_keeps (sound own) hf xs l h

end LaneState

theorem RegFile.own_write (rf : RegFile) (a : Nat) (w : Word) (c : WriteCtx) : (rf.write a w c).file.own = rf.own := by
  unfold RegFile.write
  dsimp only
  split <;> split <;> rfl
theorem RegFile.own_recheck (rf : RegFile) (a : Nat) (fr : FieldRow) : (rf.recheck a fr).1.own = rf.own := by
  unfold RegFile.recheck
  dsimp only
  split <;> rfl
theorem own_lockKey (rf : RegFile) (seq : List Nat) (page : Nat) (v : Word) : (lockKey rf seq page v).1.own = rf.own := by
  unfold lockKey
  dsimp only
  repeat' split
  all_goals rfl

namespace LaneState
theorem sound_withCol {own : Lane} {l : LaneState} {c : Collector} (h : sound own l) : sound own { l with col := c } := h
theorem sound_withPower {own : Lane} {l : LaneState} {c : Power} (h : sound own l) : sound own { l with power := c } := h
theorem sound_withStrata {own : Lane} {l : LaneState} {c : StrataState} (h : sound own l) :
    sound own { l with strata := c } := h
theorem sound_withDm {own : Lane} {l : LaneState} {c : DebugMod} (h : sound own l) : sound own { l with dm := c } := h
theorem sound_setRegs {own : Lane} {l : LaneState} {r : RegFile} (hr : r.own = l.regs.own) (h : sound own l) :
    sound own { l with regs := r } := ⟨h.1, hr.trans h.2⟩
/-- Dropping bytes keeps the form. -/
theorem sound_filterMem {own : Lane} {l : LaneState} {p : Host.Cell → Bool} (h : sound own l) :
    sound own { l with mem := l.mem.filter p } := ⟨Table.wf_filter _ _ _ h.1, h.2⟩
end LaneState
/-- What an engine instruction does keeps a lane sound. -/
def Effect.sound (own : Lane) (f : Effect) : Prop := ∀ m, LaneState.sound own m → LaneState.sound own (f.body m)
end Sys2Proof.Machine

namespace Sys2Proof.Machine.LaneState
open Sys2Proof

theorem sound_wr {own l a w} (h : sound own l) :
    sound own (wr l a w) := h
theorem sound_put {own l f v} (h : sound own l) :
    sound own (put l f v) := h
theorem sound_bump {own l f k} (h : sound own l) :
    sound own (bump l f k) := h
theorem sound_setByte {own l a v} (h : sound own l) :
    sound own (setByte l a v) := ⟨Table.wf_set _ _ _ _ h.1, h.2⟩
theorem sound_store {own l a n v} (h : sound own l) :
    sound own (store l a n v) := by
  fun_induction store l a n v with
  | case1 => exact h
  | case2 _ _ _ _ ih => exact ih (sound_setByte h)
theorem sound_setDword {own l a w} (h : sound own l) :
    sound own (setDword l a w) := sound_store h
theorem sound_engStore {own l a n v} (h : sound own l) :
    sound own (engStore l a n v) := sound_store h
theorem sound_modLoop {own l f} (h : sound own l) :
    sound own (modLoop l f) := h
theorem sound_raise {own l src} (h : sound own l) :
    sound own (raise l src) := h
theorem sound_raiseAt {own l src unit} (h : sound own l) :
    sound own (raiseAt l src unit) := h
theorem sound_sendMsg {own l r} (h : sound own l) :
    sound own (sendMsg l r) := sound_ite h h
theorem sound_irqLatch {own l b m} (h : sound own l) :
    sound own (irqLatch l b m) := sound_ite (sound_wr h) (sound_sendMsg (sound_wr h))
theorem sound_irqRise {own l b m} (h : sound own l) :
    sound own (irqRise l b m) := sound_irqLatch (sound_wr h)
theorem sound_irqFall {own l b m} (h : sound own l) :
    sound own (irqFall l b m) := sound_wr h
theorem sound_irqCycle {own l b m v p} (h : sound own l) :
    sound own (irqCycle l b m v p) := sound_irqLatch (sound_wr h)
theorem sound_irqPulse {own l b m} (h : sound own l) :
    sound own (irqPulse l b m) := sound_irqLatch h
theorem sound_irqLevel {own l b i v} (h : sound own l) :
    sound own (irqLevel l b i v) := sound_ite (sound_irqRise h) (sound_irqFall h)
theorem sound_countN {own l b code k} (h : sound own l) :
    sound own (countN l b code k) := sound_ite (sound_wr h) h
theorem sound_count {own l b code} (h : sound own l) :
    sound own (count l b code) := sound_countN h
theorem sound_mergeMsgs {own l k} (h : sound own l) :
    sound own (mergeMsgs l k) := h
theorem sound_respond {own l g r} (h : sound own l) :
    sound own (respond l g r) := h
theorem sound_clampReport {own l a} (h : sound own l) :
    sound own (clampReport l a) := sound_raise (sound_irqRise h)
theorem sound_recheck {own l e} (h : sound own l) :
    sound own (recheck l e) := by
  have k := sound_setRegs (RegFile.own_recheck l.regs e.1 e.2) h
  exact sound_ite (sound_clampReport k) k
theorem sound_headerEffect {own l a eff oldEn} (h : sound own l) :
    sound own (headerEffect l a eff oldEn) :=
        sound_ite (sound_ite (sound_irqFall (sound_put h)) h) (sound_ite (sound_ite h (sound_sendMsg h)) h)
theorem sound_abandonLock {own l a} (h : sound own l) :
    sound own (abandonLock l a) := sound_ite (sound_put h) h
theorem sound_regWrite {own l a w} (h : sound own l) :
    sound own (regWrite l a w).1 := by
  unfold regWrite
  extract_lets l1 _ r l2
  have k2 : sound own l2 := sound_setRegs (RegFile.own_write ..) (sound_abandonLock h)
  exact sound_foldl (fun _ _ => sound_recheck) (sound_headerEffect (sound_ite k2 (sound_clampReport k2)))
theorem sound_command {own l a v f} (h : sound own l) (hf : ∀ m0 m1, sound own m0 → sound own (f m0 m1)) :
    sound own (command l a v f) := sound_ite h (sound_ite (sound_put h) (hf _ _ (sound_regWrite h)))
theorem sound_lockKeyWrite {own l page v} (h : sound own l) :
    sound own (lockKeyWrite l page v) := by
  have k : sound own { l with regs := _, lockSeq := _ } := sound_setRegs (own_lockKey l.regs l.lockSeq page v) h
  exact sound_ite (sound_raise k) k
theorem sound_writeRefused {own l a} (h : sound own l) :
    sound own (writeRefused l a) := sound_raise (sound_put (sound_abandonLock h))
theorem sound_aplicForward {own l i} (h : sound own l) :
    sound own (aplicForward l i) := sound_ite (sound_ite (sound_wr h) h) h
theorem sound_leaveDoze {own l} (h : sound own l) :
    sound own (leaveDoze l) := sound_ite (sound_put h) h
theorem sound_aplicPend {own l i} (h : sound own l) :
    sound own (aplicPend l i) := sound_aplicForward (sound_wr (sound_leaveDoze h))
theorem sound_aplicLevel {own l i v} (h : sound own l) :
    sound own (aplicLevel l i v) := sound_ite h (sound_ite (sound_aplicPend h) h)
theorem sound_aplicPulse {own l i} (h : sound own l) :
    sound own (aplicPulse l i) := sound_aplicLevel (sound_aplicLevel h)
theorem sound_sendDown {own l typ bridge arg payload} (h : sound own l) :
    sound own (sendDown l typ bridge arg payload) := sound_ite h (sound_count (sound_bump h))
theorem sound_llReady {own l typ arg payload} (h : sound own l) :
    sound own (llReady l typ arg payload) := sound_ite h h
theorem sound_sendPlace {own l kind payload} (h : sound own l) :
    sound own (sendPlace l kind payload) := sound_llReady h
theorem sound_arise {own l k late} (h : sound own l) :
    sound own (arise l k late) := sound_ite (sound_ite (sound_put h) h) (sound_sendPlace (sound_ite (sound_put h) h))
theorem sound_trigger {own l k} (h : sound own l) :
    sound own (trigger l k) := sound_ite (sound_arise h) (sound_arise h)
theorem sound_sendVerdict {own l slot covered compared diff} (h : sound own l) :
    sound own (sendVerdict l slot covered compared diff) := sound_ite h (sound_count (sound_bump (sound_sendDown h)))
theorem sound_mirrorsOf {own s l} (h : sound own l) :
    sound own (State.mirrorsOf s l) := by
  unfold State.mirrorsOf
  extract_lets _ m1 m2 _ m3 m4
  have k1 : sound own m1 := sound_foldl (fun _ _ h1 => sound_put (sound_put h1)) h
  have k2 : sound own m2 := sound_put k1
  have k3 : sound own m3 := sound_put (sound_put k2)
  have k4 : sound own m4 := sound_put k3
  split
  · exact k4
  · exact sound_irqPulse k4
theorem sound_modPair {own l p f} (h : sound own l) :
    sound own (modPair l p f) := h
theorem sound_putBytes {own l a v2} (h : sound own l) :
    sound own (putBytes l a v2) := by
  fun_induction putBytes l a v2 with
  | case1 => exact h
  | case2 _ _ _ _ ih => exact ih (sound_setByte h)
theorem sound_setL2 {own l n d} (h : sound own l) :
    sound own (setL2 l n d) := h
theorem sound_dropLine {own l p n} (h : sound own l) :
    sound own (dropLine l p n) := sound_modPair h
theorem sound_putLine {own l p c} (h : sound own l) :
    sound own (putLine l p c) := sound_modPair h
theorem sound_dmaShare {own l p a b} (h : sound own l) :
    sound own (dmaShare l p a b) := by
  unfold dmaShare
  dsimp only
  split; exacts [sound_putLine (sound_ite (sound_modPair h) h), sound_ite (sound_modPair h) h]
theorem sound_dmaByteIn {own l a b} (h : sound own l) :
    sound own (dmaByteIn l a b) :=
        sound_setByte
          (by
             split
             · exact sound_setL2 (sound_foldl (fun _ _ h1 => sound_dmaShare h1) h)
             · exact sound_foldl (fun _ _ h1 => sound_dmaShare h1) h)
theorem sound_serveStores {own l} (h : sound own l) :
    sound own (serveStores l) := sound_foldl (fun _ _ h1 => sound_dmaByteIn h1) h
theorem sound_discardU {own l p} (h : sound own l) :
    sound own (discardU l p) := sound_serveStores (sound_modPair h)
theorem sound_flushPair {own l p} (h : sound own l) :
    sound own (flushPair l p) :=
        sound_modPair (sound_foldl (fun _ _ h1 => sound_ite h1 (sound_putBytes (sound_setL2 h1))) h)
theorem sound_l2Evict {own l m} (h : sound own l) :
    sound own (l2Evict l m) := sound_putBytes (sound_foldl (fun _ _ h1 => sound_dropLine h1) (sound_setL2 h))
theorem sound_makeWay {own l p n free} (h : sound own l) :
    sound own (makeWay l p n free) :=
        sound_ite (by split; exacts [sound_l2Evict h, h])
          (by
             split
             · exact sound_dropLine (sound_setL2 (by split; exacts [sound_l2Evict h, h]))
             · exact by split; exacts [sound_l2Evict h, h])
theorem sound_writeBack {own l} (h : sound own l) :
    sound own (writeBack l) :=
        sound_foldl (fun _ _ h1 => sound_flushPair h1)
          (sound_foldl (fun _ _ h1 => by split; exacts [sound_putBytes h1, h1]) h)
theorem sound_ckptRequest {own l p} (h : sound own l) :
    sound own (ckptRequest l p) := sound_ite h (sound_ite (sound_modPair h) (sound_put (sound_modPair h)))
theorem sound_ckptForce {own l p f} (h : sound own l) :
    sound own (ckptForce l p f) := sound_ckptRequest (sound_irqPulse (sound_count (sound_bump h)))
theorem sound_ckptForceNew {own l p f} (h : sound own l) :
    sound own (ckptForceNew l p f) := sound_ite h (sound_ckptForce h)
theorem sound_snoop {own l n} (h : sound own l) :
    sound own (snoop l n) := by
  unfold snoop
  split; exacts [sound_ckptForceNew h, h]
theorem sound_snoopAll {own l a n} (h : sound own l) :
    sound own (snoopAll l a n) := sound_foldl (fun _ _ h1 => sound_snoop h1) h
theorem sound_dmaPut {own l a b} (h : sound own l) :
    sound own (dmaPut l a b) := sound_ite (sound_snoop h) (sound_dmaByteIn h)
theorem sound_dmaStore {own l a n v} (h : sound own l) :
    sound own (dmaStore l a n v) := by
  fun_induction dmaStore l a n v with
  | case1 => exact h
  | case2 _ _ _ _ ih => exact ih (sound_dmaPut h)
theorem sound_dmaPutBytes {own l a v2} (h : sound own l) :
    sound own (dmaPutBytes l a v2) := by
  fun_induction dmaPutBytes l a v2 with
  | case1 => exact h
  | case2 _ _ _ _ ih => exact ih (sound_dmaPut h)
theorem sound_setSampler {own l p s} (h : sound own l) :
    sound own (setSampler l p s) := h
theorem sound_samplerStart {own l} (h : sound own l) :
    sound own (samplerStart l) := sound_foldl (fun _ _ h1 => sound_setSampler h1) h
theorem sound_smpctlWrite {own l v} (h : sound own l) :
    sound own (smpctlWrite l v) :=
        sound_command h (fun _ _ h1 => sound_irqLevel (sound_ite (sound_samplerStart h1) h1))
theorem sound_recsUpdate {own l rs} (h : sound own l) :
    sound own (recsUpdate l rs) := sound_irqLevel (sound_put h)
theorem sound_sampleSkip {own l} (h : sound own l) :
    sound own (sampleSkip l) := sound_count (sound_bump h)
theorem sound_recAppend {own l r} (h : sound own l) :
    sound own (recAppend l r) :=
        sound_ite (sound_count (sound_recsUpdate h))
          (sound_ite (sound_irqPulse (sound_sampleSkip h))
             (sound_count (sound_irqPulse (sound_put (sound_recsUpdate h)))))
theorem sound_histValue {own l u v} (h : sound own l) :
    sound own (histValue l u v) :=
        sound_ite h
          (sound_ite (sound_bump h)
             (sound_ite (sound_irqPulse (sound_put (sound_count (sound_bump h)))) (sound_count (sound_bump h))))
theorem sound_hist {own l src sel ident v} (h : sound own l) :
    sound own (hist l src sel ident v) := sound_foldl (fun _ _ h1 => sound_ite (sound_histValue h1) h1) h
theorem sound_memLat {own l sel lats} (h : sound own l) :
    sound own (memLat l sel lats) := sound_foldl (fun _ _ h1 => sound_hist h1) h
theorem sound_histClear {own l u} (h : sound own l) :
    sound own (histClear l u) := sound_put (sound_put (sound_foldl (fun _ _ h1 => sound_put h1) h))
theorem sound_histclrWrite {own l u v} (h : sound own l) :
    sound own (histclrWrite l u v) := sound_command h (fun _ _ h1 => sound_ite (sound_histClear h1) h1)
theorem sound_smpackWrite {own l v} (h : sound own l) :
    sound own (smpackWrite l v) := sound_command h (fun _ _ h1 => sound_recsUpdate h1)
theorem sound_setLive {own l s v unit} (h : sound own l) :
    sound own (setLive l s v unit) := sound_ite (sound_raiseAt (sound_put (sound_put h))) (sound_put (sound_put h))
theorem sound_markLost {own l k} (h : sound own l) :
    sound own (markLost l k) :=
        sound_ite h (sound_ite (sound_trigger (sound_setLive (sound_wr h))) (sound_setLive (sound_wr h)))
theorem sound_modPort {own l p f} (h : sound own l) :
    sound own (modPort l p f) := h
theorem sound_portEnter {own l p v byRun} (h : sound own l) :
    sound own (portEnter l p v byRun) := by
  unfold portEnter
  extract_lets _ m1 m2 m3 m4
  have k1 : sound own m1 := sound_put h
  have k2 : sound own m2 := sound_ite (sound_irqPulse (sound_put k1)) k1
  have k3 : sound own m3 := sound_ite (sound_irqPulse k2) k2
  have k4 : sound own m4 := sound_ite (sound_raise k3) k3
  split
  · exact h
  · split
    · exact sound_irqPulse k4
    · exact k4
theorem sound_setPort {own l p v} (h : sound own l) :
    sound own (setPort l p v) := sound_portEnter h
theorem sound_portDrop {own l p} (h : sound own l) :
    sound own (portDrop l p) := sound_setPort (sound_modPort h)
theorem sound_fencePair {own l p} (h : sound own l) :
    sound own (fencePair l p) :=
        sound_ite h (sound_trigger (sound_irqRise (sound_put (sound_put (sound_serveStores (sound_modPair h))))))
theorem sound_fenceSlot {own l s} (h : sound own l) :
    sound own (fenceSlot l s) :=
        sound_put
          (sound_modLoop (sound_foldl (fun _ _ h1 => sound_ite (sound_irqFall (sound_put (sound_put h1))) h1) h))
theorem sound_xfrDrop {own l} (h : sound own l) :
    sound own (xfrDrop l) :=
        sound_foldl (fun _ _ h1 => sound_ite (sound_put (sound_put h1)) (sound_put (sound_put (sound_put h1)))) h
theorem sound_isolate {own l u} (h : sound own l) :
    sound own (isolate l u) := by
  unfold isolate
  extract_lets 
  split
  · split
    · exact h
    · exact sound_trigger (sound_fenceSlot h)
  · split
    · exact h
    · exact sound_trigger (sound_foldl (fun _ _ h1 => sound_fenceSlot h1) h)
  · split
    · exact sound_modPair h
    · exact sound_fencePair h
  · exact sound_markLost h
  · exact sound_portDrop h
  · exact h
  · split
    · exact sound_xfrDrop h
    · split
      · exact sound_modPort (sound_modPort h)
      · exact h
  · exact h
theorem sound_fence {own l s u} (h : sound own l) :
    sound own (fence l s u) := sound_isolate (sound_put (sound_ite h h))
theorem sound_releaseFences {own l s} (h : sound own l) :
    sound own (releaseFences l s) := sound_foldl (fun _ _ h1 => sound_ite h1 (sound_put h1)) (sound_put h)
theorem sound_setBucket {own l s n} (h : sound own l) :
    sound own (setBucket l s n) := sound_put h
theorem sound_logEvent {own l now s sev base cnt esc conseq same opener} (h : sound own l) :
    sound own (logEvent l now s sev base cnt esc conseq same opener) :=
        sound_ite (sound_bump (sound_put (sound_wr (sound_wr h)))) (sound_put (sound_wr (sound_wr h)))
theorem sound_activate {own l s sev} (h : sound own l) :
    sound own (activate l s sev) := sound_put (sound_put (sound_put (sound_put h)))
theorem sound_firstRecord {own l now s sev same conseq} (h : sound own l) :
    sound own (firstRecord l now s sev same conseq) := by
  unfold firstRecord
  extract_lets _ l1 l2 l3
  have k1 : sound own l1 := sound_ite h (sound_withCol h)
  exact sound_ite (sound_withCol (sound_wr (sound_wr k1))) (sound_ite (sound_bump k1) k1)
theorem sound_react {own l e sev} (h : sound own l) :
    sound own (react l e sev) :=
        sound_ite
          (by
             split
             · exact sound_ite
                       (sound_count (sound_ite (sound_ite (sound_llReady h) h) (sound_ite (sound_llReady h) h)))
                       (sound_ite (sound_ite (sound_llReady h) h) (sound_ite (sound_llReady h) h))
             · exact sound_ite
                       (sound_fence
                          (sound_ite
                             (sound_count (sound_ite (sound_ite (sound_llReady h) h) (sound_ite (sound_llReady h) h)))
                             (sound_ite (sound_ite (sound_llReady h) h) (sound_ite (sound_llReady h) h))))
                       (sound_ite
                          (sound_count (sound_ite (sound_ite (sound_llReady h) h) (sound_ite (sound_llReady h) h)))
                          (sound_ite (sound_ite (sound_llReady h) h) (sound_ite (sound_llReady h) h)))
             · exact sound_ite
                       (sound_count (sound_ite (sound_ite (sound_llReady h) h) (sound_ite (sound_llReady h) h)))
                       (sound_ite (sound_ite (sound_llReady h) h) (sound_ite (sound_llReady h) h)))
          (by
             split
             · exact sound_ite
                       (sound_count (sound_ite (sound_ite (sound_llReady h) h) (sound_ite (sound_llReady h) h)))
                       (sound_ite (sound_ite (sound_llReady h) h) (sound_ite (sound_llReady h) h))
             · exact sound_ite
                       (sound_fence
                          (sound_ite
                             (sound_count (sound_ite (sound_ite (sound_llReady h) h) (sound_ite (sound_llReady h) h)))
                             (sound_ite (sound_ite (sound_llReady h) h) (sound_ite (sound_llReady h) h))))
                       (sound_ite
                          (sound_count (sound_ite (sound_ite (sound_llReady h) h) (sound_ite (sound_llReady h) h)))
                          (sound_ite (sound_ite (sound_llReady h) h) (sound_ite (sound_llReady h) h)))
             · exact sound_ite
                       (sound_count (sound_ite (sound_ite (sound_llReady h) h) (sound_ite (sound_llReady h) h)))
                       (sound_ite (sound_ite (sound_llReady h) h) (sound_ite (sound_llReady h) h)))
theorem sound_event {own l now e same} (h : sound own l) :
    sound own (event l now e same).1 := by
  unfold event
  extract_lets s base cnt o
  split
  · exact h
  · split
    extract_lets _ l1 l2 l3
    have k1 : sound own l1 := sound_count (sound_irqPulse h)
    cases o
    · exact sound_react (sound_setBucket (sound_logEvent (sound_activate (sound_firstRecord k1))))
    · exact sound_count (sound_logEvent (sound_activate (sound_firstRecord k1)))
theorem sound_setOuter {own l s v} (h : sound own l) :
    sound own (setOuter l s v) := h
theorem sound_outerReport {own l s unit v} (h : sound own l) :
    sound own (outerReport l s unit v).1 := by
  unfold outerReport
  extract_lets m1
  have k1 : sound own m1 := sound_put h
  split
  · exact k1
  · exact h
theorem sound_unmask {own l k} (h : sound own l) :
    sound own (unmask l k) := sound_ite (sound_raise (sound_put h)) (sound_put h)
theorem sound_clrResult {own l src op res} (h : sound own l) :
    sound own (clrResult l src op res) :=
        sound_ite (sound_put (sound_put (sound_put h)))
          (sound_irqPulse (sound_bump (sound_put (sound_put (sound_put h)))))
theorem sound_clrAck {own l k} (h : sound own l) :
    sound own (clrAck l k) := sound_ite (sound_clrResult (sound_put (sound_put h))) (sound_clrResult h)
theorem sound_clrClear {own l k} (h : sound own l) :
    sound own (clrClear l k) := by
  unfold clrClear
  extract_lets m1 m2 m3
  have k1 : sound own m1 := sound_put (sound_put (sound_put h))
  have k2 : sound own m2 := sound_releaseFences (sound_put k1)
  have k3 : sound own m3 := sound_ite (sound_foldl (fun _ _ h3 => sound_ite (sound_unmask h3) h3) k2) k2
  split
  · exact sound_clrResult h
  · split
    · exact sound_clrResult h
    · exact sound_clrResult k3
theorem sound_clrcmdWrite {own l v} (h : sound own l) :
    sound own (clrcmdWrite l v) :=
        sound_command h (fun _ _ h1 => sound_ite (sound_clrAck h1) (sound_ite (sound_clrClear h1) h1))
theorem sound_accessFault {own l p cause a} (h : sound own l) :
    sound own (accessFault l p cause a) := sound_modPair h
theorem sound_setPairState {own l p v} (h : sound own l) :
    sound own (setPairState l p v) := sound_put h
theorem sound_setLogUsed {own l p} (h : sound own l) :
    sound own (setLogUsed l p) := sound_put h
theorem sound_endReplay {own l p} (h : sound own l) :
    sound own (endReplay l p) := sound_ite (sound_ite (sound_setPairState (sound_modPair h)) (sound_modPair h)) h
theorem sound_logAppend {own l p e} (h : sound own l) :
    sound own (logAppend l p e) :=
        sound_ite (sound_ckptForceNew (sound_count (sound_setLogUsed (sound_modPair (sound_endReplay h)))))
          (sound_count (sound_setLogUsed (sound_modPair (sound_endReplay h))))
theorem sound_diverge {own l p} (h : sound own l) :
    sound own (diverge l p) := sound_fencePair (sound_raise h)
theorem sound_consume {own l p} (h : sound own l) :
    sound own (consume l p) := sound_bump (sound_modPair h)
theorem sound_startPair {own l p revive} (h : sound own l) :
    sound own (startPair l p revive) :=
        sound_ite (sound_ckptRequest (sound_setPairState (sound_modPair h))) (sound_setPairState (sound_modPair h))
theorem sound_vcsr {own l p csr rd v} (h : sound own l) :
    sound own (vcsr l p csr rd v) :=
        sound_ite (by split; exacts [sound_ite (sound_modPair (sound_consume h)) (sound_diverge h), sound_diverge h])
          (sound_ite h (sound_logAppend (sound_modPair h)))
theorem sound_przCkpt {own l p} (h : sound own l) :
    sound own (przCkpt l p) := sound_ite (sound_diverge h) (sound_ckptRequest (sound_modPair h))
theorem sound_xprizu {own l p w f} (h : sound own l) (hf : ∀ m0, sound own m0 → sound own (f m0)) :
    sound own (xprizu l p w f) := sound_ite h (sound_ite (sound_modPair h) (hf _ h))
theorem sound_paircmdWrite {own l v} (h : sound own l) :
    sound own (paircmdWrite l v) :=
        sound_command h
          (fun _ _ h1 =>
             sound_ite (sound_ite (sound_put h1) (sound_ckptRequest h1))
               (sound_ite
                  (sound_ite (sound_put h1) (sound_ite (sound_trigger (sound_irqFall (sound_startPair h1))) h1)) h1))
theorem sound_ckptCommit {own l p retired} (h : sound own l) :
    sound own (ckptCommit l p retired) :=
        sound_ite h
          (sound_count
             (sound_setPairState
                (sound_setLogUsed (sound_wr (sound_wr (sound_put (sound_serveStores (sound_modPair h))))))))
theorem sound_takeLine {own l p n free} (h : sound own l) :
    sound own (takeLine l p n free) := by
  unfold takeLine
  split
  · exact sound_ite h (sound_putLine (sound_setL2 h))
  · exact sound_putLine
            (sound_makeWay (by split; exacts [sound_foldl (fun _ _ h1 => sound_dropLine h1) (sound_setL2 h), h]))
theorem sound_storeU {own l p a k v free} (h : sound own l) :
    sound own (storeU l p a k v free) := by
  fun_induction storeU l p a k v free with
  | case1 => exact h
  | case2 l a v k m l1 ih =>
    refine ih ?_
    unfold l1
    split
    · exact sound_putLine (sound_takeLine h)
    · exact h
theorem sound_endResv {own l p a n} (h : sound own l) :
    sound own (endResv l p a n) := sound_foldl (fun _ _ h1 => sound_ite (sound_modPair h1) h1) h
theorem sound_workDone {own l p op a n data free} (h : sound own l) :
    sound own (workDone l p op a n data free) := by
  unfold workDone
  split
  · exact sound_endResv (sound_storeU h)
  · exact sound_respond (sound_endResv (sound_storeU h))
  · exact sound_respond (sound_modPair h)
  · exact sound_modPair (sound_ite (sound_respond (sound_endResv (sound_storeU h))) (sound_respond h))
theorem sound_workingStore {own l p op a n data free} (h : sound own l) :
    sound own (workingStore l p op a n data free) := by
  have forced {n m} (e : l.lineForce p n free = some m) : sound own m := by
    revert e
    unfold lineForce
    (repeat' split) <;> rintro ⟨⟩ <;> exact sound_ckptForceNew h
  unfold workingStore
  extract_lets _
  split
  · exact h
  · split
    · exact sound_accessFault h
    · split
      · exact forced ‹_›
      · split
        · exact forced ‹_›
        · exact sound_workDone h
theorem sound_haltedMismatch {own l p} (h : sound own l) :
    sound own (haltedMismatch l p) := sound_put (sound_modPair (sound_discardU h))
theorem sound_mismatch {own l p group eic} (h : sound own l) :
    sound own (mismatch l p group eic) := by
  unfold mismatch
  extract_lets _ m1 m2 m3
  have k1 : sound own m1 := sound_put (sound_put h)
  have k2 : sound own m2 := sound_raise k1
  have k3 : sound own m3 := sound_haltedMismatch k2
  split
  · exact h
  · split
    · split
      · exact sound_modPair k3
      · exact k3
    · split
      · exact sound_fencePair k2
      · exact sound_setPairState (sound_modPair (sound_discardU k2))
theorem sound_imsicPost {own l hart ident} (h : sound own l) :
    sound own (imsicPost l hart ident) :=
        sound_ite h (sound_ite (sound_modPair h) (sound_modPair (sound_leaveDoze (sound_modPair h))))
theorem sound_dmiWrite {own l addr data} (h : sound own l) :
    sound own (dmiWrite l addr data) := h
theorem sound_dmControl {own l p req} (h : sound own l) :
    sound own (dmControl l p req) := sound_ite h h
theorem sound_haltRequest {own l p cause} (h : sound own l) :
    sound own (haltRequest l p cause) := sound_ite h (sound_ckptRequest (sound_modPair h))
theorem sound_abstract {own l p cmd f} (h : sound own l) (hf : ∀ m0, sound own m0 → sound own (f m0)) :
    sound own (abstract l p cmd f) := by
  unfold abstract
  extract_lets m1
  have k1 : sound own m1 := sound_dmiWrite (sound_dmControl h)
  split
  · exact h
  · split
    · exact k1
    · split
      · exact sound_modPair k1
      · split
        · exact sound_modPair k1
        · exact hf _ (sound_modPair k1)
theorem sound_debugCsr {own l p n v} (h : sound own l) :
    sound own (debugCsr l p n v) := sound_ite (sound_ite h (sound_logAppend (sound_modPair h))) (sound_modPair h)
theorem sound_debugChange {own l p c} (h : sound own l) :
    sound own (debugChange l p c) := by
  unfold debugChange
  split; exacts [sound_modPair h, sound_modPair h, sound_ite (sound_debugCsr h) (sound_modPair h)]
theorem sound_debugReset {own l p} (h : sound own l) :
    sound own (debugReset l p) :=
        sound_ite h (sound_setLogUsed (sound_startPair (sound_flushPair (sound_discardU h))))
theorem sound_resetTo {own l k lsrc now} (h : sound own l) :
    sound own (resetTo l k lsrc now) := by
  unfold resetTo
  extract_lets l1 _ _ _ _ _ _ _ _ _ _ _ _ n1 n2 n3 n4 n5
  have k1 : sound own l1 := sound_ite (sound_writeBack (sound_foldl (fun _ _ => sound_discardU) h)) h
  have k : sound own n1 := ⟨Table.wf_filter _ _ _ k1.1, k1.2⟩
  have k2 : sound own n2 := sound_wr (sound_put k)
  have k3 : sound own n3 := sound_put (sound_put k2)
  have k4 : sound own n4 := sound_ite (sound_put (sound_wr (sound_wr k3))) k3
  exact sound_put (sound_put (sound_put k4))
theorem sound_krecShow {own l ws} (h : sound own l) :
    sound own (krecShow l ws) := sound_wr (sound_wr (sound_wr (sound_foldl (fun _ _ h1 => sound_wr h1) (sound_wr h))))
theorem sound_krecWrite {own l f} (h : sound own l) :
    sound own (krecWrite l f) := sound_krecShow (sound_putBytes h)
theorem sound_krecBootFail {own l c} (h : sound own l) :
    sound own (krecBootFail l c) := sound_krecWrite h
theorem sound_kilnLive {own l} (h : sound own l) :
    sound own (kilnLive l) := sound_setLive h
theorem sound_sliceStart {own l k park} (h : sound own l) :
    sound own (sliceStart l k park) := sound_of_same rfl rfl h
theorem sound_kilnEnd {own l} (h : sound own l) :
    sound own (kilnEnd l) := sound_irqPulse (sound_put (sound_put h))
theorem sound_sliceRecord {own l us} (h : sound own l) :
    sound own (sliceRecord l us).1 := by
  unfold sliceRecord
  dsimp only
  split <;> dsimp only
  · exact sound_count (sound_krecWrite h)
  · exact sound_irqPulse (sound_count (sound_krecWrite h))
theorem sound_linkReport {own l k was now seen} (h : sound own l) :
    sound own (linkReport l k was now seen) :=
        sound_ite (sound_ite (sound_put h) h)
          (sound_ite (sound_setLive (sound_irqLevel (sound_bump (sound_put h))))
             (sound_setLive (sound_irqLevel (sound_put h))))
theorem sound_setLlRx {own l r} (h : sound own l) :
    sound own (setLlRx l r) := h
theorem sound_setBlRx {own l r} (h : sound own l) :
    sound own (setBlRx l r) := h
theorem sound_llState {own l r seen} (h : sound own l) :
    sound own (llState l r seen) := sound_linkReport (sound_setLlRx h)
theorem sound_blState {own l r seen} (h : sound own l) :
    sound own (blState l r seen) := sound_linkReport (sound_setBlRx h)
theorem sound_discardLog {own l f irq src} (h : sound own l) :
    sound own (discardLog l f irq src) := sound_count (sound_raise (sound_irqPulse (sound_bump h)))
theorem sound_blFrame {own l ws parityOk} (h : sound own l) :
    sound own (blFrame l ws parityOk) := by
  unfold blFrame
  dsimp only
  split
  · exact sound_blState (sound_discardLog h)
  · exact sound_ite (sound_blState h) (sound_count (sound_bump (sound_blState h)))
theorem sound_llFrame {own l ws parityOk} (h : sound own l) :
    sound own (llFrame l ws parityOk) := by
  unfold llFrame
  dsimp only
  split
  · exact sound_llState (sound_discardLog h)
  · exact sound_ite (sound_put (sound_llState h)) (sound_count (sound_bump (sound_put (sound_llState h))))
theorem sound_intervalDue {own l} (h : sound own l) :
    sound own (intervalDue l) := h
theorem sound_statusFrame {own l n arg pay} (h : sound own l) :
    sound own (statusFrame l n arg pay) :=
        sound_irqLevel
          (sound_ite (sound_raise (sound_foldl (fun _ _ h1 => sound_setLive h1) (sound_irqCycle h)))
             (sound_foldl (fun _ _ h1 => sound_setLive h1) (sound_irqCycle h)))
theorem sound_srcUpdate {own l key v now} (h : sound own l) :
    sound own (srcUpdate l key v now) := sound_modLoop h
theorem sound_readBy {own l g a f} (h : sound own l) (hf : ∀ m0, sound own m0 → sound own (f m0).1) :
    sound own (readBy l g a f) := sound_ite h (sound_ite (sound_respond h) (sound_respond (hf l h)))
theorem sound_xfrLatch {own l req} (h : sound own l) :
    sound own (xfrLatch l req) := h
theorem sound_dupCompare {own l slot} (h : sound own l) :
    sound own (dupCompare l slot) := by
  unfold dupCompare
  split; exacts [sound_ite (sound_sendVerdict h) h, h]
theorem sound_frameStartLL {own l cycle} (h : sound own l) :
    sound own (frameStartLL l cycle) := by
  unfold frameStartLL
  dsimp only
  split; exacts [sound_bump h, sound_count (sound_bump (sound_ite (sound_bump (sound_bump h)) (sound_bump h)))]
theorem sound_modTracker {own l k f} (h : sound own l) :
    sound own (modTracker l k f) := sound_modLoop h
theorem sound_trkTurn {own l} (h : sound own l) :
    sound own (trkTurn l) := sound_modLoop h
theorem sound_trkState {own l k v} (h : sound own l) :
    sound own (trkState l k v) := sound_trkTurn (sound_irqLevel (sound_put h))
theorem sound_trkResult {own l k v} (h : sound own l) :
    sound own (trkResult l k v) := sound_irqPulse (sound_put h)
theorem sound_trkCollect {own l k} (h : sound own l) :
    sound own (trkCollect l k) := sound_trkState (sound_modTracker h)
theorem sound_trkRestart {own l k} (h : sound own l) :
    sound own (trkRestart l k) := sound_trkCollect (sound_ite (sound_trkResult h) h)
theorem sound_trkContext {own l c} (h : sound own l) :
    sound own (trkContext l c) := sound_foldl (fun _ _ h1 => sound_ite (sound_trkRestart h1) h1) h
theorem sound_trkSample {own l c} (h : sound own l) :
    sound own (trkSample l c) :=
        sound_foldl
          (fun _ _ h1 =>
             sound_ite h1
               (sound_ite (sound_modTracker h1)
                  (sound_ite (sound_trkState (sound_modTracker (sound_dmaStore h1)))
                     (sound_modTracker (sound_dmaStore h1))))) h
theorem sound_trkApply {own l k bin} (h : sound own l) :
    sound own (trkApply l k bin) :=
        sound_trkState
          (sound_modTracker
             (sound_put
                (sound_put
                   (sound_foldl (fun _ _ h1 => sound_engStore h1) (sound_foldl (fun _ _ h1 => sound_engStore h1) h)))))
theorem sound_trkOutcome {own l k powers} (h : sound own l) :
    sound own (trkOutcome l k powers) := by
  unfold trkOutcome
  extract_lets _ _ _ _ m1
  have k1 : sound own m1 := sound_put h
  split
  · exact sound_trkCollect (sound_trkResult k1)
  · split
    · exact sound_trkCollect (sound_trkResult k1)
    · split
      · exact sound_trkCollect (sound_trkResult k1)
      · split
        · exact sound_trkState (sound_put k1)
        · exact sound_trkApply k1
theorem sound_setDwords {own l a ws} (h : sound own l) :
    sound own (setDwords l a ws) := sound_foldl (fun _ _ h1 => sound_engStore h1) h
theorem sound_trkackWrite {own l k v} (h : sound own l) :
    sound own (trkackWrite l k v) :=
        sound_command h
          (fun _ _ h1 =>
             sound_ite h1 (sound_ite (sound_trkApply h1) (sound_ite (sound_trkCollect (sound_trkResult h1)) h1)))
theorem sound_trkcfgWrite {own l k v} (h : sound own l) :
    sound own (trkcfgWrite l k v) := sound_command h (fun _ _ h1 => sound_trkRestart (sound_modTracker h1))
theorem sound_modEng {own l f} (h : sound own l) :
    sound own (modEng l f) := sound_modLoop h
theorem sound_slotMsg {own l s send} (h : sound own l) :
    sound own (slotMsg l s send) := sound_ite (sound_sendMsg h) h
theorem sound_exitRecord {own l r cause pc} (h : sound own l) :
    sound own (exitRecord l r cause pc) :=
        sound_countN
          (sound_modLoop (sound_put (sound_put (sound_wr (sound_put (sound_put (sound_put (sound_put h))))))))
theorem sound_runStage {own l v} (h : sound own l) :
    sound own (runStage l v) := sound_modLoop h
theorem sound_abortReport {own l r src} (h : sound own l) :
    sound own (abortReport l r src) :=
        sound_trkContext
          (sound_slotMsg (sound_raiseAt (sound_count (sound_count (sound_irqPulse (sound_bump (sound_bump h)))))))
theorem sound_abort {own l r cause pc} (h : sound own l) :
    sound own (abort l r cause pc) := sound_abortReport (sound_runStage (sound_exitRecord h))
theorem sound_plain {own} {l : LaneState} {refs body} (h : ∀ m, sound own m → sound own (body m)) :
    (plain l refs body).sound own := h
theorem sound_regOp {own} {l : LaneState} {f} : (regOp l f).sound own := fun _ => sound_modEng
theorem sound_perform {own l r word f} (hf : Effect.sound own f) (h : sound own l) : sound own (perform l r word f) :=
    by
  unfold perform
  extract_lets _ _ l1 l2 l3
  have k1 : sound own l1 := hf _ (sound_modEng h)
  exact sound_ite (sound_raiseAt k1) k1
theorem sound_issue {own l opc w legal eff} (he : ∀ m, Effect.sound own (eff m)) (h : sound own l) :
    sound own (issue l opc w legal eff) := by
  unfold issue
  split
  · exact h
  · exact sound_ite h (sound_ite (sound_abort h) (sound_ite (sound_abort h) (sound_ite h
      (sound_ite (sound_abort h) (sound_ite (sound_abort h) (sound_perform (he _) h))))))
theorem sound_doMoves {own n l ms} (h : sound own n) : sound own (doMoves n l ms) :=
  sound_foldl (fun _ _ k => sound_ite (sound_engStore k) (sound_modEng k)) h
theorem sound_formatM {own l opc w used legal refs f} (h : sound own l) :
    sound own (formatM l opc w used legal refs f) :=
        sound_issue (fun _ => sound_plain fun _ k => sound_doMoves (sound_modEng k)) h
theorem sound_macOp {own l opc w f} (h : sound own l) :
    sound own (macOp l opc w f) := sound_formatM h
theorem sound_vecOp {own l opc w f} (h : sound own l) :
    sound own (vecOp l opc w f) := sound_formatM h
theorem sound_shiftOp {own l opc w f} (h : sound own l) :
    sound own (shiftOp l opc w f) := sound_formatM h
theorem sound_rnd {own l w} (h : sound own l) :
    sound own (rnd l w) := by
  unfold rnd
  refine sound_issue (fun m => sound_plain fun n k => ?_) h
  exact sound_ite (sound_engStore (sound_modEng k)) (sound_modEng k)
theorem sound_immOp {own l opc w f} (h : sound own l) :
    sound own (immOp l opc w f) := sound_issue (fun _ => sound_regOp) h
theorem sound_formatR {own l opc w used f} (h : sound own l) :
    sound own (formatR l opc w used f) := sound_issue (fun _ => sound_regOp) h
theorem sound_binOp {own l opc w f} (h : sound own l) :
    sound own (binOp l opc w f) := sound_formatR h
theorem sound_satOp {own l opc w used f} (h : sound own l) :
    sound own (satOp l opc w used f) := sound_formatR h
theorem sound_shOp {own l opc w f} (h : sound own l) :
    sound own (shOp l opc w f) := sound_formatR h
theorem sound_cordic {own l opc w used legal f} (h : sound own l) :
    sound own (cordic l opc w used legal f) := sound_ite h (sound_issue (fun _ _ => sound_modEng) h)
theorem sound_modFeed {own l f} (h : sound own l) :
    sound own (modFeed l f) := h
theorem sound_modChan {own l k f} (h : sound own l) :
    sound own (modChan l k f) := sound_modFeed h
theorem sound_latchEvt {own l b a ien msg j i width} (h : sound own l) :
    sound own (latchEvt l b a ien msg j i width) :=
        sound_ite (sound_sendMsg (sound_irqLevel (sound_wr h))) (sound_irqLevel (sound_wr h))
theorem sound_chEvt {own l k i} (h : sound own l) :
    sound own (chEvt l k i) := sound_latchEvt h
theorem sound_chEvtIrq {own l k} (h : sound own l) :
    sound own (chEvtIrq l k) := sound_irqLevel h
theorem sound_chevtRead {own l k} (h : sound own l) :
    sound own (chevtRead l k).1 := sound_chEvtIrq (sound_wr h)
theorem sound_quantity {own l k sel a now v} (h : sound own l) :
    sound own (quantity l k sel a now v) := sound_srcUpdate (sound_wr h)
theorem sound_fbkFreeze {own l k now} (h : sound own l) :
    sound own (fbkFreeze l k now) := by
  unfold fbkFreeze
  dsimp only
  split; exacts [sound_srcUpdate (by split; exacts [sound_srcUpdate h, h]), by split; exacts [sound_srcUpdate h, h]]
theorem sound_setOut {own l j o} (h : sound own l) :
    sound own (setOut l j o) := sound_put (sound_modFeed h)
theorem sound_queueStep {own l j up} (h : sound own l) :
    sound own (queueStep l j up) := sound_ite (sound_count (sound_irqPulse (sound_raise h))) (sound_setOut h)
theorem sound_queueSteps {own l j up v3} (h : sound own l) :
    sound own (queueSteps l j up v3) := by
  fun_induction queueSteps l j up v3 with
  | case1 => exact h
  | case2 _ _ ih => exact ih (sound_queueStep h)
theorem sound_outStep {own l j up atIdx} (h : sound own l) :
    sound own (outStep l j up atIdx) :=
        sound_ite (sound_setOut (sound_queueSteps (sound_setOut h))) (sound_queueSteps (sound_setOut h))
theorem sound_emitStep {own l j} (h : sound own l) :
    sound own (emitStep l j) := by
  unfold emitStep
  dsimp only
  split; exacts [sound_count (sound_put (sound_setOut h)), sound_setOut h]
theorem sound_outcfgEffect {own l j} (h : sound own l) :
    sound own (outcfgEffect l j) := sound_ite (sound_setOut h) h
theorem sound_moveStep {own l k down} (h : sound own l) :
    sound own (moveStep l k down) :=
        sound_foldl (fun _ _ h1 => sound_outStep h1)
          (sound_count (sound_modChan (sound_ite (sound_chEvt (sound_put (sound_put h))) (sound_put (sound_put h)))))
theorem sound_moveSteps {own l k down v3} (h : sound own l) :
    sound own (moveSteps l k down v3) := by
  fun_induction moveSteps l k down v3 with
  | case1 => exact h
  | case2 _ _ ih => exact ih (sound_moveStep h)
theorem sound_stepPeriod {own l k t now down} (h : sound own l) :
    sound own (stepPeriod l k t now down) := sound_modChan (sound_quantity h)
theorem sound_countStep {own l k t now down} (h : sound own l) :
    sound own (countStep l k t now down) := sound_stepPeriod (sound_moveStep h)
theorem sound_lineError {own l k i} (h : sound own l) :
    sound own (lineError l k i) := sound_chEvt (sound_count (sound_raise (sound_bump h)))
theorem sound_setLvl {own l k v} (h : sound own l) :
    sound own (setLvl l k v) := sound_modChan (sound_put h)
theorem sound_quadChange {own l k was code held t now} (h : sound own l) :
    sound own (quadChange l k was code held t now) :=
        sound_ite h (sound_setLvl (sound_modChan (sound_ite (sound_lineError h) (sound_countStep h))))
theorem sound_hallChange {own l k code held t now} (h : sound own l) :
    sound own (hallChange l k code held t now) :=
        sound_ite h
          (sound_ite (sound_setLvl (sound_modChan (sound_put (sound_lineError (sound_ite h (sound_fbkFreeze h))))))
             (sound_setLvl
                (sound_modChan
                   (sound_put
                      (by
                         split
                         exacts [h, sound_ite (sound_countStep h) (sound_ite (sound_countStep h) (sound_lineError h))])))))
theorem sound_indexAct {own l k d} (h : sound own l) :
    sound own (indexAct l k d) := by
  unfold indexAct
  extract_lets _ m1 m2
  have k1 : sound own m1 := sound_chEvt (sound_count (sound_raise (sound_bump h)))
  have k2 : sound own m2 := sound_wr k1
  split
  · exact k2
  · split
    · split
      · exact k2
      · exact sound_chEvt k1
    · exact k1
theorem sound_indexEvent {own l k now} (h : sound own l) :
    sound own (indexEvent l k now) := by
  unfold indexEvent
  extract_lets _ m1 m2
  have k1 : sound own m1 := sound_count (sound_quantity h)
  have k2 : sound own m2 := sound_chEvt (sound_put k1)
  split
  · split
    · exact k2
    · exact sound_wr k2
  · split
    · exact k1
    · exact sound_indexAct k1
theorem sound_toothCount {own l k n t now} (h : sound own l) :
    sound own (toothCount l k n t now) := sound_stepPeriod (sound_moveSteps h)
theorem sound_toothEdge {own l k t now} (h : sound own l) :
    sound own (toothEdge l k t now) := by
  unfold toothEdge
  extract_lets _ _ m1
  have k1 : sound own m1 := sound_modChan h
  split
  · exact sound_modChan (sound_toothCount h)
  · split
    · split
      · exact sound_indexEvent (sound_modChan (sound_toothCount k1))
      · exact sound_toothCount k1
    · split
      · exact sound_indexEvent k1
      · exact sound_toothCount k1
theorem sound_riseEdge {own l k t now} (h : sound own l) :
    sound own (riseEdge l k t now).1 := sound_modChan (sound_ite (sound_quantity h) h)
theorem sound_windowsRestart {own l p} (h : sound own l) :
    sound own (windowsRestart l p) := sound_foldl (fun _ _ h1 => sound_modChan h1) h
theorem sound_chanReset {own l k} (h : sound own l) :
    sound own (chanReset l k) :=
        sound_foldl (fun _ _ h1 => sound_ite (sound_setOut h1) h1)
          (sound_modChan (sound_foldl (fun _ _ h1 => sound_wr h1) (sound_wr (sound_put (sound_put (sound_wr h))))))
theorem sound_chanCfgWrite {own l k reg v} (h : sound own l) :
    sound own (chanCfgWrite l k reg v) :=
        sound_command h
          (fun _ _ h1 =>
             sound_ite (sound_modChan (sound_ite h1 (sound_chanReset h1))) (sound_ite h1 (sound_chanReset h1)))
theorem sound_wr64 {own l a v} (h : sound own l) :
    sound own (wr64 l a v) := sound_wr (sound_wr h)
theorem sound_setTxReady {own l p n v} (h : sound own l) :
    sound own (setTxReady l p n v) := sound_put (sound_put h)
theorem sound_strataLaunch {own l ws} (h : sound own l) :
    sound own (strataLaunch l ws) :=
        sound_foldl (fun _ _ h1 => sound_setTxReady h1) (sound_foldl (fun _ _ h1 => sound_wr64 h1) h)
theorem sound_portStart {own l p} (h : sound own l) :
    sound own (portStart l p) := by
  unfold portStart
  extract_lets l1 _ l3 l4
  have k1 : sound own l1 := sound_put h
  have k4 : sound own l4 := sound_foldl (fun _ _ => sound_put) (sound_modPort (sound_put k1))
  exact sound_ite k1 (sound_ite (sound_put k1) (sound_ite (sound_put k1)
    (sound_setPort (sound_ite (sound_withStrata k4) k4))))
theorem sound_pctlWrite {own l p v} (h : sound own l) :
    sound own (pctlWrite l p v) := sound_command h (fun _ _ h1 => sound_ite (sound_portStart h1) h1)
theorem sound_setSafeRec {own l k r} (h : sound own l) :
    sound own (setSafeRec l k r) := h
theorem sound_safeDeadline {own l p n} (h : sound own l) :
    sound own (safeDeadline l p n) := by
  unfold safeDeadline
  dsimp only
  split <;> exact sound_modPort (sound_put (sound_ite (sound_setTxReady (sound_setSafeRec h)) h))
theorem sound_dataDeadline {own l p n} (h : sound own l) :
    sound own (dataDeadline l p n) :=
        sound_ite (sound_modPort (sound_put (sound_setTxReady h))) (by split <;> exact sound_modPort (sound_put h))
theorem sound_coldFail {own l p} (h : sound own l) :
    sound own (coldFail l p) := sound_ite (sound_raise (sound_setPort h)) (sound_modPort h)
theorem sound_sent {own l p f} (h : sound own l) :
    sound own (sent l p f) := by
  unfold sent
  extract_lets m1 m2 m3 m4
  have k1 : sound own m1 := sound_modPort h
  have k2 : sound own m2 := sound_count (sound_put (sound_bump k1))
  have k3 : sound own m3 := sound_put k2
  have k4 : sound own m4 := sound_ite (sound_modPort k3) k3
  split
  · split
    · split
      · exact sound_setSafeRec k4
      · exact k4
    · exact k4
  · exact k4
theorem sound_rxDiscard {own l p n cause} (h : sound own l) :
    sound own (rxDiscard l p n cause) := by
  unfold rxDiscard
  split
  · exact sound_modPort (sound_put (sound_count (sound_raise (sound_bump h))))
  · exact sound_count (sound_raise (sound_bump h))
theorem sound_rxqPush {own l p n cyc} (h : sound own l) :
    sound own (rxqPush l p n cyc) :=
        sound_ite (sound_modPort h) (sound_ite (sound_sendMsg (sound_modPort h)) (sound_modPort h))
theorem sound_rxStore {own l p n f now} (h : sound own l) :
    sound own (rxStore l p n f now) := by
  unfold rxStore
  extract_lets m1 m2 m3 m4
  have k1 : sound own m1 := sound_foldl (fun _ _ h1 => sound_srcUpdate (sound_wr64 h1)) h
  have k2 : sound own m2 := sound_put (sound_put (sound_put k1))
  have k3 : sound own m3 := sound_count (sound_bump (sound_put k2))
  have k4 : sound own m4 := sound_modPort k3
  split
  · exact sound_rxqPush k4
  · exact k4
theorem sound_setPend {own l i v} (h : sound own l) :
    sound own (setPend l i v) := h
theorem sound_setCand {own l i v} (h : sound own l) :
    sound own (setCand l i v) := h
theorem sound_safeCause {own l i v} (h : sound own l) :
    sound own (safeCause l i v) := sound_put h
theorem sound_safeqPush {own l i} (h : sound own l) :
    sound own (safeqPush l i) := sound_ite h (sound_ite (sound_sendMsg h) h)
theorem sound_safeUpdate {own l i c cause now} (h : sound own l) :
    sound own (safeUpdate l i c cause now) := by
  unfold safeUpdate
  extract_lets m1 _ m2 m3 m4 m5
  have k1 : sound own m1 := sound_foldl (fun _ _ h1 => sound_srcUpdate (sound_wr64 h1)) h
  have k2 : sound own m2 := k1
  have k3 : sound own m3 := sound_put (sound_put k2)
  have k4 : sound own m4 := sound_setCand (sound_safeCause k3)
  have k5 : sound own m5 := sound_count (sound_bump k4)
  split
  · exact sound_safeqPush k5
  · exact k5
theorem sound_deliver {own l i c single now} (h : sound own l) :
    sound own (deliver l i c single now) := by
  unfold deliver
  extract_lets _ _ _ m1
  have k1 : sound own m1 := sound_bump h
  split
  · exact sound_safeUpdate h
  · split
    · exact sound_setCand (sound_safeCause h)
    · split
      · exact sound_safeUpdate (sound_bump h)
      · split
        · exact sound_safeUpdate k1
        · exact sound_setCand (sound_safeCause k1)
theorem sound_safeCopy {own l i c now} (h : sound own l) :
    sound own (safeCopy l i c now) := by
  unfold safeCopy
  extract_lets m1 m2 m3
  have k1 : sound own m1 := sound_ite (sound_bump (sound_safeCause h)) h
  have k2 : sound own m2 := sound_ite (sound_deliver h) (sound_setPend k1)
  have k3 : sound own m3 := sound_setPend h
  split
  · split
    · split
      · exact sound_deliver k3
      · exact sound_raise (sound_irqPulse (sound_bump (sound_safeCause k3)))
    · exact k2
  · exact k2
theorem sound_safeCopies {own l p n f now} (h : sound own l) :
    sound own (safeCopies l p n f now) := sound_foldl (fun _ _ h1 => sound_ite (sound_safeCopy h1) h1) h
theorem sound_strReceive {own l p f fcsOk t lat now} (h : sound own l) :
    sound own (strReceive l p f fcsOk t lat now) := by
  unfold strReceive
  extract_lets 
  split
  · split
    · exact h
    · exact sound_rxDiscard h
  · split
    · split
      · exact h
      · exact sound_rxDiscard h
    · exact
        sound_ite (sound_ite (sound_modPort h) h)
          (sound_ite (sound_rxDiscard (sound_ite (sound_modPort h) h))
             (sound_ite (sound_safeCopies (sound_hist (sound_rxStore (sound_ite (sound_modPort h) h))))
                (sound_hist (sound_rxStore (sound_ite (sound_modPort h) h)))))
theorem sound_cycleAt {own l p ofs now} (h : sound own l) :
    sound own (cycleAt l p ofs now) := sound_modPort h
theorem sound_adopt {own l p f fromLO now} (h : sound own l) :
    sound own (adopt l p f fromLO now) :=
        sound_setPort (sound_modPort (sound_cycleAt (sound_wr (sound_wr (sound_wr h)))))
theorem sound_cycleTransition {own l p c} (h : sound own l) :
    sound own (cycleTransition l p c) := by
  unfold cycleTransition
  extract_lets _ _ _ _ _ m1
  have k1 : sound own m1 := sound_modPort h
  split
  · split
    · split
      · exact sound_setPort h
      · exact sound_setPort h
    · exact h
  · split
    · split
      · split
        · exact sound_setPort h
        · exact sound_coldFail h
      · exact h
    · split
      · split
        · exact sound_setPort k1
        · split
          · exact sound_setPort (sound_bump k1)
          · exact k1
      · exact h
theorem sound_txrdyWrite {own l k v} (h : sound own l) :
    sound own (txrdyWrite l k v) :=
        sound_command h (fun _ _ h1 => sound_foldl (fun _ _ h2 => sound_ite (sound_setTxReady h2) h2) (sound_wr h1))
theorem sound_rxqRead {own l p} (h : sound own l) :
    sound own (rxqRead l p).1 := by
  unfold rxqRead
  extract_lets 
  split
  · exact sound_modPort h
  · exact sound_modPort h
theorem sound_safeqRead {own l} (h : sound own l) :
    sound own (safeqRead l).1 := by
  unfold safeqRead
  extract_lets 
  split
  · exact h
  · exact h
theorem sound_substituted {own l slot} (h : sound own l) :
    sound own (substituted l slot) := sound_count (sound_raiseAt (sound_irqPulse (sound_wr h)))
theorem sound_sampleInput {own s0 slot p now c r e} (h : sound own r.1) :
    sound own (sampleInput s0 slot p now c r e).1 := sound_ite (sound_substituted (sound_modLoop (sound_engStore h))) (sound_modLoop (sound_engStore h))
theorem sound_sampleStage {own l slot rot c now} (h : sound own l) :
    sound own (sampleStage l slot rot c now) := by
  unfold sampleStage
  extract_lets p r
  have k : sound own r.1 :=
      foldl_keeps (fun r : LaneState × Nat => sound own r.1) (fun _ _ => sound_sampleInput) _ (l , 0) h
  exact sound_engStore (sound_engStore (sound_engStore (sound_engStore k)))
theorem sound_launchOuts {own l phases strata duplex} (h : sound own l) :
    sound own (launchOuts l phases strata duplex) :=
        sound_strataLaunch (sound_foldl (fun _ _ h1 => sound_ite h1 (sound_sendDown h1)) h)
theorem sound_modSieve {own l f} (h : sound own l) :
    sound own (modSieve l f) := h
theorem sound_cmdsCount {own l} (h : sound own l) :
    sound own (cmdsCount l) :=
        sound_ite (sound_arise (sound_ite (sound_arise (sound_modSieve h)) (sound_modSieve h)))
          (sound_ite (sound_arise (sound_modSieve h)) (sound_modSieve h))
theorem sound_bufMoved {own l i b} (h : sound own l) :
    sound own (bufMoved l i b) :=
        sound_ite (sound_foldl (fun _ _ h1 => sound_wr h1) (sound_modSieve (sound_wr (sound_modSieve h))))
          (sound_ite
             (sound_ite (sound_cmdsCount (sound_modSieve (sound_wr (sound_modSieve h))))
                (sound_modSieve (sound_wr (sound_modSieve h))))
             (sound_ite (sound_put (sound_wr (sound_modSieve h)))
                (sound_ite (sound_trkRestart (by split; exacts [sound_put (sound_modSieve h), sound_modSieve h]))
                   (by split; exacts [sound_put (sound_modSieve h), sound_modSieve h]))))
theorem sound_placeBuffer {own first l i} (h : sound own l) :
    sound own (placeBuffer first l i) :=
        sound_ite h (sound_ite (sound_raise (sound_ite h (sound_bufMoved h))) (sound_ite h (sound_bufMoved h)))
theorem sound_placeBuffers {own l first} (h : sound own l) :
    sound own (placeBuffers l first) := sound_foldl (fun _ _ h1 => sound_placeBuffer h1) h
theorem sound_acceptCmd {own l op} (h : sound own l) :
    sound own (acceptCmd l op) :=
        sound_ite (sound_modSieve (sound_wr (sound_modSieve h))) (sound_arise (sound_wr (sound_modSieve h)))
theorem sound_plcCmdWrite {own l v} (h : sound own l) :
    sound own (plcCmdWrite l v) :=
        sound_command h (fun _ _ h1 => sound_ite h1 (sound_ite (sound_modSieve h1) (sound_acceptCmd h1)))
theorem sound_loadCells {own l c st coef} (h : sound own l) :
    sound own (loadCells l c st coef) :=
        sound_foldl (fun _ _ h1 => sound_foldl (fun _ _ h2 => sound_engStore h2) h1)
          (sound_foldl (fun _ _ h1 => sound_engStore h1) h)
theorem sound_loadCold {own l c} (h : sound own l) :
    sound own (loadCold l c) := sound_engStore (sound_engStore (sound_engStore (sound_engStore (sound_loadCells h))))
theorem sound_loadSnap {own l c} (h : sound own l) :
    sound own (loadSnap l c) := by
  unfold loadSnap
  split; exacts [sound_foldl (fun _ _ h1 => sound_engStore h1) (sound_loadCells h), h]
theorem sound_writePending {own l plan starts} (h : sound own l) :
    sound own (writePending l plan starts) := by
  unfold writePending
  extract_lets _ _ _ _ m1 m2
  have k1 : sound own m1 := sound_foldl (fun _ _ h1 => sound_put (sound_put (sound_put (sound_put (sound_put h1))))) h
  have k2 : sound own m2 := sound_foldl (fun _ _ h2 => sound_ite (sound_wr (sound_wr h2)) (sound_put h2)) k1
  exact
      sound_foldl
        (fun _ _ h3 =>
           sound_foldl (fun _ _ h4 => sound_wr h4) (by split; exacts [sound_put (sound_put h3), sound_put h3])) k2
theorem sound_runFinish {own l} (h : sound own l) :
    sound own (runFinish l) :=
        sound_ite (sound_put (sound_modSieve h)) (sound_acceptCmd (sound_put (sound_modSieve h)))
theorem sound_lastRun {own l r res} (h : sound own l) :
    sound own (lastRun l r res) := sound_put (sound_put (sound_put h))
theorem sound_runEnd {own l r res} (h : sound own l) :
    sound own (runEnd l r res) := by
  unfold runEnd
  extract_lets m1 m2 m3 m4
  have k1 : sound own m1 := sound_lastRun h
  have k2 : sound own m2 := sound_ite k1 (sound_wr k1)
  have k3 : sound own m3 := sound_ite (sound_irqPulse k2) k2
  have k4 : sound own m4 := sound_ite (sound_raise k3) k3
  exact sound_arise (sound_runFinish (sound_modSieve k4))
theorem sound_sendInput {own l run held byB} (h : sound own l) :
    sound own (sendInput l run held byB) := sound_sendPlace h
theorem sound_toLoad {own l r lead} (h : sound own l) :
    sound own (toLoad l r lead) := sound_modSieve h
theorem sound_compareResult {own l r digest lead} (h : sound own l) :
    sound own (compareResult l r digest lead) := sound_ite (sound_toLoad h) (sound_runEnd h)
theorem sound_sendPlcstate {own l} (h : sound own l) :
    sound own (sendPlcstate l) := sound_foldl (fun _ _ h1 => sound_sendPlace h1) h
theorem sound_postBridge {own l n off w} (h : sound own l) :
    sound own (postBridge l n off w) := sound_ite h (sound_sendDown h)
theorem sound_sendMirror {own l c ws} (h : sound own l) :
    sound own (sendMirror l c ws) := sound_foldl (fun _ _ h1 => sound_llReady h1) h
theorem sound_sendSnap {own l c} (h : sound own l) :
    sound own (sendSnap l c) := sound_count (sound_sendMirror (sound_sendPlace h))
theorem sound_setBase {own l c base} (h : sound own l) :
    sound own (setBase l c base) := sound_modSieve h
theorem sound_runSnapshot {own l paired c} (h : sound own l) :
    sound own (runSnapshot l paired c) :=
        sound_ite h
          (sound_ite (sound_sendSnap h)
             (sound_ite
                (by split; exacts [sound_ite (sound_sendSnap (sound_setBase h)) h, sound_sendSnap (sound_setBase h)])
                h))
theorem sound_mirrorFrame {own l c ofs ws} (h : sound own l) :
    sound own (mirrorFrame l c ofs ws) := by
  unfold mirrorFrame
  split
  · exact sound_ite h
            (sound_ite (sound_modSieve (sound_dmaPutBytes h)) (sound_wr (sound_modSieve (sound_dmaPutBytes h))))
  · exact h
theorem sound_localCommits {own l} (h : sound own l) :
    sound own (localCommits l) := by
  unfold localCommits
  extract_lets n1 n2
  have k1 : sound own n1 := sound_foldl (fun m c k => by
    split
    · extract_lets p l1 a w l2
      have k2 : sound own l2 := sound_of_same rfl rfl (sound_loadSnap k)
      exact sound_ite (sound_sendPlace (sound_put k2)) k
    · exact k) h
  have k2 : sound own n2 := sound_ite k1 (sound_irqPulse k1)
  exact sound_ite (sound_raise k2) k2
theorem sound_plcLog {own l c old new start cause trig fn} (h : sound own l) :
    sound own (plcLog l c old new start cause trig fn) := by
  unfold plcLog
  split; exacts [h, sound_put (sound_dmaPutBytes h)]
theorem sound_setPlcrep {own r skip full l c} (h : sound own l) :
    sound own (setPlcrep r skip full l c) := by
  unfold setPlcrep
  extract_lets _ _ _ _ m1 _ m2 m3 m4 m5
  have k1 : sound own m1 := sound_wr h
  have k2 : sound own m2 := sound_ite (sound_count (sound_raise (sound_irqPulse k1))) k1
  have k3 : sound own m3 := sound_ite (sound_count k2) k2
  have k4 : sound own m4 := sound_ite (sound_irqPulse k3) k3
  have k5 : sound own m5 := sound_ite (sound_trkContext k4) k4
  split
  · exact k5
  · exact sound_plcLog k5
theorem sound_redirects {own l r} (h : sound own l) :
    sound own (redirects l r) :=
        sound_foldl
          (fun _ _ h1 =>
             sound_ite (sound_modSieve (sound_put h1))
               (sound_ite h1 (by split; exacts [sound_modSieve (sound_put h1), h1]))) h
theorem sound_pairLoads {own l plan} (h : sound own l) :
    sound own (pairLoads l plan) := sound_foldl (fun _ _ h1 => sound_put h1) h
theorem sound_placementEffect {own l r ramps} (h : sound own l) :
    sound own (placementEffect l r ramps) := by
  unfold placementEffect
  extract_lets _ _ _ _ _ _ m1 m2 m3 _ m4 m5 m6 _ m7
  have k1 : sound own m1 := sound_modLoop h
  have k2 : sound own m2 := sound_modSieve k1
  have k3 : sound own m3 := sound_foldl (fun _ _ h3 => sound_setPlcrep h3) k2
  have k4 : sound own m4 := sound_put (sound_put k3)
  have k5 : sound own m5 := sound_wr (sound_lastRun (sound_bump k4))
  have k6 : sound own m6 := sound_redirects (sound_pairLoads (sound_wr k5))
  have k7 : sound own m7 := sound_modSieve k6
  exact sound_runFinish (sound_count (sound_irqPulse k7))
theorem sound_leRun {own l} (h : sound own l) :
    sound own (leRun l) := sound_ite (sound_modLoop (sound_put h)) h
theorem sound_leCtlWrite {own l v} (h : sound own l) :
    sound own (leCtlWrite l v) := sound_command h (fun _ _ h1 => sound_leRun h1)
theorem sound_applyCommit {own l} (h : sound own l) :
    sound own (applyCommit l) :=
        sound_ite h
          (sound_ite (sound_raise (sound_irqPulse (sound_foldl (fun _ _ h1 => sound_put h1) (sound_put h))))
             (sound_irqPulse (sound_foldl (fun _ _ h1 => sound_put h1) (sound_put h))))
theorem sound_firstFrame {own l peerRuns} (h : sound own l) :
    sound own (firstFrame l peerRuns) := sound_modLoop h
theorem sound_advanceFn {own l} (h : sound own l) :
    sound own (advanceFn l) := sound_wr (sound_wr (sound_modLoop h))
theorem sound_trkToggle {own l c k} (h : sound own l) :
    sound own (trkToggle l c k) := sound_ite (sound_trkCollect (sound_modTracker (sound_trkResult (sound_put h)))) h
theorem sound_toggleBank {own l c} (h : sound own l) :
    sound own (toggleBank l c) :=
        sound_foldl (fun _ _ h1 => sound_trkToggle h1) (sound_count (sound_irqPulse (sound_put (sound_put h))))
theorem sound_rotate {own l} (h : sound own l) :
    sound own (rotate l) := sound_modLoop (sound_foldl (fun _ _ h1 => sound_put h1) h)
theorem sound_frameEnd {own l next} (h : sound own l) :
    sound own (frameEnd l next) := sound_modLoop (sound_ite (sound_put h) h)
theorem sound_frameBegin {own l now lateCommit lateSwaps} (h : sound own l) :
    sound own (frameBegin l now lateCommit lateSwaps) := by
  unfold frameBegin
  extract_lets m1 m2 m3 _ m4 m5
  have k1 : sound own m1 := sound_modLoop (sound_frameEnd h)
  have k2 : sound own m2 := sound_localCommits (sound_ite k1 (sound_applyCommit k1))
  have k3 : sound own m3 := sound_advanceFn k2
  have k4 : sound own m4 := sound_rotate (sound_foldl (fun _ _ h4 => sound_toggleBank h4) k3)
  have k5 : sound own m5 := sound_count (sound_irqPulse k4)
  exact sound_llReady k5
theorem sound_frameStop {own l} (h : sound own l) :
    sound own (frameStop l) := sound_modLoop (sound_put (sound_put (sound_frameEnd h)))
theorem sound_setRun {own l r} (h : sound own l) :
    sound own (setRun l r) := sound_modLoop h
theorem sound_snapshot {own l k rot now} (h : sound own l) :
    sound own (snapshot l k rot now) :=
        sound_ite (sound_abort (sound_modEng (sound_setRun (sound_modLoop h))))
          (sound_modEng (sound_setRun (sound_modSieve (sound_sampleStage (sound_modLoop h)))))
theorem sound_writeBackAg {own l c} (h : sound own l) :
    sound own (writeBackAg l c) := sound_engStore (sound_engStore h)
theorem sound_endSlot {own l paired now r} (h : sound own l) :
    sound own (endSlot l paired now r) :=
        sound_runSnapshot
          (sound_srcUpdate
             (sound_slotMsg (sound_count (sound_runStage (sound_exitRecord (sound_writeBackAg (sound_modEng h)))))))
theorem sound_overrun {own l r} (h : sound own l) :
    sound own (overrun l r) := sound_abort (sound_modEng h)
theorem sound_outputs {own l r} (h : sound own l) :
    sound own (outputs l r) := sound_ite (sound_abortReport (sound_put h)) (sound_modLoop (sound_trkSample h))
theorem sound_launch {own l v1} (h : sound own l) :
    sound own (launch l v1) :=
        sound_ite (sound_launchOuts h)
          (sound_ite (sound_dupCompare (sound_llReady (sound_launchOuts h))) (sound_llReady (sound_launchOuts h)))
theorem sound_modSns {own l p f} (h : sound own l) :
    sound own (modSns l p f) := sound_modFeed h
theorem sound_portEvt {own l p i} (h : sound own l) :
    sound own (portEvt l p i) := sound_latchEvt h
theorem sound_portEvtIrq {own l p} (h : sound own l) :
    sound own (portEvtIrq l p) := sound_irqLevel h
theorem sound_pevtRead {own l p} (h : sound own l) :
    sound own (pevtRead l p).1 := sound_portEvtIrq (sound_wr h)
theorem sound_sensed {own l p c v now} (h : sound own l) :
    sound own (sensed l p c v now) := sound_srcUpdate (sound_wr h)
theorem sound_frameDiscard {own l p cause} (h : sound own l) :
    sound own (frameDiscard l p cause) := sound_portEvt (sound_count (sound_raise (sound_modSns (sound_bump h))))
theorem sound_frameAccept {own l p} (h : sound own l) :
    sound own (frameAccept l p) := sound_xfrLatch (sound_count (sound_bump h))
theorem sound_slowNibble {own l p st now} (h : sound own l) :
    sound own (slowNibble l p st now) := by
  unfold slowNibble
  dsimp only
  split
  · exact sound_modSns h
  · exact sound_portEvt (sound_modSns h)
  · exact sound_portEvt (sound_count (sound_sensed (sound_wr (sound_modSns h))))
theorem sound_sentValues {own l p now ns} (h : sound own l) :
    sound own (sentValues l p now ns) :=
        sound_slowNibble (sound_sensed (sound_sensed (sound_sensed (sound_frameAccept h))))
theorem sound_modAdc {own l f} (h : sound own l) :
    sound own (modAdc l f) := sound_modFeed h
theorem sound_adcShow {own l} (h : sound own l) :
    sound own (adcShow l) := sound_irqLevel (sound_put (sound_put h))
theorem sound_adcScan {own l} (h : sound own l) :
    sound own (adcScan l) := sound_ite h (sound_adcShow (sound_modAdc h))
theorem sound_adcStart {own l} (h : sound own l) :
    sound own (adcStart l) := sound_ite h (sound_ite (sound_adcScan h) (sound_count (sound_bump h)))
theorem sound_adcstartWrite {own l v} (h : sound own l) :
    sound own (adcstartWrite l v) :=
        sound_command h (fun _ _ h1 => sound_ite (sound_adcStart (sound_wr h1)) (sound_wr h1))
theorem sound_adcPush {own l k v} (h : sound own l) :
    sound own (adcPush l k v) :=
        sound_ite (sound_modAdc h) (sound_count (sound_irqPulse (sound_raise (sound_bump (sound_modAdc h)))))
theorem sound_adcStop {own l} (h : sound own l) :
    sound own (adcStop l) := sound_put (sound_put (sound_modAdc h))
theorem sound_adcRun {own l} (h : sound own l) :
    sound own (adcRun l) := sound_put h
theorem sound_adcfifoRead {own l} (h : sound own l) :
    sound own (adcfifoRead l).1 := sound_adcShow (sound_modAdc h)
theorem sound_modCan {own l n f} (h : sound own l) :
    sound own (modCan l n f) := h
theorem sound_setCanState {own l n v} (h : sound own l) :
    sound own (setCanState l n v) := sound_ite h (sound_irqLevel (sound_irqPulse (sound_put h)))
theorem sound_canCounted {own l n tec rec_} (h : sound own l) :
    sound own (canCounted l n tec rec_) := sound_setCanState (sound_put (sound_put h))
theorem sound_canShow {own l n} (h : sound own l) :
    sound own (canShow l n) := sound_irqLevel (sound_put h)
theorem sound_txreqWrite {own l n drop v} (h : sound own l) :
    sound own (txreqWrite l n drop v) := sound_command h (fun _ _ h1 => h1)
theorem sound_txabortWrite {own l n bus v} (h : sound own l) :
    sound own (txabortWrite l n bus v) :=
        sound_command h (fun _ _ h1 => sound_foldl (fun _ _ h2 => sound_put (sound_put h2)) (sound_wr h1))
theorem sound_canReceive {own l n f ts} (h : sound own l) :
    sound own (canReceive l n f ts) := by
  unfold canReceive
  dsimp only
  split
  · exact sound_count h
  · exact sound_ite (sound_canShow (sound_modCan (sound_count h))) (sound_irqPulse (sound_bump (sound_count h)))
theorem sound_canRxErrors {own l n errs} (h : sound own l) :
    sound own (canRxErrors l n errs) := sound_foldl (fun _ _ h1 => sound_canCounted (sound_count h1)) h
theorem sound_rxpopWrite {own l n v} (h : sound own l) :
    sound own (rxpopWrite l n v) :=
        sound_command h (fun _ _ h1 => sound_ite (sound_canShow (sound_modCan (sound_wr h1))) (sound_wr h1))
theorem sound_canRecover {own l n} (h : sound own l) :
    sound own (canRecover l n) := sound_ite (sound_canCounted h) h
theorem sound_canRestart {own l n} (h : sound own l) :
    sound own (canRestart l n) := sound_ite (sound_canRecover h) h
theorem sound_canRun {own l n} (h : sound own l) :
    sound own (canRun l n) := sound_canRestart (sound_modCan h)
theorem sound_modEth {own l f} (h : sound own l) :
    sound own (modEth l f) := h
theorem sound_ptpSet {own l tick frac ns} (h : sound own l) :
    sound own (ptpSet l tick frac ns) :=
        sound_ite (sound_irqPulse (sound_wr (sound_wr (sound_modEth h)))) (sound_wr (sound_wr (sound_modEth h)))
theorem sound_ptpAdvance {own l tick} (h : sound own l) :
    sound own (ptpAdvance l tick) := sound_ptpSet h
theorem sound_ptpincrWrite {own l tick v} (h : sound own l) :
    sound own (ptpincrWrite l tick v) := sound_command (sound_ite (sound_ptpAdvance h) h) (fun _ _ h1 => h1)
theorem sound_ptpadjWrite {own l tick sameTick v} (h : sound own l) :
    sound own (ptpadjWrite l tick sameTick v) :=
        sound_command h (fun _ _ h1 => sound_ite (sound_put h1) (sound_ptpSet h1))
theorem sound_txCheck {own l} (h : sound own l) :
    sound own (txCheck l) := sound_modEth h
theorem sound_ethRun {own l} (h : sound own l) :
    sound own (ethRun l) := sound_txCheck (sound_modEth h)
theorem sound_txpollWrite {own l v} (h : sound own l) :
    sound own (txpollWrite l v) :=
        sound_command h (fun _ _ h1 => sound_ite (sound_txCheck (sound_wr h1)) (sound_wr h1))
theorem sound_ethForces {own l d} (h : sound own l) :
    sound own (ethForces l d) := sound_snoopAll (sound_snoopAll h)
theorem sound_ethWriteBack {own l d len err tsv w1 ns sec} (h : sound own l) :
    sound own (ethWriteBack l d len err tsv w1 ns sec) := sound_dmaStore (sound_dmaStore (sound_dmaStore h))
theorem sound_ethTransmit {own l stamp busErr free} (h : sound own l) :
    sound own (ethTransmit l stamp busErr free) := by
  unfold ethTransmit
  extract_lets _ _ _ _ _ _ _ _ _ m1 m2 m3 m4 m5
  have k1 : sound own m1 := sound_ethWriteBack h
  have k2 : sound own m2 := sound_modEth k1
  have k3 : sound own m3 := sound_irqPulse k2
  have k4 : sound own m4 := sound_ite (sound_count (sound_bump k3)) k3
  have k5 : sound own m5 := sound_ite (sound_raise k4) k4
  exact sound_txCheck k5
theorem sound_ethDrop {own l counter} (h : sound own l) :
    sound own (ethDrop l counter) := sound_count (sound_irqPulse (sound_bump h))
theorem sound_ethStore {own l body ns sec busErr} (h : sound own l) :
    sound own (ethStore l body ns sec busErr) :=
        sound_ite (sound_raise (sound_modEth (sound_ethWriteBack (sound_dmaPutBytes h))))
          (sound_count (sound_irqPulse (sound_bump (sound_modEth (sound_ethWriteBack (sound_dmaPutBytes h))))))
theorem sound_modPower {own l f} (h : sound own l) :
    sound own (modPower l f) := h
theorem sound_entryEnds {own l target reason refuser} (h : sound own l) :
    sound own (entryEnds l target reason refuser) :=
        sound_count (sound_irqPulse (sound_modPower (sound_put (sound_wr (sound_bump h)))))
theorem sound_checkpointAll {own l} (h : sound own l) :
    sound own (checkpointAll l) := sound_foldl (fun _ _ h1 => sound_ckptCommit (sound_ckptRequest h1)) h
theorem sound_enterDoze {own l} (h : sound own l) :
    sound own (enterDoze l) := sound_count (sound_modPower (sound_put (sound_checkpointAll h)))
theorem sound_parkSign {own l} (h : sound own l) :
    sound own (parkSign l) := sound_modPower (sound_put (sound_foldl (fun _ _ h1 => sound_ite (sound_wr h1) h1) h))
theorem sound_parkCommit {own l} (h : sound own l) :
    sound own (parkCommit l) := by
  unfold parkCommit
  extract_lets m1 m2 m3
  have k1 : sound own m1 := sound_writeBack (sound_checkpointAll h)
  have k2 : sound own m2 := sound_krecWrite k1
  have k3 : sound own m3 := sound_put (sound_kilnLive k2)
  split
  · exact sound_parkSign (sound_put (sound_kilnLive (sound_krecWrite k1)))
  · exact sound_modPower (sound_sliceStart k3)
theorem sound_entryCheck {own l} (h : sound own l) :
    sound own (entryCheck l) := sound_ite h (sound_ite (sound_enterDoze h) (sound_ite (sound_parkCommit h) h))
theorem sound_abortEntry {own l who us} (h : sound own l) :
    sound own (abortEntry l who us) :=
        sound_ite h
          (sound_entryEnds
             (sound_ite
                (sound_kilnLive
                   (sound_kilnEnd
                      (sound_count
                         (sound_irqPulse
                            (sound_put
                               (sound_bump
                                  (by split; exacts [sound_krecWrite (sound_sliceRecord h), sound_krecWrite h])))))))
                h))
theorem sound_parkAbort {own l who} (h : sound own l) :
    sound own (parkAbort l who) := sound_ite (sound_modPower h) (sound_abortEntry h)
theorem sound_powerDown {own l retainNone} (h : sound own l) :
    sound own (powerDown l retainNone) := sound_modPower (sound_put h)
theorem sound_wakeGo {own l i j f} (h : sound own l) (hf : ∀ m0, sound own m0 → sound own (f m0)) :
    sound own (wakeGo l i j f) := sound_ite (sound_modPower (hf _ h)) h
theorem sound_xtalFallback {own l} (h : sound own l) :
    sound own (xtalFallback l) := sound_bump (sound_put (sound_put h))
theorem sound_xtalLive {own l} (h : sound own l) :
    sound own (xtalLive l) := sound_irqLevel (sound_setLive h)
theorem sound_opRefuse {own l page reg val other} (h : sound own l) :
    sound own (opRefuse l page reg val other) :=
        sound_irqPulse (sound_put (sound_put (sound_put (sound_bump (sound_put h)))))
theorem sound_fselWrite {own l v} (h : sound own l) :
    sound own (fselWrite l v) :=
        sound_ite h
          (sound_ite (sound_put h)
             (sound_ite (sound_opRefuse (sound_abandonLock h)) (sound_put (sound_put (sound_abandonLock h)))))
theorem sound_vselWrite {own l v} (h : sound own l) :
    sound own (vselWrite l v) :=
        sound_ite h
          (sound_ite (sound_put h)
             (sound_ite (sound_opRefuse (sound_abandonLock h)) (sound_put (sound_put (sound_abandonLock h)))))
theorem sound_lostbankWrite {own l high v} (h : sound own l) :
    sound own (lostbankWrite l high v) := by
  unfold lostbankWrite
  extract_lets _ m1 m2
  have k1 : sound own m1 := sound_abandonLock h
  have k2 : sound own m2 := sound_foldl (fun _ _ h2 => sound_ite h2 (sound_ite (sound_put h2) (sound_wr h2))) k1
  split
  · exact h
  · split
    · exact sound_put h
    · split
      · exact k2
      · exact sound_setLive k2
theorem sound_wakestatWrite {own l v} (h : sound own l) :
    sound own (wakestatWrite l v) := sound_command h (fun _ _ h1 => sound_ite (sound_setLive h1) h1)
theorem sound_wstatIrq {own l} (h : sound own l) :
    sound own (wstatIrq l) := sound_irqLevel h
theorem sound_wakeCode {own l code} (h : sound own l) :
    sound own (wakeCode l code) :=
        sound_count (sound_wstatIrq (sound_put (sound_put (sound_put (sound_ite (sound_put h) h)))))
theorem sound_gevtIrq {own l} (h : sound own l) :
    sound own (gevtIrq l) := sound_foldl (fun _ _ h1 => sound_irqLevel h1) h
theorem sound_gpioEdge {own l k level} (h : sound own l) :
    sound own (gpioEdge l k level) :=
        sound_ite h
          (sound_ite (sound_count (sound_aplicLevel h))
             (sound_count (sound_gevtIrq (sound_put (sound_count (sound_aplicLevel h))))))
theorem sound_goutsetWrite {own l v} (h : sound own l) :
    sound own (goutsetWrite l v) := sound_command h (fun _ _ h1 => sound_wr h1)
theorem sound_goutclrWrite {own l v} (h : sound own l) :
    sound own (goutclrWrite l v) := sound_command h (fun _ _ h1 => sound_wr h1)
theorem sound_modX {own l c f} (h : sound own l) :
    sound own (modX l c f) := h
theorem sound_setChn {own l c v} (h : sound own l) :
    sound own (setChn l c v) := sound_irqLevel (sound_put h)
theorem sound_chnStart {own l c} (h : sound own l) :
    sound own (chnStart l c) := by
  unfold chnStart
  split; exacts [sound_setChn h, sound_setChn (sound_modX h)]
theorem sound_chctrlWrite {own l c v} (h : sound own l) :
    sound own (chctrlWrite l c v) :=
        sound_command h (fun _ _ h1 => sound_ite (sound_setChn h1) (sound_ite (sound_chnStart h1) h1))
theorem sound_chkickWrite {own l c v} (h : sound own l) :
    sound own (chkickWrite l c v) :=
        sound_command h
          (fun _ _ h1 =>
             sound_ite (sound_wr h1)
               (sound_ite (sound_setChn (sound_wr h1)) (sound_ite (sound_modX (sound_wr h1)) (sound_wr h1))))
theorem sound_ringWrite {own l c a v} (h : sound own l) :
    sound own (ringWrite l c a v) := sound_command h (fun _ _ h1 => sound_ite h1 (sound_put h1))
theorem sound_xfrRun {own l} (h : sound own l) :
    sound own (xfrRun l) :=
        sound_foldl
          (fun _ _ h1 => sound_ite (sound_chnStart (sound_ite h1 (sound_put h1))) (sound_ite h1 (sound_put h1))) h
theorem sound_xfrStop {own l} (h : sound own l) :
    sound own (xfrStop l) := sound_foldl (fun _ _ h1 => sound_ite h1 (sound_setChn h1)) h
theorem sound_mpcmdWrite {own l v} (h : sound own l) :
    sound own (mpcmdWrite l v) :=
        sound_command h
          (fun _ _ h1 =>
             sound_ite (sound_put h1) (sound_ite h1 (sound_ite (sound_put h1) (sound_put (sound_setDword h1)))))
theorem sound_takeDown {own l p} (h : sound own l) :
    sound own (takeDown l p) := h
theorem sound_aplicSetIp {own l i} (h : sound own l) :
    sound own (aplicSetIp l i) := sound_ite h (sound_aplicPend h)
theorem sound_aplicClear {own l r i} (h : sound own l) :
    sound own (aplicClear l r i) := sound_wr h
theorem sound_aplicEnable {own l i} (h : sound own l) :
    sound own (aplicEnable l i) := sound_ite (sound_aplicForward (sound_wr h)) h
theorem sound_aplicWrite {own l a v} (h : sound own l) :
    sound own (aplicWrite l a v) := by
  unfold aplicWrite
  exact
      sound_ite (sound_foldl (fun _ _ h1 => sound_aplicForward h1) (sound_wr h))
        (sound_ite
           (sound_ite
              (sound_aplicPend (sound_ite (sound_wr (sound_aplicClear (sound_aplicClear (sound_wr h)))) (sound_wr h)))
              (sound_ite (sound_wr (sound_aplicClear (sound_aplicClear (sound_wr h)))) (sound_wr h)))
           (sound_ite (sound_foldl (fun _ _ h1 => sound_aplicSetIp h1) h)
              (sound_ite (sound_ite (sound_aplicSetIp h) h)
                 (sound_ite (sound_foldl (fun _ _ h1 => sound_aplicClear h1) h)
                    (sound_ite (sound_ite (sound_aplicClear h) h)
                       (sound_ite (sound_foldl (fun _ _ h1 => sound_aplicEnable h1) h)
                          (sound_ite (sound_ite (sound_aplicEnable h) h)
                             (sound_ite (sound_foldl (fun _ _ h1 => sound_aplicClear h1) h)
                                (sound_ite (sound_ite (sound_aplicClear h) h)
                                   (sound_ite (sound_ite h h)
                                      (sound_ite (sound_ite (sound_aplicForward (sound_wr h)) h) h)))))))))))
theorem sound_setReadShadow {own l g a w} (h : sound own l) :
    sound own (setReadShadow l g a w) := h
theorem sound_setWriteShadow {own l g a w} (h : sound own l) :
    sound own (setWriteShadow l g a w) := h
theorem sound_counterRead {own l g a peek} (h : sound own l) :
    sound own (counterRead l g a peek).1 := by
  unfold counterRead
  split
  · exact sound_setReadShadow h
  · split <;> exact h
theorem sound_blockInit {own l page now} (h : sound own l) :
    sound own (blockInit l page now) := by
  unfold blockInit
  extract_lets _ _ m1 _ _ m2
  have k1 : sound own m1 := h
  have k2 : sound own m2 := h
  split
  · exact h
  · exact sound_foldl (fun _ _ h3 => sound_put h3) k1
  · exact h
  · exact h
  · exact sound_setLive (sound_setLive k2)
  · exact sound_foldl (fun _ _ h3 => sound_ite (sound_ckptRequest (sound_modPair h3)) (sound_modPair h3)) h
  · exact h
  · exact h
  · exact h
  · exact h
  · exact h
  · exact h
  · exact h
  · exact h
  · exact h
  · exact h
  · exact h
  · exact h
  · exact h
  · exact h
theorem sound_softReset {own l page now} (h : sound own l) :
    sound own (softReset l page now) := by
  unfold softReset
  extract_lets b l1 _ kept l2 l3 l4
  have k1 : sound own l1 := sound_ite (sound_portDrop (sound_portDrop h)) h
  have k4 : sound own l4 := sound_of_same rfl rfl k1
  exact sound_ite (sound_put h) (sound_foldl (fun _ _ => sound_put) (sound_blockInit k4))
theorem sound_blockStart {own l page} (h : sound own l) :
    sound own (blockStart l page) := by
  unfold blockStart
  extract_lets _ m1
  have k1 : sound own m1 := sound_put h
  split
  · exact sound_leRun h
  · split
    · split
      · exact sound_xfrRun h
      · exact sound_canRestart h
      · exact sound_canRestart h
      · exact h
    · split
      · exact sound_placeBuffers k1
      · exact sound_xfrRun k1
      · exact sound_windowsRestart k1
      · exact sound_windowsRestart k1
      · exact sound_adcRun k1
      · exact sound_canRun k1
      · exact sound_canRun k1
      · exact sound_ethRun k1
      · exact k1
theorem sound_blockStopAsked {own l page now} (h : sound own l) :
    sound own (blockStopAsked l page now) := by
  unfold blockStopAsked
  split
  · exact sound_xfrStop h
  · exact sound_foldl (fun _ _ h1 => sound_fbkFreeze h1) h
  · exact sound_foldl (fun _ _ h1 => sound_fbkFreeze h1) h
  · exact sound_put h
  · exact h
theorem sound_blkctrlWrite {own l page now v} (h : sound own l) :
    sound own (blkctrlWrite l page now v) :=
        sound_command (sound_ite (sound_blockStopAsked h) h)
          (fun _ _ h1 =>
             sound_ite (sound_softReset (sound_ite h1 (sound_ite (sound_blockStart h1) h1)))
               (sound_ite h1 (sound_ite (sound_blockStart h1) h1)))
theorem sound_blockStopped {own l page} (h : sound own l) :
    sound own (blockStopped l page) :=
        sound_ite h
          (by
             split
             · exact sound_ite h (sound_put h)
             · exact sound_frameStop h
             · exact sound_ite (sound_put h) h
             · exact sound_ite (sound_adcShow (sound_adcStop h)) h
             · exact sound_ite (sound_put h) h
             · exact sound_put (sound_modCan h)
             · exact sound_put (sound_modCan h)
             · exact sound_ite (sound_put h) h)
theorem sound_plainWrite {own l a v f} (h : sound own l) (hf : ∀ m0, sound own m0 → sound own (f m0)) :
    sound own (plainWrite l a v f) := sound_command h (fun _ _ h2 => hf _ h2)
theorem sound_blockWrite {own l a now free v} (h : sound own l) :
    sound own (blockWrite l a now free v) := by
  unfold blockWrite
  split
  · exact sound_ite (sound_mpcmdWrite h) (sound_plainWrite h (fun _ h1 => h1))
  · exact sound_ite (sound_fselWrite h) (sound_plainWrite h (fun _ h1 => h1))
  · exact sound_ite (sound_vselWrite h)
            (sound_ite (sound_lostbankWrite h)
               (sound_ite (sound_lostbankWrite h)
                  (sound_ite (sound_wakestatWrite h) (sound_plainWrite h (fun _ h1 => h1)))))
  · exact sound_ite (sound_clrcmdWrite h) (sound_plainWrite h (fun _ h1 => h1))
  · exact sound_ite (sound_plcCmdWrite h) (sound_plainWrite h (fun _ h1 => h1))
  · exact by
            split
            exacts [sound_trkcfgWrite h, by split; exacts [sound_trkackWrite h, sound_plainWrite h (fun _ h1 => h1)]]
  · exact sound_ite (sound_paircmdWrite h) (sound_plainWrite h (fun _ h1 => h1))
  · exact by
            split
            · exact sound_chctrlWrite h
            · exact by
                      split
                      · exact sound_chkickWrite h
                      · exact by
                                split
                                · exact sound_ringWrite h
                                · exact by split; exacts [sound_ringWrite h, sound_plainWrite h (fun _ h1 => h1)]
  · exact by
            split
            exacts [sound_plainWrite h (fun _ h1 => sound_outcfgEffect h1), sound_plainWrite h (fun _ h1 => h1)]
  · exact by
            split
            · exact sound_chanCfgWrite h
            · exact by
                      split
                      · exact sound_chanCfgWrite h
                      · exact by
                                split
                                · exact sound_chanCfgWrite h
                                · exact by
                                          split
                                          · exact sound_plainWrite h (fun _ h1 => sound_chEvtIrq h1)
                                          · exact sound_plainWrite h (fun _ h1 => h1)
  · exact by
            split
            · exact sound_chanCfgWrite h
            · exact by
                      split
                      · exact sound_chanCfgWrite h
                      · exact by
                                split
                                · exact sound_chanCfgWrite h
                                · exact by
                                          split
                                          · exact sound_plainWrite h (fun _ h1 => sound_chEvtIrq h1)
                                          · exact sound_plainWrite h (fun _ h1 => h1)
  · exact by split; exacts [sound_plainWrite h (fun _ h1 => sound_portEvtIrq h1), sound_plainWrite h (fun _ h1 => h1)]
  · exact sound_ite (sound_adcstartWrite h)
            (sound_ite (sound_plainWrite h (fun _ h1 => sound_adcShow h1)) (sound_plainWrite h (fun _ h1 => h1)))
  · exact by
            split
            exacts [sound_pctlWrite h, by split; exacts [sound_txrdyWrite h, sound_plainWrite h (fun _ h1 => h1)]]
  · exact sound_ite (sound_txreqWrite h)
            (sound_ite (sound_txabortWrite h) (sound_ite (sound_rxpopWrite h) (sound_plainWrite h (fun _ h1 => h1))))
  · exact sound_ite (sound_txreqWrite h)
            (sound_ite (sound_txabortWrite h) (sound_ite (sound_rxpopWrite h) (sound_plainWrite h (fun _ h1 => h1))))
  · exact sound_ite (sound_txpollWrite h)
            (sound_ite (sound_ptpincrWrite h) (sound_ite (sound_ptpadjWrite h) (sound_plainWrite h (fun _ h1 => h1))))
  · exact sound_ite (sound_plainWrite h (fun _ h1 => sound_wstatIrq h1)) (sound_plainWrite h (fun _ h1 => h1))
  · exact sound_ite (sound_goutsetWrite h)
            (sound_ite (sound_goutclrWrite h)
               (sound_ite (sound_plainWrite h (fun _ h1 => sound_gevtIrq h1)) (sound_plainWrite h (fun _ h1 => h1))))
  · exact sound_ite (sound_smpctlWrite h)
            (sound_ite (sound_smpackWrite h)
               (by split; exacts [sound_histclrWrite h, sound_plainWrite h (fun _ h1 => h1)]))
  · exact sound_plainWrite h (fun _ h1 => h1)
theorem sound_leWrite {own l a n v bad} (h : sound own l) :
    sound own (leWrite l a n v bad) := sound_engStore h
theorem sound_brgReadPost {own l g a} (h : sound own l) :
    sound own (brgReadPost l g a).1 := by
  unfold brgReadPost
  extract_lets m1
  have k1 : sound own m1 := sound_sendDown h
  split
  · exact h
  · exact k1
theorem sound_peerReadPost {own l g a size} (h : sound own l) :
    sound own (peerReadPost l g a size).1 := by
  unfold peerReadPost
  extract_lets 
  split
  · exact h
  · split
    · exact h
    · exact sound_llReady h
theorem sound_memCopy {own l src dst n} (h : sound own l) :
    sound own (memCopy l src dst n) := sound_foldl (fun _ _ h1 => sound_ite h1 (sound_setByte h1)) h
theorem sound_setBoot {own l b} (h : sound own l) :
    sound own (setBoot l b) := sound_modPower h
theorem sound_krecLoad {own l} (h : sound own l) :
    sound own (krecLoad l) := sound_put (sound_put (sound_put (sound_put (sound_krecShow h))))
theorem sound_kilnFailed {own l} (h : sound own l) :
    sound own (kilnFailed l) := by
  unfold kilnFailed
  exact sound_modPower (sound_setBoot (sound_kilnLive (sound_krecWrite h)))
theorem sound_kilnPassed {own l} (h : sound own l) :
    sound own (kilnPassed l) := sound_setBoot (sound_kilnLive (sound_krecWrite h))
theorem sound_kilnNext {own l k ran} (h : sound own l) :
    sound own (kilnNext l k ran) := by
  unfold kilnNext
  split; exacts [sound_setBoot (sound_sliceStart h), sound_kilnPassed (sound_ite (sound_kilnEnd h) h)]
theorem sound_choosePath {own l} (h : sound own l) :
    sound own (choosePath l) := by
  unfold choosePath
  exact
      sound_ite (sound_kilnPassed (sound_put (sound_kilnLive (sound_krecLoad h))))
        (sound_ite (sound_setBoot (sound_put (sound_kilnLive (sound_krecLoad h))))
           (sound_ite (sound_kilnNext (sound_put (sound_kilnLive (sound_krecLoad h))))
              (sound_ite
                 (sound_ite (sound_kilnNext (sound_put (sound_kilnLive (sound_krecLoad h))))
                    (sound_kilnFailed (sound_kilnLive (sound_krecLoad h))))
                 (sound_kilnNext (sound_put (sound_krecWrite (sound_kilnLive (sound_krecLoad h))))))))
theorem sound_liveAgain {own l} (h : sound own l) :
    sound own (liveAgain l) :=
        sound_foldl (fun _ _ h1 => sound_setLive h1) (sound_xtalLive (sound_setLive (sound_setLive h)))
theorem sound_parkSlice {own l k ok} (h : sound own l) :
    sound own (parkSlice l k ok) := by
  unfold parkSlice
  split
  · exact sound_entryEnds
            (sound_ite
               (sound_kilnLive
                  (sound_kilnEnd (sound_count (sound_irqPulse (sound_put (sound_bump (sound_krecWrite h)))))))
               (sound_ite
                  (sound_kilnLive
                     (sound_kilnEnd (sound_count (sound_irqPulse (sound_put (sound_bump (sound_krecWrite h)))))))
                  (sound_kilnLive (sound_kilnEnd (sound_krecWrite h)))))
  · exact sound_ite (sound_parkSign (sound_kilnLive (sound_kilnEnd (sound_krecWrite h))))
            (sound_ite (sound_sliceStart h) (sound_parkSign (sound_kilnLive (sound_kilnEnd (sound_krecWrite h)))))
theorem sound_sliceDone {own l us} (h : sound own l) :
    sound own (sliceDone l us) :=
        sound_ite h
          (sound_ite (sound_parkSlice (sound_sliceRecord h))
             (sound_ite
                (sound_ite (sound_kilnNext (sound_sliceRecord h))
                   (sound_kilnFailed (sound_kilnEnd (sound_sliceRecord h)))) h))
theorem sound_lockPage {own l a} (h : sound own l) :
    sound own (lockPage l a) := sound_lockKeyWrite (sound_lockKeyWrite h)
theorem sound_pairsRelease {own l us} (h : sound own l) :
    sound own (pairsRelease l us) := sound_setBoot (sound_wr (sound_foldl (fun _ _ h1 => sound_startPair h1) h))
theorem sound_serviceMode {own l c} (h : sound own l) :
    sound own (serviceMode l c) := by
  unfold serviceMode
  extract_lets l1 win l2
  have k1 : sound own l1 := sound_krecBootFail (sound_put (sound_put h))
  have kw {m k b} (hm : sound own m) : sound own (win m k b) := sound_put (sound_put (sound_put (sound_wr hm)))
  exact sound_setBoot (sound_withDm (kw (kw k1)))
theorem sound_checkBank {own l bad k} (h : sound own l) :
    sound own (checkBank l bad k) := sound_ite h (sound_bump (sound_markLost (sound_filterMem h)))
theorem sound_accessDone {own l g a r log} (h : sound own l) :
    sound own (accessDone l g a r log) := by
  unfold accessDone
  extract_lets m1
  have k1 : sound own m1 := sound_respond h
  split
  · exact
      sound_ite
        (sound_accessFault (sound_ite k1 (by split; exacts [sound_ite k1 (sound_logAppend k1), sound_logAppend k1])))
        (sound_ite k1 (by split; exacts [sound_ite k1 (sound_logAppend k1), sound_logAppend k1]))
  · split
    · exact k1
    · exact k1
    · exact k1
  · exact k1
theorem sound_replayAccess {own l n d} (h : sound own l) :
    sound own (replayAccess l n d) := by
  unfold replayAccess
  extract_lets 
  split
  · split
    · exact sound_respond (sound_consume h)
    · exact sound_diverge h
  · split
    · split
      · exact sound_respond (sound_consume h)
      · exact sound_accessDone (sound_consume h)
    · exact sound_diverge h
  · split
    · exact sound_respond (sound_consume h)
    · exact sound_diverge h
  · split
    · exact sound_respond (sound_consume h)
    · exact sound_diverge h
  · exact sound_diverge h
theorem sound_imsicAccess {own l n csr write} (h : sound own l) :
    sound own (imsicAccess l n csr write) := sound_respond (sound_logAppend (by split; exacts [sound_modPair h, h]))
theorem sound_sbWrite {own l a} (h : sound own l) :
    sound own (sbWrite l a) := sound_ite h h
theorem sound_hspiResult {own l f stat data} (h : sound own l) :
    sound own (hspiResult l f stat data) := by
  unfold hspiResult
  extract_lets _ _ _ m1 m2 m3 m4 m5
  have k1 : sound own m1 := h
  have k2 : sound own m2 := sound_put (sound_put k1)
  have k3 : sound own m3 := sound_ite (sound_wr k2) k2
  have k4 : sound own m4 := sound_ite (sound_count (sound_bump k3)) (sound_count (sound_irqPulse (sound_bump k3)))
  have k5 : sound own m5 := sound_ite (sound_irqPulse k4) k4
  split
  · exact k5
  · exact sound_raise k5
theorem sound_xferCount {own l c bs crcOn} (h : sound own l) :
    sound own (xferCount l c bs crcOn) := sound_ite h (sound_wr (sound_wr (sound_put (sound_modX h))))
theorem sound_beats {own l c n} (h : sound own l) :
    sound own (beats l c n) := sound_ite h (sound_countN (sound_put h))
theorem sound_xferError {own l c cause} (h : sound own l) :
    sound own (xferError l c cause) := sound_ite h (sound_raise (sound_modX h))
theorem sound_fetched {own l c home d} (h : sound own l) :
    sound own (fetched l c home d) :=
        sound_ite (sound_ite (sound_modX h) (sound_setChn h)) (sound_setChn (sound_put (sound_modX h)))
theorem sound_writeBackDesc {own l c d} (h : sound own l) :
    sound own (writeBackDesc l c d) := by
  unfold writeBackDesc
  extract_lets _ _ _ _ m1 m2 m3 m4 m5 m6 m7 m8
  have k1 : sound own m1 := sound_dmaStore (sound_dmaStore h)
  have k2 : sound own m2 := sound_beats (sound_dmaStore k1)
  have k3 : sound own m3 := sound_bump k2
  have k4 : sound own m4 := sound_put k3
  have k5 : sound own m5 := sound_ite (sound_raise k4) k4
  have k6 : sound own m6 := sound_irqPulse k5
  have k7 : sound own m7 := sound_ite (sound_sendMsg k6) k6
  have k8 : sound own m8 := sound_count (sound_modX k7)
  split
  · exact h
  · exact sound_setChn k8

end Sys2Proof.Machine.LaneState
end

section
/-!
SUPPORT. What every function of the device keeps: both lanes' memories and places, and, where Bedrock is powered and the
device is in DEVICE_SAFE, that it is (R44). DEVSTATE is written by `State.setDev` alone, so a function needs a reason only
where it calls that one.
-/
namespace Sys2Proof.Machine
open Sys2Proof LaneState

/-- A field of Bedrock that does not overlap DEVSTATE. -/
def Fld.offDev (f : Fld) : Prop := f.addr ≠ R.BSYS_DEVSTAT ∨ (3 ≤ f.lo ∧ f.lo + f.width ≤ 32)

theorem Fld.ne_above {f : Fld} {base k : Nat} (hf : f.addr = base + k) (hb : R.BSYS_DEVSTAT < base) : f.addr ≠ R.BSYS_DEVSTAT := by
  omega

theorem Fld.offDev_above {f : Fld} {base k : Nat} (hf : f.addr = base + k) (hb : R.BSYS_DEVSTAT < base) : f.offDev :=
  .inl (ne_above hf hb)

theorem Fld.offDev_byLane {x : Lane} {f g : Fld} (hf : f.offDev) (hg : g.offDev) : (byLane x f g).offDev := by
  cases x
  exacts [hf, hg]

theorem Fld.offDev_at {f : Fld} {a : Nat} (hf : f.addr = a) (ha : a ≠ R.BSYS_DEVSTAT) : f.offDev := .inl (hf ▸ ha)

theorem Fld.offDev_ite {c : Prop} [Decidable c] {f g : Fld} (hf : f.offDev) (hg : g.offDev) : (if c then f else g).offDev := by
  split
  exacts [hf, hg]

namespace Fld
theorem offDev_status {x} : (F.status x).offDev := offDev_byLane (.inr (by decide)) (.inr (by decide))
theorem offDev_cap {x} : (F.cap x).offDev := offDev_byLane (.inr (by decide)) (.inr (by decide))
theorem offDev_vgd {x} : (F.vgd x).offDev := offDev_byLane (.inr (by decide)) (.inr (by decide))
theorem offDev_feed {x} : (F.feed x).offDev := offDev_byLane (.inr (by decide)) (.inr (by decide))
theorem offDev_laneCause {x} : (F.laneCause x).offDev := offDev_byLane (.inl (by decide)) (.inl (by decide))
theorem offDev_rseq {x} : (F.rseq x).offDev := offDev_byLane (.inl (by decide)) (.inl (by decide))
theorem offDev_neg {x} : (F.neg x).offDev := offDev_byLane (.inl (by decide)) (.inl (by decide))
theorem offDev_cur {x} : (F.cur x).offDev := offDev_byLane (.inl (by decide)) (.inl (by decide))
theorem offDev_joined {x} : (F.joined x).offDev := offDev_byLane (.inl (by decide)) (.inl (by decide))
theorem offDev_ldis {x} : (F.ldis x).offDev := offDev_byLane (.inl (by decide)) (.inl (by decide))
theorem offDev_dtmo {x} : (F.dtmo x).offDev := offDev_byLane (.inl (by decide)) (.inl (by decide))
theorem offDev_rdy {x d} : (F.rdy x d).offDev := offDev_byLane (offDev_above rfl (by decide)) (offDev_above rfl (by decide))
theorem offDev_ovwr {x n} : (F.ovwr x n).offDev := offDev_byLane (offDev_above rfl (by decide)) (offDev_above rfl (by decide))
theorem offDev_envFail {x n} : (F.envFail x n).offDev := offDev_byLane (offDev_above rfl (by decide)) (offDev_above rfl (by decide))
theorem offDev_BSAFE_SISTAT_A {m} : (F.BSAFE_SISTAT_A m).offDev := offDev_at (a := R.BSAFE_SISTAT) rfl (by decide)
theorem offDev_BSAFE_SISTAT_B {m} : (F.BSAFE_SISTAT_B m).offDev := offDev_at (a := R.BSAFE_SISTAT) rfl (by decide)
theorem offDev_bedAct {k} : (F.bedAct k).offDev := .inl (by unfold F.bedAct; dsimp only; split <;> decide)
theorem offDev_bedAck {k} : (F.bedAck k).offDev := .inl (by unfold F.bedAck; dsimp only; split <;> decide)
/-- A page's header lies below DEVSTAT's offset. -/
theorem offDev_header {f : Fld} {p o : Nat} (hf : f.addr = p * 0x1000 + o) (ho : o < 0x100) : f.offDev :=
  .inl (by rw [hf, R.BSYS_DEVSTAT]; omega)
end Fld

namespace LaneState
theorem sound_clearingRead {own l a r} (h : sound own l) (hr : clearingRead l a = some r) : sound own r.1 := by
  unfold clearingRead at hr
  dsimp only at hr
  split at hr
  · obtain ⟨n, -, rfl⟩ := Option.map_eq_some_iff.mp hr
    exact sound_chevtRead h
  · split at hr
    · obtain ⟨n, -, rfl⟩ := Option.map_eq_some_iff.mp hr
      exact sound_pevtRead h
    · split at hr
      · cases hr
        exact sound_adcfifoRead h
      · split at hr
        · split at hr
          · cases hr
            exact sound_safeqRead h
          · obtain ⟨n, -, rfl⟩ := Option.map_eq_some_iff.mp hr
            exact sound_rxqRead h
        · cases hr
end LaneState

/-- The clamp record lies in a page's header. -/
theorem RegFile.rd_clampLog (rf : RegFile) (a : Nat) (o : Word) (lsb k : Nat) {c : Nat} (hc : 0x100 ≤ c % 0x1000) :
    (rf.clampLog a o lsb k).rd c = rf.rd c := by
  have hne (p : Nat) {d : Nat} (hd : d < 0x100) : c ≠ p * 0x1000 + d := by omega
  unfold RegFile.clampLog RegFile.bump
  rw [RegFile.rd_put_ne _ _ _ (hne _ (by decide)), RegFile.rd_put_ne _ _ _ (hne _ (by decide)),
    RegFile.rd_put_ne _ _ _ (hne _ (by decide)), RegFile.rd_put_ne _ _ _ (hne _ (by decide))]
  exact RegFile.rd_wr_ne _ _ (hne _ (by decide))

theorem Table.get_filter {V : Type} (d : Nat → V) (t : Table V) (p : Nat × V → Bool) {k : Nat} (hp : ∀ v, p (k, v) = true) :
    Table.get d (t.filter p) k = Table.get d t k := by
  induction t with
  | nil => rfl
  | cons e r ih =>
    obtain ⟨j, v⟩ := e
    by_cases hj : j = k
    · subst hj
      rw [List.filter_cons_of_pos (hp v), Table.get, Table.get]
      simp
    · rw [Table.get, if_neg hj, ← ih, List.filter_cons]
      split
      · rw [Table.get, if_neg hj]
      · rfl

/-- A register that is not picked keeps its word. -/
theorem RegFile.rd_clear (rf : RegFile) {p : Nat → Bool} {a : Nat} (hp : p a = false) : (rf.clear p).rd a = rf.rd a :=
  Table.get_filter _ _ _ fun _ => by simp [hp]

/-- No field of DEVSTAT is written (R240). -/
theorem regFields_devstat : regFields R.BSYS_DEVSTAT = [] := by decide

/-- No register write changes DEVSTAT. -/
theorem RegFile.rd_devstat_write (rf : RegFile) (a : Nat) (w : Word) (c : WriteCtx) :
    (rf.write a w c).file.rd R.BSYS_DEVSTAT = rf.rd R.BSYS_DEVSTAT := by
  have hw : (rf.wr a (writeFields rf a w c (regFields a)).word).rd R.BSYS_DEVSTAT = rf.rd R.BSYS_DEVSTAT := by
    by_cases ha : R.BSYS_DEVSTAT = a
    · rw [← ha, regFields_devstat, RegFile.rd_wr_same]; rfl
    · exact RegFile.rd_wr_ne _ _ ha
  have hi (r : RegFile) : (r.put (F.ignWr (pageOf a * 0x1000)) 1).rd R.BSYS_DEVSTAT = r.rd R.BSYS_DEVSTAT :=
    RegFile.rd_put_ne _ _ _ (by simp only [F.ignWr, R.BSYS_DEVSTAT]; omega)
  have hc (r : RegFile) (l k : Nat) : (r.clampLog a w l k).rd R.BSYS_DEVSTAT = r.rd R.BSYS_DEVSTAT :=
    RegFile.rd_clampLog _ _ _ _ _ (by decide)
  unfold RegFile.write
  dsimp only
  split <;> split <;> simp only [hi, hc, hw]

/-- Bedrock is powered and the device is in DEVICE_SAFE. -/
def BedState.isSafe (b : BedState) : Prop := b.on = true ∧ b.get F.BSYS_DEVSTAT_DEVSTATE = Dev.safe

namespace BedState
variable {b : BedState}

theorem isSafe_put {f : Fld} {v : Nat} (hf : f.offDev) (h : b.isSafe) : (b.put f v).isSafe := by
  have hg : (b.put f v).get F.BSYS_DEVSTAT_DEVSTATE = b.get F.BSYS_DEVSTAT_DEVSTATE := by
    rcases hf with ha | ⟨hl, hw⟩
    · exact get_put_ne _ _ _ _ ha.symm
    · exact get_put_disjoint _ _ _ _ hw (.inl hl)
  exact ⟨h.1, hg.trans h.2⟩

theorem isSafe_putDev {v : Nat} (h : b.isSafe) (hv : v = Dev.safe) : (b.put F.BSYS_DEVSTAT_DEVSTATE v).isSafe := by
  have hg := get_put_same b F.BSYS_DEVSTAT_DEVSTATE v (by decide)
  exact ⟨h.1, hg.trans (by rw [hv]; rfl)⟩

theorem isSafe_bump {f : Fld} {k : Nat} (hf : f.offDev) (h : b.isSafe) : (b.bump f k).isSafe := isSafe_put hf h

theorem isSafe_wr {a : Nat} {v : Word} (ha : a ≠ R.BSYS_DEVSTAT) (h : b.isSafe) : (b.wr a v).isSafe := by
  have hg : (b.wr a v).get F.BSYS_DEVSTAT_DEVSTATE = b.get F.BSYS_DEVSTAT_DEVSTATE :=
    congrArg (getBits · 0 3) (rd_wr_ne b v ha.symm)
  exact ⟨h.1, hg.trans h.2⟩

theorem isSafe_setRegs {r : RegFile} (hr : r.rd R.BSYS_DEVSTAT = b.regs.rd R.BSYS_DEVSTAT) (h : b.isSafe) :
    BedState.isSafe { b with regs := r } := ⟨h.1, (congrArg (getBits · 0 3) hr).trans h.2⟩

theorem isSafe_write {a : Nat} {w : Word} {c : WriteCtx} (h : b.isSafe) :
    BedState.isSafe { b with regs := (b.regs.write a w c).file } := isSafe_setRegs (RegFile.rd_devstat_write _ _ _ _) h

theorem isSafe_clampLog {a : Nat} {o : Word} {lsb k : Nat} (h : b.isSafe) :
    BedState.isSafe { b with regs := b.regs.clampLog a o lsb k } :=
  isSafe_setRegs (RegFile.rd_clampLog _ _ _ _ _ (by decide)) h

theorem isSafe_clearConfig (h : b.isSafe) : BedState.isSafe { b with regs := b.regs.clear isConfigReg } :=
  isSafe_setRegs (RegFile.rd_clear _ (by decide)) h

theorem isSafe_withGrant {g : Option Lane} (h : b.isSafe) : BedState.isSafe { b with grant := g } := h

theorem isSafe_lockPages (h : b.isSafe) :
    (bedPages.foldl (fun (b : BedState) p => (b.put (F.locked p) 1).wr (R.lockKey p) 1) b).isSafe := by
  have hp : ∀ p ∈ bedPages, (F.locked p).addr ≠ R.BSYS_DEVSTAT ∧ R.lockKey p ≠ R.BSYS_DEVSTAT := by decide
  refine List.foldlRecOn _ _ h fun d hd p hm => ?_
  exact isSafe_wr (hp p hm).2 (isSafe_put (.inl (hp p hm).1) hd)

end BedState

/-- What a step must keep: with `lanes`, each lane's memory and its place; with `safe`, that the powered device is in
DEVICE_SAFE. -/
def State.kept (lanes safe : Prop) (s : State) : Prop :=
  (lanes → sound .A s.a ∧ sound .B s.b) ∧ (safe → s.bed.isSafe)

namespace State
variable {lanes safe : Prop} {s t : State} {x : Lane}

theorem sound_lane (h : kept lanes safe s) (k : lanes) : sound x (s.lane x) := by
  cases x
  exacts [(h.1 k).1, (h.1 k).2]

theorem kept_ite {c : Prop} [Decidable c] (h : kept lanes safe s) (h' : kept lanes safe t) :
    kept lanes safe (if c then s else t) := by
  split
  exacts [h, h']

theorem kept_foldl {α : Type} {f : State → α → State} {xs : List α}
    (hf : ∀ m a, kept lanes safe m → kept lanes safe (f m a)) (h : kept lanes safe s) : kept lanes safe (xs.foldl f s) :=
  foldl_keeps (kept lanes safe) hf xs s h

theorem kept_setLane {l : LaneState} (hl : lanes → sound x l) (h : kept lanes safe s) : kept lanes safe (s.setLane x l) := by
  cases x
  exacts [⟨fun k => ⟨hl k, (h.1 k).2⟩, h.2⟩, ⟨fun k => ⟨(h.1 k).1, hl k⟩, h.2⟩]

theorem kept_modLane {f : LaneState → LaneState} (hf : ∀ l, sound x l → sound x (f l)) (h : kept lanes safe s) :
    kept lanes safe (s.modLane x f) := kept_setLane (fun k => hf _ (sound_lane h k)) h

theorem kept_modLanes {f : LaneState → LaneState} (hf : ∀ own l, sound own l → sound own (f l)) (h : kept lanes safe s) :
    kept lanes safe (s.modLanes f) := ⟨fun k => ⟨hf _ _ (h.1 k).1, hf _ _ (h.1 k).2⟩, h.2⟩

theorem kept_withBed {b : BedState} (hb : safe → b.isSafe) (h : kept lanes safe s) : kept lanes safe { s with bed := b } :=
  ⟨h.1, hb⟩

theorem kept_modBed {f : BedState → BedState} (hf : ∀ b, b.isSafe → (f b).isSafe) (h : kept lanes safe s) :
    kept lanes safe (s.modBed f) := kept_withBed (fun k => hf _ (h.2 k)) h

theorem kept_modBrg {f : BrgState → BrgState} (h : kept lanes safe s) : kept lanes safe (s.modBrg f) := h

theorem kept_bput {f : Fld} {v : Nat} (hf : f.offDev) (h : kept lanes safe s) : kept lanes safe (s.bput f v) :=
  kept_modBed (fun _ => BedState.isSafe_put hf) h

theorem kept_bbump {f : Fld} {k : Nat} (hf : f.offDev) (h : kept lanes safe s) : kept lanes safe (s.bbump f k) :=
  kept_modBed (fun _ => BedState.isSafe_bump hf) h

end State
end Sys2Proof.Machine

namespace Sys2Proof.Machine.State
open Sys2Proof LaneState
variable {lanes safe : Prop}

theorem kept_bedRaise {s src} (h : kept lanes safe s) :
    kept lanes safe (bedRaise s src) := kept_modBed (fun _ h1 => h1) h
theorem kept_bedRaiseFor {s src x} (h : kept lanes safe s) :
    kept lanes safe (bedRaiseFor s src x) := kept_modBed (fun _ h1 => h1) h
theorem kept_irqPulseBoth {s b m} (h : kept lanes safe s) :
    kept lanes safe (irqPulseBoth s b m) := kept_modLanes (fun _ => fun _ => sound_irqPulse) h
theorem kept_irqLevelBoth {s b i v} (h : kept lanes safe s) :
    kept lanes safe (irqLevelBoth s b i v) := kept_modLanes (fun _ => fun _ => sound_irqLevel) h
theorem kept_oneCycle {s f} (h : kept lanes safe s) (hf : ∀ m0, kept lanes safe m0 → kept lanes safe (f m0)) :
    kept lanes safe (oneCycle s f) := by
  have k := hf s h
  exact ⟨fun g => ⟨sound_mergeMsgs (k.1 g).1, sound_mergeMsgs (k.1 g).2⟩, k.2⟩
theorem kept_freeNext {s} (h : kept lanes safe s) :
    kept lanes safe (freeNext s) := h
theorem kept_sendUp {s x typ bridge arg payload} (h : kept lanes safe s) :
    kept lanes safe (sendUp s x typ bridge arg payload) := kept_modLane (fun _ h1 => h1) (kept_modBrg h)
theorem kept_sendUpBoth {s typ bridge arg payload} (h : kept lanes safe s) :
    kept lanes safe (sendUpBoth s typ bridge arg payload) := kept_sendUp (kept_sendUp h)
theorem kept_modUnit {s n f} (h : kept lanes safe s) :
    kept lanes safe (modUnit s n f) := kept_modBrg h
theorem kept_sendStatus {s n} (h : kept lanes safe s) :
    kept lanes safe (sendStatus s n) := kept_modUnit (kept_sendUpBoth h)
theorem kept_statusCheck {s n} (h : kept lanes safe s) :
    kept lanes safe (statusCheck s n) := kept_ite (kept_sendStatus h) h
theorem kept_rankUpdate {s n} (h : kept lanes safe s) :
    kept lanes safe (rankUpdate s n) := by
  unfold rankUpdate
  extract_lets _ _ s1 _ _ s2 _ s3 _ s4
  have k1 : kept lanes safe s1 := kept_ite (kept_modBrg h) h
  have k2 : kept lanes safe s2 := kept_ite (kept_modBrg k1) k1
  have k3 : kept lanes safe s3 := kept_modBrg k2
  have k4 : kept lanes safe s4 := kept_ite (kept_modUnit (kept_modBrg k3)) k3
  exact kept_statusCheck k4
theorem kept_rankAll {s} (h : kept lanes safe s) :
    kept lanes safe (rankAll s) := kept_foldl (fun _ _ => kept_rankUpdate) h
theorem kept_bcomIrq {s} (h : kept lanes safe s) :
    kept lanes safe (bcomIrq s) := kept_modLanes (fun _ => fun _ => sound_irqCycle) h
theorem kept_attention {s} (h : kept lanes safe s) :
    kept lanes safe (attention s) := kept_modLanes (fun _ => fun _ => sound_aplicPulse) h
theorem kept_dropRequests {s} (h : kept lanes safe s) :
    kept lanes safe (dropRequests s) := kept_foldl (fun _ _ h1 => kept_ite (kept_modUnit h1) h1) h
theorem kept_overrideUpdate {s} (h : kept lanes safe s) :
    kept lanes safe (overrideUpdate s) := kept_foldl (fun _ _ h1 => kept_ite (kept_rankUpdate h1) h1) h
theorem kept_setDev {s v} (hv : safe → v = Dev.safe) (h : kept lanes safe s) :
    kept lanes safe (setDev s v) := by
  unfold setDev
  extract_lets t
  have k1 : kept lanes safe (s.bput F.BSYS_DEVSTAT_DEVSTATE v) :=
    kept_withBed (fun k => BedState.isSafe_putDev (h.2 k) (hv k)) h
  have kt : kept lanes safe t := kept_attention (kept_irqPulseBoth k1)
  exact kept_ite h (kept_overrideUpdate (kept_ite (kept_dropRequests kt) kt))
theorem not_safe {s} (h : kept lanes safe s) (hd : s.devState ≠ Dev.safe) (k : safe) : False := hd (h.2 k).2
theorem kept_sendSelect {s} (h : kept lanes safe s) :
    kept lanes safe (sendSelect s) := kept_ite h (kept_modBed (fun _ h1 => h1) h)
theorem kept_reselect {s d} (h : kept lanes safe s) :
    kept lanes safe (reselect s d) := kept_sendSelect (kept_modBed (fun _ h1 => h1) h)
theorem kept_setReady {s x d v} (h : kept lanes safe s) :
    kept lanes safe (setReady s x d v) := kept_bput Fld.offDev_rdy h
theorem kept_leaseTrigger {s d} (h : kept lanes safe s) :
    kept lanes safe (leaseTrigger s d) := kept_modLanes (fun _ => fun _ h1 => sound_ite (sound_trigger h1) h1) h
theorem kept_setHand {s d v} (h : kept lanes safe s) :
    kept lanes safe (setHand s d v) := kept_modBed (fun _ h1 => h1) h
theorem kept_enterBreak {s d cause} (h : kept lanes safe s) :
    kept lanes safe (enterBreak s d cause) := by
  unfold enterBreak
  extract_lets _ s1 s2 s3 s4 s5
  have k1 : kept lanes safe s1 := kept_bput (Fld.offDev_above rfl (by decide)) h
  have k2 : kept lanes safe s2 := kept_bput (Fld.offDev_above rfl (by decide)) k1
  have k3 : kept lanes safe s3 := kept_bbump (Fld.offDev_above rfl (by decide)) k2
  have k4 : kept lanes safe s4 := kept_bput (Fld.offDev_above rfl (by decide)) k3
  have k5 : kept lanes safe s5 := kept_bput (Fld.offDev_above rfl (by decide)) k4
  exact kept_reselect (kept_leaseTrigger (kept_setReady (kept_setHand k5)))
theorem kept_enterMake {s d x} (h : kept lanes safe s) :
    kept lanes safe (enterMake s d x) :=
        kept_reselect
          (kept_leaseTrigger
             (kept_setReady
                (kept_bput (Fld.offDev_above rfl (by decide)) (kept_bput (Fld.offDev_above rfl (by decide)) h))))
theorem kept_enterHeld {s d cycles} (h : kept lanes safe s) :
    kept lanes safe (enterHeld s d cycles) := by
  unfold enterHeld
  extract_lets s1 s2 _ s3
  have k1 : kept lanes safe s1 := kept_bput (Fld.offDev_above rfl (by decide)) h
  have k2 : kept lanes safe s2 := kept_ite (kept_setHand (kept_bput (Fld.offDev_above rfl (by decide)) k1)) k1
  have k3 : kept lanes safe s3 := kept_modBed (fun _ h3 => h3) k2
  exact kept_irqPulseBoth k3
theorem kept_gapCheck {s d} (h : kept lanes safe s) :
    kept lanes safe (gapCheck s d) := kept_ite h (kept_ite (kept_enterMake h) (kept_ite (kept_enterMake h) h))
theorem kept_terminalCheck {s d} (h : kept lanes safe s) :
    kept lanes safe (terminalCheck s d) := kept_ite (kept_reselect (kept_bput (Fld.offDev_above rfl (by decide)) h)) h
theorem kept_enterGap {s d} (h : kept lanes safe s) :
    kept lanes safe (enterGap s d) := by
  unfold enterGap
  extract_lets _ s1 s2 s3 s4
  have k1 : kept lanes safe s1 := kept_bput (Fld.offDev_above rfl (by decide)) h
  have k2 : kept lanes safe s2 := kept_bbump (Fld.offDev_above rfl (by decide)) k1
  have k3 : kept lanes safe s3 := kept_irqPulseBoth k2
  have k4 : kept lanes safe s4 := kept_ite k3 (kept_bedRaise k3)
  exact kept_reselect (kept_terminalCheck (kept_gapCheck k4))
theorem kept_setHold {s n c} (h : kept lanes safe s) :
    kept lanes safe (setHold s n c) := kept_bput (Fld.offDev_above rfl (by decide)) (kept_modBrg h)
theorem kept_setTerm {s n v t} (h : kept lanes safe s) :
    kept lanes safe (setTerm s n v t) :=
        kept_bput (Fld.offDev_above rfl (by decide)) (kept_bput (Fld.offDev_above rfl (by decide)) (kept_modBrg h))
theorem kept_modEval {s e f} (h : kept lanes safe s) :
    kept lanes safe (modEval s e f) := kept_modBed (fun _ h1 => h1) h
theorem kept_setPath {s x p} (h : kept lanes safe s) :
    kept lanes safe (setPath s x p) := kept_modBed (fun _ h1 => h1) h
theorem kept_evGo {s e v} (h : kept lanes safe s) :
    kept lanes safe (evGo s e v) := kept_ite h (kept_irqPulseBoth (kept_bput (Fld.offDev_above rfl (by decide)) h))
theorem kept_lockout {s e cause} (h : kept lanes safe s) :
    kept lanes safe (lockout s e cause) :=
        kept_ite (kept_modEval h)
          (kept_ite h
             (kept_irqPulseBoth
                (kept_modEval
                   (kept_bbump (Fld.offDev_above rfl (by decide))
                      (kept_bput (Fld.offDev_above rfl (by decide)) (kept_evGo h))))))
theorem kept_pathUpdate {s} (h : kept lanes safe s) :
    kept lanes safe (pathUpdate s) := by
  unfold pathUpdate
  extract_lets f1 s2
  have k1 : ∀ m0 m1, kept lanes safe m0 → kept lanes safe (f1 m0 m1) :=
      fun _ _ h1 => kept_ite h1 (kept_irqPulseBoth (kept_bput Fld.offDev_joined h1))
  have k2 : kept lanes safe s2 := k1 _ _ (k1 _ _ h)
  exact kept_bput (.inl (by decide)) (kept_bput (.inl (by decide)) k2)
theorem kept_mirrors {s} (h : kept lanes safe s) :
    kept lanes safe (mirrors s) := kept_modLanes (fun _ => fun _ h1 => sound_ite (sound_mirrorsOf h1) h1) h
theorem kept_outputUpdate {s} (h : kept lanes safe s) :
    kept lanes safe (outputUpdate s) :=
        kept_ite h
          (kept_mirrors (kept_bput (.inl (by decide)) (kept_bput (.inl (by decide)) (kept_bput (.inl (by decide)) h))))
theorem kept_demandUpdate {s} (h : kept lanes safe s) :
    kept lanes safe (demandUpdate s) := kept_outputUpdate (kept_pathUpdate (kept_bput (.inl (by decide)) h))
theorem kept_leaveJoin {s x} (h : kept lanes safe s) :
    kept lanes safe (leaveJoin s x) := kept_setPath h
theorem kept_loseCurrent {s x} (h : kept lanes safe s) :
    kept lanes safe (loseCurrent s x) :=
        kept_outputUpdate
          (kept_pathUpdate
             (kept_ite (kept_bedRaiseFor (kept_bput Fld.offDev_dtmo (kept_leaveJoin (kept_bput Fld.offDev_cur h))))
                (kept_bput Fld.offDev_cur h)))
theorem kept_deviceSafe {s cause} (h : kept lanes safe s) :
    kept lanes safe (deviceSafe s cause) := by
  unfold deviceSafe
  refine kept_ite (kept_oneCycle h fun m hm => ?_) h
  have k1 := kept_setDev (v := Dev.safe) (fun _ => rfl)
    (kept_foldl (f := fun (s : State) d => if (s.holderOf d).isSome then s.leaseTrigger d else s) (xs := List.range 8)
      (fun _ _ h1 => kept_ite (kept_leaseTrigger h1) h1) hm)
  refine
      kept_sendSelect
        (kept_demandUpdate
           (kept_foldl (fun _ _ => kept_lockout) (kept_foldl (fun _ _ h2 => ?_) (kept_bput (.inl (by decide)) k1))))
  exact kept_setReady (kept_setReady (kept_bput (Fld.offDev_above rfl (by decide)) h2))
theorem kept_loseCapable {s x} (h : kept lanes safe s) :
    kept lanes safe (loseCapable s x) :=
        kept_foldl (fun _ _ h1 => kept_ite (kept_enterBreak (kept_setReady h1)) (kept_setReady h1)) h
theorem kept_capUpdate {s} (h : kept lanes safe s) :
    kept lanes safe (capUpdate s) := by
  unfold capUpdate
  extract_lets f1 s2
  have k1 : ∀ m0 m1, kept lanes safe m0 → kept lanes safe (f1 m0 m1) :=
      fun _ _ h1 =>
        kept_ite h1 (kept_ite (kept_bput Fld.offDev_cap h1) (kept_loseCapable (kept_bput Fld.offDev_cap h1)))
  have k2 : kept lanes safe s2 := k1 _ _ (k1 _ _ h)
  split
  · exact h
  · split
    · exact kept_deviceSafe k2
    · exact k2
theorem kept_diagCheck {s d} (h : kept lanes safe s) :
    kept lanes safe (diagCheck s d) := kept_ite (kept_enterBreak h) h
theorem kept_diagAll {s} (h : kept lanes safe s) :
    kept lanes safe (diagAll s) := kept_foldl (fun _ _ => kept_diagCheck) h
theorem kept_expiryCheck {s d} (h : kept lanes safe s) :
    kept lanes safe (expiryCheck s d) := kept_ite (kept_enterBreak h) h
theorem kept_settle {s} (h : kept lanes safe s) :
    kept lanes safe (settle s) := kept_diagAll (kept_foldl (fun _ _ => kept_expiryCheck) h)
theorem kept_setNeg {s x d v} (h : kept lanes safe s) :
    kept lanes safe (setNeg s x d v) := by
  unfold setNeg
  dsimp only
  exact kept_modBed (fun _ h1 => by split <;> exact h1) h
theorem kept_startExit {s timeout} (h : kept lanes safe s) :
    kept lanes safe (startExit s timeout) := by
  unfold startExit
  split
  · exact h
  · next hd =>
    extract_lets st up single enter
    have hn : safe → Dev.idle = Dev.safe := fun k => (not_safe h (fun e => hd (.inl (by rw [e]; decide))) k).elim
    have ke (idle) : kept lanes safe (enter idle) :=
      kept_ite (kept_outputUpdate (kept_capUpdate (kept_setDev hn h))) (kept_deviceSafe h)
    exact kept_ite (ke _) (kept_ite h (kept_ite (ke _) (kept_ite h (kept_ite (ke _) (ke _)))))
theorem kept_setStatus {s x v cause} (h : kept lanes safe s) :
    kept lanes safe (setStatus s x v cause) := by
  unfold setStatus
  extract_lets _ s1 s2 s3 s4 s5 s6 s7 s8
  have k1 : kept lanes safe s1 := kept_irqPulseBoth (kept_bput Fld.offDev_status h)
  have k2 : kept lanes safe s2 := kept_ite k1 (kept_bput Fld.offDev_laneCause k1)
  have k3 : kept lanes safe s3 := kept_ite (kept_bedRaise k2) k2
  have k4 : kept lanes safe s4 := kept_ite (kept_foldl (fun _ _ => kept_setNeg) (kept_bput Fld.offDev_rseq k3)) k3
  have k5 : kept lanes safe s5 := kept_ite (kept_loseCurrent k4) k4
  have k6 : kept lanes safe s6 := kept_ite (kept_outputUpdate (kept_pathUpdate (kept_bput Fld.offDev_cur k5))) k5
  have k7 : kept lanes safe s7 := kept_ite (kept_modLane (fun _ => sound_put) k6) k6
  have k8 : kept lanes safe s8 := kept_ite (kept_modLane (fun _ => sound_trigger) k7) k7
  split
  · exact h
  · exact kept_startExit (kept_capUpdate k8)
theorem kept_laneLost {s x cause} (h : kept lanes safe s) :
    kept lanes safe (laneLost s x cause) := kept_ite (kept_setStatus h) h
theorem kept_bedEvent {s e same} (h : kept lanes safe s) :
    kept lanes safe (bedEvent s e same) := by
  unfold bedEvent
  extract_lets _ _ _ _ s1 s2 s3 s4
  have k1 : kept lanes safe s1 := kept_modBed (fun _ h1 => h1) h
  have k2 : kept lanes safe s2 :=
      kept_ite (kept_modBed (fun _ h2 => BedState.isSafe_wr (by decide) (BedState.isSafe_wr (by decide) h2)) k1)
        (kept_ite (kept_bbump (.inl (by decide)) k1) k1)
  have k3 : kept lanes safe s3 := kept_irqPulseBoth (kept_bput Fld.offDev_bedAck (kept_bput Fld.offDev_bedAct k2))
  have k4 : kept lanes safe s4 := kept_ite (kept_attention k3) k3
  split
  · exact kept_deviceSafe k4
  · split
    · split
      · exact kept_modLane (fun _ h5 => sound_ite (sound_raise h5) h5) k4
      · exact k4
    · exact k4
theorem kept_bedAckOp {s k} (h : kept lanes safe s) :
    kept lanes safe (bedAckOp s k).1 := by
  unfold bedAckOp
  split
  · exact h
  · split
    · exact h
    · exact kept_bput Fld.offDev_bedAck h
theorem kept_bedClearOp {s k} (h : kept lanes safe s) :
    kept lanes safe (bedClearOp s k).1 := by
  unfold bedClearOp
  extract_lets s1 s2
  have k1 : kept lanes safe s1 := kept_bput Fld.offDev_bedAck (kept_bput Fld.offDev_bedAct h)
  have k2 : kept lanes safe s2 :=
      kept_ite (kept_bput Fld.offDev_ldis (kept_bput Fld.offDev_ldis k1))
        (kept_ite (kept_bput Fld.offDev_dtmo (kept_bput Fld.offDev_dtmo k1)) k1)
  split
  · exact h
  · split
    · exact h
    · exact kept_ite (kept_outputUpdate (kept_pathUpdate k2)) k2
theorem kept_laneReset {s x k lsrc} (h : kept lanes safe s) :
    kept lanes safe (laneReset s x k lsrc) :=
        kept_laneLost (kept_modLane (fun _ h1 => sound_irqCycle (sound_resetTo h1)) h)
theorem kept_rstcmdWrite {s x v} (h : kept lanes safe s) :
    kept lanes safe (rstcmdWrite s x v) := by
  unfold rstcmdWrite
  extract_lets l1 l2 s3
  have k1 (k : lanes) : sound _ l1 := sound_lane h k
  have k2 (k : lanes) : sound _ l2.1 := sound_regWrite ((k1 k))
  have k3 : kept lanes safe s3 := kept_modLane (fun _ h3 => sound_command h3 (fun _ _ h4 => h4)) h
  split
  · exact k3
  · split
    · exact kept_laneReset k3
    · split
      · exact kept_laneReset k3
      · exact k3
theorem kept_terminalEntry {s n} (h : kept lanes safe s) :
    kept lanes safe (terminalEntry s n) := by
  unfold terminalEntry
  extract_lets _ _ _ s1 s2 s3 s4
  have k1 : kept lanes safe s1 := kept_modUnit (kept_setTerm h)
  have k2 : kept lanes safe s2 := kept_ite k1 (kept_irqPulseBoth k1)
  have k3 : kept lanes safe s3 := kept_ite k2 (kept_bedRaise k2)
  have k4 : kept lanes safe s4 := kept_rankUpdate k3
  split
  · exact kept_terminalCheck k4
  · exact k4
theorem kept_applySelection {s n code act} (h : kept lanes safe s) :
    kept lanes safe (applySelection s n code act) := by
  unfold applySelection
  extract_lets s1 s2 s3
  have k1 : kept lanes safe s1 := kept_modBrg h
  have k2 : kept lanes safe s2 := kept_modBrg k1
  have k3 : kept lanes safe s3 := kept_ite k2 (kept_setTerm (kept_setHold k2))
  split
  · exact kept_rankUpdate k3
  · split
    · exact kept_terminalEntry k1
    · exact kept_rankUpdate k1
theorem kept_phaseCmd {l n arg u v w s} (h : kept lanes safe s) :
    kept lanes safe (phaseCmd l n arg u v w s) := kept_modBrg (kept_ite (kept_bbump Fld.offDev_ovwr h) h)
theorem kept_verdict {l arg payload s} (h : kept lanes safe s) :
    kept lanes safe (verdict l arg payload s) :=
        kept_ite (kept_ite (kept_bedRaise h) h)
          (kept_foldl (fun _ _ h1 => kept_ite (by split; exacts [kept_ite (kept_modBrg h1) h1, h1]) h1) h)
theorem kept_envelopeFault {s} (h : kept lanes safe s) :
    kept lanes safe (envelopeFault s).1 := kept_bedRaise h
theorem kept_decide26 {s n d x c o res} (h : kept lanes safe s) :
    kept lanes safe (decide26 s n d x c o res).1 := by
  unfold decide26
  extract_lets _ _ s1 s2 _ _ s3
  have k1 : kept lanes safe s1 := kept_bbump (Fld.offDev_above rfl (by decide)) h
  have k2 : kept lanes safe s2 := kept_irqPulseBoth (kept_bbump (Fld.offDev_above rfl (by decide)) h)
  have k3 : kept lanes safe s3 := kept_setReady k2
  split
  · split
    · exact h
    · exact kept_envelopeFault h
  · split
    · split
      · exact h
      · exact kept_envelopeFault h
    · split
      · exact k1
      · exact kept_envelopeFault k1
    · split
      · exact k2
      · split
        · exact k2
        · split
          · split
            · exact k3
            · exact kept_envelopeFault k3
          · split
            · exact kept_bedRaise k2
            · split
              · exact k2
              · exact kept_bedRaise (kept_bedRaise k2)
theorem kept_holdUp {s n} (h : kept lanes safe s) :
    kept lanes safe (holdUp s n) := kept_setHold h
theorem kept_commitCmd {s n c} (h : kept lanes safe s) :
    kept lanes safe (commitCmd s n c) := kept_ite (kept_modBrg h) (kept_setHold (kept_modBrg h))
theorem kept_takeStaged {s n x lead} (h : kept lanes safe s) :
    kept lanes safe (takeStaged s n x lead).1 := by
  unfold takeStaged
  split
  · exact h
  · extract_lets s1
    split
    · exact kept_modBrg h
    · exact kept_irqPulseBoth (kept_bbump Fld.offDev_envFail (kept_modBrg h))
theorem kept_boundaryDecision {s n t} (h : kept lanes safe s) :
    kept lanes safe (boundaryDecision s n t) := by
  unfold boundaryDecision
  extract_lets a b s1 frozen up
  have k1 : kept lanes safe s1 := kept_takeStaged (kept_takeStaged h)
  have ku {m} (hm : kept lanes safe m) : kept lanes safe (up m) := kept_ite hm (kept_holdUp hm)
  split
  · exact k1
  · refine kept_ite (ku k1) (kept_ite (kept_ite (ku k1) k1) (kept_ite ?_ k1))
    extract_lets
    split
    · exact k1
    · extract_lets _ r
      have kr : kept lanes safe r.1 := kept_decide26 k1
      split
      · exact kept_ite (kept_commitCmd kr) (ku kr)
      · exact ku kr
      · exact kr
      · exact ku (kept_enterBreak kr)
theorem kept_boundaryEdges {s n} (h : kept lanes safe s) :
    kept lanes safe (boundaryEdges s n) :=
        kept_sendStatus
          (kept_ite (kept_modUnit (kept_modBrg (kept_modBrg (kept_modUnit h))))
             (kept_modBrg (kept_modBrg (kept_modUnit h))))
theorem kept_pwmBoundary {n t s} (h : kept lanes safe s) :
    kept lanes safe (pwmBoundary n t s) := by
  unfold pwmBoundary
  extract_lets s1
  have k1 : kept lanes safe s1 := kept_ite (kept_oneCycle h (fun _ h1 => kept_boundaryDecision (kept_settle h1))) h
  split
  · exact h
  · exact kept_boundaryEdges (kept_ite (kept_terminalEntry k1) k1)
theorem kept_masterBoundary {s} (h : kept lanes safe s) :
    kept lanes safe (masterBoundary s) :=
        kept_ite h
          (kept_ite (kept_rankAll (kept_modBrg (kept_sendUpBoth (kept_modBrg (kept_modBrg h)))))
             (kept_sendUpBoth (kept_modBrg (kept_modBrg h))))
theorem kept_timebaseStart {s} (h : kept lanes safe s) :
    kept lanes safe (timebaseStart s) := kept_ite (kept_modBrg h) h
theorem kept_currentConversion {samples s} (h : kept lanes safe s) :
    kept lanes safe (currentConversion samples s) :=
        kept_ite h (kept_foldl (fun _ _ => kept_sendUpBoth) (kept_modBrg (kept_modBrg h)))
theorem kept_latchFault {s n lat cause m} (h : kept lanes safe s) :
    kept lanes safe (latchFault s n lat cause m) := kept_rankUpdate (kept_modBrg h)
theorem kept_overcurrent {n p s} (h : kept lanes safe s) :
    kept lanes safe (overcurrent n p s) := kept_ite (kept_latchFault h) h
theorem kept_bootUndervoltage {n p start vbs after s} (h : kept lanes safe s) :
    kept lanes safe (bootUndervoltage n p start vbs after s) :=
        kept_ite (kept_statusCheck (kept_modBrg (kept_modUnit (kept_modUnit (kept_modBrg h)))))
          (kept_modUnit (kept_modBrg h))
theorem kept_prechargeEnd {n s} (h : kept lanes safe s) :
    kept lanes safe (prechargeEnd n s) := kept_ite (kept_statusCheck (kept_modUnit (kept_modBrg (kept_modBrg h)))) h
theorem kept_recode {s n} (h : kept lanes safe s) :
    kept lanes safe (recode s n) := by
  unfold recode
  extract_lets _ _ s1 _ _ s2 _ s3
  have k1 : kept lanes safe s1 := kept_modBrg (kept_modUnit h)
  have k2 : kept lanes safe s2 := kept_ite (kept_modUnit (kept_modBrg k1)) k1
  have k3 : kept lanes safe s3 := kept_ite (kept_modBrg k2) (kept_ite (kept_modBrg k2) k2)
  split
  · exact h
  · exact kept_statusCheck k3
theorem kept_commutation {n pins s} (h : kept lanes safe s) :
    kept lanes safe (commutation n pins s) := kept_recode (kept_modUnit h)
theorem kept_interlock {n p s} (h : kept lanes safe s) :
    kept lanes safe (interlock n p s) := kept_ite h (kept_statusCheck (kept_modBrg (kept_modUnit h)))
theorem kept_desat {n sw s} (h : kept lanes safe s) :
    kept lanes safe (desat n sw s) := kept_rankUpdate (kept_modBrg h)
theorem kept_supplyMeasured {n mv s} (h : kept lanes safe s) :
    kept lanes safe (supplyMeasured n mv s) :=
        kept_ite (kept_latchFault (kept_ite (kept_latchFault (kept_modBrg h)) (kept_modBrg h)))
          (kept_ite (kept_latchFault (kept_modBrg h)) (kept_modBrg h))
theorem kept_temperature {n temp s} (h : kept lanes safe s) :
    kept lanes safe (temperature n temp s) := by
  unfold temperature
  extract_lets s1 s2
  have k1 : kept lanes safe s1 := kept_modBrg h
  have k2 : kept lanes safe s2 := kept_ite (kept_modBrg k1) k1
  split
  · exact kept_latchFault k2
  · exact kept_statusCheck (kept_ite (kept_modBrg k2) k2)
theorem kept_benRise {n lowNs vbsOk uvOk ovOk tempOk s} (h : kept lanes safe s) :
    kept lanes safe (benRise n lowNs vbsOk uvOk ovOk tempOk s) := by
  unfold benRise
  extract_lets s1 s2 s3 _ _ s4 s5 s6
  have k1 : kept lanes safe s1 := kept_modUnit (kept_modBrg h)
  have k2 : kept lanes safe s2 := kept_modUnit k1
  have k3 : kept lanes safe s3 := kept_modBrg k2
  have k4 : kept lanes safe s4 := kept_modBrg k3
  have k5 : kept lanes safe s5 := kept_ite (kept_modBrg k4) k4
  have k6 : kept lanes safe s6 := kept_ite k1 (kept_ite (kept_modUnit (kept_modBrg k5)) k5)
  exact kept_rankUpdate k6
theorem kept_brgRefuse {s l base} (h : kept lanes safe s) :
    kept lanes safe (brgRefuse s l base) := kept_modBrg h
theorem kept_terminalRequest {l n key s} (h : kept lanes safe s) :
    kept lanes safe (terminalRequest l n key s) :=
        kept_ite (kept_brgRefuse h) (kept_ite h (kept_ite (kept_modUnit h) (kept_modBrg h)))
theorem kept_selectReceived {w s} (h : kept lanes safe s) :
    kept lanes safe (selectReceived w s) := by
  unfold selectReceived
  extract_lets _ s1 s2 s3 s4
  have k1 : kept lanes safe s1 := kept_modBed (fun _ h1 => h1) h
  have k2 : kept lanes safe s2 := kept_ite (kept_modBrg k1) k1
  have k3 : kept lanes safe s3 := kept_modBrg k2
  have k4 : kept lanes safe s4 := kept_foldl (fun _ _ => kept_applySelection) k3
  split
  · exact kept_modBed (fun _ h5 => h5) k4
  · exact kept_modBrg k2
theorem kept_orphan {s} (h : kept lanes safe s) :
    kept lanes safe (orphan s) := kept_ite (kept_rankAll (kept_bcomIrq (kept_modBrg h))) h
theorem kept_strapSample {samples s} (h : kept lanes safe s) :
    kept lanes safe (strapSample samples s) := kept_ite h (kept_rankAll (kept_modBrg h))
theorem kept_pllLoss {s} (h : kept lanes safe s) :
    kept lanes safe (pllLoss s) :=
        kept_ite (kept_rankAll (kept_modLanes (fun _ => fun _ => sound_raise) (kept_bcomIrq (kept_modBrg h)))) h
theorem kept_pllLock {s} (h : kept lanes safe s) :
    kept lanes safe (pllLock s) := kept_rankAll (kept_bcomIrq (kept_modBrg h))
theorem kept_evStep {s e} (h : kept lanes safe s) :
    kept lanes safe (evStep s e) := by
  unfold evStep
  extract_lets 
  split
  · split
    · exact kept_evGo h
    · split
      · exact kept_evGo h
      · exact h
  · split
    · split
      · split
        · exact kept_evGo h
        · exact kept_evGo h
      · exact h
    · split
      · split
        · exact h
        · exact kept_evGo h
      · split
        · split
          · exact h
          · exact kept_bbump (Fld.offDev_above rfl (by decide)) (kept_evGo h)
        · exact h
theorem kept_evSettle {s e} (h : kept lanes safe s) :
    kept lanes safe (evSettle s e) := kept_evStep (kept_evStep (kept_modEval (kept_evStep h)))
theorem kept_discRun {s e} (h : kept lanes safe s) :
    kept lanes safe (discRun s e) := kept_bput (Fld.offDev_above rfl (by decide)) h
theorem kept_osLevels {s e} (h : kept lanes safe s) :
    kept lanes safe (osLevels s e) := kept_modEval h
theorem kept_evStart {s e} (h : kept lanes safe s) :
    kept lanes safe (evStart s e) :=
        kept_ite (kept_evSettle (kept_discRun (kept_osLevels (kept_modEval (kept_evGo h))))) h
theorem kept_evaluatorsStart {s} (h : kept lanes safe s) :
    kept lanes safe (evaluatorsStart s) :=
        kept_oneCycle h (fun _ h1 => kept_demandUpdate (kept_foldl (fun _ _ => kept_evStart) h1))
theorem kept_evParked {s e} (h : kept lanes safe s) :
    kept lanes safe (evParked s e) := kept_ite h (kept_evGo h)
theorem kept_modSafety {s f} (h : kept lanes safe s) :
    kept lanes safe (modSafety s f) := kept_modBed (fun _ h1 => h1) h
theorem kept_setLevels {s a b} (h : kept lanes safe s) :
    kept lanes safe (setLevels s a b) :=
        kept_foldl
          (fun _ _ h1 =>
             kept_ite (kept_ite h1 (kept_bput Fld.offDev_BSAFE_SISTAT_A h1))
               (kept_bput Fld.offDev_BSAFE_SISTAT_B (kept_ite h1 (kept_bput Fld.offDev_BSAFE_SISTAT_A h1)))) h
theorem kept_noteRises {s old sample} (h : kept lanes safe s) :
    kept lanes safe (noteRises s old sample) := kept_foldl (fun _ _ h1 => kept_ite (kept_modSafety h1) h1) h
theorem kept_evInputs {s e sample} (h : kept lanes safe s) :
    kept lanes safe (evInputs s e sample) := kept_modEval (kept_osLevels h)
theorem kept_mirrorIn {s rawA rawB rawSrst} (h : kept lanes safe s) :
    kept lanes safe (mirrorIn s rawA rawB rawSrst) := kept_mirrors (kept_modSafety h)
theorem kept_safetyInputs {a b srst rawA rawB rawSrst sample s} (h : kept lanes safe s) :
    kept lanes safe (safetyInputs a b srst rawA rawB rawSrst sample s) := by
  unfold safetyInputs
  extract_lets s1 _ s2
  have k1 : kept lanes safe s1 := kept_mirrorIn h
  have k2 : kept lanes safe s2 := kept_modSafety (kept_setLevels k1)
  split
  · exact k1
  · split
    · exact k2
    · exact
        kept_oneCycle k2
          (fun _ h3 =>
             kept_demandUpdate
               (kept_foldl (fun _ _ h4 => kept_evSettle (kept_discRun (kept_evInputs h4))) (kept_noteRises h3)))
theorem kept_discTimeout {e second s} (h : kept lanes safe s) :
    kept lanes safe (discTimeout e second s) :=
        kept_ite (kept_oneCycle h (fun _ h1 => kept_demandUpdate (kept_lockout (kept_bedRaise h1)))) h
theorem kept_lcurtOff {e chB s} (h : kept lanes safe s) :
    kept lanes safe (lcurtOff e chB s) :=
        kept_ite (kept_demandUpdate (kept_evSettle (kept_discRun (kept_modEval h)))) h
theorem kept_driveTp {s j v level} (h : kept lanes safe s) :
    kept lanes safe (driveTp s j v level) :=
        kept_mirrors (kept_bput (.inl (by decide)) (kept_bput (.inl (by decide)) h))
theorem kept_testPulseStart {j preA preB s} (h : kept lanes safe s) :
    kept lanes safe (testPulseStart j preA preB s) := kept_ite (kept_modSafety (kept_driveTp h)) h
theorem kept_testFault {s cause chans} (h : kept lanes safe s) :
    kept lanes safe (testFault s cause chans) :=
        kept_ite h (kept_foldl (fun _ _ h1 => kept_modEval (kept_lockout h1)) (kept_bedRaise h))
theorem kept_testPulseCheck {j lastA lastB endA endB rbFault s} (h : kept lanes safe s) :
    kept lanes safe (testPulseCheck j lastA lastB endA endB rbFault s) :=
        kept_ite h
          (kept_oneCycle h
             (fun _ h1 =>
                kept_demandUpdate
                  (kept_testFault
                     (kept_testFault (kept_foldl (fun _ _ => kept_modEval) (kept_modSafety (kept_driveTp h1)))))))
theorem kept_resetPulse {src sample rbOk s} (h : kept lanes safe s) :
    kept lanes safe (resetPulse src sample rbOk s) := by
  unfold resetPulse
  refine kept_ite h (kept_oneCycle h fun m hm => ?_)
  extract_lets rise s1 valid locked clear refused acts s2 s3 s4 s5
  have k1 : kept lanes safe s1 := kept_modSafety hm
  have k2 : kept lanes safe s2 := kept_ite (kept_bbump (.inl (by decide)) k1) k1
  have k3 : kept lanes safe s3 := kept_foldl (fun _ _ h2 =>
    kept_ite (kept_evGo h2) (kept_modEval (kept_bput (Fld.offDev_above rfl (by decide)) (kept_evGo h2)))) k2
  have k5 : kept lanes safe s5 :=
      kept_foldl (fun _ _ => kept_evSettle) (kept_irqPulseBoth (kept_bbump (.inl (by decide)) k3))
  exact kept_ite (kept_bbump (.inl (by decide)) k1) (kept_ite k2 (kept_demandUpdate k5))
theorem kept_acceptDemand {s x v} (h : kept lanes safe s) :
    kept lanes safe (acceptDemand s x v) :=
        kept_ite h
          (kept_ite (kept_bedRaise h)
             (kept_outputUpdate
                (kept_pathUpdate (kept_ite (kept_bput Fld.offDev_cur (kept_setPath h)) (kept_setPath h)))))
theorem kept_sdemandWrite {x v parityOk s} (h : kept lanes safe s) :
    kept lanes safe (sdemandWrite x v parityOk s) :=
        kept_ite (kept_acceptDemand (kept_modLane (fun _ => sound_regWrite) h))
          (kept_modLane (fun _ => sound_writeRefused) h)
theorem kept_demandTimeout {x s} (h : kept lanes safe s) :
    kept lanes safe (demandTimeout x s) := kept_ite h (kept_ite (kept_loseCurrent (kept_setPath h)) (kept_setPath h))
theorem kept_laneDiscrepancy {k s} (h : kept lanes safe s) :
    kept lanes safe (laneDiscrepancy k s) :=
        kept_ite
          (kept_outputUpdate (kept_pathUpdate (kept_bedRaiseFor (kept_bput Fld.offDev_ldis (kept_leaveJoin h))))) h
theorem kept_outputFault {s k src cause} (h : kept lanes safe s) :
    kept lanes safe (outputFault s k src cause) :=
        kept_oneCycle h
          (fun _ h1 => kept_demandUpdate (kept_foldl (fun _ _ h2 => kept_ite (kept_lockout h2) h2) (kept_bedRaise h1)))
theorem kept_readBack {s k chB level} (h : kept lanes safe s) :
    kept lanes safe (readBack s k chB level) :=
        kept_mirrors (kept_bput (Fld.offDev_ite (.inl (by decide)) (.inl (by decide))) h)
theorem kept_bedLaneWrite {s x a w} (h : kept lanes safe s) :
    kept lanes safe (bedLaneWrite s x a w).1 := by
  unfold bedLaneWrite
  extract_lets b old r mail s1 s2 s3
  have k1 : kept lanes safe s1 := kept_setLane (fun k => sound_headerEffect
    (sound_ite (sound_setRegs (RegFile.own_write _ _ _ _) (sound_lane h k)) (sound_wr (sound_lane h k)))) h
  have k2 : kept lanes safe s2 :=
    kept_ite (kept_modLane (fun _ => sound_irqRise) k1) (kept_irqLevelBoth (kept_modBed (fun _ => BedState.isSafe_clampLog) k1))
  exact kept_ite k1 (kept_bedRaise k2)
theorem kept_setRequest {s x r} (h : kept lanes safe s) :
    kept lanes safe (setRequest s x r) := kept_modBed (fun _ h1 => by split <;> exact h1) h
theorem kept_reqcmdWrite {s x v} (h : kept lanes safe s) :
    kept lanes safe (reqcmdWrite s x v) := by
  unfold reqcmdWrite
  extract_lets s1 s2 l3
  have k1 : kept lanes safe s1.1 := kept_bedLaneWrite h
  have k2 : kept lanes safe s2 := k1
  have k3 (k : lanes) : sound _ l3 := sound_lane k2 k
  split
  · exact h
  · split
    · exact kept_bput (.inl (by decide)) (kept_modLane (fun _ => sound_bump) h)
    · exact kept_setRequest (kept_modLane (fun _ h4 => sound_bump (sound_put (sound_put (sound_put h4)))) k2)
theorem kept_postResult {s x res} (h : kept lanes safe s) :
    kept lanes safe (postResult s x res) := kept_setRequest (kept_modLane (fun _ h1 => sound_put (sound_put h1)) h)
theorem kept_serve {s x op f} (h : kept lanes safe s) (hf : ∀ m0 m1, kept lanes safe m0 → kept lanes safe (f m0 m1).1) :
    kept lanes safe (serve s x op f) := by
  unfold serve
  split; exacts [h, kept_ite h (kept_postResult (hf _ _ (kept_settle h)))]
theorem kept_vote {s x r} (h : kept lanes safe s) :
    kept lanes safe (vote s x r).1 := kept_ite (kept_ite (kept_bput Fld.offDev_rseq h) h) (kept_bedRaise (kept_bbump Fld.offDev_neg (kept_ite (kept_bput Fld.offDev_rseq h) h)))
theorem kept_voteLost {s x doms pos} (h : kept lanes safe s) :
    kept lanes safe (voteLost s x doms pos) := kept_ite h (kept_foldl (fun _ _ => kept_setReady) h)
theorem kept_renew {s x r} (h : kept lanes safe s) :
    kept lanes safe (renew s x r).1 := by
  unfold renew
  have hv := kept_vote (x := x) (r := r) h
  generalize s.vote x r = v at hv ⊢
  obtain ⟨s1, pos⟩ := v
  dsimp -zeta only
  extract_lets doms was s2 now s3
  have k2 : kept lanes safe s2 := kept_voteLost hv
  have k3 : kept lanes safe s3 :=
      kept_foldl (fun m d h1 => kept_ite (kept_modBed (fun _ h2 => h2) (kept_setNeg h1)) (kept_setNeg h1)) k2
  split
  · exact k2
  · split
    · exact k2
    · split
      · exact k2
      · dsimp only
        exact kept_diagAll k3
theorem kept_standby {s x r} (h : kept lanes safe s) :
    kept lanes safe (standby s x r).1 := by
  unfold standby
  have hv := kept_vote (x := x) (r := r) h
  generalize s.vote x r = v at hv ⊢
  obtain ⟨s1, pos⟩ := v
  dsimp -zeta only
  extract_lets doms s2 _ _ s3
  have k2 : kept lanes safe s2 := kept_voteLost hv
  have k3 : kept lanes safe s3 := kept_foldl (fun m d h1 => kept_ite h1 (kept_gapCheck (kept_setReady h1))) k2
  split
  · exact k2
  · split
    · exact k2
    · split
      · exact k2
      · dsimp only
        exact kept_diagAll k3
theorem kept_release {s x r} (h : kept lanes safe s) :
    kept lanes safe (release s x r).1 := by
  unfold release
  extract_lets _ _ _ _ s1
  have k1 : kept lanes safe s1 := kept_foldl (fun _ _ h1 => kept_ite (kept_enterBreak h1) h1) h
  split
  · exact h
  · split
    · exact h
    · split
      · exact h
      · exact k1
theorem kept_driveOn {s} (h : kept lanes safe s) :
    kept lanes safe (driveOn s).1 := by
  unfold driveOn
  extract_lets doms s1 s2
  have k1 : kept lanes safe s1 := kept_foldl (fun _ _ h1 => kept_enterMake h1) h
  split
  · exact h
  · next hd =>
    have hn : safe → Dev.drive = Dev.safe := fun k => (not_safe h (fun e => hd (.inl (by rw [e]; decide))) k).elim
    exact kept_outputUpdate (kept_setDev hn (kept_modLanes (fun _ _ => sound_put) k1))
theorem kept_driveOff {s} (h : kept lanes safe s) :
    kept lanes safe (driveOff s).1 := by
  unfold driveOff
  split
  · exact h
  · next hd =>
    have hn : safe → Dev.idle = Dev.safe := fun k => (not_safe h (fun e => hd (by rw [e]; decide)) k).elim
    refine kept_sendSelect (kept_outputUpdate (kept_setDev hn (kept_foldl (fun m d h1 => ?_) h)))
    have k2 : kept lanes safe (if (m.holderOf d).isSome then m.leaseTrigger d else m) := kept_ite (kept_leaseTrigger h1) h1
    have k3 := kept_setHand (d := d) (v := false) (kept_bput (f := F.BLEASE_LSTAT_HOLDER d) (v := 0) (Fld.offDev_above rfl (by decide))
      (kept_bput (f := F.BLEASE_LSTAT_STATE d) (v := Dom.idle) (Fld.offDev_above rfl (by decide)) k2))
    exact kept_setReady (kept_setReady (kept_bput (Fld.offDev_above rfl (by decide)) (kept_bput (Fld.offDev_above rfl (by decide))
      (kept_ite k3 (kept_bput (Fld.offDev_above rfl (by decide)) k3)))))
theorem kept_heartbeatSeen {s x} (h : kept lanes safe s) :
    kept lanes safe (heartbeatSeen s x) := kept_ite (kept_setStatus h) h
theorem kept_ackDomain {s cycles d} (h : kept lanes safe s) :
    kept lanes safe (ackDomain s cycles d) :=
        kept_ite (kept_ite (kept_enterMake h) (kept_enterGap h)) (kept_ite (kept_enterHeld h) h)
theorem kept_selectAck {codes acts cycles s} (h : kept lanes safe s) :
    kept lanes safe (selectAck codes acts cycles s) := by
  unfold selectAck
  extract_lets s1
  have k1 : kept lanes safe s1 := kept_modBed (fun _ h1 => h1) h
  split
  · exact h
  · split
    · exact kept_diagAll (kept_foldl (fun _ _ => kept_ackDomain) (kept_modBed (fun _ h2 => h2) k1))
    · exact k1
theorem kept_retire {s v1} (h : kept lanes safe s) :
    kept lanes safe (retire s v1) := by
  unfold retire
  extract_lets f
  have hf : f.offDev := Fld.offDev_ite (.inr (by decide)) (.inr (by decide))
  exact kept_ite h (kept_outputUpdate (kept_bedRaise (kept_irqPulseBoth (kept_bput hf h))))
theorem kept_setSupply {s f v} (hf : f.offDev) (h : kept lanes safe s) :
    kept lanes safe (setSupply s f v) := kept_ite h (kept_irqPulseBoth (kept_bput hf h))
theorem kept_switchOver {s x} (h : kept lanes safe s) :
    kept lanes safe (switchOver s x) :=
        kept_ite h (kept_bbump (.inl (by decide)) (kept_setSupply (.inr (by decide)) h))
theorem kept_feedUvFall {s x} (h : kept lanes safe s) :
    kept lanes safe (feedUvFall s x) := by
  unfold feedUvFall
  extract_lets s1 s2 s3
  have k2 : kept lanes safe s2 :=
    kept_laneLost (kept_bedRaise (kept_setSupply Fld.offDev_feed (kept_modLane (fun _ => sound_withPower) h)))
  exact kept_ite h (kept_laneReset (kept_ite (kept_switchOver k2) k2))
theorem kept_deviceOff {s} (h : kept lanes False s) :
    kept lanes False (deviceOff s) := by
  have k1 :=
      kept_modLanes
        (fun _ l h1 =>
           sound_setRegs (r := l.regs.clear fun a => decide (0x50000 ≤ pageOf a) && decide (pageOf a < 0x60000)) rfl
             h1) h
  exact ⟨k1.1, False.elim⟩
theorem kept_mac {x w s} (h : kept lanes safe s) :
    kept lanes safe (mac x w s) := kept_modLane (fun _ => sound_macOp) h
theorem kept_msu {x w s} (h : kept lanes safe s) :
    kept lanes safe (msu x w s) := kept_modLane (fun _ => sound_macOp) h
theorem kept_mpy {x w s} (h : kept lanes safe s) :
    kept lanes safe (mpy x w s) := kept_modLane (fun _ => sound_macOp) h
theorem kept_runCompute {s x r pin} (h : kept lanes safe s) :
    kept lanes safe (runCompute s x r pin) := by
  unfold runCompute
  dsimp only
  exact
      kept_modLane
        (fun _ h1 =>
           sound_ite (sound_toLoad h1)
             (by
                split
                · exact sound_compareResult (sound_modSieve (sound_sendPlace h1))
                · exact sound_modSieve (sound_sendPlace h1))) h
theorem kept_runInput {s x r pin} (h : kept lanes safe s) :
    kept lanes safe (runInput s x r pin) := kept_ite (kept_modLane (fun _ => sound_runEnd) h) (kept_runCompute h)
theorem kept_terminalRequests {s x plan} (h : kept lanes safe s) :
    kept lanes safe (terminalRequests s x plan) :=
        kept_modLane (fun _ => sound_foldl (fun _ _ => sound_foldl (fun _ _ => sound_postBridge))) h
theorem kept_rampStep {s x} (h : kept lanes safe s) :
    kept lanes safe (rampStep s x) := kept_modLane (fun _ => sound_modSieve) h
theorem kept_syncDone {s} (h : kept lanes safe s) :
    kept lanes safe (syncDone s) :=
        kept_ite
          (kept_modLanes (fun _ => fun _ h1 => sound_ite (sound_irqPulse (sound_put (sound_modSieve h1))) h1) h) h
theorem kept_sieveFrame {s x} (h : kept lanes safe s) :
    kept lanes safe (sieveFrame s x) := by
  unfold sieveFrame
  extract_lets s1 s2
  have k1 : kept lanes safe s1 :=
      kept_modLane (fun _ h1 => sound_modSieve (by split; exacts [sound_ite (sound_runEnd h1) h1, h1])) h
  have k2 : kept lanes safe s2 := kept_rampStep k1
  split
  · exact kept_modLane (fun _ h3 => sound_sendInput (sound_modSieve h3)) k2
  · exact k2
theorem kept_psreqWrite {s x g v} (h : kept lanes safe s) :
    kept lanes safe (psreqWrite s x g v) := by
  unfold psreqWrite
  extract_lets l l1 t outer
  have kl (k : lanes) : sound x l1 := sound_regWrite (sound_lane h k)
  refine kept_ite h (kept_ite (kept_setLane (fun k => sound_parkAbort (kl k)) h)
    (kept_ite (kept_setLane (fun k => sound_ite (sound_leaveDoze (kl k)) (kl k)) h)
    (kept_ite (kept_ite (kept_setLane (fun k => sound_entryEnds (kl k)) h)
      (kept_setLane (fun k => sound_entryCheck (sound_modPower (kl k))) h))
    (kept_ite ?_ (kept_setLane kl h)))))
  split
  · exact kept_setLane (fun k => sound_entryEnds (kl k)) h
  · exact kept_setLane (fun k => sound_entryCheck (sound_modPower (sound_put (kl k)))) h
theorem kept_parkBridges {s} (h : kept lanes safe s) :
    kept lanes safe (parkBridges s) := kept_rankAll (kept_bcomIrq (kept_modBrg h))
theorem kept_wakeEvent {s x ss} (h : kept lanes safe s) :
    kept lanes safe (wakeEvent s x ss) := by
  unfold wakeEvent
  extract_lets l l1 l2
  have kl (k : lanes) : sound x l2 :=
    sound_modPower (sound_ite (sound_modPower (sound_put (sound_put (sound_put (sound_lane h k))))) (sound_lane h k))
  exact kept_ite h (kept_ite (kept_modBed (fun _ h1 => h1) (kept_setLane (fun k => sound_put (kl k)) h))
    (kept_ite (kept_setLane (fun k => sound_parkAbort (sound_lane h k)) h) h))
theorem kept_peerwakeWrite {s x v} (h : kept lanes safe s) :
    kept lanes safe (peerwakeWrite s x v) :=
        kept_ite (kept_wakeEvent (kept_modLane (fun _ h1 => sound_command h1 (fun _ _ h2 => h2)) h))
          (kept_modLane (fun _ h1 => sound_command h1 (fun _ _ h2 => h2)) h)
theorem kept_bedShared {s a v load} (h : kept lanes safe s) :
    kept lanes safe (bedShared s a v load) := by
  unfold bedShared
  extract_lets b r s1 s2
  have k1 : kept lanes safe s1 := kept_withBed (fun k => BedState.isSafe_write (h.2 k)) h
  have k2 : kept lanes safe s2 := kept_ite k1 (kept_bedRaise (kept_irqLevelBoth k1))
  exact
      kept_ite (kept_irqLevelBoth (kept_modBed (fun _ => BedState.isSafe_put (Fld.offDev_header rfl (by decide))) k2))
        k2
theorem kept_bedIgnored {s x a} (h : kept lanes safe s) :
    kept lanes safe (bedIgnored s x a) :=
        kept_ite (kept_modLane (fun _ => sound_put) h) (kept_bput (Fld.offDev_header rfl (by decide)) h)
theorem kept_writeBed {s x a v} (h : kept lanes safe s) :
    kept lanes safe (writeBed s x a v) :=
        kept_ite h
          (kept_ite (kept_bedIgnored h)
             (kept_ite (kept_reqcmdWrite h) (kept_ite (kept_bedLaneWrite h) (kept_bedShared h))))
theorem kept_brgCopyWrite {s x a v} (h : kept lanes safe s) :
    kept lanes safe (brgCopyWrite s x a v) := by
  unfold brgCopyWrite
  extract_lets _ _ _ s1 s2 s3
  have k1 : kept lanes safe s1 := kept_modLane (fun _ h1 => sound_headerEffect (sound_wr h1)) h
  have k2 : kept lanes safe s2 := kept_modBrg k1
  have k3 : kept lanes safe s3 := kept_modLane (fun _ => sound_raise) k2
  split
  · exact k1
  · exact kept_statusCheck k3
theorem kept_brgSettle {s p} (h : kept lanes safe s) :
    kept lanes safe (brgSettle s p) := by
  unfold brgSettle
  split; exacts [kept_statusCheck (kept_rankAll h), kept_rankUpdate h]
theorem kept_recheckPdiv {s x} (h : kept lanes safe s) :
    kept lanes safe (recheckPdiv s x) :=
        kept_foldl (fun _ _ h1 => kept_ite (kept_modLane (fun _ => sound_raise) (kept_modBrg h1)) h1) h
theorem kept_brgSoftReset {s p} (h : kept lanes safe s) :
    kept lanes safe (brgSoftReset s p) := by
  unfold brgSoftReset
  extract_lets _ _ _ s1 s2 s3
  have k1 : kept lanes safe s1 := kept_modLanes (fun _ => fun _ h1 => sound_wr (sound_wr h1)) h
  have k2 : kept lanes safe s2 := kept_modBrg k1
  have k3 : kept lanes safe s3 := kept_modBrg k2
  split
  · exact kept_bcomIrq (kept_modBrg k3)
  · exact kept_modUnit k3
theorem kept_brgApply {s x p off v} (h : kept lanes safe s) :
    kept lanes safe (brgApply s x p off v) := by
  unfold brgApply
  extract_lets _ _ _ _ _ _ _ _ s4 s5 s6 s7 s8 s9
  have k4 : kept lanes safe s4 := kept_ite (kept_modBrg h) (kept_modLane (fun _ => sound_raise) (kept_modBrg h))
  have k5 : kept lanes safe s5 := kept_ite (kept_modBrg k4) k4
  have k6 : kept lanes safe s6 := kept_ite (kept_recheckPdiv k5) k5
  have k7 : kept lanes safe s7 := by
    cases p
    exacts [k6, kept_ite (kept_modBrg k6) k6]
  have k8 : kept lanes safe s8 := kept_ite (kept_ite (kept_ite (kept_modBrg k7) (kept_brgSoftReset k7)) k7) k6
  have k9 : kept lanes safe s9 := by
    cases p
    exacts [k8, kept_ite (kept_terminalRequest k8) (kept_ite (kept_recode k8) (kept_ite (kept_modBrg k8) (kept_ite (kept_latchFault k8) k8)))]
  exact kept_ite (kept_ite (kept_modLane (fun _ => sound_raise) (kept_modBrg h)) (kept_modBrg h)) (kept_brgSettle k9)
theorem kept_bootWatch {s t x b} (h : kept lanes safe t) :
    kept lanes safe (bootWatch s t x b) := kept_ite (kept_modLane (fun _ h1 => h1) h) h
theorem kept_brgArrive {s x n offset data parityOk} (h : kept lanes safe s) :
    kept lanes safe (brgArrive s x n offset data parityOk) :=
        kept_bootWatch
          (kept_ite (kept_brgRefuse h)
             (kept_ite (kept_brgApply h) (kept_modLane (fun _ => sound_raise) (kept_modBrg h))))
theorem kept_readReg {s x g a} (h : kept lanes safe s) :
    kept lanes safe (readReg s x g a).1 := by
  unfold readReg
  split
  · next r hr => exact kept_setLane (fun k => sound_clearingRead (sound_lane h k) hr) h
  · exact kept_setLane (fun k => sound_counterRead (sound_lane h k)) h
theorem kept_counterWrite {s x a lo hi} (h : kept lanes safe s) :
    kept lanes safe (counterWrite s x a lo hi) := by
  unfold counterWrite
  extract_lets _ s1
  have k1 : kept lanes safe s1 :=
      kept_modLane (fun _ h1 => sound_command (sound_command h1 (fun _ _ h2 => h2)) (fun _ _ h2 => h2)) h
  split
  · exact k1
  · split
    · exact kept_modLane (fun _ => sound_srcUpdate) k1
    · exact kept_freeNext (kept_modLane (fun _ => sound_modEth) k1)
theorem kept_writeReg {s x g a v} (h : kept lanes safe s) :
    kept lanes safe (writeReg s x g a v) := by
  unfold writeReg
  extract_lets page now free s1 s2
  have k1 : kept lanes safe s1 := kept_ite (kept_freeNext h) h
  have k2 : kept lanes safe s2 := kept_modLane (fun _ => sound_blockWrite) k1
  exact kept_ite (kept_modLane (fun _ => sound_blkctrlWrite) h)
    (kept_ite (kept_modLane (fun _ h3 => sound_ite (sound_put h3) (sound_lockKeyWrite h3)) h)
    (kept_ite (kept_modLane (fun _ h3 => sound_plainWrite h3 (fun _ h4 => h4)) h)
    (kept_ite (kept_sdemandWrite h)
    (kept_ite (kept_psreqWrite h)
    (kept_ite (kept_rstcmdWrite h)
    (kept_ite (kept_peerwakeWrite h)
    (kept_ite (kept_counterWrite h)
    (kept_ite (kept_modLane (fun _ h3 => sound_ite (sound_put h3) (sound_setWriteShadow (sound_abandonLock h3))) h)
    (kept_ite (kept_capUpdate k2) k2)))))))))
theorem kept_busWrite {s x g a size v bad} (h : kept lanes safe s) :
    kept lanes safe (busWrite s x g a size v bad).1 := by
  unfold busWrite
  extract_lets _ _ _ _ err
  have ke : kept lanes safe err.1 := h
  split
  · exact ke
  · split
    · split
      · exact kept_modLane (fun _ => sound_dmaStore) h
      · exact ke
    · split
      · exact kept_modLane (fun _ => sound_leWrite) h
      · exact ke
    · split
      · exact kept_ite (kept_modLane (fun _ => sound_imsicPost) h) h
      · exact ke
    · split
      · dsimp only
        exact kept_modLane (fun _ => sound_aplicWrite) h
      · exact ke
    · split
      · exact ke
      · split
        · exact kept_modLane (fun _ => sound_writeRefused) h
        · split
          · exact kept_writeReg h
          · split
            · exact kept_counterWrite h
            · split
              · exact kept_freeNext (kept_modLane (fun _ h3 => sound_txabortWrite (sound_txreqWrite h3)) h)
              · exact kept_writeReg (kept_writeReg h)
    · split
      · exact ke
      · split
        · exact
            kept_bedRaise
              (kept_ite (kept_modLane (fun _ => sound_put) h) (kept_bput (Fld.offDev_header rfl (by decide)) h))
        · exact kept_writeBed h
    · split
      · exact ke
      · split
        · exact kept_ite (kept_brgCopyWrite h) (kept_modLane (fun _ => sound_raise) (kept_modBrg h))
        · exact kept_ite (kept_modLane (fun _ => sound_postBridge) h) (kept_ite h (kept_brgArrive h))
    · exact ke
theorem kept_busRead {s x g a size} (h : kept lanes safe s) :
    kept lanes safe (busRead s x g a size).1 := by
  unfold busRead
  extract_lets l err ok
  have ko {m v} (hm : kept lanes safe m) : kept lanes safe (ok m v).1 := kept_freeNext hm
  have ke : kept lanes safe err.1 := h
  split
  · exact ke
  · split
    · split
      · exact ko h
      · exact ke
    · split
      · exact ke
      · split
        · exact kept_modLane (fun _ => sound_snoopAll) h
        · exact ko h
    · split
      · exact ke
      · split
        · exact kept_modLane (fun _ => sound_raiseAt) h
        · exact ko h
    · split
      · exact ko h
      · exact ke
    · split
      · exact ko h
      · exact ke
    · split
      · exact ke
      · split
        · exact ko (kept_readReg h)
        · split
          · exact ko h
          · exact ko (kept_readReg (kept_readReg h))
    · split
      · exact ke
      · exact ko (kept_setLane (fun k => sound_counterRead (sound_lane h k)) h)
    · split
      · exact ke
      · split
        · exact ko h
        · exact kept_setLane (fun k => sound_brgReadPost (sound_lane h k)) h
    · exact kept_setLane (fun k => sound_peerReadPost (sound_lane h k)) h
    · exact ke
theorem kept_bus {s x g a bad} (h : kept lanes safe s) :
    kept lanes safe (bus s x g a bad).1 := by
  unfold bus
  split
  · exact kept_busWrite h
  · exact kept_busRead h
theorem kept_bootFail {s x c} (h : kept lanes safe s) :
    kept lanes safe (bootFail s x c) := kept_modLane (fun _ h1 => h1) h
theorem kept_bootReg {s x a v} (h : kept lanes safe s) :
    kept lanes safe (bootReg s x a v) :=
        kept_ite h (kept_ite (kept_bootFail h) (kept_ite (kept_bootFail (kept_bus h)) (kept_bus h)))
theorem kept_bootMem {s x t} (h : kept lanes safe s) :
    kept lanes safe (bootMem s x t) :=
        kept_ite h (kept_ite (kept_modLane (fun _ => sound_memCopy) h) (kept_bootFail h))
theorem kept_bootSection {s x t} (h : kept lanes safe s) :
    kept lanes safe (bootSection s x t) :=
        kept_ite h (kept_ite (kept_foldl (fun _ _ => kept_bootReg) h) (kept_ite (kept_bootMem h) h))
theorem kept_bootImage {s x} (h : kept lanes safe s) :
    kept lanes safe (bootImage s x) := by
  unfold bootImage
  extract_lets l
  split
  · exact h
  · split
    · exact kept_bootFail h
    · next k _ =>
      extract_lets dbg s1 s2
      have k1 : kept lanes safe s1 := kept_modLane (fun _ h1 => sound_withDm (sound_wr (sound_put h1))) h
      have k2 : kept lanes safe s2 := kept_foldl (fun _ _ => kept_bootSection) k1
      exact kept_ite k2 (kept_ite (kept_modLane (fun _ => sound_withPower) k2) (kept_bootFail k2))
theorem kept_resetRelease {s x} (h : kept lanes safe s) :
    kept lanes safe (resetRelease s x) := by
  unfold resetRelease
  extract_lets _ s1
  have k1 : kept lanes safe s1 :=
      kept_modLane (fun _ h1 => sound_put (sound_put (sound_setOuter (sound_modPower h1)))) h
  split
  · exact h
  · exact kept_modLane (fun _ h2 => sound_choosePath (sound_liveAgain h2)) (kept_mirrors (kept_heartbeatSeen k1))
theorem kept_bedEntry {s x load e} (h : kept lanes safe s) :
    kept lanes safe (bedEntry s x load e) := kept_ite (kept_bedLaneWrite h) (kept_ite (kept_bedShared h) h)
theorem kept_grantTo {s x} (h : kept lanes safe s) :
    kept lanes safe (grantTo s x) := kept_foldl (fun _ _ => kept_bedEntry) (kept_modBed (fun _ h1 => h1) h)
theorem kept_requests {s x} (h : kept lanes safe s) :
    kept lanes safe (requests s x).1 := by
  unfold requests
  extract_lets s1 l2
  have k1 : kept lanes safe s1 := kept_bootImage h
  have k2 (k : lanes) : sound _ l2 := sound_lane k1 k
  split
  · exact k1
  · split
    · exact kept_bootFail k1
    · exact k1
theorem kept_bedClamp {s f v} (hf : f.addr ≠ R.BSYS_DEVSTAT) (h : kept lanes safe s) :
    kept lanes safe (bedClamp s f v) := by
  have hc (b : BedState) (o : Word) : ((b.regs.put f v).clampLog f.addr o f.lo 1).rd R.BSYS_DEVSTAT = b.regs.rd R.BSYS_DEVSTAT :=
    (RegFile.rd_clampLog _ _ _ _ _ (by decide)).trans (RegFile.rd_put_ne _ _ _ hf.symm)
  unfold bedClamp
  extract_lets b s1
  have k1 : kept lanes safe s1 := kept_modBed (fun b h1 => BedState.isSafe_setRegs (hc b _) h1) h
  exact kept_ite h (kept_bedRaise (kept_irqLevelBoth k1))
theorem kept_clampBridges {s} (h : kept lanes safe s) :
    kept lanes safe (clampBridges s) :=
        kept_foldl
          (fun _ _ => kept_foldl (fun _ _ h2 => kept_ite (kept_bedClamp (Fld.ne_above rfl (by decide)) h2) h2)) h
theorem kept_clampTests {s} (h : kept lanes safe s) :
    kept lanes safe (clampTests s) := by
  unfold clampTests
  extract_lets _ off
  have ko {m f} (hf : f.addr ≠ R.BSYS_DEVSTAT) (hm : kept lanes safe m) : kept lanes safe (off m f) :=
      kept_ite (kept_bedClamp hf hm) hm
  refine kept_foldl (fun m n hm => ?_) h
  have k2 : kept lanes safe (off (off m (F.BSAFE_SICFG_TPSELA n)) (F.BSAFE_SICFG_TPSELB n)) :=
    ko (Fld.ne_above rfl (by decide)) (ko (Fld.ne_above rfl (by decide)) hm)
  exact kept_ite (kept_bedClamp (Fld.ne_above rfl (by decide)) k2) k2
theorem kept_clampEvals {s} (h : kept lanes safe s) :
    kept lanes safe (clampEvals s) := kept_foldl (fun _ _ h1 =>
      have k1 := kept_ite (kept_bedClamp (Fld.ne_above rfl (by decide)) h1) h1
      kept_ite (kept_bedClamp (Fld.ne_above rfl (by decide)) k1) k1) h
theorem kept_loadedRises {s} (h : kept lanes safe s) :
    kept lanes safe (loadedRises s) := by
  unfold loadedRises
  extract_lets s1 s2
  have k1 : kept lanes safe s1 := kept_modBed (fun _ h1 => BedState.isSafe_withGrant
    (BedState.isSafe_put (.inl (by decide)) (BedState.isSafe_put (.inl (by decide)) (BedState.isSafe_lockPages h1)))) h
  have k2 : kept lanes safe s2 := kept_foldl (fun _ _ h1 =>
    kept_modBrg (kept_bput (Fld.offDev_above rfl (by decide)) (kept_bput (Fld.offDev_above rfl (by decide)) h1))) k1
  exact kept_startExit (kept_mirrors (kept_evaluatorsStart (kept_bput (.inl (by decide)) k2)))
theorem kept_bootLock {s x} (h : kept lanes safe s) :
    kept lanes safe (bootLock s x) :=
        kept_ite (kept_modLane (fun _ => sound_foldl (fun _ _ => sound_lockPage)) h) (kept_bootFail h)
theorem kept_bootCheck {s x} (h : kept lanes safe s) :
    kept lanes safe (bootCheck s x) :=
        kept_ite (kept_foldl (fun _ _ => kept_bedEntry) h) (kept_bootFail (kept_foldl (fun _ _ => kept_bedEntry) h))
theorem kept_completeSeen {s x} (h : kept lanes safe s) :
    kept lanes safe (completeSeen s x) := by
  unfold completeSeen
  extract_lets s1 s2 s3
  have k2 : kept lanes safe s2 := by
    by_cases hd : s.devState = Dev.safe
    · rw [show s2 = s from if_neg fun hp => absurd (hd.symm.trans hp.1) (by decide)]
      exact h
    · exact kept_ite (kept_evaluatorsStart (kept_heartbeatSeen (kept_heartbeatSeen (kept_setDev (fun k => (not_safe h hd k).elim) h)))) h
  exact kept_outputUpdate (kept_capUpdate (kept_ite (kept_setStatus k2) k2))
theorem kept_access {s x g a bad log} (h : kept lanes safe s) :
    kept lanes safe (access s x g a bad log) := by
  unfold access
  exact kept_modLane (fun _ h1 => sound_ite (sound_accessDone h1) h1) (kept_bus h)
theorem kept_pairAccess {s x n a} (h : kept lanes safe s) :
    kept lanes safe (pairAccess s x n a) :=
        kept_ite h
          (kept_ite (kept_modLane (fun _ => sound_accessFault) h)
             (kept_ite (kept_modLane (fun _ => sound_replayAccess) h) (kept_ite h (kept_access h))))
theorem kept_agentAccess {s x g a} (h : kept lanes safe s) :
    kept lanes safe (agentAccess s x g a) := by
  unfold agentAccess
  split; exacts [kept_pairAccess h, kept_access h]
theorem kept_parityRaise {s x addr} (h : kept lanes safe s) :
    kept lanes safe (parityRaise s x addr) := by
  unfold parityRaise
  split; exacts [kept_bedRaise h, kept_modLane (fun _ => sound_raise) h]
theorem kept_pageWrite {s x g a v} (h : kept lanes safe s) :
    kept lanes safe (pageWrite s x g a v) := kept_ite (kept_access h) h
theorem kept_hspiFrame {s x cmd f early par} (h : kept lanes safe s) :
    kept lanes safe (hspiFrame s x cmd f early par) := by
  unfold hspiFrame
  extract_lets s1 l chk a r
  have k1 : kept lanes safe s1 := kept_modLane (fun _ h1 => sound_ite (sound_parkAbort h1) h1) h
  have ka {m c w} (hm : kept lanes safe m) : kept lanes safe (m.modLane x (·.hspiResult f c w)) :=
      kept_modLane (fun _ => sound_hspiResult) hm
  have kr : kept lanes safe r.1 := kept_bus k1
  refine kept_ite k1 (kept_ite (ka k1) (kept_ite (ka k1) (kept_ite (ka k1) (kept_ite (ka (kept_parityRaise k1)) ?_))))
  refine kept_modLane (fun m hm => sound_ite hm ?_) kr
  cases r.2 with
  | waiting => exact hm
  | _ => exact sound_hspiResult hm
theorem kept_beatForces {s x a n} (h : kept lanes safe s) :
    kept lanes safe (beatForces s x a n) := by
  unfold beatForces
  split
  exacts [kept_modLane (fun _ => sound_snoopAll) h, by split; exacts [kept_modLane (fun _ => sound_snoopAll) h, h], h]
theorem kept_beatRead {s x a n} (h : kept lanes safe s) :
    kept lanes safe (beatRead s x a n).1 := by
  unfold beatRead
  extract_lets l1 s2
  have k1 (k : lanes) : sound _ l1 := sound_lane h k
  have k2 : kept lanes safe s2.1 := kept_busRead h
  split
  · exact h
  · exact h
  · split
    · exact h
    · split
      · exact h
      · split
        · exact h
        · exact h
  · split
    · split
      · exact h
      · exact kept_freeNext h
    · exact h
  · split
    · exact k2
    · exact k2
theorem kept_beatWrite {s x a bs} (h : kept lanes safe s) :
    kept lanes safe (beatWrite s x a bs).1 := by
  unfold beatWrite
  extract_lets _ s1
  have k1 : kept lanes safe s1.1 := kept_busWrite h
  split
  · split
    · exact kept_modLane (fun _ => sound_dmaPutBytes) h
    · exact h
  · exact k1
theorem kept_readBeats {s x addr down v4} (h : kept lanes safe s) :
    kept lanes safe (readBeats s x addr down v4).1 := by
  induction v4 generalizing s with
  | nil => exact h
  | cons e r ih =>
    unfold readBeats
    extract_lets p
    have kp : kept lanes safe p.1 := kept_beatRead h
    split
    · exact kp
    · exact ih kp
theorem kept_writeBeats {s x c addr data down crcOn v7} (h : kept lanes safe s) :
    kept lanes safe (writeBeats s x c addr data down crcOn v7).1 := by
  induction v7 generalizing s with
  | nil => exact h
  | cons e r ih =>
    unfold writeBeats
    extract_lets bs p s1
    have k1 : kept lanes safe s1 := kept_modLane (fun _ => sound_beats) (kept_beatWrite h)
    split
    · exact ih (kept_modLane (fun _ => sound_xferCount) k1)
    · exact k1
theorem kept_moveBurst {s x c most} (h : kept lanes safe s) :
    kept lanes safe (moveBurst s x c most) := by
  unfold moveBurst
  extract_lets l q
  split
  · exact h
  · extract_lets _ _ _ _ _ _ _ r s1
    have kr : kept lanes safe r.1 := kept_readBeats h
    have k1 : kept lanes safe s1 := kept_modLane (fun _ => sound_beats) kr
    refine kept_ite h (kept_ite (kept_foldl (fun _ _ => kept_beatForces) h) ?_)
    split
    · exact kept_modLane (fun _ => sound_xferError) k1
    · exact kept_ite (kept_writeBeats k1) (kept_modLane (fun _ => sound_xferError) (kept_writeBeats k1))
theorem kept_moveBursts {s x c upTo v4} (h : kept lanes safe s) :
    kept lanes safe (moveBursts s x c upTo v4) := by
  induction v4 generalizing s with
  | zero => exact h
  | succ n ih => exact kept_ite h (ih (kept_moveBurst h))

end Sys2Proof.Machine.State
end

section
/-! SUPPORT. The same of every command, and of a step. -/
namespace Sys2Proof.Machine
open Sys2Proof LaneState

/-- Every next state of a command's outcome is kept. -/
def State.keeps (lanes safe : Prop) (o : Host.Outcome State Fault Refusal) : Prop := ∀ t, o = .next t → t.kept lanes safe

namespace State
variable {lanes safe : Prop}
theorem keeps_next {s} (h : kept lanes safe s) : keeps lanes safe (.next s) := fun _ e => Host.Outcome.next.inj e ▸ h
theorem keeps_ite {c : Prop} [Decidable c] {o p : Host.Outcome State Fault Refusal} (h : keeps lanes safe o) (h' : keeps lanes safe p) :
    keeps lanes safe (if c then o else p) := by
  split
  exacts [h, h']
theorem keeps_onLane {x f s} (hf : ∀ l, sound x l → sound x (f l)) (h : kept lanes safe s) : keeps lanes safe (onLane x f s) :=
  keeps_next (kept_modLane hf h)
end State
end Sys2Proof.Machine

namespace Sys2Proof.Machine.State
open Sys2Proof LaneState
variable {lanes safe : Prop}

theorem keeps_execSamplerEnable {x v s} (h : kept lanes safe s) :
    keeps lanes safe (execSamplerEnable x v s) := keeps_onLane (fun _ => sound_smpctlWrite) h
theorem keeps_execSampleTag {x p s} (h : kept lanes safe s) :
    keeps lanes safe (execSampleTag x p s) :=
        keeps_onLane
          (fun _ h1 =>
             by
               split
               exacts [h1, sound_ite h1 (sound_ite (sound_sampleSkip (sound_setSampler h1)) (sound_setSampler h1))]) h
theorem keeps_execSampleRecordAppend {x p retired pc kind flags daddr cycles dataCycles s} (h : kept lanes safe s) :
    keeps lanes safe (execSampleRecordAppend x p retired pc kind flags daddr cycles dataCycles s) :=
        keeps_onLane
          (fun _ h1 =>
             by
               split
               · exact h1
               · exact sound_ite h1
                         (sound_ite (sound_sampleSkip (sound_setSampler h1)) (sound_recAppend (sound_setSampler h1))))
          h
theorem keeps_execSmpack {x v s} (h : kept lanes safe s) :
    keeps lanes safe (execSmpack x v s) := keeps_onLane (fun _ => sound_smpackWrite) h
theorem keeps_execHistclr {x u v s} (h : kept lanes safe s) :
    keeps lanes safe (execHistclr x u v s) := keeps_onLane (fun _ => sound_histclrWrite) h
theorem keeps_execFaultSourceEvent {x src unit same cause s} (h : kept lanes safe s) :
    keeps lanes safe (execFaultSourceEvent x src unit same cause s) :=
        keeps_ite (keeps_next h)
          (keeps_ite
             (keeps_next
                (kept_modLane
                   (fun _ h1 => sound_ite (sound_setLive (sound_setOuter (sound_outerReport h1))) (sound_ite h1 h1)) h))
             (keeps_ite
                (keeps_next (kept_modLane (fun _ h1 => sound_setLive (sound_setOuter (sound_outerReport h1))) h))
                (keeps_next
                   (kept_capUpdate
                      (kept_ite
                         (kept_deviceSafe
                            (kept_setLane
                               (fun k =>
                                  sound_event
                                    (sound_ite (sound_setLive (sound_setOuter (sound_outerReport (sound_lane h k))))
                                       (sound_lane h k))) h))
                         (kept_setLane
                            (fun k =>
                               sound_event
                                 (sound_ite (sound_setLive (sound_setOuter (sound_outerReport (sound_lane h k))))
                                    (sound_lane h k))) h))))))
theorem keeps_execBucketLeave {x src s} (h : kept lanes safe s) :
    keeps lanes safe (execBucketLeave x src s) := keeps_onLane (fun _ => sound_setBucket) h
theorem keeps_execShadowExpiry {x src s} (h : kept lanes safe s) :
    keeps lanes safe (execShadowExpiry x src s) := keeps_onLane (fun _ h1 => h1) h
theorem keeps_execWireFault {x src s} (h : kept lanes safe s) :
    keeps lanes safe (execWireFault x src s) := by
  unfold execWireFault
  extract_lets
  exact
      keeps_onLane
        (fun _ h1 =>
           sound_ite h1
             (sound_ite (sound_raiseAt (sound_irqPulse (sound_put (sound_bump (sound_put (sound_put h1))))))
                (sound_setLive (sound_irqPulse (sound_put (sound_bump (sound_put (sound_put h1)))))))) h
theorem keeps_execMaskedEnd {x src s} (h : kept lanes safe s) :
    keeps lanes safe (execMaskedEnd x src s) :=
        keeps_onLane
          (fun _ h1 =>
             sound_ite h1
               (sound_ite (sound_unmask (sound_ite (sound_setLive (sound_put h1)) h1))
                  (sound_ite (sound_setLive (sound_put h1)) h1))) h
theorem keeps_execSpineTokenTimeout {x s} (h : kept lanes safe s) :
    keeps lanes safe (execSpineTokenTimeout x s) := keeps_onLane (fun _ h1 => sound_ite (sound_raise h1) h1) h
theorem keeps_execLaneLinkFaultReceived {x src sev s} (h : kept lanes safe s) :
    keeps lanes safe (execLaneLinkFaultReceived x src sev s) :=
        keeps_onLane
          (fun _ h1 => sound_ite h1 (sound_aplicPulse (sound_irqPulse (sound_bump (sound_put (sound_put h1)))))) h
theorem keeps_execClrcmdAck {x src s} (h : kept lanes safe s) :
    keeps lanes safe (execClrcmdAck x src s) := keeps_onLane (fun _ => sound_clrcmdWrite) h
theorem keeps_execClrcmdClear {x src s} (h : kept lanes safe s) :
    keeps lanes safe (execClrcmdClear x src s) :=
        keeps_next (kept_capUpdate (kept_modLane (fun _ => sound_clrcmdWrite) h))
theorem keeps_execBedrockFaultEvent {src x m s} (h : kept lanes safe s) :
    keeps lanes safe (execBedrockFaultEvent src x m s) :=
        keeps_ite (keeps_next h)
          (keeps_ite (keeps_next (kept_modBed (fun _ h1 => h1) h))
             (keeps_ite (keeps_next h) (keeps_next (kept_bedEvent (kept_modBed (fun _ h1 => h1) h)))))
theorem keeps_execPrzCkpt {x p w s} (h : kept lanes safe s) :
    keeps lanes safe (execPrzCkpt x p w s) := keeps_onLane (fun _ h1 => sound_xprizu h1 (fun _ => sound_przCkpt)) h
theorem keeps_execPrzCksn {x p w s} (h : kept lanes safe s) :
    keeps lanes safe (execPrzCksn x p w s) := keeps_onLane (fun _ h1 => sound_xprizu h1 (fun _ => sound_vcsr)) h
theorem keeps_execPrzLogfree {x p w s} (h : kept lanes safe s) :
    keeps lanes safe (execPrzLogfree x p w s) := keeps_onLane (fun _ h1 => sound_xprizu h1 (fun _ => sound_vcsr)) h
theorem keeps_execCheckpointTimerExpiry {x p s} (h : kept lanes safe s) :
    keeps lanes safe (execCheckpointTimerExpiry x p s) :=
        keeps_onLane (fun _ h1 => sound_ite (sound_ckptRequest h1) h1) h
theorem keeps_execPaircmdCkpt {x v1 p s} (h : kept lanes safe s) :
    keeps lanes safe (execPaircmdCkpt x v1 p s) := keeps_onLane (fun _ => sound_paircmdWrite) h
theorem keeps_execPaircmdRevive {x v1 p s} (h : kept lanes safe s) :
    keeps lanes safe (execPaircmdRevive x v1 p s) := keeps_onLane (fun _ => sound_paircmdWrite) h
theorem keeps_execCheckpointCommit {x c s} (h : kept lanes safe s) :
    keeps lanes safe (execCheckpointCommit x c s) := keeps_onLane (fun _ => sound_ckptCommit) h
theorem keeps_execForceCheckpointSet {x p addr s} (h : kept lanes safe s) :
    keeps lanes safe (execForceCheckpointSet x p addr s) :=
        keeps_onLane (fun _ h1 => sound_ite (sound_ckptForce h1) h1) h
theorem keeps_execForceCheckpointSnoop {x p addr s} (h : kept lanes safe s) :
    keeps lanes safe (execForceCheckpointSnoop x p addr s) :=
        keeps_onLane (fun _ h1 => by split; exacts [sound_ite (sound_ckptForce h1) h1, h1]) h
theorem keeps_execWorkingStore {x p w data lats s} (h : kept lanes safe s) :
    keeps lanes safe (execWorkingStore x p w data lats s) :=
        keeps_next (kept_freeNext (kept_modLane (fun _ h1 => sound_workingStore (sound_ite (sound_memLat h1) h1)) h))
theorem keeps_execLockstepMismatch {x p group eic s} (h : kept lanes safe s) :
    keeps lanes safe (execLockstepMismatch x p group eic s) := keeps_onLane (fun _ => sound_mismatch) h
theorem keeps_execCheckpointRestartComplete {x p s} (h : kept lanes safe s) :
    keeps lanes safe (execCheckpointRestartComplete x p s) :=
        keeps_onLane
          (fun _ h1 =>
             sound_ite h1
               (sound_count (sound_irqPulse (sound_put (sound_bump (sound_setPairState (sound_modPair h1))))))) h
theorem keeps_execReplayDivergence {x p s} (h : kept lanes safe s) :
    keeps lanes safe (execReplayDivergence x p s) := keeps_onLane (fun _ h1 => sound_ite (sound_diverge h1) h1) h
theorem keeps_execReplayEnd {x p s} (h : kept lanes safe s) :
    keeps lanes safe (execReplayEnd x p s) := keeps_onLane (fun _ => sound_endReplay) h
theorem keeps_execCacheCorrectableError {x p s} (h : kept lanes safe s) :
    keeps lanes safe (execCacheCorrectableError x p s) := keeps_onLane (fun _ => sound_modPair) h
theorem keeps_execCacheUncorrectableError {x p addr inL2 s} (h : kept lanes safe s) :
    keeps lanes safe (execCacheUncorrectableError x p addr inL2 s) :=
        keeps_onLane
          (fun _ h1 =>
             sound_ite h1
               (sound_ite (sound_modPair (sound_raise h1))
                  (by split; exacts [sound_ite (sound_mismatch h1) (sound_modPair (sound_raise h1)), h1]))) h
theorem keeps_execInterruptTaken {x p eic latency s} (h : kept lanes safe s) :
    keeps lanes safe (execInterruptTaken x p eic latency s) :=
        keeps_onLane
          (fun _ h1 =>
             sound_ite h1
               (sound_ite
                  (by
                     split
                     exacts [sound_ite h1 (sound_ite (sound_modPair (sound_consume h1)) (sound_diverge h1)), h1])
                  (sound_ite h1 (sound_ite (sound_hist (sound_logAppend (sound_modPair h1))) h1)))) h
theorem keeps_execImsicMessageDelivery {x w ident s} (h : kept lanes safe s) :
    keeps lanes safe (execImsicMessageDelivery x w ident s) :=
        keeps_onLane (fun _ h1 => by split; exacts [sound_ite (sound_imsicPost h1) h1, h1]) h
theorem keeps_execDebugModeEntry {x p s} (h : kept lanes safe s) :
    keeps lanes safe (execDebugModeEntry x p s) :=
        keeps_onLane (fun _ h1 => sound_ite (sound_setPairState (sound_modPair h1)) h1) h
theorem keeps_execDebugResume {x p s} (h : kept lanes safe s) :
    keeps lanes safe (execDebugResume x p s) :=
        keeps_onLane
          (fun _ h1 =>
             sound_ite (sound_ite (sound_dmControl h1) h1)
               (sound_ite (sound_fencePair (sound_modPair (sound_put (sound_ite (sound_dmControl h1) h1))))
                  (sound_setPairState (sound_modPair (sound_put (sound_ite (sound_dmControl h1) h1)))))) h
theorem keeps_execDebugAccessRegister {x p regno write s} (h : kept lanes safe s) :
    keeps lanes safe (execDebugAccessRegister x p regno write s) :=
        keeps_next
          (kept_freeNext
             (kept_modLane
                (fun _ h1 =>
                   sound_abstract h1
                     (fun _ h2 =>
                        sound_ite (by split; exacts [sound_modPair h2, sound_respond h2])
                          (sound_ite (by split; exacts [sound_modPair h2, sound_respond h2])
                             (sound_ite
                                (sound_ite (sound_modPair h2) (by split; exacts [sound_debugCsr h2, sound_respond h2]))
                                (sound_modPair h2))))) h))
theorem keeps_execDebugProgramBuffer {x p changes s} (h : kept lanes safe s) :
    keeps lanes safe (execDebugProgramBuffer x p changes s) :=
        keeps_onLane (fun _ h1 => sound_abstract h1 (fun _ => sound_foldl (fun _ _ => sound_debugChange))) h
theorem keeps_execDebugHartreset {x p s} (h : kept lanes safe s) :
    keeps lanes safe (execDebugHartreset x p s) :=
        keeps_onLane (fun _ h1 => sound_ite (sound_debugReset (sound_dmControl h1)) h1) h
theorem keeps_execDebugNdmreset {x s} (h : kept lanes safe s) :
    keeps lanes safe (execDebugNdmreset x s) :=
        keeps_onLane (fun _ h1 => sound_ite (sound_foldl (fun _ _ => sound_debugReset) (sound_dmiWrite h1)) h1) h
theorem keeps_execRstcmdLane {x s} (h : kept lanes safe s) :
    keeps lanes safe (execRstcmdLane x s) := keeps_next (kept_rstcmdWrite h)
theorem keeps_execRstcmdWarm {x s} (h : kept lanes safe s) :
    keeps lanes safe (execRstcmdWarm x s) := keeps_next (kept_rstcmdWrite h)
theorem keeps_execLaneDownReset {x s} (h : kept lanes safe s) :
    keeps lanes safe (execLaneDownReset x s) := keeps_next (kept_ite (kept_laneReset h) h)
theorem keeps_execPhaseCmdReceived {l n arg u v w s} (h : kept lanes safe s) :
    keeps lanes safe (execPhaseCmdReceived l n arg u v w s) := keeps_next (kept_phaseCmd h)
theorem keeps_execVerdictReceived {l arg payload s} (h : kept lanes safe s) :
    keeps lanes safe (execVerdictReceived l arg payload s) := keeps_next (kept_verdict h)
theorem keeps_execPwmPeriodBoundary {n t s} (h : kept lanes safe s) :
    keeps lanes safe (execPwmPeriodBoundary n t s) := keeps_next (kept_pwmBoundary h)
theorem keeps_execBridgeTerminalEntry {n s} (h : kept lanes safe s) :
    keeps lanes safe (execBridgeTerminalEntry n s) := keeps_next (kept_ite (kept_terminalEntry h) h)
theorem keeps_execMasterPeriodBoundary {s} (h : kept lanes safe s) :
    keeps lanes safe (execMasterPeriodBoundary s) := keeps_next (kept_masterBoundary h)
theorem keeps_execMasterTimebaseStart {s} (h : kept lanes safe s) :
    keeps lanes safe (execMasterTimebaseStart s) := keeps_next (kept_timebaseStart h)
theorem keeps_execCurrentConversionStart {samples s} (h : kept lanes safe s) :
    keeps lanes safe (execCurrentConversionStart samples s) := keeps_next (kept_currentConversion h)
theorem keeps_execOvercurrentDetected {n p s} (h : kept lanes safe s) :
    keeps lanes safe (execOvercurrentDetected n p s) := keeps_next (kept_overcurrent h)
theorem keeps_execBootstrapUndervoltage {n p v s} (h : kept lanes safe s) :
    keeps lanes safe (execBootstrapUndervoltage n p v s) := keeps_next (kept_bootUndervoltage h)
theorem keeps_execBootuvFaultLatch {n p s} (h : kept lanes safe s) :
    keeps lanes safe (execBootuvFaultLatch n p s) := keeps_next (kept_ite (kept_latchFault h) h)
theorem keeps_execPrechargeEnd {n s} (h : kept lanes safe s) :
    keeps lanes safe (execPrechargeEnd n s) := keeps_next (kept_prechargeEnd h)
theorem keeps_execCommutationCodeChange {n pins s} (h : kept lanes safe s) :
    keeps lanes safe (execCommutationCodeChange n pins s) := keeps_next (kept_commutation h)
theorem keeps_execInterlockRefusal {n p s} (h : kept lanes safe s) :
    keeps lanes safe (execInterlockRefusal n p s) := keeps_next (kept_interlock h)
theorem keeps_execDesatDetected {n sw s} (h : kept lanes safe s) :
    keeps lanes safe (execDesatDetected n sw s) := keeps_next (kept_desat h)
theorem keeps_execBridgeSupplyUndervoltage {v s} (h : kept lanes safe s) :
    keeps lanes safe (execBridgeSupplyUndervoltage v s) := keeps_next (kept_supplyMeasured h)
theorem keeps_execBridgeSupplyOvervoltage {v s} (h : kept lanes safe s) :
    keeps lanes safe (execBridgeSupplyOvervoltage v s) := keeps_next (kept_supplyMeasured h)
theorem keeps_execOvertemperature {n temp s} (h : kept lanes safe s) :
    keeps lanes safe (execOvertemperature n temp s) := keeps_next (kept_temperature h)
theorem keeps_execTemperatureWarning {n temp s} (h : kept lanes safe s) :
    keeps lanes safe (execTemperatureWarning n temp s) := keeps_next (kept_temperature h)
theorem keeps_execBenFall {n s} (h : kept lanes safe s) :
    keeps lanes safe (execBenFall n s) := keeps_next (kept_statusCheck (kept_modUnit (kept_modBrg h)))
theorem keeps_execBenLowTimeout {n s} (h : kept lanes safe s) :
    keeps lanes safe (execBenLowTimeout n s) := keeps_next (kept_ite (kept_rankUpdate (kept_modUnit h)) h)
theorem keeps_execBenRise {n lowNs vbsOk uvOk ovOk tempOk s} (h : kept lanes safe s) :
    keeps lanes safe (execBenRise n lowNs vbsOk uvOk ovOk tempOk s) := keeps_next (kept_benRise h)
theorem keeps_execTerminalRequest {l n key s} (h : kept lanes safe s) :
    keeps lanes safe (execTerminalRequest l n key s) := keeps_next (kept_terminalRequest h)
theorem keeps_execSelectReceived {w s} (h : kept lanes safe s) :
    keeps lanes safe (execSelectReceived w s) := keeps_next (kept_selectReceived h)
theorem keeps_execOrphanTimeout {s} (h : kept lanes safe s) :
    keeps lanes safe (execOrphanTimeout s) := keeps_next (kept_orphan h)
theorem keeps_execOrphStrapSample {samples s} (h : kept lanes safe s) :
    keeps lanes safe (execOrphStrapSample samples s) := keeps_next (kept_strapSample h)
theorem keeps_execBridgePllLockLoss {s} (h : kept lanes safe s) :
    keeps lanes safe (execBridgePllLockLoss s) := keeps_next (kept_pllLoss h)
theorem keeps_execBridgePllLock {s} (h : kept lanes safe s) :
    keeps lanes safe (execBridgePllLock s) := keeps_next (kept_pllLock h)
theorem keeps_execSafetyInputChange {a b srst rawA rawB rawSrst sample s} (h : kept lanes safe s) :
    keeps lanes safe (execSafetyInputChange a b srst rawA rawB rawSrst sample s) := keeps_next (kept_safetyInputs h)
theorem keeps_execDiscrepancyTimeout {e second s} (h : kept lanes safe s) :
    keeps lanes safe (execDiscrepancyTimeout e second s) := keeps_next (kept_discTimeout h)
theorem keeps_execLcurtOffToleranceExpiry {e chB s} (h : kept lanes safe s) :
    keeps lanes safe (execLcurtOffToleranceExpiry e chB s) := keeps_next (kept_lcurtOff h)
theorem keeps_execTwohandTimeout {e s} (h : kept lanes safe s) :
    keeps lanes safe (execTwohandTimeout e s) := keeps_next (kept_ite (kept_demandUpdate (kept_evGo h)) h)
theorem keeps_execTestPulseStart {j preA preB s} (h : kept lanes safe s) :
    keeps lanes safe (execTestPulseStart j preA preB s) := keeps_next (kept_testPulseStart h)
theorem keeps_execTestPulseCheck {j lastA lastB endA endB rbFault s} (h : kept lanes safe s) :
    keeps lanes safe (execTestPulseCheck j lastA lastB endA endB rbFault s) := keeps_next (kept_testPulseCheck h)
theorem keeps_execResetPulseEnd {src sample rbOk s} (h : kept lanes safe s) :
    keeps lanes safe (execResetPulseEnd src sample rbOk s) := keeps_next (kept_resetPulse h)
theorem keeps_execSdemandWrite {l g v parityOk s} (h : kept lanes safe s) :
    keeps lanes safe (execSdemandWrite l g v parityOk s) :=
        keeps_next (kept_modLane (fun _ => sound_respond) (kept_sdemandWrite h))
theorem keeps_execDemandTimeout {l s} (h : kept lanes safe s) :
    keeps lanes safe (execDemandTimeout l s) := keeps_next (kept_demandTimeout h)
theorem keeps_execLaneDiscrepancyTimeout {k s} (h : kept lanes safe s) :
    keeps lanes safe (execLaneDiscrepancyTimeout k s) := keeps_next (kept_laneDiscrepancy h)
theorem keeps_execPathDiscrepancyTimeout {k s} (h : kept lanes safe s) :
    keeps lanes safe (execPathDiscrepancyTimeout k s) := keeps_next (kept_ite (kept_outputFault h) h)
theorem keeps_execSafeOutputTestPulse {k chB readbackHigh s} (h : kept lanes safe s) :
    keeps lanes safe (execSafeOutputTestPulse k chB readbackHigh s) :=
        keeps_next (kept_ite (kept_outputFault (kept_readBack h)) h)
theorem keeps_execOutputReadbackFault {k chB level s} (h : kept lanes safe s) :
    keeps lanes safe (execOutputReadbackFault k chB level s) :=
        keeps_next (kept_ite h (kept_ite (kept_readBack h) (kept_outputFault (kept_readBack h))))
theorem keeps_execReqcmdWrite {x g v s} (h : kept lanes safe s) :
    keeps lanes safe (execReqcmdWrite x g v s) :=
        keeps_next (kept_modLane (fun _ => sound_respond) (kept_reqcmdWrite h))
theorem keeps_execNop {x s} (h : kept lanes safe s) :
    keeps lanes safe (execNop x s) := keeps_next (kept_serve h (fun _ _ h1 => h1))
theorem keeps_execRenew {x s} (h : kept lanes safe s) :
    keeps lanes safe (execRenew x s) := keeps_next (kept_serve h (fun _ _ => kept_renew))
theorem keeps_execRelease {x s} (h : kept lanes safe s) :
    keeps lanes safe (execRelease x s) := keeps_next (kept_serve h (fun _ _ => kept_release))
theorem keeps_execStandby {x s} (h : kept lanes safe s) :
    keeps lanes safe (execStandby x s) := keeps_next (kept_serve h (fun _ _ => kept_standby))
theorem keeps_execDriveOn {x s} (h : kept lanes safe s) :
    keeps lanes safe (execDriveOn x s) := keeps_next (kept_serve h (fun _ _ => kept_driveOn))
theorem keeps_execDriveOff {x s} (h : kept lanes safe s) :
    keeps lanes safe (execDriveOff x s) := keeps_next (kept_serve h (fun _ _ => kept_driveOff))
theorem keeps_execPark {x s} (h : kept lanes safe s) :
    keeps lanes safe (execPark x s) := by
  refine keeps_next (kept_serve h fun m r hm => ?_)
  split
  exacts [kept_modLane (fun _ => sound_put) hm, hm]
theorem keeps_execFaultAck {x s} (h : kept lanes safe s) :
    keeps lanes safe (execFaultAck x s) := by
  refine keeps_next (kept_serve h fun m r hm => ?_)
  split
  exacts [hm, kept_bedAckOp hm]
theorem keeps_execFaultClear {x s} (h : kept lanes safe s) :
    keeps lanes safe (execFaultClear x s) := by
  refine keeps_next (kept_serve h fun m r hm => ?_)
  split
  exacts [hm, kept_bedClearOp hm]
theorem keeps_execGoSafe {x s} (h : kept lanes safe s) :
    keeps lanes safe (execGoSafe x s) := by
  refine keeps_next (kept_serve h fun m r hm => ?_)
  split
  exacts [kept_deviceSafe hm, hm]
theorem keeps_execLaneHeartbeatStart {x s} (h : kept lanes safe s) :
    keeps lanes safe (execLaneHeartbeatStart x s) := keeps_next (kept_heartbeatSeen h)
theorem keeps_execHeartbeatMissing {x s} (h : kept lanes safe s) :
    keeps lanes safe (execHeartbeatMissing x s) := keeps_next (kept_laneLost h)
theorem keeps_execStartTimeout {s} (h : kept lanes safe s) :
    keeps lanes safe (execStartTimeout s) := keeps_next (kept_startExit h)
theorem keeps_execKilnFailWire {x s} (h : kept lanes safe s) :
    keeps lanes safe (execKilnFailWire x s) := keeps_next (kept_ite (kept_setStatus h) h)
theorem keeps_execLaneDownFlag {x s} (h : kept lanes safe s) :
    keeps lanes safe (execLaneDownFlag x s) := keeps_next (kept_ite (kept_laneLost h) h)
theorem keeps_execLeaseExpiry {d s} (h : kept lanes safe s) :
    keeps lanes safe (execLeaseExpiry d s) := keeps_next (kept_ite (kept_enterBreak h) h)
theorem keeps_execStandbyReadyExpiry {x d s} (h : kept lanes safe s) :
    keeps lanes safe (execStandbyReadyExpiry x d s) := keeps_next (kept_ite (kept_setReady h) h)
theorem keeps_execSelfDiagnosisRise {x d s} (h : kept lanes safe s) :
    keeps lanes safe (execSelfDiagnosisRise x d s) := keeps_next (kept_ite (kept_diagCheck (kept_setReady h)) h)
theorem keeps_execSelectAck {codes acts cycles s} (h : kept lanes safe s) :
    keeps lanes safe (execSelectAck codes acts cycles s) := keeps_next (kept_oneCycle h (fun _ => kept_selectAck))
theorem keeps_execSelectRepeat {s} (h : kept lanes safe s) :
    keeps lanes safe (execSelectRepeat s) := keeps_next (kept_ite (kept_sendSelect h) h)
theorem keeps_execSelectPeriodic {s} (h : kept lanes safe s) :
    keeps lanes safe (execSelectPeriodic s) := keeps_next (kept_ite (kept_sendSelect h) h)
theorem keeps_execSelectTimeout {s} (h : kept lanes safe s) :
    keeps lanes safe (execSelectTimeout s) := keeps_next (kept_ite (kept_deviceSafe h) h)
theorem keeps_execBedrockHalfRetire {h0 h1 s} (h : kept lanes safe s) :
    keeps lanes safe (execBedrockHalfRetire h0 h1 s) :=
        keeps_next (kept_ite (kept_ite (kept_retire (kept_ite (kept_retire h) h)) (kept_ite (kept_retire h) h)) h)
theorem keeps_execFeedUndervoltageFall {x s} (h : kept lanes safe s) :
    keeps lanes safe (execFeedUndervoltageFall x s) := keeps_next (kept_feedUvFall h)
theorem keeps_execFeedUndervoltageRise {x s} (h : kept lanes safe s) :
    keeps lanes safe (execFeedUndervoltageRise x s) := by
  have k1 := kept_setSupply (f := F.feed x) (v := true) Fld.offDev_feed
    (kept_modLane (x :=
        x ) (f := fun l => { l with power := { l.power with feedUv := true } }) (fun _ => sound_withPower) h )
  exact keeps_next (kept_ite h (kept_ite k1 (kept_switchOver k1)))
theorem keeps_execFeedPowerOnFall {x s} (h : kept lanes False s) :
    keeps lanes False (execFeedPowerOnFall x s) := by
  have k1 :=
      kept_modLane (x := x) (f := fun l => { l with power := { l.power with feedOn := false , railsOff := true } })
    (fun _ => sound_withPower) (kept_feedUvFall (x := x) h)
  exact keeps_next (kept_ite h (kept_ite k1 (kept_deviceOff k1)))
theorem keeps_execFeedPowerOnRise {x tst tstd s} (h : kept lanes safe s) :
    keeps lanes safe (execFeedPowerOnRise x tst tstd s) := by
  refine keeps_next (kept_ite h (kept_modLane (fun _ => sound_withPower) (kept_laneReset ?_)))
  split
  · exact h
  · next hb => exact ⟨h.1, fun k => absurd (h.2 k).1 hb⟩
theorem keeps_execGateSupplyFall {x s} (h : kept lanes safe s) :
    keeps lanes safe (execGateSupplyFall x s) := keeps_next (kept_ite h (kept_ite (kept_bput Fld.offDev_vgd h)
      (kept_rankAll (kept_bbump (.inl (by decide)) (kept_bedRaise (kept_setSupply Fld.offDev_vgd h))))))
theorem keeps_execGateSupplyRise {x s} (h : kept lanes safe s) :
    keeps lanes safe (execGateSupplyRise x s) :=
        keeps_next (kept_ite (kept_bput Fld.offDev_vgd h) (kept_rankAll (kept_setSupply Fld.offDev_vgd h)))
theorem keeps_execGateSuppliesLostTimeout {s} (h : kept lanes safe s) :
    keeps lanes safe (execGateSuppliesLostTimeout s) := keeps_next (kept_ite (kept_deviceSafe h) h)
theorem keeps_execKilnBlockComplete {x ok misr s} (h : kept lanes safe s) :
    keeps lanes safe (execKilnBlockComplete x ok misr s) := keeps_onLane (fun _ h1 => sound_ite h1 (sound_ite (sound_put (sound_put (sound_count h1)))
      (sound_withPower (sound_put (sound_count h1))))) h
theorem keeps_execBridgeLinkFrameReceived {x up ws parityOk s} (h : kept lanes safe s) :
    keeps lanes safe (execBridgeLinkFrameReceived x up ws parityOk s) :=
        keeps_ite (keeps_next (kept_capUpdate (kept_modLane (fun _ h1 => sound_ite h1 (sound_blFrame h1)) h)))
          (keeps_next (kept_capUpdate (kept_modBrg (kept_modLane (fun _ h1 => h1) h))))
theorem keeps_execLaneLinkFrameReceived {x ws parityOk s} (h : kept lanes safe s) :
    keeps lanes safe (execLaneLinkFrameReceived x ws parityOk s) :=
        keeps_onLane (fun _ h1 => sound_ite (sound_llFrame h1) h1) (kept_modLane (fun _ h1 => h1) h)
theorem keeps_execLinkSilenceTimeout {e s} (h : kept lanes safe s) :
    keeps lanes safe (execLinkSilenceTimeout e s) := by
  unfold execLinkSilenceTimeout
  split
  · exact keeps_onLane (fun _ h1 => sound_ite (sound_llState h1) h1) h
  · exact keeps_next (kept_capUpdate (kept_modLane (fun _ h1 => sound_ite (sound_blState h1) h1) h))
  · exact keeps_next (kept_capUpdate (kept_modBrg h))
theorem keeps_execLinkCountingIntervalEnd {e s} (h : kept lanes safe s) :
    keeps lanes safe (execLinkCountingIntervalEnd e s) := by
  unfold execLinkCountingIntervalEnd
  split
  · exact keeps_onLane (fun _ h1 => sound_ite (sound_llState h1) h1) h
  · exact keeps_next (kept_capUpdate (kept_modLane (fun _ h1 => sound_ite (sound_blState h1) h1) h))
  · exact keeps_ite (keeps_next (kept_capUpdate (kept_modBrg h))) (keeps_next h)
theorem keeps_execSyncAbsenceIntervalTimeout {x s} (h : kept lanes safe s) :
    keeps lanes safe (execSyncAbsenceIntervalTimeout x s) :=
        keeps_onLane (fun _ h1 => sound_ite (sound_put (sound_intervalDue h1)) h1) h
theorem keeps_execBridgeSyncReceived {x v1 v2 s} (h : kept lanes safe s) :
    keeps lanes safe (execBridgeSyncReceived x v1 v2 s) :=
        keeps_onLane (fun _ h1 => sound_ite h1 (sound_ite (sound_put (sound_intervalDue h1)) (sound_intervalDue h1)))
          h
theorem keeps_execLaneLinkSyncReceived {x fnLo fnHi cyc corr s} (h : kept lanes safe s) :
    keeps lanes safe (execLaneLinkSyncReceived x fnLo fnHi cyc corr s) :=
        keeps_onLane (fun _ h1 => sound_ite h1 (sound_wr (sound_wr (sound_modLoop h1)))) h
theorem keeps_execCurrentFrameReceived {x n m u v w s} (h : kept lanes safe s) :
    keeps lanes safe (execCurrentFrameReceived x n m u v w s) :=
        keeps_onLane (fun _ h1 => sound_ite h1 (sound_modLoop h1)) h
theorem keeps_execStatusFrameReceived {x n arg pay s} (h : kept lanes safe s) :
    keeps lanes safe (execStatusFrameReceived x n arg pay s) :=
        keeps_onLane (fun _ h1 => sound_ite (sound_statusFrame h1) h1) h
theorem keeps_execDuplexOutReceived {x slot rot fn outs s} (h : kept lanes safe s) :
    keeps lanes safe (execDuplexOutReceived x slot rot fn outs s) :=
        keeps_onLane (fun _ h1 => sound_ite h1 (sound_ite (sound_irqPulse (sound_bump h1)) (sound_dupCompare h1))) h
theorem keeps_execVerdictDeadline {x slot s} (h : kept lanes safe s) :
    keeps lanes safe (execVerdictDeadline x slot s) :=
        keeps_onLane (fun _ h1 => by split; exacts [sound_sendVerdict h1, h1]) h
theorem keeps_execLaneLinkFrameStart {x cycle s} (h : kept lanes safe s) :
    keeps lanes safe (execLaneLinkFrameStart x cycle s) :=
        keeps_onLane (fun _ h1 => sound_ite (sound_frameStartLL h1) h1) h
theorem keeps_execTrackerAnalysisComplete {x k cycles s} (h : kept lanes safe s) :
    keeps lanes safe (execTrackerAnalysisComplete x k cycles s) :=
        keeps_ite (keeps_next h)
          (keeps_next
             (kept_freeNext
                (kept_setLane (fun k => sound_trkOutcome (sound_setDwords (sound_countN (sound_lane h k)))) h)))
theorem keeps_execTrackerAccept {x k bin s} (h : kept lanes safe s) :
    keeps lanes safe (execTrackerAccept x k bin s) := keeps_onLane (fun _ => sound_trkackWrite) h
theorem keeps_execTrackerReject {x k bin s} (h : kept lanes safe s) :
    keeps lanes safe (execTrackerReject x k bin s) := keeps_onLane (fun _ => sound_trkackWrite) h
theorem keeps_execTrkcfgWrite {x k v s} (h : kept lanes safe s) :
    keeps lanes safe (execTrkcfgWrite x k v s) := keeps_onLane (fun _ => sound_trkcfgWrite) h
theorem keeps_execEMac {x w s} (h : kept lanes safe s) :
    keeps lanes safe (execEMac x w s) := keeps_next (kept_mac h)
theorem keeps_execEMsu {x w s} (h : kept lanes safe s) :
    keeps lanes safe (execEMsu x w s) := keeps_next (kept_msu h)
theorem keeps_execEMpy {x w s} (h : kept lanes safe s) :
    keeps lanes safe (execEMpy x w s) := keeps_next (kept_mpy h)
theorem keeps_execEVmac {x w s} (h : kept lanes safe s) :
    keeps lanes safe (execEVmac x w s) := keeps_onLane (fun _ => sound_vecOp) h
theorem keeps_execEVmpy {x w s} (h : kept lanes safe s) :
    keeps lanes safe (execEVmpy x w s) := keeps_onLane (fun _ => sound_vecOp) h
theorem keeps_execEAdda {x w s} (h : kept lanes safe s) :
    keeps lanes safe (execEAdda x w s) := keeps_onLane (fun _ => sound_shiftOp) h
theorem keeps_execELda {x w s} (h : kept lanes safe s) :
    keeps lanes safe (execELda x w s) := keeps_onLane (fun _ => sound_shiftOp) h
theorem keeps_execEVclr {x w s} (h : kept lanes safe s) :
    keeps lanes safe (execEVclr x w s) := keeps_onLane (fun _ => sound_formatM) h
theorem keeps_execEMove {x w s} (h : kept lanes safe s) :
    keeps lanes safe (execEMove x w s) := keeps_onLane (fun _ => sound_formatM) h
theorem keeps_execERnd {x w s} (h : kept lanes safe s) :
    keeps lanes safe (execERnd x w s) := keeps_onLane (fun _ => sound_rnd) h
theorem keeps_execELdi {x w s} (h : kept lanes safe s) :
    keeps lanes safe (execELdi x w s) := keeps_onLane (fun _ => sound_issue fun _ => sound_regOp) h
theorem keeps_execELdih {x w s} (h : kept lanes safe s) :
    keeps lanes safe (execELdih x w s) := keeps_onLane (fun _ => sound_issue fun _ => sound_regOp) h
theorem keeps_execEMaci {x w s} (h : kept lanes safe s) :
    keeps lanes safe (execEMaci x w s) := keeps_onLane (fun _ => sound_immOp) h
theorem keeps_execEMpyi {x w s} (h : kept lanes safe s) :
    keeps lanes safe (execEMpyi x w s) := keeps_onLane (fun _ => sound_immOp) h
theorem keeps_execEAddi {x w s} (h : kept lanes safe s) :
    keeps lanes safe (execEAddi x w s) := keeps_onLane (fun _ => sound_issue fun _ => sound_regOp) h
theorem keeps_execEMov {x w s} (h : kept lanes safe s) :
    keeps lanes safe (execEMov x w s) := keeps_onLane (fun _ => sound_formatR) h
theorem keeps_execEAdd {x w s} (h : kept lanes safe s) :
    keeps lanes safe (execEAdd x w s) := keeps_onLane (fun _ => sound_binOp) h
theorem keeps_execESub {x w s} (h : kept lanes safe s) :
    keeps lanes safe (execESub x w s) := keeps_onLane (fun _ => sound_binOp) h
theorem keeps_execEAdds {x w s} (h : kept lanes safe s) :
    keeps lanes safe (execEAdds x w s) := keeps_onLane (fun _ => sound_satOp) h
theorem keeps_execESubs {x w s} (h : kept lanes safe s) :
    keeps lanes safe (execESubs x w s) := keeps_onLane (fun _ => sound_satOp) h
theorem keeps_execEAnd {x w s} (h : kept lanes safe s) :
    keeps lanes safe (execEAnd x w s) := keeps_onLane (fun _ => sound_binOp) h
theorem keeps_execEOr {x w s} (h : kept lanes safe s) :
    keeps lanes safe (execEOr x w s) := keeps_onLane (fun _ => sound_binOp) h
theorem keeps_execEXor {x w s} (h : kept lanes safe s) :
    keeps lanes safe (execEXor x w s) := keeps_onLane (fun _ => sound_binOp) h
theorem keeps_execEShl {x w s} (h : kept lanes safe s) :
    keeps lanes safe (execEShl x w s) := keeps_onLane (fun _ => sound_shOp) h
theorem keeps_execESar {x w s} (h : kept lanes safe s) :
    keeps lanes safe (execESar x w s) := keeps_onLane (fun _ => sound_shOp) h
theorem keeps_execEShr {x w s} (h : kept lanes safe s) :
    keeps lanes safe (execEShr x w s) := keeps_onLane (fun _ => sound_shOp) h
theorem keeps_execEMin {x w s} (h : kept lanes safe s) :
    keeps lanes safe (execEMin x w s) := keeps_onLane (fun _ => sound_binOp) h
theorem keeps_execEMax {x w s} (h : kept lanes safe s) :
    keeps lanes safe (execEMax x w s) := keeps_onLane (fun _ => sound_binOp) h
theorem keeps_execEClamp {x w s} (h : kept lanes safe s) :
    keeps lanes safe (execEClamp x w s) := keeps_onLane (fun _ => sound_formatR) h
theorem keeps_execEAbs {x w s} (h : kept lanes safe s) :
    keeps lanes safe (execEAbs x w s) := keeps_onLane (fun _ => sound_satOp) h
theorem keeps_execENeg {x w s} (h : kept lanes safe s) :
    keeps lanes safe (execENeg x w s) := keeps_onLane (fun _ => sound_satOp) h
theorem keeps_execEAgcfg {x w s} (h : kept lanes safe s) :
    keeps lanes safe (execEAgcfg x w s) := keeps_onLane (fun _ => sound_issue fun _ => sound_regOp) h
theorem keeps_execEAgset {x w s} (h : kept lanes safe s) :
    keeps lanes safe (execEAgset x w s) := keeps_onLane (fun _ => sound_issue fun _ => sound_regOp) h
theorem keeps_execEAgget {x w s} (h : kept lanes safe s) :
    keeps lanes safe (execEAgget x w s) := keeps_onLane (fun _ => sound_issue fun _ => sound_regOp) h
theorem keeps_execEXld {x w s} (h : kept lanes safe s) :
    keeps lanes safe (execEXld x w s) :=
        keeps_onLane (fun _ => sound_issue fun _ => sound_plain fun _ => sound_modEng) h
theorem keeps_execEXst {x w s} (h : kept lanes safe s) :
    keeps lanes safe (execEXst x w s) := by
  unfold execEXst
  refine keeps_onLane (fun _ => sound_issue fun _ => sound_plain fun _ hn => ?_) h
  exact sound_engStore (sound_ite hn (sound_modEng hn))
theorem keeps_execECrdrot {x w s} (h : kept lanes safe s) :
    keeps lanes safe (execECrdrot x w s) := keeps_onLane (fun _ => sound_cordic) h
theorem keeps_execECrdvec {x w s} (h : kept lanes safe s) :
    keeps lanes safe (execECrdvec x w s) := keeps_onLane (fun _ => sound_cordic) h
theorem keeps_execECrdget {x w s} (h : kept lanes safe s) :
    keeps lanes safe (execECrdget x w s) := keeps_onLane (fun _ => sound_cordic) h
theorem keeps_execCordicResultReady {x s} (h : kept lanes safe s) :
    keeps lanes safe (execCordicResultReady x s) := keeps_onLane (fun _ => sound_modEng) h
theorem keeps_execEGetsw {x w s} (h : kept lanes safe s) :
    keeps lanes safe (execEGetsw x w s) := keeps_onLane (fun _ => sound_formatR) h
theorem keeps_execEClrsw {x w s} (h : kept lanes safe s) :
    keeps lanes safe (execEClrsw x w s) := keeps_onLane (fun _ => sound_formatR) h
theorem keeps_execEBr {x w s} (h : kept lanes safe s) :
    keeps lanes safe (execEBr x w s) := by
  unfold execEBr
  refine keeps_onLane (fun _ => sound_issue fun m => ?_) h
  split
  · exact fun _ hn => hn
  · exact sound_plain fun _ hn => hn
theorem keeps_execELoop {x w s} (h : kept lanes safe s) :
    keeps lanes safe (execELoop x w s) := by
  unfold execELoop
  exact keeps_onLane (fun _ => sound_issue fun _ _ hn => hn) h
theorem keeps_execDividedOutputStep {x j s} (h : kept lanes safe s) :
    keeps lanes safe (execDividedOutputStep x j s) := keeps_onLane (fun _ h1 => sound_ite (sound_emitStep h1) h1) h
theorem keeps_execQuadratureStateChange {x k was code v4 s} (h : kept lanes safe s) :
    keeps lanes safe (execQuadratureStateChange x k was code v4 s) := keeps_onLane (fun _ => sound_quadChange) h
theorem keeps_execHallCodeChange {x k code v3 s} (h : kept lanes safe s) :
    keeps lanes safe (execHallCodeChange x k code v3 s) := keeps_onLane (fun _ => sound_hallChange) h
theorem keeps_execIndexInputEdge {x k i ab s} (h : kept lanes safe s) :
    keeps lanes safe (execIndexInputEdge x k i ab s) :=
        keeps_onLane (fun _ h1 => sound_ite h1 (sound_ite h1 (sound_indexEvent h1))) h
theorem keeps_execToothEdge {x k e s} (h : kept lanes safe s) :
    keeps lanes safe (execToothEdge x k e s) := keeps_onLane (fun _ h1 => sound_ite (sound_toothEdge h1) h1) h
theorem keeps_execPdirPulse {x k v b v4 s} (h : kept lanes safe s) :
    keeps lanes safe (execPdirPulse x k v b v4 s) :=
        keeps_onLane (fun _ h1 => sound_ite h1 (sound_ite (sound_countStep h1) (sound_setLvl (sound_countStep h1)))) h
theorem keeps_execDutyRisingEdge {x k e high s} (h : kept lanes safe s) :
    keeps lanes safe (execDutyRisingEdge x k e high s) :=
        keeps_onLane
          (fun _ h1 =>
             sound_ite h1 (sound_ite (sound_quantity (sound_quantity (sound_riseEdge h1))) (sound_riseEdge h1))) h
theorem keeps_execFreqRisingEdge {x k e s} (h : kept lanes safe s) :
    keeps lanes safe (execFreqRisingEdge x k e s) :=
        keeps_onLane
          (fun _ h1 =>
             sound_ite h1
               (sound_ite (sound_quantity (sound_modChan (sound_riseEdge h1))) (sound_modChan (sound_riseEdge h1)))) h
theorem keeps_execFeedbackTimeout {x k s} (h : kept lanes safe s) :
    keeps lanes safe (execFeedbackTimeout x k s) :=
        keeps_onLane
          (fun _ h1 =>
             sound_ite h1
               (sound_ite (sound_raise (sound_chEvt (sound_modChan (sound_ite h1 (sound_quantity h1)))))
                  (sound_chEvt (sound_modChan (sound_ite h1 (sound_quantity h1)))))) h
theorem keeps_execSpeedWindowEnd {x k s} (h : kept lanes safe s) :
    keeps lanes safe (execSpeedWindowEnd x k s) :=
        keeps_onLane (fun _ h1 => sound_ite h1 (sound_modChan (sound_ite h1 (sound_quantity h1)))) h
theorem keeps_execChannelConfigReset {x k reg v s} (h : kept lanes safe s) :
    keeps lanes safe (execChannelConfigReset x k reg v s) := keeps_onLane (fun _ => sound_chanCfgWrite) h
theorem keeps_execPosWrite {x k v s} (h : kept lanes safe s) :
    keeps lanes safe (execPosWrite x k v s) := keeps_onLane (fun _ h1 => sound_command h1 (fun _ _ h2 => h2)) h
theorem keeps_execChevtRead {x g k s} (h : kept lanes safe s) :
    keeps lanes safe (execChevtRead x g k s) :=
        keeps_onLane (fun _ h1 => sound_readBy h1 (fun _ => sound_chevtRead)) h
theorem keeps_execPortRun {x p v s} (h : kept lanes safe s) :
    keeps lanes safe (execPortRun x p v s) := keeps_onLane (fun _ => sound_pctlWrite) h
theorem keeps_execTransmitDeadline {x p n s} (h : kept lanes safe s) :
    keeps lanes safe (execTransmitDeadline x p n s) :=
        keeps_onLane (fun _ h1 => sound_ite h1 (sound_ite (sound_safeDeadline h1) (sound_dataDeadline h1))) h
theorem keeps_execActionPoint {x p n carrier s} (h : kept lanes safe s) :
    keeps lanes safe (execActionPoint x p n carrier s) := by
  unfold execActionPoint
  extract_lets
  exact
      keeps_onLane
        (fun _ h1 =>
           by
             split
             · exact h1
             · exact sound_ite h1
                       (sound_ite (sound_modPort h1)
                          (sound_ite (sound_modPort (sound_count (sound_bump (sound_put (sound_modPort h1)))))
                             (sound_modPort (sound_modPort h1))))) h
theorem keeps_execStrataCollision {x p s} (h : kept lanes safe s) :
    keeps lanes safe (execStrataCollision x p s) := by
  unfold execStrataCollision
  dsimp only
  exact
      keeps_onLane
        (fun _ h1 =>
           by
             split
             · exact h1
             · exact sound_ite (sound_coldFail (sound_modPort (sound_count (sound_bump (sound_put h1)))))
                       (sound_modPort (sound_count (sound_bump (sound_put h1))))) h
theorem keeps_execPortStop {x p s} (h : kept lanes safe s) :
    keeps lanes safe (execPortStop x p s) :=
        keeps_onLane
          (fun _ h1 =>
             sound_ite
               (sound_ite (sound_put (sound_portEnter (sound_modPort (by split; exacts [sound_sent h1, h1]))))
                  (sound_portEnter (sound_modPort (by split; exacts [sound_sent h1, h1])))) h1) h
theorem keeps_execStrataFrameReceived {x p bytes fcsOk t s} (h : kept lanes safe s) :
    keeps lanes safe (execStrataFrameReceived x p bytes fcsOk t s) :=
        keeps_onLane
          (fun _ h1 =>
             sound_ite h1 (by split; exacts [sound_count (sound_bump h1), sound_ite (sound_strReceive h1) h1])) h
theorem keeps_execSafetyPairTimeout {x i s} (h : kept lanes safe s) :
    keeps lanes safe (execSafetyPairTimeout x i s) :=
        keeps_onLane (fun _ h1 => sound_ite (sound_bump (sound_safeCause (sound_setPend h1))) h1) h
theorem keeps_execColdstartFrameReceived {x p bytes fcsOk s} (h : kept lanes safe s) :
    keeps lanes safe (execColdstartFrameReceived x p bytes fcsOk s) := by
  unfold execColdstartFrameReceived
  dsimp only
  exact
      keeps_onLane
        (fun _ h1 =>
           by
             split
             · exact h1
             · exact sound_ite h1
                       (sound_ite (sound_adopt h1) (sound_ite (sound_adopt h1) (sound_ite (sound_adopt h1) h1)))) h
theorem keeps_execSlotEnd {x p n s} (h : kept lanes safe s) :
    keeps lanes safe (execSlotEnd x p n s) :=
        keeps_onLane
          (fun _ h1 =>
             sound_ite h1
               (sound_ite (sound_put (by split; exacts [sound_ite (sound_sent h1) h1, h1]))
                  (by split; exacts [sound_ite (sound_sent h1) h1, h1]))) h
theorem keeps_execCycleEnd {x p s} (h : kept lanes safe s) :
    keeps lanes safe (execCycleEnd x p s) := by
  unfold execCycleEnd
  extract_lets
  exact
      keeps_onLane
        (fun _ h1 =>
           sound_ite h1
             (sound_ite (sound_cycleTransition (sound_foldl (fun _ _ h2 => sound_ite (sound_bump h2) h2) h1))
                (sound_ite
                   (sound_count
                      (sound_irqPulse
                         (sound_cycleAt
                            (sound_modPort
                               (sound_wr
                                  (sound_cycleTransition (sound_foldl (fun _ _ h2 => sound_ite (sound_bump h2) h2) h1)))))))
                   (sound_irqPulse
                      (sound_cycleAt
                         (sound_modPort
                            (sound_wr
                               (sound_cycleTransition (sound_foldl (fun _ _ h2 => sound_ite (sound_bump h2) h2) h1)))))))))
        h
theorem keeps_execSyncWindowStart {x p s} (h : kept lanes safe s) :
    keeps lanes safe (execSyncWindowStart x p s) := by
  unfold execSyncWindowStart
  extract_lets
  exact
      keeps_onLane
        (fun _ h1 =>
           sound_ite h1
             (sound_ite (sound_put h1)
                (sound_ite
                   (sound_setPort
                      (sound_modPort (sound_bump (sound_put (sound_modPort (sound_wr (sound_wr (sound_put h1))))))))
                   (sound_modPort (sound_wr (sound_wr (sound_put h1))))))) h
theorem keeps_execListenTimeout {x p s} (h : kept lanes safe s) :
    keeps lanes safe (execListenTimeout x p s) :=
        keeps_onLane (fun _ h1 => sound_ite (sound_setPort (sound_modPort h1)) h1) h
theorem keeps_execColdstartAttempt {x p s} (h : kept lanes safe s) :
    keeps lanes safe (execColdstartAttempt x p s) :=
        keeps_onLane (fun _ h1 => sound_ite h1 (sound_modPort (sound_cycleAt (sound_wr (sound_bump h1))))) h
theorem keeps_execColdstartBackoffEnd {x p s} (h : kept lanes safe s) :
    keeps lanes safe (execColdstartBackoffEnd x p s) := keeps_onLane (fun _ h1 => sound_ite (sound_modPort h1) h1) h
theorem keeps_execIntegrateTimeout {x p s} (h : kept lanes safe s) :
    keeps lanes safe (execIntegrateTimeout x p s) := keeps_onLane (fun _ h1 => sound_ite (sound_setPort h1) h1) h
theorem keeps_execCyclePoint {x j s} (h : kept lanes safe s) :
    keeps lanes safe (execCyclePoint x j s) :=
        keeps_onLane (fun _ h1 => sound_ite (sound_xfrLatch (sound_sendMsg (sound_irqPulse h1))) h1) h
theorem keeps_execTxrdyWrite {x k v s} (h : kept lanes safe s) :
    keeps lanes safe (execTxrdyWrite x k v s) := keeps_onLane (fun _ => sound_txrdyWrite) h
theorem keeps_execRxqRead {x g p s} (h : kept lanes safe s) :
    keeps lanes safe (execRxqRead x g p s) := keeps_onLane (fun _ h1 => sound_readBy h1 (fun _ => sound_rxqRead)) h
theorem keeps_execSafeqRead {x g s} (h : kept lanes safe s) :
    keeps lanes safe (execSafeqRead x g s) := keeps_onLane (fun _ h1 => sound_readBy h1 (fun _ => sound_safeqRead)) h
theorem keeps_execPlcCommit {x s} (h : kept lanes safe s) :
    keeps lanes safe (execPlcCommit x s) := keeps_onLane (fun _ => sound_plcCmdWrite) h
theorem keeps_execPlcReplace {x s} (h : kept lanes safe s) :
    keeps lanes safe (execPlcReplace x s) := keeps_onLane (fun _ => sound_plcCmdWrite) h
theorem keeps_execInitRefillComplete {x s} (h : kept lanes safe s) :
    keeps lanes safe (execInitRefillComplete x s) :=
        keeps_onLane
          (fun _ h1 =>
             by
               split
               · exact h1
               · exact sound_ite h1 (sound_cmdsCount (sound_modSieve (sound_foldl (fun _ _ => sound_dmaPutBytes) h1))))
          h
theorem keeps_execPlaceTrigReceived {x mask fn s} (h : kept lanes safe s) :
    keeps lanes safe (execPlaceTrigReceived x mask fn s) :=
        keeps_onLane (fun _ h1 => sound_ite h1 (sound_modSieve h1)) h
theorem keeps_execPlacementRunStart {x fn s} (h : kept lanes safe s) :
    keeps lanes safe (execPlacementRunStart x fn s) := by
  unfold execPlacementRunStart
  extract_lets l1 _ _ _ s2
  have k1 (k : lanes) : sound _ l1 := sound_lane h k
  have k2 : kept lanes safe s2 :=
      kept_modLane
        (fun _ h2 =>
           sound_ite (sound_sendInput (sound_placeBuffers (sound_put (sound_modSieve h2))))
             (sound_placeBuffers (sound_put (sound_modSieve h2)))) h
  split
  · exact keeps_next h
  · split
    · exact keeps_next (kept_runCompute k2)
    · split
      · exact keeps_next (kept_runInput k2)
      · exact keeps_next k2
theorem keeps_execPlaceInputReceived {x run digest slots rest v5 s} (h : kept lanes safe s) :
    keeps lanes safe (execPlaceInputReceived x run digest slots rest v5 s) := by
  unfold execPlaceInputReceived
  extract_lets l1 s2
  have k1 (k : lanes) : sound _ l1 := sound_lane h k
  have k2 : kept lanes safe s2 :=
      kept_ite h (kept_modLane (fun _ h2 => sound_sendPlcstate (sound_trigger (sound_modSieve h2))) h)
  split
  · exact keeps_next h
  · split
    · exact keeps_next k2
    · split
      · split
        · exact keeps_next (kept_runInput k2)
        · exact keeps_next k2
      · exact keeps_next (kept_modLane (fun _ => sound_modSieve) k2)
theorem keeps_execPlaceResultReceived {x v1 digest lead s} (h : kept lanes safe s) :
    keeps lanes safe (execPlaceResultReceived x v1 digest lead s) :=
        keeps_onLane
          (fun _ h1 =>
             sound_ite h1
               (by split; exacts [sound_ite (sound_compareResult h1) (sound_ite (sound_modSieve h1) h1), h1])) h
theorem keeps_execStateLoadComplete {x s} (h : kept lanes safe s) :
    keeps lanes safe (execStateLoadComplete x s) :=
        keeps_onLane
          (fun _ h1 =>
             by
               split
               · exact sound_ite h1
                         (sound_modSieve
                            (sound_put
                               (sound_writePending
                                  (sound_foldl
                                     (fun _ _ h2 => sound_ite (sound_loadSnap h2) (sound_ite (sound_loadCold h2) h2))
                                     h1))))
               · exact h1) h
theorem keeps_execRampOutput {x c s} (h : kept lanes safe s) :
    keeps lanes safe (execRampOutput x c s) := by
  unfold execRampOutput
  dsimp only
  exact keeps_onLane (fun _ h1 => by split; exacts [sound_ite h1 (sound_launchOuts (sound_modSieve h1)), h1]) h
theorem keeps_execPlaceSnapReceived {x c fn s} (h : kept lanes safe s) :
    keeps lanes safe (execPlaceSnapReceived x c fn s) :=
        keeps_onLane (fun _ h1 => sound_ite h1 (sound_modSieve (sound_ite (sound_count h1) h1))) h
theorem keeps_execMirrorFrameReceived {x c offset words s} (h : kept lanes safe s) :
    keeps lanes safe (execMirrorFrameReceived x c offset words s) :=
        keeps_ite (keeps_next (kept_syncDone (kept_modLane (fun _ => sound_mirrorFrame) h))) (keeps_next h)
theorem keeps_execPlacePlcstateReceived {x first words s} (h : kept lanes safe s) :
    keeps lanes safe (execPlacePlcstateReceived x first words s) :=
        keeps_onLane
          (fun _ h1 =>
             sound_ite h1
               (sound_foldl (fun _ _ h2 => sound_ite (sound_modSieve (sound_wr h2)) h2) (sound_modSieve h1))) h
theorem keeps_execPlaceSyncedReceived {x c s} (h : kept lanes safe s) :
    keeps lanes safe (execPlaceSyncedReceived x c s) :=
        keeps_ite (keeps_next (kept_syncDone (kept_modLane (fun _ => sound_modSieve) h))) (keeps_next h)
theorem keeps_execPlacementEffect {x s} (h : kept lanes safe s) :
    keeps lanes safe (execPlacementEffect x s) := by
  unfold execPlacementEffect
  extract_lets l1
  have k1 (k : lanes) : sound _ l1 := sound_lane h k
  split
  · split
    · exact keeps_next h
    · exact
        keeps_next
          (kept_oneCycle h
             (fun _ h2 => kept_syncDone (kept_modLane (fun _ => sound_placementEffect) (kept_terminalRequests h2))))
  · exact keeps_next h
theorem keeps_execLoopEngineRun {x v s} (h : kept lanes safe s) :
    keeps lanes safe (execLoopEngineRun x v s) := keeps_onLane (fun _ => sound_leCtlWrite) h
theorem keeps_execTableCommitRequest {x v s} (h : kept lanes safe s) :
    keeps lanes safe (execTableCommitRequest x v s) :=
        keeps_onLane (fun _ h1 => sound_command h1 (fun _ _ h2 => h2)) h
theorem keeps_execCoefficientSwapRequest {x c v s} (h : kept lanes safe s) :
    keeps lanes safe (execCoefficientSwapRequest x c v s) :=
        keeps_onLane (fun _ h1 => sound_command h1 (fun _ _ h2 => h2)) h
theorem keeps_execFrameStart {x lateCommit lateSwaps s} (h : kept lanes safe s) :
    keeps lanes safe (execFrameStart x lateCommit lateSwaps s) :=
        keeps_ite (keeps_next h)
          (keeps_ite (keeps_next (kept_setLane (fun k => sound_frameStop (sound_lane h k)) h))
             (keeps_next
                (kept_oneCycle h
                   (fun _ h1 =>
                      kept_sieveFrame
                        (kept_setLane (fun k => sound_frameBegin (sound_firstFrame (sound_lane h k))) h1)))))
theorem keeps_execSlotSnapshot {x n s} (h : kept lanes safe s) :
    keeps lanes safe (execSlotSnapshot x n s) :=
        keeps_onLane (fun _ h1 => sound_ite h1 (by split; exacts [sound_snapshot h1, h1])) h
theorem keeps_execSlotEntry {x s} (h : kept lanes safe s) :
    keeps lanes safe (execSlotEntry x s) :=
        keeps_onLane (fun _ h1 => by split; exacts [sound_ite (sound_runStage h1) h1, h1]) h
theorem keeps_execEEnd {x w s} (h : kept lanes safe s) :
    keeps lanes safe (execEEnd x w s) := by
  unfold execEEnd
  refine keeps_onLane (fun _ => sound_issue fun m n hn => ?_) h
  show sound x (match n.loop.run with | some r => n.endSlot _ s.nowUs r | none => n)
  split
  · exact sound_endSlot hn
  · exact hn
theorem keeps_execSlotOverrun {x s} (h : kept lanes safe s) :
    keeps lanes safe (execSlotOverrun x s) :=
        keeps_onLane (fun _ h1 => by split; exacts [sound_ite (sound_overrun h1) h1, h1]) h
theorem keeps_execSlotOutputStage {x s} (h : kept lanes safe s) :
    keeps lanes safe (execSlotOutputStage x s) :=
        keeps_onLane
          (fun _ h1 =>
             by
               split
               · exact sound_ite h1
                         (sound_setRun
                            (by split; exacts [sound_overrun h1, sound_overrun h1, sound_outputs (sound_hist h1), h1]))
               · exact h1) h
theorem keeps_execSlotLaunch {x n s} (h : kept lanes safe s) :
    keeps lanes safe (execSlotLaunch x n s) :=
        keeps_onLane
          (fun _ h1 =>
             by split; exacts [sound_ite h1 (sound_ite (sound_modLoop h1) (sound_launch (sound_modLoop h1))), h1]) h
theorem keeps_execSentFrameReceived {x p cal nibs pause s} (h : kept lanes safe s) :
    keeps lanes safe (execSentFrameReceived x p cal nibs pause s) :=
        keeps_onLane
          (fun _ h1 =>
             sound_ite h1
               (by
                  split
                  exacts [sound_frameDiscard (sound_ite h1 (sound_modSns h1)), sound_sentValues (sound_modSns h1)])) h
theorem keeps_execPsi5FrameReceived {x p t bits crc viol s} (h : kept lanes safe s) :
    keeps lanes safe (execPsi5FrameReceived x p t bits crc viol s) := by
  unfold execPsi5FrameReceived
  extract_lets
  exact
      keeps_onLane
        (fun _ h1 =>
           sound_ite h1
             (by
                split
                · exact sound_frameDiscard h1
                · exact sound_ite (sound_frameDiscard h1)
                          (sound_ite (sound_frameDiscard (sound_modSns h1))
                             (sound_ite (sound_frameDiscard (sound_modSns h1))
                                (sound_ite (sound_frameDiscard (sound_modSns h1))
                                   (sound_sensed (sound_frameAccept (sound_modSns h1)))))))) h
theorem keeps_execPsi5SyncTrigger {x p s} (h : kept lanes safe s) :
    keeps lanes safe (execPsi5SyncTrigger x p s) := keeps_onLane (fun _ h1 => sound_ite h1 (sound_modSns h1)) h
theorem keeps_execSensorLostTimeout {x p s} (h : kept lanes safe s) :
    keeps lanes safe (execSensorLostTimeout x p s) :=
        keeps_onLane (fun _ h1 => sound_ite (sound_portEvt (sound_raise h1)) h1) h
theorem keeps_execPevtRead {x g p s} (h : kept lanes safe s) :
    keeps lanes safe (execPevtRead x g p s) := keeps_onLane (fun _ h1 => sound_readBy h1 (fun _ => sound_pevtRead)) h
theorem keeps_execAdcstartGo {x v s} (h : kept lanes safe s) :
    keeps lanes safe (execAdcstartGo x v s) := keeps_onLane (fun _ => sound_adcstartWrite) h
theorem keeps_execAdcFrameTrigger {x s} (h : kept lanes safe s) :
    keeps lanes safe (execAdcFrameTrigger x s) := keeps_onLane (fun _ h1 => sound_ite (sound_adcStart h1) h1) h
theorem keeps_execAdcConversionComplete {x value s} (h : kept lanes safe s) :
    keeps lanes safe (execAdcConversionComplete x value s) :=
        keeps_onLane
          (fun _ h1 =>
             by
               split
               · exact h1
               · exact sound_ite h1
                         (sound_ite
                            (sound_adcShow
                               (sound_adcStop
                                  (sound_ite
                                     (sound_count
                                        (sound_irqPulse
                                           (sound_modAdc
                                              (sound_ite
                                                 (sound_adcPush
                                                    (sound_count (sound_srcUpdate (sound_put (sound_put h1)))))
                                                 (sound_count (sound_srcUpdate (sound_put (sound_put h1))))))))
                                     (sound_modAdc
                                        (sound_ite
                                           (sound_adcPush (sound_count (sound_srcUpdate (sound_put (sound_put h1)))))
                                           (sound_count (sound_srcUpdate (sound_put (sound_put h1)))))))))
                            (sound_ite
                               (sound_adcScan
                                  (sound_ite
                                     (sound_count
                                        (sound_irqPulse
                                           (sound_modAdc
                                              (sound_ite
                                                 (sound_adcPush
                                                    (sound_count (sound_srcUpdate (sound_put (sound_put h1)))))
                                                 (sound_count (sound_srcUpdate (sound_put (sound_put h1))))))))
                                     (sound_modAdc
                                        (sound_ite
                                           (sound_adcPush (sound_count (sound_srcUpdate (sound_put (sound_put h1)))))
                                           (sound_count (sound_srcUpdate (sound_put (sound_put h1))))))))
                               (sound_adcShow
                                  (sound_ite
                                     (sound_count
                                        (sound_irqPulse
                                           (sound_modAdc
                                              (sound_ite
                                                 (sound_adcPush
                                                    (sound_count (sound_srcUpdate (sound_put (sound_put h1)))))
                                                 (sound_count (sound_srcUpdate (sound_put (sound_put h1))))))))
                                     (sound_modAdc
                                        (sound_ite
                                           (sound_adcPush (sound_count (sound_srcUpdate (sound_put (sound_put h1)))))
                                           (sound_count (sound_srcUpdate (sound_put (sound_put h1))))))))))) h
theorem keeps_execAdcCalibrationComplete {x ok s} (h : kept lanes safe s) :
    keeps lanes safe (execAdcCalibrationComplete x ok s) :=
        keeps_onLane
          (fun _ h1 =>
             sound_ite h1
               (sound_ite
                  (sound_adcScan
                     (sound_ite (sound_irqLevel (sound_put (sound_put h1)))
                        (sound_raise (sound_irqLevel (sound_put (sound_put h1))))))
                  (sound_ite (sound_irqLevel (sound_put (sound_put h1)))
                     (sound_raise (sound_irqLevel (sound_put (sound_put h1))))))) h
theorem keeps_execAdcfifoRead {x g s} (h : kept lanes safe s) :
    keeps lanes safe (execAdcfifoRead x g s) :=
        keeps_onLane (fun _ h1 => sound_readBy h1 (fun _ => sound_adcfifoRead)) h
theorem keeps_execCanBusIntegrated {x n s} (h : kept lanes safe s) :
    keeps lanes safe (execCanBusIntegrated x n s) := keeps_onLane (fun _ h1 => sound_ite (sound_modCan h1) h1) h
theorem keeps_execCanTxreq {x n v s} (h : kept lanes safe s) :
    keeps lanes safe (execCanTxreq x n v s) := keeps_onLane (fun _ => sound_txreqWrite) h
theorem keeps_execCanTxabort {x n v bus s} (h : kept lanes safe s) :
    keeps lanes safe (execCanTxabort x n v bus s) := keeps_onLane (fun _ => sound_txabortWrite) h
theorem keeps_execCanFrameReceived {x n errs f s} (h : kept lanes safe s) :
    keeps lanes safe (execCanFrameReceived x n errs f s) :=
        keeps_ite (keeps_next h)
          (keeps_next
             (kept_freeNext
                (kept_modLane
                   (fun _ h1 =>
                      sound_ite (sound_canRxErrors h1) (sound_canReceive (sound_canCounted (sound_canRxErrors h1)))) h)))
theorem keeps_execCanFrameSent {x n late ago s} (h : kept lanes safe s) :
    keeps lanes safe (execCanFrameSent x n late ago s) := by
  unfold execCanFrameSent
  extract_lets
  exact
      keeps_onLane
        (fun _ h1 =>
           by
             split
             · exact h1
             · exact sound_ite h1
                       (sound_ite
                          (sound_canReceive
                             (sound_canCounted (sound_count (sound_irqPulse (sound_put (sound_put h1))))))
                          (sound_canCounted (sound_count (sound_irqPulse (sound_put (sound_put h1))))))) h
theorem keeps_execCanArbitrationLost {x n late err s} (h : kept lanes safe s) :
    keeps lanes safe (execCanArbitrationLost x n late err s) := by
  unfold execCanArbitrationLost
  dsimp only
  exact
      keeps_onLane
        (fun _ h1 =>
           by
             split
             · exact h1
             · exact sound_ite h1
                       (by
                          split
                          · exact sound_count (sound_ite (sound_put h1) h1)
                          · exact sound_canCounted (sound_count (sound_ite (sound_put h1) h1)))) h
theorem keeps_execCanRxpop {x n v s} (h : kept lanes safe s) :
    keeps lanes safe (execCanRxpop x n v s) := keeps_onLane (fun _ => sound_rxpopWrite) h
theorem keeps_execCanBusOff {x n s} (h : kept lanes safe s) :
    keeps lanes safe (execCanBusOff x n s) :=
        keeps_onLane (fun _ h1 => sound_ite (sound_raise (sound_setCanState h1)) h1) h
theorem keeps_execCanBusOffRecovery {x n s} (h : kept lanes safe s) :
    keeps lanes safe (execCanBusOffRecovery x n s) := keeps_onLane (fun _ h1 => sound_ite (sound_canRecover h1) h1) h
theorem keeps_execPtpadjWrite {x v ticks sameTick s} (h : kept lanes safe s) :
    keeps lanes safe (execPtpadjWrite x v ticks sameTick s) := keeps_onLane (fun _ => sound_ptpadjWrite) h
theorem keeps_execPtpsecCarry {x ticks s} (h : kept lanes safe s) :
    keeps lanes safe (execPtpsecCarry x ticks s) := keeps_onLane (fun _ h1 => sound_ite h1 (sound_ptpAdvance h1)) h
theorem keeps_execTxpoll {x v s} (h : kept lanes safe s) :
    keeps lanes safe (execTxpoll x v s) := keeps_onLane (fun _ => sound_txpollWrite) h
theorem keeps_execEthFrameTransmitted {x ago stop busErr s} (h : kept lanes safe s) :
    keeps lanes safe (execEthFrameTransmitted x ago stop busErr s) :=
        keeps_ite (keeps_next h)
          (keeps_ite (keeps_next (kept_setLane (fun k => sound_ethForces (sound_lane h k)) h))
             (keeps_next (kept_freeNext (kept_setLane (fun k => sound_ethTransmit (sound_lane h k)) h))))
theorem keeps_execEthFrameReceived {x frame fcsOk ago stop busErr s} (h : kept lanes safe s) :
    keeps lanes safe (execEthFrameReceived x frame fcsOk ago stop busErr s) := by
  unfold execEthFrameReceived
  extract_lets
  exact
      keeps_onLane
        (fun _ h1 =>
           sound_ite h1
             (sound_ite (sound_ite (sound_ethDrop h1) (sound_count (sound_ethDrop h1)))
                (sound_ite h1 (sound_ite (sound_snoopAll h1) (sound_ite (sound_ethDrop h1) (sound_ethStore h1))))))
        (kept_freeNext h)
theorem keeps_execMdioAccess {x v s} (h : kept lanes safe s) :
    keeps lanes safe (execMdioAccess x v s) := keeps_onLane (fun _ h1 => sound_command h1 (fun _ _ h2 => h2)) h
theorem keeps_execMdioComplete {x data s} (h : kept lanes safe s) :
    keeps lanes safe (execMdioComplete x data s) :=
        keeps_onLane (fun _ h1 => sound_ite h1 (sound_ite (sound_put h1) (sound_put (sound_put h1)))) h
theorem keeps_execPsreqDoze {x g s} (h : kept lanes safe s) :
    keeps lanes safe (execPsreqDoze x g s) := keeps_next (kept_psreqWrite h)
theorem keeps_execPsreqPark {x g s} (h : kept lanes safe s) :
    keeps lanes safe (execPsreqPark x g s) := keeps_next (kept_psreqWrite h)
theorem keeps_execWfiEntry {x p s} (h : kept lanes safe s) :
    keeps lanes safe (execWfiEntry x p s) :=
        keeps_onLane (fun _ h1 => sound_ite h1 (sound_entryCheck (sound_modPair h1))) h
theorem keeps_execWfiTimeout {x s} (h : kept lanes safe s) :
    keeps lanes safe (execWfiTimeout x s) :=
        keeps_onLane (fun _ h1 => by split; exacts [h1, sound_ite (sound_entryEnds h1) h1]) h
theorem keeps_execDozeExit {x s} (h : kept lanes safe s) :
    keeps lanes safe (execDozeExit x s) := keeps_onLane (fun _ => sound_leaveDoze) h
theorem keeps_execParkAbort {x who us s} (h : kept lanes safe s) :
    keeps lanes safe (execParkAbort x who us s) := keeps_onLane (fun _ => sound_abortEntry) h
theorem keeps_execDebugHaltRequest {x p cause s} (h : kept lanes safe s) :
    keeps lanes safe (execDebugHaltRequest x p cause s) :=
        keeps_onLane
          (fun _ h1 =>
             sound_ite (sound_haltRequest (sound_leaveDoze (sound_parkAbort (sound_ite (sound_dmControl h1) h1))))
               (sound_ite (sound_dmControl h1) h1)) h
theorem keeps_execParkGrant {s} (h : kept lanes safe s) :
    keeps lanes safe (execParkGrant s) := by
  refine keeps_next ?_
  split
  · exact h
  · next hp =>
    extract_lets down s1 s2
    have hn : s.devState ≠ Dev.safe := fun e => by simp [mayPark, e, show ¬Dev.safe = Dev.idle by decide] at hp
    have kd {m x} (hm : kept lanes safe m) : kept lanes safe (down m x) :=
      kept_ite (kept_modLane (fun _ => sound_powerDown) hm) (kept_ite (kept_modLane (fun _ => sound_powerDown) hm) hm)
    have k1 : kept lanes safe s1 := kept_setDev (fun k => (not_safe h hn k).elim) (kd (kd h))
    have k2 : kept lanes safe s2 := kept_foldl (fun _ _ => kept_evParked) k1
    exact kept_parkBridges (kept_demandUpdate k2)
theorem keeps_execBedrockClockStop {s} (h : kept lanes safe s) :
    keeps lanes safe (execBedrockClockStop s) := keeps_next (kept_ite (kept_modBed (fun _ h1 => h1) h) h)
theorem keeps_execWakeEvent {x ss s} (h : kept lanes safe s) :
    keeps lanes safe (execWakeEvent x ss s) := keeps_next (kept_wakeEvent h)
theorem keeps_execWakeRegulatorsReady {x s} (h : kept lanes safe s) :
    keeps lanes safe (execWakeRegulatorsReady x s) := keeps_onLane (fun _ h1 => sound_wakeGo h1 (fun _ h2 => h2)) h
theorem keeps_execWakeReferenceReady {x s} (h : kept lanes safe s) :
    keeps lanes safe (execWakeReferenceReady x s) := keeps_onLane (fun _ h1 => sound_wakeGo h1 (fun _ => sound_put)) h
theorem keeps_execWakePllLock {x s} (h : kept lanes safe s) :
    keeps lanes safe (execWakePllLock x s) := keeps_onLane (fun _ h1 => sound_wakeGo h1 (fun _ => sound_put)) h
theorem keeps_execReferenceCrystalTimeout {x s} (h : kept lanes safe s) :
    keeps lanes safe (execReferenceCrystalTimeout x s) :=
        keeps_onLane
          (fun _ h1 =>
             sound_ite (sound_wakeGo h1 (fun _ h2 => sound_put (sound_xtalFallback h2)))
               (sound_ite (sound_xtalFallback h1) h1)) h
theorem keeps_execReferenceCrystalStop {x s} (h : kept lanes safe s) :
    keeps lanes safe (execReferenceCrystalStop x s) :=
        keeps_onLane (fun _ h1 => sound_ite (sound_xtalLive (sound_xtalFallback h1)) h1) h
theorem keeps_execWakeFailed {x s} (h : kept lanes safe s) :
    keeps lanes safe (execWakeFailed x s) :=
        keeps_onLane (fun _ h1 => sound_ite (sound_modPower (sound_bump (sound_put (sound_put h1)))) h1) h
theorem keeps_execCrustTimerMatch {x s} (h : kept lanes safe s) :
    keeps lanes safe (execCrustTimerMatch x s) :=
        keeps_next (kept_ite (kept_wakeEvent (kept_modLane (fun _ => sound_irqPulse) h)) (kept_wakeEvent h))
theorem keeps_execClockMonitorExcursion {x k off s} (h : kept lanes safe s) :
    keeps lanes safe (execClockMonitorExcursion x k off s) :=
        keeps_onLane
          (fun _ h1 =>
             sound_ite h1
               (sound_ite (sound_count (sound_irqLevel (sound_setLive (sound_put h1))))
                  (sound_irqLevel (sound_setLive (sound_put h1))))) h
theorem keeps_execFselWrite {x v s} (h : kept lanes safe s) :
    keeps lanes safe (execFselWrite x v s) := keeps_onLane (fun _ => sound_fselWrite) h
theorem keeps_execVselWrite {x v s} (h : kept lanes safe s) :
    keeps lanes safe (execVselWrite x v s) := keeps_onLane (fun _ => sound_vselWrite) h
theorem keeps_execCoreRailSettled {x s} (h : kept lanes safe s) :
    keeps lanes safe (execCoreRailSettled x s) :=
        keeps_onLane (fun _ h1 => sound_ite h1 (sound_irqPulse (sound_put (sound_put h1)))) h
theorem keeps_execFrequencySwitchComplete {x s} (h : kept lanes safe s) :
    keeps lanes safe (execFrequencySwitchComplete x s) :=
        keeps_onLane (fun _ h1 => sound_ite h1 (sound_count (sound_irqPulse (sound_put (sound_put h1))))) h
theorem keeps_execPeerwake {x v s} (h : kept lanes safe s) :
    keeps lanes safe (execPeerwake x v s) := keeps_next (kept_peerwakeWrite h)
theorem keeps_execLostbankClear {x high v s} (h : kept lanes safe s) :
    keeps lanes safe (execLostbankClear x high v s) := keeps_onLane (fun _ => sound_lostbankWrite) h
theorem keeps_execWakeInputChange {x pin level s} (h : kept lanes safe s) :
    keeps lanes safe (execWakeInputChange x pin level s) :=
        keeps_onLane (fun _ h1 => sound_ite (sound_aplicLevel h1) h1) h
theorem keeps_execWakePortWrite {x addr bytes s} (h : kept lanes safe s) :
    keeps lanes safe (execWakePortWrite x addr bytes s) := by
  unfold execWakePortWrite
  split
  · exact keeps_next h
  · exact keeps_ite (keeps_next (kept_wakeEvent (kept_modLane (fun _ => sound_wakeCode) h))) (keeps_next h)
theorem keeps_execWakePortRead {x addr s} (h : kept lanes safe s) :
    keeps lanes safe (execWakePortRead x addr s) := keeps_onLane (fun _ h1 => sound_ite h1 h1) h
theorem keeps_execGpioEdge {x k e s} (h : kept lanes safe s) :
    keeps lanes safe (execGpioEdge x k e s) := keeps_onLane (fun _ h1 => sound_ite (sound_gpioEdge h1) h1) h
theorem keeps_execGoutset {x v s} (h : kept lanes safe s) :
    keeps lanes safe (execGoutset x v s) := keeps_onLane (fun _ => sound_goutsetWrite) h
theorem keeps_execGoutclr {x v s} (h : kept lanes safe s) :
    keeps lanes safe (execGoutclr x v s) := keeps_onLane (fun _ => sound_goutclrWrite) h
theorem keeps_execChkick {x c v s} (h : kept lanes safe s) :
    keeps lanes safe (execChkick x c v s) := keeps_onLane (fun _ => sound_chkickWrite) h
theorem keeps_execChannelEnable {x c v s} (h : kept lanes safe s) :
    keeps lanes safe (execChannelEnable x c v s) := keeps_onLane (fun _ => sound_chctrlWrite) h
theorem keeps_execMramProgram {x g v s} (h : kept lanes safe s) :
    keeps lanes safe (execMramProgram x g v s) := keeps_onLane (fun _ h1 => sound_respond (sound_mpcmdWrite h1)) h
theorem keeps_execMramProgramComplete {x s} (h : kept lanes safe s) :
    keeps lanes safe (execMramProgramComplete x s) :=
        keeps_onLane (fun _ h1 => sound_ite h1 (sound_bump (sound_put (sound_put h1)))) h
theorem keeps_execRegWrReceived {x n offset data parityOk s} (h : kept lanes safe s) :
    keeps lanes safe (execRegWrReceived x n offset data parityOk s) :=
        keeps_next (kept_brgArrive (kept_modLane (fun _ => sound_takeDown) h))
theorem keeps_execRegRdReceived {x n offset s} (h : kept lanes safe s) :
    keeps lanes safe (execRegRdReceived x n offset s) :=
        keeps_next (kept_ite h (kept_sendUp (kept_modLane (fun _ => sound_takeDown) h)))
theorem keeps_execBlockStopComplete {x page s} (h : kept lanes safe s) :
    keeps lanes safe (execBlockStopComplete x page s) :=
        keeps_next
          (kept_ite (kept_ite (kept_brgSettle (kept_modBrg h)) h) (kept_modLane (fun _ => sound_blockStopped) h))
theorem keeps_execResetRelease {x s} (h : kept lanes safe s) :
    keeps lanes safe (execResetRelease x s) := keeps_next (kept_resetRelease h)
theorem keeps_execKilnSliceComplete {x us s} (h : kept lanes safe s) :
    keeps lanes safe (execKilnSliceComplete x us s) := keeps_onLane (fun _ => sound_sliceDone) h
theorem keeps_execBedrockLoadGrant {ra rb s} (h : kept lanes safe s) :
    keeps lanes safe (execBedrockLoadGrant ra rb s) := by
  refine keeps_next ?_
  split
  · exact h
  · extract_lets a b
    have ka : kept lanes safe a.1 := by
      by_cases hr : ra
      · rw [show a = s.requests .A from if_pos hr]; exact kept_requests h
      · rw [show a = (s, false) from if_neg hr]; exact h
    have kb : kept lanes safe b.1 := by
      by_cases hr : rb
      · rw [show b = a.1.requests .B from if_pos hr]; exact kept_requests ka
      · rw [show b = (a.1, false) from if_neg hr]; exact ka
    exact kept_ite (kept_grantTo kb) (kept_ite (kept_grantTo kb) kb)
theorem keeps_execBedrockLoadDone {s} (h : kept lanes safe s) :
    keeps lanes safe (execBedrockLoadDone s) := by
  unfold execBedrockLoadDone
  extract_lets s1
  have k1 : kept lanes safe s1 := kept_loadedRises (kept_clampEvals (kept_clampTests (kept_clampBridges h)))
  exact keeps_next (by split; exacts [h, kept_ite h (kept_ite (kept_bootFail k1) k1)])
theorem keeps_execBedrockLoadHolderLoss {s} (h : kept lanes safe s) :
    keeps lanes safe (execBedrockLoadHolderLoss s) := by
  have k1 : kept lanes safe (s.modBed fun b => { b with regs := b.regs.clear isConfigReg, grant := none }) :=
    kept_modBed (fun _ h1 => BedState.isSafe_withGrant (BedState.isSafe_clearConfig h1)) h
  unfold execBedrockLoadHolderLoss
  refine keeps_next ?_
  split
  · exact h
  · exact kept_ite h (kept_ite (kept_grantTo k1) k1)
theorem keeps_execLaneStartUpComplete {x us s} (h : kept lanes safe s) :
    keeps lanes safe (execLaneStartUpComplete x us s) := by
  unfold execLaneStartUpComplete
  extract_lets s1 l2 s3 s4 _ s5
  have k1 : kept lanes safe s1 := kept_bootImage h
  have k2 (k : lanes) : sound _ l2 := sound_lane k1 k
  have k3 : kept lanes safe s3 := kept_bootCheck k1
  have k4 : kept lanes safe s4 := kept_bootLock k3
  have k5 : kept lanes safe s5 := kept_modLane (fun _ h5 => sound_modSieve (sound_pairsRelease h5)) k4
  exact keeps_next (kept_ite k1 (kept_ite (kept_requests k1) (kept_ite k3 (kept_ite k4 (kept_completeSeen k5)))))
theorem keeps_execStartUpFailure {x power s} (h : kept lanes safe s) :
    keeps lanes safe (execStartUpFailure x power s) := by
  unfold execStartUpFailure
  extract_lets s1
  have k1 : kept lanes safe s1 := kept_bootImage h
  exact
      keeps_next
        (kept_ite h
           (kept_ite
              (by
                 split
                 · exact kept_modLane (fun _ h2 => sound_modPower (sound_setBoot h2)) h
                 · exact kept_modLane (fun _ h2 => sound_modPower (sound_setBoot h2)) h
                 · exact kept_modLane (fun _ h2 => sound_modPower (sound_setBoot h2)) h
                 · exact kept_modLane (fun _ h2 => sound_modPower (sound_setBoot h2)) h
                 · exact h) (by split; exacts [kept_ite (kept_modLane (fun _ => sound_serviceMode) k1) k1, k1])))
theorem keeps_execWakeMemoriesDone {x corr uncorr s} (h : kept lanes safe s) :
    keeps lanes safe (execWakeMemoriesDone x corr uncorr s) := by
  unfold execWakeMemoriesDone
  extract_lets l1 _ s2 _ s3 s4
  have k1 (k : lanes) : sound _ l1 := sound_lane h k
  have k2 : kept lanes safe s2 := kept_modLane (fun _ => sound_foldl (fun _ _ => sound_checkBank)) h
  have k3 : kept lanes safe s3 := kept_modLane (fun _ => sound_modPower) k2
  have k4 : kept lanes safe s4 := kept_freeNext (kept_resetRelease (kept_laneReset k3))
  exact keeps_next (kept_ite h (kept_modLane (fun _ => sound_foldl (fun _ _ => sound_raiseAt)) k4))
theorem keeps_execRegisterWrite {x g a bad s} (h : kept lanes safe s) :
    keeps lanes safe (execRegisterWrite x g a bad s) := keeps_next (kept_ite (kept_access h) h)
theorem keeps_execSoftReset {x g page s} (h : kept lanes safe s) :
    keeps lanes safe (execSoftReset x g page s) := keeps_next (kept_pageWrite h)
theorem keeps_execBlockRun {x g page s} (h : kept lanes safe s) :
    keeps lanes safe (execBlockRun x g page s) := keeps_next (kept_pageWrite h)
theorem keeps_execBlockStopRequest {x g page s} (h : kept lanes safe s) :
    keeps lanes safe (execBlockStopRequest x g page s) := keeps_next (kept_pageWrite h)
theorem keeps_execLockkeyWrite {x g page v s} (h : kept lanes safe s) :
    keeps lanes safe (execLockkeyWrite x g page v s) := keeps_next (kept_pageWrite h)
theorem keeps_execCounterLowRead {x g addr s} (h : kept lanes safe s) :
    keeps lanes safe (execCounterLowRead x g addr s) := keeps_next (kept_ite (kept_access h) h)
theorem keeps_execCounterHighWrite {x g addr v s} (h : kept lanes safe s) :
    keeps lanes safe (execCounterHighWrite x g addr v s) := keeps_next (kept_ite (kept_pageWrite h) h)
theorem keeps_execCounterLowWrite {x g addr v s} (h : kept lanes safe s) :
    keeps lanes safe (execCounterLowWrite x g addr v s) := keeps_next (kept_ite (kept_pageWrite h) h)
theorem keeps_execBridgeWindowWrite {x g a s} (h : kept lanes safe s) :
    keeps lanes safe (execBridgeWindowWrite x g a s) := keeps_next (kept_ite (kept_agentAccess h) h)
theorem keeps_execBridgeWindowRead {x g a s} (h : kept lanes safe s) :
    keeps lanes safe (execBridgeWindowRead x g a s) := keeps_next (kept_ite (kept_agentAccess h) h)
theorem keeps_execRegRspReceived {x data s} (h : kept lanes safe s) :
    keeps lanes safe (execRegRspReceived x data s) :=
        keeps_onLane (fun _ h1 => by split; exacts [h1, sound_ite h1 (sound_accessDone h1)]) h
theorem keeps_execBridgeReadTimeout {x g s} (h : kept lanes safe s) :
    keeps lanes safe (execBridgeReadTimeout x g s) :=
        keeps_onLane (fun _ h1 => by split; exacts [h1, sound_accessDone h1]) h
theorem keeps_execPeerWindowRead {x g a s} (h : kept lanes safe s) :
    keeps lanes safe (execPeerWindowRead x g a s) := keeps_next (kept_ite (kept_agentAccess h) h)
theorem keeps_execPeerRdReqReceived {x tag addrLo addrHi count s} (h : kept lanes safe s) :
    keeps lanes safe (execPeerRdReqReceived x tag addrLo addrHi count s) :=
        keeps_next
          (kept_ite h
             (kept_ite (kept_modLane (fun _ => sound_snoopAll) h)
                (kept_freeNext (kept_setLane (fun k => by split <;> exact sound_llReady (sound_lane h k)) h))))
theorem keeps_execPeerRdRspReceived {x tag words s} (h : kept lanes safe s) :
    keeps lanes safe (execPeerRdRspReceived x tag words s) :=
        keeps_onLane (fun _ h1 => by split; exacts [h1, sound_ite h1 (sound_accessDone h1)]) h
theorem keeps_execPeerReadTimeout {x g s} (h : kept lanes safe s) :
    keeps lanes safe (execPeerReadTimeout x g s) :=
        keeps_onLane (fun _ h1 => by split; exacts [h1, sound_accessDone h1]) h
theorem keeps_execDeviceAccessRelease {x n d s} (h : kept lanes safe s) :
    keeps lanes safe (execDeviceAccessRelease x n d s) :=
        keeps_next
          (by
             split
             · exact kept_ite (kept_pairAccess h) h
             · exact kept_ite
                       (kept_ite (kept_modLane (fun _ => sound_replayAccess) h)
                          (kept_ite (kept_modLane (fun _ => sound_imsicAccess) h) h)) h
             · exact kept_ite (kept_modLane (fun _ => sound_replayAccess) h)
                       (kept_ite (kept_modLane (fun _ h1 => sound_respond (sound_logAppend h1)) h) h))
theorem keeps_execDebugSystemBusAccess {x a s} (h : kept lanes safe s) :
    keeps lanes safe (execDebugSystemBusAccess x a s) := by
  unfold execDebugSystemBusAccess
  extract_lets l1 f2 s3
  have k1 (k : lanes) : sound _ l1 := sound_lane h k
  have k2 : ∀ m0 m1, kept lanes safe m0 → kept lanes safe (f2 m0 m1) := fun _ _ => kept_modLane (fun _ h3 => h3)
  have k3 : kept lanes safe s3 := kept_modLane (fun _ => sound_sbWrite) h
  exact
      keeps_next
        (kept_ite h
           (kept_ite (kept_modLane (fun _ => sound_sbWrite) h)
              (kept_ite (k2 _ _ k3) (kept_ite (k2 _ _ k3) (kept_access k3)))))
theorem keeps_execReadParityError {x g addr s} (h : kept lanes safe s) :
    keeps lanes safe (execReadParityError x g addr s) :=
        keeps_next
          (kept_ite h
             (kept_ite (kept_modLane (fun _ => sound_hspiResult) (kept_parityRaise h))
                (kept_modLane (fun _ => sound_accessDone) (kept_parityRaise h))))
theorem keeps_execHspiNop {x frame early s} (h : kept lanes safe s) :
    keeps lanes safe (execHspiNop x frame early s) := keeps_next (kept_hspiFrame h)
theorem keeps_execHspiRead32 {x frame m s} (h : kept lanes safe s) :
    keeps lanes safe (execHspiRead32 x frame m s) := keeps_next (kept_hspiFrame h)
theorem keeps_execHspiWrite32 {x frame m s} (h : kept lanes safe s) :
    keeps lanes safe (execHspiWrite32 x frame m s) := keeps_next (kept_hspiFrame h)
theorem keeps_execDescriptorFetchComplete {x f s} (h : kept lanes safe s) :
    keeps lanes safe (execDescriptorFetchComplete x f s) :=
        keeps_onLane
          (fun _ h1 =>
             sound_ite h1
               (sound_ite (sound_raise (sound_setChn h1))
                  (sound_ite (sound_snoopAll h1) (sound_fetched (sound_beats (sound_memLat h1)))))) h
theorem keeps_execPacedBurstGrant {x c b s} (h : kept lanes safe s) :
    keeps lanes safe (execPacedBurstGrant x c b s) := by
  unfold execPacedBurstGrant
  extract_lets l1 _ _ s2
  have k1 (k : lanes) : sound _ l1 := sound_lane h k
  have k2 : kept lanes safe s2 := kept_moveBurst h
  exact
      keeps_next
        (kept_ite h
           (kept_modLane
              (fun _ h3 =>
                 sound_ite h3
                   (sound_ite
                      (sound_setChn
                         (sound_ite (sound_count (sound_bump (sound_modX (sound_memLat h3)))) (sound_memLat h3)))
                      (sound_ite (sound_count (sound_bump (sound_modX (sound_memLat h3)))) (sound_memLat h3)))) k2))
theorem keeps_execTransferBusError {x c bytes read s} (h : kept lanes safe s) :
    keeps lanes safe (execTransferBusError x c bytes read s) := by
  unfold execTransferBusError
  extract_lets l1 _ _ _ s2 _ s3
  have k1 (k : lanes) : sound _ l1 := sound_lane h k
  have k2 : kept lanes safe s2 := kept_ite h (kept_moveBursts h)
  have k3 : kept lanes safe s3 := kept_ite k2 (kept_moveBurst k2)
  exact
      keeps_next
        (kept_ite h
           (kept_modLane (fun _ h4 => sound_ite (sound_setChn h4) (sound_ite h4 (sound_setChn (sound_xferError h4))))
              k3))
theorem keeps_execDescriptorWriteBack {x w s} (h : kept lanes safe s) :
    keeps lanes safe (execDescriptorWriteBack x w s) := by
  unfold execDescriptorWriteBack
  extract_lets _ l1
  have k1 (k : lanes) : sound _ l1 := sound_lane h k
  split
  · exact keeps_next h
  · split
    · exact keeps_next h
    · exact
        keeps_next
          (kept_modLane (fun _ h2 => sound_ite h2 (sound_ite (sound_snoopAll h2) (sound_writeBackDesc h2)))
             (kept_moveBursts (kept_modLane (fun _ => sound_memLat) h)))
theorem keeps_execChannelDisable {x c v bytes s} (h : kept lanes safe s) :
    keeps lanes safe (execChannelDisable x c v bytes s) :=
        keeps_next (kept_modLane (fun _ => sound_chctrlWrite) (kept_ite (kept_moveBursts h) h))

end Sys2Proof.Machine.State

namespace Sys2Proof.Machine.State
open Sys2Proof LaneState
variable {lanes safe : Prop}
theorem kept_tick {s} (h : kept lanes safe s) : kept lanes safe s.tick := by
  refine ⟨h.1, fun k => ?_⟩
  unfold tick
  dsimp only
  split
  exacts [h.2 k, h.2 k]

/-- Every command but FEED_POWER_ON_FALL keeps both; that one keeps the lanes. -/
theorem keeps_exec {c : Instr} {s : State} (hc : ∀ x, c = .feedPowerOnFall x → ¬safe) (h : kept lanes safe s) :
    keeps lanes safe (exec c s) := by
  cases c with
  | phaseCmdReceived => exact keeps_execPhaseCmdReceived h
  | verdictReceived => exact keeps_execVerdictReceived h
  | duplexOutReceived => exact keeps_execDuplexOutReceived h
  | verdictDeadline => exact keeps_execVerdictDeadline h
  | pwmPeriodBoundary => exact keeps_execPwmPeriodBoundary h
  | bridgeTerminalEntry => exact keeps_execBridgeTerminalEntry h
  | bridgeLinkFrameReceived => exact keeps_execBridgeLinkFrameReceived h
  | laneLinkFrameReceived => exact keeps_execLaneLinkFrameReceived h
  | linkSilenceTimeout => exact keeps_execLinkSilenceTimeout h
  | linkCountingIntervalEnd => exact keeps_execLinkCountingIntervalEnd h
  | syncAbsenceIntervalTimeout => exact keeps_execSyncAbsenceIntervalTimeout h
  | laneLinkFrameStart => exact keeps_execLaneLinkFrameStart h
  | bridgeSyncReceived => exact keeps_execBridgeSyncReceived (v1 := 0) (v2 := 0) h
  | laneLinkSyncReceived => exact keeps_execLaneLinkSyncReceived h
  | masterPeriodBoundary => exact keeps_execMasterPeriodBoundary h
  | currentConversionStart => exact keeps_execCurrentConversionStart h
  | currentFrameReceived => exact keeps_execCurrentFrameReceived h
  | overcurrentDetected => exact keeps_execOvercurrentDetected h
  | statusFrameReceived => exact keeps_execStatusFrameReceived h
  | regWrReceived => exact keeps_execRegWrReceived h
  | regRdReceived => exact keeps_execRegRdReceived h
  | regRspReceived => exact keeps_execRegRspReceived h
  | bridgeWindowWrite => exact keeps_execBridgeWindowWrite h
  | bridgeWindowRead => exact keeps_execBridgeWindowRead h
  | bridgeReadTimeout => exact keeps_execBridgeReadTimeout h
  | registerWrite => exact keeps_execRegisterWrite h
  | readParityError => exact keeps_execReadParityError h
  | softReset => exact keeps_execSoftReset h
  | blockRun => exact keeps_execBlockRun h
  | blockStopRequest => exact keeps_execBlockStopRequest h
  | blockStopComplete => exact keeps_execBlockStopComplete h
  | lockkeyWrite => exact keeps_execLockkeyWrite h
  | counterLowRead => exact keeps_execCounterLowRead h
  | counterHighWrite => exact keeps_execCounterHighWrite h
  | counterLowWrite => exact keeps_execCounterLowWrite h
  | imsicMessageDelivery => exact keeps_execImsicMessageDelivery h
  | nop => exact keeps_execNop h
  | renew => exact keeps_execRenew h
  | release => exact keeps_execRelease h
  | standby => exact keeps_execStandby h
  | driveOn => exact keeps_execDriveOn h
  | driveOff => exact keeps_execDriveOff h
  | park => exact keeps_execPark h
  | faultAck => exact keeps_execFaultAck h
  | faultClear => exact keeps_execFaultClear h
  | goSafe => exact keeps_execGoSafe h
  | peerWindowRead => exact keeps_execPeerWindowRead h
  | peerRdReqReceived => exact keeps_execPeerRdReqReceived h
  | peerRdRspReceived => exact keeps_execPeerRdRspReceived h
  | peerReadTimeout => exact keeps_execPeerReadTimeout h
  | przCkpt => exact keeps_execPrzCkpt h
  | przCksn => exact keeps_execPrzCksn h
  | przLogfree => exact keeps_execPrzLogfree h
  | checkpointTimerExpiry => exact keeps_execCheckpointTimerExpiry h
  | paircmdCkpt => exact keeps_execPaircmdCkpt (v1 := .host) h
  | paircmdRevive => exact keeps_execPaircmdRevive (v1 := .host) h
  | checkpointCommit => exact keeps_execCheckpointCommit h
  | forceCheckpointSet => exact keeps_execForceCheckpointSet h
  | forceCheckpointSnoop => exact keeps_execForceCheckpointSnoop h
  | deviceAccessRelease => exact keeps_execDeviceAccessRelease h
  | lockstepMismatch => exact keeps_execLockstepMismatch h
  | checkpointRestartComplete => exact keeps_execCheckpointRestartComplete h
  | replayDivergence => exact keeps_execReplayDivergence h
  | replayEnd => exact keeps_execReplayEnd h
  | cacheCorrectableError => exact keeps_execCacheCorrectableError h
  | cacheUncorrectableError => exact keeps_execCacheUncorrectableError h
  | debugHaltRequest => exact keeps_execDebugHaltRequest h
  | debugModeEntry => exact keeps_execDebugModeEntry h
  | debugResume => exact keeps_execDebugResume h
  | debugAccessRegister => exact keeps_execDebugAccessRegister h
  | debugProgramBuffer => exact keeps_execDebugProgramBuffer h
  | debugSystemBusAccess => exact keeps_execDebugSystemBusAccess h
  | debugHartreset => exact keeps_execDebugHartreset h
  | debugNdmreset => exact keeps_execDebugNdmreset h
  | eMac => exact keeps_execEMac h
  | eMsu => exact keeps_execEMsu h
  | eMpy => exact keeps_execEMpy h
  | eVmac => exact keeps_execEVmac h
  | eVmpy => exact keeps_execEVmpy h
  | eAdda => exact keeps_execEAdda h
  | eLda => exact keeps_execELda h
  | eVclr => exact keeps_execEVclr h
  | eMove => exact keeps_execEMove h
  | eRnd => exact keeps_execERnd h
  | eLdi => exact keeps_execELdi h
  | eLdih => exact keeps_execELdih h
  | eMaci => exact keeps_execEMaci h
  | eMpyi => exact keeps_execEMpyi h
  | eAddi => exact keeps_execEAddi h
  | eMov => exact keeps_execEMov h
  | eAdd => exact keeps_execEAdd h
  | eSub => exact keeps_execESub h
  | eAdds => exact keeps_execEAdds h
  | eSubs => exact keeps_execESubs h
  | eAnd => exact keeps_execEAnd h
  | eOr => exact keeps_execEOr h
  | eXor => exact keeps_execEXor h
  | eShl => exact keeps_execEShl h
  | eSar => exact keeps_execESar h
  | eShr => exact keeps_execEShr h
  | eMin => exact keeps_execEMin h
  | eMax => exact keeps_execEMax h
  | eClamp => exact keeps_execEClamp h
  | eAbs => exact keeps_execEAbs h
  | eNeg => exact keeps_execENeg h
  | eAgcfg => exact keeps_execEAgcfg h
  | eAgset => exact keeps_execEAgset h
  | eAgget => exact keeps_execEAgget h
  | eXld => exact keeps_execEXld h
  | eXst => exact keeps_execEXst h
  | eCrdrot => exact keeps_execECrdrot h
  | eCrdvec => exact keeps_execECrdvec h
  | cordicResultReady => exact keeps_execCordicResultReady h
  | eCrdget => exact keeps_execECrdget h
  | eGetsw => exact keeps_execEGetsw h
  | eClrsw => exact keeps_execEClrsw h
  | eBr => exact keeps_execEBr h
  | eLoop => exact keeps_execELoop h
  | eEnd => exact keeps_execEEnd h
  | frameStart => exact keeps_execFrameStart h
  | tableCommitRequest => exact keeps_execTableCommitRequest h
  | coefficientSwapRequest => exact keeps_execCoefficientSwapRequest h
  | loopEngineRun => exact keeps_execLoopEngineRun h
  | slotSnapshot => exact keeps_execSlotSnapshot h
  | slotEntry => exact keeps_execSlotEntry h
  | slotOverrun => exact keeps_execSlotOverrun h
  | slotOutputStage => exact keeps_execSlotOutputStage h
  | slotLaunch => exact keeps_execSlotLaunch h
  | trackerAnalysisComplete => exact keeps_execTrackerAnalysisComplete h
  | trackerAccept => exact keeps_execTrackerAccept h
  | trackerReject => exact keeps_execTrackerReject h
  | trkcfgWrite => exact keeps_execTrkcfgWrite h
  | plcCommit => exact keeps_execPlcCommit h
  | plcReplace => exact keeps_execPlcReplace h
  | initRefillComplete => exact keeps_execInitRefillComplete h
  | placementRunStart => exact keeps_execPlacementRunStart h
  | placeTrigReceived => exact keeps_execPlaceTrigReceived h
  | placeInputReceived => exact keeps_execPlaceInputReceived (v5 := 0) h
  | placeResultReceived => exact keeps_execPlaceResultReceived (v1 := 0) h
  | stateLoadComplete => exact keeps_execStateLoadComplete h
  | placementEffect => exact keeps_execPlacementEffect h
  | placeSnapReceived => exact keeps_execPlaceSnapReceived h
  | mirrorFrameReceived => exact keeps_execMirrorFrameReceived h
  | placePlcstateReceived => exact keeps_execPlacePlcstateReceived h
  | placeSyncedReceived => exact keeps_execPlaceSyncedReceived h
  | rampOutput => exact keeps_execRampOutput h
  | laneHeartbeatStart => exact keeps_execLaneHeartbeatStart h
  | heartbeatMissing => exact keeps_execHeartbeatMissing h
  | laneStartUpComplete => exact keeps_execLaneStartUpComplete h
  | startTimeout => exact keeps_execStartTimeout h
  | kilnFailWire => exact keeps_execKilnFailWire h
  | laneDownFlag => exact keeps_execLaneDownFlag h
  | leaseExpiry => exact keeps_execLeaseExpiry h
  | standbyReadyExpiry => exact keeps_execStandbyReadyExpiry h
  | selfDiagnosisRise => exact keeps_execSelfDiagnosisRise h
  | selectReceived => exact keeps_execSelectReceived h
  | selectAck => exact keeps_execSelectAck h
  | selectRepeat => exact keeps_execSelectRepeat h
  | selectPeriodic => exact keeps_execSelectPeriodic h
  | selectTimeout => exact keeps_execSelectTimeout h
  | orphanTimeout => exact keeps_execOrphanTimeout h
  | bedrockHalfRetire => exact keeps_execBedrockHalfRetire h
  | feedPowerOnRise => exact keeps_execFeedPowerOnRise h
  | feedPowerOnFall x =>
    exact fun t e => ⟨(keeps_execFeedPowerOnFall ⟨h.1, False.elim⟩ t e).1, fun k => (hc x rfl k).elim⟩
  | feedUndervoltageFall => exact keeps_execFeedUndervoltageFall h
  | feedUndervoltageRise => exact keeps_execFeedUndervoltageRise h
  | gateSupplyFall => exact keeps_execGateSupplyFall h
  | gateSupplyRise => exact keeps_execGateSupplyRise h
  | gateSuppliesLostTimeout => exact keeps_execGateSuppliesLostTimeout h
  | bootstrapUndervoltage => exact keeps_execBootstrapUndervoltage h
  | bootuvFaultLatch => exact keeps_execBootuvFaultLatch h
  | prechargeEnd => exact keeps_execPrechargeEnd h
  | commutationCodeChange => exact keeps_execCommutationCodeChange h
  | interlockRefusal => exact keeps_execInterlockRefusal h
  | desatDetected => exact keeps_execDesatDetected h
  | bridgeSupplyUndervoltage => exact keeps_execBridgeSupplyUndervoltage h
  | bridgeSupplyOvervoltage => exact keeps_execBridgeSupplyOvervoltage h
  | overtemperature => exact keeps_execOvertemperature h
  | temperatureWarning => exact keeps_execTemperatureWarning h
  | benFall => exact keeps_execBenFall h
  | benLowTimeout => exact keeps_execBenLowTimeout h
  | benRise => exact keeps_execBenRise h
  | terminalRequest => exact keeps_execTerminalRequest h
  | masterTimebaseStart => exact keeps_execMasterTimebaseStart h
  | bridgePllLockLoss => exact keeps_execBridgePllLockLoss h
  | bridgePllLock => exact keeps_execBridgePllLock h
  | orphStrapSample => exact keeps_execOrphStrapSample h
  | quadratureStateChange => exact keeps_execQuadratureStateChange h
  | hallCodeChange => exact keeps_execHallCodeChange h
  | toothEdge => exact keeps_execToothEdge h
  | pdirPulse => exact keeps_execPdirPulse h
  | dutyRisingEdge => exact keeps_execDutyRisingEdge h
  | freqRisingEdge => exact keeps_execFreqRisingEdge h
  | feedbackTimeout => exact keeps_execFeedbackTimeout h
  | speedWindowEnd => exact keeps_execSpeedWindowEnd h
  | channelConfigReset => exact keeps_execChannelConfigReset h
  | posWrite => exact keeps_execPosWrite h
  | chevtRead => exact keeps_execChevtRead h
  | dividedOutputStep => exact keeps_execDividedOutputStep h
  | sentFrameReceived => exact keeps_execSentFrameReceived h
  | psi5FrameReceived => exact keeps_execPsi5FrameReceived h
  | psi5SyncTrigger => exact keeps_execPsi5SyncTrigger h
  | sensorLostTimeout => exact keeps_execSensorLostTimeout h
  | pevtRead => exact keeps_execPevtRead h
  | adcstartGo => exact keeps_execAdcstartGo h
  | adcFrameTrigger => exact keeps_execAdcFrameTrigger h
  | adcConversionComplete => exact keeps_execAdcConversionComplete h
  | adcCalibrationComplete => exact keeps_execAdcCalibrationComplete h
  | adcfifoRead => exact keeps_execAdcfifoRead h
  | portRun => exact keeps_execPortRun h
  | portStop => exact keeps_execPortStop h
  | transmitDeadline => exact keeps_execTransmitDeadline h
  | actionPoint => exact keeps_execActionPoint h
  | strataCollision => exact keeps_execStrataCollision h
  | strataFrameReceived => exact keeps_execStrataFrameReceived h
  | safetyPairTimeout => exact keeps_execSafetyPairTimeout h
  | coldstartFrameReceived => exact keeps_execColdstartFrameReceived h
  | slotEnd => exact keeps_execSlotEnd h
  | cycleEnd => exact keeps_execCycleEnd h
  | syncWindowStart => exact keeps_execSyncWindowStart h
  | listenTimeout => exact keeps_execListenTimeout h
  | coldstartAttempt => exact keeps_execColdstartAttempt h
  | coldstartBackoffEnd => exact keeps_execColdstartBackoffEnd h
  | integrateTimeout => exact keeps_execIntegrateTimeout h
  | cyclePoint => exact keeps_execCyclePoint h
  | txrdyWrite => exact keeps_execTxrdyWrite h
  | rxqRead => exact keeps_execRxqRead h
  | safeqRead => exact keeps_execSafeqRead h
  | canBusIntegrated => exact keeps_execCanBusIntegrated h
  | canTxreq => exact keeps_execCanTxreq h
  | canTxabort => exact keeps_execCanTxabort h
  | canFrameSent => exact keeps_execCanFrameSent h
  | canArbitrationLost => exact keeps_execCanArbitrationLost h
  | canFrameReceived => exact keeps_execCanFrameReceived h
  | canRxpop => exact keeps_execCanRxpop h
  | canBusOff => exact keeps_execCanBusOff h
  | canBusOffRecovery => exact keeps_execCanBusOffRecovery h
  | txpoll => exact keeps_execTxpoll h
  | ethFrameTransmitted => exact keeps_execEthFrameTransmitted h
  | ethFrameReceived => exact keeps_execEthFrameReceived h
  | ptpadjWrite => exact keeps_execPtpadjWrite h
  | mdioAccess => exact keeps_execMdioAccess h
  | mdioComplete => exact keeps_execMdioComplete h
  | hspiNop => exact keeps_execHspiNop h
  | hspiRead32 => exact keeps_execHspiRead32 h
  | hspiWrite32 => exact keeps_execHspiWrite32 h
  | wakePortWrite => exact keeps_execWakePortWrite h
  | wakePortRead => exact keeps_execWakePortRead h
  | gpioEdge => exact keeps_execGpioEdge h
  | goutset => exact keeps_execGoutset h
  | goutclr => exact keeps_execGoutclr h
  | safetyInputChange => exact keeps_execSafetyInputChange h
  | discrepancyTimeout => exact keeps_execDiscrepancyTimeout h
  | lcurtOffToleranceExpiry => exact keeps_execLcurtOffToleranceExpiry h
  | twohandTimeout => exact keeps_execTwohandTimeout h
  | testPulseStart => exact keeps_execTestPulseStart h
  | testPulseCheck => exact keeps_execTestPulseCheck h
  | resetPulseEnd => exact keeps_execResetPulseEnd h
  | sdemandWrite => exact keeps_execSdemandWrite h
  | demandTimeout => exact keeps_execDemandTimeout h
  | laneDiscrepancyTimeout => exact keeps_execLaneDiscrepancyTimeout h
  | pathDiscrepancyTimeout => exact keeps_execPathDiscrepancyTimeout h
  | safeOutputTestPulse => exact keeps_execSafeOutputTestPulse h
  | outputReadbackFault => exact keeps_execOutputReadbackFault h
  | faultSourceEvent => exact keeps_execFaultSourceEvent h
  | laneDownReset => exact keeps_execLaneDownReset h
  | bucketLeave => exact keeps_execBucketLeave h
  | shadowExpiry => exact keeps_execShadowExpiry h
  | wireFault => exact keeps_execWireFault h
  | maskedEnd => exact keeps_execMaskedEnd h
  | spineTokenTimeout => exact keeps_execSpineTokenTimeout h
  | laneLinkFaultReceived => exact keeps_execLaneLinkFaultReceived h
  | clrcmdAck => exact keeps_execClrcmdAck h
  | clrcmdClear => exact keeps_execClrcmdClear h
  | bedrockFaultEvent => exact keeps_execBedrockFaultEvent h
  | chkick => exact keeps_execChkick h
  | descriptorFetchComplete => exact keeps_execDescriptorFetchComplete h
  | pacedBurstGrant => exact keeps_execPacedBurstGrant h
  | transferBusError => exact keeps_execTransferBusError h
  | descriptorWriteBack => exact keeps_execDescriptorWriteBack h
  | channelEnable => exact keeps_execChannelEnable h
  | channelDisable => exact keeps_execChannelDisable h
  | psreqDoze => exact keeps_execPsreqDoze h
  | wfiTimeout => exact keeps_execWfiTimeout h
  | dozeExit => exact keeps_execDozeExit h
  | psreqPark => exact keeps_execPsreqPark h
  | parkAbort => exact keeps_execParkAbort h
  | parkGrant => exact keeps_execParkGrant h
  | bedrockClockStop => exact keeps_execBedrockClockStop h
  | wakeEvent => exact keeps_execWakeEvent h
  | wakeRegulatorsReady => exact keeps_execWakeRegulatorsReady h
  | wakeReferenceReady => exact keeps_execWakeReferenceReady h
  | referenceCrystalTimeout => exact keeps_execReferenceCrystalTimeout h
  | referenceCrystalStop => exact keeps_execReferenceCrystalStop h
  | wakePllLock => exact keeps_execWakePllLock h
  | wakeMemoriesDone => exact keeps_execWakeMemoriesDone h
  | wakeFailed => exact keeps_execWakeFailed h
  | crustTimerMatch => exact keeps_execCrustTimerMatch h
  | clockMonitorExcursion => exact keeps_execClockMonitorExcursion h
  | fselWrite => exact keeps_execFselWrite h
  | vselWrite => exact keeps_execVselWrite h
  | coreRailSettled => exact keeps_execCoreRailSettled h
  | rstcmdLane => exact keeps_execRstcmdLane h
  | rstcmdWarm => exact keeps_execRstcmdWarm h
  | peerwake => exact keeps_execPeerwake h
  | lostbankClear => exact keeps_execLostbankClear h
  | resetRelease => exact keeps_execResetRelease h
  | bedrockLoadGrant => exact keeps_execBedrockLoadGrant h
  | bedrockLoadDone => exact keeps_execBedrockLoadDone h
  | bedrockLoadHolderLoss => exact keeps_execBedrockLoadHolderLoss h
  | startUpFailure => exact keeps_execStartUpFailure h
  | mramProgram => exact keeps_execMramProgram h
  | mramProgramComplete => exact keeps_execMramProgramComplete h
  | kilnBlockComplete => exact keeps_execKilnBlockComplete h
  | kilnSliceComplete => exact keeps_execKilnSliceComplete h
  | samplerEnable => exact keeps_execSamplerEnable h
  | sampleTag => exact keeps_execSampleTag h
  | sampleRecordAppend => exact keeps_execSampleRecordAppend h
  | smpack => exact keeps_execSmpack h
  | histclr => exact keeps_execHistclr h
  | indexInputEdge => exact keeps_execIndexInputEdge h
  | ptpsecCarry => exact keeps_execPtpsecCarry h
  | frequencySwitchComplete => exact keeps_execFrequencySwitchComplete h
  | reqcmdWrite => exact keeps_execReqcmdWrite h
  | workingStore => exact keeps_execWorkingStore h
  | interruptTaken => exact keeps_execInterruptTaken h
  | wfiEntry => exact keeps_execWfiEntry h
  | wakeInputChange => exact keeps_execWakeInputChange h

/-- Every step but FEED_POWER_ON_FALL keeps both; that one keeps the lanes. -/
theorem keeps_step {s : State} (hc : ∀ x r, s.pending = .feedPowerOnFall x :: r → ¬safe) (h : kept lanes safe s) :
    keeps lanes safe (step s) := by
  unfold step
  split
  · exact keeps_next (kept_tick h)
  · next c r hp =>
    exact keeps_exec (fun x hx => hc x r (hx ▸ hp)) h

/-- R44's second way out: the feed that falls is the last, and the device is OFF. -/
theorem execFeedPowerOnFall_safe_or_off {x : Lane} {s t : State} (h : kept False True s) (ht : execFeedPowerOnFall x s = .next t) :
    t.devState = Dev.safe ∨ (t.bed.on = false ∧ t.a.power.feedOn = false ∧ t.b.power.feedOn = false) := by
  unfold execFeedPowerOnFall done at ht
  cases ht
  split
  · exact .inl (h.2 trivial).2
  · extract_lets s1 s2
    have k2 : kept False True s2 := kept_modLane (fun _ => sound_withPower) (kept_feedUvFall h)
    split
    · exact .inl (k2.2 trivial).2
    · next hf =>
      refine .inr ⟨rfl, ?_⟩
      have hx : (s2.lane x).power.feedOn = false := by cases x <;> rfl
      cases x
      exacts [⟨hx, Bool.eq_false_iff.mpr hf⟩, ⟨Bool.eq_false_iff.mpr hf, hx⟩]
end Sys2Proof.Machine.State
namespace Sys2Proof.Machine
open Sys2Proof
theorem State.kept_lanes_iff {s : State} : s.kept True False ↔ s.memWf = true ∧ s.ownLanes := by
  unfold State.kept State.memWf State.ownLanes LaneState.sound LaneState.id
  simp only [true_implies, Bool.and_eq_true, false_implies, and_true]
  tauto

/-- Settles O59: every function that a command calls keeps a lane's memory in form and its place (`LaneState.sound`), so
every command does. -/
theorem memoryAndLanesInvariant : Obligations.MemoryAndLanesInvariant := by
  unfold Obligations.MemoryAndLanesInvariant
  intro s t hm ho ht
  have h : s.kept True False := State.kept_lanes_iff.mpr ⟨hm, ho⟩
  exact State.kept_lanes_iff.mp (State.keeps_step (fun _ _ _ k => k) h t ht)

/-- Settles O60: no command but FEED_POWER_ON_FALL changes DEVSTATE from DEVICE_SAFE (`BedState.isSafe`), and that one
only when the last feed falls. -/
theorem deviceSafeIsLeftOnlyThroughOff : Obligations.DeviceSafeIsLeftOnlyThroughOff := by
  unfold Obligations.DeviceSafeIsLeftOnlyThroughOff
  intro s t hon hd ht
  have h : s.kept False True := ⟨False.elim, fun _ => ⟨hon, hd⟩⟩
  by_cases hp : ∃ x r, s.pending = .feedPowerOnFall x :: r
  · obtain ⟨x, r, hp⟩ := hp
    rw [step, hp] at ht
    exact State.execFeedPowerOnFall_safe_or_off (s := { s with pending := r }) h ht
  · exact .inl ((State.keeps_step (fun x r hx _ => hp ⟨x, r, hx⟩) h t ht).2 trivial).2
end Sys2Proof.Machine
end

section
/-! SUPPORT and SETTLED. The reset state (O3). -/
namespace Sys2Proof.Machine
open Sys2Proof

/-- A lane die that leaves its POR is held, has nothing pending, and its registers hold their reset values. -/
theorem lane_reset_values (x : Lane) :
    (LaneState.reset x).get (F.STR_CYCCFG_CYCLEN 0) = 1000 ∧ (LaneState.reset x).get (F.STR_CYCCFG_NSLOTS 1) = 8 ∧
    (LaneState.reset x).get (F.STR_SLOTTIM_SLOTLEN 0) = 100 ∧ (LaneState.reset x).get (F.sstAge 0 5) = 255 ∧
    (LaneState.reset x).get (F.CAN_NBT_TSEG1 1) = 127 ∧ (LaneState.reset x).rd R.ETH_TXRING = 0x10000000 := by
  cases x
  · exact ⟨by decide +kernel, by decide +kernel, by decide +kernel, by decide +kernel, by decide +kernel, by decide +kernel⟩
  · exact ⟨by decide +kernel, by decide +kernel, by decide +kernel, by decide +kernel, by decide +kernel, by decide +kernel⟩

theorem state_reset_lane (x : Lane) : State.reset.lane x = LaneState.reset x := by cases x <;> rfl

/-- Settles O3: nothing is listed in the memories, and the registers that the statement names are evaluated. -/
theorem resetState : Obligations.ResetState := by
  unfold Obligations.ResetState
  refine ⟨by decide, rfl, rfl, ⟨rfl, rfl⟩, fun x => ?_, by decide +kernel, by decide +kernel⟩
  rw [state_reset_lane]
  exact ⟨rfl, rfl, rfl, fun _ _ _ => rfl, lane_reset_values x⟩
end Sys2Proof.Machine
end

section
/-! SUPPORT and SETTLED. Staging and verdicts in the bridge die (O4, O5). -/
namespace Sys2Proof.Machine
open Sys2Proof

namespace BrgState
variable {s : BrgState} {x y : Lane} {n m : Nat} {c : Option Staged}

@[simp] theorem staged_setStaged_same : (s.setStaged x n c).staged x n = c := by
  cases x <;> exact Table.get_set_same _ _ _ _

theorem staged_setStaged_ne (h : y ≠ x ∨ m ≠ n) : (s.setStaged x n c).staged y m = s.staged y m := by
  rcases h with hy | hm
  · cases x <;> cases y
    exacts [absurd rfl hy, rfl, rfl, absurd rfl hy]
  · cases x <;> cases y
    exacts [Table.get_set_ne _ _ _ hm, rfl, rfl, Table.get_set_ne _ _ _ hm]

@[simp] theorem regs_setStaged : (s.setStaged x n c).regs = s.regs := by cases x <;> rfl
end BrgState

/-- Settles O4: the count is in Bedrock's register alone, the new command in the bridge die's staging alone. -/
theorem phaseCmdStages : Obligations.PhaseCmdStages := by
  unfold Obligations.PhaseCmdStages
  intro s l n arg u v w
  have ha : (F.ovwr l n.val).addr = R.BENV_OVWR n.val := by cases l <;> rfl
  have hw : (F.ovwr l n.val).width = 16 ∧ (F.ovwr l n.val).lo + (F.ovwr l n.val).width ≤ 32 := by
    cases l <;> simp [F.ovwr, byLane, F.BENV_OVWR_OVWRA, F.BENV_OVWR_OVWRB]
  refine ⟨_, rfl, ?_⟩
  unfold phaseCmd
  split
  · refine ⟨BrgState.staged_setStaged_same, fun y m h => BrgState.staged_setStaged_ne h, ?_, fun a h => ?_, rfl, rfl,
      BrgState.regs_setStaged⟩
    · exact (BedState.get_bump_same _ _ _ hw.2).trans (by rw [hw.1]; rfl)
    · exact BedState.rd_put_ne _ _ _ (ha ▸ h)
  · exact ⟨BrgState.staged_setStaged_same, fun y m h => BrgState.staged_setStaged_ne h, rfl, fun _ _ => rfl, rfl, rfl,
      BrgState.regs_setStaged⟩

/-- What a VERDICT does at one bridge (R24). -/
def State.verdictAt (l : Lane) (p : Half) (res : Verdict) (s : State) (b : Nat) : State :=
  if p.getLsbD b then
    match s.brg.staged l b with
    | some c => if c.duplex then s.modBrg (·.setStaged l b (some { c with verdict := res })) else s
    | none => s
  else s

namespace State
variable {l : Lane} {p : Half} {res v : Verdict} {s t : State} {b m : Nat} {c : Staged}

/-- What a VERDICT leaves: everything but the staging of its lane. -/
def verdictFrame (l : Lane) (s t : State) : Prop :=
  (∀ b, t.brg.staged l.peer b = s.brg.staged l.peer b) ∧ t.a = s.a ∧ t.b = s.b ∧ t.bed = s.bed

theorem verdictAt_frame (h : verdictFrame l s t) : verdictFrame l s (verdictAt l p res t m) := by
  obtain ⟨hp, ha, hb, hd⟩ := h
  have hl : l.peer ≠ l := by cases l <;> decide
  unfold verdictAt
  split
  · split
    · split
      · exact ⟨fun b => (BrgState.staged_setStaged_ne (.inl hl)).trans (hp b), ha, hb, hd⟩
      · exact ⟨hp, ha, hb, hd⟩
    · exact ⟨hp, ha, hb, hd⟩
  · exact ⟨hp, ha, hb, hd⟩

theorem foldl_verdictAt_frame {xs : List Nat} : verdictFrame l s (xs.foldl (verdictAt l p res) s) :=
  foldl_keeps (verdictFrame l s) (fun _ _ => verdictAt_frame) xs s ⟨fun _ => rfl, rfl, rfl, rfl⟩

/-- A VERDICT that covers a bridge goes through the eight of them. -/
theorem verdict_eq_foldl {arg : BitVec 9} (hn : p.toNat % 256 ≠ 0) :
    verdict l arg p s = (List.range 8).foldl
      (verdictAt l p (if arg.getLsbD 8 then (if p.getLsbD 8 then .disagree else .agree) else .none)) s := if_neg hn

/-- At the bridge itself the staged duplex command takes the result; at another it stays. -/
theorem verdictAt_staged (hc : c.duplex = true) (h : s.brg.staged l b = some { c with verdict := v }) :
    (verdictAt l p res s m).brg.staged l b =
      some { c with verdict := if m = b ∧ p.getLsbD b = true then res else v } := by
  unfold verdictAt
  by_cases hm : m = b
  · subst hm
    by_cases hp : p.getLsbD m = true
    · simp [hp, h, hc, State.modBrg]
    · simp [hp, h]
  · have hb : b ≠ m := fun e => hm e.symm
    simp only [hm, false_and, if_false]
    split
    · split
      · split
        · exact (BrgState.staged_setStaged_ne (.inr hb)).trans h
        · exact h
      · exact h
    · exact h

/-- A bridge among those that a VERDICT goes through takes its result. -/
theorem foldl_verdictAt_staged {xs : List Nat} (hb : b ∈ xs) (hp : p.getLsbD b = true) (hc : c.duplex = true)
    (h : s.brg.staged l b = some c) :
    (xs.foldl (verdictAt l p res) s).brg.staged l b = some { c with verdict := res } := by
  obtain ⟨pre, post, rfl⟩ := List.append_of_mem hb
  rw [List.foldl_append, List.foldl_cons]
  have hpre : ∃ v, (pre.foldl (verdictAt l p res) s).brg.staged l b = some { c with verdict := v } :=
    foldl_keeps (fun t : State => ∃ v, t.brg.staged l b = some { c with verdict := v })
      (fun _ _ ⟨_, h⟩ => ⟨_, verdictAt_staged hc h⟩) pre s ⟨c.verdict, h⟩
  obtain ⟨v, hv⟩ := hpre
  refine foldl_keeps (fun t : State => t.brg.staged l b = some { c with verdict := res }) (fun t m ht => ?_) post _ ?_
  · rw [verdictAt_staged hc ht, ite_self]
  · rw [verdictAt_staged hc hv, if_pos ⟨rfl, hp⟩]
end State

/-- A payload that names a bridge covers one. -/
theorem covers_of_bit {p : Half} {b : Nat} (hb : b < 8) (hp : p.getLsbD b = true) : p.toNat % 256 ≠ 0 := by
  intro h0
  have ht : (p.toNat % 2 ^ 8).testBit b = true := by rw [Nat.testBit_mod_two_pow, decide_eq_true hb]; exact hp
  rw [show p.toNat % 2 ^ 8 = 0 from h0, Nat.zero_testBit] at ht
  cases ht

/-- Settles O5: the bridges are gone through one by one, and each keeps what the others staged. -/
theorem verdictReachesStaging : Obligations.VerdictReachesStaging := by
  unfold Obligations.VerdictReachesStaging
  intro s l arg p b c
  refine ⟨fun hp h hc => ⟨_, rfl, ?_⟩, fun h0 h8 => ⟨_, rfl, ?_⟩⟩
  · rw [State.verdict_eq_foldl (covers_of_bit b.isLt hp)]
    obtain ⟨hpeer, ha, hb, hd⟩ := State.foldl_verdictAt_frame (l := l) (p := p) (s := s)
    exact ⟨State.foldl_verdictAt_staged (List.mem_range.mpr b.isLt) hp hc h, hpeer _, ha, hb, hd⟩
  · simp [verdict, h0, h8, State.bedRaise, State.modBed]
end Sys2Proof.Machine
end

section
/-! SUPPORT and SETTLED. Duplex comparison (O6). -/
namespace Sys2Proof.Machine
open Sys2Proof

namespace Links
variable {k : Links} {i : Nat} {o : Option DupOwn} {p : Option DupPeer}
@[simp] theorem own_setOwn : (k.setOwn i o).own i = o := Table.get_set_same _ _ _ _
@[simp] theorem peer_setPeer : (k.setPeer i p).peer i = p := Table.get_set_same _ _ _ _
@[simp] theorem own_setPeer {j : Nat} : (k.setPeer i p).own j = k.own j := rfl
@[simp] theorem peer_setOwn {j : Nat} : (k.setOwn i o).peer j = k.peer j := rfl
@[simp] theorem blDown_setPeer : (k.setPeer i p).blDown = k.blDown := rfl
@[simp] theorem blDown_setOwn : (k.setOwn i o).blDown = k.blDown := rfl
end Links

namespace LaneState
variable {l : LaneState}

/-- What a frame sent down adds to the wire, the comparisons staying. -/
theorem sendDown_wire {typ bridge arg : Nat} {pay : List Half} (hf : l.fencedBy .blink = false) (i : Nat) :
    ∃ t, (l.sendDown typ bridge arg pay).links.blDown = l.links.blDown ++ [blHeader typ bridge arg :: pay ++ [t]] ∧
      (l.sendDown typ bridge arg pay).links.own i = l.links.own i ∧
      (l.sendDown typ bridge arg pay).links.peer i = l.links.peer i := by
  refine ⟨blTrailer (blHeader typ bridge arg :: pay) l.blNext, ?_⟩
  unfold sendDown
  rw [if_neg (by simp [hf])]
  dsimp only
  rw [links_count]
  exact ⟨rfl, rfl, rfl⟩

/-- A VERDICT goes out as the last frame of the wire (R24, R30), the comparisons staying. -/
theorem sendVerdict_wire {slot covered : Nat} {compared diff : Bool} (hf : l.fencedBy .blink = false) (i : Nat) :
    ((l.sendVerdict slot covered compared diff).links.blDown.getLastD []).take 2 =
        [blHeader 2 0 (slot + 256 * bit compared), BitVec.ofNat 16 (covered + 256 * bit (compared && diff))] ∧
      (l.sendVerdict slot covered compared diff).links.blDown.length = l.links.blDown.length + 1 ∧
      (l.sendVerdict slot covered compared diff).links.own i = l.links.own i ∧
      (l.sendVerdict slot covered compared diff).links.peer i = l.links.peer i := by
  obtain ⟨t, hw, ho, hp⟩ := sendDown_wire (l := l) (typ := 2) (bridge := 0) (arg := slot + 256 * bit compared)
    (pay := [BitVec.ofNat 16 (covered + 256 * bit (compared && diff))]) hf i
  unfold sendVerdict
  rw [if_neg (by simp [hf])]
  dsimp only
  rw [links_count, links_bump, hw, ho, hp]
  exact ⟨by simp, by simp, rfl, rfl⟩

/-- The lane with its links replaced. -/
def withLinks (l : LaneState) (k : Links) : LaneState := { l with links := k }

@[simp] theorem links_withLinks {k : Links} : (l.withLinks k).links = k := rfl
@[simp] theorem mem_withLinks {k : Links} : (l.withLinks k).mem = l.mem := rfl
@[simp] theorem fencedBy_withLinks {k : Links} {u : FenceUnit} : (l.withLinks k).fencedBy u = l.fencedBy u := rfl

variable {slot : Nat} {o : DupOwn} {p : DupPeer}

/-- With no run of its own the comparison waits. -/
theorem dupCompare_waits (h : l.links.own slot = none) : l.dupCompare slot = l := by
  unfold dupCompare
  rw [h]

/-- With the lane's own run of the same rotation and FN at hand, a peer frame sends the VERDICT. -/
theorem dupCompare_received (ho : l.links.own slot = some o) (hr : o.rot = p.rot) (hf : o.fn = p.fn) :
    (l.withLinks (l.links.setPeer slot (some p))).dupCompare slot =
      (l.withLinks (((l.links.setPeer slot (some p)).setOwn slot none).setPeer slot none)).sendVerdict slot o.bridges true
        (o.outs ≠ p.outs) := by
  unfold dupCompare
  rw [links_withLinks, Links.own_setPeer, ho, Links.peer_setPeer]
  exact if_pos ⟨hr, hf⟩

end LaneState

/-- A command that is a change of one lane yields it. -/
theorem yieldsLane_of_onLane {c : Instr} {s : State} {x : Lane} {f : LaneState → LaneState} {l : LaneState}
    {P : LaneState → Prop} (hc : exec c s = onLane x f s) (hl : f (s.lane x) = l) (hp : P l) : yieldsLane x c s P :=
  ⟨l, hc.trans (by subst hl; rfl), hp⟩

/-- Settles O6: the four ways of DUPLEX_OUT_RECEIVED and VERDICT_DEADLINE, the VERDICT as the wire's last frame. -/
theorem duplexComparison : Obligations.DuplexComparison := by
  unfold Obligations.DuplexComparison
  intro s x slot rot fn outs o ha hu
  have hlive : ¬((!(s.lane x).alive) = true ∨ (!(s.lane x).llUp) = true) := by simp [ha, hu]
  refine ⟨fun hn => ?_, fun hn ho => ?_, fun hn ho hr hf _ hb => ?_, fun ho _ hb => ?_⟩
  · refine yieldsLane_of_onLane rfl ((if_neg hlive).trans (if_pos hn)) ⟨?_, by simp, by simp⟩
    rw [LaneState.get_irqPulse _ _ _ _ (by decide)]
    exact LaneState.get_bump_same _ _ _ (by decide)
  · refine yieldsLane_of_onLane rfl ((if_neg hlive).trans ((if_neg (not_not.mpr hn)).trans
      (LaneState.dupCompare_waits ho))) ⟨Links.peer_setPeer, rfl, rfl, rfl⟩
  · refine yieldsLane_of_onLane rfl ((if_neg hlive).trans ((if_neg (not_not.mpr hn)).trans
      (LaneState.dupCompare_received (p := ⟨rot, fn, outs⟩) ho hr hf))) ?_
    obtain ⟨hw, hl, hown, hpeer⟩ := LaneState.sendVerdict_wire (slot := slot.val) (covered := o.bridges) (compared := true)
      (diff := o.outs ≠ outs) (l := (s.lane x).withLinks ((((s.lane x).links.setPeer slot.val (some ⟨rot, fn, outs⟩)).setOwn
        slot.val none).setPeer slot.val none)) hb slot.val
    refine ⟨hown.trans (by simp), hpeer.trans (by simp), hw.trans ?_, hl⟩
    by_cases he : o.outs = outs <;> simp [bit, he]
  · refine yieldsLane_of_onLane (l := ((s.lane x).withLinks ((s.lane x).links.setOwn slot.val none)).sendVerdict
      slot.val o.bridges false false) rfl (by simp only [ho]; rfl) ?_
    obtain ⟨hw, hl, hown, -⟩ := LaneState.sendVerdict_wire (slot := slot.val) (covered := o.bridges) (compared := false)
      (diff := false) (l := (s.lane x).withLinks ((s.lane x).links.setOwn slot.val none)) hb slot.val
    exact ⟨hown.trans (by simp), hw.trans (by simp [bit]), hl⟩
end Sys2Proof.Machine
end

section
/-! SUPPORT and SETTLED. SYNC and the sender of the lane link (O10). -/
namespace Sys2Proof.Machine
open Sys2Proof

/-- The frame that R37 picks is a ready one. -/
theorem pickFrame_mem {fs : List LLFrame} {c : Nat} {next : Option Nat} {f : LLFrame} (h : pickFrame fs c next = some f) :
    f ∈ fs := by
  have hk : ∀ (xs : List LLFrame) (best : Option LLFrame), (∀ g ∈ xs, g ∈ fs) → (∀ b, best = some b → b ∈ fs) →
      ∀ b, xs.foldl (fun (best : Option LLFrame) f =>
        match best with
        | none => some f
        | some b => if f.rank < b.rank then some f else some b) best = some b → b ∈ fs := by
    intro xs
    induction xs with
    | nil => exact fun best _ hb b h => hb b h
    | cons g r ih =>
      intro best hx hb b h
      refine ih _ (fun k hk => hx k (List.mem_cons_of_mem _ hk)) (fun b' hb' => ?_) b h
      cases best with
      | none => exact Option.some.inj hb' ▸ hx g List.mem_cons_self
      | some b0 =>
        dsimp only at hb'
        split at hb'
        · exact Option.some.inj hb' ▸ hx g List.mem_cons_self
        · exact Option.some.inj hb' ▸ hb b0 rfl
  exact hk _ none (fun g hg => List.mem_of_mem_filter hg) (fun _ h => nomatch h) f h

namespace LaneState
variable {l : LaneState}

/-- What the start of a frame on the lane link does (R34, R37). -/
theorem frameStartLL_starts {c : Nat} {f : LLFrame} (hn : l.loop.framing = false)
    (hp : pickFrame l.links.ready c none = some f) :
    (l.frameStartLL c).links.llWire = l.links.llWire ++ [llWords f l.llNext] ∧
    (l.frameStartLL c).links.llSeq = (l.llNext + 1) % 16 ∧
    (l.frameStartLL c).links.ready.length + 1 = l.links.ready.length ∧
    (l.frameStartLL c).get F.LNK_LLTX_COUNT = min (l.get F.LNK_LLTX_COUNT + 1) 0xFFFFFFFF ∧
    (l.frameStartLL c).mem = l.mem := by
  have hm := pickFrame_mem hp
  have hlen : (l.links.ready.erase f).length + 1 = l.links.ready.length := by
    rw [List.length_erase_of_mem hm]
    have := List.length_pos_of_mem hm
    omega
  unfold frameStartLL
  extract_lets next k
  have hnext : pickFrame k.ready c next = some f := by
    rw [show next = none from if_neg (by simp [hn])]
    exact hp
  split
  · next h => rw [hnext] at h; cases h
  · next g h =>
    obtain rfl : f = g := Option.some.inj (hnext.symm.trans h)
    extract_lets rest late behind l1 l2 l3
    have h3 : l3.links = l1.links ∧ l3.mem = l.mem ∧ l3.get F.LNK_LLTX_COUNT = l.get F.LNK_LLTX_COUNT := by
      have h2 : l2.links = l1.links ∧ l2.mem = l.mem ∧ l2.get F.LNK_LLTX_COUNT = l.get F.LNK_LLTX_COUNT :=
        ⟨links_bump, mem_bump, get_bump_ne l1 _ _ _ (by decide)⟩
      by_cases hb : behind
      · rw [show l3 = l2.bump F.LNK_LLWAIT_DUPWAIT 1 from if_pos hb]
        exact ⟨links_bump.trans h2.1, mem_bump.trans h2.2.1, (get_bump_ne _ _ _ _ (by decide)).trans h2.2.2⟩
      · rw [show l3 = l2 from if_neg hb]
        exact h2
    obtain ⟨hlinks, hmem, hget⟩ := h3
    rw [links_count, links_bump, hlinks, mem_count, mem_bump, get_count _ _ _ _ (by decide), get_bump_same _ _ _ (by decide), hget]
    exact ⟨rfl, rfl, by simpa [l1] using hlen, rfl, hmem⟩

end LaneState

/-- Settles O10: SYNC's marks, the peer's SYNC, and the frame that starts. -/
theorem syncAndSending : Obligations.SyncAndSending := by
  unfold Obligations.SyncAndSending
  intro s x arg p lo hi cyc corr c f ha
  refine ⟨?_, fun hu => ?_, fun hf hn hp => ?_⟩
  · by_cases hr : (s.lane x).get (F.running P.LE) = 1
    · refine yieldsLane_of_onLane (l := (s.lane x).intervalDue.put F.LE_FRAMESTAT_SYNCED 1) rfl
        ((if_neg (by simp [ha])).trans (if_pos hr)) ⟨rfl, rfl, rfl, fun _ => ?_, fun a h => ?_, rfl⟩
      · exact LaneState.get_put_same _ _ _ (by decide)
      · exact LaneState.rd_put_ne _ _ _ h
    · exact yieldsLane_of_onLane (l := (s.lane x).intervalDue) rfl ((if_neg (by simp [ha])).trans (if_neg hr))
        ⟨rfl, rfl, rfl, fun h => absurd h hr, fun _ _ => rfl, rfl⟩
  · refine yieldsLane_of_onLane rfl (if_neg (by simp [ha, hu])) ⟨rfl, ?_, LaneState.rd_wr_same _ _ _, fun a h => ?_, rfl⟩
    · exact (LaneState.rd_wr_ne _ _ (by decide)).trans (LaneState.rd_wr_same _ _ _)
    · exact (LaneState.rd_wr_ne _ _ (fun e => h (.inr e))).trans (LaneState.rd_wr_ne _ _ (fun e => h (.inl e)))
  · exact yieldsLane_of_onLane rfl (if_pos (by simp [ha, hf])) (LaneState.frameStartLL_starts hn hp)
end Sys2Proof.Machine
end

section
/-! SUPPORT and SETTLED. The report of a receiver, and a link that goes down and comes up (O9). -/
namespace Sys2Proof.Machine
open Sys2Proof

namespace LaneState
variable {l : LaneState}

/-! A lasting cause. -/

@[simp] theorem mem_setLive {k u : Nat} {v : Bool} : (l.setLive k v u).mem = l.mem := by
  unfold setLive
  dsimp only
  split <;> rfl

@[simp] theorem links_setLive {k u : Nat} {v : Bool} : (l.setLive k v u).links = l.links := by
  unfold setLive
  dsimp only
  split <;> rfl

/-- A cause changes its source's registers alone. -/
theorem rd_setLive {k u a : Nat} {v : Bool} (hs : a ≠ R.FLT_SSTAT k) (hl : a ≠ R.FLT_LIVE (k / 32)) :
    (l.setLive k v u).rd a = l.rd a := by
  have h : ((l.put (F.FLT_SSTAT_LIVE k) (bit v)).put (F.liveBit k) (bit v)).rd a = l.rd a :=
    (rd_put_ne _ _ _ hl).trans (rd_put_ne _ _ _ hs)
  unfold setLive
  dsimp only
  split
  · exact h
  · exact h

theorem get_setLive_same (l : LaneState) (k u : Nat) (v : Bool) :
    (l.setLive k v u).get (F.FLT_SSTAT_LIVE k) = bit v := by
  have hne : (F.FLT_SSTAT_LIVE k).addr ≠ (F.liveBit k).addr := by
    simp only [F.FLT_SSTAT_LIVE, F.liveBit, R.FLT_SSTAT, R.FLT_LIVE]
    omega
  have h : ((l.put (F.FLT_SSTAT_LIVE k) (bit v)).put (F.liveBit k) (bit v)).get (F.FLT_SSTAT_LIVE k) = bit v := by
    rw [get_put_ne _ _ _ _ hne, get_put_same _ _ _ (by decide : 12 + 1 ≤ 32)]
    cases v <;> rfl
  unfold setLive
  dsimp only
  split
  · exact h
  · exact h

/-! The report of a receiver. -/

/-- The registers that a link's report may change. -/
def reported (k : LinkNames) : List Nat :=
  [k.lstat.addr, k.downs.addr, R.irqRaw P.LNK, R.irqStat P.LNK, R.FLT_SSTAT k.src, R.FLT_LIVE (k.src / 32)]

variable {k : LinkNames} {was now : LinkRx} {seen : Bool}

/-- What a link that goes down reports. -/
theorem linkReport_down (hw : was.down = false) (hn : now.down = true) :
    l.linkReport k was now seen =
      (((l.put k.lstat 0).bump k.downs 1).irqLevel P.LNK k.irq true).setLive k.src true 0 := by
  simp [linkReport, hw, hn]

/-- What a link that comes up again reports. -/
theorem linkReport_up (hw : was.down = true) (hn : now.down = false) :
    l.linkReport k was now seen = ((l.put k.lstat 1).irqLevel P.LNK k.irq false).setLive k.src false 0 := by
  simp [linkReport, hw, hn]

/-- What a link that stays as it is reports. -/
theorem linkReport_still (h : was.down = now.down) :
    l.linkReport k was now seen = if !now.down && seen && l.get k.lstat == 0 then l.put k.lstat 1 else l := if_pos h

/-- A report is one of three, whatever holds of it case by case. -/
theorem linkReport_cases (Q : LaneState → Prop)
    (hd : Q ((((l.put k.lstat 0).bump k.downs 1).irqLevel P.LNK k.irq true).setLive k.src true 0))
    (hu : Q (((l.put k.lstat 1).irqLevel P.LNK k.irq false).setLive k.src false 0)) (h1 : Q (l.put k.lstat 1)) (h0 : Q l) :
    Q (l.linkReport k was now seen) := by
  unfold linkReport
  split
  · split
    · exact h1
    · exact h0
  · split
    · exact hd
    · exact hu

@[simp] theorem mem_linkReport : (l.linkReport k was now seen).mem = l.mem :=
  linkReport_cases (fun m => m.mem = l.mem) (by simp) (by simp) rfl rfl

@[simp] theorem links_linkReport : (l.linkReport k was now seen).links = l.links :=
  linkReport_cases (fun m => m.links = l.links) (by simp) (by simp) rfl rfl

theorem rd_linkReport {a : Nat} (h : a ∉ reported k) : (l.linkReport k was now seen).rd a = l.rd a := by
  simp only [reported, List.mem_cons, List.not_mem_nil, or_false, not_or] at h
  obtain ⟨hk, hd, hr, hs, hf, hl⟩ := h
  refine linkReport_cases (fun m => m.rd a = l.rd a) ?_ ?_ (rd_put_ne _ _ _ hk) rfl
  · rw [rd_setLive hf hl, rd_irqLevel _ _ _ _ hr hs, rd_bump_ne _ _ _ hd, rd_put_ne _ _ _ hk]
  · rw [rd_setLive hf hl, rd_irqLevel _ _ _ _ hr hs, rd_put_ne _ _ _ hk]

theorem get_linkReport {f : Fld} (h : f.addr ∉ reported k) : (l.linkReport k was now seen).get f = l.get f := by
  rw [get_eq_rd, rd_linkReport h, ← get_eq_rd]

/-! The receivers of the two links. -/

variable {r : LinkRx}

@[simp] theorem mem_llState : (l.llState r seen).mem = l.mem := mem_linkReport
@[simp] theorem mem_blState : (l.blState r seen).mem = l.mem := mem_linkReport
@[simp] theorem llRx_llState : (l.llState r seen).links.llRx = r := by
  rw [llState, links_linkReport]
  rfl
@[simp] theorem blRx_blState : (l.blState r seen).links.blRx = r := by
  rw [blState, links_linkReport]
  rfl

/-- A lane link that goes down (R36, R39, R40). -/
theorem llState_down (hw : l.links.llRx.down = false) (hn : r.down = true) :
    (l.llState r seen).get F.LNK_LSTAT_LLUP = 0 ∧ (l.llState r seen).get (F.FLT_SSTAT_LIVE 50) = 1 ∧
      (l.llState r seen).get F.LNK_DOWNCNT_LLDOWN = min (l.get F.LNK_DOWNCNT_LLDOWN + 1) 0xFFFF := by
  rw [show l.llState r seen = _ from linkReport_down hw hn]
  refine ⟨?_, get_setLive_same _ _ _ _, ?_⟩
  · rw [get_eq_rd, rd_setLive (by decide) (by decide), rd_irqLevel _ _ _ _ (by decide) (by decide), ← get_eq_rd,
      get_bump_ne _ _ _ _ (by decide)]
    exact get_put_same _ _ _ (by decide)
  · rw [get_eq_rd, rd_setLive (by decide) (by decide), rd_irqLevel _ _ _ _ (by decide) (by decide), ← get_eq_rd]
    exact (get_bump_same _ _ _ (by decide)).trans (by rw [get_put_ne _ _ _ _ (by decide)]; rfl)

/-- A lane link that comes up again (R532). -/
theorem llState_up (hw : l.links.llRx.down = true) (hn : r.down = false) :
    (l.llState r seen).get F.LNK_LSTAT_LLUP = 1 ∧ (l.llState r seen).get (F.FLT_SSTAT_LIVE 50) = 0 := by
  rw [show l.llState r seen = _ from linkReport_up hw hn]
  refine ⟨?_, get_setLive_same _ _ _ _⟩
  rw [get_eq_rd, rd_setLive (by decide) (by decide), rd_irqLevel _ _ _ _ (by decide) (by decide), ← get_eq_rd]
  exact get_put_same _ _ _ (by decide)

end LaneState

/-- Settles O9: what the receiver's report does as the link goes down and comes up. -/
theorem linkUpAndDown : Obligations.LinkUpAndDown := by
  unfold Obligations.LinkUpAndDown
  intro s x ha
  refine ⟨fun hd => ?_, fun hdue => ?_, ?_⟩
  · obtain ⟨hup, hlive, hcnt⟩ := LaneState.llState_down (l := s.lane x) (r := (s.lane x).links.llRx.fail) (seen := false) hd rfl
    exact yieldsLane_of_onLane rfl (if_pos ha)
      ⟨hup, hlive, by rw [LaneState.llRx_llState]; rfl, hcnt, LaneState.mem_llState⟩
  · refine yieldsLane_of_onLane rfl (if_pos hdue) ?_
    rw [LaneState.llRx_llState]
    refine ⟨rfl, rfl, rfl, fun hd hw hn => ?_⟩
    have hup : (s.lane x).links.llRx.interval.down = false := by simp [LinkRx.interval, hd, hw, hn]
    exact ⟨hup, LaneState.llState_up hd hup⟩
  · exact yieldsLane_of_onLane (l := (s.lane x).intervalDue.put F.LE_FRAMESTAT_SYNCED 0) rfl (if_pos ha)
      ⟨LaneState.get_put_same _ _ _ (by decide), rfl, rfl, fun a h => LaneState.rd_put_ne _ _ _ h, rfl⟩
end Sys2Proof.Machine
end

section
/-! SUPPORT. What Bedrock may do to a lane while it follows an event of its own. -/
namespace Sys2Proof.Machine
open Sys2Proof

/-- An address outside the page of the links. -/
def offLink (a : Nat) : Prop := a < P.LNK ∨ P.LNK + 0x1000 ≤ a

/-- What Bedrock leaves of a lane while it follows an event of its own: the memory, the receiver of the bridge link and
the registers of the link page. -/
structure LaneState.calm (l m : LaneState) : Prop where
  mem : m.mem = l.mem
  rx : m.links.blRx = l.links.blRx
  regs : ∀ a, inPage P.LNK a → m.rd a = l.rd a

namespace LaneState
variable {l m n : LaneState}

theorem calm_refl : calm l l := ⟨rfl, rfl, fun _ _ => rfl⟩

theorem calm_get (h : calm l m) {f : Fld} (hf : inPage P.LNK f.addr) : m.get f = l.get f := by
  rw [get_eq_rd, h.regs _ hf, ← get_eq_rd]

theorem calm_ite {c : Prop} [Decidable c] (h : calm l m) (h' : calm l n) : calm l (if c then m else n) := by
  split
  exacts [h, h']

theorem ne_of_offLink {a b : Nat} (hb : offLink b) (ha : inPage P.LNK a) : a ≠ b := by
  rintro rfl
  obtain ⟨h1, h2⟩ := ha
  obtain h | h := hb
  · omega
  · omega

/-- What is not read of a lane, and what is read the same. -/
theorem calm_of_eq (h : calm l m) (hm : n.mem = m.mem) (hx : n.links.blRx = m.links.blRx) (hr : n.regs = m.regs) : calm l n :=
  ⟨hm.trans h.mem, hx.trans h.rx, fun a ha => (congrArg (RegFile.rd · a) hr).trans (h.regs a ha)⟩

theorem calm_wr {a : Nat} {w : Word} (ha : offLink a) (h : calm l m) : calm l (m.wr a w) :=
  ⟨h.mem, h.rx, fun _ hb => (rd_wr_ne _ _ (ne_of_offLink ha hb)).trans (h.regs _ hb)⟩

theorem calm_put {f : Fld} {v : Nat} (hf : offLink f.addr) (h : calm l m) : calm l (m.put f v) :=
  ⟨h.mem, h.rx, fun _ hb => (rd_put_ne _ _ _ (ne_of_offLink hf hb)).trans (h.regs _ hb)⟩

theorem calm_irqPulse {b : Nat} {w : Word} (hb : offLink (R.irqStat b)) (h : calm l m) : calm l (m.irqPulse b w) :=
  ⟨by simpa using h.mem, by simpa using h.rx, fun _ ha => (rd_irqPulse _ _ _ (ne_of_offLink hb ha)).trans (h.regs _ ha)⟩

theorem calm_mergeMsgs {k : Nat} (h : calm l m) : calm l (m.mergeMsgs k) := calm_of_eq h rfl rfl rfl

theorem calm_leaveDoze (h : calm l m) : calm l m.leaveDoze := calm_ite (calm_put (.inl (by decide)) h) h

theorem calm_aplicForward {i : Nat} (h : calm l m) : calm l (m.aplicForward i) := by
  unfold aplicForward
  dsimp only
  have h1 : calm l (m.wr R.APLIC_SETIP (m.rd R.APLIC_SETIP &&& ~~~mbit i)) := calm_wr (.inl (by decide)) h
  exact calm_ite (calm_ite h1 (calm_of_eq h1 rfl rfl rfl)) h

theorem calm_aplicPend {i : Nat} (h : calm l m) : calm l (m.aplicPend i) :=
  calm_aplicForward (calm_wr (.inl (by decide)) (calm_leaveDoze h))

theorem calm_aplicLevel {i : Nat} {v : Bool} (h : calm l m) : calm l (m.aplicLevel i v) := by
  unfold aplicLevel
  extract_lets was l1 sm
  have h1 : calm l l1 := calm_of_eq h rfl rfl rfl
  exact calm_ite h1 (calm_ite (calm_aplicPend h1) h1)

theorem calm_aplicPulse {i : Nat} (h : calm l m) : calm l (m.aplicPulse i) := calm_aplicLevel (calm_aplicLevel h)

theorem calm_sendPlace {kind : Nat} {pay : List Word} (h : calm l m) : calm l (m.sendPlace kind pay) :=
  calm_ite h (calm_of_eq h rfl rfl rfl)

theorem calm_arise {k : Nat} {late : Bool} (h : calm l m) : calm l (m.arise k late) := by
  unfold arise
  extract_lets v v1 l1
  have h1 : calm l l1 := calm_ite (calm_put (.inl (by decide)) (calm_of_eq h rfl rfl rfl)) (calm_of_eq h rfl rfl rfl)
  exact calm_ite h1 (calm_sendPlace h1)

theorem calm_trigger {k : Nat} (h : calm l m) : calm l (m.trigger k) :=
  calm_ite (calm_arise h) (calm_arise (calm_of_eq h rfl rfl rfl))

theorem calm_mirrorsOf {s : State} (h : calm l m) : calm l (s.mirrorsOf m) := by
  unfold State.mirrorsOf
  extract_lets f m1 m2 same m3 m4
  have hs : offLink R.SYS_SIMIR := .inl (by decide)
  have h1 : calm l m1 := List.foldlRecOn _ _ h fun _ hb _ _ => calm_put hs (calm_put hs hb)
  have h4 : calm l m4 := calm_put (.inl (by decide)) (calm_put (.inl (by decide)) (calm_put (.inl (by decide))
    (calm_put (.inl (by decide)) h1)))
  exact calm_ite h4 (calm_irqPulse (.inl (by decide)) h4)

end LaneState

/-- Both lanes are as calm leaves them. -/
def State.calm (s t : State) : Prop := s.a.calm t.a ∧ s.b.calm t.b

namespace State
open LaneState
variable {s t u : State}

theorem calm_refl : calm s s := ⟨LaneState.calm_refl, LaneState.calm_refl⟩

theorem calm_lane (h : calm s t) (x : Lane) : (s.lane x).calm (t.lane x) := by
  cases x
  exacts [h.1, h.2]

theorem calm_ite {c : Prop} [Decidable c] (h : calm s t) (h' : calm s u) : calm s (if c then t else u) := by
  split
  exacts [h, h']

theorem calm_foldl {α : Type} {f : State → α → State} {xs : List α} (hf : ∀ m a, calm s m → calm s (f m a)) (h : calm s t) :
    calm s (xs.foldl f t) := foldl_keeps (calm s) hf xs t h

theorem calm_modLanes {f : LaneState → LaneState} (hf : ∀ l m, LaneState.calm l m → LaneState.calm l (f m)) (h : calm s t) :
    calm s (t.modLanes f) := ⟨hf _ _ h.1, hf _ _ h.2⟩

theorem calm_modLane {x : Lane} {f : LaneState → LaneState} (hf : ∀ l m, LaneState.calm l m → LaneState.calm l (f m))
    (h : calm s t) : calm s (t.modLane x f) := by
  cases x
  exacts [⟨hf _ _ h.1, h.2⟩, ⟨h.1, hf _ _ h.2⟩]

/-- A change of Bedrock or of the bridge die is none of a lane. -/
theorem calm_modBed {f : BedState → BedState} (h : calm s t) : calm s (t.modBed f) := h
theorem calm_modBrg {f : BrgState → BrgState} (h : calm s t) : calm s (t.modBrg f) := h

theorem calm_irqPulseBoth {b : Nat} {w : Word} (hb : offLink (R.irqStat b)) (h : calm s t) : calm s (t.irqPulseBoth b w) :=
  calm_modLanes (fun _ _ => calm_irqPulse hb) h

theorem calm_oneCycle {f : State → State} (h : calm s (f t)) : calm s (t.oneCycle f) :=
  ⟨calm_mergeMsgs h.1, calm_mergeMsgs h.2⟩

/-! The bridge die. -/

theorem calm_sendUp {x : Lane} {typ n arg : Nat} {pay : List Half} (h : calm s t) : calm s (t.sendUp x typ n arg pay) :=
  calm_modLane (fun _ _ h => calm_of_eq h rfl rfl rfl) (calm_modBrg h)

theorem calm_sendUpBoth {typ n arg : Nat} {pay : List Half} (h : calm s t) : calm s (t.sendUpBoth typ n arg pay) :=
  calm_sendUp (calm_sendUp h)

theorem calm_sendStatus {n : Nat} (h : calm s t) : calm s (t.sendStatus n) := calm_modBrg (calm_sendUpBoth h)

theorem calm_statusCheck {n : Nat} (h : calm s t) : calm s (t.statusCheck n) := calm_ite (calm_sendStatus h) h

theorem calm_rankUpdate {n : Nat} (h : calm s t) : calm s (t.rankUpdate n) := by
  unfold rankUpdate
  extract_lets _ _ s1 _ _ s2 _ s3 _ s4
  have h1 : calm s s1 := calm_ite (calm_modBrg h) h
  have h3 : calm s s3 := calm_modBrg (calm_ite (calm_modBrg h1) h1)
  exact calm_statusCheck (calm_ite (calm_modBrg (calm_modBrg h3)) h3)

/-! Bedrock. -/

theorem calm_attention (h : calm s t) : calm s t.attention := calm_modLanes (fun _ _ => calm_aplicPulse) h

theorem calm_dropRequests (h : calm s t) : calm s t.dropRequests := calm_foldl (fun _ _ h => calm_ite (calm_modBrg h) h) h

theorem calm_overrideUpdate (h : calm s t) : calm s t.overrideUpdate :=
  calm_foldl (fun _ _ h => calm_ite (calm_rankUpdate h) h) h

theorem calm_setDev {v : Nat} (h : calm s t) : calm s (t.setDev v) := by
  have h1 : calm s ((t.bput F.BSYS_DEVSTAT_DEVSTATE v).irqPulseBoth P.BSYS (mbit 0)).attention :=
    calm_attention (calm_irqPulseBoth (.inr (by decide)) (calm_modBed h))
  exact calm_ite h (calm_overrideUpdate (calm_ite (calm_dropRequests h1) h1))

theorem calm_sendSelect (h : calm s t) : calm s t.sendSelect := calm_ite h (calm_modBed h)

theorem calm_reselect {d : Nat} (h : calm s t) : calm s (t.reselect d) := calm_sendSelect (calm_modBed h)

theorem calm_leaseTrigger {d : Nat} (h : calm s t) : calm s (t.leaseTrigger d) :=
  calm_modLanes (fun _ _ h => LaneState.calm_ite (calm_trigger h) h) h

theorem calm_enterBreak {d cause : Nat} (h : calm s t) : calm s (t.enterBreak d cause) := by
  unfold enterBreak
  extract_lets _ s1 s2 s3 s4 s5
  have h5 : calm s s5 := calm_modBed (calm_modBed (calm_modBed (calm_modBed (calm_modBed h))))
  exact calm_reselect (calm_leaseTrigger (calm_modBed (calm_modBed h5)))

theorem calm_terminalCheck {d : Nat} (h : calm s t) : calm s (t.terminalCheck d) := calm_ite (calm_reselect (calm_modBed h)) h

theorem calm_evGo {e v : Nat} (h : calm s t) : calm s (t.evGo e v) :=
  calm_ite h (calm_irqPulseBoth (.inr (by decide)) (calm_modBed h))

theorem calm_lockout {e cause : Nat} (h : calm s t) : calm s (t.lockout e cause) :=
  calm_ite (calm_modBed h) (calm_ite h (calm_irqPulseBoth (.inr (by decide)) (calm_modBed (calm_evGo h))))

theorem calm_pathUpdate (h : calm s t) : calm s t.pathUpdate := by
  unfold pathUpdate
  extract_lets upd s2
  have hu : ∀ m x, calm s m → calm s (upd m x) := fun _ _ h =>
    calm_ite h (calm_irqPulseBoth (.inr (by decide)) (calm_modBed h))
  exact calm_modBed (hu _ _ (hu _ _ h))

theorem calm_outputUpdate (h : calm s t) : calm s t.outputUpdate :=
  calm_ite h (calm_modLanes (fun _ _ h => LaneState.calm_ite (calm_mirrorsOf h) h) (calm_modBed h))

theorem calm_demandUpdate (h : calm s t) : calm s t.demandUpdate := calm_outputUpdate (calm_pathUpdate (calm_modBed h))

theorem calm_deviceSafe {cause : Nat} (h : calm s t) : calm s (t.deviceSafe cause) := by
  refine calm_ite (calm_oneCycle (calm_sendSelect (calm_demandUpdate ?_))) h
  have h1 := calm_setDev (v := Dev.safe) (calm_foldl (xs := List.range 8)
    (f := fun (s : State) d => if (s.holderOf d).isSome then s.leaseTrigger d else s)
    (fun _ _ h => calm_ite (calm_leaseTrigger h) h) h)
  exact calm_foldl (fun _ _ => calm_lockout) (calm_foldl (fun _ _ h => calm_modBed h) (calm_modBed h1))

theorem calm_loseCapable {x : Lane} (h : calm s t) : calm s (t.loseCapable x) :=
  calm_foldl (fun _ _ h => calm_ite (calm_enterBreak (calm_modBed h)) (calm_modBed h)) h

/-- Bedrock's view of both lanes' capability leaves the lanes calm. -/
theorem calm_capUpdate (h : calm s t) : calm s t.capUpdate := by
  unfold capUpdate
  extract_lets upd s2
  have hu : ∀ m x, calm s m → calm s (upd m x) := fun _ _ h =>
    calm_ite h (calm_ite (calm_modBed h) (calm_loseCapable (calm_modBed h)))
  have h2 : calm s s2 := hu _ _ (hu _ _ h)
  exact calm_ite h (calm_ite (calm_deviceSafe h2) h2)

end State
end Sys2Proof.Machine
end

section
/-! SUPPORT and SETTLED. Receivers of the two links (O8). -/
namespace Sys2Proof.Machine
open Sys2Proof

namespace LinkRx
variable {r : LinkRx} {m seq : Nat} {crc d : Bool}

/-! The checks of R33 and R36, in their order. -/

theorem check_accepts (hs : seq = r.expect) :
    r.check m true true seq true = ({ r with expect := (r.expect + 1) % m }, none) := by
  simp [check, hs]
theorem check_parity : r.check m false crc seq d = ({ r with expect := (r.expect + 1) % m }, some .par) := rfl
theorem check_crc : r.check m true false seq d = ({ r with expect := (r.expect + 1) % m }, some .crc) := rfl

@[simp] theorem discards_discarded : r.discarded.discards = r.discards + 1 := by
  unfold discarded
  dsimp only
  split <;> rfl
@[simp] theorem expect_discarded : r.discarded.expect = r.expect := by
  unfold discarded
  dsimp only
  split <;> rfl

/-- The fourth discard of an interval takes the link down. -/
theorem down_discarded : r.discarded.down = (r.down || decide (4 ≤ r.discards + 1)) := by
  unfold discarded
  dsimp only
  split
  · next h => simp [fail, h]
  · next h => simp [h]

end LinkRx

namespace LaneState
variable {l : LaneState}

@[simp] theorem mem_discardLog {f : Fld} {i k : Nat} : (l.discardLog f i k).mem = l.mem := by simp [discardLog]
@[simp] theorem links_discardLog {f : Fld} {i k : Nat} : (l.discardLog f i k).links = l.links := by simp [discardLog]

/-- A discard is counted in its field, whose register is no interrupt or event register of the link page. -/
theorem get_discardLog {f : Fld} {i k : Nat} (hw : f.lo + f.width ≤ 32) (hi : f.addr ≠ R.irqStat P.LNK)
    (he : f.addr ≠ R.evtCnt P.LNK) : (l.discardLog f i k).get f = min (l.get f + 1) (2 ^ f.width - 1) := by
  rw [discardLog, get_count _ _ _ _ he, get_raise, get_irqPulse _ _ _ _ hi, get_bump_same _ _ _ hw]

/-! The bridge link. -/

variable {ws : List Half}

theorem blFrame_accepts (hc : blCrcOk ws = true) (hs : (ws.getLastD 0).toNat / 256 = l.links.blRx.expect)
    (ht : 0 < blType (ws.headD 0)) (hd : (blLen (blType (ws.headD 0))).isSome = true) :
    (l.blFrame ws true).get F.LNK_BLRX_COUNT = min (l.get F.LNK_BLRX_COUNT + 1) 0xFFFFFFFF ∧
    (l.blFrame ws true).links.blRx.expect = (l.links.blRx.expect + 1) % 256 ∧ (l.blFrame ws true).mem = l.mem := by
  have he : l.blFrame ws true =
      ((l.blState { l.links.blRx with expect := (l.links.blRx.expect + 1) % 256 } true).bump F.LNK_BLRX_COUNT
        1).count P.LNK 4 := by
    unfold blFrame
    dsimp only
    rw [hc, hd, LinkRx.check_accepts hs]
    exact if_neg (by omega)
  rw [he]
  refine ⟨?_, by simp, by simp⟩
  rw [get_count _ _ _ _ (by decide), get_bump_same _ _ _ (by decide), blState, get_linkReport (by decide)]
  rfl

theorem blFrame_parity :
    (l.blFrame ws false).get F.LNK_BLDISC_PAR = min (l.get F.LNK_BLDISC_PAR + 1) 0xFF ∧
    (l.blFrame ws false).links.blRx.discards = l.links.blRx.discards + 1 ∧
    (l.blFrame ws false).links.blRx.expect = (l.links.blRx.expect + 1) % 256 ∧
    (l.blFrame ws false).links.blRx.down = (l.links.blRx.down || decide (4 ≤ l.links.blRx.discards + 1)) ∧
    (l.blFrame ws false).mem = l.mem := by
  have he : l.blFrame ws false = (l.discardLog F.LNK_BLDISC_PAR 3 53).blState
      (LinkRx.discarded { l.links.blRx with expect := (l.links.blRx.expect + 1) % 256 }) false := rfl
  rw [he, blRx_blState, mem_blState, mem_discardLog, LinkRx.discards_discarded,
    LinkRx.expect_discarded, LinkRx.down_discarded]
  refine ⟨?_, rfl, rfl, rfl, rfl⟩
  rw [blState, get_linkReport (by decide)]
  exact get_discardLog (by decide) (by decide) (by decide)

/-! The lane link. -/

variable {ls : List Word}

theorem llFrame_accepts (hc : llCrcOk ls = true) (hs : llSeqOf (ls.headD 0) = l.links.llRx.expect)
    (ht : 0 < llType (ls.headD 0)) (hd : llType (ls.headD 0) < 8) :
    (l.llFrame ls true).get F.LNK_LLRX_COUNT = min (l.get F.LNK_LLRX_COUNT + 1) 0xFFFFFFFF ∧
    (l.llFrame ls true).get F.LNK_LSTAT_LLSEEN = 1 ∧
    (l.llFrame ls true).links.llRx.expect = (l.links.llRx.expect + 1) % 16 ∧ (l.llFrame ls true).mem = l.mem := by
  have he : l.llFrame ls true =
      ((((l.llState { l.links.llRx with expect := (l.links.llRx.expect + 1) % 16 } true).put F.LNK_LSTAT_LLSEEN 1).bump
        F.LNK_LLRX_COUNT 1).count P.LNK 2) := by
    unfold llFrame
    dsimp only
    rw [hc, decide_eq_true hd, LinkRx.check_accepts hs]
    exact if_neg (by omega)
  rw [he]
  refine ⟨?_, ?_, by simp, by simp⟩
  · rw [get_count _ _ _ _ (by decide), get_bump_same _ _ _ (by decide), get_put_ne _ _ _ _ (by decide), llState,
      get_linkReport (by decide)]
    rfl
  · rw [get_count _ _ _ _ (by decide), get_bump_ne _ _ _ _ (by decide)]
    exact get_put_same _ _ _ (by decide)

theorem llFrame_crc (hc : llCrcOk ls = false) :
    (l.llFrame ls true).get F.LNK_LLDISC_CRC = min (l.get F.LNK_LLDISC_CRC + 1) 0xFF ∧
    (l.llFrame ls true).links.llRx.discards = l.links.llRx.discards + 1 ∧ (l.llFrame ls true).mem = l.mem := by
  have he : l.llFrame ls true = (l.discardLog F.LNK_LLDISC_CRC 2 52).llState
      (LinkRx.discarded { l.links.llRx with expect := (l.links.llRx.expect + 1) % 16 }) false := by
    unfold llFrame
    dsimp only
    rw [hc, LinkRx.check_crc]
    rfl
  rw [he, llRx_llState, mem_llState, mem_discardLog, LinkRx.discards_discarded]
  refine ⟨?_, rfl, rfl⟩
  rw [llState, get_linkReport (by decide)]
  exact get_discardLog (by decide) (by decide) (by decide)

end LaneState

/-- A lane-link frame changes the receiving lane, and the peer's wire. -/
theorem yields_laneLinkFrame {s : State} {x : Lane} {ls : List Word} {p : Bool} {Q : State → Prop}
    (ha : (s.lane x).alive = true)
    (hQ : ∀ t : State, t.lane x = (s.lane x).llFrame ls p → t.bed = s.bed → t.brg = s.brg → Q t) :
    yields (.laneLinkFrameReceived x ls p) s Q := by
  refine ⟨_, rfl, hQ _ ?_ ?_ ?_⟩
  · rw [State.lane_modLane_same]
    have hp : ∀ f, (s.modLane x.peer f).lane x = s.lane x := fun f => by cases x <;> rfl
    rw [hp]
    exact if_pos ha
  · rw [State.bed_modLane, State.bed_modLane]
  · rw [State.brg_modLane, State.brg_modLane]

/-- The lane once the frames of the wire through `ws` have arrived. -/
def LaneState.arrived (l : LaneState) (ws : List Half) : LaneState :=
  { l with links := { l.links with blUp := dropThrough (fun fr => fr.dropLast == ws.dropLast) l.links.blUp } }

/-- A bridge-link frame that goes up changes the receiving lane; what Bedrock makes of it leaves the lane calm. -/
theorem yields_bridgeLinkFrame {s : State} {x : Lane} {ws : List Half} {p : Bool} {Q : State → Prop}
    (ha : (s.lane x).alive = true)
    (hQ : ∀ t : State, (((s.lane x).arrived ws).blFrame ws p).calm (t.lane x) → Q t) :
    yields (.bridgeLinkFrameReceived x true ws p) s Q := by
  have hn : ¬(!(s.lane x).alive) = true := by simp [ha]
  have hl : ∀ f : LaneState → LaneState, f (s.lane x) = ((s.lane x).arrived ws).blFrame ws p →
      (((s.lane x).arrived ws).blFrame ws p).calm ((s.modLane x f).capUpdate.lane x) := fun f hf => by
    have hc := State.calm_lane (State.calm_capUpdate (State.calm_refl (s := s.modLane x f))) x
    rwa [State.lane_modLane_same, hf] at hc
  exact ⟨_, rfl, hQ _ (hl _ (if_neg hn))⟩

/-- Settles O8: each receiver's frame that passes and one that fails, carried through Bedrock's calm. -/
theorem receiversCheckFrames : Obligations.ReceiversCheckFrames := by
  unfold Obligations.ReceiversCheckFrames
  intro s x ws ls ha
  refine ⟨fun hc hs ht hd => ?_, ?_, fun hc hs ht hd => ?_, fun hc => ?_⟩
  · refine yields_bridgeLinkFrame ha fun t hcalm => ?_
    obtain ⟨hget, hexp, hmem⟩ := LaneState.blFrame_accepts (l := (s.lane x).arrived ws) hc hs ht hd
    exact ⟨(LaneState.calm_get hcalm ⟨by decide, by decide⟩).trans hget,
      (congrArg LinkRx.expect hcalm.rx).trans hexp, hcalm.mem.trans hmem⟩
  · refine yields_bridgeLinkFrame ha fun t hcalm => ?_
    obtain ⟨hget, hdis, hexp, hdown, hmem⟩ := LaneState.blFrame_parity (l := (s.lane x).arrived ws) (ws := ws)
    rw [hcalm.rx, hcalm.mem]
    exact ⟨(LaneState.calm_get hcalm ⟨by decide, by decide⟩).trans hget, hdis, hexp, hdown, hmem⟩
  · refine yields_laneLinkFrame ha fun t hl hbed hbrg => ?_
    obtain ⟨hget, hseen, hexp, hmem⟩ := LaneState.llFrame_accepts hc hs ht hd
    rw [hl]
    exact ⟨hget, hseen, hexp, hmem, hbed, hbrg⟩
  · refine yields_laneLinkFrame ha fun t hl hbed hbrg => ?_
    obtain ⟨hget, hdis, hmem⟩ := LaneState.llFrame_crc hc (l := s.lane x)
    rw [hl]
    exact ⟨hget, hdis, hmem, hbed, hbrg⟩
end Sys2Proof.Machine
end

section
/-! SUPPORT and SETTLED. Feeds and gate supplies (O27). -/
namespace Sys2Proof.Machine
open Sys2Proof

/-- DRIVE without a gate supply, while a terminal request of bridge 0 waits for its boundary (R259). -/
def requestWaits : State :=
  (((State.reset.bput F.BSYS_DEVSTAT_DEVSTATE Dev.drive).bput (F.vgd .A) 0).bput (F.vgd .B) 0).modUnit 0
    fun u => { u with treq := true }

/-- Entering DEVICE_SAFE drops the request that waits: it acts in DRIVE only (R259). -/
theorem requestWaits_deviceSafe : ((requestWaits.deviceSafe 4).unit 0).treq = false := by decide +kernel

/-- Refutes O27: in DRIVE a terminal request may wait for its boundary; the loss of both gate supplies drops it, which
changes the bridge die. -/
theorem not_feedsAndSupplies : ¬ Obligations.FeedsAndSupplies := by
  unfold Obligations.FeedsAndSupplies
  intro h
  obtain ⟨-, -, -, -, -, -, hlost, -⟩ := h requestWaits .A false false
  obtain ⟨t, ht, -, -, hbrg⟩ := hlost (by decide +kernel) (by decide +kernel) (.inr (by decide +kernel))
  have hsup : requestWaits.noGateSupply = true := by decide +kernel
  obtain rfl : requestWaits.deviceSafe 4 = t := by
    have he : exec .gateSuppliesLostTimeout requestWaits =
        done (if requestWaits.noGateSupply then requestWaits.deviceSafe 4 else requestWaits) := rfl
    rw [he, if_pos hsup] at ht
    exact Host.Outcome.next.inj ht
  have hdrop := requestWaits_deviceSafe
  rw [State.unit, hbrg] at hdrop
  exact absurd hdrop (by decide +kernel)
end Sys2Proof.Machine
end

section
/-! SUPPORT. What a drive leaves of its bridge. -/
namespace Sys2Proof.Machine
open Sys2Proof

namespace BrgState
variable {b c d : BrgState} {n : Nat}

theorem rd_count {p k a : Nat} (h : a ≠ R.evtCnt p) : (b.count p k).rd a = b.rd a := by
  unfold count
  split
  · exact rd_wr_ne _ _ h
  · rfl

/-! What a drive leaves of its bridge. -/

/-- The hold latches of bridge `n`, its hold count and terminal record, the staged commands and the modes of the envelope
stay. -/
structure keepsHold (n : Nat) (b c : BrgState) : Prop where
  mode : c.rd (R.BRG_HLMODE n) = b.rd (R.BRG_HLMODE n)
  duty0 : c.rd (R.BRG_HLDUTY_0 n) = b.rd (R.BRG_HLDUTY_0 n)
  duty1 : c.rd (R.BRG_HLDUTY_1 n) = b.rd (R.BRG_HLDUTY_1 n)
  term : c.get (F.BRG_BSTAT_TERM n) = b.get (F.BRG_BSTAT_TERM n)
  tstate : c.get (F.BRG_BSTAT_TSTATE n) = b.get (F.BRG_BSTAT_TSTATE n)
  count : c.get (F.BRG_BSTAT_HOLDCNT n) = b.get (F.BRG_BSTAT_HOLDCNT n)
  stA : c.stA = b.stA
  stB : c.stB = b.stB

theorem keepsHold_refl : keepsHold n b b := ⟨rfl, rfl, rfl, rfl, rfl, rfl, rfl, rfl⟩

theorem keepsHold_trans (h : keepsHold n b c) (h' : keepsHold n c d) : keepsHold n b d :=
  ⟨h'.mode.trans h.mode, h'.duty0.trans h.duty0, h'.duty1.trans h.duty1, h'.term.trans h.term, h'.tstate.trans h.tstate,
    h'.count.trans h.count, h'.stA.trans h.stA, h'.stB.trans h.stB⟩

theorem keepsHold_ite {p : Prop} [Decidable p] (h : keepsHold n b c) (h' : keepsHold n b d) :
    keepsHold n b (if p then c else d) := by
  split
  exacts [h, h']

/-- Registers below BSTAT in the bridge's page hold none of it. -/
theorem keepsHold_of_rd (hr : ∀ a, R.BRG_BSTAT n ≤ a → c.rd a = b.rd a) (hA : c.stA = b.stA) (hB : c.stB = b.stB) :
    keepsHold n b c := by
  have hm : R.BRG_BSTAT n ≤ R.BRG_HLMODE n ∧ R.BRG_BSTAT n ≤ R.BRG_HLDUTY_0 n ∧ R.BRG_BSTAT n ≤ R.BRG_HLDUTY_1 n := by
    simp only [R.BRG_BSTAT, R.BRG_HLMODE, R.BRG_HLDUTY_0, R.BRG_HLDUTY_1]
    omega
  have hg : ∀ f : Fld, f.addr = R.BRG_BSTAT n → c.get f = b.get f := fun f hf => by
    show getBits (c.rd f.addr) f.lo f.width = getBits (b.rd f.addr) f.lo f.width
    rw [hr f.addr (by omega)]
  exact ⟨hr _ hm.1, hr _ hm.2.1, hr _ hm.2.2, hg _ rfl, hg _ rfl, hg _ rfl, hA, hB⟩

theorem keepsHold_put {f : Fld} {v : Nat} (hf : f.addr < R.BRG_BSTAT n) : keepsHold n b (b.put f v) :=
  keepsHold_of_rd (fun a ha => RegFile.rd_put_ne _ _ _ (by omega)) rfl rfl

theorem keepsHold_bump {f : Fld} {v : Nat} (hf : f.addr < R.BRG_BSTAT n) : keepsHold n b (b.bump f v) := keepsHold_put hf

/-- DRIVE and PRE lie beside the terminal record and the hold count in BSTAT. -/
theorem keepsHold_putBstat {f : Fld} {v : Nat} (ha : f.addr = R.BRG_BSTAT n)
    (hw : f.lo + f.width ≤ 10 ∨ (13 ≤ f.lo ∧ f.lo + f.width ≤ 16)) : keepsHold n b (b.put f v) := by
  have hm : R.BRG_HLMODE n ≠ f.addr ∧ R.BRG_HLDUTY_0 n ≠ f.addr ∧ R.BRG_HLDUTY_1 n ≠ f.addr := by
    rw [ha]
    simp only [R.BRG_BSTAT, R.BRG_HLMODE, R.BRG_HLDUTY_0, R.BRG_HLDUTY_1]
    omega
  have hg : ∀ g : Fld, g.lo + g.width ≤ f.lo ∨ f.lo + f.width ≤ g.lo → (b.put f v).get g = b.get g := fun g =>
    get_put_disjoint b f g v (by omega)
  refine ⟨RegFile.rd_put_ne _ _ _ hm.1, RegFile.rd_put_ne _ _ _ hm.2.1, RegFile.rd_put_ne _ _ _ hm.2.2, hg _ ?_, hg _ ?_,
    hg _ ?_, rfl, rfl⟩
  · show 11 ≤ f.lo ∨ f.lo + f.width ≤ 10
    omega
  · show 13 ≤ f.lo ∨ f.lo + f.width ≤ 11
    omega
  · show 23 ≤ f.lo ∨ f.lo + f.width ≤ 16
    omega

theorem keepsHold_modUnit {m : Nat} {f : BridgeUnit → BridgeUnit} : keepsHold n b (b.modUnit m f) :=
  ⟨rfl, rfl, rfl, rfl, rfl, rfl, rfl, rfl⟩

theorem keepsHold_count {k : Nat} : keepsHold n b (b.count (P.BRG n) k) := by
  refine keepsHold_of_rd (fun a ha => rd_count ?_) ?_ ?_
  · simp only [R.BRG_BSTAT, R.evtCnt, P.BRG] at ha ⊢
    omega
  · unfold count
    split <;> rfl
  · unfold count
    split <;> rfl

theorem keepsHold_countK {code k : Nat} : keepsHold n b (b.countK n code k) :=
  List.foldlRecOn (motive := keepsHold n b) _ _ keepsHold_refl fun _ h _ _ => keepsHold_trans h keepsHold_count

theorem keepsHold_dropped {k : Nat} : keepsHold n b (b.dropped n k) :=
  keepsHold_ite keepsHold_refl (keepsHold_trans
    (keepsHold_put (by simp only [F.BRG_EVT_DROP, R.BRG_EVT, R.BRG_BSTAT]; omega)) keepsHold_countK)

theorem keepsHold_refusedGates {k : Nat} : keepsHold n b (b.refusedGates n k) :=
  keepsHold_ite keepsHold_refl (keepsHold_trans (keepsHold_trans
    (keepsHold_bump (by simp only [F.BRG_INTLKCNT_INTLK, R.BRG_INTLKCNT, R.BRG_BSTAT]; omega))
    (keepsHold_put (by simp only [F.BRG_EVT_INTLK, R.BRG_EVT, R.BRG_BSTAT]; omega))) keepsHold_countK)

theorem keepsHold_uvRefreshed {k : Nat} : keepsHold n b (b.uvRefreshed n k) :=
  keepsHold_ite keepsHold_refl (keepsHold_trans (keepsHold_trans
    (keepsHold_bump (by simp only [F.BRG_REFCNT_UV, R.BRG_REFCNT, R.BRG_BSTAT]; omega))
    (keepsHold_put (by simp only [F.BRG_EVT_BUVREF, R.BRG_EVT, R.BRG_BSTAT]; omega))) keepsHold_countK)

theorem keepsHold_setDrive {start : Bool} {t : Tri (PhaseDrive × Bool)} : keepsHold n b (b.setDrive n start t) :=
  keepsHold_trans (keepsHold_trans (keepsHold_trans keepsHold_modUnit keepsHold_dropped) keepsHold_refusedGates)
    keepsHold_uvRefreshed

theorem keepsHold.get_mode (h : keepsHold n b c) : c.get (F.BRG_HLMODE_MODES n) = b.get (F.BRG_HLMODE_MODES n) :=
  congrArg (getBits · 0 6) h.mode
theorem keepsHold.get_dutyU (h : keepsHold n b c) : c.get (F.BRG_HLDUTY_0_U n) = b.get (F.BRG_HLDUTY_0_U n) :=
  congrArg (getBits · 0 16) h.duty0
theorem keepsHold.get_dutyV (h : keepsHold n b c) : c.get (F.BRG_HLDUTY_0_V n) = b.get (F.BRG_HLDUTY_0_V n) :=
  congrArg (getBits · 16 16) h.duty0
theorem keepsHold.get_dutyW (h : keepsHold n b c) : c.get (F.BRG_HLDUTY_1_W n) = b.get (F.BRG_HLDUTY_1_W n) :=
  congrArg (getBits · 0 16) h.duty1
theorem keepsHold.staged (h : keepsHold n b c) (x : Lane) (m : Nat) : c.staged x m = b.staged x m := by
  unfold BrgState.staged
  rw [h.stA, h.stB]

end BrgState

namespace State
open BrgState
variable {s t : State} {n : Nat} {b : BrgState}

/-! What follows a drive keeps the hold too. -/

theorem keepsHold_sendUp {x : Lane} {typ m arg : Nat} {pay : List Half} (h : keepsHold n b s.brg) :
    keepsHold n b (s.sendUp x typ m arg pay).brg := by
  cases x
  · exact keepsHold_trans h ⟨rfl, rfl, rfl, rfl, rfl, rfl, rfl, rfl⟩
  · exact keepsHold_trans h ⟨rfl, rfl, rfl, rfl, rfl, rfl, rfl, rfl⟩

theorem keepsHold_sendStatus {m : Nat} (h : keepsHold n b s.brg) : keepsHold n b (s.sendStatus m).brg :=
  keepsHold_trans (keepsHold_sendUp (keepsHold_sendUp h)) keepsHold_modUnit

theorem keepsHold_iteBrg {p : Prop} [Decidable p] (h : keepsHold n b s.brg) (h' : keepsHold n b t.brg) :
    keepsHold n b (if p then s else t).brg := by
  split
  exacts [h, h']

theorem keepsHold_statusCheck {m : Nat} (h : keepsHold n b s.brg) : keepsHold n b (s.statusCheck m).brg :=
  keepsHold_iteBrg (keepsHold_sendStatus h) h

theorem keepsHold_rankUpdate (h : keepsHold n b s.brg) : keepsHold n b (s.rankUpdate n).brg := by
  have hpre : ∀ (m : State) (v : Nat), keepsHold n b m.brg → keepsHold n b (m.modBrg (·.put (F.BRG_BSTAT_PRE n) v)).brg :=
    fun _ _ h => keepsHold_trans h (keepsHold_putBstat rfl (.inr ⟨le_rfl, (by decide : 13 + 1 ≤ 16)⟩))
  unfold rankUpdate
  extract_lets _ _ s1 _ start s2 _ s3 d s4
  have h1 : keepsHold n b s1.brg := keepsHold_iteBrg (hpre _ _ h) h
  have h2 : keepsHold n b s2.brg := keepsHold_iteBrg (hpre _ _ h1) h1
  have h3 : keepsHold n b s3.brg := keepsHold_trans h2 (keepsHold_putBstat rfl (.inl (by decide : 0 + 4 ≤ 10)))
  exact keepsHold_statusCheck (keepsHold_iteBrg
    (keepsHold_trans (keepsHold_trans h3 keepsHold_setDrive) keepsHold_modUnit) h3)

theorem keepsHold_boundaryEdges : keepsHold n s.brg (s.boundaryEdges n).brg := by
  unfold boundaryEdges
  extract_lets u k due c s1 s2 r s3
  have hp : (F.BRG_REFCNT_PER n).addr < R.BRG_BSTAT n := by
    simp only [F.BRG_REFCNT_PER, R.BRG_REFCNT, R.BRG_BSTAT]
    omega
  have h2 : keepsHold n s.brg s2.brg := keepsHold_trans keepsHold_modUnit (keepsHold_trans (keepsHold_trans
    (keepsHold_bump hp) keepsHold_countK) keepsHold_count)
  exact keepsHold_sendStatus (keepsHold_iteBrg (keepsHold_trans (keepsHold_trans h2 keepsHold_setDrive) keepsHold_modUnit)
    (keepsHold_trans h2 keepsHold_setDrive))

/-! A rank is of the bridge die: Bedrock stays. -/

theorem bed_ite {p : Prop} [Decidable p] {d : BedState} (h : s.bed = d) (h' : t.bed = d) :
    (if p then s else t).bed = d := by
  split
  exacts [h, h']

theorem bed_sendUp {x : Lane} {typ m arg : Nat} {pay : List Half} : (s.sendUp x typ m arg pay).bed = s.bed :=
  bed_modLane _ _ _

theorem bed_sendStatus {m : Nat} : (s.sendStatus m).bed = s.bed := bed_modUnit.trans (bed_sendUp.trans bed_sendUp)

theorem bed_rankUpdate : (s.rankUpdate n).bed = s.bed := by
  unfold rankUpdate
  extract_lets _ _ s1 _ start s2 _ s3 d s4
  have h1 : s1.bed = s.bed := bed_ite bed_modBrg rfl
  have h2 : s2.bed = s.bed := bed_ite (bed_modBrg.trans h1) h1
  have h3 : s3.bed = s.bed := bed_modBrg.trans h2
  have h4 : s4.bed = s.bed := bed_ite (bed_modUnit.trans (bed_modBrg.trans h3)) h3
  exact bed_ite (bed_sendStatus.trans h4) h4

end State
end Sys2Proof.Machine
end

section
/-! SUPPORT and SETTLED. The PWM boundary and the terminal state (O7). -/
namespace Sys2Proof.Machine
open Sys2Proof

namespace BrgState
variable {b : BrgState} {n : Nat} {c : Staged}

/-! A commit. -/

/-- The bridge die once command `c` stands in the hold latches of bridge `n`. -/
def latched (b : BrgState) (n : Nat) (c : Staged) : BrgState :=
  ((((b.put (F.BRG_HLMODE_MODES n) c.modes).put (F.BRG_HLDUTY_0_U n) c.duty.u).put (F.BRG_HLDUTY_0_V n) c.duty.v).put
    (F.BRG_HLDUTY_1_W n) c.duty.w).count (P.BRG n) 2

theorem get_count {p k : Nat} {f : Fld} (h : f.addr ≠ R.evtCnt p) : (b.count p k).get f = b.get f :=
  congrArg (getBits · f.lo f.width) (rd_count h)

/-- The registers of the latches are those of one bridge, and none is its event counter or BSTAT. -/
theorem latch_addrs (n : Nat) : R.BRG_HLMODE n = P.BRG n + 0x170 ∧ R.BRG_HLDUTY_0 n = P.BRG n + 0x174 ∧
    R.BRG_HLDUTY_1 n = P.BRG n + 0x178 ∧ R.BRG_BSTAT n = P.BRG n + 0x144 ∧ R.evtCnt (P.BRG n) = P.BRG n + 0x034 := by
  simp only [R.BRG_HLMODE, R.BRG_HLDUTY_0, R.BRG_HLDUTY_1, R.BRG_BSTAT, R.evtCnt, P.BRG, and_true]
  exact ⟨by omega, by omega, by omega, by omega⟩

theorem latched_values : (b.latched n c).get (F.BRG_HLMODE_MODES n) = c.modes % 64 ∧
    (b.latched n c).get (F.BRG_HLDUTY_0_U n) = c.duty.u % 65536 ∧
    (b.latched n c).get (F.BRG_HLDUTY_0_V n) = c.duty.v % 65536 ∧
    (b.latched n c).get (F.BRG_HLDUTY_1_W n) = c.duty.w % 65536 := by
  obtain ⟨hm, h0, h1, -, he⟩ := latch_addrs n
  have hm' : (F.BRG_HLMODE_MODES n).addr = P.BRG n + 0x170 := hm
  have hu' : (F.BRG_HLDUTY_0_U n).addr = P.BRG n + 0x174 := h0
  have hv' : (F.BRG_HLDUTY_0_V n).addr = P.BRG n + 0x174 := h0
  have hw' : (F.BRG_HLDUTY_1_W n).addr = P.BRG n + 0x178 := h1
  refine ⟨?_, ?_, ?_, ?_⟩
  · rw [latched, get_count (by omega), get_put_ne _ _ _ _ (by omega), get_put_ne _ _ _ _ (by omega),
      get_put_ne _ _ _ _ (by omega)]
    exact get_put_same _ _ _ (by decide : 0 + 6 ≤ 32)
  · rw [latched, get_count (by omega), get_put_ne _ _ _ _ (by omega),
      get_put_disjoint _ _ _ _ (by decide : 16 + 16 ≤ 32) (.inl (by decide : 0 + 16 ≤ 16))]
    exact get_put_same _ _ _ (by decide : 0 + 16 ≤ 32)
  · rw [latched, get_count (by omega), get_put_ne _ _ _ _ (by omega)]
    exact get_put_same _ _ _ (by decide : 16 + 16 ≤ 32)
  · rw [latched, get_count (by omega)]
    exact get_put_same _ _ _ (by decide : 0 + 16 ≤ 32)

theorem rd_latched_bstat : (b.latched n c).rd (R.BRG_BSTAT n) = b.rd (R.BRG_BSTAT n) := by
  obtain ⟨hm, h0, h1, hb, he⟩ := latch_addrs n
  have hp : ∀ (d : BrgState) (f : Fld) (v : Nat), R.BRG_BSTAT n < f.addr →
      (d.put f v).rd (R.BRG_BSTAT n) = d.rd (R.BRG_BSTAT n) :=
    fun d f v h => RegFile.rd_put_ne _ _ _ (by omega)
  rw [latched, rd_count (by omega), hp _ _ _ (show _ < R.BRG_HLDUTY_1 n by omega),
    hp _ _ _ (show _ < R.BRG_HLDUTY_0 n by omega), hp _ _ _ (show _ < R.BRG_HLDUTY_0 n by omega),
    hp _ _ _ (show _ < R.BRG_HLMODE n by omega)]

theorem get_latched_bstat {f : Fld} (hf : f.addr = R.BRG_BSTAT n) : (b.latched n c).get f = b.get f := by
  show getBits ((b.latched n c).rd f.addr) f.lo f.width = getBits (b.rd f.addr) f.lo f.width
  rw [hf, rd_latched_bstat]

theorem latched_rest : (b.latched n c).units = b.units ∧ (b.latched n c).envCopy = b.envCopy ∧ (b.latched n c).stA = b.stA ∧
    (b.latched n c).stB = b.stB := by
  have hc : ∀ d : BrgState, (d.count (P.BRG n) 2).units = d.units ∧ (d.count (P.BRG n) 2).envCopy = d.envCopy ∧
      (d.count (P.BRG n) 2).stA = d.stA ∧ (d.count (P.BRG n) 2).stB = d.stB := fun d => by
    unfold count
    split
    · exact ⟨rfl, rfl, rfl, rfl⟩
    · exact ⟨rfl, rfl, rfl, rfl⟩
  rw [latched]
  simpa only [units_put, envCopy_put, stA_put, stB_put] using hc ((((b.put (F.BRG_HLMODE_MODES n) c.modes).put
    (F.BRG_HLDUTY_0_U n) c.duty.u).put (F.BRG_HLDUTY_0_V n) c.duty.v).put (F.BRG_HLDUTY_1_W n) c.duty.w)

theorem unit_setStaged {x : Lane} {m : Nat} {o : Option Staged} : (b.setStaged x m o).unit n = b.unit n := by
  cases x
  · rfl
  · rfl
theorem get_setStaged {x : Lane} {m : Nat} {o : Option Staged} {f : Fld} : (b.setStaged x m o).get f = b.get f :=
  congrArg (RegFile.get · f) regs_setStaged

/-- With the hold count returned to 0 the latches, the terminal record and all else stay. -/
theorem get_putHold {f : Fld} (h : f.addr ≠ R.BRG_BSTAT n ∨ f.lo + f.width ≤ 16) :
    (b.put (F.BRG_BSTAT_HOLDCNT n) 0).get f = b.get f := by
  obtain h | h := h
  · exact get_put_ne _ _ _ _ h
  · exact get_put_disjoint _ _ _ _ (by decide : 16 + 7 ≤ 32) (.inl h)

end BrgState

namespace State
open BrgState
variable {s : State} {n d : Nat} {c : Staged} {x : Lane}

theorem commitCmd_eq : s.commitCmd n c = if (s.brg.latched n c).get (F.BRG_BSTAT_DRIVE n) ≤ 7 then s.modBrg (·.latched n c)
    else (s.modBrg (·.latched n c)).setHold n 0 := rfl

theorem commitCmd_values : (s.commitCmd n c).brg.get (F.BRG_HLMODE_MODES n) = c.modes % 64 ∧
    (s.commitCmd n c).brg.get (F.BRG_HLDUTY_0_U n) = c.duty.u % 65536 ∧
    (s.commitCmd n c).brg.get (F.BRG_HLDUTY_0_V n) = c.duty.v % 65536 ∧
    (s.commitCmd n c).brg.get (F.BRG_HLDUTY_1_W n) = c.duty.w % 65536 := by
  have hv := latched_values (b := s.brg) (n := n) (c := c)
  obtain ⟨hm, h0, h1, hb, -⟩ := latch_addrs n
  rw [commitCmd_eq]
  split
  · exact hv
  · have hm' : (F.BRG_HLMODE_MODES n).addr = P.BRG n + 0x170 := hm
    have hu' : (F.BRG_HLDUTY_0_U n).addr = P.BRG n + 0x174 := h0
    have hv' : (F.BRG_HLDUTY_0_V n).addr = P.BRG n + 0x174 := h0
    have hw' : (F.BRG_HLDUTY_1_W n).addr = P.BRG n + 0x178 := h1
    obtain ⟨h1, h2, h3, h4⟩ := hv
    exact ⟨(get_putHold (.inl (by omega))).trans h1, (get_putHold (.inl (by omega))).trans h2,
      (get_putHold (.inl (by omega))).trans h3, (get_putHold (.inl (by omega))).trans h4⟩

/-- A commit never raises the hold count, and returns it to 0 unless a rank from 1 to 7 is in force (R28, R243). -/
theorem commitCmd_hold : (s.commitCmd n c).brg.get (F.BRG_BSTAT_HOLDCNT n) ≤ s.brg.get (F.BRG_BSTAT_HOLDCNT n) ∧
    (7 < s.brg.get (F.BRG_BSTAT_DRIVE n) → (s.commitCmd n c).brg.get (F.BRG_BSTAT_HOLDCNT n) = 0) ∧
    (s.commitCmd n c).brg.get (F.BRG_BSTAT_TERM n) = s.brg.get (F.BRG_BSTAT_TERM n) := by
  rw [commitCmd_eq, get_latched_bstat rfl]
  split
  · next h => exact ⟨(get_latched_bstat rfl).le, fun h' => absurd h (by omega), get_latched_bstat rfl⟩
  · have h0 : ((s.modBrg (·.latched n c)).setHold n 0).brg.get (F.BRG_BSTAT_HOLDCNT n) = 0 :=
      get_put_same _ _ _ (by decide : 16 + 7 ≤ 32)
    exact ⟨h0.le.trans (Nat.zero_le _), fun _ => h0,
      (get_putHold (.inr (by decide : 10 + 1 ≤ 16))).trans (get_latched_bstat rfl)⟩

theorem commitCmd_rest : (s.commitCmd n c).brg.units = s.brg.units ∧ (s.commitCmd n c).brg.envCopy = s.brg.envCopy ∧
    (s.commitCmd n c).brg.stA = s.brg.stA ∧ (s.commitCmd n c).brg.stB = s.brg.stB := by
  rw [commitCmd_eq]
  split
  · exact latched_rest
  · exact latched_rest

theorem commitCmd_staged {m : Nat} : (s.commitCmd n c).brg.staged x m = s.brg.staged x m := by
  obtain ⟨-, -, hA, hB⟩ := commitCmd_rest (s := s) (n := n) (c := c)
  rw [BrgState.staged, hA, hB, BrgState.staged]

/-- A commit does not make the terminal state due. -/
theorem terminalDue_commitCmd (h : s.terminalDue n = false) : (s.commitCmd n c).terminalDue n = false := by
  obtain ⟨hle, -, hterm⟩ := commitCmd_hold (s := s) (n := n) (c := c)
  obtain ⟨-, henv, -, -⟩ := commitCmd_rest (s := s) (n := n) (c := c)
  have hmax : (s.commitCmd n c).brg.maxHold n = s.brg.maxHold n := by rw [maxHold, envMode, henv]; rfl
  unfold terminalDue at h ⊢
  rw [hterm, hmax]
  simp only [Bool.and_eq_false_iff, decide_eq_false_iff_not] at h ⊢
  exact h.imp id fun h => by omega

/-! Bedrock's decision for a simplex command. -/

theorem takeStaged_none {lead : Nat} (h : s.brg.staged x n = none) : s.takeStaged n x lead = (s, none) := by
  unfold takeStaged
  rw [h]
  rfl

theorem takeStaged_simplex {lead : Nat} (h : s.brg.staged x n = some c) (hd : c.duplex = false) (hl : 160 ≤ lead)
    (hp : s.passes n c = true) : s.takeStaged n x lead = (s.modBrg (·.setStaged x n none), some c) := by
  have he : eligible (some c) lead = some c := by simp [eligible, hd, hl]
  unfold takeStaged
  rw [h, he]
  exact if_pos hp

/-- One lane's simplex command is taken, the other lane having none. -/
theorem takeBoth {la lb : Nat} (h : s.brg.staged x n = some c) (ho : s.brg.staged x.peer n = none) (hd : c.duplex = false)
    (hl : 160 ≤ byLane x la lb) (hp : s.passes n c = true) :
    ((s.takeStaged n .A la).1.takeStaged n .B lb).1 = s.modBrg (·.setStaged x n none) ∧
      byLane x (s.takeStaged n .A la).2 ((s.takeStaged n .A la).1.takeStaged n .B lb).2 = some c := by
  cases x
  · rw [takeStaged_simplex (lead := la) h hd hl hp, takeStaged_none (staged_setStaged_ne (.inl (by decide)) |>.trans ho)]
    exact ⟨rfl, rfl⟩
  · rw [takeStaged_none (x := .A) ho, takeStaged_simplex (lead := lb) h hd hl hp]
    exact ⟨rfl, rfl⟩

theorem decide26_simplex {o : Option Staged} {res : Verdict} (hd : c.duplex = false) (hp : s.passes n c = true) :
    decide26 s n d x c o res = (s, .commit c) := by
  simp [decide26, hd, hp]

theorem passes_setStaged {o : Option Staged} : (s.modBrg (·.setStaged x n o)).passes n c = s.passes n c := by
  cases x
  · rfl
  · rfl
theorem selects_setStaged {o : Option Staged} {y : Lane} : (s.modBrg (·.setStaged x n o)).selects n y = s.selects n y := by
  cases x
  · rfl
  · rfl

theorem boundaryDecision_simplex {t : BoundaryTimes} (hdom : s.domainOf n = some d) (hst : s.domState d = Dom.held)
    (hsel : s.selects n (s.holder d) = true) (h : s.brg.staged (s.holder d) n = some c)
    (ho : s.brg.staged (s.holder d).peer n = none) (hd : c.duplex = false) (hl : 160 ≤ byLane (s.holder d) t.leadA t.leadB)
    (hp : s.passes n c = true) :
    s.boundaryDecision n t = (s.modBrg (·.setStaged (s.holder d) n none)).commitCmd n c := by
  obtain ⟨hs, hc⟩ := takeBoth h ho hd hl hp
  have hdom' : (s.modBrg (·.setStaged (s.holder d) n none)).domainOf n = some d := hdom
  have hst' : (s.modBrg (·.setStaged (s.holder d) n none)).domState d = Dom.held := hst
  have hx : (s.modBrg (·.setStaged (s.holder d) n none)).holder d = s.holder d := rfl
  unfold boundaryDecision
  dsimp only
  rw [hs, hdom']
  dsimp only
  rw [hst', if_neg (by decide), if_neg (by decide), if_pos rfl, hx, hc]
  dsimp only
  rw [decide26_simplex hd (passes_setStaged.trans hp)]
  exact if_pos (selects_setStaged.trans hsel)

/-! The boundary. -/

theorem calm_boundaryEdges {t : State} (h : calm s t) : calm s (t.boundaryEdges n) :=
  calm_sendStatus (calm_ite (calm_modBrg (calm_modBrg (calm_modBrg (calm_modBrg h))))
    (calm_modBrg (calm_modBrg (calm_modBrg h))))

theorem calm_commitCmd {t : State} (h : calm s t) : calm s (t.commitCmd n c) := by
  rw [commitCmd_eq]
  exact calm_ite (calm_modBrg h) (calm_modBed (calm_modBrg (calm_modBrg h)))

theorem brg_oneCycle {f : State → State} : (s.oneCycle f).brg = (f s).brg := rfl
theorem terminalDue_oneCycle {f : State → State} : (s.oneCycle f).terminalDue n = (f s).terminalDue n := rfl
theorem unit_oneCycle {f : State → State} : (s.oneCycle f).unit n = (f s).unit n := rfl
theorem unit_modBrg {f : BrgState → BrgState} : (s.modBrg f).unit n = (f s.brg).unit n := rfl
theorem unit_commitCmd : (s.commitCmd n c).unit n = s.unit n := by
  obtain ⟨hu, -, -, -⟩ := commitCmd_rest (s := s) (n := n) (c := c)
  rw [State.unit, BrgState.unit, hu, State.unit, BrgState.unit]

/-- A PWM boundary at which the holder's simplex command commits, no terminal state being due: the commit, then the edges of
the period. -/
theorem pwmBoundary_simplex {t : BoundaryTimes} (hrun : s.brg.get (F.running P.BCOM) = 1) (hbed : s.bedrockRuns = true)
    (hset : s.settle = s) (hdue : s.terminalDue n = false) (hreq : (s.unit n).treq = false)
    (hdec : s.boundaryDecision n t = (s.modBrg (·.setStaged x n none)).commitCmd n c) :
    pwmBoundary n t s = (s.oneCycle fun m => (m.modBrg (·.setStaged x n none)).commitCmd n c).boundaryEdges n := by
  have hc : (s.oneCycle fun s => s.settle.boundaryDecision n t) =
      s.oneCycle fun m => (m.modBrg (·.setStaged x n none)).commitCmd n c := by
    unfold oneCycle
    dsimp only
    rw [hset, hdec]
  have hdue' : (s.modBrg (·.setStaged x n none)).terminalDue n = false := by
    rw [← hdue]
    cases x
    · rfl
    · rfl
  have hno : ¬((s.oneCycle fun m => (m.modBrg (·.setStaged x n none)).commitCmd n c).terminalDue n = true ∨
      ((s.oneCycle fun m => (m.modBrg (·.setStaged x n none)).commitCmd n c).unit n).treq = true) := by
    rw [terminalDue_oneCycle, terminalDue_commitCmd hdue', unit_oneCycle, unit_commitCmd, unit_modBrg, unit_setStaged]
    rintro (h | h)
    · exact Bool.noConfusion h
    · exact Bool.noConfusion (hreq.symm.trans h)
  unfold pwmBoundary
  dsimp only
  rw [if_neg (by omega), if_pos hbed, hc, if_neg hno]


/-! The terminal state. -/

theorem get_modUnit {m : Nat} {f : BridgeUnit → BridgeUnit} {g : Fld} : (s.modUnit m f).brg.get g = s.brg.get g := rfl

theorem ite_keeps {Q : State → Prop} {t : State} {p : Prop} [Decidable p] (h : Q s) (h' : Q t) :
    Q (if p then s else t) := by
  split
  exacts [h, h']

theorem brg_sendSelect : s.sendSelect.brg = s.brg := by
  unfold sendSelect
  dsimp only
  split
  · rfl
  · rfl

theorem regs_sendSelect : s.sendSelect.bed.regs = s.bed.regs := by
  unfold sendSelect
  dsimp only
  split
  · rfl
  · rfl

theorem brg_terminalCheck : (s.terminalCheck d).brg = s.brg := by
  unfold terminalCheck
  split
  · exact brg_sendSelect
  · rfl

theorem rd_terminalCheck {a : Nat} (h : a ≠ R.BLEASE_LSTAT d) : (s.terminalCheck d).bed.rd a = s.bed.rd a := by
  unfold terminalCheck
  split
  · exact (congrArg (RegFile.rd · a) regs_sendSelect).trans (RegFile.rd_put_ne _ _ _ h)
  · rfl

/-- The record of a terminal state where BSTAT and BLEASE report it (R229, R244). -/
theorem setTerm_record {v : Nat} (hv : v < 4) : (s.setTerm n true v).brg.get (F.BRG_BSTAT_TERM n) = 1 ∧
    (s.setTerm n true v).brg.get (F.BRG_BSTAT_TSTATE n) = v ∧ (s.setTerm n true v).bed.get (F.BLEASE_HOLD_TERM n) = 1 := by
  refine ⟨?_, ?_, ?_⟩
  · exact (get_put_disjoint _ _ _ _ (by decide : 11 + 2 ≤ 32) (.inl (by decide : 10 + 1 ≤ 11))).trans
      (get_put_same _ _ _ (by decide : 10 + 1 ≤ 32))
  · exact (get_put_same _ _ _ (by decide : 11 + 2 ≤ 32)).trans (Nat.mod_eq_of_lt hv)
  · exact (BedState.get_put_disjoint _ _ _ _ (by decide : 8 + 2 ≤ 32) (.inl (by decide : 7 + 1 ≤ 8))).trans
      (BedState.get_put_same _ _ _ (by decide : 7 + 1 ≤ 32))

theorem domainOf_lt (h : s.domainOf n = some d) : d < 8 := List.mem_range.mp (List.mem_of_find?_eq_some h)

theorem calm_terminalEntry : calm s (s.terminalEntry n) := by
  unfold terminalEntry
  extract_lets had was v s1 s2 s3 s4
  have h1 : calm s s1 := calm_modBrg (calm_modBed (calm_modBed (calm_modBrg calm_refl)))
  have h2 : calm s s2 := calm_ite h1 (calm_irqPulseBoth (.inr (by decide)) h1)
  have h4 : calm s s4 := calm_rankUpdate (calm_ite h2 h2)
  split
  · exact calm_terminalCheck h4
  · exact h4

theorem terminalEntry_record (hn : n < 8) : (s.terminalEntry n).brg.get (F.BRG_BSTAT_TERM n) = 1 ∧
    (s.terminalEntry n).brg.get (F.BRG_BSTAT_TSTATE n) = (if s.noGateSupply then 0 else s.brg.envTerm n) ∧
    (s.terminalEntry n).bed.get (F.BLEASE_HOLD_TERM n) = 1 := by
  unfold terminalEntry
  extract_lets had was v s1 s2 s3 s4
  have hv : v < 4 := by
    show (if s.noGateSupply then 0 else s.brg.envTerm n) < 4
    split
    · omega
    · exact getBits_lt _ _ _
  obtain ⟨hterm, hts, hhold⟩ := setTerm_record (s := s) (n := n) hv
  have h2 : s2.brg = s1.brg ∧ s2.bed.regs = s1.bed.regs :=
    ite_keeps (Q := fun m => m.brg = s1.brg ∧ m.bed.regs = s1.bed.regs) ⟨rfl, rfl⟩ ⟨rfl, rfl⟩
  have h3 : s3.brg = s1.brg ∧ s3.bed.regs = s1.bed.regs :=
    ite_keeps (Q := fun m => m.brg = s1.brg ∧ m.bed.regs = s1.bed.regs) h2 h2
  have h4 : keepsHold n s3.brg s4.brg := keepsHold_rankUpdate keepsHold_refl
  have hterm4 : s4.brg.get (F.BRG_BSTAT_TERM n) = 1 := by rw [h4.term, h3.1, get_modUnit]; exact hterm
  have hts4 : s4.brg.get (F.BRG_BSTAT_TSTATE n) = v := by rw [h4.tstate, h3.1, get_modUnit]; exact hts
  have hhold4 : s4.bed.get (F.BLEASE_HOLD_TERM n) = 1 := by
    rw [show s4.bed = s3.bed from bed_rankUpdate, BedState.get, h3.2, bed_modUnit]
    exact hhold
  split
  · next d hd =>
    have hlt := domainOf_lt hd
    have hne : R.BLEASE_HOLD n ≠ R.BLEASE_LSTAT d := by
      simp only [R.BLEASE_HOLD, R.BLEASE_LSTAT]
      omega
    rw [brg_terminalCheck]
    exact ⟨hterm4, hts4, (congrArg (getBits · 7 1) (rd_terminalCheck hne)).trans hhold4⟩
  · exact ⟨hterm4, hts4, hhold4⟩

end State

/-- Settles O7: the decision is the commit, which the edges of the period leave; the terminal entry records itself and then
only ranks the bridge. -/
theorem boundaryCommitsOrTerminates : Obligations.BoundaryCommitsOrTerminates := by
  unfold Obligations.BoundaryCommitsOrTerminates
  intro s n d t c
  refine ⟨fun hrun hbed hset hsel hdue hreq hdom hst h ho hd hl hp => ?_, fun hdue => ?_⟩
  · have he := State.pwmBoundary_simplex hrun hbed hset hdue hreq
      (State.boundaryDecision_simplex hdom hst hsel h ho hd hl hp)
    obtain ⟨hm, hu, hv, hw⟩ := State.commitCmd_values (s := s.modBrg (·.setStaged (s.holder d) n.val none)) (n := n.val)
      (c := c)
    obtain ⟨-, hcnt, -⟩ := State.commitCmd_hold (s := s.modBrg (·.setStaged (s.holder d) n.val none)) (n := n.val) (c := c)
    have hk := State.keepsHold_boundaryEdges (n := n.val)
      (s := s.oneCycle fun m => (m.modBrg (·.setStaged (s.holder d) n.val none)).commitCmd n.val c)
    rw [State.brg_oneCycle] at hk
    have hcalm : s.calm ((s.oneCycle fun m => (m.modBrg (·.setStaged (s.holder d) n.val none)).commitCmd
        n.val c).boundaryEdges n.val) :=
      State.calm_boundaryEdges (State.calm_oneCycle (State.calm_commitCmd (State.calm_modBrg State.calm_refl)))
    exact ⟨_, congrArg done he, hk.get_mode.trans hm, hk.get_dutyU.trans hu, hk.get_dutyV.trans hv, hk.get_dutyW.trans hw,
      (hk.staged _ _).trans (State.commitCmd_staged.trans BrgState.staged_setStaged_same),
      fun h7 => hk.count.trans (hcnt (h7.trans_eq BrgState.get_setStaged.symm)), hcalm.1.mem, hcalm.2.mem⟩
  · have hc := State.calm_terminalEntry (s := s) (n := n.val)
    obtain ⟨hterm, hts, hhold⟩ := State.terminalEntry_record (s := s) n.isLt
    exact ⟨_, congrArg done (if_pos hdue), hterm, hts, hhold, hc.1.mem, hc.2.mem⟩
end Sys2Proof.Machine
end

section
/-! SUPPORT. Accesses of an agent to a register of a lane page: the way from the bus to the register's fields (R46 to R63). -/
namespace Sys2Proof.Machine
open Sys2Proof

/-- No block makes a field of the register at `a` unwritable, whatever its state (R58). -/
def neverBlocked (a : Nat) : Bool :=
  [0x40008, 0x40033, 0x40035].contains (pageOf a) && !isPendingReg a && sieveBits a == 0 &&
    (List.range 4).all fun k => a != R.LE_TRKPROP k

/-! ### The fields of a register -/

namespace RegFile
variable {rf : RegFile} {a : Nat} {w : Word} {c : WriteCtx} {fr : FieldRow}

/-- The word of a register of one RW field after a write. -/
def oneField (rf : RegFile) (a : Nat) (w : Word) (fr : FieldRow) : Word :=
  setBits (rf.rd a) fr.lo fr.width (legalValue rf a (rf.rd a) w fr (getBits w fr.lo fr.width))

/-- A write of a register of one RW field stores the legal value (R56). -/
theorem write_oneField (hf : regFields a = [fr]) (ha : fr.acc = .rw) (hb : c.blockHi = 0)
    (hv : legalValue rf a (rf.rd a) w fr (getBits w fr.lo fr.width) = getBits w fr.lo fr.width) :
    (rf.write a w c).file = rf.wr a (rf.oneField a w fr) ∧ (rf.write a w c).clamped = 0 := by
  simp [RegFile.write, writeFields, writeField, hf, ha, hb, hv, oneField]

/-- A write of an illegal value to a register of one RW field stores the nearest legal one and records the clamp (R57). -/
theorem write_oneField_clamped (hf : regFields a = [fr]) (ha : fr.acc = .rw) (hb : c.blockHi = 0)
    (hv : legalValue rf a (rf.rd a) w fr (getBits w fr.lo fr.width) ≠ getBits w fr.lo fr.width) :
    (rf.write a w c).file = (rf.wr a (rf.oneField a w fr)).clampLog a w fr.lo 1 ∧ (rf.write a w c).clamped = 1 := by
  simp [RegFile.write, writeFields, writeField, hf, ha, hb, hv, oneField]

/-- A write of BLKCTRL stores RUN; SRST acts only. -/
theorem write_blkctrl (hf : regFields a = [⟨0, 1, .rw, .any⟩, ⟨1, 1, .wo, .any⟩]) (hb : c.blockHi = 0) :
    (rf.write a w c).file = rf.wr a (setBits (rf.rd a) 0 1 (getBits w 0 1)) ∧ (rf.write a w c).clamped = 0 ∧
      getBits (rf.write a w c).eff 1 1 = getBits w 1 1 := by
  refine ⟨?_, ?_, ?_⟩
  · simp [RegFile.write, writeFields, writeField, hf, hb, legalValue]
  · simp [RegFile.write, writeFields, writeField, hf, hb, legalValue]
  · have he : (rf.write a w c).eff = setBits (setBits 0 0 1 (getBits w 0 1)) 1 1 (getBits w 1 1) := by
      simp [RegFile.write, writeFields, writeField, hf, hb, legalValue]
    rw [he, getBits_setBits_same _ _ _ _ (by decide)]
    exact Nat.mod_eq_of_lt (getBits_lt _ _ _)

end RegFile

/-! ### A register write of a lane -/

namespace LaneState
variable {l : LaneState} {a : Nat} {w : Word}

theorem blocked_of_neverBlocked (h : neverBlocked a = true) : l.blocked a = (0, 0) := by
  simp only [neverBlocked, Bool.and_eq_true, List.contains_iff_mem, List.mem_cons, List.not_mem_nil, or_false,
    Bool.not_eq_true', beq_iff_eq, List.all_eq_true, List.mem_range, bne_iff_ne] at h
  obtain ⟨⟨⟨hp, hpend⟩, hs⟩, ht⟩ := h
  have hcur : l.curHeld a = false := by
    simp only [curHeld, List.any_eq_false, List.mem_range]
    intro k hk
    simp [ht k hk]
  have hbuf : l.bufferHeld a = false := by
    unfold bufferHeld
    exact if_neg (by omega)
  have hcan : l.canHeld a = false := by
    have h0 : pageOf a ≠ 0x40030 := by omega
    have h1 : pageOf a ≠ 0x40031 := by omega
    simp [canHeld, h0, h1]
  have hne : ∀ b, pageOf b ∉ [0x40008, 0x40033, 0x40035] → a ≠ b := by
    rintro b hb rfl
    exact hb (by simpa using hp)
  unfold blocked
  rw [if_neg (by simp [hpend]), if_neg (by simp [hs]), if_neg (by simp [hcur]), if_neg (by simp [hbuf, hcan]),
    if_neg (by simp [hne R.PWR_WAKEEN (by decide), hne R.PWR_RETMASK_L (by decide), hne R.PWR_RETMASK_H (by decide),
      hne R.PWR_CRCMP (by decide)]), if_neg (by simp [hne R.ETH_MDIO (by decide)]), if_neg (by omega)]

theorem blockHi_writeCtx (h : neverBlocked a = true) : (l.writeCtx a).blockHi = 0 := by
  simp [writeCtx, blocked_of_neverBlocked h]

/-- The lane with its register file replaced. -/
def withRegs (l : LaneState) (r : RegFile) : LaneState := { l with regs := r }

@[simp] theorem regs_withRegs {r : RegFile} : (l.withRegs r).regs = r := rfl
@[simp] theorem mem_withRegs {r : RegFile} : (l.withRegs r).mem = l.mem := rfl
@[simp] theorem power_withRegs {r : RegFile} : (l.withRegs r).power = l.power := rfl

theorem abandonLock_idle (h : l.lockSeq = []) : l.abandonLock a = l := if_neg (by simp [h])

/-- A register whose write has no header effect and re-checks no other register. -/
def plainReg (a : Nat) : Bool := recheckList a == [] && a % 0x1000 != 0x00C && a % 0x1000 != 0x014

/-- A register write with no lock sequence begun: the file's write, and the report of a clamp. -/
theorem regWrite_plain (hl : l.lockSeq = []) (ha : plainReg a = true) :
    l.regWrite a w =
      (if (l.regs.write a w (l.writeCtx a)).clamped = 0 then l.withRegs (l.regs.write a w (l.writeCtx a)).file
        else (l.withRegs (l.regs.write a w (l.writeCtx a)).file).clampReport a, (l.regs.write a w (l.writeCtx a)).eff) := by
  simp only [plainReg, Bool.and_eq_true, beq_iff_eq, bne_iff_ne] at ha
  obtain ⟨⟨hr, hc⟩, h4⟩ := ha
  unfold regWrite
  rw [abandonLock_idle hl]
  simp only [headerEffect, hc, h4, hr, if_false, List.foldl_nil]
  rfl

/-- Its new state where nothing was clamped. -/
theorem regWrite_unclamped (hl : l.lockSeq = []) (ha : plainReg a = true)
    (hc : (l.regs.write a w (l.writeCtx a)).clamped = 0) :
    l.regWrite a w = (l.withRegs (l.regs.write a w (l.writeCtx a)).file, (l.regs.write a w (l.writeCtx a)).eff) := by
  rw [regWrite_plain hl ha, if_pos hc]

end LaneState

/-! ### The bus -/

theorem LaneState.accessDone_done {l : LaneState} {g : Agent} {a : Access} : l.accessDone g a .done false = l.respond g .done := by
  cases g with
  | hart n => rfl
  | xfr => rfl
  | dbg => rfl
  | host => rfl
  | boot => rfl

namespace State
variable {s : State} {x : Lane} {g : Agent} {a : Nat} {v : DWord}

/-- A store of a word to a register of a lane page. -/
theorem bus_lanePage (ha : (s.lane x).alive = true) (hr : regionOf x a = .lanePage) (hal : aligned a 4 = true) :
    s.bus x g ⟨a, 4, some v⟩ 0 = (s.writeReg x g a (v.extractLsb' 0 32), .done) := by
  simp [bus, busWrite, ha, hr, hal]

/-- A store of a word to a register of a lane page, with bad parity (R63). -/
theorem bus_badParity (ha : (s.lane x).alive = true) (hr : regionOf x a = .lanePage) (hal : aligned a 4 = true) :
    s.bus x g ⟨a, 4, some v⟩ 15 = (s.modLane x (·.writeRefused a), .done) := by
  simp only [bus, busWrite, ha, hr, hal]
  rfl

/-- A store that the bus takes: it changes the lane as `f` says, and the agent has its answer. -/
theorem yields_store {c : Instr} {ac : Access} {bad : Byte} {f : LaneState → LaneState} {Q : State → Prop}
    (hc : exec c s = done (s.access x g ac bad false)) (hb : s.bus x g ac bad = (s.modLane x f, .done))
    (hf : (f (s.lane x)).alive = true)
    (hQ : ∀ t : State, t.lane x = (f (s.lane x)).respond g .done → t.lane x.peer = s.lane x.peer → t.bed = s.bed →
      t.brg = s.brg → Q t) : yields c s Q := by
  refine ⟨_, hc, hQ _ ?_ ?_ ?_ ?_⟩
  · simp [access, hb, hf, LaneState.accessDone_done]
  all_goals simp [access, hb]

/-- The same of a store of a word to a register of a lane page. -/
theorem yields_regStore {c : Instr} {f : LaneState → LaneState} {Q : State → Prop}
    (hc : exec c s = done (s.access x g ⟨a, 4, some v⟩ 0 false)) (ha : (s.lane x).alive = true)
    (hr : regionOf x a = .lanePage) (hal : aligned a 4 = true)
    (hw : s.writeReg x g a (v.extractLsb' 0 32) = s.modLane x f) (hf : (f (s.lane x)).alive = true)
    (hQ : ∀ t : State, t.lane x = (f (s.lane x)).respond g .done → t.lane x.peer = s.lane x.peer → t.bed = s.bed →
      t.brg = s.brg → Q t) : yields c s Q :=
  yields_store hc ((bus_lanePage ha hr hal).trans (by rw [hw])) hf hQ

end State
end Sys2Proof.Machine
end

section
/-! SUPPORT and SETTLED. A write of a clamped register (O13). -/
namespace Sys2Proof.Machine
open Sys2Proof

namespace RegFile
variable {rf : RegFile} {a lsb k : Nat} {w : Word}

/-- What the clamp record of a page shows after a clamp (R57). -/
theorem clampLog_record (hl : lsb < 32) :
    (rf.clampLog a w lsb k).rd (R.clampVal (pageOf a * 0x1000)) = w ∧
    (rf.clampLog a w lsb k).get (F.clamped (pageOf a * 0x1000)) = 1 ∧
    (rf.clampLog a w lsb k).get (F.clampOffset (pageOf a * 0x1000)) = a % 0x1000 ∧
    (rf.clampLog a w lsb k).get (F.clampLsb (pageOf a * 0x1000)) = lsb := by
  generalize hb : pageOf a * 0x1000 = b
  have hv : R.clampVal b ≠ b + 0x020 ∧ R.clampVal b ≠ b + 0x00C := by simp [R.clampVal]
  have hs : b + 0x020 ≠ b + 0x00C := by omega
  have hc : (F.clampCount b).lo + (F.clampCount b).width ≤ 32 := (by decide : 24 + 8 ≤ 32)
  have hl' : (F.clampLsb b).lo + (F.clampLsb b).width ≤ 32 := (by decide : 16 + 5 ≤ 32)
  simp only [clampLog, hb]
  refine ⟨?_, ?_, ?_, ?_⟩
  · rw [rd_put_ne _ _ _ hv.2, bump, rd_put_ne _ _ _ hv.1, rd_put_ne _ _ _ hv.1, rd_put_ne _ _ _ hv.1, rd_wr_same]
  · exact get_put_same _ _ _ (by decide : 2 + 1 ≤ 32)
  · rw [get_put_ne _ _ _ _ hs, bump, get_put_disjoint _ _ _ _ hc (.inl (by decide : 0 + 12 ≤ 24)),
      get_put_disjoint _ _ _ _ hl' (.inl (by decide : 0 + 12 ≤ 16)), get_put_same _ _ _ (by decide : 0 + 12 ≤ 32)]
    exact Nat.mod_eq_of_lt (Nat.mod_lt _ (by decide))
  · rw [get_put_ne _ _ _ _ hs, bump, get_put_disjoint _ _ _ _ hc (.inl (by decide : 16 + 5 ≤ 24)),
      get_put_same _ _ _ hl']
    exact Nat.mod_eq_of_lt hl

/-- What a clamp leaves. -/
theorem rd_clampLog_ne {q : Nat} (hv : q ≠ R.clampVal (pageOf a * 0x1000)) (hr : q ≠ pageOf a * 0x1000 + 0x020)
    (hs : q ≠ R.blkstat (pageOf a * 0x1000)) : (rf.clampLog a w lsb k).rd q = rf.rd q := by
  simp only [clampLog]
  rw [rd_put_ne _ _ _ hs, bump, rd_put_ne _ _ _ hr, rd_put_ne _ _ _ hr, rd_put_ne _ _ _ hr, rd_wr_ne _ _ hv]

end RegFile

/-- The one field of GCFG. -/
def gcfgField : FieldRow := ⟨0, 8, .rw, .rng 1 255⟩

theorem regFields_gcfg : regFields R.GPIO_GCFG = [gcfgField] := by decide

theorem getBits_low8 {w : Word} : getBits w 0 8 = w.toNat % 256 := by simp [getBits]

/-- The legal value of FLT (R56). -/
theorem legalValue_gcfg {rf : RegFile} {n w : Word} :
    legalValue rf R.GPIO_GCFG n w gcfgField (getBits w 0 8) = max 1 (w.toNat % 256) := by
  show clampTo 1 255 (getBits w 0 8) = _
  rw [getBits_low8, clampTo]
  omega

namespace LaneState
variable {l : LaneState} {w : Word}

theorem alive_of_power {m : LaneState} (h : m.power = l.power) : m.alive = l.alive := by
  simp [alive, h]

/-- FLT as GCFG holds it after a write. -/
theorem oneField_gcfg : getBits (l.regs.oneField R.GPIO_GCFG w gcfgField) 0 8 = max 1 (w.toNat % 256) := by
  have h : getBits (l.regs.oneField R.GPIO_GCFG w gcfgField) 0 8 = _ := getBits_setBits_same _ 0 8 _ (by decide)
  have hw : gcfgField.lo = 0 ∧ gcfgField.width = 8 := ⟨rfl, rfl⟩
  rw [h, hw.1, hw.2, legalValue_gcfg]
  omega

/-- A legal write of GCFG stores the field, and nothing else. -/
theorem regWrite_gcfg_legal (hl : l.lockSeq = []) (hw : w.toNat % 256 ≠ 0) :
    (l.regWrite R.GPIO_GCFG w).1 = l.wr R.GPIO_GCFG (l.regs.oneField R.GPIO_GCFG w gcfgField) := by
  have hv : max 1 (w.toNat % 256) = getBits w 0 8 := by rw [getBits_low8]; omega
  obtain ⟨hf, hc⟩ := RegFile.write_oneField (rf := l.regs) (w := w) (c := l.writeCtx R.GPIO_GCFG) regFields_gcfg rfl
    (blockHi_writeCtx (by decide)) (legalValue_gcfg.trans hv)
  rw [regWrite_unclamped hl (by decide) hc, hf]
  rfl

/-- A write of 0 to FLT is clamped, recorded and reported. -/
theorem regWrite_gcfg_clamped (hl : l.lockSeq = []) (hw : w.toNat % 256 = 0) :
    (l.regWrite R.GPIO_GCFG w).1 = (l.withRegs ((l.regs.wr R.GPIO_GCFG (l.regs.oneField R.GPIO_GCFG w gcfgField)).clampLog
      R.GPIO_GCFG w 0 1)).clampReport R.GPIO_GCFG := by
  have hv : max 1 (w.toNat % 256) ≠ getBits w 0 8 := by rw [getBits_low8]; omega
  obtain ⟨hf, hc⟩ := RegFile.write_oneField_clamped (rf := l.regs) (w := w) (c := l.writeCtx R.GPIO_GCFG) regFields_gcfg rfl
    (blockHi_writeCtx (by decide)) (ne_of_eq_of_ne legalValue_gcfg hv)
  rw [regWrite_plain hl (by decide), hf, hc]
  rfl

/-- A clamp's report changes the condition registers of its page only. -/
theorem rd_clampReport {a q : Nat} (hr : q ≠ R.irqRaw (pageOf a * 0x1000)) (hs : q ≠ R.irqStat (pageOf a * 0x1000)) :
    (l.clampReport a).rd q = l.rd q := rd_irqRise _ _ _ hr hs
@[simp] theorem mem_clampReport {a : Nat} : (l.clampReport a).mem = l.mem := by simp [clampReport]
@[simp] theorem power_clampReport {a : Nat} : (l.clampReport a).power = l.power := by simp [clampReport]

/-- What a clamped write of GCFG shows: the field at its lower end, and the record of the clamp. -/
theorem gcfg_clamp_record (hl : l.lockSeq = []) (hw : w.toNat % 256 = 0) :
    (l.regWrite R.GPIO_GCFG w).1.get F.GPIO_GCFG_FLT = max 1 (w.toNat % 256) ∧
    (l.regWrite R.GPIO_GCFG w).1.get (F.clamped P.GPIO) = 1 ∧ (l.regWrite R.GPIO_GCFG w).1.rd (R.clampVal P.GPIO) = w ∧
    (l.regWrite R.GPIO_GCFG w).1.get (F.clampOffset P.GPIO) = 0x124 ∧
    (l.regWrite R.GPIO_GCFG w).1.get (F.clampLsb P.GPIO) = 0 := by
  obtain ⟨hval, hclamped, hoff, hlsb⟩ := RegFile.clampLog_record (rf := l.regs.wr R.GPIO_GCFG (l.regs.oneField R.GPIO_GCFG w
    gcfgField)) (a := R.GPIO_GCFG) (w := w) (k := 1) (by decide : 0 < 32)
  have hrd : ∀ q, q ≠ R.irqRaw P.GPIO → q ≠ R.irqStat P.GPIO → (l.regWrite R.GPIO_GCFG w).1.rd q =
      ((l.regs.wr R.GPIO_GCFG (l.regs.oneField R.GPIO_GCFG w gcfgField)).clampLog R.GPIO_GCFG w 0 1).rd q := fun q hr hs => by
    rw [regWrite_gcfg_clamped hl hw]
    exact rd_clampReport hr hs
  simp only [get_eq_rd]
  refine ⟨?_, ?_, ?_, ?_, ?_⟩
  · rw [hrd _ (by decide) (by decide), RegFile.rd_clampLog_ne (by decide) (by decide) (by decide)]
    exact (congrArg (getBits · 0 8) (RegFile.rd_wr_same _ _ _)).trans oneField_gcfg
  · exact (congrArg (getBits · 2 1) (hrd _ (by decide) (by decide))).trans hclamped
  · exact (hrd _ (by decide) (by decide)).trans hval
  · exact (congrArg (getBits · 0 12) (hrd _ (by decide) (by decide))).trans hoff
  · exact (congrArg (getBits · 16 5) (hrd _ (by decide) (by decide))).trans hlsb

/-- What a write of GCFG leaves: the memory and the power state. -/
theorem regWrite_gcfg_rest (hl : l.lockSeq = []) : (l.regWrite R.GPIO_GCFG w).1.mem = l.mem ∧
    (l.regWrite R.GPIO_GCFG w).1.power = l.power := by
  by_cases hw : w.toNat % 256 = 0
  · simp [regWrite_gcfg_clamped hl hw]
  · simp [regWrite_gcfg_legal hl hw]

/-- What a lane that takes a write of the register at `a` is like. -/
theorem takes_iff {a : Nat} : l.takes a = true ↔ l.alive = true ∧ l.blockFenced a = false ∧ l.lockSeq = [] := by
  simp [takes, and_assoc]

end LaneState

theorem regionOf_gcfg (x : Lane) : regionOf x R.GPIO_GCFG = .lanePage := by cases x <;> decide

theorem writeReg_gcfg {s : State} {x : Lane} {g : Agent} {w : Word} :
    s.writeReg x g R.GPIO_GCFG w = s.modLane x (·.plainWrite R.GPIO_GCFG w fun l => l) := rfl

/-- Settles O13: FLT's legal value with the record of its clamp, and the write that its parity refuses. -/
theorem registerWriteClamps : Obligations.RegisterWriteClamps := by
  unfold Obligations.RegisterWriteClamps
  intro s x v htakes
  obtain ⟨ha, hb, hl⟩ := LaneState.takes_iff.mp htakes
  have hc : ∀ bad, exec (.registerWrite x .xfr ⟨R.GPIO_GCFG, 4, some v⟩ bad) s =
      done (s.access x .xfr ⟨R.GPIO_GCFG, 4, some v⟩ bad false) := fun bad => congrArg done (if_pos ⟨rfl, ha⟩)
  constructor
  · have hlow : (v.extractLsb' 0 32).toNat % 256 = v.toNat % 256 := by simp [BitVec.extractLsb'_toNat]
    have hm : (s.lane x).plainWrite R.GPIO_GCFG (v.extractLsb' 0 32) (fun l => l) =
        ((s.lane x).regWrite R.GPIO_GCFG (v.extractLsb' 0 32)).1 := LaneState.command_live _ _ _ _ ha hb
    obtain ⟨hmem, hpow⟩ := LaneState.regWrite_gcfg_rest (w := v.extractLsb' 0 32) hl
    refine State.yields_regStore (hc 0) ha (regionOf_gcfg x) (by decide) writeReg_gcfg (by rw [hm, LaneState.alive_of_power hpow, ha])
      fun t ht hp hbed hbrg => ?_
    rw [ht, hm, ← hlow]
    simp only [LaneState.get_respond, LaneState.rd_respond, sameRegs, LaneState.mem_respond]
    by_cases h0 : (v.extractLsb' 0 32).toNat % 256 = 0
    · obtain ⟨hflt, hclamped, hval, hoff, hlsb⟩ := LaneState.gcfg_clamp_record hl h0
      exact ⟨hflt, fun _ => ⟨hclamped, hval, hoff, hlsb⟩, fun h => absurd h0 h, hmem, hp, hbed, hbrg⟩
    · refine ⟨?_, fun h => absurd h h0, fun _ q hq => ?_, hmem, hp, hbed, hbrg⟩
      · rw [LaneState.regWrite_gcfg_legal hl h0]
        exact (congrArg (getBits · 0 8) (LaneState.rd_wr_same _ _ _)).trans LaneState.oneField_gcfg
      · rw [LaneState.regWrite_gcfg_legal hl h0]
        exact LaneState.rd_wr_ne _ _ hq
  · refine State.yields_store (f := (·.writeRefused R.GPIO_GCFG)) (hc 15) (State.bus_badParity ha (regionOf_gcfg x) (by decide))
      ?_ fun t ht hp hbed hbrg => ?_
    all_goals rw [LaneState.writeRefused, LaneState.abandonLock_idle hl] at *
    · exact ha
    · rw [ht]
      refine ⟨?_, fun q hq => ?_, rfl, rfl, hp, hbed, hbrg⟩
      · rw [LaneState.get_respond, LaneState.get_raise]
        exact LaneState.get_put_same _ _ _ (by decide)
      · rw [LaneState.rd_respond, LaneState.rd_raise]
        exact LaneState.rd_put_ne _ _ _ hq
end Sys2Proof.Machine
end

section
/-! SETTLED. A pair in DOZE (O16, O21). -/
namespace Sys2Proof.Machine
open Sys2Proof

/-- A hart that does not execute makes no access. -/
theorem State.pairAccess_idle {s : State} {x : Lane} {n : Fin 4} {a : Access} (h : (s.lane x).pairIssues n.val = false) :
    s.pairAccess x n a = s := by
  unfold State.pairAccess
  exact if_pos (by rw [h]; rfl)

/-- Lane A in DOZE: its pair 2 stands in WFI, its core clocks stopped (R434, R436). -/
def dozing : State :=
  (wPair [(F.PWR_PSTAT_STATE, 1)]).modLane .A fun l => l.modPair 2 fun q => { q with wfi := true }

/-- No hart of a lane in DOZE executes. -/
theorem dozing_pairRuns : (dozing.lane .A).pairRuns 2 = false := by decide +kernel

/-- Nor does one make an access. -/
theorem dozing_pairIssues : (dozing.lane .A).pairIssues 2 = false := by decide +kernel

/-- A bridge-window store of the dozing pair finds no hart to make it. -/
theorem exec_bridgeWindowWrite_dozing {a : Access} (h : regionOf .A a.addr = .brgWin) (hw : a.wdata.isSome = true) :
    exec (.bridgeWindowWrite .A (.hart 2) a) dozing = done dozing :=
  congrArg done ((if_pos ⟨h, hw, by decide +kernel⟩).trans (State.pairAccess_idle (n := 2) (x := .A) (a := a) dozing_pairIssues))

/-- An L2 error meets no load of the dozing pair. -/
theorem exec_cacheUncorrectableError_dozing {n : Nat} :
    exec (.cacheUncorrectableError .A 2 n true) dozing = done dozing := by
  have hn : (!(dozing.lane .A).pairRuns 2) = true := by rw [dozing_pairRuns]; rfl
  exact congrArg (fun l => done (dozing.setLane .A l)) (if_pos hn)

/-- Refutes O16: a pair is free in DOZE too, where its hart stands in WFI and posts nothing. -/
theorem not_bridgeDieAccess : ¬ Obligations.BridgeDieAccess := by
  unfold Obligations.BridgeDieAccess
  intro h
  obtain ⟨hpost, -⟩ := h dozing .A 0 0 0 0 (.hart 2) ⟨0, 4, none⟩ 0 [] [] [] []
  obtain ⟨t, ht, hlen, -⟩ := hpost (by decide +kernel) (by decide +kernel) (by decide) (by decide +kernel)
  obtain rfl : dozing = t := Host.Outcome.next.inj ((exec_bridgeWindowWrite_dozing (by decide) rfl).symm.trans ht)
  omega

/-- Refutes O21: a pair is free in DOZE too, where its hart stands in WFI and loads nothing that an L2 error could meet. -/
theorem not_pairBoundary : ¬ Obligations.PairBoundary := by
  unfold Obligations.PairBoundary
  intro h
  obtain ⟨-, -, -, -, -, -, hlost, -⟩ := h dozing .A 2 0 0 0 0 0 0 0 [] (by decide +kernel) (by decide +kernel)
  obtain ⟨l, hl, -, hev, -⟩ := hlost
  have hs : dozing = dozing.setLane .A l := Host.Outcome.next.inj (exec_cacheUncorrectableError_dozing.symm.trans hl)
  have he := congrArg (fun t => (t.lane .A).events.length) hs
  rw [State.lane_setLane_same, hev] at he
  simp at he
end Sys2Proof.Machine
end

section
/-! SUPPORT. Writes of a page's register by the commands of R51 to R62. -/
namespace Sys2Proof.Machine
open Sys2Proof

namespace State
variable {s : State} {x : Lane} {g : Agent} {a : Nat} {v : Word}

/-- A write of a register of a lane page, as a command of its own makes it. -/
theorem pageWrite_eq (ha : (s.lane x).alive = true) (hp : (pageInfo a).isSome = true) :
    s.pageWrite x g a v = s.access x g ⟨a, 4, some (v.setWidth 64)⟩ 0 false := if_pos ⟨hp, ha⟩

/-- Such a command changes the lane as the register's write says, and the agent has its answer. -/
theorem yields_pageWrite {c : Instr} {f : LaneState → LaneState} {Q : State → Prop}
    (hc : exec c s = done (s.pageWrite x g a v)) (ha : (s.lane x).alive = true) (hp : (pageInfo a).isSome = true)
    (hr : regionOf x a = .lanePage) (hal : aligned a 4 = true) (hw : s.writeReg x g a v = s.modLane x f)
    (hf : (f (s.lane x)).alive = true)
    (hQ : ∀ t : State, t.lane x = (f (s.lane x)).respond g .done → t.lane x.peer = s.lane x.peer → t.bed = s.bed →
      t.brg = s.brg → Q t) : yields c s Q := by
  have hv : (v.setWidth 64 : DWord).extractLsb' 0 32 = v := by
    apply BitVec.eq_of_toNat_eq
    simp [BitVec.extractLsb'_toNat]
    omega
  exact yields_regStore (hc.trans (congrArg done (pageWrite_eq ha hp))) ha hr hal (by rw [hv, hw]) hf hQ

end State
end Sys2Proof.Machine
end

section
/-! SUPPORT and SETTLED. Run control (O14). -/
namespace Sys2Proof.Machine
open Sys2Proof

/-- What a soft reset clears reads as after reset. -/
theorem Table.get_filter_out {V : Type} (d : Nat → V) (t : Table V) (p : Nat × V → Bool) {k : Nat}
    (hp : ∀ v, p (k, v) = false) : Table.get d (t.filter p) k = d k :=
  Table.get_lacks _ _ _ fun e he hk => by
    obtain ⟨j, v⟩ := e
    obtain rfl : j = k := hk
    exact absurd (List.mem_filter.mp he).2 (by simp [hp])

theorem RegFile.rd_clear_own (rf : RegFile) {p : Nat → Bool} {a : Nat} (hp : p a = true) :
    (rf.clear p).rd a = regReset rf.own a := Table.get_filter_out _ _ _ fun _ => by simp [hp]

/-- A page of a lane whose BLKCTRL is written like any register of it. -/
def runPage (page : Nat) : Bool :=
  regFields (R.blkctrl (page * 0x1000)) == [⟨0, 1, .rw, .any⟩, ⟨1, 1, .wo, .any⟩] &&
    neverBlocked (R.blkctrl (page * 0x1000)) && LaneState.plainReg (R.blkctrl (page * 0x1000)) && !alwaysRuns page && page != 0x40008

namespace LaneState
variable {l : LaneState} {page now : Nat} {v : Word} {f : LaneState → Word → LaneState}

/-- A write of BLKCTRL sets RUN; SRST is acted on. -/
theorem command_blkctrl (hp : runPage page = true) (ha : l.alive = true)
    (hb : l.blockFenced (R.blkctrl (page * 0x1000)) = false) (hl : l.lockSeq = []) :
    ∃ e, getBits e 1 1 = getBits v 1 1 ∧
      l.command (R.blkctrl (page * 0x1000)) v f = f (l.put (F.run (page * 0x1000)) (getBits v 0 1)) e := by
  simp only [runPage, Bool.and_eq_true, beq_iff_eq] at hp
  obtain ⟨⟨⟨⟨hf, hn⟩, hr⟩, -⟩, -⟩ := hp
  obtain ⟨hfile, hclamp, heff⟩ := RegFile.write_blkctrl (rf := l.regs) (w := v) (c := l.writeCtx (R.blkctrl (page * 0x1000)))
    hf (blockHi_writeCtx hn)
  refine ⟨_, heff, ?_⟩
  rw [command_live _ _ _ _ ha hb, regWrite_unclamped hl hr hclamp]
  exact congrArg (fun r => f (l.withRegs r) _) hfile

theorem blkctrlWrite_eq (hp : runPage page = true) (ha : l.alive = true)
    (hb : l.blockFenced (R.blkctrl (page * 0x1000)) = false) (hl : l.lockSeq = [])
    (hs : (l.get (F.run (page * 0x1000)) = 1 → getBits v 0 1 = 0 → l.blockStopAsked page now = l)) :
    l.blkctrlWrite page now v =
      (let m := l.put (F.run (page * 0x1000)) (getBits v 0 1)
       let m := if m.get (F.run (page * 0x1000)) = 1 ∧ l.get (F.run (page * 0x1000)) = 0 then m.blockStart page else m
       if getBits v 1 1 = 1 then m.softReset page now else m) := by
  obtain ⟨e, he, hcmd⟩ := command_blkctrl (v := v) (f := fun m e =>
      let m := if alwaysRuns page then m
        else if m.get (F.run (page * 0x1000)) = 1 ∧ (l.get (F.run (page * 0x1000)) = 0 ∨ page = 0x40008) then m.blockStart page
        else m
      if getBits e 1 1 = 1 then m.softReset page now else m) hp ha hb hl
  simp only [runPage, Bool.and_eq_true, Bool.not_eq_true', bne_iff_ne] at hp
  obtain ⟨⟨-, hnr⟩, hle⟩ := hp
  have hfrozen : (if l.get (F.run (page * 0x1000)) = 1 ∧ getBits v 0 1 = 0 ∧ !l.blockFenced (page * 0x1000) ∧ l.alive then
      l.blockStopAsked page now else l) = l := by
    split
    · next h => exact hs h.1 h.2.1
    · rfl
  unfold blkctrlWrite
  simp only [hfrozen]
  rw [hcmd, he]
  simp [hnr, hle]

/-- A block that does not run starts at once (R51). -/
theorem blkctrlWrite_hspi_run (ha : l.alive = true) (hb : l.blockFenced P.HSPI = false) (hl : l.lockSeq = [])
    (hrun : l.get (F.run P.HSPI) = 0) (hrunning : l.get (F.running P.HSPI) = 0) :
    l.blkctrlWrite 0x40033 now 1 = (l.put (F.run P.HSPI) 1).put (F.running P.HSPI) 1 := by
  rw [blkctrlWrite_eq (page := 0x40033) (by decide) ha hb hl fun _ _ => rfl]
  have hset : (l.put (F.run P.HSPI) 1).get (F.run P.HSPI) = 1 := get_put_same _ _ _ (by decide)
  have hstay : (l.put (F.run P.HSPI) 1).get (F.running P.HSPI) = 0 := (get_put_ne _ _ _ _ (by decide)).trans hrunning
  have hstart : (l.put (F.run P.HSPI) 1).blockStart 0x40033 = (l.put (F.run P.HSPI) 1).put (F.running P.HSPI) 1 := by
    have hn : ¬(l.put (F.run P.HSPI) 1).get (F.running P.HSPI) = 1 := by omega
    exact if_neg hn
  exact (if_neg (by decide)).trans ((if_pos ⟨hset, hrun⟩).trans hstart)

/-- RUN = 0 asks for a stop, which is not complete yet (R53). -/
theorem blkctrlWrite_hspi_stop (ha : l.alive = true) (hb : l.blockFenced P.HSPI = false) (hl : l.lockSeq = [])
    (hrun : l.get (F.run P.HSPI) = 1) : l.blkctrlWrite 0x40033 now 0 = l.put (F.run P.HSPI) 0 := by
  rw [blkctrlWrite_eq (page := 0x40033) (by decide) ha hb hl fun _ _ => rfl]
  exact (if_neg (by decide)).trans (if_neg fun h => absurd (hrun.symm.trans h.2) (by decide))

/-- A stop that was asked for completes. -/
theorem blockStopped_hspi (ha : l.alive = true) (hrun : l.get (F.run P.HSPI) = 0) (hrunning : l.get (F.running P.HSPI) = 1) :
    l.blockStopped 0x40033 = l.put (F.running P.HSPI) 0 := by
  have hn : ¬((!l.alive) = true ∨ alwaysRuns 0x40033 = true ∨ l.get (F.run P.HSPI) = 1 ∨ l.get (F.running P.HSPI) = 0) := by
    have hr : alwaysRuns 0x40033 = false := by decide
    simp [ha, hr, hrun, hrunning]
  exact (if_neg hn).trans (if_pos (by decide))

/-- SRST with RUN as it stands: RUN keeps its value, and the page is reset. -/
theorem blkctrlWrite_gpio_srst (ha : l.alive = true) (hb : l.blockFenced P.GPIO = false) (hl : l.lockSeq = []) :
    l.blkctrlWrite 0x40035 now (BitVec.ofNat 32 (2 + l.get (F.run P.GPIO))) =
      (l.put (F.run P.GPIO) (l.get (F.run P.GPIO))).softReset 0x40035 now := by
  have hlt : l.get (F.run P.GPIO) < 2 := get_lt l _
  have hv : getBits (BitVec.ofNat 32 (2 + l.get (F.run P.GPIO))) 0 1 = l.get (F.run P.GPIO) ∧
      getBits (BitVec.ofNat 32 (2 + l.get (F.run P.GPIO))) 1 1 = 1 := by
    generalize l.get (F.run P.GPIO) = r at hlt
    interval_cases r <;> decide
  rw [blkctrlWrite_eq (page := 0x40035) (by decide) ha hb hl fun (h : l.get (F.run P.GPIO) = 1) h' =>
    absurd (hv.1.symm.trans h') (by rw [h]; decide), hv.1]
  have hset : (l.put (F.run P.GPIO) (l.get (F.run P.GPIO))).get (F.run P.GPIO) = l.get (F.run P.GPIO) :=
    (get_put_same _ _ _ (by decide)).trans (Nat.mod_eq_of_lt hlt)
  refine (if_pos hv.2).trans (congrArg (softReset · 0x40035 now) (if_neg ?_))
  rintro ⟨h1, h0⟩
  exact absurd (h0.symm.trans (hset.symm.trans h1)) (by decide)

/-- A soft reset of a locked page is ignored (R52). -/
theorem softReset_locked (h : l.get (F.locked (page * 0x1000)) = 1) :
    l.softReset page now = l.put (F.ignWr (page * 0x1000)) 1 := if_pos h

/-- The registers of GPIO that a soft reset clears. -/
def gpioOwn (a : Nat) : Bool := pageOf a == 0x40035 && decide (0x100 ≤ a % 0x1000)

/-- A soft reset of GPIO: its registers, its latched conditions, and nothing of the memory (R51, R52). -/
theorem softReset_gpio (h : l.get (F.locked P.GPIO) = 0) :
    (l.softReset 0x40035 now).regs = ((l.regs.clear gpioOwn).wr (R.irqRaw P.GPIO) 0).wr (R.irqStat P.GPIO) 0 ∧
    (l.softReset 0x40035 now).mem = l.mem ∧ (l.softReset 0x40035 now).power = l.power := by
  have hn : ¬l.get (F.locked P.GPIO) = 1 := by omega
  rw [show l.softReset 0x40035 now = _ from if_neg hn]
  exact ⟨rfl, rfl, rfl⟩

end LaneState

theorem regionOf_blkctrl (x : Lane) : regionOf x (R.blkctrl P.HSPI) = .lanePage ∧ regionOf x (R.blkctrl P.GPIO) = .lanePage := by
  cases x <;> decide

namespace State
variable {s : State} {x : Lane} {g : Agent} {v : Word}

theorem writeReg_blkctrl_hspi : s.writeReg x g (R.blkctrl P.HSPI) v = s.modLane x (·.blkctrlWrite 0x40033 s.nowUs v) := rfl
theorem writeReg_blkctrl_gpio : s.writeReg x g (R.blkctrl P.GPIO) v = s.modLane x (·.blkctrlWrite 0x40035 s.nowUs v) := rfl

end State

/-- The registers of GPIO from 0x100 upward are those that its soft reset clears. -/
theorem gpio_own {a : Nat} (hlo : P.GPIO + 0x100 ≤ a) (hhi : a < P.GPIO + 0x1000) :
    (a ≠ R.irqRaw P.GPIO ∧ a ≠ R.irqStat P.GPIO) ∧ LaneState.gpioOwn a = true := by
  simp only [P.GPIO, R.irqRaw, R.irqStat, LaneState.gpioOwn, pageOf, Bool.and_eq_true, beq_iff_eq, decide_eq_true_eq] at *
  omega

/-- Settles O14: start and stop of HSPI's block, and the soft reset of GPIO, unlocked and locked. -/
theorem runControl : Obligations.RunControl := by
  unfold Obligations.RunControl
  intro s x g a hgpio hhspi
  obtain ⟨ha, hbG, hl⟩ := LaneState.takes_iff.mp hgpio
  obtain ⟨-, hbH, -⟩ := LaneState.takes_iff.mp hhspi
  have hreset : ∀ (x : Lane) (g : Agent), exec (.softReset x g 0x40035) s = done (s.pageWrite x g (R.blkctrl P.GPIO)
      (BitVec.ofNat 32 (2 + (s.lane x).get (F.run P.GPIO)))) := fun _ _ => rfl
  refine ⟨fun hrun hrunning => ?_, fun hrun hrunning => ?_, fun hrun hrunning => ?_, fun hlock hlo hhi => ?_, fun hlock => ?_⟩
  · have hm := LaneState.blkctrlWrite_hspi_run (now := s.nowUs) ha hbH hl hrun hrunning
    refine State.yields_pageWrite rfl ha (by decide) (regionOf_blkctrl x).1 (by decide) State.writeReg_blkctrl_hspi
      (by rw [hm]; exact ha) fun t ht _ _ _ => ?_
    rw [ht, hm]
    simp only [LaneState.get_respond, LaneState.rd_respond, sameRegs]
    refine ⟨?_, LaneState.get_put_same _ _ _ (by decide), fun q hq => ?_⟩
    · rw [LaneState.get_put_ne _ _ _ _ (by decide)]
      exact LaneState.get_put_same _ _ _ (by decide)
    · rw [LaneState.rd_put_ne _ _ _ fun h => hq (.inr h), LaneState.rd_put_ne _ _ _ fun h => hq (.inl h)]
  · have hm := LaneState.blkctrlWrite_hspi_stop (now := s.nowUs) ha hbH hl hrun
    refine State.yields_pageWrite rfl ha (by decide) (regionOf_blkctrl x).1 (by decide) State.writeReg_blkctrl_hspi
      (by rw [hm]; exact ha) fun t ht _ _ _ => ?_
    rw [ht, hm]
    simp only [LaneState.get_respond, LaneState.rd_respond, sameRegs]
    exact ⟨LaneState.get_put_same _ _ _ (by decide), (LaneState.get_put_ne _ _ _ _ (by decide)).trans hrunning,
      fun q hq => LaneState.rd_put_ne _ _ _ hq⟩
  · exact yieldsLane_of_onLane (f := (·.blockStopped 0x40033)) rfl (LaneState.blockStopped_hspi ha hrun hrunning)
      ⟨LaneState.get_put_same _ _ 0 (by decide), fun q hq => LaneState.rd_put_ne _ (F.running P.HSPI) _ hq,
        rfl⟩
  · have hm := LaneState.blkctrlWrite_gpio_srst (now := s.nowUs) ha hbG hl
    set m := (s.lane x).put (F.run P.GPIO) ((s.lane x).get (F.run P.GPIO)) with hput
    have hlock' : m.get (F.locked P.GPIO) = 0 := (LaneState.get_put_ne _ _ _ _ (by decide)).trans hlock
    obtain ⟨hregs, hmem, hpow⟩ := LaneState.softReset_gpio (now := s.nowUs) hlock'
    refine State.yields_pageWrite (hreset x g) ha (by decide) (regionOf_blkctrl x).2 (by decide) State.writeReg_blkctrl_gpio
      ((congrArg LaneState.alive hm).trans ((LaneState.alive_of_power hpow).trans ha)) fun t ht _ _ _ => ?_
    rw [hm] at ht
    have hrd : ∀ q, (t.lane x).rd q = (((m.regs.clear LaneState.gpioOwn).wr (R.irqRaw P.GPIO) 0).wr (R.irqStat P.GPIO) 0).rd q :=
      fun q => by
        rw [ht, LaneState.rd_respond]
        exact congrArg (RegFile.rd · q) hregs
    refine ⟨?_, ?_, ?_, ?_, ?_⟩
    · obtain ⟨hne, hown⟩ := gpio_own hlo hhi
      rw [hrd, RegFile.rd_wr_ne _ _ hne.2, RegFile.rd_wr_ne _ _ hne.1, RegFile.rd_clear_own _ hown]
      rfl
    · rw [hrd, RegFile.rd_wr_ne _ _ (by decide), RegFile.rd_wr_same]
    · rw [hrd, RegFile.rd_wr_same]
    · rw [LaneState.get_eq_rd, hrd, RegFile.rd_wr_ne _ _ (by decide), RegFile.rd_wr_ne _ _ (by decide),
        RegFile.rd_clear _ (by decide)]
      exact (LaneState.get_put_same _ (F.run P.GPIO) _ (by decide)).trans (Nat.mod_eq_of_lt (LaneState.get_lt _ _))
    · rw [ht, LaneState.mem_respond, hmem]
      rfl
  · have hm := LaneState.blkctrlWrite_gpio_srst (now := s.nowUs) ha hbG hl
    rw [LaneState.softReset_locked ((LaneState.get_put_ne _ _ _ _ (by decide)).trans hlock)] at hm
    refine State.yields_pageWrite (hreset x g) ha (by decide) (regionOf_blkctrl x).2 (by decide) State.writeReg_blkctrl_gpio
      ((congrArg LaneState.alive hm).trans ha) fun t ht _ _ _ => ?_
    rw [ht, hm]
    simp only [LaneState.get_respond, LaneState.rd_respond, sameRegs]
    refine ⟨LaneState.get_put_same _ _ _ (by decide), fun q hq => ?_⟩
    exact (LaneState.rd_put_ne _ _ _ fun h => hq (.inl h)).trans (LaneState.rd_put_ne _ _ _ fun h => hq (.inr h))
end Sys2Proof.Machine
end

section
/-! SUPPORT and SETTLED. The lock sequence and the counters of 64 bits (O15). -/
namespace Sys2Proof.Machine
open Sys2Proof

/-! ### LOCKKEY (R59) -/

theorem lockKey_begins {rf : RegFile} {page : Nat} (h : rf.get (F.locked (page * 0x1000)) = 0) :
    lockKey rf [] page 0xA55A = (rf, [page], false) := by
  simp [lockKey, h, insertNat]

theorem lockKey_locks {rf : RegFile} {page : Nat} (h : rf.get (F.locked (page * 0x1000)) = 0) :
    lockKey rf [page] page 0x5AA5 =
      ((rf.put (F.locked (page * 0x1000)) 1).wr (R.lockKey (page * 0x1000)) 1, [], false) := by
  simp [lockKey, h]

namespace LaneState
variable {l : LaneState} {page : Nat}

/-- The first word of the sequence begins it, and changes no register. -/
theorem lockKeyWrite_begins (h : l.get (F.locked (page * 0x1000)) = 0) (hl : l.lockSeq = []) :
    l.lockKeyWrite page 0xA55A = { l with lockSeq := [page] } := by
  simp only [lockKeyWrite, hl, lockKey_begins (rf := l.regs) h]
  rfl

/-- The second word locks the page. -/
theorem lockKeyWrite_locks (h : l.get (F.locked (page * 0x1000)) = 0) (hl : l.lockSeq = [page]) :
    l.lockKeyWrite page 0x5AA5 =
      { (l.put (F.locked (page * 0x1000)) 1).wr (R.lockKey (page * 0x1000)) 1 with lockSeq := [] } := by
  simp only [lockKeyWrite, hl, lockKey_locks (rf := l.regs) h]
  rfl

/-- A write of LOCKKEY on a lane page whose block is not isolated. -/
theorem writeReg_lockKey_gpio {s : State} {x : Lane} {g : Agent} {v : Word} :
    s.writeReg x g (R.lockKey P.GPIO) v = s.modLane x fun l =>
      if l.blockFenced (R.lockKey P.GPIO) then l.put (F.ignWr P.GPIO) 1 else l.lockKeyWrite 0x40035 v := rfl

theorem gpio_lockKey {v : Word} (hb : l.blockFenced P.GPIO = false) :
    (if l.blockFenced (R.lockKey P.GPIO) then l.put (F.ignWr P.GPIO) 1 else l.lockKeyWrite 0x40035 v) =
      l.lockKeyWrite 0x40035 v :=
  if_neg (Bool.eq_false_iff.mp hb)

end LaneState

/-! ### Counters (R61, R62) -/

namespace State
variable {s : State} {x : Lane} {g : Agent}

/-- A transfer engine's access leaves the bus's answer. -/
theorem lane_access_xfr {ac : Access} {b : Byte} {log : Bool} (hl : ((s.bus x .xfr ac b).1.lane x).alive = true) :
    (s.access x .xfr ac b log).lane x = ((s.bus x .xfr ac b).1.lane x).respond .xfr (s.bus x .xfr ac b).2 := by
  rw [access, lane_modLane_same, if_pos hl]
  rfl

/-- A read of the low half of FN keeps the high half for the agent. -/
theorem bus_read_fn (ha : (s.lane x).alive = true) (hb : (s.lane x).blockFenced P.LE = false) :
    s.bus x g ⟨R.LE_FN_LO, 4, none⟩ 0 = ((s.setLane x ((s.lane x).setReadShadow g R.LE_FN_LO
      ((s.lane x).rd R.LE_FN_HI))).freeNext, .data (((s.lane x).rd R.LE_FN_LO).setWidth 64)) := by
  have hr : regionOf x R.LE_FN_LO = .lanePage := by cases x <;> decide
  have hf : (s.lane x).fencedRead R.LE_FN_LO = false := by
    have hb' : (s.lane x).blockFenced R.LE_FN_LO = false := hb
    simp [LaneState.fencedRead, hb']
  have hread : s.readReg x g R.LE_FN_LO = (s.setLane x ((s.lane x).setReadShadow g R.LE_FN_LO
      ((s.lane x).rd R.LE_FN_HI)), (s.lane x).rd R.LE_FN_LO) := rfl
  have hal : aligned R.LE_FN_LO 4 = true := by decide
  simp [bus, busRead, ha, hr, hf, hal, hread, BitVec.ofNat_toNat]

end State

/-- The one field of a half of SETPT. -/
def wordField : FieldRow := ⟨0, 32, .rw, .any⟩

theorem oneField_wordField {rf : RegFile} {a : Nat} {w : Word} : rf.oneField a w wordField = w := by
  apply BitVec.eq_of_getLsbD_eq
  intro i hi
  rw [RegFile.oneField, setBits_getLsbD _ _ _ _ _ (by decide)]
  show (if 0 ≤ i ∧ i < 0 + 32 then (getBits w 0 32).testBit (i - 0) else _) = _
  rw [if_pos (by omega), getBits_testBit]
  simp [hi]

/-- The addresses of SETPT: what the bus and the register's page make of a write there. -/
theorem setpt_addr (k : Fin 32) :
    (R.LE_SETPT_HI k.val - 4 = R.LE_SETPT_LO k.val ∧ R.LE_SETPT_LO k.val + 4 = R.LE_SETPT_HI k.val) ∧
    counterWritable (R.LE_SETPT_LO k.val) = true ∧ counterWritable (R.LE_SETPT_HI k.val) = false ∧
    instAt 32 R.LE_SETPT_LO (R.LE_SETPT_LO k.val) = some k.val ∧
    ∀ a, a = R.LE_SETPT_LO k.val ∨ a = R.LE_SETPT_HI k.val → pageOf a = 0x40008 ∧ 0x100 ≤ a % 0x1000 ∧
      regFields a = [wordField] ∧ neverBlocked a = true ∧ LaneState.plainReg a = true ∧ blockOf a = blockOf P.LE ∧
      (pageInfo a).isSome = true ∧ aligned a 4 = true ∧ regionOf .A a = .lanePage ∧ regionOf .B a = .lanePage := by
  refine ⟨⟨by simp only [R.LE_SETPT_LO, R.LE_SETPT_HI]; omega, by simp only [R.LE_SETPT_LO, R.LE_SETPT_HI]; omega⟩,
    ?_, ?_, ?_, ?_⟩
  · decide +revert
  · decide +revert
  · decide +revert
  · rintro a (rfl | rfl)
    · decide +revert
    · decide +revert

/-- A half of SETPT. -/
def isSetpt (k : Fin 32) (a : Nat) : Prop := a = R.LE_SETPT_LO k.val ∨ a = R.LE_SETPT_HI k.val

namespace LaneState
variable {l : LaneState} {k : Fin 32} {a : Nat} {w : Word}

theorem blockFenced_setpt (ha : isSetpt k a) : l.blockFenced a = l.blockFenced P.LE := by
  obtain ⟨-, -, -, -, haddr⟩ := setpt_addr k
  obtain ⟨-, -, -, -, -, hb, -⟩ := haddr a ha
  simp only [blockFenced, hb]

theorem writeShadow_setWriteShadow {g : Agent} {b : Nat} : (l.setWriteShadow g b w).writeShadow g b = w := by
  simp [writeShadow, setWriteShadow]

theorem readShadow_setReadShadow {g : Agent} {b : Nat} : (l.setReadShadow g b w).readShadow g b = some w := by
  simp [readShadow, setReadShadow]

theorem response_respond {g : Agent} {r : Resp} : (l.respond g r).response g = r := by
  simp [response, respond]

/-- A write of a half of SETPT stores the word. -/
theorem command_setpt (ha : isSetpt k a) (hal : l.alive = true) (hb : l.blockFenced P.LE = false) (hl : l.lockSeq = []) :
    l.command a w (fun l _ => l) = l.wr a w := by
  obtain ⟨-, -, -, -, haddr⟩ := setpt_addr k
  obtain ⟨-, -, hf, hn, hp, -⟩ := haddr a ha
  obtain ⟨hfile, hclamp⟩ := RegFile.write_oneField (rf := l.regs) (w := w) (c := l.writeCtx a) hf rfl (blockHi_writeCtx hn) rfl
  rw [command_live _ _ _ _ hal ((blockFenced_setpt ha).trans hb), regWrite_unclamped hl hp hclamp, hfile, oneField_wordField]
  rfl

end LaneState

namespace State
variable {s : State} {x : Lane} {g : Agent} {k : Fin 32} {v : Word}

theorem setLane_setLane {l m : LaneState} : (s.setLane x l).setLane x m = s.setLane x m := by cases x <;> rfl

/-- A write of the high word is kept for the agent (R62). -/
theorem writeReg_setptHi : s.writeReg x g (R.LE_SETPT_HI k.val) v = s.modLane x fun l =>
    if l.blockFenced (R.LE_SETPT_HI k.val) then l.put (F.ignWr (pageOf (R.LE_SETPT_HI k.val) * 0x1000)) 1
    else (l.abandonLock (R.LE_SETPT_HI k.val)).setWriteShadow g (R.LE_SETPT_LO k.val) v := by
  obtain ⟨⟨hlo, -⟩, hw, hn, -, haddr⟩ := setpt_addr k
  obtain ⟨hpage, hoff, -⟩ := haddr _ (.inr rfl)
  have hne : ∀ b, pageOf b ≠ 0x40008 → R.LE_SETPT_HI k.val ≠ b := fun b hb e => hb (e ▸ hpage)
  unfold writeReg
  dsimp only
  rw [if_neg (by omega), if_neg (by omega), if_neg (by omega), if_neg (hne _ (by decide)), if_neg (hne _ (by decide)),
    if_neg (hne _ (by decide)), if_neg (hne _ (by decide)), if_neg (by simp [hn]), hlo,
    if_pos ⟨by simp only [R.LE_SETPT_HI]; omega, hw⟩]

/-- A write of the low word sets both halves, and the source that a binding reads (R62, R155). -/
theorem writeReg_setptLo (ha : (s.lane x).alive = true) (hb : (s.lane x).blockFenced P.LE = false)
    (hl : (s.lane x).lockSeq = []) : s.writeReg x g (R.LE_SETPT_LO k.val) v = s.modLane x fun l =>
      ((l.wr (R.LE_SETPT_LO k.val) v).wr (R.LE_SETPT_HI k.val) (l.writeShadow g (R.LE_SETPT_LO k.val))).srcUpdate
        (srcKey 6 k.val 0) (l.writeShadow g (R.LE_SETPT_LO k.val) ++ v) s.nowUs := by
  obtain ⟨⟨-, hhi⟩, hw, -, hinst, haddr⟩ := setpt_addr k
  obtain ⟨hpage, hoff, -⟩ := haddr _ (.inl rfl)
  have hne : ∀ b, pageOf b ≠ 0x40008 → R.LE_SETPT_LO k.val ≠ b := fun b hb e => hb (e ▸ hpage)
  have hcount : s.writeReg x g (R.LE_SETPT_LO k.val) v =
      s.counterWrite x (R.LE_SETPT_LO k.val) v ((s.lane x).writeShadow g (R.LE_SETPT_LO k.val)) := by
    unfold writeReg
    dsimp only
    rw [if_neg (by omega), if_neg (by omega), if_neg (by omega), if_neg (hne _ (by decide)), if_neg (hne _ (by decide)),
      if_neg (hne _ (by decide)), if_neg (hne _ (by decide)), if_pos hw]
  have hcmd : ((s.lane x).command (R.LE_SETPT_LO k.val) v fun l _ => l).command (R.LE_SETPT_HI k.val)
      ((s.lane x).writeShadow g (R.LE_SETPT_LO k.val)) (fun l _ => l) =
      ((s.lane x).wr (R.LE_SETPT_LO k.val) v).wr (R.LE_SETPT_HI k.val) ((s.lane x).writeShadow g (R.LE_SETPT_LO k.val)) := by
    rw [LaneState.command_setpt (k := k) (.inl rfl) ha hb hl]
    exact LaneState.command_setpt (k := k) (.inr rfl) ha hb hl
  have hfenced : (s.lane x).blockFenced (R.LE_SETPT_LO k.val) = false := (LaneState.blockFenced_setpt (.inl rfl)).trans hb
  rw [hcount]
  unfold counterWrite
  simp only [hinst, hfenced, hhi, lane_modLane_same, hcmd]
  have hlive : (((s.lane x).wr (R.LE_SETPT_LO k.val) v).wr (R.LE_SETPT_HI k.val)
      ((s.lane x).writeShadow g (R.LE_SETPT_LO k.val))).alive = true := ha
  simp only [hlive, Bool.not_true, Bool.false_eq_true, or_self, if_false, modLane, lane_setLane_same,
    setLane_setLane, nowUs_setLane, hcmd]

end State

/-- Settles O15: the lock sequence, a read of FN and a write of SETPT. -/
theorem lockAndCounters : Obligations.LockAndCounters := by
  unfold Obligations.LockAndCounters
  intro s x g v k ha
  have hgpio : regionOf x (R.lockKey P.GPIO) = .lanePage := by cases x <;> decide
  refine ⟨fun hb hlock hl => ?_, fun hb hlock hl => ?_, fun hb => ?_, fun ht => ?_, fun ht => ?_⟩
  · refine State.yields_pageWrite rfl ha (by decide) hgpio (by decide) LaneState.writeReg_lockKey_gpio
      (by rw [LaneState.gpio_lockKey hb, LaneState.lockKeyWrite_begins hlock hl]; exact ha) fun t ht _ _ _ => ?_
    rw [ht, LaneState.gpio_lockKey hb, LaneState.lockKeyWrite_begins hlock hl]
    exact ⟨rfl, rfl⟩
  · refine State.yields_pageWrite rfl ha (by decide) hgpio (by decide) LaneState.writeReg_lockKey_gpio
      (by rw [LaneState.gpio_lockKey hb, LaneState.lockKeyWrite_locks hlock hl]; exact ha) fun t ht _ _ _ => ?_
    rw [ht, LaneState.gpio_lockKey hb, LaneState.lockKeyWrite_locks hlock hl]
    refine ⟨?_, rfl, RegFile.rd_wr_same _ _ _, fun q hq => ?_⟩
    · exact (LaneState.get_wr_ne _ _ _ _ (by decide)).trans (LaneState.get_put_same _ (F.locked P.GPIO) 1 (by decide))
    · exact (LaneState.rd_wr_ne _ _ fun h => hq (.inr h)).trans (LaneState.rd_put_ne _ (F.locked P.GPIO) _ fun h => hq (.inl h))
  · have hread := State.bus_read_fn (s := s) (x := x) (g := .xfr) ha hb
    have hlane := State.lane_access_xfr (s := s) (x := x) (ac := ⟨R.LE_FN_LO, 4, none⟩) (b := 0) (log := false)
      (by rw [hread, State.lane_freeNext, State.lane_setLane_same]; exact ha)
    rw [hread] at hlane
    simp only [State.lane_freeNext, State.lane_setLane_same] at hlane
    refine ⟨_, (congrArg done (if_pos ⟨by decide, ha⟩) : execCounterLowRead x .xfr R.LE_FN_LO s = _), ?_⟩
    beta_reduce
    rw [hlane]
    exact ⟨LaneState.readShadow_setReadShadow, LaneState.response_respond, rfl⟩
  · obtain ⟨-, hb, hl⟩ := LaneState.takes_iff.mp ht
    obtain ⟨⟨hlo, -⟩, hw, -, -, haddr⟩ := setpt_addr k
    obtain ⟨-, -, -, -, -, -, hp, hal, hrA, hrB⟩ := haddr _ (.inr rfl)
    have hbk := LaneState.blockFenced_setpt (l := s.lane x) (k := k) (.inr rfl)
    have hc : exec (.counterHighWrite x g (R.LE_SETPT_HI k.val) v) s = done (s.pageWrite x g (R.LE_SETPT_HI k.val) v) :=
      congrArg done (if_pos ⟨by simp only [R.LE_SETPT_HI]; omega, by rw [hlo]; exact hw⟩)
    have hm : (if (s.lane x).blockFenced (R.LE_SETPT_HI k.val) then
          (s.lane x).put (F.ignWr (pageOf (R.LE_SETPT_HI k.val) * 0x1000)) 1
        else ((s.lane x).abandonLock (R.LE_SETPT_HI k.val)).setWriteShadow g (R.LE_SETPT_LO k.val) v) =
        (s.lane x).setWriteShadow g (R.LE_SETPT_LO k.val) v := by
      rw [if_neg (Bool.eq_false_iff.mp (hbk.trans hb)), LaneState.abandonLock_idle hl]
    refine State.yields_pageWrite hc ha hp (by cases x <;> assumption) hal State.writeReg_setptHi (by rw [hm]; exact ha)
      fun t ht _ _ _ => ?_
    rw [ht, hm]
    exact ⟨LaneState.writeShadow_setWriteShadow, rfl⟩
  · obtain ⟨-, hb, hl⟩ := LaneState.takes_iff.mp ht
    obtain ⟨⟨-, hhi⟩, hw, -, -, haddr⟩ := setpt_addr k
    obtain ⟨-, -, -, -, -, -, hp, hal, hrA, hrB⟩ := haddr _ (.inl rfl)
    refine State.yields_pageWrite (congrArg done (if_pos hw)) ha hp (by cases x <;> assumption) hal
      (State.writeReg_setptLo ha hb hl) ha fun t ht _ _ _ => ?_
    rw [ht]
    simp only [LaneState.rd_respond, LaneState.srcUpdate, LaneState.rd_modLoop, sameRegs]
    refine ⟨(LaneState.rd_wr_ne _ _ (by omega)).trans (LaneState.rd_wr_same _ _ _), LaneState.rd_wr_same _ _ _, fun q hq => ?_⟩
    rw [LaneState.rd_wr_ne _ _ fun h => hq (.inr h), LaneState.rd_wr_ne _ _ fun h => hq (.inl h)]
end Sys2Proof.Machine
end

section
/-! SUPPORT and SETTLED. The peer window (O17). -/
namespace Sys2Proof.Machine
open Sys2Proof

/-! ### Tags and addresses -/

/-- A tag of 15 bits as a frame carries it. -/
theorem peerTag_and (t : Fin 32768) : BitVec.ofNat 16 t.val &&& 0x7FFF = BitVec.ofNat 16 t.val := by
  apply BitVec.eq_of_toNat_eq
  have hm : (0x7FFF : Half).toNat = 2 ^ 15 - 1 := rfl
  rw [BitVec.toNat_and, hm, Nat.and_two_pow_sub_one_eq_mod, BitVec.toNat_ofNat]
  omega

/-- Bit 15 of the argument marks a rejected request. -/
theorem peerTag_or (t : Fin 32768) : BitVec.ofNat 16 t.val ||| 0x8000 = BitVec.ofNat 16 (t.val + 0x8000) := by
  apply BitVec.eq_of_toNat_eq
  have hm : (0x8000 : Half).toNat = 2 ^ 15 * 1 := rfl
  rw [BitVec.toNat_or, hm, BitVec.toNat_ofNat, BitVec.toNat_ofNat, Nat.mod_eq_of_lt (by omega), Nat.or_comm,
    ← Nat.two_pow_add_eq_or_of_lt (by omega)]
  omega

theorem peerTag_toNat (t : Fin 32768) :
    (BitVec.ofNat 16 t.val).toNat % 2 ^ 15 = t.val ∧ (BitVec.ofNat 16 t.val).getLsbD 15 = false := by
  rw [BitVec.toNat_ofNat]
  refine ⟨by omega, ?_⟩
  rw [BitVec.getLsbD_ofNat, Nat.testBit_lt_two_pow (by omega), Bool.and_false]

/-- The peer window shows the peer's working SRAM at 0x74000000 (R75). -/
theorem peerAddress_sram {a b : Nat} (ha : 0x74000000 ≤ a ∧ a < 0x78000000) (hb : b = a - 0x64000000) :
    peerAddress a = some b := by
  unfold peerAddress
  rw [if_neg (by omega), if_pos (by omega)]
  exact congrArg some (by omega)

theorem regionOf_peerSram {x : Lane} {a : Nat} (h : 0x74000000 ≤ a ∧ a < 0x78000000) : regionOf x a = .peerWin := by
  unfold regionOf
  repeat rw [if_neg (by omega)]
  rw [if_pos (by omega)]

/-- A word of the peer's working SRAM, in the peer window and in the peer's own space. -/
theorem peerSram_addresses (off : Fin 0x10000) : ∃ a b, 0x74000000 + 4 * off.val = a ∧ 0x10000000 + 4 * off.val = b ∧
    (a % 4 = 0 ∧ b % 4 = 0) ∧ (0x74000000 ≤ a ∧ a + 3 < 0x78000000) ∧ (0x10000000 ≤ b ∧ b < 0x14000000) ∧
    b = a - 0x64000000 := by
  refine ⟨_, _, rfl, rfl, ?_⟩
  omega

theorem regionOf_sram {x : Lane} {a : Nat} (h : inSram a = true) : regionOf x a = .sram := by
  have h := of_decide_eq_true h
  unfold regionOf
  rw [if_neg (by omega), if_pos (by omega)]

theorem aligned_word {a : Nat} (h : a % 4 = 0) : aligned a 4 = true := by simp [aligned, h]

/-! ### Requests of this lane (R75) -/

namespace LaneState
variable {l : LaneState} {g : Agent} {a b : Nat}

theorem llReady_live {typ : Nat} {arg : Half} {pay : List Word} (h : l.fencedBy .llink = false) :
    l.llReady typ arg pay =
      l.withLinks { l.links with ready := l.links.ready ++ [⟨typ, arg, pay, false⟩] } := if_neg (by simp [h])

/-- The links after a request of one word under the next tag. -/
def afterRequest (l : LaneState) (g : Agent) (a b : Nat) : Links :=
  { l.links with
    ready := l.links.ready ++ [⟨3, BitVec.ofNat 16 l.links.peerTag, [BitVec.ofNat 32 b, 0, 1], false⟩]
    peerTag := (l.links.peerTag + 1) % 2 ^ 15
    peerPend := l.links.peerPend ++ [(l.links.peerTag, g, ⟨a, 4, none⟩)] }

theorem peerReadPost_word (hf : l.fencedBy .llink = false) (hu : l.llUp = true) (ha : aligned a 4 = true)
    (hb : peerAddress a = some b) (he : (peerAddress (a + 3)).isSome = true) :
    l.peerReadPost g a 4 = (l.withLinks (l.afterRequest g a b), .waiting) := by
  have hn : (peerAddress (a + 4 - 1)).isNone = false := by
    rw [show a + 4 - 1 = a + 3 from rfl, Option.isNone_eq_false_iff]
    exact he
  simp only [peerReadPost, hb, ha, hn, hu, llReady_live hf]
  rfl

/-- The answer to a pending request completes its access with the word read. -/
theorem peerPend_answered {tag : Nat} {ac : Access} {r : Resp} (hp : l.links.peerPend = [(tag, .xfr, ac)]) :
    { l with links := { l.links with peerPend := l.links.peerPend.erase (tag, .xfr, ac) } }.accessDone .xfr ac r true =
      (l.withLinks { l.links with peerPend := [] }).respond .xfr r := by
  rw [hp, List.erase_cons_head]
  rfl

end LaneState

/-! ### Requests of the peer (R76) -/

namespace State
variable {s : State} {x : Lane} {a : Nat}

theorem peerWords_sram (h : inSram a = true) : s.peerWords x a 1 = some [(s.lane x).dmaWord a] := by
  have hw : s.peerWord x a = some ((s.lane x).dmaWord a) := by
    unfold peerWord
    rw [regionOf_sram h]
  simp [peerWords, hw]

/-- A read of one word in the peer window goes out under the next tag, and the transfer engine waits. -/
theorem yields_peerWindowRead {b : Nat} {Q : State → Prop} (ha : (s.lane x).alive = true) (hu : (s.lane x).llUp = true)
    (hf : (s.lane x).fencedBy .llink = false) (hal : a % 4 = 0) (hw : 0x74000000 ≤ a ∧ a + 3 < 0x78000000)
    (hb : b = a - 0x64000000)
    (hQ : ∀ t : State, t.lane x = ((s.lane x).withLinks ((s.lane x).afterRequest .xfr a b)).respond .xfr .waiting → Q t) :
    yields (.peerWindowRead x .xfr ⟨a, 4, none⟩) s Q := by
  have hr : regionOf x a = .peerWin := regionOf_peerSram (by omega)
  have hpost := LaneState.peerReadPost_word (g := .xfr) hf hu (aligned_word hal) (peerAddress_sram (by omega) hb)
    (Option.isSome_of_mem (peerAddress_sram (by omega) rfl))
  have hbus : s.bus x .xfr ⟨a, 4, none⟩ 0 =
      (s.setLane x ((s.lane x).withLinks ((s.lane x).afterRequest .xfr a b)), .waiting) := by
    simp only [bus, busRead, ha, hr, hpost]
    rfl
  have hlane := lane_access_xfr (s := s) (x := x) (ac := ⟨a, 4, none⟩) (b := 0) (log := false)
    (by rw [hbus, lane_setLane_same]; exact ha)
  rw [hbus, lane_setLane_same] at hlane
  exact ⟨_, congrArg done (if_pos ⟨hr, ha⟩), hQ _ hlane⟩

/-- What a lane answers to a request of its peer. -/
theorem yields_peerRdReq {tag : Half} {lo hi n : Word} {ws : Option (List Word)} {Q : State → Prop}
    (ha : (s.lane x).alive = true) (hu : (s.lane x).llUp = true) (hf : (s.lane x).fencedBy .llink = false)
    (haddr : lo.toNat + hi.toNat * 2 ^ 32 = a)
    (hh : ¬(inSram a = true ∧ n.toNat ≤ 64 ∧ (s.lane x).heldU a (4 * n.toNat) = true))
    (hws : (if a % 4 = 0 ∧ 1 ≤ n.toNat ∧ n.toNat ≤ 64 then s.peerWords x a n.toNat else none) = ws)
    (hQ : ∀ t : State, t.lane x = (s.lane x).withLinks { (s.lane x).links with ready := (s.lane x).links.ready ++
      [match ws with
        | some ws => ⟨4, tag &&& 0x7FFF, ws, false⟩
        | none => ⟨4, tag ||| 0x8000, [0xFFFFFFFF], false⟩] } → Q t) :
    yields (.peerRdReqReceived x tag lo hi n) s Q := by
  refine ⟨_, rfl, hQ _ ?_⟩
  have hlive : ¬((!(s.lane x).alive) = true ∨ (!(s.lane x).llUp) = true) := by simp [ha, hu]
  simp only [haddr, if_neg hlive, if_neg hh, hws, LaneState.llReady_live hf, lane_freeNext, lane_setLane_same]
  cases ws <;> rfl

end State

/-- A response of one word to the pending request completes the transfer engine's read (R75). -/
theorem yieldsLane_peerRdRsp {s : State} {x : Lane} {tag : Fin 32768} {ac : Access} {w : Word} {Q : LaneState → Prop}
    (ha : (s.lane x).alive = true) (hu : (s.lane x).llUp = true) (hp : (s.lane x).links.peerPend = [(tag.val, .xfr, ac)])
    (hs : ac.size = 4)
    (hQ : Q (((s.lane x).withLinks { (s.lane x).links with peerPend := [] }).respond .xfr (.data (w.setWidth 64)))) :
    yieldsLane x (.peerRdRspReceived x (BitVec.ofNat 16 tag.val) [w]) s Q := by
  obtain ⟨htag, hbit⟩ := peerTag_toNat tag
  have hfind : ((s.lane x).links.peerPend.find? fun e => e.1 == (BitVec.ofNat 16 tag.val).toNat % 2 ^ 15) =
      some (tag.val, .xfr, ac) := by rw [hp, htag, List.find?_cons_of_pos (by simp)]
  have hv : ([w].getD 1 0 ++ [w].getD 0 0 : DWord) = w.setWidth 64 := by
    apply BitVec.eq_of_toNat_eq
    rw [BitVec.toNat_append, BitVec.toNat_setWidth, Nat.mod_eq_of_lt (by omega)]
    simp
  refine yieldsLane_of_onLane rfl ?_ hQ
  rw [hfind]
  dsimp only
  rw [if_neg (by simp [ha, hu]), hv, hbit, hs]
  exact LaneState.peerPend_answered hp

/-- A pending request whose time is over ends with an error (R75). -/
theorem yieldsLane_peerReadTimeout {s : State} {x : Lane} {tag : Nat} {ac : Access} {Q : LaneState → Prop}
    (hp : (s.lane x).links.peerPend = [(tag, .xfr, ac)])
    (hQ : Q (((s.lane x).withLinks { (s.lane x).links with peerPend := [] }).respond .xfr .error)) :
    yieldsLane x (.peerReadTimeout x .xfr) s Q := by
  have hfind : ((s.lane x).links.peerPend.find? fun e => decide (e.2.1 = .xfr)) = some (tag, .xfr, ac) := by
    rw [hp, List.find?_cons_of_pos (by simp)]
  refine yieldsLane_of_onLane rfl ?_ hQ
  rw [hfind]
  exact LaneState.peerPend_answered hp

/-- Settles O17: a read of the peer's SRAM, the answers to the peer, and the two ends of a pending read. -/
theorem peerWindow : Obligations.PeerWindow := by
  unfold Obligations.PeerWindow
  intro s x off ac tag w ha hu
  obtain ⟨a, b, hwin, hsram, ⟨hal, hbl⟩, hwb, hbb, hab⟩ := peerSram_addresses off
  simp only [hwin, hsram]
  have haddr : (BitVec.ofNat 32 b).toNat + (0 : Word).toNat * 2 ^ 32 = b := by
    rw [BitVec.toNat_ofNat, Nat.mod_eq_of_lt (by omega)]
    rfl
  have hin : inSram b = true := decide_eq_true hbb
  refine ⟨fun hf => ?_, fun hf hh => ?_, fun hf => ?_, fun hp hs => ?_, fun hp => ?_⟩
  · refine State.yields_peerWindowRead (b := b) ha hu hf hal hwb hab fun t ht => ?_
    rw [ht]
    exact ⟨rfl, rfl, rfl, LaneState.response_respond, rfl⟩
  · refine State.yields_peerRdReq ha hu hf haddr (fun h => absurd h.2.2 (by simp [hh]))
      ((if_pos ⟨hbl, by decide⟩).trans (State.peerWords_sram hin)) fun t ht => ?_
    rw [ht, peerTag_and]
    exact ⟨rfl, rfl, rfl⟩
  · refine State.yields_peerRdReq ha hu hf haddr (fun h => absurd h.2.1 (by decide))
      (if_neg fun h => absurd h.2.2 (by decide)) fun t ht => ?_
    rw [ht, peerTag_or]
    rfl
  · exact yieldsLane_peerRdRsp ha hu hp hs ⟨rfl, LaneState.response_respond, rfl, rfl⟩
  · exact yieldsLane_peerReadTimeout hp ⟨rfl, LaneState.response_respond, rfl, rfl⟩
end Sys2Proof.Machine
end

section
/-! SUPPORT. What an abandoned entry into PARK leaves (R438). -/
namespace Sys2Proof.Machine
open Sys2Proof

/-- What a change of the registers of the page at 0x40002000 and of the power record leaves. -/
structure LaneState.PowerOnly (l m : LaneState) : Prop where
  mem : m.mem = l.mem
  events : m.events = l.events
  fences : m.fences = l.fences
  ports : m.ports = l.ports
  pairs : m.pairs = l.pairs
  l2 : m.l2 = l.l2
  uStores : m.uStores = l.uStores
  id : m.id = l.id
  alive : m.alive = l.alive
  served : m.served = l.served
  rd : ∀ q, pageOf q ≠ 0x40002 → m.rd q = l.rd q

namespace LaneState
variable {l m : LaneState}

theorem id_sendMsg {a : Nat} : (l.sendMsg a).id = l.id := by
  unfold sendMsg
  split <;> rfl

theorem id_irqLatch {b : Nat} {w : Word} : (l.irqLatch b w).id = l.id := by
  unfold irqLatch
  dsimp only
  split
  · rfl
  · exact id_sendMsg

theorem id_countN {b code k : Nat} : (l.countN b code k).id = l.id := by
  unfold countN
  split <;> rfl

theorem power_of_modPower {f : Power → Power} : (l.modPower f).power = f l.power := rfl

theorem powerOnly_refl : l.PowerOnly l := ⟨rfl, rfl, rfl, rfl, rfl, rfl, rfl, rfl, rfl, rfl, fun _ _ => rfl⟩

theorem PowerOnly.trans {n : LaneState} (h : l.PowerOnly m) (h' : m.PowerOnly n) : l.PowerOnly n where
  mem := h'.mem.trans h.mem
  events := h'.events.trans h.events
  fences := h'.fences.trans h.fences
  ports := h'.ports.trans h.ports
  pairs := h'.pairs.trans h.pairs
  l2 := h'.l2.trans h.l2
  uStores := h'.uStores.trans h.uStores
  id := h'.id.trans h.id
  alive := h'.alive.trans h.alive
  served := h'.served.trans h.served
  rd q hq := (h'.rd q hq).trans (h.rd q hq)

theorem wr_powerOnly {a : Nat} {w : Word} (h : pageOf a = 0x40002) : l.PowerOnly (l.wr a w) :=
  ⟨rfl, rfl, rfl, rfl, rfl, rfl, rfl, rfl, rfl, rfl, fun _ hq => rd_wr_ne _ _ fun e => hq (e ▸ h)⟩

theorem put_powerOnly {f : Fld} {v : Nat} (h : pageOf f.addr = 0x40002) : l.PowerOnly (l.put f v) :=
  ⟨rfl, rfl, rfl, rfl, rfl, rfl, rfl, rfl, rfl, rfl, fun _ hq => rd_put_ne _ _ _ fun e => hq (e ▸ h)⟩

theorem bump_powerOnly {f : Fld} {k : Nat} (h : pageOf f.addr = 0x40002) : l.PowerOnly (l.bump f k) :=
  ⟨rfl, rfl, rfl, rfl, rfl, rfl, rfl, rfl, rfl, rfl, fun _ hq => rd_bump_ne _ _ _ fun e => hq (e ▸ h)⟩

theorem irqPulse_powerOnly {w : Word} : l.PowerOnly (l.irqPulse P.PWR w) where
  mem := mem_irqPulse
  events := events_irqPulse
  fences := fences_irqPulse
  ports := ports_irqPulse
  pairs := pairs_irqPulse
  l2 := l2_irqPulse
  uStores := uStores_irqPulse
  id := id_irqLatch
  alive := by simp only [LaneState.alive, power_irqPulse]
  served := by simp only [LaneState.served, power_irqPulse]
  rd q hq := rd_irqPulse _ _ _ fun e => hq (e ▸ (by decide))

theorem count_powerOnly {code : Nat} : l.PowerOnly (l.count P.PWR code) where
  mem := mem_count
  events := events_count
  fences := fences_count
  ports := ports_count
  pairs := pairs_count
  l2 := l2_count
  uStores := uStores_count
  id := id_countN
  alive := by simp only [LaneState.alive, power_count]
  served := by simp only [LaneState.served, power_count]
  rd q hq := rd_count _ _ _ fun e => hq (e ▸ (by decide))

/-- A change of the power record that leaves the supply and the start-up. -/
theorem modPower_powerOnly {f : Power → Power} (hh : (f l.power).held = l.power.held)
    (hr : (f l.power).railsOff = l.power.railsOff) (hb : (f l.power).boot = l.power.boot) : l.PowerOnly (l.modPower f) where
  mem := rfl
  events := rfl
  fences := rfl
  ports := rfl
  pairs := rfl
  l2 := rfl
  uStores := rfl
  id := rfl
  alive := by simp only [LaneState.alive, power_of_modPower, hh, hr]
  served := by simp only [LaneState.served, power_of_modPower, hb]
  rd _ _ := rfl

/-- The end of an entry is recorded in the page's own registers. -/
theorem entryEnds_powerOnly {target reason refuser : Nat} : l.PowerOnly (l.entryEnds target reason refuser) := by
  have hcounter : (if reason = 1 then F.PWR_PSCNT_REFUSED else F.PWR_PSCNT_ABORTED).addr = R.PWR_PSCNT := by
    split <;> rfl
  unfold entryEnds
  refine PowerOnly.trans ?_ count_powerOnly
  refine PowerOnly.trans ?_ irqPulse_powerOnly
  refine PowerOnly.trans ?_ (modPower_powerOnly rfl rfl rfl)
  refine PowerOnly.trans ?_ (put_powerOnly (by decide))
  exact PowerOnly.trans (bump_powerOnly (hcounter ▸ by decide)) (wr_powerOnly (by decide))

/-- The host's frame, or the debugger, ends an entry into PARK and changes nothing else. -/
theorem parkAbort_powerOnly {who : Stopper} : l.PowerOnly (l.parkAbort who) := by
  unfold parkAbort
  split
  · exact ⟨rfl, rfl, rfl, rfl, rfl, rfl, rfl, rfl, rfl, rfl, fun _ _ => rfl⟩
  · unfold abortEntry
    dsimp only
    split
    · exact powerOnly_refl
    · exact entryEnds_powerOnly

namespace PowerOnly

theorem get (h : l.PowerOnly m) {f : Fld} (hf : pageOf f.addr ≠ 0x40002) : m.get f = l.get f := by
  rw [get_eq_rd, h.rd _ hf, ← get_eq_rd]

theorem blockFenced (h : l.PowerOnly m) {a : Nat} : m.blockFenced a = l.blockFenced a := by
  simp only [LaneState.blockFenced, h.fences]

theorem cline (h : l.PowerOnly m) {p n : Nat} : m.cline p n = l.cline p n := by
  simp only [LaneState.cline, pair, h.pairs]

theorem heldU (h : l.PowerOnly m) {a n : Nat} : m.heldU a n = l.heldU a n := by
  simp only [LaneState.heldU, holderU, h.cline]

theorem dmaByte (h : l.PowerOnly m) {a : Nat} : m.dmaByte a = l.dmaByte a := by
  simp only [LaneState.dmaByte, dirtyLine, byte, h.uStores, h.cline, h.l2, h.mem]

theorem dmaWord (h : l.PowerOnly m) {a : Nat} : m.dmaWord a = l.dmaWord a := by
  simp only [LaneState.dmaWord, dmaLoad, h.dmaByte]

theorem hspiAllows (h : l.PowerOnly m) {a : Nat} {write : Bool} : m.hspiAllows a write = l.hspiAllows a write := by
  have hg : ∀ k < 4, m.get (F.HSPI_HWBASE_BASE k) = l.get (F.HSPI_HWBASE_BASE k) ∧
      m.get (F.HSPI_HWCFG_SIZE k) = l.get (F.HSPI_HWCFG_SIZE k) ∧ m.get (F.HSPI_HWCFG_WR k) = l.get (F.HSPI_HWCFG_WR k) ∧
      m.get (F.HSPI_HWCFG_RD k) = l.get (F.HSPI_HWCFG_RD k) := by
    intro k hk
    exact ⟨h.get (by decide +revert), h.get (by decide +revert), h.get (by decide +revert), h.get (by decide +revert)⟩
  simp only [LaneState.hspiAllows, h.id]
  have hany : ∀ p q : Nat → Bool, (∀ k < 4, p k = q k) → (List.range 4).any p = (List.range 4).any q := fun p q h => by
    simp [List.range_succ, h]
  refine congrArg (_ && ·) (hany _ _ fun k hk => ?_)
  obtain ⟨hb, hs, hw, hr⟩ := hg k hk
  cases write <;> simp only [hb, hs, hw, hr, if_true, if_false, Bool.false_eq_true]

end PowerOnly
end LaneState
end Sys2Proof.Machine
end

section
/-! SUPPORT. The record of a host frame (R353, R355). -/
namespace Sys2Proof.Machine
open Sys2Proof
namespace LaneState
variable {l : LaneState} {f : List (BitVec 8)} {stat : Nat} {data : Word} {done : Prop} [Decidable done]

/-- The first part of a frame's record: the target's own result, HLAST and HADDR. -/
def hspiHead (l : LaneState) (f : List (BitVec 8)) (stat : Nat) (data : Word) (done : Prop) [Decidable done] : LaneState :=
  let h := l.ports.hspi
  let l := { l with ports := { l.ports with hspi := {
    stat := stat, data := data, execd := (h.execd + bit done) % 256, reply := h.replyBytes } } }
  let l := (l.put F.HSPI_HLAST_STAT stat).put F.HSPI_HLAST_CMD (hspiCmd f)
  if 5 ≤ f.length then l.wr R.HSPI_HADDR (BitVec.ofNat 32 (hspiAddr f)) else l

/-- The second part: the counters and conditions of the page. -/
def hspiTally (l : LaneState) (f : List (BitVec 8)) (done : Prop) [Decidable done] : LaneState :=
  let l := if done then (l.bump F.HSPI_HCNT_EXEC 1).count P.HSPI 1
    else ((l.bump F.HSPI_HCNT_REFUSED 1).irqPulse P.HSPI (mbit 1)).count P.HSPI 2
  if done ∧ hspiCmd f = 2 then l.irqPulse P.HSPI (mbit 0) else l

theorem hspiResult_eq : l.hspiResult f stat data =
    (let m := (l.hspiHead f stat data (stat = Hst.ok ∨ stat = Hst.accErr)).hspiTally f (stat = Hst.ok ∨ stat = Hst.accErr)
     if stat = Hst.ok then m else m.raise (m.pageSrc P.HSPI 2)) := rfl

theorem hspiHead_keeps : (l.hspiHead f stat data done).mem = l.mem ∧ (l.hspiHead f stat data done).events = l.events := by
  unfold hspiHead
  dsimp only
  split <;> exact ⟨rfl, rfl⟩

theorem hspiTally_keeps : (l.hspiTally f done).mem = l.mem ∧ (l.hspiTally f done).events = l.events ∧
    (l.hspiTally f done).ports = l.ports := by
  unfold hspiTally
  dsimp only
  split_ifs <;> simp

@[simp] theorem mem_hspiResult : (l.hspiResult f stat data).mem = l.mem := by
  rw [hspiResult_eq]
  dsimp only
  split <;> simp [hspiTally_keeps, hspiHead_keeps]

theorem events_hspiResult : ∃ es, (l.hspiResult f stat data).events = l.events ++ es := by
  rw [hspiResult_eq]
  dsimp only
  split
  · exact ⟨[], by simp [hspiTally_keeps, hspiHead_keeps]⟩
  · exact ⟨_, congrArg (· ++ _) (hspiTally_keeps.2.1.trans hspiHead_keeps.2)⟩

/-- The next frame's reply is the result of this one (R352). -/
theorem ports_hspiResult : (l.hspiResult f stat data).ports.hspi.stat = stat ∧
    (l.hspiResult f stat data).ports.hspi.data = data ∧
    (l.hspiResult f stat data).ports.hspi.reply = l.ports.hspi.replyBytes := by
  have hports : (l.hspiResult f stat data).ports =
      (l.hspiHead f stat data (stat = Hst.ok ∨ stat = Hst.accErr)).ports := by
    rw [hspiResult_eq]
    dsimp only
    split <;> simp [hspiTally_keeps]
  rw [hports]
  unfold hspiHead
  dsimp only
  split <;> exact ⟨rfl, rfl, rfl⟩

/-- A register of the page that the tally does not count in. -/
theorem get_hspiTally_ne {g : Fld} (hc : g.addr ≠ R.HSPI_HCNT) (he : g.addr ≠ R.evtCnt P.HSPI)
    (hi : g.addr ≠ R.irqStat P.HSPI) : (l.hspiTally f done).get g = l.get g := by
  unfold hspiTally
  dsimp only
  split_ifs <;>
    simp only [get_irqPulse _ _ _ _ hi, get_count _ _ _ _ he, get_bump_ne _ F.HSPI_HCNT_EXEC _ _ hc,
      get_bump_ne _ F.HSPI_HCNT_REFUSED _ _ hc]

theorem get_hspiResult {g : Fld} : (l.hspiResult f stat data).get g =
    ((l.hspiHead f stat data (stat = Hst.ok ∨ stat = Hst.accErr)).hspiTally f (stat = Hst.ok ∨ stat = Hst.accErr)).get g := by
  rw [hspiResult_eq]
  dsimp only
  split <;> rfl

theorem get_hspiHead_hcnt {g : Fld} (hg : g.addr = R.HSPI_HCNT) : (l.hspiHead f stat data done).get g = l.get g := by
  have hne : ∀ b, R.HSPI_HCNT ≠ b → g.addr ≠ b := fun b hb e => hb (hg ▸ e)
  unfold hspiHead
  dsimp only
  split
  · rw [get_wr_ne _ _ _ _ (hne _ (by decide)), get_put_ne _ _ _ _ (hne _ (by decide)), get_put_ne _ _ _ _ (hne _ (by decide))]
    rfl
  · rw [get_put_ne _ _ _ _ (hne _ (by decide)), get_put_ne _ _ _ _ (hne _ (by decide))]
    rfl

theorem get_hlast_hspiResult : (l.hspiResult f stat data).get F.HSPI_HLAST_STAT = stat % 2 ^ 8 ∧
    (l.hspiResult f stat data).get F.HSPI_HLAST_CMD = hspiCmd f % 2 ^ 8 := by
  have hhead : ∀ m : LaneState, (if 5 ≤ f.length then m.wr R.HSPI_HADDR (BitVec.ofNat 32 (hspiAddr f)) else m).get
      F.HSPI_HLAST_STAT = m.get F.HSPI_HLAST_STAT ∧ (if 5 ≤ f.length then m.wr R.HSPI_HADDR (BitVec.ofNat 32 (hspiAddr f))
      else m).get F.HSPI_HLAST_CMD = m.get F.HSPI_HLAST_CMD := fun m => by
    split
    · exact ⟨get_wr_ne _ _ _ _ (by decide), get_wr_ne _ _ _ _ (by decide)⟩
    · exact ⟨rfl, rfl⟩
  rw [get_hspiResult, get_hspiResult, get_hspiTally_ne (by decide) (by decide) (by decide),
    get_hspiTally_ne (by decide) (by decide) (by decide)]
  refine ⟨(hhead _).1.trans ?_, (hhead _).2.trans (get_put_same _ _ _ (by decide))⟩
  exact (get_put_disjoint _ F.HSPI_HLAST_CMD F.HSPI_HLAST_STAT _ (by decide) (by decide)).trans
    (get_put_same _ F.HSPI_HLAST_STAT _ (by decide))

/-- An executed frame is counted (R355). -/
theorem get_exec_hspiResult (h : stat = Hst.ok ∨ stat = Hst.accErr) :
    (l.hspiResult f stat data).get F.HSPI_HCNT_EXEC = min (l.get F.HSPI_HCNT_EXEC + 1) 0xFFFF := by
  have hcount : ∀ m : LaneState, ((m.bump F.HSPI_HCNT_EXEC 1).count P.HSPI 1).get F.HSPI_HCNT_EXEC =
      min (m.get F.HSPI_HCNT_EXEC + 1) 0xFFFF := fun m =>
    (get_count _ _ _ _ (by decide)).trans (get_bump_same _ _ _ (by decide))
  rw [get_hspiResult]
  unfold hspiTally
  simp only [h, if_true, true_and]
  split
  · rw [get_irqPulse _ _ _ _ (by decide), hcount, get_hspiHead_hcnt rfl]
  · rw [hcount, get_hspiHead_hcnt rfl]

/-- So is a refused one. -/
theorem get_refused_hspiResult (h : ¬(stat = Hst.ok ∨ stat = Hst.accErr)) :
    (l.hspiResult f stat data).get F.HSPI_HCNT_REFUSED = min (l.get F.HSPI_HCNT_REFUSED + 1) 0xFFFF := by
  rw [get_hspiResult]
  unfold hspiTally
  simp only [h, if_false, false_and]
  rw [get_count _ _ _ _ (by decide), get_irqPulse _ _ _ _ (by decide), get_bump_same _ _ _ (by decide), get_hspiHead_hcnt rfl]
  rfl

end LaneState
end Sys2Proof.Machine
end

section
/-! SUPPORT and SETTLED. Read parity, the debugger's bus and host frames (O18). -/
namespace Sys2Proof.Machine
open Sys2Proof

/-! ### Stores of a lane's memory -/

/-- The value of a load from its bytes. -/
theorem LaneState.load_of_bytes {l : LaneState} {n : Nat} : ∀ {a v : Nat}, (∀ i < n, l.byte (a + i) = BitVec.ofNat 8 (v / 256 ^ i)) →
    l.load a n = v % 256 ^ n := by
  induction n with
  | zero => intro a v _; simp [load, Nat.mod_one]
  | succ n ih =>
    intro a v h
    have htail : l.load (a + 1) n = v / 256 % 256 ^ n := ih fun i hi => by
      rw [Nat.div_div_eq_div_mul, ← Nat.pow_succ', ← h (i + 1) (by omega)]
      congr 1
      omega
    have hhead : (l.byte a).toNat = v % 256 := by
      have h0 := h 0 (by omega)
      rw [Nat.add_zero, Nat.pow_zero, Nat.div_one] at h0
      rw [h0, BitVec.toNat_ofNat]
    rw [load, htail, hhead, Nat.pow_succ', ← Nat.mod_mul]

/-- A load of what a store has written. -/
theorem LaneState.load_store {l : LaneState} {a n v : Nat} : (l.store a n v).load a n = v % 256 ^ n :=
  load_of_bytes fun i hi => byte_store_inside l a n v i hi

theorem LaneState.load_congr {l m : LaneState} (h : ∀ b, m.byte b = l.byte b) {n : Nat} :
    ∀ {a : Nat}, m.load a n = l.load a n := by
  induction n with
  | zero => intro a; rfl
  | succ n ih => intro a; rw [load, load, h, ih]

namespace LaneState
variable {l : LaneState} {a n v : Nat}

/-- A store changes the memory only. -/
theorem store_eq_mem : ∃ m, l.store a n v = { l with mem := m } := by
  induction n generalizing l a v with
  | zero => exact ⟨_, rfl⟩
  | succ n ih => exact ih (l := l.setByte a (BitVec.ofNat 8 v))

theorem power_store : (l.store a n v).power = l.power := by
  obtain ⟨m, hm⟩ := store_eq_mem (l := l) (a := a) (n := n) (v := v)
  rw [hm]

theorem regs_store : (l.store a n v).regs = l.regs := by
  obtain ⟨m, hm⟩ := store_eq_mem (l := l) (a := a) (n := n) (v := v)
  rw [hm]

/-- With no pair's line and no line of L2, a master's store goes to the memory. -/
theorem dmaPut_memory {b : Byte} (hp : l.pairs = []) (hl : l.l2 = []) : l.dmaPut a b = l.setByte a b := by
  have hpair : ∀ p, l.pair p = Pair.reset := fun p => by rw [pair, hp]; rfl
  have hline : ∀ p n, l.cline p n = none := fun p n => by rw [cline, hpair]; rfl
  have hheld : l.holderU (a / 64) = none := by simp [holderU, hline]
  have hshare : ∀ p, l.dmaShare p a b = l := fun p => by
    unfold dmaShare
    rw [hpair]
    dsimp only
    rw [if_neg (by simp [Pair.reset]), hline]
  have hfold : (List.range 4).foldl (fun l p => l.dmaShare p a b) l = l := by simp [List.range_succ, hshare]
  unfold dmaPut
  rw [hheld, if_neg (by simp)]
  unfold dmaByteIn
  rw [hfold]
  dsimp only
  rw [hl]
  rfl

theorem dmaStore_memory (hp : l.pairs = []) (hl : l.l2 = []) : l.dmaStore a n v = l.store a n v := by
  induction n generalizing l a v with
  | zero => rfl
  | succ n ih =>
    rw [dmaStore, store, dmaPut_memory hp hl]
    exact ih hp hl

end LaneState

/-! ### Host frames -/

namespace State
variable {s : State} {x : Lane} {f : List (BitVec 8)} {cmd : Nat}

/-- The state in which a host frame acts: the entry into PARK abandoned (R438). -/
def hostReady (s : State) (x : Lane) : State := s.modLane x (·.parkAbort .host)

theorem hostReady_eq (ha : (s.lane x).alive = true) :
    (s.modLane x fun l => if l.alive then l.parkAbort .host else l) = s.hostReady x := by
  rw [hostReady, modLane, modLane, if_pos ha]

theorem lane_hostReady : (s.hostReady x).lane x = (s.lane x).parkAbort .host := lane_modLane_same _ _ _

theorem hostReady_powerOnly : (s.lane x).PowerOnly ((s.hostReady x).lane x) :=
  lane_hostReady ▸ LaneState.parkAbort_powerOnly

/-- The lane takes the frame: out of reset, its block not isolated, and the command the frame's own. -/
theorem hostReady_takes (ha : (s.lane x).alive = true) (hb : (s.lane x).blockFenced P.HSPI = false)
    (hc : hspiCheck f false = 0 → hspiCmd f = cmd) : ¬((!((s.hostReady x).lane x).alive) = true ∨
      ((s.hostReady x).lane x).blockFenced P.HSPI = true ∨ (hspiCheck f false = 0 ∧ hspiCmd f ≠ cmd)) := by
  have hlive : ((s.hostReady x).lane x).alive = true := hostReady_powerOnly.alive.trans ha
  have hopen : ((s.hostReady x).lane x).blockFenced P.HSPI = false := hostReady_powerOnly.blockFenced.trans hb
  rintro (h | h | ⟨h, hne⟩)
  · simp [hlive] at h
  · simp [hopen] at h
  · exact hne (hc h)

/-- A word read from working SRAM by a master (R79, R352). -/
theorem bus_readSram {g : Agent} {a : Nat} {b : Byte} (ha : (s.lane x).alive = true) (hr : inSram a = true)
    (hin : inSram (a + 3) = true) (hh : (s.lane x).heldU a 4 = false) :
    s.bus x g ⟨a, 4, none⟩ b = (s.freeNext, .data (BitVec.ofNat 64 ((s.lane x).dmaLoad a 4))) := by
  have hin' : inSram (a + 4 - 1) = true := hin
  simp only [bus, busRead, ha, regionOf_sram hr, hin', hh]
  rfl

theorem bus_writeSram {g : Agent} {a : Nat} {v : DWord} {b : Byte} (ha : (s.lane x).alive = true) (hr : inSram a = true)
    (hin : inSram (a + 3) = true) :
    s.bus x g ⟨a, 4, some v⟩ b = (s.modLane x (·.dmaStore a 4 v.toNat), .done) := by
  have hin' : inSram (a + 4 - 1) = true := hin
  simp only [bus, busWrite, ha, regionOf_sram hr, hin']
  rfl

section
variable (ha : (s.lane x).alive = true) (hb : (s.lane x).blockFenced P.HSPI = false)
include ha hb

/-- A NOP (R352). -/
theorem hspiFrame_nop (hc : hspiCheck f false = 0) (hcmd : hspiCmd f = 0) :
    (s.hspiFrame x 0 f false false).lane x = ((s.lane x).parkAbort .host).hspiResult f Hst.ok 0 := by
  unfold hspiFrame
  rw [hostReady_eq ha]
  dsimp only
  rw [if_neg (hostReady_takes ha hb fun _ => hcmd)]
  rw [if_neg (by simp [hc]), if_pos rfl, lane_modLane_same, lane_hostReady]

/-- A frame that fails a check (R353). -/
theorem hspiFrame_refused (hc : hspiCheck f false ≠ 0) :
    (s.hspiFrame x cmd f false false).lane x = ((s.lane x).parkAbort .host).hspiResult f (hspiCheck f false) 0 := by
  unfold hspiFrame
  rw [hostReady_eq ha]
  dsimp only
  rw [if_neg (hostReady_takes ha hb fun h => absurd h hc), if_pos hc, lane_modLane_same, lane_hostReady]

variable (hc : hspiCheck f false = 0) (hs : (s.lane x).served = true)
include hc hs

theorem hspiFrame_read (hcmd : hspiCmd f = 1) (hin : inSram (hspiAddr f) = true) (hend : inSram (hspiAddr f + 3) = true)
    (hh : (s.lane x).heldU (hspiAddr f) 4 = false) (hw : (s.lane x).hspiAllows (hspiAddr f) false = true) :
    (s.hspiFrame x 1 f false false).lane x =
      ((s.lane x).parkAbort .host).hspiResult f Hst.ok ((s.lane x).dmaWord (hspiAddr f)) := by
  have hp := hostReady_powerOnly (s := s) (x := x)
  have hlive := hp.alive.trans ha
  have hbus := bus_readSram (g := .host) (b := 0) hlive hin hend (hp.heldU.trans hh)
  have hword : (BitVec.ofNat 64 (((s.hostReady x).lane x).dmaLoad (hspiAddr f) 4)).extractLsb' 0 32 =
      (s.lane x).dmaWord (hspiAddr f) := by
    rw [← hp.dmaWord]
    apply BitVec.eq_of_toNat_eq
    simp only [LaneState.dmaWord, BitVec.extractLsb'_toNat, BitVec.toNat_ofNat]
    omega
  have hallow : ¬((!((s.hostReady x).lane x).served) = true ∨
      (!((s.hostReady x).lane x).hspiAllows (hspiAddr f) (1 == 2)) = true) := by
    simp [hp.served.trans hs, hp.hspiAllows.trans hw]
  unfold hspiFrame
  rw [hostReady_eq ha]
  dsimp only
  rw [if_neg (hostReady_takes ha hb fun _ => hcmd)]
  rw [if_neg (by simp [hc]), if_neg (by decide), if_neg hallow, if_neg (by simp), if_neg (by decide), if_neg (by decide), hbus,
    lane_modLane_same, lane_freeNext, hlive]
  dsimp only
  rw [if_neg (by decide), hword, lane_hostReady]

theorem hspiFrame_write (hcmd : hspiCmd f = 2) (hin : inSram (hspiAddr f) = true) (hend : inSram (hspiAddr f + 3) = true)
    (hw : (s.lane x).hspiAllows (hspiAddr f) true = true) (hl2 : (s.lane x).l2 = []) (hpairs : (s.lane x).pairs = []) :
    (s.hspiFrame x 2 f false false).lane x = (((s.lane x).parkAbort .host).store (hspiAddr f) 4
      (BitVec.ofNat 64 (hspiData f)).toNat).hspiResult f Hst.ok 0 := by
  have hp := hostReady_powerOnly (s := s) (x := x)
  have hlive := hp.alive.trans ha
  have hbus := bus_writeSram (g := .host) (b := 0) (v := BitVec.ofNat 64 (hspiData f)) hlive hin hend
  have hstore := LaneState.dmaStore_memory (a := hspiAddr f) (n := 4) (v := (BitVec.ofNat 64 (hspiData f)).toNat)
    (hp.pairs.trans hpairs) (hp.l2.trans hl2)
  have hallow : ¬((!((s.hostReady x).lane x).served) = true ∨
      (!((s.hostReady x).lane x).hspiAllows (hspiAddr f) (2 == 2)) = true) := by
    simp [hp.served.trans hs, hp.hspiAllows.trans hw]
  have hstored : (((s.hostReady x).lane x).store (hspiAddr f) 4 (BitVec.ofNat 64 (hspiData f)).toNat).alive = true :=
    (LaneState.alive_of_power LaneState.power_store).trans hlive
  unfold hspiFrame
  rw [hostReady_eq ha]
  dsimp only
  rw [if_neg (hostReady_takes ha hb fun _ => hcmd)]
  rw [if_neg (by simp [hc]), if_neg (by decide), if_neg hallow, if_neg (by simp), if_pos rfl, if_neg (by decide), hbus,
    lane_modLane_same, lane_modLane_same, hstore, hstored]
  dsimp only
  rw [if_neg (by decide), if_neg (by simp), lane_hostReady]

/-- A read of a page's register with bad parity (R63). -/
theorem hspiFrame_badParity (hcmd : hspiCmd f = 1) (hpage : (pageInfo (hspiAddr f)).isSome = true)
    (hw : (s.lane x).hspiAllows (hspiAddr f) false = true) :
    (s.hspiFrame x 1 f false true).lane x =
      (((s.hostReady x).parityRaise x (hspiAddr f)).lane x).hspiResult f Hst.accErr 0 := by
  have hp := hostReady_powerOnly (s := s) (x := x)
  have hallow : ¬((!((s.hostReady x).lane x).served) = true ∨
      (!((s.hostReady x).lane x).hspiAllows (hspiAddr f) (1 == 2)) = true) := by
    simp [hp.served.trans hs, hp.hspiAllows.trans hw]
  unfold hspiFrame
  rw [hostReady_eq ha]
  dsimp only
  rw [if_neg (hostReady_takes ha hb fun _ => hcmd)]
  rw [if_neg (by simp [hc]), if_neg (by decide), if_neg hallow, if_pos ⟨rfl, rfl, hpage⟩, lane_modLane_same]

end

/-- The source of a page's parity error is raised (R63). -/
theorem parityRaise_lanePage {a : Nat} (hr : regionOf x a = .lanePage) :
    s.parityRaise x a = s.modLane x fun l => l.raise (getBits (l.rd (pageOf a * 0x1000 + 0x028)) 0 8 + 1) := by
  unfold parityRaise
  rw [hr]

/-- The debugger stores a dword in a loop-engine memory (R364). -/
theorem bus_writeLe {g : Agent} {k : Nat} {a : Nat} {v : DWord} {b : Byte} (ha : (s.lane x).alive = true)
    (hr : regionOf x a = .le k) (hal : aligned a 8 = true) :
    s.bus x g ⟨a, 8, some v⟩ b = (s.modLane x (·.leWrite a 8 v.toNat b), .done) := by
  simp only [bus, busWrite, ha, hr, hal]
  rfl

/-- A store of the debugger that the lane's bus takes. -/
theorem lane_access_dbg {ac : Access} {b : Byte} {h : LaneState → LaneState}
    (hbus : s.bus x .dbg ac b = (s.modLane x h, .done)) (hl : (h (s.lane x)).alive = true) :
    (s.access x .dbg ac b false).lane x = (h (s.lane x)).respond .dbg .done := by
  rw [access, hbus, lane_modLane_same, lane_modLane_same, if_pos hl, LaneState.accessDone_done]

end State

/-- The lane with its debug module replaced. -/
def LaneState.withDm (l : LaneState) (d : DebugMod) : LaneState := { l with dm := d }

/-- The debug module's own registers are its own (R363). -/
theorem LaneState.sbWrite_eq_dm {l : LaneState} {a : Access} : ∃ d, l.sbWrite a = l.withDm d := by
  unfold sbWrite
  generalize (if a.wdata.isSome then 0x3C else 0x39) = p
  generalize (a.wdata.getD (BitVec.ofNat 64 a.addr)).toNat % 2 ^ 32 = q
  dsimp only
  split <;> exact ⟨_, rfl⟩

namespace LaneState
variable {l : LaneState} {a n v q : Nat} {bad : Byte}

theorem load_leWrite : (l.leWrite a n v bad).load a n = v % 256 ^ n :=
  (load_congr (l := l.store a n v) (m := l.leWrite a n v bad) fun _ => rfl).trans load_store

theorem byte_leWrite_outside (h : q < a ∨ a + n ≤ q) : (l.leWrite a n v bad).byte q = l.byte q :=
  byte_store_outside l a n v q h

theorem regs_leWrite : (l.leWrite a n v bad).regs = l.regs := regs_store

theorem load_respond {g : Agent} {r : Resp} : (l.respond g r).load a n = l.load a n :=
  load_congr (l := l) (m := l.respond g r) fun _ => rfl

end LaneState

/-- The debugger's store of a dword, which changes the memory and the debug module only. -/
theorem State.yields_debugStore {s : State} {x : Lane} {k a : Nat} {v : DWord} {Q : State → Prop}
    (ha : (s.lane x).alive = true) (he : (s.lane x).dm.enabled = true) (hr : regionOf x a = .le k) (hal : aligned a 8 = true)
    (hQ : ∀ (t : State) d,
      t.lane x = (((s.lane x).withDm d).leWrite a 8 v.toNat 0).respond .dbg .done → Q t) :
    yields (.debugSystemBusAccess x ⟨a, 8, some v⟩) s Q := by
  obtain ⟨d, hd⟩ := LaneState.sbWrite_eq_dm (l := s.lane x) (a := ⟨a, 8, some v⟩)
  have hlane : (s.modLane x (·.sbWrite ⟨a, 8, some v⟩)).lane x = (s.lane x).withDm d :=
    (lane_modLane_same _ _ _).trans hd
  have hlive : ((s.lane x).withDm d).alive = true := ha
  have hmod : a % 8 = 0 := by simpa [aligned] using hal
  have hacc := lane_access_dbg (bus_writeLe (s := s.modLane x (·.sbWrite ⟨a, 8, some v⟩)) (g := .dbg) (v := v) (b := 0)
    (by rw [hlane]; exact hlive) hr hal) (by rw [hlane]; exact (LaneState.alive_of_power LaneState.power_store).trans hlive)
  rw [hlane] at hacc
  exact ⟨_, congrArg done ((if_neg (by simp [ha])).trans ((if_neg (by simp [he])).trans
    ((if_neg fun h => h.2 rfl).trans (if_neg fun h => h hmod)))), hQ _ d hacc⟩

/-- Settles O18: bad parity of a read, the debugger's store, and the frames of the host. -/
theorem readParityAndDebugBus : Obligations.ReadParityAndDebugBus := by
  unfold Obligations.ReadParityAndDebugBus
  intro s x v f ha
  have hp := LaneState.parkAbort_powerOnly (l := s.lane x) (who := .host)
  have hgpio : regionOf x P.GPIO = .lanePage ∧ regionOf x R.GPIO_GCFG = .lanePage := by cases x <;> decide
  refine ⟨?_, fun he => ?_, fun hb hc hcmd => ?_, fun hb hc hs hcmd haddr hh hw => ?_,
    fun hb hc hs hcmd haddr hw hl2 hpairs => ?_, fun hb hc hs hcmd haddr hw => ?_, fun hb hlen hcrc => ?_⟩
  · have hn : ¬((!(s.lane x).alive) = true ∨ (pageInfo P.GPIO).isNone = true) := by
      have hpage : (pageInfo P.GPIO).isNone = false := by decide
      simp [ha, hpage]
    refine ⟨_, congrArg done ((if_neg hn).trans (if_neg (by decide))), ?_⟩
    simp only [State.parityRaise_lanePage hgpio.1, State.lane_modLane_same, State.bed_modLane]
    exact ⟨LaneState.response_respond, rfl, rfl, rfl, trivial⟩
  · refine State.yields_debugStore (k := 1) ha he (by cases x <;> decide) (by decide) fun t d ht => ?_
    rw [ht]
    refine ⟨?_, fun q hq => ?_, LaneState.regs_leWrite (bad := 0)⟩
    · rw [LaneState.dword, LaneState.load_respond, LaneState.load_leWrite]
      apply BitVec.eq_of_toNat_eq
      rw [BitVec.toNat_ofNat]
      omega
    · exact LaneState.byte_leWrite_outside (bad := 0) (by omega)
  · refine ⟨_, rfl, ?_⟩
    beta_reduce
    rw [State.hspiFrame_nop ha hb hc hcmd]
    obtain ⟨hstat, hlast⟩ := LaneState.get_hlast_hspiResult (l := (s.lane x).parkAbort .host) (f := f) (stat := Hst.ok) (data := 0)
    refine ⟨?_, hstat, ?_, ?_, ?_⟩
    · rw [LaneState.get_exec_hspiResult (.inl rfl), hp.get (by decide)]
    · rw [hlast, hcmd]
      rfl
    · rw [LaneState.ports_hspiResult.2.2, hp.ports]
    · rw [LaneState.mem_hspiResult, hp.mem]
  · refine ⟨_, rfl, ?_⟩
    beta_reduce
    rw [State.hspiFrame_read ha hb hc hs hcmd (by rw [haddr]; decide) (by rw [haddr]; decide) (by rw [haddr]; exact hh)
      (by rw [haddr]; exact hw), haddr]
    obtain ⟨hstat, hdata, -⟩ := LaneState.ports_hspiResult (l := (s.lane x).parkAbort .host) (f := f) (stat := Hst.ok)
      (data := (s.lane x).dmaWord 0x10000000)
    exact ⟨hdata, hstat, LaneState.mem_hspiResult.trans hp.mem⟩
  · refine ⟨_, rfl, ?_⟩
    beta_reduce
    rw [State.hspiFrame_write ha hb hc hs hcmd (by rw [haddr]; decide) (by rw [haddr]; decide) (by rw [haddr]; exact hw) hl2
      hpairs, haddr]
    set m := ((s.lane x).parkAbort .host).store 0x10000000 4 (BitVec.ofNat 64 (hspiData f)).toNat with hm
    have hbyte : ∀ b, (m.hspiResult f Hst.ok 0).byte b = m.byte b := fun b => by
      simp only [LaneState.byte, LaneState.mem_hspiResult]
    refine ⟨?_, LaneState.ports_hspiResult.1, fun b hbo => ?_⟩
    · rw [LaneState.word, LaneState.load_congr hbyte, hm, LaneState.load_store]
      apply BitVec.eq_of_toNat_eq
      simp only [BitVec.toNat_ofNat]
      omega
    · rw [hbyte, hm, LaneState.byte_store_outside _ _ _ _ _ (by omega)]
      simp only [LaneState.byte, hp.mem]
  · refine ⟨_, rfl, ?_⟩
    beta_reduce
    rw [State.hspiFrame_badParity ha hb hc hs hcmd (by rw [haddr]; decide) (by rw [haddr]; exact hw), haddr,
      State.parityRaise_lanePage hgpio.2, State.lane_modLane_same, State.lane_hostReady]
    set m := ((s.lane x).parkAbort .host).raise
      (getBits (((s.lane x).parkAbort .host).rd (pageOf R.GPIO_GCFG * 0x1000 + 0x028)) 0 8 + 1) with hm
    obtain ⟨es, hes⟩ := LaneState.events_hspiResult (l := m) (f := f) (stat := Hst.accErr) (data := 0)
    have hevt : m.events = (s.lane x).events ++ [⟨getBits ((s.lane x).rd (P.GPIO + 0x028)) 0 8 + 1, 0⟩] := by
      have hrd := hp.rd (pageOf R.GPIO_GCFG * 0x1000 + 0x028) (by decide)
      have hraise : m.events = _ ++ _ := rfl
      rw [hraise, hp.events, hrd]
      rfl
    refine ⟨LaneState.ports_hspiResult.1, LaneState.get_hlast_hspiResult.1, ?_, ?_, ?_⟩
    · rw [LaneState.get_exec_hspiResult (.inr rfl)]
      exact congrArg (min (· + 1) 0xFFFF) (hp.get (by decide))
    · rw [hes, hevt]
      simp
    · exact LaneState.mem_hspiResult.trans hp.mem
  · have hc : hspiCheck f false = 1 := by
      unfold hspiCheck
      rw [if_neg (by decide), if_neg (by simp [hlen]), if_pos hcrc]
    refine ⟨_, rfl, ?_⟩
    beta_reduce
    rw [State.hspiFrame_refused ha hb (by rw [hc]; decide), hc]
    refine ⟨?_, LaneState.get_hlast_hspiResult.1, LaneState.mem_hspiResult.trans hp.mem⟩
    rw [LaneState.get_refused_hspiResult (by decide), hp.get (by decide)]
end Sys2Proof.Machine
end

section
/-! SUPPORT. The capture of a request and its answer (R73, R74). -/
namespace Sys2Proof.Machine
open Sys2Proof

/-- A write of REQCMD stores nothing in it; its three fields act (R72). -/
theorem RegFile.write_reqcmd {rf : RegFile} {w : Word} {c : WriteCtx} (hop : w.toNat % 256 ≤ 9) :
    (rf.write R.BREQ_REQCMD w c).file = rf.wr R.BREQ_REQCMD (rf.rd R.BREQ_REQCMD) ∧
    (rf.write R.BREQ_REQCMD w c).clamped = 0 ∧
    getBits (rf.write R.BREQ_REQCMD w c).eff 0 8 = w.toNat % 256 ∧
    getBits (rf.write R.BREQ_REQCMD w c).eff 8 8 = w.toNat / 2 ^ 8 % 256 ∧
    getBits (rf.write R.BREQ_REQCMD w c).eff 16 4 = w.toNat / 2 ^ 16 % 16 := by
  have hf : regFields R.BREQ_REQCMD = [⟨0, 8, .wo, .codes [0, 1, 2, 3, 4, 5, 6, 7, 8, 9] 0⟩, ⟨8, 8, .wo, .any⟩,
      ⟨16, 4, .wo, .any⟩] := by decide
  have h0 : getBits w 0 8 = w.toNat % 256 := by simp [getBits]
  have h1 : getBits w 8 8 = w.toNat / 2 ^ 8 % 256 := by simp [getBits, Nat.shiftRight_eq_div_pow]
  have h2 : getBits w 16 4 = w.toNat / 2 ^ 16 % 16 := by simp [getBits, Nat.shiftRight_eq_div_pow]
  have hcode : [0, 1, 2, 3, 4, 5, 6, 7, 8, 9].contains (getBits w 0 8) = true := by
    rw [h0, List.contains_iff_mem]
    simp only [List.mem_cons, List.not_mem_nil, or_false]
    omega
  have hw : writeFields rf R.BREQ_REQCMD w c (regFields R.BREQ_REQCMD) = ⟨rf.rd R.BREQ_REQCMD,
      setBits (setBits (setBits 0 0 8 (getBits w 0 8)) 8 8 (getBits w 8 8)) 16 4 (getBits w 16 4), 0, 0, false⟩ := by
    rw [hf]
    simp only [writeFields, writeField, List.foldl_cons, List.foldl_nil, legalValue, hcode, if_true]
  have he : (rf.write R.BREQ_REQCMD w c).eff = (writeFields rf R.BREQ_REQCMD w c (regFields R.BREQ_REQCMD)).eff := rfl
  refine ⟨?_, ?_, ?_, ?_, ?_⟩
  · unfold RegFile.write
    dsimp only
    rw [hw]
    rfl
  · unfold RegFile.write
    dsimp only
    rw [hw]
  · rw [he, hw, getBits_setBits_disjoint _ _ _ _ _ _ (by decide) (by decide),
      getBits_setBits_disjoint _ _ _ _ _ _ (by decide) (by decide), getBits_setBits_same _ _ _ _ (by decide), h0]
    omega
  · rw [he, hw, getBits_setBits_disjoint _ _ _ _ _ _ (by decide) (by decide), getBits_setBits_same _ _ _ _ (by decide), h1]
    omega
  · rw [he, hw, getBits_setBits_same _ _ _ _ (by decide), h2]
    omega

namespace State
variable {s : State} {x : Lane} {r : Request}

@[simp] theorem request_setRequest {q : Option Request} : (s.setRequest x q).request x = q := by cases x <;> rfl

@[simp] theorem lane_setRequest {y : Lane} {q : Option Request} : (s.setRequest x q).lane y = s.lane y := by cases y <;> rfl

@[simp] theorem regs_setRequest {q : Option Request} : (s.setRequest x q).bed.regs = s.bed.regs := by cases x <;> rfl

@[simp] theorem brg_setRequest {q : Option Request} : (s.setRequest x q).brg = s.brg := rfl

@[simp] theorem request_modLane {y z : Lane} {f : LaneState → LaneState} : (s.modLane y f).request z = s.request z := by
  cases y <;> rfl

@[simp] theorem request_setLane {y z : Lane} {l : LaneState} : (s.setLane y l).request z = s.request z := by
  cases y <;> rfl

/-! ### The answer -/

theorem lane_postResult {k : Nat} :
    (s.postResult x k).lane x = ((s.lane x).put F.BREQ_REQSTAT_RESULT k).put F.BREQ_REQSTAT_BUSY 0 := by
  rw [postResult, lane_setRequest, lane_modLane_same]

theorem regs_postResult {k : Nat} : (s.postResult x k).bed.regs = s.bed.regs := by
  rw [postResult, regs_setRequest, bed_modLane]

theorem brg_postResult {k : Nat} : (s.postResult x k).brg = s.brg := by rw [postResult, brg_setRequest, brg_modLane]

theorem rd_postResult {k a : Nat} : (s.postResult x k).bed.rd a = s.bed.rd a := congrArg (RegFile.rd · a) regs_postResult

theorem bget_postResult {k : Nat} {f : Fld} : (s.postResult x k).bed.get f = s.bed.get f :=
  congrArg (RegFile.get · f) regs_postResult

/-- Bedrock's answer to a lane's request: its result in REQSTAT, no longer BUSY (R73). -/
theorem postResult_answers {k : Nat} (hk : k < 16) : ((s.postResult x k).lane x).get F.BREQ_REQSTAT_RESULT = k ∧
    ((s.postResult x k).lane x).get F.BREQ_REQSTAT_BUSY = 0 ∧ (s.postResult x k).request x = none ∧
    (∀ a, a ≠ R.BREQ_REQSTAT → ((s.postResult x k).lane x).rd a = (s.lane x).rd a) := by
  rw [lane_postResult]
  refine ⟨?_, LaneState.get_put_same _ _ _ (by decide), request_setRequest, fun a ha => ?_⟩
  · rw [LaneState.get_put_disjoint _ F.BREQ_REQSTAT_BUSY F.BREQ_REQSTAT_RESULT _ (by decide) (by decide),
      LaneState.get_put_same _ _ _ (by decide)]
    exact Nat.mod_eq_of_lt hk
  · rw [LaneState.rd_put_ne _ _ _ ha, LaneState.rd_put_ne _ _ _ ha]

/-- Bedrock acts on a lane's request of code `op`, with nothing due before it (R74, R222). -/
theorem yields_serve {c : Instr} {op : Nat} {f : State → Request → State × Nat} {o : State × Nat} {Q : State → Prop}
    (hc : exec c s = done (s.serve x op f)) (hb : s.bedrockRuns = true) (hr : s.request x = some r)
    (hw : s.mustWait x r = false) (hs : s.settle = s) (hop : r.op = op) (hf : f s r = o) (hQ : Q (o.1.postResult x o.2)) :
    yields c s Q := by
  have hn : ¬(r.op ≠ op ∨ (!s.bedrockRuns) = true ∨ s.mustWait x r = true) := by simp [hop, hb, hw]
  have hserve : s.serve x op f = o.1.postResult x o.2 := by
    unfold serve
    rw [hr]
    dsimp only
    rw [if_neg hn, hs, hf]
  exact ⟨_, hc.trans (congrArg done hserve), hQ⟩

/-! ### The capture -/

/-- The request that a write of REQCMD makes. -/
def requestOf (s : State) (x : Lane) (v : Word) : Request :=
  ⟨v.toNat % 256, v.toNat / 2 ^ 8 % 256, v.toNat / 2 ^ 16 % 16, (s.lane x).rd R.BREQ_REQDATA_0, (s.lane x).rd R.BREQ_REQDATA_1,
    (s.request x.peer).isSome⟩

/-- The lane once its request is captured. -/
def captured (s : State) (x : Lane) (v : Word) : LaneState :=
  (((((s.lane x).wr R.BREQ_REQCMD ((s.lane x).rd R.BREQ_REQCMD)).put F.BREQ_REQSTAT_BUSY 1).put F.BREQ_REQSTAT_OP
    (v.toNat % 256)).put F.BREQ_REQSTAT_TAG (v.toNat / 2 ^ 16 % 16)).bump F.reqAccepted 1

theorem reqcmdWrite_idle {v : Word} (hb : s.bedrockRuns = true) (ha : (s.lane x).alive = true)
    (hbusy : (s.lane x).get F.BREQ_REQSTAT_BUSY = 0) (hop : v.toNat % 256 ≤ 9) :
    s.reqcmdWrite x v = (s.setLane x (s.captured x v)).setRequest x (some (s.requestOf x v)) := by
  obtain ⟨hfile, hclamp, hop', harg, htag⟩ := RegFile.write_reqcmd (rf := (s.lane x).regs) (c := ⟨false, false, 0, 0, false⟩) hop
  have hmail : decide (pageOf R.BREQ_REQCMD = 0x50005) = true := by decide
  have hwrite : s.bedLaneWrite x R.BREQ_REQCMD v =
      (s.setLane x ((s.lane x).wr R.BREQ_REQCMD ((s.lane x).rd R.BREQ_REQCMD)),
        ((s.lane x).regs.write R.BREQ_REQCMD v ⟨false, false, 0, 0, false⟩).eff) := by
    unfold bedLaneWrite
    simp only [hclamp, hmail, hfile, if_true]
    rfl
  unfold reqcmdWrite
  rw [if_neg (by simp [hb, ha]), if_neg (by omega), hwrite]
  have hd0 := LaneState.rd_wr_ne (s.lane x) (a := R.BREQ_REQCMD) (b := R.BREQ_REQDATA_0) ((s.lane x).rd R.BREQ_REQCMD) (by decide)
  have hd1 := LaneState.rd_wr_ne (s.lane x) (a := R.BREQ_REQCMD) (b := R.BREQ_REQDATA_1) ((s.lane x).rd R.BREQ_REQCMD) (by decide)
  simp only [hop', harg, htag, modLane, lane_setLane_same, setLane_setLane, request_setLane, hd0, hd1]
  rfl

end State
end Sys2Proof.Machine
end

section
/-! SUPPORT. What Bedrock's shared operations leave of its registers (R213 to R240, R374 to R392). -/
namespace Sys2Proof.Machine
open Sys2Proof

/-- A fold over distinct elements in which one step establishes `P` from what the others keep, and they keep `P`. -/
theorem foldl_once {α β : Type} {f : β → α → β} {d : α} {I P : β → Prop} (hset : ∀ b, I b → P (f b d)) :
    ∀ {xs : List α} {b : β}, xs.Nodup → d ∈ xs → (∀ b, ∀ a ∈ xs, a ≠ d → I b → I (f b a)) →
      (∀ b, ∀ a ∈ xs, a ≠ d → P b → P (f b a)) → I b → P (xs.foldl f b) := by
  intro xs
  induction xs with
  | nil => intro b _ h; cases h
  | cons a xs ih =>
    intro b hn hd hpre hkeep hi
    obtain ⟨ha, hn⟩ := List.nodup_cons.mp hn
    by_cases h : a = d
    · subst h
      exact List.foldlRecOn xs f (hset b hi) fun c hc e he =>
        hkeep c e (List.mem_cons_of_mem _ he) (fun h => ha (h ▸ he)) hc
    · exact ih hn ((List.mem_cons.mp hd).resolve_left fun e => h e.symm)
        (fun c e he => hpre c e (List.mem_cons_of_mem _ he)) (fun c e he => hkeep c e (List.mem_cons_of_mem _ he))
        (hpre b a List.mem_cons_self h hi)

namespace State
variable {s t : State} {x y : Lane} {d v a : Nat}

/-! ### The lanes' and the bridge die's own -/

theorem bed_dropRequests : s.dropRequests.bed = s.bed :=
  foldl_keeps (fun t => t.bed = s.bed) (fun _ _ h => bed_ite (bed_modUnit.trans h) h) _ s rfl

theorem bed_overrideUpdate : s.overrideUpdate.bed = s.bed :=
  foldl_keeps (fun t => t.bed = s.bed) (fun _ _ h => bed_ite (bed_rankUpdate.trans h) h) _ s rfl

theorem bed_leaseTrigger : (s.leaseTrigger d).bed = s.bed := rfl

/-! ### The device state -/

theorem bed_setDev : (s.setDev v).bed = if s.devState = v then s.bed else s.bed.put F.BSYS_DEVSTAT_DEVSTATE v := by
  unfold setDev
  split
  · rfl
  · rw [bed_overrideUpdate]
    exact bed_ite (bed_dropRequests.trans rfl) rfl

theorem devState_setDev (hv : v < 8) : (s.setDev v).devState = v := by
  unfold devState
  rw [bed_setDev]
  split
  · assumption
  · exact (BedState.get_put_same _ F.BSYS_DEVSTAT_DEVSTATE _ (by decide)).trans (Nat.mod_eq_of_lt hv)

theorem rd_setDev (h : a ≠ R.BSYS_DEVSTAT) : (s.setDev v).bed.rd a = s.bed.rd a := by
  rw [bed_setDev]
  split
  · rfl
  · exact BedState.rd_put_ne _ _ _ h

/-! ### Selections -/

theorem rd_sendSelect : s.sendSelect.bed.rd a = s.bed.rd a := congrArg (RegFile.rd · a) regs_sendSelect

theorem regs_reselect : (s.reselect d).bed.regs = s.bed.regs := regs_sendSelect

/-- Entry into MAKE (R221): the domain's state and holder. -/
theorem regs_enterMake : (s.enterMake d x).bed.regs =
    ((s.bed.regs.put (F.BLEASE_LSTAT_STATE d) Dom.make).put (F.BLEASE_LSTAT_HOLDER d) x.num).put (F.rdy x d) (bit false) :=
  regs_reselect

theorem addr_rdy : (F.rdy x d).addr = R.BLEASE_LSTAT d := by cases x <;> rfl

theorem rd_enterMake (h : a ≠ R.BLEASE_LSTAT d) : (s.enterMake d x).bed.rd a = s.bed.rd a := by
  have hr := congrArg (RegFile.rd · a) (regs_enterMake (s := s) (d := d) (x := x))
  refine hr.trans ?_
  rw [RegFile.rd_put_ne _ _ _ (addr_rdy ▸ h), RegFile.rd_put_ne _ _ _ h, RegFile.rd_put_ne _ _ _ h]
  rfl

/-! ### The safe outputs -/

/-- The command of the outputs is recorded with its readback; in DEVICE_SAFE it is 0 (R382, R385). -/
theorem bed_outputUpdate : ∃ c, (s.devState = Dev.safe → c = 0) ∧ s.outputUpdate.bed =
    if s.bed.get F.BSAFE_SOSTAT_CMD = c then s.bed
    else ((s.bed.put F.BSAFE_SOSTAT_CMD c).put F.BSAFE_SOSTAT_RBA c).put F.BSAFE_SOSTAT_RBB c := by
  unfold outputUpdate
  extract_lets ok cmd
  refine ⟨cmd, fun h => if_neg fun k : ok => ?_, ?_⟩
  · rcases k.1 with e | e <;> exact absurd (h.symm.trans e) (by decide)
  · split <;> rfl

theorem rd_outputUpdate (h : a ≠ R.BSAFE_SOSTAT) : s.outputUpdate.bed.rd a = s.bed.rd a := by
  obtain ⟨c, -, hc⟩ := bed_outputUpdate (s := s)
  rw [hc]
  split
  · rfl
  · rw [BedState.rd_put_ne _ _ _ h, BedState.rd_put_ne _ _ _ h, BedState.rd_put_ne _ _ _ h]

theorem outputUpdate_safe (h : s.devState = Dev.safe) : s.outputUpdate.bed.get F.BSAFE_SOSTAT_CMD = 0 := by
  obtain ⟨c, h0, hc⟩ := bed_outputUpdate (s := s)
  obtain rfl := h0 h
  rw [hc]
  split
  · assumption
  · rw [BedState.get_put_disjoint _ F.BSAFE_SOSTAT_RBB F.BSAFE_SOSTAT_CMD _ (by decide) (by decide),
      BedState.get_put_disjoint _ F.BSAFE_SOSTAT_RBA F.BSAFE_SOSTAT_CMD _ (by decide) (by decide),
      BedState.get_put_same _ _ _ (by decide)]
    rfl

theorem addr_joined : (F.joined x).addr = R.BSAFE_PSTAT := by cases x <;> rfl

theorem rd_pathUpdate (h : a ≠ R.BSAFE_PSTAT) : s.pathUpdate.bed.rd a = s.bed.rd a := by
  have hupd : ∀ (t : State) (x : Lane), (if t.bed.get (F.joined x) = bit (t.mayJoin x) then t
      else (t.bput (F.joined x) (bit (t.mayJoin x))).irqPulseBoth P.BSAFE (mbit 17)).bed.rd a = t.bed.rd a := fun t x => by
    split
    · rfl
    · exact BedState.rd_put_ne _ _ _ (addr_joined ▸ h)
  unfold pathUpdate
  exact (BedState.rd_put_ne _ F.BSAFE_PSTAT_INH _ h).trans ((BedState.rd_put_ne _ F.BSAFE_PSTAT_DMD _ h).trans
    ((hupd _ .B).trans (hupd _ .A)))

theorem rd_demandUpdate (h : a ≠ R.BSAFE_SOSTAT) (h' : a ≠ R.BSAFE_PSTAT) : s.demandUpdate.bed.rd a = s.bed.rd a :=
  (rd_outputUpdate h).trans ((rd_pathUpdate h').trans (BedState.rd_put_ne _ F.BSAFE_SOSTAT_HWDMD _ h))

theorem rd_evGo {e : Nat} (h : a ≠ R.BSAFE_EVSTAT e) : (s.evGo e v).bed.rd a = s.bed.rd a := by
  unfold evGo
  split
  · rfl
  · exact BedState.rd_put_ne _ (F.BSAFE_EVSTAT_STATE e) _ h

theorem rd_lockout {e cause : Nat} (h : a ≠ R.BSAFE_EVSTAT e) (h' : a ≠ R.BSAFE_EVCNT e) :
    (s.lockout e cause).bed.rd a = s.bed.rd a := by
  unfold lockout
  dsimp only
  split
  · rfl
  · split
    · rfl
    · exact (RegFile.rd_put_ne _ (F.BSAFE_EVCNT_LOCKOUTS e) _ h').trans
        ((BedState.rd_put_ne _ (F.BSAFE_EVSTAT_CAUSE e) _ h).trans (rd_evGo h))

end State
end Sys2Proof.Machine
end

section
/-! SUPPORT. The device's and its domains' states after DRIVE_ON, DRIVE_OFF and GO_SAFE (R219, R233). -/
namespace Sys2Proof.Machine
open Sys2Proof

/-! ### The lanes' consent to PARK (R437) -/

/-- A lane has not consented to PARK. -/
def LaneState.noConsent (l : LaneState) : Prop := l.get F.PWR_PSTAT_CONSENT = 0

namespace LaneState
variable {l m : LaneState}

theorem noConsent_ite {c : Prop} [Decidable c] (h : l.noConsent) (h' : m.noConsent) : (if c then l else m).noConsent := by
  split
  exacts [h, h']

theorem noConsent_of_regs (h : l.noConsent) (hr : m.regs = l.regs) : m.noConsent :=
  (congrArg (RegFile.get · F.PWR_PSTAT_CONSENT) hr).trans h

theorem noConsent_wr {a : Nat} {w : Word} (ha : R.PWR_PSTAT ≠ a) (h : l.noConsent) : (l.wr a w).noConsent :=
  (get_wr_ne _ _ _ _ ha).trans h

theorem noConsent_put {f : Fld} {v : Nat} (hf : R.PWR_PSTAT ≠ f.addr) (h : l.noConsent) : (l.put f v).noConsent :=
  (get_put_ne _ _ _ _ hf).trans h

theorem noConsent_irqPulse {b : Nat} {w : Word} (hb : R.PWR_PSTAT ≠ R.irqStat b) (h : l.noConsent) : (l.irqPulse b w).noConsent :=
  (get_irqPulse _ _ _ _ hb).trans h

/-- A wake from DOZE changes STATE, another field of the register. -/
theorem noConsent_leaveDoze (h : l.noConsent) : l.leaveDoze.noConsent :=
  noConsent_ite ((get_put_disjoint _ F.PWR_PSTAT_STATE F.PWR_PSTAT_CONSENT _ (by decide) (by decide)).trans h) h

theorem noConsent_aplicForward {i : Nat} (h : l.noConsent) : (l.aplicForward i).noConsent := by
  unfold aplicForward
  dsimp only
  have h1 : (l.wr R.APLIC_SETIP (l.rd R.APLIC_SETIP &&& ~~~mbit i)).noConsent := noConsent_wr (by decide) h
  exact noConsent_ite (noConsent_ite h1 (noConsent_of_regs h1 rfl)) h

theorem noConsent_aplicLevel {i : Nat} {v : Bool} (h : l.noConsent) : (l.aplicLevel i v).noConsent := by
  unfold aplicLevel
  extract_lets was l1 sm
  have h1 : l1.noConsent := noConsent_of_regs h rfl
  exact noConsent_ite h1 (noConsent_ite (noConsent_aplicForward (noConsent_wr (by decide) (noConsent_leaveDoze h1))) h1)

theorem noConsent_mirrorsOf {s : State} (h : l.noConsent) : (s.mirrorsOf l).noConsent := by
  unfold State.mirrorsOf
  extract_lets f m1 m2 same m3 m4
  have hs : R.PWR_PSTAT ≠ R.SYS_SIMIR := by decide
  have h1 : m1.noConsent := List.foldlRecOn _ _ h fun _ hb _ _ => noConsent_put hs (noConsent_put hs hb)
  have h4 : m4.noConsent := noConsent_put (by decide) (noConsent_put (by decide) (noConsent_put (by decide)
    (noConsent_put (by decide) h1)))
  exact noConsent_ite h4 (noConsent_irqPulse (by decide) h4)

end LaneState

/-- Neither lane has consented. -/
def State.noConsent (s : State) : Prop := s.a.noConsent ∧ s.b.noConsent

namespace State
variable {s t : State} {x : Lane} {d v : Nat}

theorem noConsent_modLanes {f : LaneState → LaneState} (hf : ∀ l : LaneState, l.noConsent → (f l).noConsent) (h : s.noConsent) :
    (s.modLanes f).noConsent := ⟨hf _ h.1, hf _ h.2⟩

theorem noConsent_modLane {f : LaneState → LaneState} (hf : ∀ l : LaneState, l.noConsent → (f l).noConsent) (h : s.noConsent) :
    (s.modLane x f).noConsent := by
  cases x
  · exact ⟨hf _ h.1, h.2⟩
  · exact ⟨h.1, hf _ h.2⟩

theorem noConsent_whichever {c : Prop} [Decidable c] (h : s.noConsent) (h' : t.noConsent) : (if c then s else t).noConsent := by
  split
  exacts [h, h']

theorem noConsent_modBed {f : BedState → BedState} (h : s.noConsent) : (s.modBed f).noConsent := h
theorem noConsent_modBrg {f : BrgState → BrgState} (h : s.noConsent) : (s.modBrg f).noConsent := h

theorem noConsent_sendUp {typ m arg : Nat} {pay : List Half} (h : s.noConsent) : (s.sendUp x typ m arg pay).noConsent :=
  noConsent_modLane (fun _ h => LaneState.noConsent_of_regs h rfl) (noConsent_modBrg h)

theorem noConsent_sendStatus {n : Nat} (h : s.noConsent) : (s.sendStatus n).noConsent :=
  noConsent_modBrg (noConsent_sendUp (noConsent_sendUp h))

theorem noConsent_statusCheck {n : Nat} (h : s.noConsent) : (s.statusCheck n).noConsent :=
  noConsent_whichever (noConsent_sendStatus h) h

theorem noConsent_rankUpdate {n : Nat} (h : s.noConsent) : (s.rankUpdate n).noConsent := by
  unfold rankUpdate
  extract_lets _ _ s1 _ _ s2 _ s3 _ s4
  have h1 : s1.noConsent := noConsent_whichever (noConsent_modBrg h) h
  have h3 : s3.noConsent := noConsent_modBrg (noConsent_whichever (noConsent_modBrg h1) h1)
  exact noConsent_statusCheck (noConsent_whichever (noConsent_modBrg (noConsent_modBrg h3)) h3)

theorem noConsent_attention (h : s.noConsent) : s.attention.noConsent :=
  noConsent_modLanes (fun _ h => LaneState.noConsent_aplicLevel (LaneState.noConsent_aplicLevel h)) h

theorem noConsent_dropRequests (h : s.noConsent) : s.dropRequests.noConsent :=
  foldl_keeps noConsent (fun _ _ h => noConsent_whichever (noConsent_modBrg h) h) _ s h

theorem noConsent_overrideUpdate (h : s.noConsent) : s.overrideUpdate.noConsent :=
  foldl_keeps noConsent (fun _ _ h => noConsent_whichever (noConsent_rankUpdate h) h) _ s h

theorem noConsent_setDev (h : s.noConsent) : (s.setDev v).noConsent := by
  have h1 : ((s.bput F.BSYS_DEVSTAT_DEVSTATE v).irqPulseBoth P.BSYS (mbit 0)).attention.noConsent :=
    noConsent_attention (noConsent_modLanes (fun _ => LaneState.noConsent_irqPulse (by decide)) (noConsent_modBed h))
  exact noConsent_whichever h (noConsent_overrideUpdate (noConsent_whichever (noConsent_dropRequests h1) h1))

theorem noConsent_outputUpdate (h : s.noConsent) : s.outputUpdate.noConsent :=
  noConsent_whichever h
    (noConsent_modLanes (fun _ h => LaneState.noConsent_ite (LaneState.noConsent_mirrorsOf h) h) (noConsent_modBed h))

theorem noConsent_postResult {k : Nat} (h : s.noConsent) : (s.postResult x k).noConsent :=
  noConsent_modLane (fun _ h => LaneState.noConsent_put (by decide) (LaneState.noConsent_put (by decide) h)) h

end State

/-! ### The registers of a domain -/

section
variable {d e a : Nat}

theorem lstat_ne_lstat (h : d ≠ e) : R.BLEASE_LSTAT d ≠ R.BLEASE_LSTAT e := by
  simp only [R.BLEASE_LSTAT]
  omega

theorem hold_ne_hold (h : d ≠ e) : R.BLEASE_HOLD d ≠ R.BLEASE_HOLD e := by
  simp only [R.BLEASE_HOLD]
  omega

theorem lcfg_ne_lstat : R.BLEASE_LCFG d ≠ R.BLEASE_LSTAT e := by
  simp only [R.BLEASE_LCFG, R.BLEASE_LSTAT]
  omega

theorem lstat_ne_hold (h : d < 8) : R.BLEASE_LSTAT d ≠ R.BLEASE_HOLD e := by
  simp only [R.BLEASE_LSTAT, R.BLEASE_HOLD]
  omega

/-- A domain's registers lie apart from the device's state and from those of the safety page. -/
theorem domainReg_ne (hd : d < 8) (ha : a = R.BLEASE_LSTAT d ∨ a = R.BLEASE_HOLD d) :
    a ≠ R.BSYS_DEVSTAT ∧ a ≠ R.BSAFE_SOSTAT ∧ a ≠ R.BSAFE_PSTAT ∧ a ≠ R.BSAFE_EVSTAT e ∧ a ≠ R.BSAFE_EVCNT e := by
  simp only [R.BLEASE_LSTAT, R.BLEASE_HOLD, R.BSYS_DEVSTAT, R.BSAFE_SOSTAT, R.BSAFE_PSTAT, R.BSAFE_EVSTAT, R.BSAFE_EVCNT] at *
  omega

/-- So do the device's state and cause from a domain's registers and those of the safety page. -/
theorem deviceReg_ne (ha : a = R.BSYS_DEVSTAT ∨ a = R.BSYS_SAFECAUSE) :
    a ≠ R.BLEASE_LSTAT e ∧ a ≠ R.BSAFE_SOSTAT ∧ a ≠ R.BSAFE_PSTAT ∧ a ≠ R.BSAFE_EVSTAT e ∧ a ≠ R.BSAFE_EVCNT e := by
  simp only [R.BSYS_DEVSTAT, R.BSYS_SAFECAUSE, R.BSAFE_SOSTAT, R.BSAFE_PSTAT, R.BSAFE_EVSTAT, R.BSAFE_EVCNT, R.BLEASE_LSTAT] at *
  omega

end

namespace State
variable {s t : State} {d : Nat}

/-- A field of Bedrock's that lies in a register of the same word. -/
theorem bget_of_rd {f : Fld} (h : t.bed.rd f.addr = s.bed.rd f.addr) : t.bed.get f = s.bed.get f :=
  congrArg (getBits · f.lo f.width) h

theorem domain_of_rd (h : t.bed.rd (R.BLEASE_LSTAT d) = s.bed.rd (R.BLEASE_LSTAT d)) :
    t.domState d = s.domState d ∧ t.holder d = s.holder d ∧ ∀ x, t.ready x d = s.ready x d := by
  refine ⟨bget_of_rd h, congrArg laneOf (bget_of_rd (f := F.BLEASE_LSTAT_HOLDER d) h), fun x => ?_⟩
  have hx := bget_of_rd (f := F.rdy x d) (addr_rdy (x := x) ▸ h)
  simp only [ready, hx]

/-! ### DRIVE_ON -/

/-- The lane toward which DRIVE_ON takes a domain: the preferred one where it is ready (R219). -/
def maker (s : State) (d : Nat) : Lane :=
  let p := laneOf (s.bed.get (F.BLEASE_LCFG_PREF d))
  if s.ready p d then p else p.peer

theorem maker_of_rd (h : t.bed.rd (R.BLEASE_LSTAT d) = s.bed.rd (R.BLEASE_LSTAT d))
    (h' : t.bed.rd (R.BLEASE_LCFG d) = s.bed.rd (R.BLEASE_LCFG d)) : t.maker d = s.maker d := by
  have hp := bget_of_rd (f := F.BLEASE_LCFG_PREF d) h'
  simp only [maker, hp, (domain_of_rd h).2.2]

theorem laneOf_num {x : Lane} : laneOf (x.num % 2 ^ 1) = x := by cases x <;> rfl

/-- A domain's fields after its state, its holder and a lane's readiness are written. -/
theorem domain_puts {rf : RegFile} {x : Lane} {v w : Nat} (hv : v < 8) :
    (((rf.put (F.BLEASE_LSTAT_STATE d) v).put (F.BLEASE_LSTAT_HOLDER d) w).put (F.rdy x d) (bit false)).get
      (F.BLEASE_LSTAT_STATE d) = v ∧
    (((rf.put (F.BLEASE_LSTAT_STATE d) v).put (F.BLEASE_LSTAT_HOLDER d) w).put (F.rdy x d) (bit false)).get
      (F.BLEASE_LSTAT_HOLDER d) = w % 2 := by
  have hb : (F.rdy x d).lo + (F.rdy x d).width ≤ 32 := by
    cases x
    exacts [(by decide : 4 + 1 ≤ 32), (by decide : 5 + 1 ≤ 32)]
  have hge : 4 ≤ (F.rdy x d).lo := by
    cases x
    exacts [(by decide : 4 ≤ 4), (by decide : 4 ≤ 5)]
  refine ⟨?_, ?_⟩
  · rw [RegFile.get_put_disjoint _ _ (F.BLEASE_LSTAT_STATE d) _ hb (.inl (Nat.le_trans (by decide : 0 + 3 ≤ 4) hge)),
      RegFile.get_put_disjoint _ (F.BLEASE_LSTAT_HOLDER d) (F.BLEASE_LSTAT_STATE d) _ (by decide : 3 + 1 ≤ 32)
        (.inl (by decide : 0 + 3 ≤ 3)), RegFile.get_put_same _ _ _ (by decide : 0 + 3 ≤ 32)]
    exact Nat.mod_eq_of_lt hv
  · rw [RegFile.get_put_disjoint _ _ (F.BLEASE_LSTAT_HOLDER d) _ hb (.inl hge), RegFile.get_put_same _ _ _ (by decide : 3 + 1 ≤ 32)]
    rfl

theorem domain_enterMake {x : Lane} : (s.enterMake d x).domState d = Dom.make ∧ (s.enterMake d x).holder d = x := by
  have hget : ∀ f, (s.enterMake d x).bed.get f = _ := fun f => congrArg (RegFile.get · f) regs_enterMake
  obtain ⟨hs, hh⟩ := domain_puts (rf := s.bed.regs) (d := d) (x := x) (v := Dom.make) (w := x.num) (by decide)
  refine ⟨(hget _).trans hs, ?_⟩
  rw [holder, (hget _).trans hh]
  exact laneOf_num

end State
end Sys2Proof.Machine
end

section
/-! SUPPORT. DRIVE_ON, DRIVE_OFF and GO_SAFE over every domain (R219, R233). -/
namespace Sys2Proof.Machine
open Sys2Proof

/-- A bridge's hold count cleared. -/
def RegFile.noHold (rf : RegFile) (d : Nat) : RegFile :=
  if rf.get (F.BLEASE_HOLD_COUNT d) = 0 then rf else rf.put (F.BLEASE_HOLD_COUNT d) 0

theorem RegFile.get_noHold {rf : RegFile} {d : Nat} : (rf.noHold d).get (F.BLEASE_HOLD_COUNT d) = 0 := by
  unfold noHold
  split
  · assumption
  · exact get_put_same _ _ _ (by decide : 0 + 7 ≤ 32)

theorem RegFile.rd_noHold {rf : RegFile} {d a : Nat} (h : a ≠ R.BLEASE_HOLD d) : (rf.noHold d).rd a = rf.rd a := by
  unfold noHold
  split
  · rfl
  · exact rd_put_ne _ _ _ h

theorem RegFile.get_noHold_ne {rf : RegFile} {d : Nat} {f : Fld} (h : f.addr ≠ R.BLEASE_HOLD d) :
    (rf.noHold d).get f = rf.get f := congrArg (getBits · f.lo f.width) (rd_noHold h)

/-- Both lanes' readiness for a domain ended. -/
def RegFile.noneReady (rf : RegFile) (d : Nat) : RegFile := (rf.put (F.rdy .A d) (bit false)).put (F.rdy .B d) (bit false)

theorem RegFile.get_noneReady {rf : RegFile} {d : Nat} : (rf.noneReady d).get (F.rdy .A d) = 0 ∧
    (rf.noneReady d).get (F.rdy .B d) = 0 ∧
    (rf.noneReady d).get (F.BLEASE_LSTAT_STATE d) = rf.get (F.BLEASE_LSTAT_STATE d) := by
  have hA : (F.rdy .A d).lo + (F.rdy .A d).width ≤ 32 := (by decide : 4 + 1 ≤ 32)
  have hB : (F.rdy .B d).lo + (F.rdy .B d).width ≤ 32 := (by decide : 5 + 1 ≤ 32)
  refine ⟨?_, get_put_same _ _ _ hB, ?_⟩
  · exact (get_put_disjoint _ _ _ _ hB (.inl (by decide : 4 + 1 ≤ 5))).trans (get_put_same _ _ _ hA)
  · exact (get_put_disjoint _ _ _ _ hB (.inl (by decide : 0 + 3 ≤ 5))).trans
      (get_put_disjoint _ _ _ _ hA (.inl (by decide : 0 + 3 ≤ 4)))

theorem RegFile.rd_noneReady {rf : RegFile} {d a : Nat} (h : a ≠ R.BLEASE_LSTAT d) : (rf.noneReady d).rd a = rf.rd a := by
  rw [noneReady, rd_put_ne _ _ _ (State.addr_rdy ▸ h), rd_put_ne _ _ _ (State.addr_rdy ▸ h)]

theorem RegFile.get_noneReady_ne {rf : RegFile} {d : Nat} {f : Fld} (h : f.addr ≠ R.BLEASE_LSTAT d) :
    (rf.noneReady d).get f = rf.get f := congrArg (getBits · f.lo f.width) (rd_noneReady h)

namespace State
variable {s t : State} {x : Lane} {d e : Nat}

/-! ### DRIVE_ON -/

/-- A domain taken to MAKE toward the lane that DRIVE_ON chooses. -/
def driveOnAt (s : State) (d : Nat) : State := s.enterMake d (s.maker d)

theorem driveOn_eq (hi : s.devState = Dev.idle) (hr : ∀ k, k < 8 → s.ready .A k = true ∨ s.ready .B k = true) :
    s.driveOn = (((((((List.range 8).filter fun d => !(s.domBridges d).isEmpty).foldl driveOnAt s).modLanes
      (·.put F.PWR_PSTAT_CONSENT 0)).setDev Dev.drive).outputUpdate), Res.ok) := by
  have hn : ¬(s.devState ≠ Dev.idle ∨
      ((List.range 8).filter fun d => !(s.domBridges d).isEmpty).any (fun d => !s.ready .A d && !s.ready .B d) = true) := by
    rintro (h | h)
    · exact h hi
    · obtain ⟨k, hk, hb⟩ := List.any_eq_true.mp h
      have hk8 := List.mem_range.mp (List.mem_filter.mp hk).1
      rcases hr k hk8 with h | h <;> simp [h] at hb
  exact if_neg hn

/-- Every domain with bridges ends in MAKE toward its lane, whatever the others do. -/
theorem domain_foldl_driveOnAt {ds : List Nat} (hn : ds.Nodup) (hm : d ∈ ds) :
    (ds.foldl driveOnAt s).domState d = Dom.make ∧ (ds.foldl driveOnAt s).holder d = s.maker d := by
  have hkeep : ∀ (t : State) e, e ≠ d → (t.driveOnAt e).bed.rd (R.BLEASE_LSTAT d) = t.bed.rd (R.BLEASE_LSTAT d) := fun t e he =>
    rd_enterMake (lstat_ne_lstat he.symm)
  refine foldl_once (β := State) (I := fun t => t.bed.rd (R.BLEASE_LSTAT d) = s.bed.rd (R.BLEASE_LSTAT d) ∧
      t.bed.rd (R.BLEASE_LCFG d) = s.bed.rd (R.BLEASE_LCFG d))
    (P := fun t => t.domState d = Dom.make ∧ t.holder d = s.maker d) ?_ hn hm ?_ ?_ ⟨rfl, rfl⟩
  · rintro t ⟨h, h'⟩
    obtain ⟨hs, hh⟩ := domain_enterMake (s := t) (d := d) (x := t.maker d)
    exact ⟨hs, hh.trans (maker_of_rd h h')⟩
  · rintro t e - he ⟨h, h'⟩
    exact ⟨(hkeep t e he).trans h, (rd_enterMake lcfg_ne_lstat).trans h'⟩
  · rintro t e - he ⟨h, h'⟩
    obtain ⟨hs, hh, -⟩ := domain_of_rd (hkeep t e he)
    exact ⟨hs.trans h, hh.trans h'⟩

/-! ### DRIVE_OFF -/

/-- A domain taken to IDLE. -/
def driveOffAt (s : State) (d : Nat) : State :=
  let s := if (s.holderOf d).isSome then s.leaseTrigger d else s
  let s := ((s.bput (F.BLEASE_LSTAT_STATE d) Dom.idle).bput (F.BLEASE_LSTAT_HOLDER d) 0).setHand d false
  let s := if s.bed.get (F.BLEASE_HOLD_COUNT d) = 0 then s else s.bput (F.BLEASE_HOLD_COUNT d) 0
  let s := (s.bput (F.BLEASE_HOLD_TERM d) 0).bput (F.BLEASE_HOLD_TSTATE d) 0
  (s.setReady .A d false).setReady .B d false

theorem driveOff_eq (h : s.devState = Dev.drive) :
    s.driveOff = (((((List.range 8).foldl driveOffAt s).setDev Dev.idle).outputUpdate).sendSelect, Res.ok) :=
  if_neg (not_not.mpr h)

theorem regs_driveOffAt : (s.driveOffAt d).bed.regs =
    (((((s.bed.regs.put (F.BLEASE_LSTAT_STATE d) Dom.idle).put (F.BLEASE_LSTAT_HOLDER d) 0).noHold d).put
      (F.BLEASE_HOLD_TERM d) 0).put (F.BLEASE_HOLD_TSTATE d) 0).noneReady d := by
  have htrig : (if (s.holderOf d).isSome then s.leaseTrigger d else s).bed = s.bed := bed_ite bed_leaseTrigger rfl
  have hcount : ∀ t : State, (if t.bed.get (F.BLEASE_HOLD_COUNT d) = 0 then t else t.bput (F.BLEASE_HOLD_COUNT d) 0).bed.regs =
      t.bed.regs.noHold d := fun t => by
    unfold RegFile.noHold
    split
    · next h => exact (if_pos h).symm
    · next h => exact (if_neg h).symm
  have hlast : (s.driveOffAt d).bed.regs = ((RegFile.put (RegFile.put (State.bed (if _ then _ else _)).regs _ _) _ _).noneReady d) := rfl
  rw [hlast, hcount]
  have hbed : ∀ t : State, t.bed = s.bed → (((t.bput (F.BLEASE_LSTAT_STATE d) Dom.idle).bput (F.BLEASE_LSTAT_HOLDER d) 0).setHand d
      false).bed.regs = (s.bed.regs.put (F.BLEASE_LSTAT_STATE d) Dom.idle).put (F.BLEASE_LSTAT_HOLDER d) 0 := fun t h => by
    rw [← h]
    rfl
  rw [hbed _ htrig]

theorem rd_driveOffAt {a : Nat} (h : a ≠ R.BLEASE_LSTAT d) (h' : a ≠ R.BLEASE_HOLD d) :
    (s.driveOffAt d).bed.rd a = s.bed.rd a := by
  refine (congrArg (RegFile.rd · a) regs_driveOffAt).trans ?_
  rw [RegFile.rd_noneReady h, RegFile.rd_put_ne _ _ _ h', RegFile.rd_put_ne _ _ _ h', RegFile.rd_noHold h',
    RegFile.rd_put_ne _ _ _ h, RegFile.rd_put_ne _ _ _ h]
  rfl

/-- A domain in IDLE with no lane ready for it, and its bridge neither held nor in a terminal state. -/
def domainOff (s : State) (d : Nat) : Prop :=
  s.domState d = Dom.idle ∧ s.bed.get (F.BLEASE_HOLD_COUNT d) = 0 ∧ s.bed.get (F.BLEASE_HOLD_TERM d) = 0 ∧
    s.ready .A d = false ∧ s.ready .B d = false

theorem domainOff_of_rd (h : t.bed.rd (R.BLEASE_LSTAT d) = s.bed.rd (R.BLEASE_LSTAT d))
    (h' : t.bed.rd (R.BLEASE_HOLD d) = s.bed.rd (R.BLEASE_HOLD d)) (hs : s.domainOff d) : t.domainOff d := by
  obtain ⟨hst, hc, ht, hA, hB⟩ := hs
  obtain ⟨ks, -, kr⟩ := domain_of_rd h
  exact ⟨ks.trans hst, (bget_of_rd (f := F.BLEASE_HOLD_COUNT d) h').trans hc, (bget_of_rd (f := F.BLEASE_HOLD_TERM d) h').trans ht,
    (kr _).trans hA, (kr _).trans hB⟩

theorem notReady_of_get (h : s.bed.get (F.rdy x d) = 0) : s.ready x d = false := by simp [ready, h]

theorem domainOff_driveOffAt (hd : d < 8) : (s.driveOffAt d).domainOff d := by
  have hget : ∀ f, (s.driveOffAt d).bed.get f = _ := fun f => congrArg (RegFile.get · f) regs_driveOffAt
  have hne : R.BLEASE_LSTAT d ≠ R.BLEASE_HOLD d := lstat_ne_hold hd
  obtain ⟨hA, hB, -⟩ := RegFile.get_noneReady (rf := (((((s.bed.regs.put (F.BLEASE_LSTAT_STATE d) Dom.idle).put
    (F.BLEASE_LSTAT_HOLDER d) 0).noHold d).put (F.BLEASE_HOLD_TERM d) 0).put (F.BLEASE_HOLD_TSTATE d) 0)) (d := d)
  refine ⟨?_, ?_, ?_, notReady_of_get ((hget _).trans hA), notReady_of_get ((hget _).trans hB)⟩
  · rw [domState, hget, RegFile.get_noneReady.2.2, RegFile.get_put_ne _ _ _ _ hne, RegFile.get_put_ne _ _ _ _ hne]
    rw [RegFile.get_noHold_ne hne,
      RegFile.get_put_disjoint _ (F.BLEASE_LSTAT_HOLDER d) (F.BLEASE_LSTAT_STATE d) _ (by decide : 3 + 1 ≤ 32)
      (.inl (by decide : 0 + 3 ≤ 3)), RegFile.get_put_same _ _ _ (by decide : 0 + 3 ≤ 32)]
    rfl
  · rw [hget, RegFile.get_noneReady_ne hne.symm,
      RegFile.get_put_disjoint _ (F.BLEASE_HOLD_TSTATE d) (F.BLEASE_HOLD_COUNT d) _ (by decide : 8 + 2 ≤ 32)
      (.inl (by decide : 0 + 7 ≤ 8)), RegFile.get_put_disjoint _ (F.BLEASE_HOLD_TERM d) (F.BLEASE_HOLD_COUNT d) _
      (by decide : 7 + 1 ≤ 32) (.inl (by decide : 0 + 7 ≤ 7)), RegFile.get_noHold]
  · rw [hget, RegFile.get_noneReady_ne hne.symm,
      RegFile.get_put_disjoint _ (F.BLEASE_HOLD_TSTATE d) (F.BLEASE_HOLD_TERM d) _ (by decide : 8 + 2 ≤ 32)
      (.inl (by decide : 7 + 1 ≤ 8)), RegFile.get_put_same _ _ _ (by decide : 7 + 1 ≤ 32)]
    rfl

/-- Every domain ends off. -/
theorem domainOff_foldl (hd : d < 8) : ((List.range 8).foldl driveOffAt s).domainOff d := by
  have hkeep : ∀ (t : State), ∀ e ∈ List.range 8, e ≠ d → t.domainOff d → (t.driveOffAt e).domainOff d := fun t e hm he h => by
    have he8 : e < 8 := List.mem_range.mp hm
    exact domainOff_of_rd (rd_driveOffAt (lstat_ne_lstat he.symm) (lstat_ne_hold hd))
      (rd_driveOffAt (lstat_ne_hold he8).symm (hold_ne_hold he.symm)) h
  exact foldl_once (β := State) (I := fun _ => True) (P := fun t => t.domainOff d) (fun _ _ => domainOff_driveOffAt hd)
    List.nodup_range (List.mem_range.mpr hd) (fun _ _ _ _ _ => trivial) hkeep trivial

end State
end Sys2Proof.Machine
end

section
/-! SUPPORT and SETTLED. Requests (O23). -/
namespace Sys2Proof.Machine
open Sys2Proof

namespace State
variable {s t : State} {x : Lane} {d e : Nat}

/-! ### DEVICE_SAFE (R233) -/

/-- A domain taken to its safe state. -/
def safeAt (s : State) (d : Nat) : State :=
  ((s.bput (F.BLEASE_LSTAT_STATE d) Dom.safe).setReady .A d false).setReady .B d false

theorem regs_safeAt : (s.safeAt d).bed.regs = (s.bed.regs.put (F.BLEASE_LSTAT_STATE d) Dom.safe).noneReady d := rfl

theorem rd_safeAt {a : Nat} (h : a ≠ R.BLEASE_LSTAT d) : (s.safeAt d).bed.rd a = s.bed.rd a :=
  (congrArg (RegFile.rd · a) regs_safeAt).trans ((RegFile.rd_noneReady h).trans (RegFile.rd_put_ne _ (F.BLEASE_LSTAT_STATE d) _ h))

/-- A domain in its safe state with no lane ready for it. -/
def domainSafe (s : State) (d : Nat) : Prop := s.domState d = Dom.safe ∧ s.ready .A d = false ∧ s.ready .B d = false

theorem domainSafe_of_rd (h : t.bed.rd (R.BLEASE_LSTAT d) = s.bed.rd (R.BLEASE_LSTAT d)) (hs : s.domainSafe d) :
    t.domainSafe d := by
  obtain ⟨hst, hA, hB⟩ := hs
  obtain ⟨ks, -, kr⟩ := domain_of_rd h
  exact ⟨ks.trans hst, (kr _).trans hA, (kr _).trans hB⟩

theorem domainSafe_safeAt : (s.safeAt d).domainSafe d := by
  have hget : ∀ f, (s.safeAt d).bed.get f = _ := fun f => congrArg (RegFile.get · f) regs_safeAt
  obtain ⟨hA, hB, hst⟩ := RegFile.get_noneReady (rf := s.bed.regs.put (F.BLEASE_LSTAT_STATE d) Dom.safe) (d := d)
  exact ⟨(hget _).trans (hst.trans (RegFile.get_put_same _ _ _ (by decide : 0 + 3 ≤ 32))), notReady_of_get ((hget _).trans hA),
    notReady_of_get ((hget _).trans hB)⟩

theorem domainSafe_foldl (hd : d < 8) : ((List.range 8).foldl safeAt s).domainSafe d :=
  foldl_once (β := State) (I := fun _ => True) (P := fun t => t.domainSafe d) (fun _ _ => domainSafe_safeAt) List.nodup_range
    (List.mem_range.mpr hd) (fun _ _ _ _ _ => trivial)
    (fun _ _ _ he h => domainSafe_of_rd (rd_safeAt (lstat_ne_lstat he.symm)) h) trivial

theorem rd_foldl_safeAt {a : Nat} (h : ∀ e, e < 8 → a ≠ R.BLEASE_LSTAT e) : ((List.range 8).foldl safeAt s).bed.rd a = s.bed.rd a :=
  List.foldlRecOn (motive := fun t : State => t.bed.rd a = s.bed.rd a) _ _ rfl fun _ hb e he =>
    (rd_safeAt (h e (List.mem_range.mp he))).trans hb

theorem rd_foldl_lockout {a : Nat} (h : ∀ e, e < 8 → a ≠ R.BSAFE_EVSTAT e ∧ a ≠ R.BSAFE_EVCNT e) :
    ((List.range 8).foldl (fun (s : State) e => s.lockout e 6) s).bed.rd a = s.bed.rd a :=
  List.foldlRecOn (motive := fun t : State => t.bed.rd a = s.bed.rd a) _ _ rfl fun _ hb e he => by
    obtain ⟨h1, h2⟩ := h e (List.mem_range.mp he)
    exact (rd_lockout h1 h2).trans hb

/-- The device's own registers in DEVICE_SAFE, before the domains follow. -/
def safeDevice (s : State) (cause : Nat) : State :=
  (((List.range 8).foldl (fun (s : State) d => if (s.holderOf d).isSome then s.leaseTrigger d else s) s).setDev
    Dev.safe).bput F.BSYS_SAFECAUSE_CAUSE cause

theorem safeDevice_record : (s.safeDevice 1).devState = Dev.safe ∧
    (s.safeDevice 1).bed.get F.BSYS_SAFECAUSE_CAUSE = 1 := by
  refine ⟨?_, BedState.get_put_same _ F.BSYS_SAFECAUSE_CAUSE 1 (by decide)⟩
  exact (BedState.get_put_ne _ F.BSYS_SAFECAUSE_CAUSE F.BSYS_DEVSTAT_DEVSTATE _ (by decide)).trans (devState_setDev (by decide))

/-- Bedrock once DEVICE_SAFE is entered. -/
theorem bed_deviceSafe (hb : s.bedrockRuns = true) (hd : s.devState = Dev.idle ∨ s.devState = Dev.drive) :
    (s.deviceSafe 1).bed = ((List.range 8).foldl (fun (s : State) e => s.lockout e 6)
      ((List.range 8).foldl safeAt (s.safeDevice 1))).demandUpdate.sendSelect.bed := by
  have hc : s.bedrockRuns = true ∧ (s.devState = Dev.idle ∨ s.devState = Dev.drive ∨ (s.devState = Dev.start ∧ 1 = 6)) :=
    ⟨hb, hd.imp_right .inl⟩
  unfold deviceSafe
  rw [if_pos hc]
  rfl

theorem deviceSafe_outcome (hb : s.bedrockRuns = true) (hd : s.devState = Dev.idle ∨ s.devState = Dev.drive) :
    (s.deviceSafe 1).devState = Dev.safe ∧ (s.deviceSafe 1).bed.get F.BSYS_SAFECAUSE_CAUSE = 1 ∧
      (∀ d, d < 8 → (s.deviceSafe 1).domainSafe d) ∧ (s.deviceSafe 1).bed.get F.BSAFE_SOSTAT_CMD = 0 := by
  have hbed := bed_deviceSafe hb hd
  set u := (List.range 8).foldl safeAt (s.safeDevice 1) with hu
  set w := (List.range 8).foldl (fun (s : State) e => s.lockout e 6) u with hw
  have hrd : ∀ a, a ≠ R.BSAFE_SOSTAT → a ≠ R.BSAFE_PSTAT → (∀ e, e < 8 → a ≠ R.BSAFE_EVSTAT e ∧ a ≠ R.BSAFE_EVCNT e) →
      (s.deviceSafe 1).bed.rd a = u.bed.rd a := fun a h h' he => by
    rw [hbed]
    exact rd_sendSelect.trans ((rd_demandUpdate h h').trans (rd_foldl_lockout he))
  have hdev : ∀ a, a = R.BSYS_DEVSTAT ∨ a = R.BSYS_SAFECAUSE →
      u.bed.rd a = (s.safeDevice 1).bed.rd a ∧ w.bed.rd a = u.bed.rd a ∧ (s.deviceSafe 1).bed.rd a = u.bed.rd a := fun a ha => by
    have hsafety : ∀ e, e < 8 → a ≠ R.BSAFE_EVSTAT e ∧ a ≠ R.BSAFE_EVCNT e := fun e _ => by
      obtain ⟨-, -, -, hev⟩ := deviceReg_ne (e := e) ha
      exact hev
    obtain ⟨-, hso, hps, -⟩ := deviceReg_ne (e := 0) ha
    refine ⟨rd_foldl_safeAt fun e _ => ?_, rd_foldl_lockout hsafety, hrd a hso hps hsafety⟩
    obtain ⟨hl, -⟩ := deviceReg_ne (e := e) ha
    exact hl
  obtain ⟨hstate, hcause⟩ := safeDevice_record (s := s)
  obtain ⟨hu1, hw1, ht1⟩ := hdev R.BSYS_DEVSTAT (.inl rfl)
  obtain ⟨hu2, -, ht2⟩ := hdev R.BSYS_SAFECAUSE (.inr rfl)
  refine ⟨?_, ?_, fun d hd => ?_, ?_⟩
  · exact (bget_of_rd (f := F.BSYS_DEVSTAT_DEVSTATE) (ht1.trans hu1)).trans hstate
  · exact (bget_of_rd (f := F.BSYS_SAFECAUSE_CAUSE) (ht2.trans hu2)).trans hcause
  · obtain ⟨-, hso, hps, -⟩ := domainReg_ne (e := 0) hd (.inl rfl)
    refine domainSafe_of_rd (hrd _ hso hps fun e _ => ?_) (domainSafe_foldl (s := s.safeDevice 1) hd)
    obtain ⟨-, -, -, hev⟩ := domainReg_ne (e := e) hd (.inl rfl)
    exact hev
  · have hpath : (w.bput F.BSAFE_SOSTAT_HWDMD w.hwDemand).pathUpdate.devState = Dev.safe := by
      have hput : (w.bput F.BSAFE_SOSTAT_HWDMD w.hwDemand).bed.rd R.BSYS_DEVSTAT = w.bed.rd R.BSYS_DEVSTAT :=
        BedState.rd_put_ne _ F.BSAFE_SOSTAT_HWDMD _ (by decide)
      exact (bget_of_rd (f := F.BSYS_DEVSTAT_DEVSTATE) ((rd_pathUpdate (by decide)).trans (hput.trans (hw1.trans hu1)))).trans hstate
    rw [hbed]
    exact (congrArg (RegFile.get · F.BSAFE_SOSTAT_CMD) regs_sendSelect).trans (outputUpdate_safe hpath)

end State

namespace State
variable {s : State} {x : Lane}

/-- What a captured request leaves in the lane's mailbox (R73). -/
theorem captured_reqstat {v : Word} : (s.captured x v).get F.BREQ_REQSTAT_BUSY = 1 ∧
    (s.captured x v).get F.BREQ_REQSTAT_OP = v.toNat % 256 ∧
    (s.captured x v).get F.reqAccepted = min ((s.lane x).get F.reqAccepted + 1) 0xFFFF := by
  unfold captured
  refine ⟨?_, ?_, ?_⟩
  · rw [LaneState.get_bump_ne _ _ _ _ (by decide),
      LaneState.get_put_disjoint _ F.BREQ_REQSTAT_TAG F.BREQ_REQSTAT_BUSY _ (by decide) (by decide),
      LaneState.get_put_disjoint _ F.BREQ_REQSTAT_OP F.BREQ_REQSTAT_BUSY _ (by decide) (by decide),
      LaneState.get_put_same _ _ _ (by decide)]
    rfl
  · rw [LaneState.get_bump_ne _ _ _ _ (by decide),
      LaneState.get_put_disjoint _ F.BREQ_REQSTAT_TAG F.BREQ_REQSTAT_OP _ (by decide) (by decide),
      LaneState.get_put_same _ _ _ (by decide)]
    exact Nat.mod_eq_of_lt (Nat.mod_lt _ (by decide))
  · rw [LaneState.get_bump_same _ _ _ (by decide), LaneState.get_put_ne _ _ _ _ (by decide),
      LaneState.get_put_ne _ _ _ _ (by decide), LaneState.get_put_ne _ _ _ _ (by decide), LaneState.get_wr_ne _ _ _ _ (by decide)]
    rfl

/-- A write of REQCMD while BUSY is dropped (R73). -/
theorem reqcmdWrite_busy {v : Word} (hb : s.bedrockRuns = true) (ha : (s.lane x).alive = true)
    (hbusy : (s.lane x).get F.BREQ_REQSTAT_BUSY = 1) :
    s.reqcmdWrite x v = (s.modLane x (·.bump F.reqDropped 1)).bput (F.ignWr P.BSYS) 1 := by
  unfold reqcmdWrite
  rw [if_neg (by simp [hb, ha]), if_pos hbusy]

/-- DRIVE_ON with every domain ready (R219, R437). -/
theorem driveOn_outcome (hi : s.devState = Dev.idle) (hr : ∀ k, k < 8 → s.ready .A k = true ∨ s.ready .B k = true) :
    ∃ t, s.driveOn = (t, Res.ok) ∧ t.devState = Dev.drive ∧ t.noConsent ∧
      ∀ d, d < 8 → s.domBridges d ≠ [] → t.domState d = Dom.make ∧ t.holder d = s.maker d := by
  set u := ((List.range 8).filter fun d => !(s.domBridges d).isEmpty).foldl driveOnAt s with hu
  refine ⟨_, driveOn_eq hi hr, ?_, ?_, fun d hd hne => ?_⟩
  · exact (bget_of_rd (f := F.BSYS_DEVSTAT_DEVSTATE) (rd_outputUpdate (by decide))).trans (devState_setDev (by decide))
  · exact noConsent_outputUpdate (noConsent_setDev ⟨LaneState.get_put_same _ _ _ (by decide),
      LaneState.get_put_same _ _ _ (by decide)⟩)
  · obtain ⟨hdev, hout, -⟩ := domainReg_ne (e := 0) hd (.inl rfl)
    have hrd : (((u.modLanes (·.put F.PWR_PSTAT_CONSENT 0)).setDev Dev.drive).outputUpdate).bed.rd (R.BLEASE_LSTAT d) =
        u.bed.rd (R.BLEASE_LSTAT d) := (rd_outputUpdate hout).trans (rd_setDev hdev)
    obtain ⟨hs, hh, -⟩ := domain_of_rd hrd
    have hmem : d ∈ (List.range 8).filter fun d => !(s.domBridges d).isEmpty :=
      List.mem_filter.mpr ⟨List.mem_range.mpr hd, by simpa using hne⟩
    obtain ⟨ks, kh⟩ := domain_foldl_driveOnAt (s := s) (List.nodup_range.filter _) hmem
    exact ⟨hs.trans ks, hh.trans kh⟩

theorem calm_driveOffAt {d : Nat} {t : State} (h : s.calm t) : s.calm (t.driveOffAt d) := by
  unfold driveOffAt
  extract_lets s1 s2 s3 s4
  have h1 : s.calm s1 := calm_ite (calm_leaseTrigger h) h
  have h2 : s.calm s2 := calm_modBed (calm_modBed (calm_modBed h1))
  have h3 : s.calm s3 := calm_ite h2 (calm_modBed h2)
  exact calm_modBed (calm_modBed (calm_modBed (calm_modBed h3)))

/-- DRIVE_OFF (R219). -/
theorem driveOff_outcome (h : s.devState = Dev.drive) : ∃ t, s.driveOff = (t, Res.ok) ∧ t.devState = Dev.idle ∧
    s.calm t ∧ ∀ d, d < 8 → t.domainOff d := by
  set u := (List.range 8).foldl driveOffAt s with hu
  have hrd : ∀ a, a ≠ R.BSAFE_SOSTAT → (((u.setDev Dev.idle).outputUpdate).sendSelect).bed.rd a = (u.setDev Dev.idle).bed.rd a :=
    fun a h => rd_sendSelect.trans (rd_outputUpdate h)
  refine ⟨_, driveOff_eq h, ?_, ?_, fun d hd => ?_⟩
  · exact (bget_of_rd (f := F.BSYS_DEVSTAT_DEVSTATE) (hrd _ (by decide))).trans (devState_setDev (by decide))
  · exact calm_sendSelect (calm_outputUpdate (calm_setDev (calm_foldl (fun _ _ => calm_driveOffAt) calm_refl)))
  · obtain ⟨hl, hl', -⟩ := domainReg_ne (e := 0) hd (.inl rfl)
    obtain ⟨hh, hh', -⟩ := domainReg_ne (e := 0) hd (.inr rfl)
    exact domainOff_of_rd ((hrd _ hl').trans (rd_setDev hl)) ((hrd _ hh').trans (rd_setDev hh)) (domainOff_foldl hd)

/-! ### FAULT_ACK and FAULT_CLEAR (R412) -/

theorem bedFault_addr {k : Nat} : (F.bedAck k).addr ≠ (F.bedAct k).addr ∧ (F.bedAck k).addr ≠ R.BSAFE_PSTAT ∧
    (F.bedAct k).addr ≠ R.BSAFE_PSTAT ∧ (F.bedAck k).addr ≠ R.BSAFE_SOSTAT ∧ (F.bedAct k).addr ≠ R.BSAFE_SOSTAT ∧
    ((F.bedAck k).addr = R.BFLT_ACK_L ∨ (F.bedAck k).addr = R.BFLT_ACK_H) := by
  unfold F.bedAck F.bedAct
  dsimp only
  split <;> decide

theorem bedFault_width {k : Nat} : (F.bedAck k).lo + (F.bedAck k).width ≤ 32 ∧ (F.bedAct k).lo + (F.bedAct k).width ≤ 32 := by
  have h := Nat.mod_lt k (show 32 > 0 by decide)
  exact ⟨h, h⟩

/-- A source of Bedrock no longer active nor acknowledged. -/
def faultCleared (s : State) (k : Nat) : Prop := s.bed.get (F.bedAct k) = 0 ∧ s.bed.get (F.bedAck k) = 0

theorem faultCleared_of_rd {k : Nat} {t : State}
    (h : ∀ a, a ≠ R.BSAFE_PSTAT → a ≠ R.BSAFE_SOSTAT → t.bed.rd a = s.bed.rd a) (hs : s.faultCleared k) : t.faultCleared k := by
  obtain ⟨-, hackP, hactP, hackS, hactS, -⟩ := bedFault_addr (k := k)
  exact ⟨(bget_of_rd (h _ hactP hactS)).trans hs.1, (bget_of_rd (h _ hackP hackS)).trans hs.2⟩

theorem faultCleared_puts {k : Nat} : ((s.bput (F.bedAct k) 0).bput (F.bedAck k) 0).faultCleared k := by
  obtain ⟨hne, -⟩ := bedFault_addr (k := k)
  obtain ⟨hack, hact⟩ := bedFault_width (k := k)
  refine ⟨?_, (BedState.get_put_same _ _ _ hack).trans (Nat.zero_mod _)⟩
  exact (BedState.get_put_ne _ _ _ _ hne.symm).trans ((BedState.get_put_same _ _ _ hact).trans (Nat.zero_mod _))

/-- What the processor path and the safe outputs make of a cleared source lies in their own registers. -/
theorem rd_bput_pathFields {f g : Fld} {a : Nat} (hf : f.addr = R.BSAFE_PSTAT) (hg : g.addr = R.BSAFE_PSTAT)
    (h : a ≠ R.BSAFE_PSTAT) : ((s.bput f 0).bput g 0).bed.rd a = s.bed.rd a :=
  (BedState.rd_put_ne _ g _ (hg ▸ h)).trans (BedState.rd_put_ne _ f _ (hf ▸ h))

/-- A source is cleared, whatever path follows (R412). -/
theorem bedClearOp_outcome {k : Nat} (hk : k < 36) (hs : s.devState ≠ Dev.safe) (hact : s.bed.get (F.bedAct k) = 1)
    (hlive : s.bedLive k = false) : ∃ t, s.bedClearOp k = (t, 1) ∧ t.faultCleared k := by
  unfold bedClearOp
  rw [if_neg (by omega), if_neg (by simp [hs, hact, hlive])]
  extract_lets s1 s2
  refine ⟨_, rfl, ?_⟩
  have h1 : s1.faultCleared k := faultCleared_puts
  have h2 : s2.faultCleared k := by
    refine faultCleared_of_rd (fun a hp _ => ?_) h1
    show BedState.rd (State.bed (if k = 29 then _ else if k = 30 then _ else _)) a = _
    split
    · exact rd_bput_pathFields rfl rfl hp
    · split
      · exact rd_bput_pathFields rfl rfl hp
      · rfl
  split
  · exact faultCleared_of_rd (fun a hp ho => (rd_outputUpdate ho).trans (rd_pathUpdate hp)) h2
  · exact h2

end State

/-- Settles O23: a request's capture and its refusal while BUSY, and what each operation does. -/
theorem requestsCaptured : Obligations.RequestsCaptured := by
  unfold Obligations.RequestsCaptured
  intro s x d r v hb
  refine ⟨fun ha hbusy hop => ?_, fun ha hbusy => ?_, fun hr hw hs hop => ?_, fun hr hw hs hop hi hready => ?_,
    fun hr hw hs hop hdev => ?_, fun hr hw hs hop hdev => ?_, fun hr hw hs hop hdev hk hact => ?_,
    fun hr hw hs hop hdev hk hact hlive => ?_, fun hr hw hs hop hdev => ?_⟩
  · refine ⟨_, congrArg (fun t : State => done (t.modLane x (·.respond .xfr (if s.bedrockRuns then .done else .error))))
      (State.reqcmdWrite_idle hb ha hbusy hop), ?_⟩
    simp only [State.request_modLane, State.request_setRequest, State.lane_modLane_same, State.lane_setRequest,
      State.lane_setLane_same, LaneState.get_respond, State.brg_modLane, State.brg_setRequest, State.brg_setLane]
    obtain ⟨h1, h2, h3⟩ := State.captured_reqstat (s := s) (x := x) (v := v)
    exact ⟨rfl, h1, h2, h3, rfl, trivial⟩
  · refine ⟨_, congrArg (fun t : State => done (t.modLane x (·.respond .xfr (if s.bedrockRuns then .done else .error))))
      (State.reqcmdWrite_busy hb ha hbusy), ?_⟩
    simp only [State.request_modLane, State.lane_modLane_same, State.lane_bput, LaneState.get_respond, LaneState.rd_respond,
      State.bed_modLane, sameRegs, sameBedRegs]
    exact ⟨LaneState.get_bump_same _ _ _ (by decide), by cases x <;> rfl, fun a h => LaneState.rd_bump_ne _ _ _ h,
      fun a h => (BedState.rd_put_ne _ (F.ignWr P.BSYS) _ h).trans (by rw [State.bed_modLane])⟩
  · refine State.yields_serve rfl hb hr hw hs hop rfl ?_
    obtain ⟨hres, hbusy, hnone, hrd⟩ := State.postResult_answers (s := s) (x := x) (k := 1) (by decide)
    exact ⟨hres, hbusy, hnone, hrd, State.regs_postResult, State.brg_postResult⟩
  · obtain ⟨t, ht, hdev, hcons, hdom⟩ := State.driveOn_outcome hi hready
    refine State.yields_serve rfl hb hr hw hs hop ht ?_
    obtain ⟨hA, hB⟩ := State.noConsent_postResult (x := x) (k := Res.ok) hcons
    obtain ⟨hst, hho, -⟩ := State.domain_of_rd (s := t) (t := t.postResult x Res.ok) (d := d.val) State.rd_postResult
    refine ⟨State.bget_postResult.trans hdev, (State.postResult_answers (k := 1) (by decide)).1, hA, hB, fun hne => ?_⟩
    obtain ⟨ks, kh⟩ := hdom d.val d.isLt hne
    exact ⟨hst.trans ks, hho.trans kh⟩
  · obtain ⟨t, ht, hdev', hcalm, hoff⟩ := State.driveOff_outcome hdev
    refine State.yields_serve rfl hb hr hw hs hop ht ?_
    obtain ⟨hst, hc, htm, hA, hB⟩ := State.domainOff_of_rd (t := t.postResult x Res.ok) State.rd_postResult State.rd_postResult
      (hoff d.val d.isLt)
    refine ⟨State.bget_postResult.trans hdev', (State.postResult_answers (k := 1) (by decide)).1, hst, hc, htm, hA, hB, ?_⟩
    rw [State.lane_postResult]
    exact (State.calm_lane hcalm x).mem
  · refine State.yields_serve rfl hb hr hw hs hop (if_pos hdev) ?_
    obtain ⟨hres, -, hnone, hrd⟩ := State.postResult_answers (s := s.modLane x (·.put F.PWR_PSTAT_CONSENT 1)) (x := x)
      (k := Res.ok) (by decide)
    rw [State.lane_modLane_same] at hrd
    refine ⟨?_, hres, hnone, fun a h => ?_, ?_⟩
    · rw [LaneState.get_eq_rd, hrd _ (by decide), ← LaneState.get_eq_rd, LaneState.get_put_same _ _ _ (by decide)]
      rfl
    · exact (hrd a fun e => h (.inr e)).trans (LaneState.rd_put_ne _ _ _ fun e => h (.inl e))
    · rw [State.regs_postResult, State.bed_modLane]
  · have hop' : s.bedAckOp r.d0.toNat = (s.bput (F.bedAck r.d0.toNat) 1, 1) := by
      unfold State.bedAckOp
      rw [if_neg (by omega), if_neg (by simp [hdev, hact])]
    refine State.yields_serve rfl hb hr hw hs hop ((if_neg hdev).trans hop') ?_
    obtain ⟨-, -, -, -, -, haddr⟩ := State.bedFault_addr (k := r.d0.toNat)
    refine ⟨?_, (State.postResult_answers (k := 1) (by decide)).1, fun a h => ?_, State.brg_postResult⟩
    · exact State.bget_postResult.trans (BedState.get_put_same _ (F.bedAck r.d0.toNat) 1 State.bedFault_width.1)
    · refine State.rd_postResult.trans (BedState.rd_put_ne _ (F.bedAck r.d0.toNat) _ fun e => h ?_)
      exact haddr.imp (e.trans ·) (e.trans ·)
  · obtain ⟨t, ht, hact', hack'⟩ := State.bedClearOp_outcome hk hdev hact hlive
    exact State.yields_serve rfl hb hr hw hs hop ((if_neg hdev).trans ht)
      ⟨State.bget_postResult.trans hact', State.bget_postResult.trans hack', (State.postResult_answers (k := 1) (by decide)).1⟩
  · refine State.yields_serve rfl hb hr hw hs hop (if_pos hdev) ?_
    obtain ⟨hsafe, hcause, hdom, hcmd⟩ := State.deviceSafe_outcome hb hdev
    obtain ⟨hst, hA, hB⟩ := State.domainSafe_of_rd (t := (s.deviceSafe 1).postResult x Res.ok) State.rd_postResult
      (hdom d.val d.isLt)
    exact ⟨State.bget_postResult.trans hsafe, State.bget_postResult.trans hcause, hst, hA, hB, State.bget_postResult.trans hcmd,
      (State.postResult_answers (k := 1) (by decide)).1⟩
end Sys2Proof.Machine
end

section
/-! SETTLED. Xprizu and the entry into debug mode in DOZE (O19, O22). -/
namespace Sys2Proof.Machine
open Sys2Proof

/-- A hart that does not execute retires no Xprizu instruction. -/
theorem LaneState.xprizu_idle {l : LaneState} {p : Nat} {w : Word} {f : LaneState → LaneState} (h : l.pairRuns p = false) :
    l.xprizu p w f = l := if_pos (.inl (by rw [h]; rfl))

/-- The dozing pair executes no PRZ.CKPT. -/
theorem exec_przCkpt_dozing {w : Word} : exec (.przCkpt .A 2 w) dozing = done dozing :=
  congrArg (fun l => done (dozing.setLane .A l)) (LaneState.xprizu_idle dozing_pairRuns)

/-- Refutes O19: a pair is free in DOZE too, where its hart stands in WFI and executes no PRZ.CKPT that would request a
checkpoint. -/
theorem not_pairInstructions : ¬ Obligations.PairInstructions := by
  unfold Obligations.PairInstructions
  intro h
  obtain ⟨hckpt, -⟩ := h dozing .A .xfr 2 0 0 0 (by decide +kernel)
  obtain ⟨l, hl, hpair, -⟩ := hckpt (by decide +kernel)
  have hs : dozing = dozing.setLane .A l := Host.Outcome.next.inj (exec_przCkpt_dozing.symm.trans hl)
  have hwaits := congrArg (fun t => ((t.lane .A).pair 2).przReq) hs
  rw [State.lane_setLane_same, show l.pair 2 = _ from hpair] at hwaits
  exact absurd hwaits (by decide +kernel)

/-- Lane A in DOZE as `dozing` has it, the debug module enabled: the checkpoint of a halt request of pair 2 has committed, and
the hart then executed WFI before it entered debug mode (R104, R436). -/
def dozingHalt : State :=
  dozing.modLane .A fun l => { l.modPair 2 fun q => { q with haltReq := true } with
    dm := { DebugMod.reset with enabled := true, active := true } }

/-- A hart whose core clock is stopped enters no debug mode. -/
theorem exec_debugModeEntry_dozingHalt : exec (.debugModeEntry .A 2) dozingHalt = done dozingHalt := by
  have hidle : ¬((dozingHalt.lane .A).pairRuns 2 = true ∧ ((dozingHalt.lane .A).pair 2).haltReq = true ∧
      (!((dozingHalt.lane .A).pair 2).ckptReq) = true) := by decide +kernel
  exact congrArg (fun l => done (dozingHalt.setLane .A l)) (if_neg hidle)

/-- Refutes O22: in DOZE the pair stands in RUN with its halt request checkpointed, and its hart, whose clock is stopped, does
not halt. -/
theorem not_debugOfPairs : ¬ Obligations.DebugOfPairs := by
  unfold Obligations.DebugOfPairs
  intro h
  obtain ⟨-, hentry, -⟩ := h dozingHalt .A 2 0 0 0 (by decide +kernel) (by decide +kernel)
  obtain ⟨l, hl, hhalted, -⟩ := hentry (by decide +kernel) (by decide +kernel) (by decide +kernel) (by decide +kernel)
  have hs : dozingHalt = dozingHalt.setLane .A l :=
    Host.Outcome.next.inj (exec_debugModeEntry_dozingHalt.symm.trans hl)
  have hstate := congrArg (fun t => (t.lane .A).pairState 2) hs
  rw [State.lane_setLane_same, show l.pairState 2 = _ from hhalted] at hstate
  exact absurd hstate (by decide +kernel)
end Sys2Proof.Machine
end

section
/-! SUPPORT. The hart pairs of a lane: what an operation of the lane leaves of them, the checkpoint unit's registers, and
what a discard and a fence do (R91, R100, R103). -/
namespace Sys2Proof.Machine
open Sys2Proof

/-! ### The checkpoint unit's registers -/

/-- The registers of the pairs lie above the page's header. -/
theorem pairReg_ne_header {a : Nat} (h : 0x4000D100 ≤ a) :
    a ≠ R.irqRaw P.CKP ∧ a ≠ R.irqStat P.CKP ∧ a ≠ R.evtCnt P.CKP := by
  simp only [R.irqRaw, R.irqStat, R.evtCnt, P.CKP]
  omega

theorem pairstat_ne_header (p : Nat) : R.CKP_PAIRSTAT p ≠ R.irqRaw P.CKP ∧ R.CKP_PAIRSTAT p ≠ R.irqStat P.CKP ∧
    R.CKP_PAIRSTAT p ≠ R.evtCnt P.CKP := pairReg_ne_header (by simp only [R.CKP_PAIRSTAT]; omega)

theorem rstcnt_ne_header (p : Nat) : R.CKP_RSTCNT p ≠ R.irqRaw P.CKP ∧ R.CKP_RSTCNT p ≠ R.irqStat P.CKP ∧
    R.CKP_RSTCNT p ≠ R.evtCnt P.CKP := pairReg_ne_header (by simp only [R.CKP_RSTCNT]; omega)

theorem cksn_ne_header (p : Nat) : R.CKP_CKSN_LO p ≠ R.evtCnt P.CKP ∧ R.CKP_CKSN_HI p ≠ R.evtCnt P.CKP := by
  simp only [R.CKP_CKSN_LO, R.CKP_CKSN_HI, R.evtCnt, P.CKP]
  omega

/-- PAIRSTAT of a pair that exists is none of the registers that follow it. -/
theorem pairstat_ne (p : Fin 4) : R.CKP_PAIRSTAT p ≠ R.CKP_LASTMIS p ∧ R.CKP_PAIRSTAT p ≠ R.CKP_RSTCNT p ∧
    R.CKP_PAIRSTAT p ≠ R.CKP_CKSN_LO p ∧ R.CKP_PAIRSTAT p ≠ R.CKP_CKSN_HI p := by
  revert p
  decide

/-- The pair without its uncommitted lines (R100). -/
def Pair.discarded (q : Pair) : Pair := { q with lines := q.lines.filter fun c => !c.u }

namespace LaneState
variable {l m : LaneState} {p q : Nat}

/-! ### Pairs -/

@[simp] theorem pair_modPair_same {f : Pair → Pair} : (l.modPair p f).pair p = f (l.pair p) := Table.get_set_same _ _ _ _

theorem pair_modPair_ne {f : Pair → Pair} (h : q ≠ p) : (l.modPair p f).pair q = l.pair q := Table.get_set_ne _ _ _ h

theorem pair_congr (h : m.pairs = l.pairs) : m.pair q = l.pair q := congrArg (Table.get _ · q) h

@[simp] theorem pair_put {f : Fld} {v : Nat} : (l.put f v).pair q = l.pair q := rfl
@[simp] theorem pair_bump {f : Fld} {k : Nat} : (l.bump f k).pair q = l.pair q := rfl
@[simp] theorem pair_count {b k : Nat} : (l.count b k).pair q = l.pair q := pair_congr pairs_count
@[simp] theorem pair_irqPulse {b : Nat} {w : Word} : (l.irqPulse b w).pair q = l.pair q := pair_congr pairs_irqPulse
@[simp] theorem pair_irqRise {b : Nat} {w : Word} : (l.irqRise b w).pair q = l.pair q := pair_congr pairs_irqRise
@[simp] theorem pair_irqFall {b : Nat} {w : Word} : (l.irqFall b w).pair q = l.pair q := pair_congr pairs_irqFall
@[simp] theorem pair_setPairState {v : Nat} : (l.setPairState p v).pair q = l.pair q := rfl
@[simp] theorem pair_setLogUsed : (l.setLogUsed p).pair q = l.pair q := rfl

/-! ### PAIRSTAT -/

theorem pairState_of_rd (h : m.rd (R.CKP_PAIRSTAT p) = l.rd (R.CKP_PAIRSTAT p)) : m.pairState p = l.pairState p :=
  congrArg (getBits · 0 3) h

theorem pairState_setPairState {v : Nat} (h : v < 8) : (l.setPairState p v).pairState p = v :=
  (get_put_same _ _ _ (by decide : 0 + 3 ≤ 32)).trans (Nat.mod_eq_of_lt h)

theorem rd_setPairState {v a : Nat} (h : a ≠ R.CKP_PAIRSTAT p) : (l.setPairState p v).rd a = l.rd a := rd_put_ne _ _ _ h

theorem rd_setLogUsed {a : Nat} (h : a ≠ R.CKP_PAIRSTAT p) : (l.setLogUsed p).rd a = l.rd a := rd_put_ne _ _ _ h

/-! ### CKSN -/

theorem cksn_of_rd (hl : m.rd (R.CKP_CKSN_LO p) = l.rd (R.CKP_CKSN_LO p))
    (hh : m.rd (R.CKP_CKSN_HI p) = l.rd (R.CKP_CKSN_HI p)) : m.cksn p = l.cksn p := by
  unfold cksn
  rw [hl, hh]

/-- The halves of CKSN hold `n`. -/
def setCksn (l : LaneState) (p : Nat) (n : DWord) : LaneState :=
  (l.wr (R.CKP_CKSN_LO p) (n.setWidth 32)).wr (R.CKP_CKSN_HI p) ((n >>> 32).setWidth 32)

@[simp] theorem pair_setCksn {v : DWord} : (l.setCksn p v).pair q = l.pair q := rfl

theorem cksn_setCksn {n : DWord} : (l.setCksn p n).cksn p = n := by
  have hne : R.CKP_CKSN_LO p ≠ R.CKP_CKSN_HI p := by simp only [R.CKP_CKSN_LO, R.CKP_CKSN_HI]; omega
  unfold cksn setCksn
  rw [rd_wr_same, rd_wr_ne _ _ hne, rd_wr_same]
  apply BitVec.eq_of_toNat_eq
  simp only [BitVec.toNat_ofNat, BitVec.toNat_setWidth, BitVec.toNat_ushiftRight, Nat.shiftRight_eq_div_pow]
  omega

/-! ### Stores that wait -/

theorem serveStores_none (h : l.uStores = []) : l.serveStores = l := by
  unfold serveStores
  rw [h]
  show ({ l with uStores := [] } : LaneState) = l
  rw [← h]

/-- A byte of another master finds no line of a pair that holds none: it can only end its reservation. -/
theorem pair_dmaShare {a : Nat} {b : Byte} (h : (l.pair p).lines = []) :
    ∃ r, (l.dmaShare q a b).pair p = { l.pair p with resv := r } := by
  unfold dmaShare
  extract_lets k m
  have hm : ∃ r, m.pair p = { l.pair p with resv := r } := by
    by_cases hq : p = q
    · subst hq
      by_cases hr : (l.pair p).resv = some k
      · exact ⟨none, by simp only [m, if_pos hr, pair_modPair_same]⟩
      · exact ⟨(l.pair p).resv, by simp only [m, if_neg hr]⟩
    · refine ⟨(l.pair p).resv, ?_⟩
      simp only [m]
      split
      · exact pair_modPair_ne hq
      · rfl
  obtain ⟨r, hr⟩ := hm
  refine ⟨r, ?_⟩
  by_cases hq : p = q
  · subst hq
    have hn : m.cline p k = none := by unfold cline; rw [hr]; simp [h]
    rw [hn]
    exact hr
  · split
    · exact (pair_modPair_ne hq).trans hr
    · exact hr

/-- What the stores of other masters leave of the lane: its registers, and pair `p` but for its reservation. -/
def leftBy (p : Nat) (l m : LaneState) : Prop := m.regs = l.regs ∧ ∃ r, m.pair p = { l.pair p with resv := r }

theorem leftBy_refl : leftBy p l l := ⟨rfl, _, rfl⟩

theorem leftBy_trans {k : LaneState} (h : leftBy p l m) (h' : leftBy p m k) : leftBy p l k := by
  obtain ⟨hr, r, hp⟩ := h
  obtain ⟨hr', r', hp'⟩ := h'
  exact ⟨hr'.trans hr, r', by rw [hp', hp]⟩

theorem leftBy_lines (h : leftBy p l m) (hl : (l.pair p).lines = []) : (m.pair p).lines = [] := by
  obtain ⟨-, r, hp⟩ := h
  rw [hp]
  exact hl

theorem regs_dmaShare {a : Nat} {b : Byte} : (l.dmaShare q a b).regs = l.regs := by
  unfold dmaShare
  dsimp only
  split <;> split <;> rfl

theorem leftBy_dmaByteIn {a : Nat} {b : Byte} (h : (l.pair p).lines = []) : leftBy p l (l.dmaByteIn a b) := by
  have hshare : leftBy p l ((List.range 4).foldl (fun m q => m.dmaShare q a b) l) :=
    List.foldlRecOn _ _ leftBy_refl fun m hm q _ =>
      leftBy_trans hm ⟨regs_dmaShare, pair_dmaShare (leftBy_lines hm h)⟩
  unfold dmaByteIn
  generalize (List.range 4).foldl (fun m q => m.dmaShare q a b) l = m at hshare ⊢
  dsimp only
  split
  · exact hshare
  · exact hshare

theorem leftBy_serveStores (h : (l.pair p).lines = []) : leftBy p l l.serveStores := by
  unfold serveStores
  exact List.foldlRecOn _ _ leftBy_refl fun m hm e _ => leftBy_trans hm (leftBy_dmaByteIn (leftBy_lines hm h))

/-- With no store waiting a discard changes the pair's lines only. -/
theorem discardU_eq (h : l.uStores = []) : l.discardU p = l.modPair p Pair.discarded := serveStores_none h

/-! ### A fence -/

/-- `m` has the pairs, the registers and the memory of `l`. -/
def alike (l m : LaneState) : Prop := m.pairs = l.pairs ∧ m.regs = l.regs ∧ m.mem = l.mem

theorem alike_sendPlace {k : Nat} {pay : List Word} (h : alike l m) : alike l (m.sendPlace k pay) := by
  unfold sendPlace llReady
  split
  · exact h
  · exact h

/-- Sieve's triggers but that of a lost peer leave the lane alike (R202). -/
theorem alike_trigger {k : Nat} (h : k ≠ 2) : alike l (l.trigger k) := by
  have harise {m : LaneState} {late : Bool} (hm : alike l m) : alike l (m.arise k late) := by
    unfold arise
    extract_lets v v' m'
    have hm' : alike l m' := by
      simp only [m', if_neg h]
      exact hm
    split
    · exact hm'
    · exact alike_sendPlace hm'
  unfold trigger
  split
  · exact harise ⟨rfl, rfl, rfl⟩
  · exact harise ⟨rfl, rfl, rfl⟩

end LaneState

/-- What a fence keeps of a pair (R103). -/
def Pair.fenced (q : Pair) : Pair :=
  { Pair.reset with cb0 := q.cb0, cb1 := q.cb1, released := q.released, imsic := q.imsic, ceCount := q.ceCount }

namespace LaneState
variable {l m : LaneState} {p q : Nat}

/-- A pair that is fenced (R103): its cells, its state, and the registers of its lane's pairs but PAIRSTAT. -/
theorem fencePair_outcome (h : l.pairState p ≠ PState.fenced) :
    (∃ r, (l.fencePair p).pair p = { (l.pair p).fenced with resv := r }) ∧
    (l.fencePair p).pairState p = PState.fenced ∧ (l.fencePair p).get (F.CKP_PAIRSTAT_LOGUSED p) = 0 ∧
    ∀ a, 0x4000D100 ≤ a → a ≠ R.CKP_PAIRSTAT p → (l.fencePair p).rd a = l.rd a := by
  have hs : leftBy p (l.modPair p Pair.fenced) (l.modPair p Pair.fenced).serveStores :=
    leftBy_serveStores (by rw [pair_modPair_same]; rfl)
  have he : l.fencePair p = ((((l.modPair p Pair.fenced).serveStores.setPairState p PState.fenced).put
      (F.CKP_PAIRSTAT_LOGUSED p) 0).irqRise P.CKP (mbit (4 + p))).trigger 5 := if_neg h
  generalize (l.modPair p Pair.fenced).serveStores = m at hs he
  obtain ⟨hregs, r, hpair⟩ := hs
  obtain ⟨tpairs, tregs, -⟩ := alike_trigger (k := 5) (by decide)
    (l := ((m.setPairState p PState.fenced).put (F.CKP_PAIRSTAT_LOGUSED p) 0).irqRise P.CKP (mbit (4 + p)))
  obtain ⟨hraw, hstat, -⟩ := pairstat_ne_header p
  have hget {f : Fld} (hf : f.addr = R.CKP_PAIRSTAT p) : (l.fencePair p).get f =
      ((m.setPairState p PState.fenced).put (F.CKP_PAIRSTAT_LOGUSED p) 0).get f := by
    rw [he, get, tregs]
    exact get_irqRise _ _ _ _ (hf ▸ hraw) (hf ▸ hstat)
  refine ⟨⟨r, ?_⟩, ?_, ?_, fun a ha hne => ?_⟩
  · rw [he, pair_congr tpairs, pair_irqRise, pair_put, pair_setPairState, hpair, pair_modPair_same]
  · exact (hget rfl).trans ((get_put_disjoint _ _ _ _ (by decide : 4 + 9 ≤ 32) (.inl (by decide : 0 + 3 ≤ 4))).trans
      (pairState_setPairState (by decide)))
  · exact (hget rfl).trans (get_put_same _ _ _ (by decide : 4 + 9 ≤ 32))
  · obtain ⟨araw, astat, -⟩ := pairReg_ne_header ha
    rw [he, rd, tregs]
    exact (rd_irqRise _ _ _ araw astat).trans ((rd_put_ne _ _ _ hne).trans ((rd_setPairState hne).trans
      (congrArg (RegFile.rd · a) hregs)))
end LaneState
end Sys2Proof.Machine
end

section
/-! SUPPORT. Commit, mismatch, restart and revival of a pair (R91, R98, R100, R103). -/
namespace Sys2Proof.Machine
open Sys2Proof

/-- The pair once its checkpoint commits outside a replay, `b` naming the buffer of the last (R91). -/
def Pair.committed (q : Pair) (b : Nat) : Pair :=
  { q with
    hart := q.atCommit, cb0 := if b = 0 then q.cb0 else q.atCommit.record q.haltReq,
    cb1 := if b = 0 then q.atCommit.record q.haltReq else q.cb1, ckptReq := false, przReq := false,
    lines := q.lines.map (fun c => { c with u := false }), log := [], logPos := 0, replay := false, eic := 0 }

/-- The pair that waits for its restart: a PRZ.CKPT will be executed again (R100). -/
def Pair.stopped (q : Pair) : Pair := { q with przReq := false, resv := none, wfi := false }

/-- Without a halt request the hart goes on as it is, a PRZ.CKPT retired. -/
theorem Pair.atCommit_running {q : Pair} (h : q.haltReq = false) :
    q.atCommit = { q.hart with pc := q.hart.pc + if q.przReq then 4 else 0 } := by
  unfold Pair.atCommit
  cases hz : q.przReq <;> simp [h]

namespace LaneState
variable {l : LaneState} {p : Fin 4}

/-! ### Commit (R91) -/

/-- The pair's record saved in the other buffer. -/
def saved (l : LaneState) (p : Nat) : LaneState :=
  (l.modPair p (·.committed (l.get (F.CKP_PAIRSTAT_BUF p)))).put (F.CKP_PAIRSTAT_BUF p) (1 - l.get (F.CKP_PAIRSTAT_BUF p))

theorem pair_saved : (l.saved p).pair p = (l.pair p).committed (l.get (F.CKP_PAIRSTAT_BUF p)) := by
  unfold saved
  rw [pair_put, pair_modPair_same]

theorem pair_saved_ne {q : Nat} (h : q ≠ p) : (l.saved p).pair q = l.pair q := by
  unfold saved
  rw [pair_put, pair_modPair_ne h]

/-- The lane once that checkpoint has committed as number `n`. -/
def committed (l : LaneState) (p : Nat) (n : DWord) : LaneState :=
  ((((l.saved p).setCksn p n).setLogUsed p).setPairState p PState.run).count P.CKP 1

/-- A commit outside a replay, with no store of another master waiting. -/
theorem ckptCommit_eq {k : Nat} (hr : (l.pair p).ckptReq = true) (hs : l.pairState p = PState.save)
    (hp : (l.pair p).replay = false) (hu : l.uStores = []) : l.ckptCommit p k = l.committed p (l.cksn p + 1) := by
  have hrest : (l.pair p).restLog k = [] := by simp [Pair.restLog, hp]
  have hgo : ¬((!(l.pair p).ckptReq) = true ∨ l.pairState p ≠ PState.save) := by simp [hr, hs]
  obtain ⟨-, -, hlo, hhi⟩ := pairstat_ne p
  have hn : (l.saved p).cksn p = l.cksn p := cksn_of_rd (rd_put_ne _ _ _ hlo.symm) (rd_put_ne _ _ _ hhi.symm)
  rw [← hn]
  unfold ckptCommit
  dsimp only
  rw [if_neg hgo, hrest, serveStores_none (l := l.modPair p _) hu]
  rfl

/-- What the checkpoint unit's registers show of a commit. -/
theorem committed_registers {n : DWord} :
    (l.committed p n).get (F.CKP_PAIRSTAT_BUF p) = 1 - l.get (F.CKP_PAIRSTAT_BUF p) ∧ (l.committed p n).cksn p = n ∧
    (l.committed p n).pairState p = PState.run := by
  obtain ⟨-, -, hlo, hhi⟩ := pairstat_ne p
  obtain ⟨-, -, hcnt⟩ := pairstat_ne_header p
  obtain ⟨clo, chi⟩ := cksn_ne_header p
  unfold committed
  refine ⟨?_, ?_, ?_⟩
  · rw [get_count _ _ _ _ hcnt]
    unfold setPairState setLogUsed setCksn saved
    rw [get_put_disjoint _ _ _ _ (by decide : 0 + 3 ≤ 32) (.inr (by decide : 0 + 3 ≤ 3)),
      get_put_disjoint _ _ _ _ (by decide : 4 + 9 ≤ 32) (.inl (by decide : 3 + 1 ≤ 4)), get_wr_ne _ _ _ _ hhi,
      get_wr_ne _ _ _ _ hlo, get_put_same _ _ _ (by decide : 3 + 1 ≤ 32)]
    exact Nat.mod_eq_of_lt (Nat.lt_of_le_of_lt (Nat.sub_le _ _) (by decide : 1 < 2 ^ 1))
  · refine Eq.trans (cksn_of_rd ?_ ?_) (cksn_setCksn (l := l.saved p))
    · rw [rd_count _ _ _ clo, rd_setPairState hlo.symm, rd_setLogUsed hlo.symm]
    · rw [rd_count _ _ _ chi, rd_setPairState hhi.symm, rd_setLogUsed hhi.symm]
  · exact (pairState_of_rd (rd_count _ _ _ hcnt)).trans (pairState_setPairState (by decide))

theorem pair_committed {n : DWord} : (l.committed p n).pair p = (l.pair p).committed (l.get (F.CKP_PAIRSTAT_BUF p)) := by
  unfold committed
  rw [pair_count, pair_setPairState, pair_setLogUsed, pair_setCksn, pair_saved]

theorem pair_committed_ne {n : DWord} {q : Nat} (h : q ≠ p) : (l.committed p n).pair q = l.pair q := by
  unfold committed
  rw [pair_count, pair_setPairState, pair_setLogUsed, pair_setCksn, pair_saved_ne h]

theorem mem_committed {n : DWord} : (l.committed p n).mem = l.mem := by
  unfold committed
  rw [mem_count]
  rfl

/-- The buffer just written holds the record of the hart as the commit leaves it. -/
theorem lastCkpt_committed {n : DWord} :
    (l.committed p n).lastCkpt p = (l.pair p).atCommit.record (l.pair p).haltReq := by
  have hlt : l.get (F.CKP_PAIRSTAT_BUF p) < 2 := get_lt _ _
  unfold lastCkpt
  rw [committed_registers.1, pair_committed]
  by_cases h0 : l.get (F.CKP_PAIRSTAT_BUF p) = 0
  · rw [if_neg (by omega)]
    exact if_pos h0
  · rw [if_pos (by omega)]
    exact if_neg h0

/-! ### Mismatch (R100) -/

/-- The comparator's record of a mismatch, and its source raised. -/
def mismatched (l : LaneState) (p group eic : Nat) : LaneState :=
  ((l.put (F.CKP_LASTMIS_GROUP p) group).put (F.CKP_LASTMIS_EIC p) eic).raise (56 + p)

theorem mismatched_record (l : LaneState) {group eic : Nat} (hg : group < 16) (he : eic < 0x1000000) :
    (l.mismatched p group eic).get (F.CKP_LASTMIS_GROUP p) = group ∧
      (l.mismatched p group eic).get (F.CKP_LASTMIS_EIC p) = eic := by
  unfold mismatched
  rw [get_raise, get_raise]
  constructor
  · rw [get_put_disjoint _ _ _ _ (by decide : 8 + 24 ≤ 32) (.inl (by decide : 0 + 4 ≤ 8)),
      get_put_same _ _ _ (by decide : 0 + 4 ≤ 32)]
    exact Nat.mod_eq_of_lt hg
  · rw [get_put_same _ _ _ (by decide : 8 + 24 ≤ 32)]
    exact Nat.mod_eq_of_lt he

theorem rd_mismatched {group eic a : Nat} (h : a ≠ R.CKP_LASTMIS p) : (l.mismatched p group eic).rd a = l.rd a :=
  (rd_put_ne _ _ _ h).trans (rd_put_ne _ _ _ h)

theorem pairState_mismatched {group eic : Nat} : (l.mismatched p group eic).pairState p = l.pairState p :=
  pairState_of_rd (rd_mismatched (pairstat_ne p).1)

/-- A pair in RUN restarts where the reaction is below FENCE, and is fenced at or above it. -/
theorem mismatch_eq {group eic : Nat} (ha : l.alive = true) (hr : (l.pair p).released = true)
    (hs : l.pairState p = PState.run) :
    l.mismatch p group eic = if Sev.fence ≤ l.reaction (56 + p) then (l.mismatched p group eic).fencePair p
      else (((l.mismatched p group eic).discardU p).modPair p Pair.stopped).setPairState p PState.restart := by
  have hrun : ¬(l.mismatched p group eic).pairState p = PState.halted := by
    rw [pairState_mismatched, hs]
    decide
  have hgo : ¬((!l.alive) = true ∨ (!(l.pair p).released) = true ∨ l.pairState p = PState.fenced ∨
      l.pairState p = PState.restart) := by
    rw [ha, hr, hs]
    decide
  exact (if_neg hgo).trans (if_neg hrun)

/-- The course of a restart, with no store of another master waiting. -/
theorem mismatch_restarts {group eic : Nat} (ha : l.alive = true) (hr : (l.pair p).released = true)
    (hs : l.pairState p = PState.run) (hsev : l.reaction (56 + p) < Sev.fence) (hu : l.uStores = []) :
    l.mismatch p group eic = (((l.mismatched p group eic).modPair p Pair.discarded).modPair p Pair.stopped).setPairState p
      PState.restart := by
  rw [mismatch_eq ha hr hs, if_neg (Nat.not_le.mpr hsev), discardU_eq (l := l.mismatched p group eic) hu]

/-! ### Replay (R98) -/

/-- The pair that leaves replay, in RUN where it was in REPLAY. -/
theorem endReplay_eq (hr : (l.pair p).replay = true) (hl : (l.pair p).log.length ≤ (l.pair p).logPos) :
    l.endReplay p = if l.pairState p = PState.replay
      then (l.modPair p fun q => { q with replay := false }).setPairState p PState.run
      else l.modPair p fun q => { q with replay := false } := if_pos ⟨hr, hl⟩

end LaneState

/-! ### Restart (R98, R100) -/

/-- The pair that resumes from the record `h` and replays its log. -/
def Pair.restarted (q : Pair) (h : Hart) : Pair :=
  { q with hart := h.restored q.hart, resv := none, logPos := 0, replay := !q.log.isEmpty, eic := 0 }

/-- The state in which it resumes. -/
def Pair.restartState (q : Pair) : Nat :=
  if q.ckptReq then PState.save else if q.log.isEmpty then PState.run else PState.replay

theorem Pair.restartState_lt (q : Pair) : q.restartState < 8 := by
  unfold Pair.restartState
  split
  · decide
  · split <;> decide

namespace LaneState
variable {l : LaneState} {p : Fin 4}

/-- The lane once pair `p` has restarted. -/
def restarted (l : LaneState) (p : Nat) : LaneState :=
  (((((l.modPair p (·.restarted (l.lastCkpt p))).setPairState p (l.pair p).restartState).bump (F.CKP_RSTCNT_COUNT p) 1).put
    (F.CKP_RSTCNT_REPLAYED p) 0).irqPulse P.CKP (mbit p)).count P.CKP 3

theorem pair_restarted : (l.restarted p).pair p = (l.pair p).restarted (l.lastCkpt p) := by
  unfold restarted
  rw [pair_count, pair_irqPulse, pair_put, pair_bump, pair_setPairState, pair_modPair_same]

theorem mem_restarted : (l.restarted p).mem = l.mem := by
  unfold restarted
  rw [mem_count, mem_irqPulse]
  rfl

theorem restarted_registers : (l.restarted p).pairState p = (l.pair p).restartState ∧
    (l.restarted p).get (F.CKP_RSTCNT_COUNT p) = min (l.get (F.CKP_RSTCNT_COUNT p) + 1) 0xFFFF ∧
    (l.restarted p).get (F.CKP_RSTCNT_REPLAYED p) = 0 := by
  obtain ⟨-, hrst, -⟩ := pairstat_ne p
  obtain ⟨-, sstat, scnt⟩ := pairstat_ne_header p
  obtain ⟨-, rstat, rcnt⟩ := rstcnt_ne_header p
  have hcount (m : LaneState) (k : Nat) : (m.put (F.CKP_RSTCNT_REPLAYED p) k).get (F.CKP_RSTCNT_COUNT p) =
      m.get (F.CKP_RSTCNT_COUNT p) :=
    get_put_disjoint _ _ _ _ (by decide : 16 + 9 ≤ 32) (.inl (by decide : 0 + 16 ≤ 16))
  unfold restarted
  refine ⟨?_, ?_, ?_⟩
  · refine Eq.trans (pairState_of_rd ?_) (pairState_setPairState (l := l.modPair p (·.restarted (l.lastCkpt p)))
      (Pair.restartState_lt _))
    rw [rd_count _ _ _ scnt, rd_irqPulse _ _ _ sstat, rd_put_ne _ _ _ hrst, rd_bump_ne _ _ _ hrst]
  · rw [get_count _ _ _ _ rcnt, get_irqPulse _ _ _ _ rstat, hcount, get_bump_same _ _ _ (by decide : 0 + 16 ≤ 32)]
    exact congrArg (fun v => min (v + 1) 0xFFFF) (get_put_ne _ _ _ _ hrst.symm)
  · rw [get_count _ _ _ _ rcnt, get_irqPulse _ _ _ _ rstat]
    exact get_put_same _ _ _ (by decide : 16 + 9 ≤ 32)

end LaneState

/-! ### Revival (R103) -/

/-- A write of PAIRCMD stores nothing in it; its two fields act (R108). -/
theorem RegFile.write_paircmd {rf : RegFile} {w : Word} {c : WriteCtx} (h : getBits w 4 4 ≤ 2) :
    (rf.write R.CKP_PAIRCMD w c).file = rf.wr R.CKP_PAIRCMD (rf.rd R.CKP_PAIRCMD) ∧
    (rf.write R.CKP_PAIRCMD w c).clamped = 0 ∧
    getBits (rf.write R.CKP_PAIRCMD w c).eff 0 2 = getBits w 0 2 ∧
    getBits (rf.write R.CKP_PAIRCMD w c).eff 4 4 = getBits w 4 4 := by
  have hf : regFields R.CKP_PAIRCMD = [⟨0, 2, .wo, .any⟩, ⟨4, 4, .wo, .codes [0, 1, 2] 0⟩] := by decide
  have hcode : [0, 1, 2].contains (getBits w 4 4) = true := by
    rw [List.contains_iff_mem]
    simp only [List.mem_cons, List.not_mem_nil, or_false]
    omega
  have hw : writeFields rf R.CKP_PAIRCMD w c (regFields R.CKP_PAIRCMD) =
      ⟨rf.rd R.CKP_PAIRCMD, setBits (setBits 0 0 2 (getBits w 0 2)) 4 4 (getBits w 4 4), 0, 0, false⟩ := by
    rw [hf]
    simp only [writeFields, writeField, List.foldl_cons, List.foldl_nil, legalValue, hcode, if_true]
  have he : (rf.write R.CKP_PAIRCMD w c).eff = setBits (setBits 0 0 2 (getBits w 0 2)) 4 4 (getBits w 4 4) :=
    congrArg WriteAcc.eff hw
  refine ⟨?_, congrArg WriteAcc.clamped hw, ?_, ?_⟩
  · unfold RegFile.write
    dsimp only
    rw [hw]
    rfl
  · rw [he, getBits_setBits_disjoint _ _ _ _ _ _ (by decide) (by decide), getBits_setBits_same _ _ _ _ (by decide)]
    exact Nat.mod_eq_of_lt (getBits_lt _ _ _)
  · rw [he, getBits_setBits_same _ _ _ _ (by decide)]
    exact Nat.mod_eq_of_lt (getBits_lt _ _ _)

/-- The fields of the word with which PAIRCMD_REVIVE names pair `p`. -/
theorem getBits_revive (p : Fin 4) : getBits (BitVec.ofNat 32 (p.val + 0x20)) 0 2 = p.val ∧
    getBits (BitVec.ofNat 32 (p.val + 0x20)) 4 4 = 2 := by
  revert p
  decide

namespace LaneState
variable {l : LaneState} {p : Fin 4}

/-- A register written with its own word. -/
theorem rd_wr_self {a b : Nat} : (l.wr a (l.rd a)).rd b = l.rd b := by
  by_cases h : b = a
  · rw [h, rd_wr_same]
  · exact rd_wr_ne _ _ h

theorem get_wr_self {a : Nat} {f : Fld} : (l.wr a (l.rd a)).get f = l.get f :=
  congrArg (getBits · f.lo f.width) rd_wr_self

/-- The lane after a write of PAIRCMD, before its command acts: every register holds its word. -/
def paircmdTaken (l : LaneState) : LaneState := l.wr R.CKP_PAIRCMD (l.rd R.CKP_PAIRCMD)

theorem get_paircmdTaken {f : Fld} : l.paircmdTaken.get f = l.get f := get_wr_self

theorem pairFaulty_paircmdTaken : l.paircmdTaken.pairFaulty p = l.pairFaulty p := by
  unfold pairFaulty quiet srcState
  rw [get_paircmdTaken, get_paircmdTaken, get_paircmdTaken]

theorem slotBase_paircmdTaken : l.paircmdTaken.slotBase = l.slotBase := by
  unfold slotBase
  rw [get_paircmdTaken]

/-- CMD 2 for a fenced pair that nothing keeps fenced starts it anew. -/
theorem paircmdWrite_revive (ht : l.takes R.CKP_PAIRCMD = true) (hs : l.pairState p = PState.fenced)
    (hq : l.pairFaulty p = false) (hf : l.fencedBy (.pair p) = false) :
    l.paircmdWrite (BitVec.ofNat 32 (p.val + 0x20)) =
      ((l.paircmdTaken.startPair p true).irqFall P.CKP (mbit (4 + p))).trigger 5 := by
  obtain ⟨ha, hb, hl⟩ := takes_iff.mp ht
  obtain ⟨wpair, wcmd⟩ := getBits_revive p
  generalize (BitVec.ofNat 32 (p.val + 0x20) : Word) = w at wpair wcmd ⊢
  obtain ⟨hfile, hclamp, hpair, hcmd⟩ := RegFile.write_paircmd (rf := l.regs) (c := l.writeCtx R.CKP_PAIRCMD) wcmd.le
  have htaken : l.withRegs (l.regs.write R.CKP_PAIRCMD w (l.writeCtx R.CKP_PAIRCMD)).file = l.paircmdTaken :=
    congrArg l.withRegs hfile
  have hfree : ¬(l.paircmdTaken.pairFaulty p || l.paircmdTaken.fencedBy (.pair p)) = true := by
    rw [pairFaulty_paircmdTaken, hq, show l.paircmdTaken.fencedBy (.pair p) = false from hf]
    decide
  have hstate : l.paircmdTaken.pairState p = PState.fenced := get_paircmdTaken.trans hs
  unfold paircmdWrite
  rw [command_live _ _ _ _ ha hb, regWrite_unclamped hl (by decide) hclamp, htaken]
  dsimp only
  rw [hpair, wpair, hcmd, wcmd, if_neg (by decide), if_pos rfl, if_neg hfree]
  exact if_pos hstate

/-- The hart with which a pair starts at its entry of the applied image (R103, R466). -/
def startHart (l : LaneState) (p : Nat) (revive : Bool) : Hart :=
  ({ Hart.reset with pc := BitVec.ofNat 64 (l.word (l.slotBase + 0x20 + 4 * p)).toNat }.setX 10
    (BitVec.ofNat 64 ((l.rd R.SYS_BOOTSTAT).toNat + if revive then 2 ^ 31 else 0))).setX 11 (BitVec.ofNat 64 l.slotBase)

theorem pc_startHart {revive : Bool} :
    (l.startHart p revive).pc = BitVec.ofNat 64 (l.word (l.slotBase + 0x20 + 4 * p)).toNat := rfl

/-- A start with no halt request waiting: the pair runs from its entry. -/
theorem startPair_runs {revive : Bool} (h : (l.pair p).haltReq = false) :
    (l.startPair p revive).pairState p = PState.run ∧ ((l.startPair p revive).pair p).released = true ∧
    ((l.startPair p revive).pair p).hart = l.startHart p revive ∧ (l.startPair p revive).mem = l.mem := by
  have he : l.startPair p revive = (l.modPair p fun _ =>
      { Pair.reset with
        hart := l.startHart p revive, cb0 := l.startHart p revive, cb1 := l.startHart p revive, released := true,
        haltReq := (l.pair p).haltReq, imsic := (l.pair p).imsic, ceCount := (l.pair p).ceCount }).setPairState p PState.run :=
    if_neg (by rw [h]; decide)
  rw [he, pair_setPairState, pair_modPair_same]
  exact ⟨pairState_setPairState (by decide), rfl, rfl, rfl⟩

/-- A pair started anew by CMD 2. -/
theorem paircmdWrite_revives {m : LaneState} (hm : l.paircmdWrite (BitVec.ofNat 32 (p.val + 0x20)) = m)
    (ht : l.takes R.CKP_PAIRCMD = true) (hs : l.pairState p = PState.fenced) (hq : l.pairFaulty p = false)
    (hf : l.fencedBy (.pair p) = false) (hh : (l.pair p).haltReq = false) :
    m.pairState p = PState.run ∧ (m.pair p).released = true ∧
    (m.pair p).hart.pc = BitVec.ofNat 64 (l.word (l.slotBase + 0x20 + 4 * p)).toNat ∧ m.mem = l.mem := by
  obtain ⟨hrun, hrel, hhart, hmem⟩ := startPair_runs (l := l.paircmdTaken) (revive := true) hh
  obtain ⟨tpairs, tregs, tmem⟩ := alike_trigger (k := 5) (by decide)
    (l := (l.paircmdTaken.startPair p true).irqFall P.CKP (mbit (4 + p)))
  have hcell := (pair_congr (q := p) tpairs).trans pair_irqFall
  rw [← hm, paircmdWrite_revive ht hs hq hf, hcell]
  refine ⟨?_, hrel, ?_, tmem.trans hmem⟩
  · refine Eq.trans (pairState_of_rd ?_) hrun
    exact (congrArg (RegFile.rd · _) tregs).trans (rd_irqFall _ _ _ (pairstat_ne_header p).1)
  · rw [hhart, pc_startHart, slotBase_paircmdTaken]
    rfl

end LaneState
end Sys2Proof.Machine
end

section
/-! SETTLED. Commit, mismatch, restart, divergence, end of a replay and revival (O20). -/
namespace Sys2Proof.Machine
open Sys2Proof

/-- Settles O20: a commit, the two courses of a mismatch, the restart, a divergence, the end of a replay and a revival, each
from what its operation leaves of the pair and of the checkpoint unit's registers. -/
theorem checkpointAndRestart : Obligations.CheckpointAndRestart := by
  unfold Obligations.CheckpointAndRestart
  intro s x g p m e k ha
  refine ⟨fun hreq hst hrep hu => ?_, fun hrel hst hsev hu => ?_, fun hrel hst hsev => ?_, fun hst => ?_,
    fun hrep hst => ?_, fun hrep hpos _ => ?_, fun ht hst hq hf hh => ?_⟩
  · obtain ⟨hbuf, hsn, hrun⟩ := LaneState.committed_registers (l := s.lane x) (p := p) (n := (s.lane x).cksn p + 1)
    have hcell := LaneState.pair_committed (l := s.lane x) (p := p) (n := (s.lane x).cksn p + 1)
    refine yieldsLane_of_onLane rfl (LaneState.ckptCommit_eq hreq hst hrep hu) ⟨hbuf, hsn, hrun,
      congrArg Pair.ckptReq hcell, congrArg Pair.log hcell, congrArg Pair.lines hcell, fun hh => ⟨?_, ?_⟩,
      fun q hq => LaneState.pair_committed_ne hq, LaneState.mem_committed⟩
    · exact (congrArg Pair.hart hcell).trans (Pair.atCommit_running hh)
    · rw [LaneState.lastCkpt_committed, hh, hcell]
      rfl
  · obtain ⟨hmis, -⟩ := pairstat_ne p
    obtain ⟨hgroup, heic⟩ := (s.lane x).mismatched_record (p := p) m.isLt e.isLt
    refine yieldsLane_of_onLane rfl (LaneState.mismatch_restarts ha hrel hst hsev hu)
      ⟨LaneState.pairState_setPairState (by decide), (LaneState.get_put_ne _ _ _ _ hmis.symm).trans hgroup,
      (LaneState.get_put_ne _ _ _ _ hmis.symm).trans heic, rfl, ?_, fun a h => ?_, fun q h => ?_, rfl⟩
    · rw [LaneState.pair_setPairState, LaneState.pair_modPair_same, LaneState.pair_modPair_same]
      rfl
    · obtain ⟨hs, hl⟩ := not_or.mp h
      exact (LaneState.rd_setPairState hs).trans (LaneState.rd_mismatched hl)
    · rw [LaneState.pair_setPairState, LaneState.pair_modPair_ne h, LaneState.pair_modPair_ne h]
      rfl
  · have hrun : ((s.lane x).mismatched p m e).pairState p ≠ PState.fenced := by
      rw [LaneState.pairState_mismatched, hst]
      decide
    obtain ⟨⟨r, hcell⟩, hfenced, hused, hregs⟩ := LaneState.fencePair_outcome hrun
    obtain ⟨hgroup, -⟩ := (s.lane x).mismatched_record (p := p) m.isLt e.isLt
    refine yieldsLane_of_onLane rfl ((LaneState.mismatch_eq ha hrel hst).trans (if_pos hsev)) ⟨hfenced, hused, ?_,
      congrArg Pair.lines hcell, by rw [hcell]; rfl, by rw [hcell]; rfl⟩
    have hmis := hregs (R.CKP_LASTMIS p) (by simp only [R.CKP_LASTMIS]; omega) (pairstat_ne p).1.symm
    exact (congrArg (getBits · 0 4) hmis).trans hgroup
  · obtain ⟨hstate, hcount, hreplayed⟩ := LaneState.restarted_registers (l := s.lane x) (p := p)
    have hcell := LaneState.pair_restarted (l := s.lane x) (p := p)
    refine yieldsLane_of_onLane (l := (s.lane x).restarted p) rfl ?_ ⟨congrArg Pair.hart hcell, congrArg Pair.logPos hcell,
      congrArg Pair.replay hcell, hstate, hcount, hreplayed, LaneState.mem_restarted⟩
    refine (if_neg (not_not.mpr hst)).trans ?_
    dsimp only
    rw [LaneState.pair_modPair_same]
    rfl
  · obtain ⟨⟨r, hcell⟩, hfenced, -⟩ := LaneState.fencePair_outcome (l := (s.lane x).raise (60 + p)) (p := p) hst
    exact yieldsLane_of_onLane (l := (s.lane x).diverge p) rfl (if_pos ⟨hrep, ha⟩)
      ⟨hfenced, congrArg Pair.replay hcell, congrArg Pair.log hcell⟩
  · have hrst := (pairstat_ne p).2.1
    refine yieldsLane_of_onLane rfl (LaneState.endReplay_eq hrep hpos) ?_
    by_cases hs : (s.lane x).pairState p = PState.replay
    · rw [if_pos hs]
      exact ⟨LaneState.pair_setPairState.trans LaneState.pair_modPair_same, LaneState.rd_setPairState hrst.symm,
        fun _ => LaneState.pairState_setPairState (by decide), fun a h => LaneState.rd_setPairState (not_or.mp h).1⟩
    · rw [if_neg hs]
      exact ⟨LaneState.pair_modPair_same, rfl, fun h => absurd h hs, fun _ _ => rfl⟩
  · exact yieldsLane_of_onLane rfl rfl (LaneState.paircmdWrite_revives rfl ht hst hq hf hh)
end Sys2Proof.Machine
end

section
/-! SUPPORT. The issue stage of the loop engine: what an instruction that may issue leaves (R111, R130, R137 to R139). -/
namespace Sys2Proof.Machine
open Sys2Proof

/-! ### Fields of a word that is clean -/

theorem fld_bit (w : Code) (i : Nat) : fld w i i = (w.getLsbD i).toNat := by
  rw [fld, Nat.add_sub_cancel_left, pow_one, BitVec.getLsbD, Nat.testBit_eq_decide_div_mod_eq, Nat.shiftRight_eq_div_pow]
  rcases Nat.mod_two_eq_zero_or_one (w.toNat / 2 ^ i) with h | h <;> simp [h]

theorem fld_lt (w : Code) (hi lo : Nat) : fld w hi lo < 2 ^ (hi + 1 - lo) := Nat.mod_lt _ (Nat.two_pow_pos _)

theorem getLsbD_of_clean {w used : Code} (h : clean w used = true) {i : Nat} (hu : used.getLsbD i = false) :
    w.getLsbD i = false := by
  have hz : w &&& ~~~used = 0 := eq_of_beq h
  by_cases hi : i < 58
  · have hb : (w &&& ~~~used).getLsbD i = false := by rw [hz]; exact BitVec.getLsbD_zero
    rw [BitVec.getLsbD_and, BitVec.getLsbD_not, hu] at hb
    simpa only [hi, decide_true, Bool.not_false, Bool.and_true] using hb
  · exact BitVec.getLsbD_of_ge _ _ (by omega)

/-- A word that is 0 outside some bits is 0 outside more of them. -/
theorem clean_mono {w u v : Code} (h : clean w u = true) (hv : u &&& ~~~v = 0) : clean w v = true := by
  refine beq_iff_eq.mpr (BitVec.eq_of_getLsbD_eq fun i hi => ?_)
  have hu := congrArg (BitVec.getLsbD · i) hv
  cases hw : w.getLsbD i with
  | false => simp [hw]
  | true =>
    have hui : u.getLsbD i = true := by
      by_contra hn
      exact absurd (getLsbD_of_clean h (Bool.not_eq_true _ ▸ hn)) (by simp [hw])
    simpa [hw, hui, hi] using hu

/-! ### The engine -/

namespace Engine
variable {e : Engine}

/-- The post-modifies change address generators only. -/
theorem postModify_eq_ag {rs : List MemRef} : ∃ g, e.postModify rs = { e with ag := g } :=
  foldl_keeps (fun n : Engine => ∃ g, n = { e with ag := g }) (by rintro _ _ ⟨g, rfl⟩; exact ⟨_, rfl⟩) rs e ⟨_, rfl⟩

@[simp] theorem acc_postModify {rs : List MemRef} : (e.postModify rs).acc = e.acc := by
  obtain ⟨g, h⟩ := e.postModify_eq_ag (rs := rs)
  rw [h]
@[simp] theorem sat_postModify {rs : List MemRef} : (e.postModify rs).sat = e.sat := by
  obtain ⟨g, h⟩ := e.postModify_eq_ag (rs := rs)
  rw [h]
@[simp] theorem d_postModify {rs : List MemRef} : (e.postModify rs).d = e.d := by
  obtain ⟨g, h⟩ := e.postModify_eq_ag (rs := rs)
  rw [h]
@[simp] theorem sticky_postModify {rs : List MemRef} : (e.postModify rs).sticky = e.sticky := by
  obtain ⟨g, h⟩ := e.postModify_eq_ag (rs := rs)
  rw [h]
@[simp] theorem cyc_postModify {rs : List MemRef} : (e.postModify rs).cyc = e.cyc := by
  obtain ⟨g, h⟩ := e.postModify_eq_ag (rs := rs)
  rw [h]

theorem zCheck_eq_sticky {rs : List MemRef} : ∃ t, e.zCheck rs = { e with sticky := t } := by
  unfold zCheck
  split
  · exact ⟨_, rfl⟩
  · exact ⟨_, rfl⟩

theorem accum_eq_acc {k : Nat} {v : Int} : ∃ c t u, e.accum k v = { e with acc := c, sat := t, sticky := u } := by
  unfold accum
  dsimp only
  repeat' split
  all_goals exact ⟨_, _, _, rfl⟩

/-- A saturated write sets a register, and perhaps DSAT (R122). -/
theorem setSat_eq {n : Nat} {v : Int} : ∃ t, e.setSat n v = { e with sticky := t, d := e.d.setIfInBounds n (satD v) } := by
  unfold setSat
  dsimp only
  split
  · exact ⟨_, rfl⟩
  · exact ⟨_, rfl⟩

theorem agen_setAg {n : Nat} {g : AddrGen} (h : n < 8) : (e.setAg n g).agen n = g := by
  simp [setAg, agen, Vector.getD, h]

end Engine

/-! ### The lane -/

namespace LaneState
variable {l : LaneState}

/-- A store in an engine memory changes memory and its parity only. -/
theorem engStore_eq_mem {a n v : Nat} : ∃ m b, l.engStore a n v = { l with mem := m, badPar := b } := by
  obtain ⟨m, hm⟩ := store_eq_mem (l := l) (a := a) (n := n) (v := v)
  exact ⟨m, _, by rw [engStore, hm]⟩

@[simp] theorem loop_engStore {a n v : Nat} : (l.engStore a n v).loop = l.loop := by
  obtain ⟨m, b, h⟩ := engStore_eq_mem (l := l) (a := a) (n := n) (v := v)
  rw [h]
@[simp] theorem eng_engStore {a n v : Nat} : (l.engStore a n v).eng = l.eng := congrArg LoopState.eng loop_engStore
@[simp] theorem regs_engStore {a n v : Nat} : (l.engStore a n v).regs = l.regs := by
  obtain ⟨m, b, h⟩ := engStore_eq_mem (l := l) (a := a) (n := n) (v := v)
  rw [h]

@[simp] theorem eng_modEng {f : Engine → Engine} : (l.modEng f).eng = f l.eng := rfl
@[simp] theorem run_modEng {f : Engine → Engine} : (l.modEng f).loop.run = l.loop.run := rfl

/-- Loads read memory only. -/
theorem load_of_mem {m : LaneState} (h : m.mem = l.mem) {a n : Nat} : m.load a n = l.load a n :=
  load_congr fun b => congrArg (Table.get _ · b) h

theorem byte_of_mem {m : LaneState} (h : m.mem = l.mem) (a : Nat) : m.byte a = l.byte a := congrArg (Table.get _ · a) h

theorem load_engStore {a n v : Nat} : (l.engStore a n v).load a n = v % 256 ^ n :=
  (load_of_mem (l := l.store a n v) (m := l.engStore a n v) rfl).trans load_store

/-- A store keeps every byte outside its own. -/
theorem sameBytes_engStore {a n v : Nat} : sameBytes l (l.engStore a n v) fun b => a ≤ b ∧ b < a + n :=
  fun b hb => byte_engStore_outside l a n v b (by omega)

theorem sameBytes_of_mem {m n : LaneState} {hole : Nat → Prop} (h : sameBytes l m hole) (e : n.mem = m.mem) :
    sameBytes l n hole := fun a ha => (byte_of_mem e a).trans (h a ha)

/-! ### Issue -/

/-- What the body of an effect keeps of the course of a program: the cycles so far, the run and the registers. -/
def onCourse (l n : LaneState) : Prop := n.eng.cyc = l.eng.cyc ∧ n.loop.run = l.loop.run ∧ n.regs = l.regs

/-- `m` is what a one-cycle instruction leaves of `l` whose body came to `n`: it has gone on, the address generators of its
operands have stepped (R123), and the rest is `n`'s. -/
structure Issued (l n m : LaneState) (refs : List MemRef) : Prop where
  wentOn : l.wentOn m
  d : m.eng.d = n.eng.d
  acc : m.eng.acc = n.eng.acc
  sat : m.eng.sat = n.eng.sat
  sticky : m.eng.sticky = n.eng.sticky
  ag : m.eng.ag = (n.eng.postModify refs).ag
  mem : m.mem = n.mem

/-- A program runs whose next word is good and of opcode `opc`: its instruction, if legal and its reads are of good parity,
takes effect. -/
theorem issue_performs {opc : Nat} {w : Code} {legal : Bool} {eff : LaneState → Effect} (hi : l.issues opc w = true)
    (ho : definedOpc (opc % 64) = true) (hl : legal = true) (hr : refsLegal (eff l).refs = true)
    (hn : (eff l).next.1 ≤ 8191) (hb : l.badReads (eff l).refs = false) :
    ∃ r, l.issue opc w legal eff = l.perform r (BitVec.ofNat 6 opc ++ w) (eff l) := by
  simp only [issues, Bool.and_eq_true, decide_eq_true_eq] at hi
  obtain ⟨⟨⟨⟨hrun, hcyc⟩, halive⟩, hfetch⟩, -⟩ := hi
  have hword : ((BitVec.ofNat 6 opc ++ w).extractLsb' 58 6).toNat = opc % 64 := by
    rw [BitVec.extractLsb'_append_eq_left, BitVec.toNat_ofNat]
  cases hr0 : l.loop.run with
  | none => simp [hr0] at hrun
  | some r =>
    have hstage : r.stage = .running := by simpa [hr0] using hrun
    refine ⟨r, ?_⟩
    unfold issue
    rw [hr0]
    dsimp only
    rw [if_neg (by simp [hstage, halive, hcyc]), hfetch, hword, ho, if_neg (by simp), if_neg (by simp),
      if_neg (by simp), if_neg (by simp [hl, hr, hn]), hb, if_neg (by simp)]

/-- The effect of a one-cycle instruction whose body keeps the program's course. -/
theorem issued_perform {r : Run} {word : DWord} {refs : List MemRef} {body : LaneState → LaneState} {n : LaneState}
    (hn : body (l.modEng (·.zCheck refs)) = n) (hc : l.onCourse n) :
    l.Issued n (l.perform r word (l.plain refs body)) refs := by
  subst hn
  obtain ⟨hcyc, hrun, hregs⟩ := hc
  unfold perform plain
  dsimp only
  refine iteInduction (motive := fun m => l.Issued _ m refs) (fun _ => ?_) fun _ => ?_
  all_goals exact
    { wentOn := ⟨rfl, rfl, congrArg (· + 1) ((Engine.cyc_postModify (rs := refs)).trans hcyc), hrun, hregs⟩
      d := Engine.d_postModify (e := (body (l.modEng (·.zCheck refs))).eng) (rs := refs)
      acc := Engine.acc_postModify (e := (body (l.modEng (·.zCheck refs))).eng) (rs := refs)
      sat := Engine.sat_postModify (e := (body (l.modEng (·.zCheck refs))).eng) (rs := refs)
      sticky := Engine.sticky_postModify (e := (body (l.modEng (·.zCheck refs))).eng) (rs := refs)
      ag := rfl
      mem := rfl }

end LaneState

section
variable {c : Instr} {s : State} {x : Lane} {opc : Nat} {w : Code} {legal : Bool} {P : LaneState → Prop}

/-- What a one-cycle instruction that may issue yields. -/
theorem yieldsLane_issued {eff : LaneState → Effect} {refs : List MemRef} {body : LaneState → LaneState} {n : LaneState}
    (hc : exec c s = onLane x (·.issue opc w legal eff) s) (hi : (s.lane x).issues opc w = true)
    (ho : definedOpc (opc % 64) = true) (hl : legal = true) (he : eff (s.lane x) = (s.lane x).plain refs body)
    (hr : refsLegal refs = true) (hb : (s.lane x).badReads refs = false)
    (hn : body ((s.lane x).modEng (·.zCheck refs)) = n) (hk : (s.lane x).onCourse n)
    (hP : ∀ m, (s.lane x).Issued n m refs → P m) : yieldsLane x c s P := by
  have hnext : (eff (s.lane x)).next.1 ≤ 8191 := by
    rw [he]
    simp only [LaneState.issues, Bool.and_eq_true, decide_eq_true_eq] at hi
    exact hi.2
  obtain ⟨r, hrun⟩ := LaneState.issue_performs hi ho hl (by rw [he]; exact hr) hnext (by rw [he]; exact hb)
  rw [he] at hrun
  exact yieldsLane_of_onLane hc hrun (hP _ (LaneState.issued_perform hn hk))

/-- What an instruction yields that only changes the engine. -/
theorem yieldsLane_regOp {f : Engine → Engine} (hc : exec c s = onLane x (·.issue opc w legal (·.regOp f)) s)
    (hi : (s.lane x).issues opc w = true) (ho : definedOpc (opc % 64) = true) (hl : legal = true)
    (hcyc : (f (s.lane x).eng).cyc = (s.lane x).eng.cyc)
    (hP : ∀ m, (s.lane x).Issued ((s.lane x).modEng f) m [] → P m) : yieldsLane x c s P :=
  yieldsLane_issued hc hi ho hl rfl rfl rfl rfl ⟨hcyc, rfl, rfl⟩ hP

/-- What an instruction yields that sets a D register, and perhaps a sticky bit. -/
theorem yieldsLane_putsD {f : Engine → Engine} {d : Nat} {v : DWord}
    (hc : exec c s = onLane x (·.issue opc w legal (·.regOp f)) s) (hi : (s.lane x).issues opc w = true)
    (ho : definedOpc (opc % 64) = true) (hl : legal = true)
    (hf : ∃ t, f (s.lane x).eng = { (s.lane x).eng with sticky := t, d := (s.lane x).eng.d.setIfInBounds d v }) :
    yieldsLane x c s fun m => (s.lane x).putsD m d v := by
  obtain ⟨t, ht⟩ := hf
  refine yieldsLane_regOp hc hi ho hl (congrArg Engine.cyc ht :) fun m hm => ?_
  exact ⟨hm.wentOn, hm.d.trans (congrArg Engine.d ht :), hm.acc.trans (congrArg Engine.acc ht :),
    hm.sat.trans (congrArg Engine.sat ht :), hm.ag.trans (congrArg Engine.ag ht :), hm.mem⟩

end
end Sys2Proof.Machine
end

section
/-! SETTLED. The register instructions (O30). -/
namespace Sys2Proof.Machine
open Sys2Proof

/-- Settles O30: each instruction sets RD of the engine, the saturating ones perhaps DSAT too, and issues in one cycle. -/
theorem engineRegisterOps : Obligations.EngineRegisterOps := by
  unfold Obligations.EngineRegisterOps
  intro s x w
  refine ⟨?mov, ?add, ?sub, ?and, ?or, ?xor, ?shl, ?sar, ?shr, ?min, ?max, ?clamp, ?adds, ?subs, ?abs, ?neg⟩
  case adds | subs | abs | neg => exact fun hi hc => yieldsLane_putsD rfl hi rfl hc Engine.setSat_eq
  all_goals exact fun hi hc => yieldsLane_putsD rfl hi rfl hc ⟨_, rfl⟩
end Sys2Proof.Machine
end

section
/-! SUPPORT and SETTLED. Instructions that accumulate (O31). -/
namespace Sys2Proof.Machine
open Sys2Proof

namespace Engine
variable {e e' : Engine}

/-- Two engines agree in the accumulators and in the cycles so far. -/
def sameAcc (e e' : Engine) : Prop := e.acc = e'.acc ∧ e.sat = e'.sat ∧ e.cyc = e'.cyc

theorem sameAcc_refl : e.sameAcc e := ⟨rfl, rfl, rfl⟩

theorem sameAcc_zCheck {rs : List MemRef} : (e.zCheck rs).sameAcc e := by
  obtain ⟨t, h⟩ := e.zCheck_eq_sticky (rs := rs)
  rw [h]
  exact ⟨rfl, rfl, rfl⟩

@[simp] theorem cyc_accum {k : Nat} {v : Int} : (e.accum k v).cyc = e.cyc := by
  obtain ⟨c, t, u, h⟩ := e.accum_eq_acc (k := k) (v := v)
  rw [h]

@[simp] theorem d_accum {k : Nat} {v : Int} : (e.accum k v).d = e.d := by
  obtain ⟨c, t, u, h⟩ := e.accum_eq_acc (k := k) (v := v)
  rw [h]
@[simp] theorem cyc_loadAcc {k : Nat} {v : Int} : (e.loadAcc k v).cyc = e.cyc := rfl

/-- Accumulators after an instruction come from the accumulators before it alone. -/
theorem sameAcc_accum {k : Nat} {v : Int} (h : e.sameAcc e') : (e.accum k v).sameAcc (e'.accum k v) := by
  obtain ⟨hacc, hsat, hcyc⟩ := h
  unfold accum
  dsimp only
  repeat' split
  all_goals exact ⟨by simp [stick, hacc], by simp [stick, hsat], hcyc⟩

theorem sameAcc_accum_add {k : Nat} {p : Int} (h : e.sameAcc e') :
    (e.accum k ((e.a k).toInt + p)).sameAcc (e'.accum k ((e'.a k).toInt + p)) := by
  rw [a, a, h.1]
  exact sameAcc_accum h

theorem sameAcc_accum_sub {k : Nat} {p : Int} (h : e.sameAcc e') :
    (e.accum k ((e.a k).toInt - p)).sameAcc (e'.accum k ((e'.a k).toInt - p)) := sameAcc_accum_add (p := -p) h

theorem sameAcc_loadAcc {k : Nat} {v : Int} (h : e.sameAcc e') : (e.loadAcc k v).sameAcc (e'.loadAcc k v) := by
  obtain ⟨hacc, hsat, hcyc⟩ := h
  exact ⟨by simp [loadAcc, hacc], by simp [loadAcc, hsat], hcyc⟩

theorem sameAcc_foldl {f : Engine → Nat → Engine} (hf : ∀ e e' k, e.sameAcc e' → (f e k).sameAcc (f e' k)) (ks : List Nat)
    (h : e.sameAcc e') : (ks.foldl f e).sameAcc (ks.foldl f e') := by
  induction ks generalizing e e' with
  | nil => exact h
  | cons k ks ih => exact ih (hf e e' k h)

theorem sameAcc_accum_each {p : Nat → Int} {ks : List Nat} (h : e.sameAcc e') :
    (ks.foldl (fun e k => e.accum k ((e.a k).toInt + p k)) e).sameAcc (ks.foldl (fun e k => e.accum k ((e.a k).toInt + p k)) e') :=
  sameAcc_foldl (f := fun e k => e.accum k ((e.a k).toInt + p k)) (fun _ _ _ h => sameAcc_accum_add h) ks h

theorem sameAcc_loadAcc_each {p : Nat → Int} {ks : List Nat} (h : e.sameAcc e') :
    (ks.foldl (fun e k => e.loadAcc k (p k)) e).sameAcc (ks.foldl (fun e k => e.loadAcc k (p k)) e') :=
  sameAcc_foldl (f := fun e k => e.loadAcc k (p k)) (fun _ _ _ h => sameAcc_loadAcc h) ks h

theorem cyc_accum_each {p : Nat → Int} {ks : List Nat} :
    (ks.foldl (fun e k => e.accum k ((e.a k).toInt + p k)) e).cyc = e.cyc :=
  foldl_keeps (fun n : Engine => n.cyc = e.cyc) (fun _ _ h => cyc_accum.trans h) ks e rfl

theorem cyc_loadAcc_each {p : Nat → Int} {ks : List Nat} :
    (ks.foldl (fun e k => e.loadAcc k (p k)) e).cyc = e.cyc :=
  foldl_keeps (fun n : Engine => n.cyc = e.cyc) (fun _ _ h => cyc_loadAcc.trans h) ks e rfl

end Engine

/-- The parallel moves leave the accumulators and the program's course. -/
theorem LaneState.onCourse_doMoves {l n : LaneState} {ms : List Move} (h : l.onCourse n) :
    l.onCourse (n.doMoves l ms) ∧ (n.doMoves l ms).eng.sameAcc n.eng := by
  refine foldl_keeps (fun m => l.onCourse m ∧ m.eng.sameAcc n.eng) (fun m v hm => ?_) ms n ⟨h, Engine.sameAcc_refl⟩
  split
  · obtain ⟨mem, bad, hs⟩ := LaneState.engStore_eq_mem (l := m) (a := (l.eng.place v.mem v.ag).1) (n := 8)
      (v := (l.eng.dreg v.reg).toNat)
    dsimp only
    rw [hs]
    exact hm
  · exact hm

section
variable {c : Instr} {s : State} {x : Lane} {opc : Nat} {w used : Code} {legal : Bool} {refs : List MemRef}

/-- What an instruction of format M leaves of the accumulators, its operands being those before it (R139). -/
theorem yieldsLane_formatM {f : LaneState → Engine → Engine} {e : Engine}
    (hc : exec c s = onLane x (·.formatM opc w used legal refs f) s) (hi : (s.lane x).issues opc w = true)
    (ho : definedOpc (opc % 64) = true) (hw : clean w (used ||| moveBits w) = true) (hl : legal = true)
    (hm : movesLegal w = true) (hr : refsLegal (refs ++ (moves w).map Move.ref) = true)
    (hb : (s.lane x).badReads (refs ++ (moves w).map Move.ref) = false)
    (hf : ∀ e', e'.sameAcc (s.lane x).eng → (f (s.lane x) e').sameAcc e) (hcyc : e.cyc = (s.lane x).eng.cyc) :
    yieldsLane x c s fun m => (s.lane x).putsAcc m e := by
  obtain ⟨hza, hzs, hzc⟩ := hf _ (Engine.sameAcc_zCheck (rs := refs ++ (moves w).map Move.ref))
  obtain ⟨hk, hacc, hsat, -⟩ := LaneState.onCourse_doMoves (l := s.lane x) (ms := moves w)
    (n := ((s.lane x).modEng (·.zCheck (refs ++ (moves w).map Move.ref))).modEng (f (s.lane x)))
    ⟨hzc.trans hcyc, rfl, rfl⟩
  exact yieldsLane_issued hc hi ho (by rw [hw, hl, hm]; rfl) rfl hr hb rfl hk fun m hm =>
    ⟨hm.wentOn, hm.acc.trans (hacc.trans hza), hm.sat.trans (hsat.trans hzs)⟩

/-- What an instruction leaves that accumulates a register and an immediate. -/
theorem yieldsLane_immAcc {f : Engine → Engine} {e : Engine} (hc : exec c s = onLane x (·.issue opc w legal (·.regOp f)) s)
    (hi : (s.lane x).issues opc w = true) (ho : definedOpc (opc % 64) = true) (hl : legal = true)
    (hf : f (s.lane x).eng = e) (hcyc : e.cyc = (s.lane x).eng.cyc) (hd : e.d = (s.lane x).eng.d) :
    yieldsLane x c s fun m => (s.lane x).putsAcc m e ∧ m.eng.d = (s.lane x).eng.d ∧ m.mem = (s.lane x).mem := by
  subst hf
  exact yieldsLane_regOp hc hi ho hl hcyc fun m hm => ⟨⟨hm.wentOn, hm.acc, hm.sat⟩, hm.d.trans hd, hm.mem⟩

end

/-- Settles O31: the instructions of format M by the accumulators that their operands give, the moves leaving them, and
the two with an immediate. -/
theorem engineAccumulators : Obligations.EngineAccumulators := by
  unfold Obligations.EngineAccumulators
  intro s x w
  refine ⟨?mac, ?msu, ?mpy, ?vmac, ?vmpy, ?adda, ?lda, ?vclr, ?move, ?maci, ?mpyi⟩
  case mac =>
    exact fun hi hc hd hk hm hr hb => yieldsLane_formatM rfl hi rfl hc (decide_eq_true ⟨hd, hk⟩) hm hr hb
      (fun _ => Engine.sameAcc_accum_add) Engine.cyc_accum
  case msu =>
    exact fun hi hc hd hk hm hr hb => yieldsLane_formatM rfl hi rfl hc (decide_eq_true ⟨hd, hk⟩) hm hr hb
      (fun _ => Engine.sameAcc_accum_sub) Engine.cyc_accum
  case mpy =>
    exact fun hi hc hd hk hm hr hb => yieldsLane_formatM rfl hi rfl hc (decide_eq_true ⟨hd, hk⟩) hm hr hb
      (fun _ => Engine.sameAcc_loadAcc) rfl
  case vmac =>
    exact fun hi hc hd hk hm hr hb => yieldsLane_formatM rfl hi rfl hc (decide_eq_true ⟨hd, hk⟩) hm hr hb
      (fun _ => Engine.sameAcc_accum_each) Engine.cyc_accum_each
  case vmpy =>
    exact fun hi hc hd hk hm hr hb => yieldsLane_formatM rfl hi rfl hc (decide_eq_true ⟨hd, hk⟩) hm hr hb
      (fun _ => Engine.sameAcc_loadAcc_each) Engine.cyc_loadAcc_each
  case adda =>
    exact fun hi hc hd hk hm hr hb => yieldsLane_formatM rfl hi rfl hc (decide_eq_true ⟨hd, hk⟩) hm hr hb
      (fun _ => Engine.sameAcc_accum_add) Engine.cyc_accum
  case lda =>
    exact fun hi hc hd hk hm hr hb => yieldsLane_formatM rfl hi rfl hc (decide_eq_true ⟨hd, hk⟩) hm hr hb
      (fun _ => Engine.sameAcc_loadAcc) rfl
  case vclr =>
    exact fun hi hc hm hr hb => yieldsLane_formatM rfl hi rfl hc rfl hm hr hb
      (fun _ => Engine.sameAcc_loadAcc_each) Engine.cyc_loadAcc_each
  case move => exact fun hi hc hm hr hb => yieldsLane_formatM rfl hi rfl hc rfl hm hr hb (fun _ h => h) rfl
  case maci => exact fun hi hc => yieldsLane_immAcc rfl hi rfl hc rfl Engine.cyc_accum Engine.d_accum
  case mpyi => exact fun hi hc => yieldsLane_immAcc rfl hi rfl hc rfl rfl rfl
end Sys2Proof.Machine
end

section
/-! SUPPORT and SETTLED. Immediates, write-back, the status word and the address generators (O32). -/
namespace Sys2Proof.Machine
open Sys2Proof

namespace Engine
variable {e : Engine}

/-- RND: the register takes the value, DSAT is set where it saturated, and the accumulator is cleared where asked (R121). -/
def rounded (w : Code) (v : DWord × Bool) (e : Engine) : Engine :=
  let e := (if v.2 then e.stick 1 else e).setD (fld w 55 53) v.1
  if fld w 46 46 = 1 then e.loadAcc (fld w 57 56) 0 else e

theorem rounded_data {w : Code} {v : DWord × Bool} :
    (e.rounded w v).d = e.d.setIfInBounds (fld w 55 53) v.1 ∧ (e.rounded w v).cyc = e.cyc := by
  unfold rounded
  dsimp only
  repeat' split
  all_goals exact ⟨rfl, rfl⟩

theorem a_loadAcc_zero {k : Nat} (h : k < 4) : (e.loadAcc k 0).a k = 0 := by
  simp [loadAcc, a, Vector.getD, h]

theorem rounded_clears {w : Code} {v : DWord × Bool} (h : fld w 46 46 = 1) : (e.rounded w v).a (fld w 57 56) = 0 :=
  (congrArg (Engine.a · _) (if_pos h)).trans (a_loadAcc_zero (fld_lt w 57 56))

theorem rounded_keeps_acc {w : Code} {v : DWord × Bool} (h : fld w 46 46 = 0) : (e.rounded w v).acc = e.acc := by
  unfold rounded
  dsimp only
  rw [if_neg (by omega)]
  split
  · rfl
  · rfl

end Engine

/-- A linear address generator has no window to fold into. -/
theorem AddrGen.fold_linear {g : AddrGen} (h : g.mode = 0) : g.fold = (g, false) := if_neg fun hg => hg.1 h

namespace LaneState
variable {l : LaneState} {a v : Nat}

theorem word_engStore : (l.engStore a 4 v).word a = BitVec.ofNat 32 v := by
  rw [word, load_engStore]
  exact BitVec.eq_of_toNat_eq (by simp)

theorem dword_engStore : (l.engStore a 8 v).dword a = BitVec.ofNat 64 v := by
  rw [dword, load_engStore]
  exact BitVec.eq_of_toNat_eq (by simp)

theorem word_of_mem {m : LaneState} (h : m.mem = l.mem) : m.word a = l.word a := congrArg (BitVec.ofNat 32) (load_of_mem h)
theorem dword_of_mem {m : LaneState} (h : m.mem = l.mem) : m.dword a = l.dword a := congrArg (BitVec.ofNat 64) (load_of_mem h)

end LaneState

theorem refsLegal_singleton (r : MemRef) : refsLegal [r] = true := by
  obtain ⟨m, k, md, st⟩ := r
  by_cases h : md = 0 <;> cases st <;> simp [refsLegal, distinct, h]

theorem LaneState.onCourse_engStore {l n : LaneState} {a k v : Nat} (h : l.onCourse n) : l.onCourse (n.engStore a k v) := by
  obtain ⟨hcyc, hrun, hregs⟩ := h
  exact ⟨by rw [eng_engStore, hcyc], by rw [loop_engStore, hrun], regs_engStore.trans hregs⟩

/-- X takes a register saturated to 32 bits (R122). -/
def satX (v : DWord) : Int := min (max v.toInt (-(2 ^ 31))) (2 ^ 31 - 1)

theorem toInt_satX (v : DWord) : (BitVec.ofNat 32 (BitVec.ofInt 32 (satX v)).toNat).toInt = satX v := by
  rw [BitVec.ofNat_toNat, BitVec.setWidth_eq]
  refine BitVec.toInt_ofInt_eq_self (by decide) ?_ ?_
  · unfold satX
    omega
  · unfold satX
    omega

/-- Settles O32: what each instruction changes of the engine, and what a store in an engine memory reads back as. -/
theorem engineImmediatesAndAgs : Obligations.EngineImmediatesAndAgs := by
  unfold Obligations.EngineImmediatesAndAgs
  intro s x w
  refine ⟨?ldi, ?ldih, ?addi, ?getsw, ?clrsw, ?agcfg, ?agset, ?agget, ?xld, ?xst, ?rnd, ?rndStore⟩
  case ldi | ldih | addi | getsw | agget => exact fun hi hc => yieldsLane_putsD rfl hi rfl hc ⟨_, rfl⟩
  case clrsw =>
    exact fun hi hc => yieldsLane_regOp rfl hi rfl hc rfl fun m hm => ⟨hm.wentOn, hm.sticky, hm.d, hm.acc, hm.mem⟩
  case agcfg =>
    exact fun hi hc hm hv => yieldsLane_regOp rfl hi rfl (by rw [hc, hv, decide_eq_true hm]; rfl) rfl
      fun m hm => ⟨hm.wentOn, hm.ag, hm.d, hm.mem⟩
  case agset =>
    intro hi hc hmode
    have hsrc : fld w 54 54 ≠ 1 := by
      rw [fld_bit, getLsbD_of_clean hc (by decide)]
      decide
    have hw : clean w (ones 57 54 ||| if fld w 54 54 = 1 then ones 53 51 else ones 50 37) = true := by
      rw [if_neg hsrc]
      exact clean_mono hc (by decide)
    have hfold := AddrGen.fold_linear (g := { (s.lane x).eng.agen (fld w 57 55) with p := fld w 50 37 }) hmode
    refine yieldsLane_regOp rfl hi rfl hw ?_ fun m hm => ⟨hm.wentOn, hm.ag.trans ?_, hm.d.trans ?_, hm.mem⟩
    all_goals simp only [LaneState.eng_modEng, if_neg hsrc, hfold]; rfl
  case xld =>
    refine fun hi hc hb => yieldsLane_issued rfl hi rfl hc rfl (refsLegal_singleton _) hb
      (n := (s.lane x).modEng (·.setD (fld w 53 51) (BitVec.ofInt 64 ((s.lane x).opX (fld w 57 55))))) rfl
      ⟨rfl, rfl, rfl⟩ fun m hm => ⟨hm.wentOn, hm.d, hm.acc, hm.mem, ?_⟩
    exact (congrArg (fun g => Vector.getD g (fld w 57 55) _) hm.ag).trans (Engine.agen_setAg (fld_lt w 57 55))
  case xst =>
    intro hi hc
    obtain ⟨t, ht⟩ : ∃ t, (if satX ((s.lane x).eng.dreg (fld w 53 51)) = ((s.lane x).eng.dreg (fld w 53 51)).toInt
        then s.lane x else (s.lane x).modEng (·.stick 1)) = (s.lane x).modEng fun e => { e with sticky := t } := by
      split
      · exact ⟨_, rfl⟩
      · exact ⟨_, rfl⟩
    refine yieldsLane_issued rfl hi rfl hc rfl (refsLegal_singleton _) rfl
      (congrArg (LaneState.engStore · _ _ _) ht) (LaneState.onCourse_engStore ⟨rfl, rfl, rfl⟩) fun m hm => ⟨hm.wentOn, ?_, ?_, ?_, ?_⟩
    · rw [LaneState.word_of_mem hm.mem, LaneState.word_engStore]
      exact toInt_satX _
    · exact LaneState.sameBytes_of_mem (LaneState.sameBytes_engStore (l := (s.lane x).modEng _)) hm.mem
    · exact hm.d.trans (congrArg Engine.d LaneState.eng_engStore :)
    · exact hm.acc.trans (congrArg Engine.acc LaneState.eng_engStore :)
  case rnd =>
    intro hi hc
    have hsen : fld w 44 44 ≠ 1 := by
      rw [fld_bit, getLsbD_of_clean hc (by decide)]
      decide
    have hw : clean w (ones 57 44 ||| if fld w 44 44 = 1 then ones 43 38 else 0) = true := by
      rw [if_neg hsen]
      exact clean_mono hc (by decide)
    refine yieldsLane_issued rfl hi rfl hw
      (congrArg₂ (LaneState.plain (s.lane x)) (if_neg hsen) (funext fun n => if_neg hsen)) rfl rfl rfl ⟨Engine.rounded_data.2, rfl, rfl⟩ fun m hm => ⟨hm.wentOn, hm.d.trans Engine.rounded_data.1, hm.mem, ?_, ?_⟩
    · exact fun h => (congrArg (Vector.getD · (fld w 57 56) 0) hm.acc).trans (Engine.rounded_clears h)
    · exact fun h => hm.acc.trans (Engine.rounded_keeps_acc h)
  case rndStore =>
    intro hi hc hsen
    have hw : clean w (ones 57 44 ||| if fld w 44 44 = 1 then ones 43 38 else 0) = true := by
      rw [if_pos hsen]
      exact clean_mono hc (by decide)
    refine yieldsLane_issued rfl hi rfl hw
      (congrArg₂ (LaneState.plain (s.lane x)) (if_pos hsen) (funext fun n => if_pos hsen)) (refsLegal_singleton _) rfl rfl (LaneState.onCourse_engStore ⟨?_, rfl, rfl⟩) fun m hm => ⟨hm.wentOn, ?_, ?_⟩
    · obtain ⟨t, ht⟩ := (s.lane x).eng.zCheck_eq_sticky
        (rs := [⟨if fld w 43 43 = 0 then .y else .z, fld w 42 40, fld w 39 38, true⟩])
      exact Engine.rounded_data.2.trans (congrArg Engine.cyc ht :)
    · rw [LaneState.dword_of_mem hm.mem, LaneState.dword_engStore, BitVec.ofNat_toNat, BitVec.setWidth_eq]
    · exact LaneState.sameBytes_of_mem (LaneState.sameBytes_engStore (l := ((s.lane x).modEng _).modEng _)) hm.mem
end Sys2Proof.Machine
end

section
/-! SETTLED. A loop that ends past the program memory (O33). -/
namespace Sys2Proof.Machine
open Sys2Proof

/-- Lane A's program stands at END in the loop buffer at index 8192, past the last index of the program memory (R111), where
a loop from index 0 has another pass to go. -/
def endPastMemory : State := (wEng 0x3C 0).modLane .A fun l => l.modEng fun e =>
  { e with pc := 8192, loops := [⟨0, 8192, 2⟩], buf := [(8192, some (BitVec.ofNat 6 0x3C ++ (0 : Code)))] }

/-- Refutes O33: END may stand at index 8192, which SLOTSTAT.PC, 13 bits wide, cannot record. -/
theorem not_engineControl : ¬ Obligations.EngineControl := by
  unfold Obligations.EngineControl
  intro h
  obtain ⟨-, -, -, -, -, -, -, -, hend⟩ := h endPastMemory .A 0
  obtain ⟨l, -, -, hrecord⟩ := hend (by decide +kernel) rfl (by rintro r ⟨⟩; decide)
  obtain ⟨-, hpc, -⟩ := hrecord _ rfl
  have hwide : l.get (F.LESLOT_SLOTSTAT_PC 3) < 8192 := l.get_lt _
  have hpast : l.get (F.LESLOT_SLOTSTAT_PC 3) = 8192 := hpc
  omega
end Sys2Proof.Machine
end

section
/-! SUPPORT. What a run's exit, its abort and its output stage change of a lane. -/
namespace Sys2Proof.Machine
open Sys2Proof

namespace LaneState
variable {l m : LaneState}

/-! ### The trackers -/

/-- A register that no tracker's state shows in. -/
def offTrackers (a : Nat) : Prop := a ≠ R.irqRaw P.LE ∧ a ≠ R.irqStat P.LE ∧ ∀ k < 4, a ≠ R.LE_TRKSTAT k

/-- A change of trackers: of the slot machinery only they, no memory, no event and no register but those they show in. -/
structure TrackersOnly (l m : LaneState) : Prop where
  run : m.loop.run = l.loop.run
  held : m.loop.held = l.loop.held
  mem : m.mem = l.mem
  events : m.events = l.events
  rd : ∀ a, offTrackers a → m.rd a = l.rd a

theorem trackersOnly_refl : l.TrackersOnly l := ⟨rfl, rfl, rfl, rfl, fun _ _ => rfl⟩

theorem TrackersOnly.trans {n : LaneState} (h : l.TrackersOnly m) (h' : m.TrackersOnly n) : l.TrackersOnly n where
  run := h'.run.trans h.run
  held := h'.held.trans h.held
  mem := h'.mem.trans h.mem
  events := h'.events.trans h.events
  rd a ha := (h'.rd a ha).trans (h.rd a ha)

variable {k v : Nat}

theorem modTracker_trackersOnly {f : Tracker → Tracker} : l.TrackersOnly (l.modTracker k f) :=
  ⟨rfl, rfl, rfl, rfl, fun _ _ => rfl⟩

theorem trkState_trackersOnly (hk : k < 4) : l.TrackersOnly (l.trkState k v) where
  run := (congrArg LoopState.run (loop_irqLevel.trans loop_put) :)
  held := (congrArg LoopState.held (loop_irqLevel.trans loop_put) :)
  mem := mem_irqLevel.trans mem_put
  events := events_irqLevel.trans events_put
  rd _ ha := (rd_irqLevel _ _ _ _ ha.1 ha.2.1).trans (rd_put_ne _ _ _ (ha.2.2 k hk))

theorem trkResult_trackersOnly (hk : k < 4) : l.TrackersOnly (l.trkResult k v) where
  run := congrArg LoopState.run (loop_irqPulse.trans loop_put)
  held := congrArg LoopState.held (loop_irqPulse.trans loop_put)
  mem := mem_irqPulse.trans mem_put
  events := events_irqPulse.trans events_put
  rd _ ha := (rd_irqPulse _ _ _ ha.2.1).trans (rd_put_ne _ _ _ (ha.2.2 k hk))

theorem trkRestart_trackersOnly (hk : k < 4) : l.TrackersOnly (l.trkRestart k) := by
  have hcollect : ∀ m : LaneState, m.TrackersOnly (m.trkCollect k) := fun m =>
    modTracker_trackersOnly.trans (trkState_trackersOnly hk)
  unfold trkRestart
  split
  · exact (trkResult_trackersOnly hk).trans (hcollect _)
  · exact hcollect _

theorem trkContext_trackersOnly {c : Nat} : l.TrackersOnly (l.trkContext c) := by
  refine List.foldlRecOn (List.range 4) _ trackersOnly_refl fun m hm k hk => ?_
  split
  · exact hm.trans (trkRestart_trackersOnly (List.mem_range.mp hk))
  · exact hm

/-! ### A sample enters a tracker's ring -/

@[simp] theorem loop_snoop {n : Nat} : (l.snoop n).loop = l.loop := by
  have hreq : ∀ (m : LaneState) p, (m.ckptRequest p).loop = m.loop := fun m p => by
    unfold ckptRequest
    dsimp only
    repeat' split
    all_goals rfl
  have hnew : ∀ p f, (l.ckptForceNew p f).loop = l.loop := fun p f => by
    unfold ckptForceNew
    split
    · rfl
    · exact (hreq _ p).trans (loop_irqPulse.trans (loop_count.trans loop_bump))
  unfold snoop
  split
  · exact hnew _ _
  · rfl

@[simp] theorem loop_dmaByteIn {a : Nat} {b : Byte} : (l.dmaByteIn a b).loop = l.loop := by
  have hshare : ∀ (m : LaneState) p, (m.dmaShare p a b).loop = m.loop := fun m p => by
    unfold dmaShare
    dsimp only
    repeat' split
    all_goals rfl
  have hcopies : ((List.range 4).foldl (fun m p => m.dmaShare p a b) l).loop = l.loop :=
    foldl_keeps (fun m : LaneState => m.loop = l.loop) (fun m p hm => (hshare m p).trans hm) _ l rfl
  unfold dmaByteIn
  dsimp only
  split
  · exact loop_setByte.trans (loop_setL2.trans hcopies)
  · exact loop_setByte.trans hcopies

@[simp] theorem loop_dmaStore {a n v : Nat} : (l.dmaStore a n v).loop = l.loop := by
  have hput : ∀ (m : LaneState) a b, (m.dmaPut a b).loop = m.loop := fun m a b => by
    unfold dmaPut
    split
    · exact loop_snoop
    · exact loop_dmaByteIn
  fun_induction LaneState.dmaStore l a n v
  case case1 => rfl
  case case2 ih => exact ih.trans (hput _ _ _)

theorem trkSample_keeps_held {c : Nat} : (l.trkSample c).loop.held = l.loop.held := by
  unfold trkSample
  refine List.foldlRecOn (motive := fun m : LaneState => m.loop.held = l.loop.held) (List.range 4) _ rfl fun m hm k hk => ?_
  have hstate : ∀ n : LaneState, (n.trkState k Trk.analyse).loop.held = n.loop.held := fun n =>
    (trkState_trackersOnly (List.mem_range.mp hk)).held
  have hstore : ∀ a n v, (m.dmaStore a n v).loop.held = l.loop.held := fun a n v =>
    (congrArg LoopState.held loop_dmaStore).trans hm
  dsimp only
  split
  · exact hm
  · split
    · exact hm
    · split
      · exact (hstate _).trans (modTracker_trackersOnly.held.trans (hstore _ _ _))
      · exact modTracker_trackersOnly.held.trans (hstore _ _ _)

/-! ### The histograms -/

/-- A histogram takes a value in registers of the performance monitor only. -/
theorem histValue_rest {u v : Nat} : (l.histValue u v).loop = l.loop ∧ (l.histValue u v).mem = l.mem ∧
    (l.histValue u v).badPar = l.badPar := by
  unfold histValue
  dsimp only
  repeat' split
  all_goals simp

theorem hist_rest {src sel ident v : Nat} : (l.hist src sel ident v).loop = l.loop ∧ (l.hist src sel ident v).mem = l.mem ∧
    (l.hist src sel ident v).badPar = l.badPar := by
  refine foldl_keeps (fun m : LaneState => m.loop = l.loop ∧ m.mem = l.mem ∧ m.badPar = l.badPar) (fun m u hm => ?_) _ l
    ⟨rfl, rfl, rfl⟩
  obtain ⟨hloop, hmem, hbad⟩ := hm
  obtain ⟨hl, hm, hb⟩ := histValue_rest (l := m) (u := u) (v := v)
  dsimp only
  split
  · exact ⟨hl.trans hloop, hm.trans hmem, hb.trans hbad⟩
  · exact ⟨hloop, hmem, hbad⟩

end LaneState
end Sys2Proof.Machine
end

section
/-! SUPPORT and SETTLED. Slot runs (O35). -/
namespace Sys2Proof.Machine
open Sys2Proof

theorem getBits_word (w : Word) : getBits w 0 32 = w.toNat := Nat.mod_eq_of_lt w.isLt

namespace LaneState
variable {l m : LaneState} {r : Run}

/-! ### Exit and abort (R114, R150, R180) -/

/-- A counter of a whole register saturates. -/
theorem rd_bump_word {a : Nat} :
    (l.bump ⟨a, 0, 32⟩ 1).rd a = if l.rd a = 0xFFFFFFFF then 0xFFFFFFFF else l.rd a + 1 := by
  have hmin := get_bump_same l ⟨a, 0, 32⟩ 1 (of_decide_eq_true rfl)
  rw [get_eq_rd, getBits_word, get_eq_rd, getBits_word] at hmin
  have hlt := (l.rd a).isLt
  refine BitVec.eq_of_toNat_eq (hmin.trans ?_)
  split
  next h => rw [h]; rfl
  next h =>
    have hne : (l.rd a).toNat ≠ 0xFFFFFFFF := fun e => h (BitVec.eq_of_toNat_eq e)
    rw [BitVec.toNat_add]
    simp only [BitVec.ofNat_eq_ofNat, BitVec.toNat_ofNat]
    omega

/-- The registers of a slot lie apart from each other and from the event counter. -/
theorem slotRegs_ne (s : Nat) : R.LESLOT_SLOTSTAT s ≠ R.LESLOT_EXITESW s ∧ R.LESLOT_SLOTSTAT s ≠ R.LESLOT_CYCLES s ∧
    R.LESLOT_SLOTSTAT s ≠ R.evtCnt P.LE ∧ R.LESLOT_CYCLES s ≠ R.evtCnt P.LE := by
  simp only [R.LESLOT_SLOTSTAT, R.LESLOT_EXITESW, R.LESLOT_CYCLES, R.evtCnt, P.LE]
  omega

@[simp] theorem run_used {f : LoopState → Nat} : (l.modLoop fun p => { p with used := f p }).loop.run = l.loop.run := rfl

/-- SLOTSTAT as an exit sets it. -/
def exitStat (l : LaneState) (r : Run) (cause pc : Nat) : LaneState :=
  (((l.put (F.LESLOT_SLOTSTAT_CAUSE r.slot) cause).put (F.LESLOT_SLOTSTAT_CTX r.slot) r.ctx).put
    (F.LESLOT_SLOTSTAT_ROT r.slot) r.rot).put (F.LESLOT_SLOTSTAT_PC r.slot) pc

/-- The cycles of a run as an exit sets them, and their maximum. -/
def exitCycles (l : LaneState) (r : Run) (c : Nat) : LaneState :=
  let l := l.put (F.LESLOT_CYCLES_LAST r.slot) (min c 511)
  l.put (F.LESLOT_CYCLES_MAX r.slot) (max (min c 511) (l.get (F.LESLOT_CYCLES_MAX r.slot)))

/-- The registers that an exit records in, before the engine's cycles are counted. -/
def exitRegs (l : LaneState) (r : Run) (cause pc : Nat) : LaneState :=
  ((l.exitStat r cause pc).wr (R.LESLOT_EXITESW r.slot) l.eng.esw).exitCycles r l.eng.cyc

theorem exitRecord_eq {cause pc : Nat} : l.exitRecord r cause pc =
    ((l.exitRegs r cause pc).modLoop fun p => { p with used := p.used + l.eng.cyc }).countN P.LE 5 l.eng.cyc := rfl

theorem exitStat_values {cause pc : Nat} : (l.exitStat r cause pc).get (F.LESLOT_SLOTSTAT_CAUSE r.slot) = cause % 8 ∧
    (l.exitStat r cause pc).get (F.LESLOT_SLOTSTAT_CTX r.slot) = r.ctx % 128 := by
  unfold exitStat
  constructor
  · rw [get_put_disjoint _ _ _ _ (of_decide_eq_true rfl) (of_decide_eq_true rfl),
      get_put_disjoint _ _ _ _ (of_decide_eq_true rfl) (of_decide_eq_true rfl),
      get_put_disjoint _ _ _ _ (of_decide_eq_true rfl) (of_decide_eq_true rfl)]
    exact get_put_same _ _ _ (of_decide_eq_true rfl)
  · rw [get_put_disjoint _ _ _ _ (of_decide_eq_true rfl) (of_decide_eq_true rfl),
      get_put_disjoint _ _ _ _ (of_decide_eq_true rfl) (of_decide_eq_true rfl)]
    exact get_put_same _ _ _ (of_decide_eq_true rfl)

theorem get_exitCycles_last {c : Nat} : (l.exitCycles r c).get (F.LESLOT_CYCLES_LAST r.slot) = min c 511 :=
  (get_put_disjoint _ _ _ _ (of_decide_eq_true rfl) (of_decide_eq_true rfl)).trans ((get_put_same _ _ _
    (of_decide_eq_true rfl)).trans (Nat.mod_eq_of_lt (Nat.lt_of_le_of_lt (Nat.min_le_right _ _) (of_decide_eq_true rfl))))

theorem rd_exitCycles {c a : Nat} (h : a ≠ R.LESLOT_CYCLES r.slot) : (l.exitCycles r c).rd a = l.rd a :=
  (rd_put_ne _ _ _ h).trans (rd_put_ne _ _ _ h)

theorem rd_exitStat {cause pc a : Nat} (h : a ≠ R.LESLOT_SLOTSTAT r.slot) : (l.exitStat r cause pc).rd a = l.rd a :=
  (rd_put_ne _ _ _ h).trans ((rd_put_ne _ _ _ h).trans ((rd_put_ne _ _ _ h).trans (rd_put_ne _ _ _ h)))

theorem rd_exitRecord {cause pc a : Nat} (h : a ≠ R.evtCnt P.LE) :
    (l.exitRecord r cause pc).rd a = (l.exitRegs r cause pc).rd a := by
  rw [exitRecord_eq, rd_countN _ _ _ _ h, rd_modLoop]

/-- What an exit records (R180). -/
theorem exitRecord_values {cause pc : Nat} :
    (l.exitRecord r cause pc).get (F.LESLOT_SLOTSTAT_CAUSE r.slot) = cause % 8 ∧
    (l.exitRecord r cause pc).get (F.LESLOT_SLOTSTAT_CTX r.slot) = r.ctx % 128 ∧
    (l.exitRecord r cause pc).get (F.LESLOT_CYCLES_LAST r.slot) = min l.eng.cyc 511 := by
  obtain ⟨hesw, hcyc, hcnt, hcnt'⟩ := slotRegs_ne r.slot
  obtain ⟨hcause, hctx⟩ := exitStat_values (l := l) (r := r) (cause := cause) (pc := pc)
  have hstat : (l.exitRecord r cause pc).rd (R.LESLOT_SLOTSTAT r.slot) = (l.exitStat r cause pc).rd (R.LESLOT_SLOTSTAT r.slot) := by
    rw [rd_exitRecord hcnt, exitRegs, rd_exitCycles hcyc, rd_wr_ne _ _ hesw]
  exact ⟨(congrArg (getBits · 0 3) hstat).trans hcause, (congrArg (getBits · 4 7) hstat).trans hctx,
    (congrArg (getBits · 0 9) (rd_exitRecord hcnt')).trans get_exitCycles_last⟩

theorem exitRegs_rest {cause pc : Nat} : (l.exitRegs r cause pc).loop = l.loop ∧ (l.exitRegs r cause pc).mem = l.mem ∧
    (l.exitRegs r cause pc).events = l.events := by
  simp [exitRegs, exitCycles, exitStat]

theorem exitRecord_rest {cause pc : Nat} : (l.exitRecord r cause pc).loop.run = l.loop.run ∧
    (l.exitRecord r cause pc).mem = l.mem ∧ (l.exitRecord r cause pc).events = l.events := by
  obtain ⟨hloop, hmem, hevents⟩ := exitRegs_rest (l := l) (r := r) (cause := cause) (pc := pc)
  rw [exitRecord_eq, loop_countN, run_used, hloop, mem_countN, mem_modLoop, hmem, events_countN, events_modLoop, hevents]
  exact ⟨rfl, rfl, rfl⟩

/-- The aborts of the slot and of the engine are counted. -/
def abortCounted (l : LaneState) (r : Run) : LaneState :=
  (l.bump ⟨R.LESLOT_ABORTS r.slot, 0, 32⟩ 1).bump ⟨R.LE_ABORTCNT, 0, 32⟩ 1

theorem slotMsg_rest {k : Nat} {b : Bool} : (l.slotMsg k b).loop = l.loop ∧ (l.slotMsg k b).mem = l.mem ∧
    (l.slotMsg k b).events = l.events ∧ ∀ a, (l.slotMsg k b).rd a = l.rd a := by
  unfold slotMsg
  split
  · exact ⟨loop_sendMsg, mem_sendMsg, events_sendMsg, rd_sendMsg l _⟩
  · exact ⟨rfl, rfl, rfl, fun _ => rfl⟩

/-- The abort pulses its slot's condition and counts as an event of both pages, and its source is raised (R178, R181). -/
def abortRaised (l : LaneState) (r : Run) (src : Nat) : LaneState :=
  ((((l.abortCounted r).irqPulse (P.LESLOT (r.slot / 16)) (mbit (r.slot % 16))).count (P.LESLOT (r.slot / 16)) 1).count
    P.LE 3).raiseAt src r.slot

theorem abortReport_eq {src : Nat} : ∃ b, l.abortReport r src = ((l.abortRaised r src).slotMsg r.slot b).trkContext r.ctx :=
  ⟨_, rfl⟩

theorem events_raiseAt_snoc {k u : Nat} : (l.raiseAt k u).events = l.events ++ [⟨k, u⟩] := rfl

theorem abortRaised_rest {src : Nat} : (l.abortRaised r src).loop = l.loop ∧ (l.abortRaised r src).mem = l.mem ∧
    (l.abortRaised r src).events = l.events ++ [⟨src, r.slot⟩] ∧
    ∀ a, a ≠ R.evtCnt P.LE → a ≠ R.irqStat (P.LESLOT (r.slot / 16)) → a ≠ R.evtCnt (P.LESLOT (r.slot / 16)) →
      (l.abortRaised r src).rd a = (l.abortCounted r).rd a := by
  refine ⟨?_, ?_, ?_, fun a hcnt hst hev => ?_⟩
  · exact loop_raiseAt.trans (loop_count.trans (loop_count.trans loop_irqPulse))
  · exact mem_raiseAt.trans (mem_count.trans (mem_count.trans mem_irqPulse))
  · rw [abortRaised, events_raiseAt_snoc, events_count, events_count, events_irqPulse]
    rfl
  · rw [abortRaised, rd_raiseAt, rd_count _ _ _ hcnt, rd_count _ _ _ hev, rd_irqPulse _ _ _ hst]

/-- What an abort reports (R150, R178, R181): its counts and its source, and in its page's header and the trackers. -/
theorem abortReport_outcome {src : Nat} : (l.abortReport r src).loop.run = l.loop.run ∧ (l.abortReport r src).mem = l.mem ∧
    (l.abortReport r src).events = l.events ++ [⟨src, r.slot⟩] ∧
    ∀ a, offTrackers a → a ≠ R.evtCnt P.LE → a ≠ R.irqStat (P.LESLOT (r.slot / 16)) →
      a ≠ R.evtCnt (P.LESLOT (r.slot / 16)) → (l.abortReport r src).rd a = (l.abortCounted r).rd a := by
  obtain ⟨b, hb⟩ := abortReport_eq (l := l) (r := r) (src := src)
  obtain ⟨hloop, hmem, hevents, hrd⟩ := abortRaised_rest (l := l) (r := r) (src := src)
  obtain ⟨hloopM, hmemM, heventsM, hrdM⟩ := slotMsg_rest (l := l.abortRaised r src) (k := r.slot) (b := b)
  have htrk := trkContext_trackersOnly (l := (l.abortRaised r src).slotMsg r.slot b) (c := r.ctx)
  rw [hb]
  exact ⟨htrk.run.trans (congrArg LoopState.run (hloopM.trans hloop)), htrk.mem.trans (hmemM.trans hmem),
    htrk.events.trans (heventsM.trans hevents),
    fun a ha hcnt hst hev => (htrk.rd a ha).trans ((hrdM a).trans (hrd a hcnt hst hev))⟩

/-- The registers that an exit records lie off those that an abort's report counts in. -/
theorem get_abortReport_recorded {src : Nat} {f : Fld}
    (hf : f.addr = R.LESLOT_SLOTSTAT r.slot ∨ f.addr = R.LESLOT_CYCLES r.slot) :
    (l.abortReport r src).get f = l.get f := by
  obtain ⟨-, -, -, hrd⟩ := abortReport_outcome (l := l) (r := r) (src := src)
  simp only [R.LESLOT_SLOTSTAT, R.LESLOT_CYCLES] at hf
  rw [get_eq_rd, get_eq_rd, hrd f.addr ⟨?_, ?_, fun k hk => ?_⟩ ?_ ?_ ?_, abortCounted, rd_bump_ne _ _ _ ?_,
    rd_bump_ne _ _ _ ?_]
  all_goals
    simp only [R.irqRaw, R.irqStat, R.evtCnt, R.LE_TRKSTAT, R.LESLOT_ABORTS, R.LE_ABORTCNT, P.LE, P.LESLOT]
    omega

/-- An abort's report counts it for the engine. -/
theorem rd_abortReport_abortcnt {src : Nat} : (l.abortReport r src).rd R.LE_ABORTCNT =
    if l.rd R.LE_ABORTCNT = 0xFFFFFFFF then 0xFFFFFFFF else l.rd R.LE_ABORTCNT + 1 := by
  obtain ⟨-, -, -, hrd⟩ := abortReport_outcome (l := l) (r := r) (src := src)
  rw [hrd _ ⟨by decide, by decide, by decide⟩ (by decide) ?_ ?_, abortCounted, rd_bump_word, rd_bump_ne _ _ _ ?_]
  all_goals
    simp only [R.irqStat, R.evtCnt, R.LESLOT_ABORTS, R.LE_ABORTCNT, P.LESLOT]
    omega

theorem rd_exitRecord_abortcnt {cause pc : Nat} : (l.exitRecord r cause pc).rd R.LE_ABORTCNT = l.rd R.LE_ABORTCNT := by
  rw [rd_exitRecord (by decide), exitRegs, rd_exitCycles ?_, rd_wr_ne _ _ ?_, rd_exitStat ?_]
  all_goals
    simp only [R.LE_ABORTCNT, R.LESLOT_SLOTSTAT, R.LESLOT_EXITESW, R.LESLOT_CYCLES]
    omega

@[simp] theorem run_runStage {v : RunStage} : (l.runStage v).loop.run = l.loop.run.map fun q => { q with stage := v } := rfl
@[simp] theorem get_runStage {v : RunStage} {f : Fld} : (l.runStage v).get f = l.get f := rfl
@[simp] theorem rd_runStage {v : RunStage} {a : Nat} : (l.runStage v).rd a = l.rd a := rfl
@[simp] theorem mem_runStage {v : RunStage} : (l.runStage v).mem = l.mem := rfl
@[simp] theorem events_runStage {v : RunStage} : (l.runStage v).events = l.events := rfl

/-- An overrun stops the run where its 288 cycles end, with its record (R149). -/
def overran (l : LaneState) (r : Run) : LaneState :=
  ((l.modEng fun e => { e with cyc := 288 }).exitRecord r Cause.overrun l.eng.pc).runStage .aborted

theorem overrun_eq : l.overrun r = (l.overran r).abortReport r 40 := rfl

theorem overran_record : (l.overran r).get (F.LESLOT_SLOTSTAT_CAUSE r.slot) = Cause.overrun ∧
    (l.overran r).get (F.LESLOT_SLOTSTAT_CTX r.slot) = r.ctx % 128 ∧ (l.overran r).get (F.LESLOT_CYCLES_LAST r.slot) = 288 := by
  obtain ⟨hcause, hctx, hlast⟩ := exitRecord_values (l := l.modEng fun e => { e with cyc := 288 }) (r := r)
    (cause := Cause.overrun) (pc := l.eng.pc)
  rw [overran, get_runStage, get_runStage, get_runStage]
  exact ⟨hcause, hctx, hlast⟩

theorem overran_rest : (l.overran r).loop.run = l.loop.run.map (fun q => { q with stage := .aborted }) ∧
    (l.overran r).mem = l.mem ∧ (l.overran r).events = l.events ∧ (l.overran r).rd R.LE_ABORTCNT = l.rd R.LE_ABORTCNT := by
  obtain ⟨hrun, hmem, hevents⟩ := exitRecord_rest (l := l.modEng fun e => { e with cyc := 288 }) (r := r)
    (cause := Cause.overrun) (pc := l.eng.pc)
  rw [overran, run_runStage, hrun, mem_runStage, hmem, events_runStage, hevents, rd_runStage, rd_exitRecord_abortcnt]
  exact ⟨rfl, rfl, rfl, rfl⟩

/-- An overrun records its cause with the context and the cycles, counts the abort and raises OVERRUN (R149, R150, R180). -/
theorem overrun_outcome (hrun : l.loop.run = some r) (hc : r.ctx < 128) :
    (l.overrun r).loop.run = some { r with stage := .aborted } ∧
    (l.overrun r).get (F.LESLOT_SLOTSTAT_CAUSE r.slot) = Cause.overrun ∧
    (l.overrun r).get (F.LESLOT_SLOTSTAT_CTX r.slot) = r.ctx ∧ (l.overrun r).get (F.LESLOT_CYCLES_LAST r.slot) = 288 ∧
    (l.overrun r).rd R.LE_ABORTCNT = (if l.rd R.LE_ABORTCNT = 0xFFFFFFFF then 0xFFFFFFFF else l.rd R.LE_ABORTCNT + 1) ∧
    (l.overrun r).events = l.events ++ [⟨40, r.slot⟩] ∧ (l.overrun r).mem = l.mem := by
  obtain ⟨hcause, hctx, hlast⟩ := overran_record (l := l) (r := r)
  obtain ⟨hrunO, hmemO, heventsO, hcntO⟩ := overran_rest (l := l) (r := r)
  obtain ⟨hrunA, hmemA, heventsA, -⟩ := abortReport_outcome (l := l.overran r) (r := r) (src := 40)
  rw [overrun_eq, hrunA, hrunO, hrun, heventsA, heventsO, hmemA, hmemO, rd_abortReport_abortcnt, hcntO,
    get_abortReport_recorded (.inl rfl), get_abortReport_recorded (.inl rfl), get_abortReport_recorded (.inr rfl), hcause, hctx,
    hlast, Nat.mod_eq_of_lt hc]
  exact ⟨rfl, rfl, rfl, rfl, rfl, rfl, rfl⟩

/-! ### Snapshot, output stage and launch (R148, R160) -/

theorem sampleInput_keeps_due {s0 : LaneState} {slot p now c : Nat} {q : LaneState × Nat} {e : Nat × Word} :
    (s0.sampleInput slot p now c q e).1.loop.due = q.1.loop.due := by
  have hsub : ∀ n : LaneState, (n.substituted slot).loop = n.loop := fun n =>
    loop_count.trans (loop_raiseAt.trans (loop_irqPulse.trans loop_wr))
  have hheld : ∀ (n : LaneState) (g : LoopState → Table (Option DWord)),
      (n.modLoop fun q => { q with inHeld := g q }).loop.due = n.loop.due := fun _ _ => rfl
  unfold sampleInput
  dsimp only
  split
  · rw [hsub, hheld, loop_engStore]
  · rw [hheld, loop_engStore]

theorem sampleStage_keeps_due {slot rot c now : Nat} : (l.sampleStage slot rot c now).loop.due = l.loop.due := by
  have hins : ((l.walk c).ins.foldl (l.sampleInput slot (l.act (F.LESLOT_SPHASE_P slot)) now c) (l, 0)).1.loop.due =
      l.loop.due :=
    foldl_keeps (fun q : LaneState × Nat => q.1.loop.due = l.loop.due) (fun _ _ h => sampleInput_keeps_due.trans h) _ (l, 0) rfl
  unfold sampleStage
  dsimp only
  rw [loop_engStore, loop_engStore, loop_engStore, loop_engStore]
  exact hins

/-- The run that a snapshot begins (R148, R151). -/
def sampledRun (l : LaneState) (k rot : Nat) : Run :=
  ⟨k, l.act (F.LESLOT_ROT_CTX k rot), rot, l.act (F.LESLOT_ROT_ENTRY k rot), l.isDuplex (l.act (F.LESLOT_ROT_CTX k rot)),
    (l.walk (l.act (F.LESLOT_ROT_CTX k rot))).outs, .sampled⟩

theorem entryEngine_start {c entry : Nat} : (l.entryEngine c entry).pc = entry ∧ (l.entryEngine c entry).cyc = 0 := ⟨rfl, rfl⟩

/-- A sampled run stands ready with the engine as slot entry sets it. -/
theorem run_setRun_modEng {f : Engine → Engine} {q : Option Run} : ((l.setRun q).modEng f).loop.run = q := rfl

theorem eng_setRun_modEng {e : Engine} {q : Option Run} : ((l.setRun q).modEng fun _ => e).eng = e := rfl

theorem due_setRun_modEng {g : SieveState → SieveState} {f : Engine → Engine} {q : Option Run} :
    (((l.modSieve g).setRun q).modEng f).loop.due = l.loop.due := rfl

theorem snapshot_outcome {k rot now : Nat} (hb : l.sampleBad k (l.act (F.LESLOT_ROT_CTX k rot)) now = false) :
    (l.snapshot k rot now).loop.run = some (l.sampledRun k rot) ∧
    (l.snapshot k rot now).eng.pc = l.act (F.LESLOT_ROT_ENTRY k rot) ∧ (l.snapshot k rot now).eng.cyc = 0 ∧
    (l.snapshot k rot now).loop.due = l.loop.due.filter (· ≠ k) := by
  have hgood : ¬(l.modLoop fun p => { p with due := p.due.filter (· ≠ k) }).sampleBad k (l.act (F.LESLOT_ROT_CTX k rot)) now =
      true := ne_true_of_eq_false hb
  unfold snapshot
  dsimp only
  rw [if_neg hgood, run_setRun_modEng, eng_setRun_modEng, due_setRun_modEng, sampleStage_keeps_due]
  exact ⟨rfl, entryEngine_start.1, entryEngine_start.2, rfl⟩

/-- The outputs of run `r`, held for their launch (R159 to R161). -/
def outputsOf (l : LaneState) (r : Run) : Launch :=
  let es := r.outs.map fun a => (a, l.dword (zAddr (24 * r.ctx + bZw a)))
  ⟨r.slot, r.ctx, r.rot, r.duplex, phaseOuts es, strataOuts es, es.map (·.2)⟩

theorem outputs_held (hb : r.outs.any (fun a => l.zBad (24 * r.ctx + bZw a)) = false) :
    (l.outputs r).loop.held = l.loop.held ++ [l.outputsOf r] := by
  unfold outputs
  dsimp only
  rw [if_neg (ne_true_of_eq_false hb)]
  exact congrArg (· ++ [l.outputsOf r]) trkSample_keeps_held

/-- The words of a run's outputs are read from memory. -/
theorem words_outputsOf (h : m.mem = l.mem) :
    (m.outputsOf r).words = r.outs.map fun a => l.dword (zAddr (24 * r.ctx + bZw a)) := by
  simp only [outputsOf, List.map_map]
  exact List.map_congr_left fun a _ => congrArg (BitVec.ofNat 64) (load_of_mem h)

/-- The launch of one phase command, its bridge not fenced: a frame with the modes and the duty words (R19, R160). -/
theorem launchOuts_one {p : PhaseOut} (hb : l.bridgeFenced p.bridge = false) :
    l.launchOuts [p] [] false = l.sendDown 1 p.bridge p.modes
      [BitVec.ofNat 16 p.duty.u, BitVec.ofNat 16 p.duty.v, BitVec.ofNat 16 p.duty.w] :=
  if_neg (ne_true_of_eq_false hb)

theorem sendDown_rest {typ bridge arg : Nat} {pay : List Half} : (l.sendDown typ bridge arg pay).loop = l.loop ∧
    (l.sendDown typ bridge arg pay).mem = l.mem := by
  unfold sendDown
  split
  · exact ⟨rfl, rfl⟩
  · exact ⟨loop_count.trans loop_bump, mem_count.trans mem_bump⟩

end LaneState

/-- Settles O35: each command of a slot run by what it leaves of the run, the outputs held and the wire. -/
theorem slotRuns : Obligations.SlotRuns := by
  unfold Obligations.SlotRuns
  intro s x n k r h hs ha
  have hlive : ¬(!(s.lane x).alive) = true := by simp [ha]
  refine ⟨?snapshot, ?entry, ?overrun, ?outputs, ?launch⟩
  case snapshot =>
    intro hframe hdue hfence hrun hrot hgood
    obtain ⟨hrun', hpc, hcyc, hdue'⟩ := LaneState.snapshot_outcome hgood
    refine yieldsLane_of_onLane (l := (s.lane x).snapshot n.val k s.nowUs) rfl ?_ ⟨?_, hpc, hcyc, hdue'⟩
    · refine (if_neg (by simp [ha, hframe, hdue, hfence, hrun])).trans ?_
      rw [hrot]
    · rw [hrun']
      simp [LaneState.sampledRun]
  case entry =>
    intro hrun hstage
    refine yieldsLane_of_onLane (l := (s.lane x).runStage .running) rfl ?_ ⟨?_, rfl, rfl⟩
    · rw [hrun]
      exact if_pos ⟨ha, hstage⟩
    · exact congrArg (fun q : Option Run =>
        { (s.lane x).loop with run := q.map fun p : Run => { p with stage := .running } }) hrun
  case overrun =>
    intro hrun hstage _ hctx
    refine yieldsLane_of_onLane (l := (s.lane x).overrun r) rfl ?_ (LaneState.overrun_outcome hrun hctx)
    rw [hrun]
    exact if_pos ⟨ha, hstage⟩
  case outputs =>
    intro hrun hstage hgood
    obtain ⟨hloop, hmem, hbad⟩ := LaneState.hist_rest (l := s.lane x) (src := 2) (sel := r.slot) (ident := 0)
      (v := (s.lane x).get (F.LESLOT_CYCLES_LAST r.slot))
    have hheld := LaneState.outputs_held (r := r) (l := (s.lane x).hist 2 r.slot 0 ((s.lane x).get (F.LESLOT_CYCLES_LAST r.slot)))
      (by simp only [LaneState.zBad, hbad]; exact hgood)
    rw [hloop] at hheld
    refine yieldsLane_of_onLane rfl (l := (((s.lane x).hist 2 r.slot 0
      ((s.lane x).get (F.LESLOT_CYCLES_LAST r.slot))).outputs r).setRun none) ?_ ⟨rfl, ?_, ?_⟩
    · dsimp only
      rw [hrun]
      dsimp only
      rw [if_neg hlive, hstage]
    · exact (congrArg List.length hheld).trans (by simp)
    · refine (congrArg (fun hs : List Launch => hs.getLast?.any _) hheld).trans ?_
      rw [List.getLast?_append_of_ne_nil _ (by simp)]
      rw [List.getLast?_singleton, Option.any_some, LaneState.words_outputsOf hmem]
      simp [LaneState.outputsOf]
  case launch =>
    intro hheld hslot hdup hstr hph _ hfence hbridge hblink
    have hfind : (s.lane x).loop.held.find? (·.slot == n.val) = some h := by
      rw [hheld]
      exact List.find?_cons_of_pos (by simp [hslot])
    have hdrop : dropFirst (·.slot == n.val) (s.lane x).loop.held = hs := by
      rw [hheld]
      exact if_pos (by simp [hslot])
    obtain ⟨t, hwire, -⟩ := LaneState.sendDown_wire (l := (s.lane x).modLoop fun p => { p with held := hs }) (typ := 1)
      (bridge := k) (arg := 21) (pay := [1, 2, 3]) hblink 0
    obtain ⟨hloop, hmem⟩ := LaneState.sendDown_rest (l := (s.lane x).modLoop fun p => { p with held := hs }) (typ := 1)
      (bridge := k) (arg := 21) (pay := [1, 2, 3])
    refine yieldsLane_of_onLane (l := ((s.lane x).modLoop fun p => { p with held := hs }).sendDown 1 k 21 [1, 2, 3]) rfl ?_
      ⟨congrArg LoopState.held hloop, ?_, ?_, hmem⟩
    · rw [hfind]
      have hrest : (s.lane x).modLoop (fun p => { p with held := dropFirst (·.slot == n.val) p.held }) =
          (s.lane x).modLoop fun p => { p with held := hs } :=
        (congrArg (fun q => (s.lane x).modLoop fun p => { p with held := q }) hdrop :)
      have hone := LaneState.launchOuts_one (l := (s.lane x).modLoop fun p => { p with held := hs })
        (p := ⟨k, 21, ⟨1, 2, 3⟩⟩) hbridge
      refine (if_neg hlive).trans ((if_neg (ne_true_of_eq_false hfence)).trans ?_)
      rw [hrest, LaneState.launch, hph, hstr, hdup]
      exact hone
    · rw [hwire]
      simp
    · rw [hwire]
      simp
end Sys2Proof.Machine
end

section
/-! SUPPORT and SETTLED. CURRENT and STATUS frames (O12). -/
namespace Sys2Proof.Machine
open Sys2Proof

namespace LaneState
variable {l : LaneState}

/-! What a cycle's conditions do (R64). -/

@[simp] theorem mem_irqCycle {b : Nat} {m v p : Word} : (l.irqCycle b m v p).mem = l.mem := by simp [irqCycle]
@[simp] theorem loop_irqCycle {b : Nat} {m v p : Word} : (l.irqCycle b m v p).loop = l.loop := by simp [irqCycle]

/-- A condition of `m` takes its level of `v`. -/
theorem irqRaw_irqCycle {b i : Nat} {m v p : Word} (hm : m.getLsbD i = true) :
    ((l.irqCycle b m v p).rd (R.irqRaw b)).getLsbD i = v.getLsbD i := by
  have hne : R.irqRaw b ≠ R.irqStat b := by simp [R.irqRaw, R.irqStat]
  have hrd : (l.irqCycle b m v p).rd (R.irqRaw b) = (l.rd (R.irqRaw b) &&& ~~~m) ||| (v &&& m) :=
    (rd_irqLatch _ _ _ hne).trans (rd_wr_same _ _ _)
  simp [hrd, hm]

/-! Lasting causes (R394). -/

@[simp] theorem loop_setLive {k u : Nat} {v : Bool} : (l.setLive k v u).loop = l.loop := by
  unfold setLive
  dsimp only
  split <;> rfl

/-- The level of one source is not that of another. -/
theorem get_setLive_ne {j k u : Nat} {v : Bool} (hj : j ≠ k) (hk : k < 256) :
    (l.setLive k v u).get (F.FLT_SSTAT_LIVE j) = l.get (F.FLT_SSTAT_LIVE j) := by
  have hs : R.FLT_SSTAT j ≠ R.FLT_SSTAT k := by
    simp only [R.FLT_SSTAT]
    omega
  have hl : R.FLT_SSTAT j ≠ R.FLT_LIVE (k / 32) := by
    simp only [R.FLT_SSTAT, R.FLT_LIVE]
    omega
  exact congrArg (getBits · 12 1) (rd_setLive hs hl)

/-- The sources `base + j`, `j` in `js`, follow the levels `v j`. -/
def setLives (l : LaneState) (base : Nat) (v : Nat → Bool) (js : List Nat) : LaneState :=
  js.foldl (fun m j => m.setLive (base + j) (v j) 0) l

variable {base : Nat} {v : Nat → Bool} {js : List Nat}

/-- What each of the sources leaves, all of them leave. -/
theorem setLives_keeps {P : LaneState → Prop} (h : ∀ m, ∀ j ∈ js, P m → P (m.setLive (base + j) (v j) 0)) (hl : P l) :
    P (l.setLives base v js) :=
  List.foldlRecOn js _ hl fun m hm j hj => h m j hj hm

/-- Each of the sources has its level. -/
theorem get_setLives {i : Nat} (hi : i ∈ js) (hb : ∀ j ∈ js, base + j < 256) :
    (l.setLives base v js).get (F.FLT_SSTAT_LIVE (base + i)) = bit (v i) := by
  obtain ⟨pre, post, rfl⟩ := List.append_of_mem hi
  have hpost : ∀ j ∈ post, base + j < 256 := fun j hj => hb j (by simp [hj])
  rw [setLives, List.foldl_append, List.foldl_cons]
  refine setLives_keeps (P := fun m => m.get (F.FLT_SSTAT_LIVE (base + i)) = bit (v i)) (fun m j hj hm => ?_)
    (get_setLive_same _ _ _ _)
  by_cases hij : j = i
  · rw [hij]
    exact get_setLive_same _ _ _ _
  · exact (get_setLive_ne (by omega) (hpost j hj)).trans hm

end LaneState

/-! ### The CURRENT frame -/

/-- A sample stored under a bridge and a counter is read under these alone. -/
theorem LoopState.sample_stored {p : LoopState} {n k m j : Nat} {o : Option CurSample} (hk : k < 512) (hj : j < 512) :
    LoopState.sample { p with cur := Table.set (fun _ => none) p.cur (512 * n + k) o } m j =
      if m = n ∧ j = k then o else p.sample m j := by
  have hkey : 512 * m + j = 512 * n + k ↔ m = n ∧ j = k := by omega
  exact (Table.get_set _ _ _ _ _).trans (ite_congr (propext hkey) (fun _ => rfl) fun _ => rfl)

/-! ### The STATUS frame -/

section
variable {arg : BitVec 9} {pay : Half}

/-- ARG[5:0] are the levels of conditions 0 to 5 (R266). -/
theorem statusLevels_arg (i : Fin 6) : (statusLevels arg pay).getLsbD i.val = arg.getLsbD i.val := by
  have hmask : (0x3F : Word).getLsbD i.val = true := by
    revert i
    decide
  have hpay : ∀ a b c : Bool, (BitVec.ofNat 32 (512 * bit a + 1024 * bit b + 2 ^ 31 * bit c)).getLsbD i.val = false := by
    revert i
    decide
  have hi : i.val < 32 := by omega
  simp only [statusLevels, BitVec.getLsbD_or, BitVec.getLsbD_and, BitVec.getLsbD_setWidth, hmask, hpay, hi, decide_true,
    Bool.true_and, Bool.and_true, Bool.or_false]

/-- Payload bit 7 is the level of condition 10 (R263). -/
theorem statusLevels_payload7 : (statusLevels arg pay).getLsbD 10 = pay.getLsbD 7 := by
  have hmask : (0x3F : Word).getLsbD 10 = false := by decide
  have hpay : ∀ a b c : Bool, (BitVec.ofNat 32 (512 * bit a + 1024 * bit b + 2 ^ 31 * bit c)).getLsbD 10 = b := by decide
  simp only [statusLevels, BitVec.getLsbD_or, BitVec.getLsbD_and, hmask, hpay, Bool.and_false, Bool.false_or]

namespace LaneState
variable {l : LaneState} {n : Nat}

/-- A lane's STATUS frame: the conditions of the bridge's page, its six sources, the event of ARG[6], and BCOM's condition 31. -/
theorem statusFrame_eq : l.statusFrame n arg pay =
    (if arg.getLsbD 6 then ((l.irqCycle (P.BRG n) 0x8000063F (statusLevels arg pay) (statusPulses arg pay)).setLives
        (138 + 9 * n) arg.getLsbD (List.range 6)).raise (144 + 9 * n)
      else (l.irqCycle (P.BRG n) 0x8000063F (statusLevels arg pay) (statusPulses arg pay)).setLives
        (138 + 9 * n) arg.getLsbD (List.range 6)).irqLevel P.BCOM 31 (pay.getLsbD 14) := rfl

/-- The registers of a STATUS frame: outside BCOM's, what the bridge's conditions and sources leave in them. -/
theorem rd_statusFrame {a : Nat} (hr : a ≠ R.irqRaw P.BCOM) (hs : a ≠ R.irqStat P.BCOM) :
    (l.statusFrame n arg pay).rd a = ((l.irqCycle (P.BRG n) 0x8000063F (statusLevels arg pay) (statusPulses arg pay)).setLives
      (138 + 9 * n) arg.getLsbD (List.range 6)).rd a := by
  rw [statusFrame_eq, rd_irqLevel _ _ _ _ hr hs]
  split
  · exact rd_raise
  · rfl

/-- The bridge's conditions are those of the cycle: its sources show elsewhere. -/
theorem irqRaw_statusFrame (hn : n < 8) : (l.statusFrame n arg pay).rd (R.irqRaw (P.BRG n)) =
    (l.irqCycle (P.BRG n) 0x8000063F (statusLevels arg pay) (statusPulses arg pay)).rd (R.irqRaw (P.BRG n)) := by
  have hr : R.irqRaw (P.BRG n) ≠ R.irqRaw P.BCOM ∧ R.irqRaw (P.BRG n) ≠ R.irqStat P.BCOM := by
    simp only [R.irqRaw, R.irqStat, P.BRG, P.BCOM]
    omega
  rw [rd_statusFrame hr.1 hr.2]
  refine setLives_keeps (P := fun m => m.rd (R.irqRaw (P.BRG n)) = _) (fun m j hj hm => (rd_setLive ?_ ?_).trans hm) rfl
  all_goals
    have hj6 := List.mem_range.mp hj
    simp only [R.irqRaw, P.BRG, R.FLT_SSTAT, R.FLT_LIVE]
    omega

/-- Source i of the bridge's six has the level of ARG[i] (R266). -/
theorem live_statusFrame {i : Nat} (hn : n < 8) (hi : i < 6) :
    (l.statusFrame n arg pay).get (F.FLT_SSTAT_LIVE (138 + 9 * n + i)) = bit (arg.getLsbD i) := by
  have hr : R.FLT_SSTAT (138 + 9 * n + i) ≠ R.irqRaw P.BCOM ∧ R.FLT_SSTAT (138 + 9 * n + i) ≠ R.irqStat P.BCOM := by
    simp only [R.FLT_SSTAT, R.irqRaw, R.irqStat, P.BCOM]
    omega
  refine (congrArg (getBits · 12 1) (rd_statusFrame hr.1 hr.2)).trans
    (get_setLives (List.mem_range.mpr hi) fun j hj => ?_)
  have hj6 := List.mem_range.mp hj
  omega

/-- A STATUS frame leaves the loop engine's state and the memory. -/
theorem statusFrame_rest : (l.statusFrame n arg pay).loop = l.loop ∧ (l.statusFrame n arg pay).mem = l.mem := by
  have hlives : ∀ {b v js}, ∀ m : LaneState, (m.setLives b v js).loop = m.loop ∧ (m.setLives b v js).mem = m.mem :=
    fun m => setLives_keeps (P := fun q => q.loop = m.loop ∧ q.mem = m.mem)
      (fun q j _ hq => ⟨loop_setLive.trans hq.1, mem_setLive.trans hq.2⟩) ⟨rfl, rfl⟩
  rw [statusFrame_eq, loop_irqLevel, mem_irqLevel]
  split
  · simp [hlives]
  · simp [hlives]

end LaneState
end

/-- Settles O12: the key of a CURRENT frame's sample, and the conditions and sources that a STATUS frame gives. -/
theorem framesToLanes : Obligations.FramesToLanes := by
  unfold Obligations.FramesToLanes
  intro s x n arg u v w p i c ha
  refine ⟨fun hup => ?current, ?status⟩
  case current =>
    refine yieldsLane_of_onLane rfl (if_neg (by simp [ha, hup])) ⟨?_, fun m k hm _ hk => ?_, rfl, rfl⟩
    · exact (LoopState.sample_stored arg.isLt arg.isLt).trans (if_pos ⟨rfl, rfl⟩)
    · exact (LoopState.sample_stored arg.isLt hk).trans (if_neg fun h => hm h.1)
  case status =>
    obtain ⟨hloop, hmem⟩ := LaneState.statusFrame_rest (l := s.lane x) (n := n.val) (arg := arg) (pay := p)
    have hmask : (0x8000063F : Word).getLsbD i.val = true := by
      revert i
      decide
    refine yieldsLane_of_onLane rfl (if_pos ha) ⟨?_, LaneState.live_statusFrame n.isLt i.isLt, ?_, hloop, hmem⟩
    · rw [LaneState.irqRaw_statusFrame n.isLt, LaneState.irqRaw_irqCycle hmask, statusLevels_arg]
    · rw [LaneState.irqRaw_statusFrame n.isLt, LaneState.irqRaw_irqCycle (by decide), statusLevels_payload7]
end Sys2Proof.Machine
end

section
/-! SUPPORT and SETTLED. A tracker whose swap is still to come (O36). -/
namespace Sys2Proof.Machine
open Sys2Proof

namespace LaneState
variable {l : LaneState} {k v : Nat}

theorem tracker_modTracker {f : Tracker → Tracker} : (l.modTracker k f).tracker k = f (l.tracker k) :=
  Table.get_set_same _ _ _ _

theorem tracker_of_trk {m : LaneState} (h : m.loop.trk = l.loop.trk) : m.tracker k = l.tracker k := by
  rw [tracker, h, tracker]

/-- A tracker's state and result are registers: its collection and its swap stay. -/
theorem tracker_trkState : (l.trkState k v).tracker k = l.tracker k :=
  tracker_of_trk (congrArg LoopState.trk (loop_irqLevel.trans loop_put) :)
theorem tracker_trkResult : (l.trkResult k v).tracker k = l.tracker k :=
  tracker_of_trk (congrArg LoopState.trk (loop_irqPulse.trans loop_put))

/-- A restart empties the collection (R172) and by itself leaves the swap. -/
theorem tracker_trkRestart : (l.trkRestart k).tracker k = { l.tracker k with runs := 0, count := 0 } := by
  have hcollect : ∀ m : LaneState, (m.trkCollect k).tracker k = { m.tracker k with runs := 0, count := 0 } := fun m =>
    tracker_trkState.trans tracker_modTracker
  unfold trkRestart
  split
  · rw [hcollect, tracker_trkResult]
  · exact hcollect l

/-- A write of TRKCFG drops the swap that the tracker waits for. -/
theorem swap_trkcfgWrite {w : Word} (ha : l.alive = true) (hf : l.blockFenced (R.LE_TRKCFG k) = false) :
    ((l.trkcfgWrite k w).tracker k).swap = false := by
  rw [trkcfgWrite, command_live _ _ _ _ ha hf, tracker_trkRestart, tracker_modTracker]

end LaneState

/-- Lane A's tracker 2 has applied a proposal and waits in PENDING for the toggle of its context's bank (R175). -/
def swapAwaited : State :=
  (wLive.lput [(F.LE_TRKSTAT_STATE 2, Trk.pending), (F.LE_CTXCOEF_SWAP 0, 1)]).modLane .A fun l =>
    l.modTracker 2 fun t => { t with swap := true }

/-- Refutes O36: the statement lets a write of TRKCFG empty the collection alone, but where the tracker waits for the toggle
the write drops that wait too. -/
theorem not_trackers : ¬ Obligations.Trackers := by
  unfold Obligations.Trackers
  intro h
  have ht : (swapAwaited.lane .A).takes (R.LE_TRKCFG 2) = true := by decide +kernel
  obtain ⟨ha, hf, -⟩ := LaneState.takes_iff.mp ht
  obtain ⟨hcfg, -⟩ := h swapAwaited .A 2 0 0 0 ha
  obtain ⟨l, hl, htracker, -⟩ := hcfg ht (by decide +kernel)
  obtain rfl : (swapAwaited.lane .A).trkcfgWrite 2 0 = l := by
    have he := congrArg (State.lane · .A) (Host.Outcome.next.inj hl)
    simpa using he
  have hdropped := LaneState.swap_trkcfgWrite (w := 0) ha hf
  have hkept : ((swapAwaited.lane .A).tracker 2).swap = true := by decide +kernel
  have hstays : false = ((swapAwaited.lane .A).tracker 2).swap := hdropped.symm.trans (congrArg Tracker.swap htracker)
  exact Bool.false_ne_true (hstays.trans hkept)
end Sys2Proof.Machine
end

section
/-! SETTLED. A ripe bit that names no trigger (O37). -/
namespace Sys2Proof.Machine
open Sys2Proof

/-- Lane A's Sieve at a frame start in PAIRED mode. COMMIT is ripe, and with it bit 10, which is none of the ten triggers of
R202. -/
def strayTrigger : State :=
  (wPlc [(F.run P.PLC, 1), (F.running P.PLC, 1)]).modLane .A fun l =>
    (l.modSieve fun v => { v with ripe := 1025 }).modLoop fun p => { p with framing := true }

/-- The triggers of lane A's run after a command. -/
def runMaskAfter : Host.Outcome State Fault Refusal → Option Nat
  | .next t => (t.lane .A).sieve.run.map PlcRun.mask
  | _ => none

/-- The run that starts carries every bit that is ripe, bit 10 too. -/
theorem runMaskAfter_strayTrigger :
    runMaskAfter (exec (.placementRunStart .A (strayTrigger.lane .A).fn) strayTrigger) = some 1025 := by decide +kernel

/-- Refutes O37: the statement gives a run the lowest ten ripe bits alone, and the run takes all of them. -/
theorem not_placementRuns : ¬ Obligations.PlacementRuns := by
  unfold Obligations.PlacementRuns
  intro h
  obtain ⟨-, -, -, -, -, hpaired, -⟩ := h strayTrigger .A wPlan 0 0 0 (by decide +kernel)
  obtain ⟨t, ht, hrun, -⟩ := hpaired (by decide +kernel) (by decide +kernel) (by decide +kernel) (by decide +kernel)
    (by decide +kernel) (by decide +kernel)
  have hmask := runMaskAfter_strayTrigger
  rw [ht] at hmask
  obtain ⟨r, hr, htaken⟩ := Option.map_eq_some_iff.mp hmask
  have hten : r.mask = 1025 % 1024 := by
    rw [hr] at hrun
    simp only [Option.any_some, Bool.and_eq_true, beq_iff_eq] at hrun
    obtain ⟨⟨-, hmask⟩, -⟩ := hrun
    exact hmask
  omega
end Sys2Proof.Machine
end

section
/-! SUPPORT. What the bus, the launch of outputs and the end of a synchronisation leave of Sieve. -/
namespace Sys2Proof.Machine
open Sys2Proof

namespace LaneState
variable {l m : LaneState}

@[simp] theorem sieve_modSieve {f : SieveState → SieveState} : (l.modSieve f).sieve = f l.sieve := rfl

/-! ### Stores of another master -/

@[simp] theorem sieve_ckptRequest {p : Nat} : (l.ckptRequest p).sieve = l.sieve := by
  unfold ckptRequest
  dsimp only
  repeat' split
  all_goals rfl

@[simp] theorem sieve_snoop {n : Nat} : (l.snoop n).sieve = l.sieve := by
  unfold snoop
  split
  · unfold ckptForceNew
    split
    · rfl
    · simp [ckptForce]
  · rfl

@[simp] theorem sieve_dmaShare {p a : Nat} {b : Byte} : (l.dmaShare p a b).sieve = l.sieve := by
  unfold dmaShare
  dsimp only
  repeat' split
  all_goals rfl

@[simp] theorem sieve_dmaByteIn {a : Nat} {b : Byte} : (l.dmaByteIn a b).sieve = l.sieve := by
  have hcopies : ((List.range 4).foldl (fun m p => m.dmaShare p a b) l).sieve = l.sieve :=
    foldl_keeps (fun m : LaneState => m.sieve = l.sieve) (fun _ _ hm => sieve_dmaShare.trans hm) _ l rfl
  unfold dmaByteIn
  dsimp only
  split
  · exact sieve_setByte.trans (sieve_setL2.trans hcopies)
  · exact sieve_setByte.trans hcopies

@[simp] theorem sieve_dmaPut {a : Nat} {b : Byte} : (l.dmaPut a b).sieve = l.sieve := by
  unfold dmaPut
  split
  · exact sieve_snoop
  · exact sieve_dmaByteIn

@[simp] theorem sieve_dmaPutBytes {a : Nat} {bs : List Byte} : (l.dmaPutBytes a bs).sieve = l.sieve := by
  fun_induction LaneState.dmaPutBytes l a bs
  case case1 => rfl
  case case2 ih => exact ih.trans sieve_dmaPut

/-! ### The launch of outputs (R159 to R161) -/

/-- `m` has the Sieve and the memory of `l`. -/
def sameSieveMem (l m : LaneState) : Prop := m.sieve = l.sieve ∧ m.mem = l.mem

theorem sendDown_sameSieveMem {typ bridge arg : Nat} {pay : List Half} : l.sameSieveMem (l.sendDown typ bridge arg pay) := by
  refine ⟨?_, sendDown_rest.2⟩
  unfold sendDown
  split
  · rfl
  · exact sieve_count.trans sieve_bump

theorem strataLaunch_sameSieveMem {ws : List (Nat × Nat × DWord)} : l.sameSieveMem (l.strataLaunch ws) := by
  unfold strataLaunch
  refine foldl_keeps l.sameSieveMem (fun _ _ h => ?ready) _ _
    (foldl_keeps l.sameSieveMem (fun _ _ h => ?words) _ l ⟨rfl, rfl⟩)
  case ready => exact h
  case words => exact h

theorem launchOuts_sameSieveMem {ps : List PhaseOut} {ws : List (Nat × Nat × DWord)} {d : Bool} :
    l.sameSieveMem (l.launchOuts ps ws d) := by
  have hphases : l.sameSieveMem (ps.foldl (fun (m : LaneState) f => if m.bridgeFenced f.bridge then m
      else m.sendDown 1 f.bridge (f.modes + 64 * bit d)
        [BitVec.ofNat 16 f.duty.u, BitVec.ofNat 16 f.duty.v, BitVec.ofNat 16 f.duty.w]) l) := by
    refine foldl_keeps l.sameSieveMem (fun m f hm => ?_) ps l ⟨rfl, rfl⟩
    split
    · exact hm
    · exact ⟨sendDown_sameSieveMem.1.trans hm.1, sendDown_sameSieveMem.2.trans hm.2⟩
  exact ⟨strataLaunch_sameSieveMem.1.trans hphases.1, strataLaunch_sameSieveMem.2.trans hphases.2⟩

end LaneState

namespace State
variable {s : State} {x : Lane}

theorem bed_syncDone : s.syncDone.bed = s.bed := by
  unfold syncDone
  split
  · rfl
  · rfl

/-- The end of a synchronisation changes of a lane whether it is being synchronised, SYNCDONE and the condition that shows
it (R206). -/
theorem lane_syncDone : (∃ b, (s.syncDone.lane x).sieve = { (s.lane x).sieve with syncing := b }) ∧
    (s.syncDone.lane x).mem = (s.lane x).mem ∧
    ∀ a, a ≠ R.PLC_STAT → a ≠ R.irqStat P.PLC → (s.syncDone.lane x).rd a = (s.lane x).rd a := by
  unfold syncDone
  split
  · rw [lane_modLanes]
    split
    · exact ⟨⟨false, by simp⟩, by simp, fun a hstat hirq =>
        (LaneState.rd_irqPulse _ _ _ hirq).trans (LaneState.rd_put_ne _ _ _ hstat)⟩
    · exact ⟨⟨_, rfl⟩, rfl, fun _ _ _ => rfl⟩
  · exact ⟨⟨_, rfl⟩, rfl, fun _ _ _ => rfl⟩

end State
end Sys2Proof.Machine
end

section
/-! SUPPORT and SETTLED. Warm mirroring (O38). -/
namespace Sys2Proof.Machine
open Sys2Proof

namespace LaneState
variable {l m : LaneState}

/-! ### Snapshots (R199) -/

/-- A MIRROR frame at the offset that is due: its words go into the buffer of the snapshot. -/
def mirrorStored (l : LaneState) (b c : Nat) (r : MirRx) (ws : List Word) : LaneState :=
  l.dmaPutBytes (mirAt b c r.buf + r.bytes) (ws.flatMap wordBytes)

/-- A frame that leaves words to come. -/
theorem mirrorFrame_partial {b c : Nat} {r : MirRx} {ws : List Word} (hb : l.bufAt Buf.mir = some b)
    (hr : Table.get (fun _ => none) l.sieve.mirRx c = some r)
    (hn : r.bytes + 4 * ws.length < 4 * l.sieve.desc.mirWords c) :
    l.mirrorFrame c r.bytes ws = (l.mirrorStored b c r ws).modSieve fun v => { v with
      mirRx := Table.set (fun _ => none) v.mirRx c (some { r with bytes := r.bytes + 4 * ws.length }) } := by
  unfold mirrorFrame
  simp only [hb, hr, ne_eq, not_true, if_false, sieve_dmaPutBytes, if_pos hn]
  rfl

/-- The frame with the last words. -/
theorem mirrorFrame_last {b c : Nat} {r : MirRx} {ws : List Word} (hb : l.bufAt Buf.mir = some b)
    (hr : Table.get (fun _ => none) l.sieve.mirRx c = some r)
    (hn : 4 * l.sieve.desc.mirWords c ≤ r.bytes + 4 * ws.length) :
    l.mirrorFrame c r.bytes ws = ((l.mirrorStored b c r ws).modSieve fun v => { v with
      mirRx := Table.set (fun _ => none) v.mirRx c none
      mirCur := Table.set (fun _ => none) v.mirCur c (some (r.buf, r.fn)) }).wr (R.PLC_PLCMIR c) r.fn := by
  unfold mirrorFrame
  simp only [hb, hr, ne_eq, not_true, if_false, sieve_dmaPutBytes, if_neg (Nat.not_lt.mpr hn)]
  rfl

theorem sieve_mirrorStored {b c : Nat} {r : MirRx} {ws : List Word} : (l.mirrorStored b c r ws).sieve = l.sieve :=
  sieve_dmaPutBytes

/-! ### Ramps (R201) -/

/-- Context `c` has no more output to do in this frame. -/
def rampDone (l : LaneState) (c : Nat) : LaneState :=
  l.modSieve fun v => { v with rampDue := v.rampDue.filter (· ≠ c) }

/-! ### The survivor's placement (R206) -/

/-- The value of context `first + j` in a PLCSTATE message. -/
def plcstateRep (ws : List Word) (j : Nat) : Nat := getBits (ws.getD (j / 2) 0) (16 * (j % 2)) 15

/-- An instance takes over what a PLCSTATE message says of one context: its PLCREP, and the lanes where it is placed. -/
def takeRep (first : Nat) (ws : List Word) (l : LaneState) (j : Nat) : LaneState :=
  let c := first + j
  let v := plcstateRep ws j
  if c < 128 then
    (l.wr (R.PLC_PLCREP c) (setBits (l.rd (R.PLC_PLCREP c)) 0 15 v)).modSieve fun q => { q with
      last := if repState v = 1 then Table.set (fun _ => 0) q.last c (v / 4 % 4) else q.last }
  else l

/-- What the takeover leaves of a lane: its registers but PLCREP, its memory, and Sieve's run and triggers. -/
structure TakesReps (l m : LaneState) : Prop where
  regs : sameRegs l m fun a => R.PLC_PLCREP 0 ≤ a ∧ a < R.PLC_PLCREP 128
  seen : m.sieve.peerSeen = l.sieve.peerSeen
  run : m.sieve.run = l.sieve.run
  trigs : m.sieve.trigs = l.sieve.trigs
  mem : m.mem = l.mem

theorem takeRep_takesReps {first j : Nat} {ws : List Word} (h : l.TakesReps m) : l.TakesReps (m.takeRep first ws j) := by
  unfold takeRep
  dsimp only
  split
  next hlt =>
    refine ⟨fun a ha => ?_, h.seen, h.run, h.trigs, h.mem⟩
    have hne : a ≠ R.PLC_PLCREP (first + j) := fun he => ha ⟨by simp only [he, R.PLC_PLCREP]; omega, by
      simp only [he, R.PLC_PLCREP]; omega⟩
    exact (rd_wr_ne _ _ hne).trans (h.regs a ha)
  next => exact h

theorem plcrep_takeRep_same {first j : Nat} {ws : List Word} (h : first + j < 128) :
    (l.takeRep first ws j).plcrep (first + j) = plcstateRep ws j := by
  rw [takeRep, if_pos h, plcrep, rd_modSieve, rd_wr_same, getBits_setBits_same _ _ _ _ (by decide)]
  exact Nat.mod_eq_of_lt (getBits_lt _ _ _)

theorem plcrep_takeRep_ne {first i j : Nat} {ws : List Word} (h : i ≠ j) :
    (l.takeRep first ws i).plcrep (first + j) = l.plcrep (first + j) := by
  unfold takeRep
  dsimp only
  split
  · exact congrArg (getBits · 0 15) (rd_wr_ne _ _ (by simp only [R.PLC_PLCREP]; omega))
  · rfl

/-- Each context of the message that exists gets its value. -/
theorem plcrep_foldl_takeRep {first j : Nat} {ws : List Word} (hj : j < 32) (h : first + j < 128) :
    ((List.range 32).foldl (takeRep first ws) l).plcrep (first + j) = plcstateRep ws j :=
  foldl_once (I := fun _ => True) (P := fun m : LaneState => m.plcrep (first + j) = plcstateRep ws j)
    (fun _ _ => plcrep_takeRep_same h) List.nodup_range (List.mem_range.mpr hj) (fun _ _ _ _ _ => trivial)
    (fun _ _ _ hne hm => (plcrep_takeRep_ne hne).trans hm) trivial

theorem foldl_takeRep_takesReps {first : Nat} {ws : List Word} {js : List Nat} :
    l.TakesReps (js.foldl (takeRep first ws) l) :=
  foldl_keeps l.TakesReps (fun _ _ => takeRep_takesReps) js l ⟨fun _ _ => rfl, rfl, rfl, rfl, rfl⟩

end LaneState

/-- A PLCSTATE message at an instance that has run no placement. -/
theorem exec_placePlcstateReceived {s : State} {x : Lane} {first : Nat} {ws : List Word} (ha : (s.lane x).alive = true)
    (hu : (s.lane x).llUp = true) (hc : (s.lane x).rd R.PLC_RUNCNT = 0) :
    exec (.placePlcstateReceived x first ws) s = .next (s.setLane x ((List.range 32).foldl (LaneState.takeRep first ws)
      ((s.lane x).modSieve fun q => { q with peerSeen := true }))) :=
  congrArg (fun m => Host.Outcome.next (s.setLane x m)) (if_neg (by simp [ha, hu, hc]))

/-- MIRROR_FRAME_RECEIVED at a lane that takes it. -/
theorem exec_mirrorFrameReceived {s : State} {x : Lane} {c : Fin 128} {ofs : Nat} {ws : List Word}
    (ha : (s.lane x).alive = true) (hu : (s.lane x).llUp = true) (hw : ws.length ≤ 31) :
    exec (.mirrorFrameReceived x c ofs ws) s = .next (s.modLane x (·.mirrorFrame c.val ofs ws)).syncDone :=
  if_pos ⟨ha, hu, hw⟩

/-- A ramp's output stage in a frame in which the ramp is due. -/
theorem exec_rampOutput_due {s : State} {x : Lane} {c : Fin 128} (ha : (s.lane x).alive = true)
    (hr : (Table.get (fun _ => none) (s.lane x).sieve.ramps c.val).isSome = true) (hd : c.val ∈ (s.lane x).sieve.rampDue) :
    ∃ ps ts, exec (.rampOutput x c) s = .next (s.setLane x (((s.lane x).rampDone c.val).launchOuts ps ts false)) := by
  obtain ⟨ws, hws⟩ := Option.isSome_iff_exists.mp hr
  have hdue : ¬((!(s.lane x).alive) = true ∨ (!(s.lane x).sieve.rampDue.contains c.val) = true) := by simp [ha, hd]
  show ∃ ps ts, execRampOutput x c s = _
  simp only [execRampOutput, onLane, State.modLane, hws, if_neg hdue]
  exact ⟨_, _, rfl⟩

/-- Settles O38: a snapshot begins and grows in the buffer that is not current, the survivor's placement comes context by
context, and the end of a synchronisation leaves both. -/
theorem placementMirroring : Obligations.PlacementMirroring := by
  unfold Obligations.PlacementMirroring
  intro s x c fn m ws j b ha hu
  refine ⟨fun hb => ?snap, fun hb hm hw hn => ?grows, fun hb hm hw hn => ?complete, fun hc hj => ?plcstate, ?synced,
    fun hr hd => ?ramp⟩
  case snap =>
    refine yieldsLane_of_onLane rfl (if_neg (by simp [ha, hu, hb])) ?_
    dsimp only
    split
    all_goals
      simp only [LaneState.sieve_modSieve, LaneState.sieve_count, LaneState.mem_modSieve, LaneState.mem_count, and_true]
      exact Table.get_set_same _ _ _ _
  case grows =>
    obtain ⟨⟨v, hsieve⟩, -, -⟩ := State.lane_syncDone (s := s.modLane x (·.mirrorFrame c.val m.bytes ws)) (x := x)
    rw [State.lane_modLane_same, LaneState.mirrorFrame_partial hb hm hn, LaneState.sieve_modSieve,
      LaneState.sieve_mirrorStored] at hsieve
    refine ⟨_, exec_mirrorFrameReceived ha hu hw, ?_, ?_, State.bed_syncDone.trans (State.bed_modLane _ _ _)⟩
    · simp [hsieve]
    · rw [hsieve]
  case complete =>
    obtain ⟨⟨v, hsieve⟩, -, hrd⟩ := State.lane_syncDone (s := s.modLane x (·.mirrorFrame c.val m.bytes ws)) (x := x)
    rw [State.lane_modLane_same, LaneState.mirrorFrame_last hb hm hn] at hsieve hrd
    rw [LaneState.sieve_wr, LaneState.sieve_modSieve, LaneState.sieve_mirrorStored] at hsieve
    refine ⟨_, exec_mirrorFrameReceived ha hu hw, ?_, ?_, ?_, State.bed_syncDone.trans (State.bed_modLane _ _ _)⟩
    · simp [hsieve]
    · simp [hsieve]
    · rw [hrd]
      · exact LaneState.rd_wr_same _ _ _
      all_goals
        simp only [R.PLC_PLCMIR, R.PLC_STAT, R.irqStat, P.PLC]
        omega
  case plcstate =>
    have htaken := LaneState.foldl_takeRep_takesReps (first := b) (ws := ws) (js := List.range 32)
      (l := (s.lane x).modSieve fun q => { q with peerSeen := true })
    exact ⟨_, exec_placePlcstateReceived ha hu hc, LaneState.plcrep_foldl_takeRep j.isLt hj, htaken.regs, htaken.seen,
      htaken.run, htaken.trigs, htaken.mem⟩
  case synced =>
    obtain ⟨⟨v, hsieve⟩, hmem, -⟩ := State.lane_syncDone
      (s := s.modLane x (·.modSieve fun v => { v with syncSend := v.syncSend.filter (· ≠ c.val) })) (x := x)
    rw [State.lane_modLane_same] at hsieve hmem
    refine ⟨_, if_pos ⟨ha, hu⟩, ?_, hmem, State.bed_syncDone.trans (State.bed_modLane _ _ _)⟩
    rw [hsieve]
    rfl
  case ramp =>
    obtain ⟨ps, ts, hexec⟩ := exec_rampOutput_due ha hr hd
    obtain ⟨hsieve, hmem⟩ := LaneState.launchOuts_sameSieveMem (ps := ps) (ws := ts) (d := false)
      (l := (s.lane x).rampDone c.val)
    exact ⟨_, hexec, (congrArg SieveState.rampDue hsieve :), (congrArg SieveState.ramps hsieve :), hmem⟩
end Sys2Proof.Machine
end

section
/-! SUPPORT. BREAK, and what evaluates a domain before and after a request (R217 to R222). -/
namespace Sys2Proof.Machine
open Sys2Proof

/-! ### The registers of a domain -/

section
variable {d e : Nat}

/-- The four registers of the domains alternate. -/
theorem leaseReg_ne : R.BLEASE_LSTAT d ≠ R.BLEASE_LCNT e ∧ R.BLEASE_LSTAT d ≠ R.BLEASE_LLAST e ∧
    R.BLEASE_LCFG d ≠ R.BLEASE_LSTAT e ∧ R.BLEASE_LCFG d ≠ R.BLEASE_LCNT e ∧ R.BLEASE_LCFG d ≠ R.BLEASE_LLAST e ∧
    R.BLEASE_LCNT d ≠ R.BLEASE_LLAST e := by
  simp only [R.BLEASE_LSTAT, R.BLEASE_LCNT, R.BLEASE_LLAST, R.BLEASE_LCFG]
  omega

/-- A register that is none of those that a domain's entry into BREAK writes. -/
def offBreak (e a : Nat) : Prop := a ≠ R.BLEASE_LSTAT e ∧ a ≠ R.BLEASE_LCNT e ∧ a ≠ R.BLEASE_LLAST e

/-- The registers of the eight domains lie below those of the votes. -/
theorem leaseReg_lt (hd : d < 8) : R.BLEASE_LSTAT d < R.BLEASE_RSEQ_A ∧ R.BLEASE_LCFG d < R.BLEASE_RSEQ_A ∧
    R.BLEASE_LCNT d < R.BLEASE_RSEQ_A ∧ R.BLEASE_LLAST d < R.BLEASE_RSEQ_A := by
  simp only [R.BLEASE_LSTAT, R.BLEASE_LCFG, R.BLEASE_LCNT, R.BLEASE_LLAST, R.BLEASE_RSEQ_A]
  omega

theorem ne_voteReg {a : Nat} {x : Lane} (h : a < R.BLEASE_RSEQ_A) : a ≠ (F.rseq x).addr ∧ a ≠ (F.neg x).addr := by
  have hle : R.BLEASE_RSEQ_A ≤ (F.rseq x).addr ∧ R.BLEASE_RSEQ_A ≤ (F.neg x).addr := by
    cases x <;> decide
  omega

theorem offBreak_rseq {x : Lane} (he : e < 8) : offBreak e (F.rseq x).addr := by
  obtain ⟨hstat, -, hcnt, hlast⟩ := leaseReg_lt he
  exact ⟨(ne_voteReg hstat).1.symm, (ne_voteReg hcnt).1.symm, (ne_voteReg hlast).1.symm⟩

theorem offBreak_device {a : Nat} (ha : a < P.BLEASE) : offBreak e a := by
  simp only [offBreak, P.BLEASE, R.BLEASE_LSTAT, R.BLEASE_LCNT, R.BLEASE_LLAST] at *
  omega

theorem offBreak_lstat (h : d ≠ e) : offBreak e (R.BLEASE_LSTAT d) := by
  obtain ⟨hcnt, hlast, -⟩ := leaseReg_ne (d := d) (e := e)
  exact ⟨lstat_ne_lstat h, hcnt, hlast⟩

/-- A lane's readiness lies beside the domain's state and holder. -/
theorem rdy_bits {x : Lane} : 4 ≤ (F.rdy x d).lo ∧ (F.rdy x d).lo + (F.rdy x d).width ≤ 32 ∧ (F.rdy x d).width = 1 := by
  cases x
  · exact ⟨(by decide : 4 ≤ 4), (by decide : 4 + 1 ≤ 32), rfl⟩
  · exact ⟨(by decide : 4 ≤ 5), (by decide : 5 + 1 ≤ 32), rfl⟩

/-- The two lanes' readiness are different bits. -/
theorem rdy_apart {x : Lane} : (F.rdy x.peer d).lo + (F.rdy x.peer d).width ≤ (F.rdy x d).lo ∨
    (F.rdy x d).lo + (F.rdy x d).width ≤ (F.rdy x.peer d).lo := by
  cases x
  · exact .inr (by decide : 4 + 1 ≤ 5)
  · exact .inl (by decide : 4 + 1 ≤ 5)

end

/-- A mask of one domain names that domain. -/
theorem domsOf_two_pow (d : Fin 8) : domsOf (2 ^ d.val) = [d.val] := by
  revert d
  decide

/-- A domain's registers once it enters BREAK from lane `x` with cause `c` (R221, R224). -/
def RegFile.broken (rf : RegFile) (d c : Nat) (x : Lane) : RegFile :=
  (((((rf.put (F.BLEASE_LSTAT_STATE d) Dom.brk).put (F.BLEASE_LSTAT_HOLDER d) 0).bump
    (F.BLEASE_LCNT_HANDOVER d) 1).put (F.BLEASE_LLAST_CAUSE d) c).put (F.BLEASE_LLAST_FROM d) x.num).put
    (F.rdy x d) (bit false)

namespace RegFile
variable {rf : RegFile} {d c a : Nat} {x : Lane} {f : Fld}

theorem rd_broken (h : offBreak d a) : (rf.broken d c x).rd a = rf.rd a := by
  obtain ⟨hstat, hcnt, hlast⟩ := h
  unfold broken
  rw [rd_put_ne _ _ _ (State.addr_rdy ▸ hstat), rd_put_ne _ _ _ hlast, rd_put_ne _ _ _ hlast]
  exact (rd_put_ne _ _ _ hcnt).trans ((rd_put_ne _ _ _ hstat).trans (rd_put_ne _ _ _ hstat))

/-- Fields of LSTAT: state and holder, and beside them the readiness. -/
theorem get_broken_lstat (hf : f.addr = R.BLEASE_LSTAT d)
    (hx : f.lo + f.width ≤ (F.rdy x d).lo ∨ (F.rdy x d).lo + (F.rdy x d).width ≤ f.lo) :
    (rf.broken d c x).get f =
      ((rf.put (F.BLEASE_LSTAT_STATE d) Dom.brk).put (F.BLEASE_LSTAT_HOLDER d) 0).get f := by
  obtain ⟨-, hw, -⟩ := rdy_bits (d := d) (x := x)
  obtain ⟨hcnt, hlast, -⟩ := leaseReg_ne (d := d) (e := d)
  unfold broken
  rw [get_put_disjoint _ _ _ _ hw hx, get_put_ne _ _ _ _ (hf ▸ hlast), get_put_ne _ _ _ _ (hf ▸ hlast)]
  exact get_put_ne _ _ _ _ (hf ▸ hcnt)

theorem get_broken_record (hc : c < 8) : (rf.broken d c x).get (F.BLEASE_LSTAT_STATE d) = Dom.brk ∧
    (rf.broken d c x).get (F.BLEASE_LLAST_CAUSE d) = c ∧ (rf.broken d c x).get (F.BLEASE_LLAST_FROM d) = x.num ∧
    (rf.broken d c x).get (F.BLEASE_LCNT_HANDOVER d) = min (rf.get (F.BLEASE_LCNT_HANDOVER d) + 1) 0xFFFF := by
  obtain ⟨hlo, -, -⟩ := rdy_bits (d := d) (x := x)
  obtain ⟨hcnt, hlast, -, -, -, hcl⟩ := leaseReg_ne (d := d) (e := d)
  refine ⟨?_, ?_, ?_, ?_⟩
  · rw [get_broken_lstat rfl (.inl (Nat.le_trans (by decide : 0 + 3 ≤ 4) hlo)),
      get_put_disjoint _ (F.BLEASE_LSTAT_HOLDER d) (F.BLEASE_LSTAT_STATE d) _ (by decide : 3 + 1 ≤ 32)
        (.inl (by decide : 0 + 3 ≤ 3))]
    exact get_put_same _ _ _ (by decide : 0 + 3 ≤ 32)
  · unfold broken
    rw [get_put_ne _ _ _ _ (State.addr_rdy ▸ hlast.symm),
      get_put_disjoint _ (F.BLEASE_LLAST_FROM d) (F.BLEASE_LLAST_CAUSE d) _ (by decide : 4 + 1 ≤ 32)
        (.inl (by decide : 0 + 3 ≤ 4)), get_put_same _ _ _ (by decide : 0 + 3 ≤ 32)]
    exact Nat.mod_eq_of_lt hc
  · unfold broken
    rw [get_put_ne _ _ _ _ (State.addr_rdy ▸ hlast.symm), get_put_same _ _ _ (by decide : 4 + 1 ≤ 32)]
    cases x
    exacts [rfl, rfl]
  · unfold broken
    rw [get_put_ne _ _ _ _ (State.addr_rdy ▸ hcnt.symm), get_put_ne _ _ _ _ hcl, get_put_ne _ _ _ _ hcl]
    refine (BedState.get_bump_same { BedState.reset with regs := _ } (F.BLEASE_LCNT_HANDOVER d) 1
      (by decide : 0 + 16 ≤ 32)).trans ?_
    exact congrArg (fun v => min (v + 1) 0xFFFF) ((get_put_ne _ _ _ _ hcnt.symm).trans (get_put_ne _ _ _ _ hcnt.symm))

/-- The lane that held the domain is no longer ready for it; the other one is as it was. -/
theorem get_broken_rdy : (rf.broken d c x).get (F.rdy x d) = 0 ∧
    (rf.broken d c x).get (F.rdy x.peer d) = rf.get (F.rdy x.peer d) := by
  obtain ⟨-, hw, -⟩ := rdy_bits (d := d) (x := x)
  obtain ⟨hlo, -, -⟩ := rdy_bits (d := d) (x := x.peer)
  refine ⟨(get_put_same _ _ _ hw).trans (Nat.zero_mod _), ?_⟩
  rw [get_broken_lstat State.addr_rdy rdy_apart,
    get_put_disjoint _ (F.BLEASE_LSTAT_HOLDER d) _ _ (by decide : 3 + 1 ≤ 32) (.inr hlo)]
  exact get_put_disjoint _ (F.BLEASE_LSTAT_STATE d) _ _ (by decide : 0 + 3 ≤ 32)
    (.inr (Nat.le_trans (by decide : 0 + 3 ≤ 4) hlo))

end RegFile

namespace State
variable {s t u : State} {x y : Lane} {d e c a v : Nat} {r : Request}

theorem holderOf_of_rd (h : t.bed.rd (R.BLEASE_LSTAT d) = s.bed.rd (R.BLEASE_LSTAT d)) : t.holderOf d = s.holderOf d := by
  obtain ⟨hst, hho, -⟩ := domain_of_rd h
  simp only [holderOf, hst, hho]

theorem holderOf_held (h : s.domState d = Dom.held) : s.holderOf d = some (s.holder d) := if_pos (.inl h)

theorem holderOf_none (h : s.domState d ≠ Dom.held) (h' : s.domState d ≠ Dom.make) : s.holderOf d = none :=
  if_neg fun k => k.elim h h'

/-! ### Readiness (R218) -/

theorem rd_setReady {b : Bool} (h : a ≠ R.BLEASE_LSTAT d) : (s.setReady x d b).bed.rd a = s.bed.rd a :=
  BedState.rd_put_ne _ _ _ (addr_rdy ▸ h)

theorem domState_setReady {b : Bool} : (s.setReady x d b).domState e = s.domState e := by
  obtain ⟨hlo, hw, -⟩ := rdy_bits (d := d) (x := x)
  exact BedState.get_put_disjoint _ _ (F.BLEASE_LSTAT_STATE e) _ hw (.inl (Nat.le_trans (by decide : 0 + 3 ≤ 4) hlo))

theorem holder_setReady {b : Bool} : (s.setReady x d b).holder e = s.holder e := by
  obtain ⟨hlo, hw, -⟩ := rdy_bits (d := d) (x := x)
  exact congrArg laneOf (BedState.get_put_disjoint _ _ (F.BLEASE_LSTAT_HOLDER e) _ hw (.inl hlo))

theorem ready_setReady_same {b : Bool} : (s.setReady x d b).ready x d = b := by
  obtain ⟨-, hw, h1⟩ := rdy_bits (d := d) (x := x)
  have hg : (s.setReady x d b).bed.get (F.rdy x d) = bit b % 2 ^ (F.rdy x d).width := BedState.get_put_same _ _ _ hw
  rw [ready, hg, h1]
  cases b <;> rfl

theorem ready_setReady_peer {b : Bool} : (s.setReady x d b).ready x.peer d = s.ready x.peer d := by
  obtain ⟨-, hw, -⟩ := rdy_bits (d := d) (x := x)
  have hg : (s.setReady x d b).bed.get (F.rdy x.peer d) = s.bed.get (F.rdy x.peer d) :=
    BedState.get_put_disjoint _ _ _ _ hw rdy_apart
  rw [ready, hg, ready]

/-- Self-diagnosis reads the lane, the domain's bridges and the votes. -/
theorem selfDiag_bput {f : Fld} (h : R.BLEASE_LCFG d ≠ f.addr) : (s.bput f v).selfDiag x d = s.selfDiag x d := by
  have hb : (s.bput f v).domBridges d = s.domBridges d := by
    unfold domBridges
    rw [bget_of_rd (f := F.BLEASE_LCFG_BRIDGES d) (BedState.rd_put_ne _ f _ h : (s.bput f v).bed.rd _ = _)]
  unfold selfDiag
  rw [hb, lane_bput]
  rfl

/-! ### A word of the selection (R226) -/

theorem leaseAt_sendSelect : s.sendSelect.bed.leaseAt = s.bed.leaseAt := by
  unfold sendSelect
  dsimp only
  split
  · rfl
  · rfl

/-- Something is sent while a half is active. -/
theorem selOut_sendSelect (h : s.halfMask ≠ 0) : s.sendSelect.bed.selOut.isSome = true := by
  unfold sendSelect
  dsimp only
  rw [if_neg h]
  rfl

theorem halfMask_of_rd (h : t.bed.rd R.BSYS_DEVSTAT = s.bed.rd R.BSYS_DEVSTAT) : t.halfMask = s.halfMask := by
  unfold halfMask
  rw [bget_of_rd (f := F.BSYS_DEVSTAT_H0OK) h, bget_of_rd (f := F.BSYS_DEVSTAT_H1OK) h]

theorem halfMask_ne_zero (h : s.bedrockRuns = true) : s.halfMask ≠ 0 := by
  unfold bedrockRuns at h
  simp only [Bool.and_eq_true, decide_eq_true_eq] at h
  exact h.2

/-! ### BREAK (R221, R224) -/

theorem regs_bput {f : Fld} : (s.bput f v).bed.regs = s.bed.regs.put f v := rfl

theorem regs_bbump {f : Fld} : (s.bbump f v).bed.regs = s.bed.regs.bump f v := rfl

theorem regs_setReady {b : Bool} : (s.setReady x d b).bed.regs = s.bed.regs.put (F.rdy x d) (bit b) := rfl

theorem regs_setHand {b : Bool} : (s.setHand d b).bed.regs = s.bed.regs := rfl

theorem regs_enterBreak : (s.enterBreak d c).bed.regs = s.bed.regs.broken d c (s.holder d) := by
  unfold enterBreak RegFile.broken
  rw [regs_reselect, bed_leaseTrigger, regs_setReady, regs_setHand, regs_bput, regs_bput, regs_bbump, regs_bput, regs_bput]

theorem brg_enterBreak : (s.enterBreak d c).brg = s.brg := by
  unfold enterBreak reselect leaseTrigger setReady setHand
  simp only [brg_sendSelect, brg_modLanes, brg_modBed, brg_bput, brg_bbump]

theorem leaseAt_enterBreak : (s.enterBreak d c).bed.leaseAt = s.bed.leaseAt := by
  unfold enterBreak reselect
  rw [leaseAt_sendSelect]
  rfl

theorem rd_enterBreak (h : offBreak d a) : (s.enterBreak d c).bed.rd a = s.bed.rd a :=
  (congrArg (RegFile.rd · a) regs_enterBreak).trans (RegFile.rd_broken h)

theorem domState_enterBreak_ne (h : e ≠ d) : (s.enterBreak d c).domState e = s.domState e :=
  (domain_of_rd (rd_enterBreak (offBreak_lstat h))).1

theorem selOut_enterBreak (h : s.bedrockRuns = true) : (s.enterBreak d c).bed.selOut.isSome = true := by
  have hmask : (s.enterBreak d c).halfMask = s.halfMask := halfMask_of_rd (rd_enterBreak (offBreak_device (by decide)))
  exact selOut_sendSelect fun h0 => halfMask_ne_zero h (hmask.symm.trans ((halfMask_of_rd rd_sendSelect).trans h0))

/-- What BREAK records of a domain: its state, the cause and the lane that held it, whose readiness ends while the peer's
stays, and the count of the handovers. -/
theorem enterBreak_record (hx : s.holder d = x) (hc : c < 8) : (s.enterBreak d c).domState d = Dom.brk ∧
    (s.enterBreak d c).bed.get (F.BLEASE_LLAST_CAUSE d) = c ∧
    (s.enterBreak d c).bed.get (F.BLEASE_LLAST_FROM d) = x.num ∧
    (s.enterBreak d c).bed.get (F.BLEASE_LCNT_HANDOVER d) = min (s.bed.get (F.BLEASE_LCNT_HANDOVER d) + 1) 0xFFFF ∧
    (s.enterBreak d c).ready x d = false ∧ (s.enterBreak d c).ready x.peer d = s.ready x.peer d := by
  have hget : ∀ f, (s.enterBreak d c).bed.get f = (s.bed.regs.broken d c x).get f := fun f =>
    hx ▸ congrArg (RegFile.get · f) regs_enterBreak
  obtain ⟨hst, hcause, hfrom, hcnt⟩ := RegFile.get_broken_record (rf := s.bed.regs) (d := d) (x := x) hc
  obtain ⟨hown, hpeer⟩ := RegFile.get_broken_rdy (rf := s.bed.regs) (d := d) (c := c) (x := x)
  refine ⟨(hget _).trans hst, (hget _).trans hcause, (hget _).trans hfrom, (hget _).trans hcnt,
    notReady_of_get ((hget _).trans hown), ?_⟩
  rw [ready, (hget _).trans hpeer]
  rfl

/-! ### What is evaluated over every domain (R221, R222) -/

/-- What each BREAK by self-diagnosis keeps, the evaluation of every domain keeps. -/
theorem diagAll_keeps {P : State → Prop}
    (hP : ∀ t e, e < 8 → t.domState e = Dom.held → P t → P (t.enterBreak e 3)) (hs : P s) : P s.diagAll :=
  List.foldlRecOn _ _ hs fun t ht e he => by
    unfold diagCheck
    split
    · next h => exact hP t e (List.mem_range.mp he) h.1 ht
    · exact ht

theorem diagAll_noneHeld (h : ∀ k, k < 8 → s.domState k ≠ Dom.held) : s.diagAll = s :=
  diagAll_keeps (P := fun t => t = s) (fun _ e he hh ht => absurd (ht ▸ hh) (h e he)) rfl

/-- A register of the device outlives the evaluation. -/
theorem rd_diagAll (h : ∀ e, e < 8 → offBreak e a) : s.diagAll.bed.rd a = s.bed.rd a :=
  diagAll_keeps (P := fun t => t.bed.rd a = s.bed.rd a) (fun _ e he _ ht => (rd_enterBreak (h e he)).trans ht) rfl

theorem leaseAt_diagAll : s.diagAll.bed.leaseAt = s.bed.leaseAt :=
  diagAll_keeps (P := fun t => t.bed.leaseAt = s.bed.leaseAt) (fun _ _ _ _ ht => leaseAt_enterBreak.trans ht) rfl

/-- A domain that is not held stays as it is. -/
theorem rd_diagAll_lstat (hd : s.domState d ≠ Dom.held) : s.diagAll.bed.rd (R.BLEASE_LSTAT d) = s.bed.rd (R.BLEASE_LSTAT d) :=
  diagAll_keeps (P := fun t => t.bed.rd (R.BLEASE_LSTAT d) = s.bed.rd (R.BLEASE_LSTAT d)) (fun t e _ hh ht => by
    have hne : d ≠ e := fun h => hd ((domain_of_rd ht).1.symm.trans (h ▸ hh))
    exact (rd_enterBreak (offBreak_lstat hne)).trans ht) rfl

/-- With its only held domain in BREAK Bedrock holds none. -/
theorem noneHeld_enterBreak (hc : c < 8) (hk : ∀ k, k < 8 → k ≠ d → s.domState k ≠ Dom.held) :
    ∀ k, k < 8 → (s.enterBreak d c).domState k ≠ Dom.held := fun k hk8 h => by
  by_cases he : k = d
  · subst he
    obtain ⟨hbrk, -⟩ := enterBreak_record (s := s) (d := k) rfl hc
    exact absurd (hbrk.symm.trans h) (by decide)
  · exact hk k hk8 he ((domState_enterBreak_ne he).symm.trans h)

/-- The only lease that has run out ends, and nothing else is held (R222). -/
theorem settle_expired (hd : d < 8) (hh : s.domState d = Dom.held) (hl : s.leaseLeft d = 0)
    (hk : ∀ k, k < 8 → k ≠ d → s.domState k ≠ Dom.held) : s.settle = s.enterBreak d 1 := by
  have hnone := noneHeld_enterBreak (c := 1) (by decide) hk
  have hexp : (List.range 8).foldl expiryCheck s = s.enterBreak d 1 := by
    refine foldl_once (β := State) (I := fun t => t = s) (P := fun t => t = s.enterBreak d 1) ?_ List.nodup_range
      (List.mem_range.mpr hd) ?_ ?_ rfl
    · rintro t rfl
      exact if_pos ⟨hh, hl⟩
    · rintro t k hk8 hne rfl
      exact if_neg fun h => hk k (List.mem_range.mp hk8) hne h.1
    · rintro t k hk8 - rfl
      exact if_neg fun h => hnone k (List.mem_range.mp hk8) h.1
  unfold settle
  rw [hexp]
  exact diagAll_noneHeld hnone

end State
end Sys2Proof.Machine
end

section
/-! SUPPORT and SETTLED. RENEW, STANDBY, RELEASE and the ends of a lease (O24). -/
namespace Sys2Proof.Machine
open Sys2Proof

namespace State
variable {s t u : State} {x : Lane} {d k a : Nat} {r : Request}

/-! ### A request served after what was due before it (R222) -/

theorem serve_eq {op : Nat} {f : State → Request → State × Nat} (hb : s.bedrockRuns = true) (hr : s.request x = some r)
    (hw : s.mustWait x r = false) (hop : r.op = op) (hs : s.settle = u) :
    s.serve x op f = (f u r).1.postResult x (f u r).2 := by
  have hn : ¬(r.op ≠ op ∨ (!s.bedrockRuns) = true ∨ s.mustWait x r = true) := by simp [hop, hb, hw]
  unfold serve
  rw [hr]
  dsimp only
  rw [if_neg hn, hs]

theorem leaseAt_postResult : (s.postResult x k).bed.leaseAt = s.bed.leaseAt := by cases x <;> rfl

theorem domState_postResult : (s.postResult x k).domState d = s.domState d := (domain_of_rd rd_postResult).1

/-! ### The health vote (R217) -/

/-- A positive vote is followed by RSEQ and nothing else. -/
theorem vote_positive (h0 : r.d0 = 0x936C6C93) (h1 : r.d1.toNat = (s.bed.get (F.rseq x) + 1) % 2 ^ 32)
    (hup : s.laneStatus x = Stat.up) (hcap : s.capable x = true) (hnet : s.bed.get F.BSYS_BCFG_NETVOTE = 0) :
    s.vote x r = (s.bput (F.rseq x) r.d1.toNat, true) := by
  unfold vote
  simp [h0, h1, hup, hcap, hnet]

theorem rseq_bits : (F.rseq x).width = 32 ∧ (F.rseq x).lo + (F.rseq x).width ≤ 32 := by
  cases x
  · exact ⟨rfl, by decide⟩
  · exact ⟨rfl, by decide⟩

theorem get_rseq_bput {v : Word} : (s.bput (F.rseq x) v.toNat).bed.get (F.rseq x) = v.toNat := by
  obtain ⟨hw, hle⟩ := rseq_bits (x := x)
  refine (BedState.get_put_same _ _ _ hle).trans ?_
  rw [hw]
  exact Nat.mod_eq_of_lt v.isLt

theorem rd_bput {f : Fld} {v : Nat} (h : a ≠ f.addr) : (s.bput f v).bed.rd a = s.bed.rd a := BedState.rd_put_ne _ _ _ h

/-- Whatever the vote, it writes RSEQ and the count of negative votes only. -/
theorem rd_vote (h : a ≠ (F.rseq x).addr) (h' : a ≠ (F.neg x).addr) : (s.vote x r).1.bed.rd a = s.bed.rd a := by
  unfold vote
  extract_lets next seqOk pos v
  have hv : v.bed.rd a = s.bed.rd a := ite_keeps (Q := fun t => t.bed.rd a = s.bed.rd a) (rd_bput h) rfl
  exact ite_keeps (Q := fun t => t.bed.rd a = s.bed.rd a) hv ((BedState.rd_put_ne v.bed (F.neg x) _ h').trans hv)

/-- A negative vote for one domain ends the lane's readiness for it, and changes nothing else. -/
theorem rd_voteLost {pos : Bool} (h : a ≠ R.BLEASE_LSTAT d) : (s.voteLost x [d] pos).bed.rd a = s.bed.rd a :=
  ite_keeps (Q := fun t => t.bed.rd a = s.bed.rd a) rfl (rd_setReady h)

theorem domState_voteLost {pos : Bool} : (s.voteLost x [d] pos).domState k = s.domState k :=
  ite_keeps (Q := fun t => t.domState k = s.domState k) rfl domState_setReady

/-! ### RENEW (R219) -/

theorem regs_setNeg {v : Bool} : (s.setNeg x d v).bed.regs = s.bed.regs := by cases x <;> rfl

theorem rd_setNeg {v : Bool} : (s.setNeg x d v).bed.rd a = s.bed.rd a := congrArg (RegFile.rd · a) regs_setNeg

/-- What RENEW does to one domain: the vote is noted, and a positive one of the holder restarts the lease. -/
def renewAt (s : State) (x : Lane) (pos : Bool) (d : Nat) : State :=
  if (s.setNeg x d (!pos)).holderOf d = some x ∧ (s.setNeg x d (!pos)).domState d = Dom.held ∧ pos = true then
    (s.setNeg x d (!pos)).modBed fun b => { b with leaseAt := Table.set (fun _ => 0) b.leaseAt d s.nowUs }
  else s.setNeg x d (!pos)

theorem rd_renewAt {pos : Bool} : (s.renewAt x pos d).bed.rd a = s.bed.rd a := by
  unfold renewAt
  split
  · exact rd_setNeg
  · exact rd_setNeg

theorem leaseAt_renewAt (h : s.domState d = Dom.held) (hx : s.holder d = x) :
    Table.get (fun _ => 0) (s.renewAt x true d).bed.leaseAt d = s.nowUs := by
  obtain ⟨hst, -⟩ := domain_of_rd (s := s) (t := s.setNeg x d (!true)) (d := d) rd_setNeg
  have hho : (s.setNeg x d (!true)).holderOf d = some x :=
    (holderOf_of_rd rd_setNeg).trans ((holderOf_held h).trans (congrArg some hx))
  unfold renewAt
  rw [if_pos ⟨hho, hst.trans h, rfl⟩]
  exact Table.get_set_same _ _ _ _

/-- RENEW of one domain, in DRIVE. -/
theorem renew_eq (d : Fin 8) (harg : r.arg = 2 ^ d.val)
    (hu : (s.vote x r).1.voteLost x [d.val] (s.vote x r).2 = u) (hdev : u.devState = Dev.drive) :
    s.renew x r = ((u.renewAt x (s.vote x r).2 d).diagAll,
      if (u.renewAt x (s.vote x r).2 d).holderOf d ≠ some x ∧ (s.vote x r).1.ready x d = false then Res.auth else Res.ok) := by
  have hsafe : ¬u.devState = Dev.safe := fun h => absurd (hdev.symm.trans h) (by decide)
  have hpow : ¬2 ^ d.val = 0 := (Nat.two_pow_pos _).ne'
  have hwas : ([d.val].filter fun e => (s.vote x r).1.ready x e).contains d.val = (s.vote x r).1.ready x d := by
    cases h : (s.vote x r).1.ready x d <;> simp [h]
  unfold renew
  simp only [harg, domsOf_two_pow, hu, if_neg hsafe, if_neg hpow, if_neg (not_not.mpr hdev), List.any_cons, List.any_nil,
    Bool.or_false, hwas, Bool.and_eq_true, decide_eq_true_eq, Bool.not_eq_true']
  rfl

/-! ### STANDBY (R218, R219) -/

/-- STANDBY for one domain in IDLE, which the lane does not diagnose. -/
theorem standby_eq (d : Fin 8) (harg : r.arg = 2 ^ d.val) (hv : s.vote x r = (u, true)) (hdev : u.devState = Dev.idle)
    (hdom : u.domState d = Dom.idle) (hdiag : u.selfDiag x d = false) :
    s.standby x r = ((u.setReady x d true).diagAll, Res.ok) := by
  have hsafe : ¬u.devState = Dev.safe := fun h => absurd (hdev.symm.trans h) (by decide)
  have hpow : ¬2 ^ d.val = 0 := (Nat.two_pow_pos _).ne'
  have hgo : ¬((u.devState ≠ Dev.idle ∧ u.devState ≠ Dev.drive) ∨ (!true) = true) := by simp [hdev]
  have hnone : u.holderOf d = none := holderOf_none (hdom ▸ by decide) (hdom ▸ by decide)
  have hgap : (u.setReady x d true).gapCheck d = u.setReady x d true :=
    if_pos fun h => absurd ((domState_setReady.trans hdom).symm.trans h) (by decide)
  unfold standby
  simp only [harg, domsOf_two_pow, hv, voteLost, if_true, if_neg hsafe, if_neg hpow, if_neg hgo, List.foldl_cons,
    List.foldl_nil, List.any_cons, List.any_nil, hdiag, hnone, hgap]
  rfl

/-! ### RELEASE (R219) -/

/-- RELEASE of one domain that the lane holds, while the peer is ready. -/
theorem release_eq (d : Fin 8) (harg : r.arg = 2 ^ d.val) (hdev : s.devState = Dev.drive) (hh : s.domState d = Dom.held)
    (hx : s.holder d = x) (hready : s.ready x.peer d = true) : s.release x r = (s.enterBreak d 2, Res.ok) := by
  have hsafe : ¬s.devState = Dev.safe := fun h => absurd (hdev.symm.trans h) (by decide)
  have hpow : ¬2 ^ d.val = 0 := (Nat.two_pow_pos _).ne'
  unfold release
  simp only [harg, domsOf_two_pow, if_neg hsafe, if_neg hpow, if_neg (not_not.mpr hdev), List.foldl_cons,
    List.foldl_nil, List.any_cons, List.any_nil, hh, hx, hready]
  rfl

/-- A positive RENEW of a domain that the lane holds restarts its lease (R217, R219). -/
theorem renew_positive (d : Fin 8) (harg : r.arg = 2 ^ d.val) (hdev : s.devState = Dev.drive)
    (hh : s.domState d = Dom.held) (hx : s.holder d = x) (hv : s.vote x r = (s.bput (F.rseq x) r.d1.toNat, true)) :
    ∃ t, s.renew x r = (t, Res.ok) ∧ Table.get (fun _ => 0) t.bed.leaseAt d.val = s.nowUs ∧
      t.bed.get (F.rseq x) = r.d1.toNat ∧ t.devState = Dev.drive := by
  set u := s.bput (F.rseq x) r.d1.toNat with hu
  obtain ⟨hlt, -⟩ := leaseReg_lt d.isLt
  have hdev' : u.bed.rd R.BSYS_DEVSTAT = s.bed.rd R.BSYS_DEVSTAT := rd_bput (ne_voteReg (by decide)).1
  obtain ⟨hst, hho, -⟩ := domain_of_rd (s := s) (t := u) (d := d) (rd_bput (ne_voteReg hlt).1)
  have heq := renew_eq (s := s) (x := x) (r := r) (u := u) d harg (by rw [hv]; rfl)
    ((bget_of_rd (f := F.BSYS_DEVSTAT_DEVSTATE) hdev').trans hdev)
  rw [hv] at heq
  have hown : (u.renewAt x true d).holderOf d = some x :=
    (holderOf_of_rd rd_renewAt).trans ((holderOf_held (hst.trans hh)).trans (congrArg some (hho.trans hx)))
  have hrd : ∀ a, (∀ e, e < 8 → offBreak e a) → (u.renewAt x true d).diagAll.bed.rd a = u.bed.rd a := fun a h =>
    (rd_diagAll h).trans rd_renewAt
  refine ⟨_, heq.trans (congrArg (Prod.mk _) (if_neg fun h => h.1 hown)), ?_, ?_, ?_⟩
  · rw [leaseAt_diagAll, leaseAt_renewAt (hst.trans hh) (hho.trans hx)]
    rfl
  · exact (bget_of_rd (hrd _ fun _ => offBreak_rseq)).trans get_rseq_bput
  · exact (bget_of_rd (f := F.BSYS_DEVSTAT_DEVSTATE) ((hrd _ fun _ _ => offBreak_device (by decide)).trans hdev')).trans hdev

/-- RENEW of a domain that Bedrock has just put in BREAK, nothing being held, is refused (R219, R222). -/
theorem renew_refused (d : Fin 8) (harg : r.arg = 2 ^ d.val) (hdev : s.devState = Dev.drive)
    (hbrk : s.domState d = Dom.brk) (hready : s.ready x d = false) (hnone : ∀ k, k < 8 → s.domState k ≠ Dom.held) :
    ∃ t, s.renew x r = (t, Res.auth) ∧ t.domState d = Dom.brk ∧
      t.bed.get (F.BLEASE_LLAST_CAUSE d) = s.bed.get (F.BLEASE_LLAST_CAUSE d) := by
  set u := (s.vote x r).1.voteLost x [d.val] (s.vote x r).2 with hu
  obtain ⟨hlt, -, -, hlt'⟩ := leaseReg_lt d.isLt
  have hvote : ∀ a, a < R.BLEASE_RSEQ_A → (s.vote x r).1.bed.rd a = s.bed.rd a := fun a h =>
    rd_vote (ne_voteReg h).1 (ne_voteReg h).2
  have hst : ∀ k, k < 8 → u.domState k = s.domState k := fun k hk =>
    domState_voteLost.trans (domain_of_rd (hvote _ (leaseReg_lt hk).1)).1
  have hdev' : u.devState = Dev.drive :=
    (bget_of_rd (f := F.BSYS_DEVSTAT_DEVSTATE) ((rd_voteLost (domainReg_ne (e := 0) d.isLt (.inl rfl)).1.symm).trans
      (hvote _ (by decide)))).trans hdev
  obtain ⟨-, hne, -⟩ := leaseReg_ne (d := d) (e := d)
  have hlast : u.bed.rd (R.BLEASE_LLAST d) = s.bed.rd (R.BLEASE_LLAST d) := (rd_voteLost hne.symm).trans (hvote _ hlt')
  have heq := renew_eq (s := s) (x := x) (r := r) (u := u) d harg rfl hdev'
  have hnone' : (u.renewAt x (s.vote x r).2 d).diagAll = u.renewAt x (s.vote x r).2 d :=
    diagAll_noneHeld fun k hk h => hnone k hk ((hst k hk).symm.trans ((domain_of_rd rd_renewAt).1.symm.trans h))
  have hbrk' : u.domState d = Dom.brk := (hst d d.isLt).trans hbrk
  have hown : (u.renewAt x (s.vote x r).2 d).holderOf d = none :=
    (holderOf_of_rd rd_renewAt).trans (holderOf_none (hbrk' ▸ by decide) (hbrk' ▸ by decide))
  have hready' : (s.vote x r).1.ready x d = false := ((domain_of_rd (hvote _ hlt)).2.2 x).trans hready
  rw [hnone', if_pos ⟨by simp [hown], hready'⟩] at heq
  exact ⟨_, heq, (domain_of_rd rd_renewAt).1.trans hbrk', bget_of_rd (f := F.BLEASE_LLAST_CAUSE d) (rd_renewAt.trans hlast)⟩

/-- A positive STANDBY in IDLE makes the lane ready for the domain (R218, R219). -/
theorem standby_positive (d : Fin 8) (harg : r.arg = 2 ^ d.val) (hdev : s.devState = Dev.idle)
    (hdom : s.domState d = Dom.idle) (hdiag : s.selfDiag x d = false)
    (hv : s.vote x r = (s.bput (F.rseq x) r.d1.toNat, true)) :
    ∃ t, s.standby x r = (t, Res.ok) ∧ t.ready x d = true ∧ t.domState d = Dom.idle ∧ t.bed.get (F.rseq x) = r.d1.toNat := by
  set u := s.bput (F.rseq x) r.d1.toNat with hu
  obtain ⟨hstat, hcfg, -⟩ := leaseReg_lt d.isLt
  have hdev' : u.bed.rd R.BSYS_DEVSTAT = s.bed.rd R.BSYS_DEVSTAT := rd_bput (ne_voteReg (by decide)).1
  have hst : u.domState d = Dom.idle := (domain_of_rd (rd_bput (ne_voteReg hstat).1)).1.trans hdom
  have heq := standby_eq d harg hv ((bget_of_rd (f := F.BSYS_DEVSTAT_DEVSTATE) hdev').trans hdev) hst
    ((selfDiag_bput (ne_voteReg hcfg).1).trans hdiag)
  have hst' : (u.setReady x d true).domState d = Dom.idle := domState_setReady.trans hst
  obtain ⟨kst, -, krdy⟩ := domain_of_rd (rd_diagAll_lstat (s := u.setReady x d true) (d := d) (hst' ▸ by decide))
  refine ⟨_, heq, (krdy x).trans ready_setReady_same, kst.trans hst', ?_⟩
  exact (bget_of_rd ((rd_diagAll fun _ => offBreak_rseq).trans (rd_setReady (ne_voteReg hstat).1.symm))).trans get_rseq_bput

end State

/-- Settles O24: a request acts on the one domain that it names, and what is evaluated over every domain afterwards breaks
only held ones. -/
theorem leaseAndReadiness : Obligations.LeaseAndReadiness := by
  unfold Obligations.LeaseAndReadiness
  intro s x d r hb
  refine ⟨fun hr hw hs hop harg hdev hho hh h0 h1 hup hcap hnet => ?renew,
    fun hr hw hs hop harg hdev hdom h0 h1 hup hcap hnet hdiag => ?standby,
    fun hr hw hs hop harg hdev hh hx hready => ?release, fun hr hw hop harg hdev hh hx hl hk => ?refused,
    fun hh => ?expiry, ?readyExpiry, fun hdiag hh hx hready => ?selfDiagnosis⟩
  case renew =>
    have hx : s.holder d.val = x := Option.some.inj ((State.holderOf_held hh).symm.trans hho)
    obtain ⟨t, heq, hat, hseq, hdev'⟩ := State.renew_positive d harg hdev hh hx (State.vote_positive h0 h1 hup hcap hnet)
    refine State.yields_serve rfl hb hr hw hs hop heq ?_
    obtain ⟨hres, -, hnone, -⟩ := State.postResult_answers (s := t) (x := x) (k := Res.ok) (by decide)
    exact ⟨(congrArg (Table.get _ · d.val) State.leaseAt_postResult).trans hat,
      State.bget_postResult.trans hseq, hres, hnone, State.bget_postResult.trans hdev'⟩
  case standby =>
    obtain ⟨t, heq, hready, hst, hseq⟩ := State.standby_positive d harg hdev hdom hdiag
      (State.vote_positive h0 h1 hup hcap hnet)
    refine State.yields_serve rfl hb hr hw hs hop heq ?_
    obtain ⟨hres, -, hnone, -⟩ := State.postResult_answers (s := t) (x := x) (k := Res.ok) (by decide)
    obtain ⟨kst, -, krdy⟩ := State.domain_of_rd (s := t) (t := t.postResult x Res.ok) (d := d.val) State.rd_postResult
    exact ⟨(krdy x).trans hready, kst.trans hst, State.bget_postResult.trans hseq, hres, hnone⟩
  case release =>
    refine State.yields_serve rfl hb hr hw hs hop (State.release_eq d harg hdev hh hx hready) ?_
    obtain ⟨hst, hcause, hfrom, hcnt, hown, hpeer⟩ := State.enterBreak_record (c := 2) hx (by decide)
    obtain ⟨kst, -, krdy⟩ := State.domain_of_rd (s := s.enterBreak d.val 2) (t := (s.enterBreak d.val 2).postResult x Res.ok)
      (d := d.val) State.rd_postResult
    exact ⟨kst.trans hst, State.bget_postResult.trans hcause, State.bget_postResult.trans hfrom, (krdy x).trans hown,
      (krdy x.peer).trans (hpeer.trans hready), State.bget_postResult.trans hcnt,
      (State.postResult_answers (k := Res.ok) (by decide)).1⟩
  case refused =>
    obtain ⟨hst, hcause, -, -, hown, -⟩ := State.enterBreak_record (c := 1) hx (by decide)
    have hdev' : (s.enterBreak d.val 1).devState = Dev.drive := (State.bget_of_rd (f := F.BSYS_DEVSTAT_DEVSTATE)
      (State.rd_enterBreak (offBreak_device (by decide)))).trans hdev
    obtain ⟨t, heq, hst', hcause'⟩ := State.renew_refused (r := r) d harg hdev' hst hown
      (State.noneHeld_enterBreak (by decide) hk)
    have hserve : s.serve x 1 (fun s r => s.renew x r) = t.postResult x Res.auth := by
      rw [State.serve_eq hb hr hw hop (State.settle_expired d.isLt hh hl hk), heq]
    obtain ⟨hres, -, hnone, -⟩ := State.postResult_answers (s := t) (x := x) (k := Res.auth) (by decide)
    exact ⟨_, congrArg done hserve, hres, State.domState_postResult.trans hst',
      State.bget_postResult.trans (hcause'.trans hcause), hnone⟩
  case expiry =>
    obtain ⟨hst, hcause, hfrom, -, hown, -⟩ := State.enterBreak_record (s := s) (d := d.val) (c := 1) rfl (by decide)
    exact ⟨_, congrArg done (if_pos ⟨hh, hb⟩), hst, hcause, hfrom, hown, State.selOut_enterBreak hb, State.brg_enterBreak⟩
  case readyExpiry =>
    exact ⟨_, congrArg done (if_pos hb), State.ready_setReady_same, State.domState_setReady, State.ready_setReady_peer,
      fun a h => State.rd_setReady h, rfl, rfl, rfl⟩
  case selfDiagnosis =>
    have hx' : (s.setReady x d.val false).holder d.val = x := State.holder_setReady.trans hx
    have hdiag' : (s.setReady x d.val false).selfDiag x d.val = true :=
      (State.selfDiag_bput (State.addr_rdy ▸ lcfg_ne_lstat)).trans hdiag
    have hcheck : (s.setReady x d.val false).diagCheck d.val = (s.setReady x d.val false).enterBreak d.val 3 := by
      refine if_pos ⟨State.domState_setReady.trans hh, ?_, ?_⟩
      · rw [hx']
        exact hdiag'
      · rw [hx', State.ready_setReady_peer]
        exact hready
    obtain ⟨hst, hcause, hfrom, -, hown, -⟩ := State.enterBreak_record (c := 3) hx' (by decide)
    refine ⟨_, congrArg done (if_pos ⟨hdiag, hb⟩), ?_⟩
    rw [hcheck]
    exact ⟨hst, hcause, hown, hfrom, State.brg_enterBreak⟩
end Sys2Proof.Machine
end

section
/-! SUPPORT. What Bedrock leaves of a lane while it follows a change of its own (R202, R215, R392). -/
namespace Sys2Proof.Machine
open Sys2Proof

/-- The registers of a lane that Bedrock does not write as it follows a change of its own: where the lane sees its links,
the time of its start-up, and its power state but for the end of DOZE. -/
def ownRegs : List Nat := [R.LNK_LSTAT, R.SYS_BOOTTIME, R.PWR_PSTAT]

/-- What stays of a lane: its memory, pairs, power and fences, its view of the links, the time of its start-up and its
consent to PARK. -/
structure LaneState.aside (l m : LaneState) : Prop where
  mem : m.mem = l.mem
  pairs : m.pairs = l.pairs
  power : m.power = l.power
  fences : m.fences = l.fences
  links : m.rd R.LNK_LSTAT = l.rd R.LNK_LSTAT
  time : m.rd R.SYS_BOOTTIME = l.rd R.SYS_BOOTTIME
  consent : m.get F.PWR_PSTAT_CONSENT = l.get F.PWR_PSTAT_CONSENT

namespace LaneState
variable {l m n : LaneState}

theorem aside_refl : aside l l := ⟨rfl, rfl, rfl, rfl, rfl, rfl, rfl⟩

theorem aside_trans (h : aside l m) (h' : aside m n) : aside l n :=
  ⟨h'.mem.trans h.mem, h'.pairs.trans h.pairs, h'.power.trans h.power, h'.fences.trans h.fences, h'.links.trans h.links,
    h'.time.trans h.time, h'.consent.trans h.consent⟩

theorem aside_ite {c : Prop} [Decidable c] (h : aside l m) (h' : aside l n) : aside l (if c then m else n) := by
  split
  exacts [h, h']

/-- Nothing of it is in a lane's other parts. -/
theorem aside_of_eq (h : aside l m) (hm : n.mem = m.mem) (hp : n.pairs = m.pairs) (hw : n.power = m.power)
    (hf : n.fences = m.fences) (hr : n.regs = m.regs) : aside l n :=
  ⟨hm.trans h.mem, hp.trans h.pairs, hw.trans h.power, hf.trans h.fences,
    (congrArg (RegFile.rd · R.LNK_LSTAT) hr).trans h.links, (congrArg (RegFile.rd · R.SYS_BOOTTIME) hr).trans h.time,
    (congrArg (RegFile.get · F.PWR_PSTAT_CONSENT) hr).trans h.consent⟩

theorem aside_wr {a : Nat} {w : Word} (ha : a ∉ ownRegs) (h : aside l m) : aside l (m.wr a w) := by
  simp only [ownRegs, List.mem_cons, List.not_mem_nil, or_false, not_or] at ha
  obtain ⟨hlinks, htime, hpstat⟩ := ha
  exact ⟨h.mem, h.pairs, h.power, h.fences, (rd_wr_ne _ _ (Ne.symm hlinks)).trans h.links,
    (rd_wr_ne _ _ (Ne.symm htime)).trans h.time, (get_wr_ne _ _ _ _ (Ne.symm hpstat)).trans h.consent⟩

theorem aside_put {f : Fld} {v : Nat} (hf : f.addr ∉ ownRegs) (h : aside l m) : aside l (m.put f v) := aside_wr hf h

theorem aside_sendMsg {r : Nat} (h : aside l m) : aside l (m.sendMsg r) := aside_ite h (aside_of_eq h rfl rfl rfl rfl rfl)

theorem aside_irqPulse {b : Nat} {w : Word} (hb : R.irqStat b ∉ ownRegs) (h : aside l m) : aside l (m.irqPulse b w) :=
  aside_ite (aside_wr hb h) (aside_sendMsg (aside_wr hb h))

theorem aside_mergeMsgs {k : Nat} (h : aside l m) : aside l (m.mergeMsgs k) := aside_of_eq h rfl rfl rfl rfl rfl

/-- A wake from DOZE changes STATE, another field of the register. -/
theorem aside_leaveDoze (h : aside l m) : aside l m.leaveDoze := by
  refine aside_ite ⟨h.mem, h.pairs, h.power, h.fences, ?_, ?_, ?_⟩ h
  · exact (rd_put_ne _ F.PWR_PSTAT_STATE _ (by decide)).trans h.links
  · exact (rd_put_ne _ F.PWR_PSTAT_STATE _ (by decide)).trans h.time
  · exact (get_put_disjoint _ F.PWR_PSTAT_STATE _ _ (by decide) (by decide)).trans h.consent

theorem aside_aplicForward {i : Nat} (h : aside l m) : aside l (m.aplicForward i) := by
  have h1 : aside l (m.wr R.APLIC_SETIP (m.rd R.APLIC_SETIP &&& ~~~mbit i)) := aside_wr (by decide) h
  exact aside_ite (aside_ite h1 (aside_of_eq h1 rfl rfl rfl rfl rfl)) h

theorem aside_aplicPend {i : Nat} (h : aside l m) : aside l (m.aplicPend i) :=
  aside_aplicForward (aside_wr (by decide) (aside_leaveDoze h))

theorem aside_aplicLevel {i : Nat} {v : Bool} (h : aside l m) : aside l (m.aplicLevel i v) := by
  unfold aplicLevel
  extract_lets was l1 sm
  have h1 : aside l l1 := aside_of_eq h rfl rfl rfl rfl rfl
  exact aside_ite h1 (aside_ite (aside_aplicPend h1) h1)

theorem aside_aplicPulse {i : Nat} (h : aside l m) : aside l (m.aplicPulse i) := aside_aplicLevel (aside_aplicLevel h)

theorem aside_sendPlace {kind : Nat} {pay : List Word} (h : aside l m) : aside l (m.sendPlace kind pay) :=
  aside_ite h (aside_of_eq h rfl rfl rfl rfl rfl)

theorem aside_arise {k : Nat} {late : Bool} (h : aside l m) : aside l (m.arise k late) := by
  unfold arise
  extract_lets v v1 l1
  have h1 : aside l l1 := aside_ite (aside_put (by decide) (aside_of_eq h rfl rfl rfl rfl rfl))
    (aside_of_eq h rfl rfl rfl rfl rfl)
  exact aside_ite h1 (aside_sendPlace h1)

theorem aside_trigger {k : Nat} (h : aside l m) : aside l (m.trigger k) :=
  aside_ite (aside_arise h) (aside_arise (aside_of_eq h rfl rfl rfl rfl rfl))

theorem aside_mirrorsOf {s : State} (h : aside l m) : aside l (s.mirrorsOf m) := by
  unfold State.mirrorsOf
  extract_lets f m1 m2 same m3 m4
  have hs : R.SYS_SIMIR ∉ ownRegs := by decide
  have h1 : aside l m1 := List.foldlRecOn _ _ h fun _ hb _ _ => aside_put hs (aside_put hs hb)
  have h4 : aside l m4 := aside_put (by decide) (aside_put (by decide) (aside_put (by decide) (aside_put (by decide) h1)))
  exact aside_ite h4 (aside_irqPulse (by decide) h4)

theorem blUp_of_aside (h : aside l m) : m.blUp = l.blUp := by
  have hup : m.get F.LNK_LSTAT_BLUP = l.get F.LNK_LSTAT_BLUP := congrArg (getBits · 1 1) h.links
  unfold blUp fencedBy
  rw [hup, h.fences]

end LaneState

/-! ### The bridge die's receivers -/

/-- The receivers of the two bridge links are those of `b`. -/
def BrgState.sameRx (b c : BrgState) : Prop := c.rxA = b.rxA ∧ c.rxB = b.rxB

namespace BrgState
variable {b c d : BrgState} {n k : Nat}

theorem sameRx_trans (h : sameRx b c) (h' : sameRx c d) : sameRx b d := ⟨h'.1.trans h.1, h'.2.trans h.2⟩

theorem sameRx_ite {p : Prop} [Decidable p] (h : sameRx b c) (h' : sameRx b d) : sameRx b (if p then c else d) := by
  split
  exacts [h, h']

theorem sameRx_countK {code : Nat} (h : sameRx b c) : sameRx b (c.countK n code k) :=
  List.foldlRecOn (motive := sameRx b) _ _ h fun _ h _ _ => sameRx_ite h h

/-- A drive is of its bridge. -/
theorem sameRx_setDrive {start : Bool} {t : Tri (PhaseDrive × Bool)} : sameRx b (b.setDrive n start t) :=
  have hdrop {c : BrgState} {k : Nat} (h : sameRx b c) : sameRx b (c.dropped n k) := sameRx_ite h (sameRx_countK h)
  have hrefuse {c : BrgState} {k : Nat} (h : sameRx b c) : sameRx b (c.refusedGates n k) := sameRx_ite h (sameRx_countK h)
  have huv {c : BrgState} {k : Nat} (h : sameRx b c) : sameRx b (c.uvRefreshed n k) := sameRx_ite h (sameRx_countK h)
  huv (hrefuse (hdrop ⟨rfl, rfl⟩))

end BrgState
end Sys2Proof.Machine
end

section
/-! SUPPORT. What Bedrock leaves as it follows a change of its own: a lane's status, and what no domain, evaluator or output
records (R213 to R240). -/
namespace Sys2Proof.Machine
open Sys2Proof

/-- Field `g` shares no bit with field `f`. -/
@[reducible] def Fld.apart (g f : Fld) : Prop :=
  f.lo + f.width ≤ 32 ∧ (g.addr ≠ f.addr ∨ g.lo + g.width ≤ f.lo ∨ f.lo + f.width ≤ g.lo)

/-- The fields that record the lanes' status, its last loss, the sequence of renewals, and the active halves. -/
def lasting : List Fld :=
  [F.status .A, F.status .B, F.laneCause .A, F.laneCause .B, F.rseq .A, F.rseq .B, F.BSYS_DEVSTAT_H0OK, F.BSYS_DEVSTAT_H1OK]

/-- Those and the lanes' capability. -/
def standing : List Fld := lasting ++ [F.cap .A, F.cap .B]

theorem BedState.get_put_apart {b : BedState} {f g : Fld} {v : Nat} (h : g.apart f) : (b.put f v).get g = b.get g := by
  obtain ⟨hw, hne | hd⟩ := h
  · exact get_put_ne _ _ _ _ hne
  · exact get_put_disjoint _ _ _ _ hw hd

theorem BedState.get_bump_apart {b : BedState} {f g : Fld} {v : Nat} (h : g.apart f) : (b.bump f v).get g = b.get g := by
  obtain ⟨hw, hne | hd⟩ := h
  · exact get_bump_ne _ _ _ _ hne
  · exact get_bump_disjoint _ _ _ _ hw hd

section
variable {f : Fld} {d : Nat} {x : Lane}

theorem apart_above (hw : f.lo + f.width ≤ 32) (h : R.BLEASE_RSEQ_B < f.addr) : ∀ g ∈ standing, g.apart f := fun g hg => by
  have hle : ∀ g ∈ standing, g.addr ≤ R.BLEASE_RSEQ_B := by decide
  have := hle g hg
  exact ⟨hw, .inl (by omega)⟩

theorem apart_between (hw : f.lo + f.width ≤ 32) (h : R.BSYS_LANECAUSE < f.addr) (h' : f.addr < R.BLEASE_RSEQ_A) :
    ∀ g ∈ standing, g.apart f := fun g hg => by
  have hle : ∀ g ∈ standing, g.addr ≤ R.BSYS_LANECAUSE ∨ R.BLEASE_RSEQ_A ≤ g.addr := by decide
  have := hle g hg
  exact ⟨hw, .inl (by omega)⟩

/-- A domain's registers. -/
theorem apart_domain (hd : d < 8) (hw : f.lo + f.width ≤ 32)
    (ha : f.addr = R.BLEASE_LSTAT d ∨ f.addr = R.BLEASE_LCNT d ∨ f.addr = R.BLEASE_LLAST d) : ∀ g ∈ standing, g.apart f := by
  obtain ⟨hstat, -, hcnt, hlast⟩ := leaseReg_lt hd
  refine apart_between hw ?_ ?_
  · simp only [R.BLEASE_LSTAT, R.BLEASE_LCNT, R.BLEASE_LLAST, R.BSYS_LANECAUSE] at ha ⊢
    omega
  · rcases ha with h | h | h
    exacts [h ▸ hstat, h ▸ hcnt, h ▸ hlast]

theorem apart_rdy (hd : d < 8) : ∀ g ∈ standing, g.apart (F.rdy x d) :=
  apart_domain hd rdy_bits.2.1 (.inl State.addr_rdy)

/-- The registers of the safety page. -/
theorem apart_safety (hw : f.lo + f.width ≤ 32) (h : P.BSAFE ≤ f.addr) : ∀ g ∈ standing, g.apart f :=
  apart_above hw (Nat.lt_of_lt_of_le (by decide) h)

end

/-- `t` is `s` after Bedrock has followed a change: both lanes stand aside, Bedrock is supplied and clocked as before, the
bridge die's receivers are the same, and so are the fields of `L`. -/
structure State.follows (L : List Fld) (s t : State) : Prop where
  sub : L ⊆ standing
  a : s.a.aside t.a
  b : s.b.aside t.b
  on : t.bed.on = s.bed.on
  clock : t.bed.clockOff = s.bed.clockOff
  rx : s.brg.sameRx t.brg
  field : ∀ f ∈ L, t.bed.get f = s.bed.get f

namespace State
open LaneState BrgState
variable {L : List Fld} {s t u : State} {x y : Lane} {d e n v c : Nat}

theorem follows_refl (hL : L ⊆ standing) : follows L s s :=
  ⟨hL, aside_refl, aside_refl, rfl, rfl, ⟨rfl, rfl⟩, fun _ _ => rfl⟩

theorem follows_trans (h : follows L s t) (h' : follows L t u) : follows L s u :=
  ⟨h.sub, aside_trans h.a h'.a, aside_trans h.b h'.b, h'.on.trans h.on, h'.clock.trans h.clock, sameRx_trans h.rx h'.rx,
    fun f hf => (h'.field f hf).trans (h.field f hf)⟩

theorem follows_lane (h : follows L s t) (x : Lane) : (s.lane x).aside (t.lane x) := by
  cases x
  exacts [h.a, h.b]

theorem follows_ite {p : Prop} [Decidable p] (h : follows L s t) (h' : follows L s u) :
    follows L s (if p then t else u) := by
  split
  exacts [h, h']

/-! ### What it reads of them -/

theorem laneStatus_of_follows (hx : F.status x ∈ L) (h : follows L s t) : t.laneStatus x = s.laneStatus x := h.field _ hx

theorem capable_of_follows (hx : F.cap x ∈ L) (h : follows L s t) : t.capable x = s.capable x := by
  unfold capable
  rw [h.field _ hx]

theorem bedrockRuns_of_follows (h0 : F.BSYS_DEVSTAT_H0OK ∈ L) (h1 : F.BSYS_DEVSTAT_H1OK ∈ L) (h : follows L s t) :
    t.bedrockRuns = s.bedrockRuns := by
  unfold bedrockRuns halfMask
  rw [h.on, h.clock, h.field _ h0, h.field _ h1]

theorem bridgeLinkUp_of_follows (h : follows L s t) : t.bridgeLinkUp x = s.bridgeLinkUp x := by
  unfold bridgeLinkUp
  rw [blUp_of_aside (follows_lane h x), h.rx.1, h.rx.2]

/-! ### Elementary changes -/

theorem follows_modLanes {f : LaneState → LaneState} (hf : ∀ l m, aside l m → aside l (f m)) (h : follows L s t) :
    follows L s (t.modLanes f) := { h with a := hf _ _ h.a, b := hf _ _ h.b }

theorem follows_modLane {f : LaneState → LaneState} (hf : ∀ l m, aside l m → aside l (f m)) (h : follows L s t) :
    follows L s (t.modLane x f) := by
  cases x
  exacts [{ h with a := hf _ _ h.a }, { h with b := hf _ _ h.b }]

theorem follows_modBrg {f : BrgState → BrgState} (hf : ∀ b, sameRx b (f b)) (h : follows L s t) : follows L s (t.modBrg f) :=
  { h with rx := sameRx_trans h.rx (hf _) }

/-- A change of Bedrock that leaves its supply, its clocks and the fields. -/
theorem follows_fields {f : BedState → BedState} (ho : (f t.bed).on = t.bed.on) (hc : (f t.bed).clockOff = t.bed.clockOff)
    (hf : ∀ g ∈ L, (f t.bed).get g = t.bed.get g) (h : follows L s t) : follows L s (t.modBed f) :=
  { h with
    on := ho.trans h.on
    clock := hc.trans h.clock
    field := fun g hg => (hf g hg).trans (h.field g hg) }

theorem follows_modBed {f : BedState → BedState} (hr : (f t.bed).regs = t.bed.regs) (ho : (f t.bed).on = t.bed.on)
    (hc : (f t.bed).clockOff = t.bed.clockOff) (h : follows L s t) : follows L s (t.modBed f) :=
  follows_fields ho hc (fun g _ => congrArg (RegFile.get · g) hr) h

theorem follows_put {f : Fld} (hf : ∀ g ∈ L, g.apart f) (h : follows L s t) : follows L s (t.bput f v) :=
  follows_fields (f := (·.put f v)) rfl rfl (fun g hg => BedState.get_put_apart (hf g hg)) h

theorem follows_bput {f : Fld} (hf : ∀ g ∈ standing, g.apart f) (h : follows L s t) : follows L s (t.bput f v) :=
  follows_put (fun g hg => hf g (h.sub hg)) h

theorem follows_bbump {f : Fld} (hf : ∀ g ∈ standing, g.apart f) (h : follows L s t) : follows L s (t.bbump f v) :=
  follows_fields (f := (·.bump f v)) rfl rfl (fun g hg => BedState.get_bump_apart (hf g (h.sub hg))) h

theorem follows_bedRaise (h : follows L s t) : follows L s (t.bedRaise n) := follows_modBed rfl rfl rfl h

theorem follows_bedRaiseFor (h : follows L s t) : follows L s (t.bedRaiseFor n x) := follows_modBed rfl rfl rfl h

theorem follows_irqPulseBoth {b : Nat} {w : Word} (hb : R.irqStat b ∉ ownRegs) (h : follows L s t) :
    follows L s (t.irqPulseBoth b w) := follows_modLanes (fun _ _ => aside_irqPulse hb) h

theorem follows_oneCycle {f : State → State} (h : follows L s (f t)) : follows L s (t.oneCycle f) :=
  { h with a := aside_mergeMsgs h.a, b := aside_mergeMsgs h.b }

/-! ### The bridge die -/

theorem follows_modUnit {f : BridgeUnit → BridgeUnit} (h : follows L s t) : follows L s (t.modUnit n f) :=
  follows_modBrg (f := (·.modUnit n f)) (fun _ => ⟨rfl, rfl⟩) h

theorem follows_sendUp {typ m arg : Nat} {pay : List Half} (h : follows L s t) : follows L s (t.sendUp x typ m arg pay) := by
  unfold sendUp
  extract_lets body q fr s1
  have h1 : follows L s s1 := follows_modBrg (fun _ => by cases x <;> exact ⟨rfl, rfl⟩) h
  exact follows_modLane (fun _ _ h => aside_of_eq h rfl rfl rfl rfl rfl) h1

theorem follows_sendStatus (h : follows L s t) : follows L s (t.sendStatus n) :=
  follows_modUnit (follows_sendUp (follows_sendUp h))

theorem follows_rankUpdate (h : follows L s t) : follows L s (t.rankUpdate n) := by
  have hput {m : State} {f : Fld} {v : Nat} (h : follows L s m) : follows L s (m.modBrg (·.put f v)) :=
    follows_modBrg (fun _ => ⟨rfl, rfl⟩) h
  unfold rankUpdate
  extract_lets _ _ s1 _ _ s2 _ s3 _ s4
  have h1 : follows L s s1 := follows_ite (hput h) h
  have h3 : follows L s s3 := hput (follows_ite (hput h1) h1)
  have h4 : follows L s s4 := follows_ite
    (follows_modUnit (follows_modBrg (fun _ => sameRx_setDrive) h3)) h3
  exact follows_ite (follows_sendStatus h4) h4

/-! ### The device state (R240) -/

theorem follows_dropRequests (h : follows L s t) : follows L s t.dropRequests :=
  foldl_keeps (follows L s) (fun _ _ h => follows_ite (follows_modUnit h) h) _ t h

theorem follows_overrideUpdate (h : follows L s t) : follows L s t.overrideUpdate :=
  foldl_keeps (follows L s) (fun _ _ h => follows_ite (follows_rankUpdate h) h) _ t h

theorem follows_setDev (h : follows L s t) : follows L s (t.setDev v) := by
  have h1 : follows L s ((t.bput F.BSYS_DEVSTAT_DEVSTATE v).irqPulseBoth P.BSYS (mbit 0)).attention :=
    follows_modLanes (fun _ _ => aside_aplicPulse) (follows_irqPulseBoth (by decide) (follows_bput (by decide) h))
  exact follows_ite h (follows_overrideUpdate (follows_ite (follows_dropRequests h1) h1))

/-! ### Domains (R218 to R226) -/

theorem follows_sendSelect (h : follows L s t) : follows L s t.sendSelect := follows_ite h (follows_modBed rfl rfl rfl h)

theorem follows_reselect (h : follows L s t) : follows L s (t.reselect d) := follows_sendSelect (follows_modBed rfl rfl rfl h)

theorem follows_leaseTrigger (h : follows L s t) : follows L s (t.leaseTrigger d) :=
  follows_modLanes (fun _ _ h => aside_ite (aside_trigger h) h) h

theorem follows_setReady {b : Bool} (hd : d < 8) (h : follows L s t) : follows L s (t.setReady x d b) :=
  follows_bput (apart_rdy hd) h

theorem follows_setNeg {b : Bool} (h : follows L s t) : follows L s (t.setNeg x d b) :=
  follows_modBed (by cases x <;> rfl) (by cases x <;> rfl) (by cases x <;> rfl) h

theorem follows_enterBreak (hd : d < 8) (h : follows L s t) : follows L s (t.enterBreak d c) := by
  unfold enterBreak
  extract_lets _ s1 s2 s3 s4 s5
  have h2 : follows L s s2 := follows_bput (apart_domain hd (by decide : 3 + 1 ≤ 32) (.inl rfl))
    (follows_bput (apart_domain hd (by decide : 0 + 3 ≤ 32) (.inl rfl)) h)
  have h3 : follows L s s3 := follows_bbump (apart_domain hd (by decide : 0 + 16 ≤ 32) (.inr (.inl rfl))) h2
  have h5 : follows L s s5 := follows_bput (apart_domain hd (by decide : 4 + 1 ≤ 32) (.inr (.inr rfl)))
    (follows_bput (apart_domain hd (by decide : 0 + 3 ≤ 32) (.inr (.inr rfl))) h3)
  exact follows_reselect (follows_leaseTrigger (follows_setReady hd (follows_modBed rfl rfl rfl h5)))

theorem follows_loseCapable (h : follows L s t) : follows L s (t.loseCapable x) :=
  List.foldlRecOn (motive := follows L s) _ _ h fun _ hb _ he =>
    have hd := List.mem_range.mp he
    follows_ite (follows_enterBreak hd (follows_setReady hd hb)) (follows_setReady hd hb)

/-! ### Evaluators and safe outputs (R374 to R392) -/

theorem follows_evGo (h : follows L s t) : follows L s (t.evGo e v) :=
  follows_ite h (follows_irqPulseBoth (by decide) (follows_bput (apart_safety (by decide : 0 + 3 ≤ 32)
    (by simp only [F.BSAFE_EVSTAT_STATE, R.BSAFE_EVSTAT, P.BSAFE]; omega)) h))

theorem follows_lockout (h : follows L s t) : follows L s (t.lockout e c) := by
  have ha : P.BSAFE ≤ R.BSAFE_EVSTAT e ∧ P.BSAFE ≤ R.BSAFE_EVCNT e := by
    simp only [R.BSAFE_EVSTAT, R.BSAFE_EVCNT, P.BSAFE]
    omega
  unfold lockout
  extract_lets st s1 s2 s3 s4
  have h2 : follows L s s2 := follows_bput (apart_safety (by decide : 4 + 4 ≤ 32) ha.1) (follows_evGo h)
  have h3 : follows L s s3 := follows_bbump (apart_safety (by decide : 0 + 16 ≤ 32) ha.2) h2
  exact follows_ite (follows_modBed rfl rfl rfl h)
    (follows_ite h (follows_irqPulseBoth (by decide) (follows_modBed rfl rfl rfl h3)))

theorem follows_pathUpdate (h : follows L s t) : follows L s t.pathUpdate := by
  unfold pathUpdate
  extract_lets upd s2
  have hu : ∀ m x, follows L s m → follows L s (upd m x) := fun _ x h =>
    follows_ite h (follows_irqPulseBoth (by decide) (follows_bput (by cases x <;> decide) h))
  exact follows_bput (by decide) (follows_bput (by decide) (hu _ _ (hu _ _ h)))

theorem follows_outputUpdate (h : follows L s t) : follows L s t.outputUpdate := by
  unfold outputUpdate
  extract_lets ok cmd s1 s2 s3
  have h3 : follows L s s3 := follows_bput (by decide) (follows_bput (by decide) (follows_bput (by decide) h))
  exact follows_ite h (follows_modLanes (fun _ _ h => aside_ite (aside_mirrorsOf h) h) h3)

theorem follows_demandUpdate (h : follows L s t) : follows L s t.demandUpdate :=
  follows_outputUpdate (follows_pathUpdate (follows_bput (by decide) h))

theorem follows_setPath {p : PathLane} (h : follows L s t) : follows L s (t.setPath x p) :=
  follows_modBed rfl rfl rfl h

theorem follows_loseCurrent (h : follows L s t) : follows L s (t.loseCurrent x) := by
  unfold loseCurrent
  extract_lets was s1 s2
  have h1 : follows L s s1 := follows_bput (by cases x <;> decide) h
  have h2 : follows L s s2 := follows_ite
    (follows_bedRaiseFor (follows_bput (by cases x <;> decide) (follows_setPath h1))) h1
  exact follows_outputUpdate (follows_pathUpdate h2)

/-! ### DEVICE_SAFE (R233) -/

theorem follows_safeAt (hd : d < 8) (h : follows L s t) : follows L s (t.safeAt d) :=
  follows_setReady hd (follows_setReady hd (follows_bput (apart_domain hd (by decide : 0 + 3 ≤ 32) (.inl rfl)) h))

theorem follows_safeDevice (h : follows L s t) : follows L s (t.safeDevice c) :=
  follows_bput (by decide) (follows_setDev
    (foldl_keeps (follows L s) (fun _ _ h => follows_ite (follows_leaseTrigger h) h) _ t h))

theorem follows_deviceSafe (h : follows L s t) : follows L s (t.deviceSafe c) := by
  refine follows_ite (follows_oneCycle (follows_sendSelect (follows_demandUpdate ?_))) h
  exact foldl_keeps (follows L s) (fun _ _ => follows_lockout) _ _ (List.foldlRecOn (motive := follows L s) _ _
    (follows_safeDevice h) fun _ hb _ he => follows_safeAt (List.mem_range.mp he) hb)

/-! ### Capability (R216) -/

/-- Bedrock's evaluation of one lane's capability. -/
def capAt (s : State) (x : Lane) : State :=
  let now := decide (s.laneStatus x = Stat.up) && s.bridgeLinkUp x
  if s.capable x = now then s
  else
    let s := s.bput (F.cap x) (bit now)
    if now then s else s.loseCapable x

/-- The evaluation of both. -/
def capBoth (s : State) : State := (s.capAt .A).capAt .B

theorem capUpdate_eq (hb : s.bedrockRuns = true) :
    s.capUpdate = if !s.capBoth.capable .A && !s.capBoth.capable .B then s.capBoth.deviceSafe 3 else s.capBoth :=
  if_neg (by simp [hb])

theorem follows_capAt (hL : ∀ g ∈ L, g.apart (F.cap x)) (h : follows L s t) : follows L s (t.capAt x) :=
  have h1 := follows_put (v := bit (decide (t.laneStatus x = Stat.up) && t.bridgeLinkUp x)) hL h
  follows_ite h (follows_ite h1 (follows_loseCapable h1))

theorem lasting_apart_cap : ∀ g ∈ lasting, g.apart (F.cap x) := by cases x <;> decide

theorem status_mem : F.status x ∈ lasting := by cases x <;> decide

theorem cap_sub : [F.cap x] ⊆ standing := by cases x <;> decide

theorem lasting_sub : lasting ⊆ standing := List.subset_append_left _ _

theorem follows_capBoth (h : follows lasting s t) : follows lasting s t.capBoth :=
  follows_capAt lasting_apart_cap (follows_capAt lasting_apart_cap h)

theorem follows_capUpdate (h : follows lasting s t) : follows lasting s t.capUpdate :=
  follows_ite h (follows_ite (follows_deviceSafe (follows_capBoth h)) (follows_capBoth h))

/-- A lane is capable when it is UP and its bridge link is up. -/
theorem capable_capAt : (s.capAt x).capable x = (decide (s.laneStatus x = Stat.up) && s.bridgeLinkUp x) := by
  unfold capAt
  extract_lets now s1
  have hput : s1.capable x = now := by
    have hg : s1.bed.get (F.cap x) = bit now % 2 := by
      cases x
      exacts [BedState.get_put_same _ _ _ (by decide), BedState.get_put_same _ _ _ (by decide)]
    unfold capable
    rw [hg]
    cases now <;> rfl
  split
  · assumption
  · split
    · exact hput
    · exact (capable_of_follows (List.mem_singleton.mpr rfl) (follows_loseCapable (follows_refl cap_sub))).trans hput

theorem capable_capBoth : s.capBoth.capable x = (decide (s.laneStatus x = Stat.up) && s.bridgeLinkUp x) := by
  cases x
  · have hB : follows [F.cap .A] (s.capAt .A) s.capBoth := follows_capAt (by decide) (follows_refl (by decide))
    exact (capable_of_follows (List.mem_singleton.mpr rfl) hB).trans capable_capAt
  · have hA : follows lasting s (s.capAt .A) := follows_capAt lasting_apart_cap (follows_refl lasting_sub)
    rw [capBoth, capable_capAt, laneStatus_of_follows (by decide) hA, bridgeLinkUp_of_follows hA]

theorem capable_capUpdate (hb : s.bedrockRuns = true) :
    s.capUpdate.capable x = (decide (s.laneStatus x = Stat.up) && s.bridgeLinkUp x) := by
  rw [capUpdate_eq hb]
  refine Eq.trans ?_ capable_capBoth
  exact ite_keeps (Q := fun t => t.capable x = s.capBoth.capable x)
    (capable_of_follows (List.mem_singleton.mpr rfl) (follows_deviceSafe (follows_refl cap_sub))) rfl

/-! ### The exit from START (R470) -/

/-- START goes on, or is left for IDLE or for DEVICE_SAFE. -/
theorem startExit_cases {b : Bool} : s.startExit b = s ∨
    (s.bedrockRuns = true ∧ s.startExit b = (s.setDev Dev.idle).capUpdate.outputUpdate) ∨
    s.startExit b = s.deviceSafe 6 := by
  by_cases hgo : s.devState ≠ Dev.start ∨ (!s.bedrockRuns) = true
  · exact .inl (if_pos hgo)
  have hb : s.bedrockRuns = true := by simpa using (not_or.mp hgo).2
  unfold startExit
  rw [if_neg hgo]
  extract_lets st up single enter
  have henter : ∀ i, enter i = s ∨ (s.bedrockRuns = true ∧ enter i = (s.setDev Dev.idle).capUpdate.outputUpdate) ∨
      enter i = s.deviceSafe 6 := fun i => by
    by_cases hi : (i && !s.bed.tstd) = true
    · exact .inr (.inl ⟨hb, if_pos hi⟩)
    · exact .inr (.inr (if_neg hi))
  split
  · exact henter _
  split
  · exact .inl rfl
  split
  · exact henter _
  split
  · exact .inl rfl
  split
  · exact henter _
  · exact henter _

theorem follows_startExit {b : Bool} (h : follows lasting s t) : follows lasting s (t.startExit b) := by
  rcases startExit_cases (s := t) (b := b) with he | ⟨-, he⟩ | he
  · rwa [he]
  · rw [he]
    exact follows_outputUpdate (follows_capUpdate (follows_setDev h))
  · rw [he]
    exact follows_deviceSafe h

/-- A lane that is not UP does not become capable by it. -/
theorem notCapable_startExit {b : Bool} (hst : s.laneStatus x ≠ Stat.up) (h : s.capable x = false) :
    (s.startExit b).capable x = false := by
  have hmem : F.cap x ∈ [F.cap x] := List.mem_singleton.mpr rfl
  rcases startExit_cases (s := s) (b := b) with he | ⟨hb, he⟩ | he
  · rwa [he]
  · have hdev : follows lasting s (s.setDev Dev.idle) := follows_setDev (follows_refl lasting_sub)
    rw [he, capable_of_follows hmem (follows_outputUpdate (follows_refl cap_sub)),
      capable_capUpdate ((bedrockRuns_of_follows (by decide) (by decide) hdev).trans hb),
      laneStatus_of_follows status_mem hdev, decide_eq_false hst, Bool.false_and]
  · rw [he]
    exact (capable_of_follows hmem (follows_deviceSafe (follows_refl cap_sub))).trans h

end State
end Sys2Proof.Machine
end

section
/-! SUPPORT. A lane's status, and what follows a change of it (R215, R233, R470). -/
namespace Sys2Proof.Machine
open Sys2Proof

namespace State
open LaneState
variable {L : List Fld} {s t u : State} {x : Lane} {v c : Nat}

/-! ### A change of a lane's status (R215) -/

/-- A lane that enters BOOT begins its renewals anew (R217). -/
def renewalsAnew (s : State) (x : Lane) (v : Nat) : State :=
  if v = Stat.boot then (List.range 8).foldl (fun (s : State) d => s.setNeg x d false) (s.bput (F.rseq x) 0) else s

/-- The new status is recorded, with the cause of a loss, the source it raises, and the renewals begun anew. -/
def noteStatus (s : State) (x : Lane) (v c : Nat) : State :=
  let was := s.laneStatus x
  let s := (s.bput (F.status x) v).irqPulseBoth P.BSYS (mbit 1)
  let s := if c = 0 then s else s.bput (F.laneCause x) c
  let s := if (v = Stat.lost ∨ v = Stat.excluded) ∧ was ≠ Stat.lost ∧ was ≠ Stat.excluded then s.bedRaise (8 + x.num)
    else s
  s.renewalsAnew x v

/-- The lane's demand and its consent to PARK follow its status, and the peer's Sieve learns of a loss. -/
def followStatus (s : State) (x : Lane) (v : Nat) : State :=
  let s := if v ≠ Stat.up ∧ s.bed.get (F.cur x) = 1 then s.loseCurrent x else s
  let s := if v = Stat.up ∧ (s.path x).live then (s.bput (F.cur x) 1).pathUpdate.outputUpdate else s
  let s := if v ≠ Stat.up then s.modLane x (·.put F.PWR_PSTAT_CONSENT 0) else s
  if v = Stat.lost then s.modLane x.peer (·.trigger 2) else s

theorem setStatus_eq (hne : s.laneStatus x ≠ v) (hp : s.devState ≠ Dev.parked) (hb : s.bedrockRuns = true) :
    s.setStatus x v c = ((s.noteStatus x v c).followStatus x v).capUpdate.startExit false :=
  if_neg (by simp [hne, hp, hb])

/-- What stands in the record of a lane's status once it is `v`. -/
structure statusNoted (s t : State) (x : Lane) (v c : Nat) : Prop where
  status : t.laneStatus x = v
  peer : t.laneStatus x.peer = s.laneStatus x.peer
  runs : t.bedrockRuns = s.bedrockRuns
  cause : c ≠ 0 → t.bed.get (F.laneCause x) = c
  rseq : v = Stat.boot → t.bed.get (F.rseq x) = 0

theorem statusNoted_of_follows (h : follows lasting t u) (ht : statusNoted s t x v c) : statusNoted s u x v c where
  status := (laneStatus_of_follows status_mem h).trans ht.status
  peer := (laneStatus_of_follows status_mem h).trans ht.peer
  runs := (bedrockRuns_of_follows (by decide) (by decide) h).trans ht.runs
  cause := fun hc => (h.field _ (by cases x <;> decide)).trans (ht.cause hc)
  rseq := fun hv => (h.field _ (by cases x <;> decide)).trans (ht.rseq hv)

theorem follows_foldl_setNeg (h : follows L s t) :
    follows L s ((List.range 8).foldl (fun (s : State) d => s.setNeg x d false) t) :=
  foldl_keeps (follows L s) (fun _ _ => follows_setNeg) _ t h

theorem follows_renewalsAnew (hr : ∀ g ∈ L, g.apart (F.rseq x)) (h : follows L s t) : follows L s (t.renewalsAnew x v) :=
  follows_ite (follows_foldl_setNeg (follows_put hr h)) h

theorem noteStatus_outcome (hv : v < 8) (hc : c < 8) : statusNoted s (s.noteStatus x v c) x v c ∧
    (s.lane x).aside ((s.noteStatus x v c).lane x) := by
  unfold noteStatus
  extract_lets was s1 s2 s3
  have h24 {L : List Fld} (hL : L ⊆ standing) (hr : ∀ g ∈ L, g.apart (F.rseq x)) : follows L s2 (s3.renewalsAnew x v) :=
    follows_renewalsAnew hr (follows_ite (follows_bedRaise (follows_refl hL)) (follows_refl hL))
  have h14 {L : List Fld} (hL : L ⊆ standing) (ha : ∀ g ∈ L, g.apart (F.laneCause x) ∧ g.apart (F.rseq x)) :
      follows L s1 (s3.renewalsAnew x v) :=
    follows_trans (follows_ite (follows_refl hL) (follows_put (fun g hg => (ha g hg).1) (follows_refl hL)))
      (h24 hL fun g hg => (ha g hg).2)
  have h01 : follows [F.status x.peer, F.BSYS_DEVSTAT_H0OK, F.BSYS_DEVSTAT_H1OK] s s1 :=
    follows_irqPulseBoth (by decide) (follows_put (by cases x <;> decide) (follows_refl (by cases x <;> decide)))
  have h04 := follows_trans h01 (h14 h01.sub (by cases x <;> decide))
  refine ⟨⟨?_, laneStatus_of_follows (by cases x <;> decide) h04, bedrockRuns_of_follows (by simp) (by simp) h04,
    fun hc0 => ?_, fun hv => ?_⟩, follows_lane h04 x⟩
  · have h1 : s1.laneStatus x = v := by
      have hg : s1.laneStatus x = v % 8 := by
        cases x
        exacts [BedState.get_put_same _ _ _ (by decide), BedState.get_put_same _ _ _ (by decide)]
      rw [hg, Nat.mod_eq_of_lt hv]
    have hsub : [F.status x] ⊆ standing := by cases x <;> decide
    exact (laneStatus_of_follows (List.mem_singleton.mpr rfl) (h14 hsub (by cases x <;> decide))).trans h1
  · have h2 : s2.bed.get (F.laneCause x) = c := by
      have hg : (s1.bput (F.laneCause x) c).bed.get (F.laneCause x) = c % 8 := by
        cases x
        exacts [BedState.get_put_same _ _ _ (by decide), BedState.get_put_same _ _ _ (by decide)]
      rw [show s2 = s1.bput (F.laneCause x) c from if_neg hc0, hg, Nat.mod_eq_of_lt hc]
    have hsub : [F.laneCause x] ⊆ standing := by cases x <;> decide
    exact ((h24 hsub (by cases x <;> decide)).field _ (List.mem_singleton.mpr rfl)).trans h2
  · have h3 : (s3.bput (F.rseq x) 0).bed.get (F.rseq x) = 0 := by
      cases x
      exacts [BedState.get_put_same _ _ _ (by decide), BedState.get_put_same _ _ _ (by decide)]
    have hsub : [F.rseq x] ⊆ standing := by cases x <;> decide
    rw [renewalsAnew, if_pos hv]
    exact ((follows_foldl_setNeg (follows_refl hsub)).field _ (List.mem_singleton.mpr rfl)).trans h3

theorem lane_modLane_ofPeer {f : LaneState → LaneState} : (s.modLane x.peer f).lane x = s.lane x := by cases x <;> rfl

/-- A lane that does not rise to UP loses its consent; one that does stands aside. -/
theorem followStatus_outcome : (∀ f ∈ lasting, (s.followStatus x v).bed.get f = s.bed.get f) ∧
    (s.followStatus x v).bedrockRuns = s.bedrockRuns ∧ ((s.followStatus x v).lane x).mem = (s.lane x).mem ∧
    (v ≠ Stat.up → ((s.followStatus x v).lane x).get F.PWR_PSTAT_CONSENT = 0) ∧
    (v = Stat.up → (s.lane x).aside ((s.followStatus x v).lane x)) := by
  unfold followStatus
  extract_lets s1 s2 s3
  have h1 : follows lasting s s1 := follows_ite (follows_loseCurrent (follows_refl lasting_sub)) (follows_refl lasting_sub)
  have h2 : follows lasting s s2 := follows_ite
    (follows_outputUpdate (follows_pathUpdate (follows_bput (by cases x <;> decide) h1))) h1
  have h3 : s3.bed = s2.bed := bed_ite (bed_modLane _ _ _) rfl
  have h4 : (if v = Stat.lost then s3.modLane x.peer (·.trigger 2) else s3).bed = s2.bed :=
    bed_ite ((bed_modLane _ _ _).trans h3) h3
  have hl : (if v = Stat.lost then s3.modLane x.peer (·.trigger 2) else s3).lane x = s3.lane x :=
    ite_keeps (Q := fun t => t.lane x = s3.lane x) lane_modLane_ofPeer rfl
  have hruns : s2.bedrockRuns = s.bedrockRuns := bedrockRuns_of_follows (by decide) (by decide) h2
  rw [hl, h4]
  refine ⟨h2.field, ?_, ?_, fun hv => ?_, fun hv => ?_⟩
  · rw [← hruns]
    unfold bedrockRuns halfMask
    rw [h4]
  · refine Eq.trans ?_ (follows_lane h2 x).mem
    exact ite_keeps (Q := fun t => (t.lane x).mem = (s2.lane x).mem) (by rw [lane_modLane_same]; rfl) rfl
  · rw [show s3 = s2.modLane x (·.put F.PWR_PSTAT_CONSENT 0) from if_pos hv, lane_modLane_same]
    exact LaneState.get_put_same _ _ _ (by decide)
  · rw [show s3 = s2 from if_neg (not_not.mpr hv)]
    exact follows_lane h2 x

/-- A change of a lane's status while Bedrock runs, the device not PARKED. -/
theorem setStatus_outcome (hne : s.laneStatus x ≠ v) (hp : s.devState ≠ Dev.parked) (hb : s.bedrockRuns = true)
    (hv : v < 8) (hc : c < 8) : statusNoted s (s.setStatus x v c) x v c ∧
    ((s.setStatus x v c).lane x).mem = (s.lane x).mem ∧
    (v ≠ Stat.up → (s.setStatus x v c).capable x = false ∧
      ((s.setStatus x v c).lane x).get F.PWR_PSTAT_CONSENT = 0) ∧
    (v = Stat.up → (s.lane x).aside ((s.setStatus x v c).lane x)) := by
  obtain ⟨hnote, haside⟩ := noteStatus_outcome (s := s) (x := x) hv hc
  obtain ⟨hfield, hruns, hmem, hconsent, hup⟩ := followStatus_outcome (s := s.noteStatus x v c) (x := x) (v := v)
  rw [setStatus_eq hne hp hb]
  set u := (s.noteStatus x v c).followStatus x v with hu
  have hcap : follows lasting u u.capUpdate := follows_capUpdate (follows_refl lasting_sub)
  have hall : follows lasting u (u.capUpdate.startExit false) := follows_startExit hcap
  have hnote' : statusNoted s u x v c :=
    ⟨(hfield _ status_mem).trans hnote.status, (hfield _ status_mem).trans hnote.peer, hruns.trans hnote.runs,
      fun h => (hfield _ (by cases x <;> decide)).trans (hnote.cause h),
      fun h => (hfield _ (by cases x <;> decide)).trans (hnote.rseq h)⟩
  refine ⟨statusNoted_of_follows hall hnote', ?_, fun h => ⟨notCapable_startExit ?_ ?_, ?_⟩, fun h => ?_⟩
  · exact (follows_lane hall x).mem.trans (hmem.trans haside.mem)
  · rw [laneStatus_of_follows status_mem hcap, hnote'.status]
    exact h
  · rw [capable_capUpdate (hnote'.runs.trans hb), hnote'.status, decide_eq_false h, Bool.false_and]
  · exact (follows_lane hall x).consent.trans (hconsent h)
  · exact aside_trans haside (aside_trans (hup h) (follows_lane hall x))

/-! ### DEVICE_SAFE and the timeout of START (R233, R470) -/

/-- The device's state and the cause of DEVICE_SAFE. -/
theorem deviceSafe_records (hb : s.bedrockRuns = true)
    (hd : s.devState = Dev.idle ∨ s.devState = Dev.drive ∨ (s.devState = Dev.start ∧ c = 6)) (hc : c < 8) :
    (s.deviceSafe c).devState = Dev.safe ∧ (s.deviceSafe c).bed.get F.BSYS_SAFECAUSE_CAUSE = c := by
  have hbed : (s.deviceSafe c).bed = ((List.range 8).foldl (fun (s : State) e => s.lockout e 6)
      ((List.range 8).foldl safeAt (s.safeDevice c))).demandUpdate.sendSelect.bed := by
    unfold deviceSafe
    rw [if_pos ⟨hb, hd⟩]
    rfl
  have hrd : ∀ a, a = R.BSYS_DEVSTAT ∨ a = R.BSYS_SAFECAUSE → (s.deviceSafe c).bed.rd a = (s.safeDevice c).bed.rd a :=
    fun a ha => by
      obtain ⟨-, hso, hps, -⟩ := deviceReg_ne (e := 0) ha
      have hreg : ∀ e, e < 8 → a ≠ R.BLEASE_LSTAT e ∧ a ≠ R.BSAFE_EVSTAT e ∧ a ≠ R.BSAFE_EVCNT e := fun e _ => by
        obtain ⟨hstat, -, -, hev⟩ := deviceReg_ne (e := e) ha
        exact ⟨hstat, hev⟩
      rw [hbed]
      exact rd_sendSelect.trans ((rd_demandUpdate hso hps).trans
        ((rd_foldl_lockout fun e he => (hreg e he).2).trans (rd_foldl_safeAt fun e he => (hreg e he).1)))
  refine ⟨(bget_of_rd (f := F.BSYS_DEVSTAT_DEVSTATE) (hrd _ (.inl rfl))).trans ?_,
    (bget_of_rd (f := F.BSYS_SAFECAUSE_CAUSE) (hrd _ (.inr rfl))).trans ?_⟩
  · exact (BedState.get_put_ne _ F.BSYS_SAFECAUSE_CAUSE F.BSYS_DEVSTAT_DEVSTATE _ (by decide)).trans
      (devState_setDev (by decide))
  · exact (BedState.get_put_same _ F.BSYS_SAFECAUSE_CAUSE _ (by decide)).trans (Nat.mod_eq_of_lt hc)

/-- At its timeout START ends by the lanes that are UP, SINGLEOK and TSTD. -/
theorem startExit_timeout (hd : s.devState = Dev.start) (hb : s.bedrockRuns = true) :
    s.startExit true = if ((decide (0 < ([s.laneStatus .A, s.laneStatus .B].filter (· == Stat.up)).length) &&
        s.bed.get F.BSYS_BCFG_SINGLEOK == 1) && !s.bed.tstd) = true
      then (s.setDev Dev.idle).capUpdate.outputUpdate else s.deviceSafe 6 := by
  unfold startExit
  rw [if_neg (by simp [hd, hb])]
  rfl

theorem startExit_noneUp (hd : s.devState = Dev.start) (hb : s.bedrockRuns = true) (hA : s.laneStatus .A ≠ Stat.up)
    (hB : s.laneStatus .B ≠ Stat.up) : s.startExit true = s.deviceSafe 6 := by
  rw [startExit_timeout hd hb]
  exact if_neg (by simp [hA, hB])

theorem startExit_single (hd : s.devState = Dev.start) (hb : s.bedrockRuns = true) (hx : s.laneStatus x = Stat.up)
    (h1 : s.bed.get F.BSYS_BCFG_SINGLEOK = 1) (ht : s.bed.tstd = false) :
    s.startExit true = (s.setDev Dev.idle).capUpdate.outputUpdate := by
  have hpos : 0 < ([s.laneStatus .A, s.laneStatus .B].filter (· == Stat.up)).length :=
    List.length_pos_of_mem (List.mem_filter.mpr ⟨(by cases x <;> simp : s.laneStatus x ∈ _), by simp [hx]⟩)
  rw [startExit_timeout hd hb]
  exact if_pos (by simp [hpos, h1, ht])

/-! ### A capable lane keeps the device out of DEVICE_SAFE -/

theorem devState_capAt : (s.capAt x).devState = s.devState := by
  have hlose : ∀ t : State, (t.loseCapable x).devState = t.devState := fun t =>
    List.foldlRecOn (motive := fun u : State => u.devState = t.devState) _ _ rfl fun u hu e he => by
      have hready : (u.setReady x e false).devState = u.devState := bget_of_rd (f := F.BSYS_DEVSTAT_DEVSTATE)
        (rd_setReady (offBreak_device (e := e) (by decide)).1)
      have hbreak : ∀ k, ((u.setReady x e false).enterBreak e k).devState = (u.setReady x e false).devState := fun k =>
        bget_of_rd (f := F.BSYS_DEVSTAT_DEVSTATE) (rd_enterBreak (offBreak_device (by decide)))
      exact ite_keeps (Q := fun t' => t'.devState = t.devState) ((hbreak _).trans (hready.trans hu)) (hready.trans hu)
  have hput : ∀ k, (s.bput (F.cap x) k).devState = s.devState := fun k =>
    BedState.get_put_apart (by cases x <;> decide)
  exact ite_keeps (Q := fun t => t.devState = s.devState) rfl
    (ite_keeps (Q := fun t => t.devState = s.devState) (hput _) ((hlose _).trans (hput _)))

theorem devState_capUpdate (hb : s.bedrockRuns = true) (hx : s.laneStatus x = Stat.up) (hl : s.bridgeLinkUp x = true) :
    s.capUpdate.devState = s.devState := by
  have hcap : s.capBoth.capable x = true := by rw [capable_capBoth, hx, hl]; rfl
  have hany : ¬(!s.capBoth.capable .A && !s.capBoth.capable .B) = true := by
    cases x <;> simp [hcap]
  rw [capUpdate_eq hb, if_neg hany]
  exact devState_capAt.trans devState_capAt

/-- START left for IDLE with a lane that is UP and its bridge link up: the lane becomes capable. -/
theorem startToIdle_outcome (hb : s.bedrockRuns = true) (hx : s.laneStatus x = Stat.up) (hl : s.bridgeLinkUp x = true) :
    (s.setDev Dev.idle).capUpdate.outputUpdate.devState = Dev.idle ∧
    (s.setDev Dev.idle).capUpdate.outputUpdate.capable x = true ∧
    (s.setDev Dev.idle).capUpdate.outputUpdate.laneStatus x = Stat.up := by
  have hdev : follows lasting s (s.setDev Dev.idle) := follows_setDev (follows_refl lasting_sub)
  have hb' := (bedrockRuns_of_follows (by decide) (by decide) hdev).trans hb
  have hx' := (laneStatus_of_follows status_mem hdev).trans hx
  have hl' := (bridgeLinkUp_of_follows hdev).trans hl
  refine ⟨?_, ?_, ?_⟩
  · refine (bget_of_rd (f := F.BSYS_DEVSTAT_DEVSTATE) (rd_outputUpdate (by decide))).trans ?_
    exact (devState_capUpdate hb' hx' hl').trans (devState_setDev (by decide))
  · rw [capable_of_follows (List.mem_singleton.mpr rfl) (follows_outputUpdate (follows_refl cap_sub)),
      capable_capUpdate hb', hx', hl']
    rfl
  · exact (laneStatus_of_follows status_mem (follows_outputUpdate (follows_capUpdate hdev))).trans hx

end State
end Sys2Proof.Machine
end

section
/-! SUPPORT and SETTLED. The end of a lane's start-up, and the lanes' status (O25). -/
namespace Sys2Proof.Machine
open Sys2Proof

/-! ### The pairs' release (R466, R467) -/

namespace LaneState
variable {l : LaneState} {p q us : Nat} {b : Bool}

/-- A checkpoint's request does not hold a pair back. -/
theorem released_ckptRequest : ((l.ckptRequest q).pair p).released = (l.pair p).released := by
  have hmod : ((l.modPair q fun c => { c with ckptReq := true }).pair p).released = (l.pair p).released := by
    by_cases h : p = q
    · subst h
      rw [pair_modPair_same]
    · rw [pair_modPair_ne h]
  unfold ckptRequest
  dsimp only
  split
  · rfl
  · split
    · exact hmod
    · exact hmod

theorem released_startPair_same : ((l.startPair p b).pair p).released = true := by
  unfold startPair
  extract_lets base bs start start' h0 c l1 l2
  have h2 : (l2.pair p).released = true := by rw [pair_setPairState, pair_modPair_same]
  split
  · exact released_ckptRequest.trans h2
  · exact h2

theorem released_startPair_ne (hne : p ≠ q) : ((l.startPair q b).pair p).released = (l.pair p).released := by
  unfold startPair
  extract_lets base bs start start' h0 c l1 l2
  have h2 : (l2.pair p).released = (l.pair p).released := by rw [pair_setPairState, pair_modPair_ne hne]
  split
  · exact released_ckptRequest.trans h2
  · exact h2

/-- Every pair that is not fenced is released, and the time of the start-up recorded. -/
theorem pairsRelease_outcome : (l.pairsRelease us).boot = .complete ∧
    (l.pairsRelease us).rd R.SYS_BOOTTIME = BitVec.ofNat 32 us ∧
    (p < 4 → l.pairState p ≠ PState.fenced → ((l.pairsRelease us).pair p).released = true) := by
  refine ⟨rfl, LaneState.rd_wr_same _ _ _, fun hp hf => ?_⟩
  have hmem : p ∈ l.unfenced := List.mem_filter.mpr ⟨List.mem_range.mpr hp, decide_eq_true hf⟩
  exact foldl_once (β := LaneState) (f := fun l q => l.startPair q false) (I := fun _ => True)
    (P := fun m => (m.pair p).released = true) (fun _ _ => released_startPair_same) (List.nodup_range.filter _) hmem
    (fun _ _ _ _ _ => trivial) (fun _ _ _ hne h => (released_startPair_ne hne.symm).trans h) trivial

end LaneState

namespace State
variable {s t u : State} {x : Lane} {us p : Nat}

/-! ### The checks of start-up leave the device (R464, R465) -/

/-- The device's state and what Bedrock runs on are the same. -/
def sameDevice (s t : State) : Prop :=
  t.bed.rd R.BSYS_DEVSTAT = s.bed.rd R.BSYS_DEVSTAT ∧ t.bed.on = s.bed.on ∧ t.bed.clockOff = s.bed.clockOff

theorem sameDevice_of_bed (h : t.bed = s.bed) : sameDevice s t := by
  unfold sameDevice
  rw [h]
  exact ⟨rfl, rfl, rfl⟩

theorem sameDevice_trans (h : sameDevice s t) (h' : sameDevice t u) : sameDevice s u := by
  obtain ⟨hr, ho, hc⟩ := h
  obtain ⟨hr', ho', hc'⟩ := h'
  exact ⟨hr'.trans hr, ho'.trans ho, hc'.trans hc⟩

theorem bedrockRuns_of_sameDevice (h : sameDevice s t) : t.bedrockRuns = s.bedrockRuns := by
  obtain ⟨hr, ho, hc⟩ := h
  unfold bedrockRuns
  rw [halfMask_of_rd hr, ho, hc]

theorem devState_of_sameDevice (h : sameDevice s t) : t.devState = s.devState :=
  bget_of_rd (f := F.BSYS_DEVSTAT_DEVSTATE) h.1

theorem laneStatus_of_sameDevice (h : sameDevice s t) : t.laneStatus x = s.laneStatus x := by
  cases x
  exacts [bget_of_rd (f := F.BSYS_DEVSTAT_LANEA) h.1, bget_of_rd (f := F.BSYS_DEVSTAT_LANEB) h.1]

/-- A write of a lane's copy of a register may log its clamp in the header of the page. -/
theorem sameDevice_bedLaneWrite {a : Nat} {w : Word} : sameDevice s (s.bedLaneWrite x a w).1 := by
  have hclamp : ∀ (t : State) (r : WriteResult),
      sameDevice t (t.modBed fun d => { d with regs := d.regs.clampLog a w r.lsb r.clamped }) := fun _ _ =>
    ⟨RegFile.rd_clampLog _ _ _ _ _ (by decide), rfl, rfl⟩
  unfold bedLaneWrite
  extract_lets b old r mail s1 s2 s3
  have h1 : sameDevice s s1 := sameDevice_of_bed (bed_modLane _ _ _)
  have h2 : sameDevice s s2 := ite_keeps (Q := sameDevice s) (sameDevice_trans h1 (sameDevice_of_bed (bed_modLane _ _ _)))
    (sameDevice_trans h1 (hclamp _ r))
  exact ite_keeps (Q := sameDevice s) h1 (sameDevice_trans h2 ⟨rfl, rfl, rfl⟩)

theorem bed_bootFail {c : Nat} : (s.bootFail x c).bed = s.bed := bed_modLane _ _ _

theorem sameDevice_bootCheck : sameDevice s (s.bootCheck x) := by
  unfold bootCheck
  extract_lets es s1
  have h1 : sameDevice s s1 := List.foldlRecOn _ _ (sameDevice_of_bed rfl) fun t ht e _ =>
    ite_keeps (Q := sameDevice s) (sameDevice_trans ht sameDevice_bedLaneWrite) (by simpa using ht)
  exact ite_keeps (Q := sameDevice s) h1 (sameDevice_trans h1 (sameDevice_of_bed bed_bootFail))

theorem sameDevice_bootLock : sameDevice s (s.bootLock x) :=
  sameDevice_of_bed (bed_ite (bed_modLane _ _ _) bed_bootFail)

/-! ### The signal of a completed start-up (R215) -/

theorem completeSeen_eq (hp : s.devState ≠ Dev.parked) (hst : s.laneStatus x = Stat.boot) :
    s.completeSeen x = (s.setStatus x Stat.up 0).capUpdate.outputUpdate := by
  unfold completeSeen
  rw [if_neg (fun h => hp h.1)]
  dsimp only
  rw [if_pos hst]

/-- The lane is UP, and stands aside as Bedrock follows. -/
theorem completeSeen_outcome (hb : s.bedrockRuns = true) (hp : s.devState ≠ Dev.parked) (hst : s.laneStatus x = Stat.boot) :
    (s.completeSeen x).laneStatus x = Stat.up ∧ (s.lane x).aside ((s.completeSeen x).lane x) := by
  obtain ⟨hnote, -, -, haside⟩ := setStatus_outcome (s := s) (x := x) (v := Stat.up) (c := 0) (hst ▸ by decide) hp hb
    (by decide) (by decide)
  have hall : follows lasting (s.setStatus x Stat.up 0) (s.setStatus x Stat.up 0).capUpdate.outputUpdate :=
    follows_outputUpdate (follows_capUpdate (follows_refl lasting_sub))
  rw [completeSeen_eq hp hst]
  exact ⟨(laneStatus_of_follows status_mem hall).trans hnote.status,
    LaneState.aside_trans (haside rfl) (follows_lane hall x)⟩

/-- A lane whose checks and locks succeed completes its start-up. -/
theorem exec_laneStartUpComplete (hb : s.bedrockRuns = true) (hl : s.bed.get F.BSYS_BCFG_LOADED = 1)
    (h0 : (s.lane x).boot = .load) (h1 : ((s.bootCheck x).lane x).boot = .load)
    (h2 : (((s.bootCheck x).bootLock x).lane x).boot = .load) : ∃ f : SieveState → SieveState,
    exec (.laneStartUpComplete x us) s =
      done ((((s.bootCheck x).bootLock x).modLane x fun l => (l.pairsRelease us).modSieve f).completeSeen x) := by
  have himage : s.bootImage x = s := if_pos (by
    rw [show (s.lane x).power.boot = .load from h0]
    decide)
  show ∃ f, execLaneStartUpComplete x us s = _
  unfold execLaneStartUpComplete
  rw [himage]
  dsimp only
  rw [if_neg (by simp [h0, hb]), if_neg (by omega), if_neg (not_not.mpr h1), if_neg (not_not.mpr h2)]
  exact ⟨_, rfl⟩

end State

/-- Settles O25: a change of status records itself, and Bedrock's follow-up leaves the record and the lanes aside; START ends
by its count of lanes that are UP. -/
theorem laneStatusChanges : Obligations.LaneStatusChanges := by
  unfold Obligations.LaneStatusChanges
  intro s x us p hp hb
  have hlost : ∀ c, (s.laneStatus x = Stat.up ∨ s.laneStatus x = Stat.boot) →
      s.laneLost x c = s.setStatus x Stat.lost c ∧ s.laneStatus x ≠ Stat.lost := fun c hst =>
    ⟨if_pos hst.symm, by rcases hst with h | h <;> rw [h] <;> decide⟩
  refine ⟨fun hbeat hst => ?heartbeat, fun hst => ?missing, fun hdown hst => ?laneDown, fun hwire hst => ?kilnFail,
    fun hl h0 h1 h2 hst hp4 hf => ?complete, fun hd hA hB => ?noneUp, fun hd hx hlink hsingle htst => ?single⟩
  case heartbeat =>
    have hne : s.laneStatus x ≠ Stat.boot := by rcases hst with h | h | h <;> rw [h] <;> decide
    obtain ⟨hnote, hmem, -, -⟩ := State.setStatus_outcome (c := 0) hne hp hb (by decide) (by decide)
    exact ⟨_, congrArg done (if_pos ⟨hbeat, hst⟩), hnote.status, hnote.rseq rfl, hnote.peer, hmem⟩
  case missing =>
    obtain ⟨heq, hne⟩ := hlost 3 hst
    obtain ⟨hnote, hmem, hdown, -⟩ := State.setStatus_outcome (c := 3) hne hp hb (by decide) (by decide)
    obtain ⟨hcap, hconsent⟩ := hdown (by decide)
    exact ⟨_, congrArg done heq, hnote.status, hnote.cause (by decide), hnote.peer, hcap, hconsent, hmem⟩
  case laneDown =>
    obtain ⟨heq, hne⟩ := hlost 2 hst
    obtain ⟨hnote, -, hlow, -⟩ := State.setStatus_outcome (c := 2) hne hp hb (by decide) (by decide)
    obtain ⟨hcap, -⟩ := hlow (by decide)
    exact ⟨_, congrArg done ((if_pos hdown).trans heq), hnote.status, hnote.cause (by decide), hnote.peer, hcap⟩
  case kilnFail =>
    have hne : s.laneStatus x ≠ Stat.excluded := by rw [hst]; decide
    obtain ⟨hnote, -, hlow, -⟩ := State.setStatus_outcome (c := 0) hne hp hb (by decide) (by decide)
    obtain ⟨hcap, -⟩ := hlow (by decide)
    exact ⟨_, congrArg done (if_pos ⟨hwire, hst⟩), hnote.status, hnote.peer, hcap⟩
  case complete =>
    obtain ⟨f, hexec⟩ := State.exec_laneStartUpComplete (us := us) hb hl h0 h1 h2
    set u := (s.bootCheck x).bootLock x with hu
    have hdev : s.sameDevice (u.modLane x fun l => (l.pairsRelease us).modSieve f) :=
      State.sameDevice_trans (State.sameDevice_trans State.sameDevice_bootCheck State.sameDevice_bootLock)
        (State.sameDevice_of_bed (State.bed_modLane _ _ _))
    obtain ⟨hup, haside⟩ := State.completeSeen_outcome (x := x) ((State.bedrockRuns_of_sameDevice hdev).trans hb)
      ((State.devState_of_sameDevice hdev).trans_ne hp) ((State.laneStatus_of_sameDevice hdev).trans hst)
    rw [State.lane_modLane_same] at haside
    obtain ⟨hboot, htime, hrel⟩ := (u.lane x).pairsRelease_outcome (us := us) (p := p)
    refine ⟨_, hexec, ?_, haside.time.trans htime, hup, ?_⟩
    · exact (congrArg Power.boot haside.power).trans hboot
    · exact (congrArg Pair.released (LaneState.pair_congr haside.pairs)).trans (hrel hp4 hf)
  case noneUp =>
    obtain ⟨hsafe, hcause⟩ := State.deviceSafe_records (s := s) (c := 6) hb (.inr (.inr ⟨hd, rfl⟩)) (by decide)
    refine ⟨_, congrArg done (State.startExit_noneUp hd hb hA hB), hsafe, hcause, ?_⟩
    exact State.laneStatus_of_follows State.status_mem (State.follows_deviceSafe (State.follows_refl State.lasting_sub))
  case single =>
    exact ⟨_, congrArg done (State.startExit_single hd hb hx hsingle htst), State.startToIdle_outcome hb hx hlink⟩
end Sys2Proof.Machine
end

section
/-! SUPPORT and SETTLED. SELECT words (O26). -/
namespace Sys2Proof.Machine
open Sys2Proof

/-- DRIVE, while a SELECT word awaits its acknowledgement and a terminal request of bridge 0 its boundary (R226, R259). -/
def wordAndRequestWait : State :=
  (State.reset.bput F.BSYS_DEVSTAT_DEVSTATE Dev.drive).sendSelect.modUnit 0 fun u => { u with treq := true }

/-- Entering DEVICE_SAFE drops the request that waits: it acts in DRIVE only (R259). -/
theorem wordAndRequestWait_deviceSafe : ((wordAndRequestWait.deviceSafe 5).unit 0).treq = false := by decide +kernel

/-- Refutes O26: in DRIVE a terminal request may wait for its boundary; a SELECT word that no acknowledgement answers drops
it, which changes the bridge die. -/
theorem not_selectionWords : ¬ Obligations.SelectionWords := by
  unfold Obligations.SelectionWords
  intro h
  obtain ⟨-, -, -, -, -, -, htimeout, -⟩ := h wordAndRequestWait ⟨[], [], 0, 0, true, 0, true⟩ 0 []
  have hruns : wordAndRequestWait.bedrockRuns = true := by decide +kernel
  have hout : wordAndRequestWait.bed.selOut.isSome = true := by decide +kernel
  obtain ⟨t, ht, -, -, -, hbrg⟩ := htimeout hruns hout (.inr (by decide +kernel))
  obtain rfl : wordAndRequestWait.deviceSafe 5 = t := by
    have he : exec .selectTimeout wordAndRequestWait = done (if wordAndRequestWait.bed.selOut.isSome ∧
        wordAndRequestWait.bedrockRuns then wordAndRequestWait.deviceSafe 5 else wordAndRequestWait) := rfl
    rw [he, if_pos ⟨hout, hruns⟩] at ht
    exact Host.Outcome.next.inj ht
  have hdrop := wordAndRequestWait_deviceSafe
  rw [State.unit, hbrg] at hdrop
  exact absurd hdrop (by decide +kernel)
end Sys2Proof.Machine
end

section
/-! SUPPORT. What an event of a bridge leaves of the rest of the device (R243, R263, R266). -/
namespace Sys2Proof.Machine
open Sys2Proof

/-! ### The registers of a bridge's page -/

section
variable {n m d : Nat}

theorem inPage_brg (h : 0x60000000 ≤ d ∧ d < 0x60001000) : inPage (P.BRG n) (d + 0x1000 * n) := by
  unfold inPage P.BRG
  omega

theorem not_inPage_of_ne {a : Nat} (h : m ≠ n) (ha : inPage (P.BRG m) a) : ¬inPage (P.BRG n) a := by
  unfold inPage P.BRG at *
  omega

/-- The registers in which a bridge counts and shows what befalls its gates (R247, R251, R255, R266). -/
def tally (n a : Nat) : Prop :=
  a = R.evtCnt (P.BRG n) ∨ a = R.BRG_EVT n ∨ a = R.BRG_INTLKCNT n ∨ a = R.BRG_REFCNT n

theorem inPage_evtCnt : inPage (P.BRG n) (R.evtCnt (P.BRG n)) := by
  unfold inPage R.evtCnt
  omega

theorem inPage_tally {a : Nat} (h : tally n a) : inPage (P.BRG n) a := by
  obtain rfl | rfl | rfl | rfl := h
  exacts [inPage_evtCnt, inPage_brg (by decide), inPage_brg (by decide),
    inPage_brg (by decide)]

theorem not_tally (h : d ∉ [0x60000034, 0x60000138, 0x6000013c, 0x60000140]) : ¬tally n (d + 0x1000 * n) := by
  simp only [List.mem_cons, List.not_mem_nil, or_false, not_or] at h
  unfold tally R.evtCnt P.BRG R.BRG_EVT R.BRG_INTLKCNT R.BRG_REFCNT
  omega

theorem evtCnt_brg : R.evtCnt (P.BRG n) = 0x60000034 + 0x1000 * n := by
  unfold R.evtCnt P.BRG
  omega

theorem brgReg_ne {e : Nat} (h : d ≠ e) : d + 0x1000 * n ≠ e + 0x1000 * n := by omega
end

/-! ### The bridge die -/

namespace BrgState
variable {b c e : BrgState} {n : Nat} {hole : Nat → Prop} {f : Fld}

/-- The bridge die is the same but for the registers that `hole` picks, its bridges' mechanisms, its timebase and the
sequence numbers of its frames. -/
structure confined (hole : Nat → Prop) (b c : BrgState) : Prop where
  regs : sameBrgRegs b c hole
  pllHold : c.pllHold = b.pllHold
  locked : c.locked = b.locked
  strapped : c.strapped = b.strapped
  sampleK : c.sampleK = b.sampleK

theorem confined_refl : confined hole b b := ⟨fun _ _ => rfl, rfl, rfl, rfl, rfl⟩

theorem confined.get (h : confined hole b c) (hf : ¬hole f.addr) : c.get f = b.get f :=
  congrArg (getBits · f.lo f.width) (h.regs _ hf)

theorem confined.mono {hole' : Nat → Prop} (h : confined hole b c) (hh : ∀ a, hole a → hole' a) : confined hole' b c :=
  ⟨fun a ha => h.regs a fun k => ha (hh a k), h.pllHold, h.locked, h.strapped, h.sampleK⟩

theorem confined_ite {p : Prop} [Decidable p] (h : confined hole b c) (h' : confined hole b e) :
    confined hole b (if p then c else e) := by
  split
  exacts [h, h']

theorem confined_wr {a : Nat} {w : Word} (ha : hole a) (h : confined hole b c) : confined hole b (c.wr a w) :=
  ⟨fun _ hr => (rd_wr_ne _ _ (by rintro rfl; exact hr ha)).trans (h.regs _ hr), h.pllHold, h.locked, h.strapped, h.sampleK⟩

theorem confined_put {v : Nat} (hf : hole f.addr) (h : confined hole b c) : confined hole b (c.put f v) := confined_wr hf h

theorem confined_bump {k : Nat} (hf : hole f.addr) (h : confined hole b c) : confined hole b (c.bump f k) := confined_wr hf h

theorem confined_modUnit {m : Nat} {g : BridgeUnit → BridgeUnit} (h : confined hole b c) : confined hole b (c.modUnit m g) :=
  ⟨h.regs, h.pllHold, h.locked, h.strapped, h.sampleK⟩

theorem confined_count {p k : Nat} (hp : hole (R.evtCnt p)) (h : confined hole b c) : confined hole b (c.count p k) :=
  confined_ite (confined_wr hp h) h

theorem confined_countK {code k : Nat} (hp : hole (R.evtCnt (P.BRG n))) (h : confined hole b c) :
    confined hole b (c.countK n code k) := foldl_keeps (confined hole b) (fun _ _ => confined_count hp) _ _ h

/-! What a drive tallies. -/

section
variable (ht : ∀ a, tally n a → hole a)
include ht

theorem confined_dropped {k : Nat} (h : confined hole b c) : confined hole b (c.dropped n k) :=
  confined_ite h (confined_countK (ht _ (.inl rfl)) (confined_put (ht _ (.inr (.inl rfl))) h))

theorem confined_refusedGates {k : Nat} (h : confined hole b c) : confined hole b (c.refusedGates n k) :=
  confined_ite h (confined_countK (ht _ (.inl rfl))
    (confined_put (ht _ (.inr (.inl rfl))) (confined_bump (ht _ (.inr (.inr (.inl rfl)))) h)))

theorem confined_uvRefreshed {k : Nat} (h : confined hole b c) : confined hole b (c.uvRefreshed n k) :=
  confined_ite h (confined_countK (ht _ (.inl rfl))
    (confined_put (ht _ (.inr (.inl rfl))) (confined_bump (ht _ (.inr (.inr (.inr rfl)))) h)))

theorem confined_setDrive {start : Bool} {t : Tri (PhaseDrive × Bool)} (h : confined hole b c) :
    confined hole b (c.setDrive n start t) :=
  confined_uvRefreshed ht (confined_refusedGates ht (confined_dropped ht (confined_modUnit h)))
end

/-! ### The mechanisms of a bridge -/

theorem unit_of_units (h : c.units = b.units) : c.unit n = b.unit n := congrArg (Table.get _ · n) h

@[simp] theorem unit_modUnit_same {g : BridgeUnit → BridgeUnit} : (b.modUnit n g).unit n = g (b.unit n) :=
  Table.get_set_same _ _ _ _

@[simp] theorem units_count {p k : Nat} : (b.count p k).units = b.units := by
  unfold count
  split
  · rfl
  · rfl

@[simp] theorem units_countK {code k : Nat} : (b.countK n code k).units = b.units :=
  foldl_keeps (fun c : BrgState => c.units = b.units) (fun _ _ => units_count.trans) _ _ rfl

@[simp] theorem units_dropped {k : Nat} : (b.dropped n k).units = b.units := by
  unfold dropped
  split
  · rfl
  · exact units_countK

@[simp] theorem units_refusedGates {k : Nat} : (b.refusedGates n k).units = b.units := by
  unfold refusedGates
  split
  · rfl
  · exact units_countK

@[simp] theorem units_uvRefreshed {k : Nat} : (b.uvRefreshed n k).units = b.units := by
  unfold uvRefreshed
  split
  · rfl
  · exact units_countK
end BrgState

namespace BridgeUnit
variable {u v w : BridgeUnit}

/-- The low time of BEN_n and the decoder's code are the same. -/
def samePins (u v : BridgeUnit) : Prop := v.benLow = u.benLow ∧ v.code = u.code

theorem samePins_trans (h : samePins u v) (h' : samePins v w) : samePins u w := ⟨h'.1.trans h.1, h'.2.trans h.2⟩

theorem samePins_take {k : PhaseTimes} {start : Bool} {e : PhaseDrive × Bool} {p : Nat} :
    samePins u (u.take k start e p).1 := by
  unfold take
  dsimp only
  split
  · exact ⟨rfl, rfl⟩
  · exact ⟨rfl, rfl⟩

/-- What a STATUS frame with the bits `w` leaves of a bridge: its event bits restart (R263). -/
def reported (u : BridgeUnit) (w : Nat × Nat) : BridgeUnit :=
  { u with evIntlk := false, evCode := false, evBuvref := false, evClrref := false, sent := w }
end BridgeUnit

theorem BrgState.samePins_setDrive {b : BrgState} {n : Nat} {start : Bool} {t : Tri (PhaseDrive × Bool)} :
    (b.unit n).samePins ((b.setDrive n start t).unit n) := by
  unfold setDrive
  extract_lets k u v w b1 b2 b3
  have hunit : (b3.uvRefreshed n (u.2.uv + v.2.uv + w.2.uv)).unit n = w.1 :=
    (unit_of_units (units_uvRefreshed.trans (units_refusedGates.trans units_dropped))).trans unit_modUnit_same
  rw [hunit]
  exact BridgeUnit.samePins_trans BridgeUnit.samePins_take
    (BridgeUnit.samePins_trans BridgeUnit.samePins_take BridgeUnit.samePins_take)

/-! ### The device -/

namespace LaneState
variable {l m : LaneState}

/-- The lane is the same but for its links. -/
def linksOnly (l m : LaneState) : Prop := ∃ k, m = { l with links := k }

theorem linksOnly_refl : l.linksOnly l := ⟨l.links, rfl⟩

theorem linksOnly_links {f : Links → Links} (h : l.linksOnly m) : l.linksOnly { m with links := f m.links } := by
  obtain ⟨k, rfl⟩ := h
  exact ⟨f k, rfl⟩

theorem linksOnly.regs (h : l.linksOnly m) : m.regs = l.regs := by
  obtain ⟨k, rfl⟩ := h
  rfl

theorem linksOnly.events (h : l.linksOnly m) : m.events = l.events := by
  obtain ⟨k, rfl⟩ := h
  rfl
end LaneState

namespace State
open BrgState
variable {s t u : State} {n r : Nat} {hole : Nat → Prop} {f : Fld} {x : Lane}

/-- The device is the same but for frames on their way to the lanes, and a bridge die of which `hole` picks the registers
that may differ. -/
structure confined (hole : Nat → Prop) (s t : State) : Prop where
  bed : t.bed = s.bed
  laneA : s.a.linksOnly t.a
  laneB : s.b.linksOnly t.b
  brg : BrgState.confined hole s.brg t.brg

theorem confined_refl : confined hole s s :=
  ⟨rfl, LaneState.linksOnly_refl, LaneState.linksOnly_refl, BrgState.confined_refl⟩

theorem confined.lane (h : confined hole s t) : (s.lane x).linksOnly (t.lane x) := by
  cases x
  exacts [h.laneA, h.laneB]

/-- What the two lanes, Bedrock and the rest of the bridge die show is the same. -/
theorem confined.frame (h : confined hole s t) :
    sameBrgRegs s.brg t.brg hole ∧ t.bed = s.bed ∧ t.a.regs = s.a.regs ∧ t.b.regs = s.b.regs :=
  ⟨h.brg.regs, h.bed, h.laneA.regs, h.laneB.regs⟩

theorem confined_ite {p : Prop} [Decidable p] (h : confined hole s t) (h' : confined hole s u) :
    confined hole s (if p then t else u) := by
  split
  exacts [h, h']

theorem confined_modBrg {g : BrgState → BrgState}
    (hg : BrgState.confined hole s.brg t.brg → BrgState.confined hole s.brg (g t.brg)) (h : confined hole s t) :
    confined hole s (t.modBrg g) := ⟨h.bed, h.laneA, h.laneB, hg h.brg⟩

theorem confined_put {v : Nat} (hf : hole f.addr) (h : confined hole s t) : confined hole s (t.modBrg (·.put f v)) :=
  confined_modBrg (BrgState.confined_put hf) h

theorem confined_modUnit {m : Nat} {g : BridgeUnit → BridgeUnit} (h : confined hole s t) : confined hole s (t.modUnit m g) :=
  confined_modBrg BrgState.confined_modUnit h

theorem confined_sendUp {typ m arg : Nat} {pay : List Half} (h : confined hole s t) :
    confined hole s (t.sendUp x typ m arg pay) := by
  obtain ⟨hbed, hA, hB, hbrg⟩ := h
  obtain ⟨hregs, hp, hl, hs, hk⟩ := hbrg
  cases x
  · exact ⟨hbed, LaneState.linksOnly_links (f := fun k => { k with blUp := k.blUp ++ _ }) hA, hB, hregs, hp, hl, hs, hk⟩
  · exact ⟨hbed, hA, LaneState.linksOnly_links (f := fun k => { k with blUp := k.blUp ++ _ }) hB, hregs, hp, hl, hs, hk⟩

theorem confined_sendUpBoth {typ m arg : Nat} {pay : List Half} (h : confined hole s t) :
    confined hole s (t.sendUpBoth typ m arg pay) := confined_sendUp (confined_sendUp h)

theorem confined_sendStatus {m : Nat} (h : confined hole s t) : confined hole s (t.sendStatus m) :=
  confined_modUnit (confined_sendUpBoth h)

theorem confined_statusCheck {m : Nat} (h : confined hole s t) : confined hole s (t.statusCheck m) :=
  confined_ite (confined_sendStatus h) h

/-- What a STATUS frame does not restart stays. -/
theorem unit_statusCheck {α : Type} (g : BridgeUnit → α) (hg : ∀ u w, g (u.reported w) = g u) :
    g ((s.statusCheck n).unit n) = g (s.unit n) := by
  unfold statusCheck
  dsimp only
  split
  · exact (congrArg g unit_modUnit_same).trans (hg _ _)
  · rfl

/-! ### The rank of a bridge (R243) -/

/-- The state once precharge has ended or begun for the new rank. -/
def preUpdate (s : State) (n : Nat) : State :=
  let old := s.brg.get (F.BRG_BSTAT_DRIVE n)
  let u := s.unit n
  let s := if s.rankOf n < 8 then s.modBrg (·.put (F.BRG_BSTAT_PRE n) 0) else s
  if s.rankOf n = 9 ∧ (old = 7 ∨ (old ≤ 6 ∧ u.allLow)) ∧ s.brg.get (F.BRG_BOOT_PRECHG n) ≠ 0 then
    s.modBrg (·.put (F.BRG_BSTAT_PRE n) 1) else s

/-- A rank below 9 drives its gates at once. -/
def driveRank (s : State) (n r : Nat) : State :=
  if r < 9 then
    (s.modBrg (·.setDrive n false (s.rankDrive n r).1)).modUnit n fun x =>
      { x with live := false, allLow := (s.rankDrive n r).2 }
  else s

/-- The state whose BSTAT shows the rank in force. -/
def showRank (s : State) (n : Nat) : State :=
  (s.preUpdate n).modBrg (·.put (F.BRG_BSTAT_DRIVE n) ((s.preUpdate n).rankOf n))

theorem rankUpdate_eq : s.rankUpdate n = ((s.showRank n).driveRank n ((s.preUpdate n).rankOf n)).statusCheck n := rfl

/-- PRE is all of the bridge die that the precharge changes. -/
theorem preUpdate_cases : s.preUpdate n = s ∨ ∃ v, s.preUpdate n = s.modBrg (·.put (F.BRG_BSTAT_PRE n) v) ∨
    s.preUpdate n = (s.modBrg (·.put (F.BRG_BSTAT_PRE n) 0)).modBrg (·.put (F.BRG_BSTAT_PRE n) v) := by
  unfold preUpdate
  dsimp only
  split
  · split
    · exact .inr ⟨1, .inr rfl⟩
    · exact .inr ⟨0, .inl rfl⟩
  · split
    · exact .inr ⟨1, .inl rfl⟩
    · exact .inl rfl

theorem confined_preUpdate (hb : hole (R.BRG_BSTAT n)) (h : confined hole s t) : confined hole s (t.preUpdate n) := by
  obtain he | ⟨v, he | he⟩ := preUpdate_cases (s := t) (n := n)
  · rwa [he]
  · rw [he]
    exact confined_put hb h
  · rw [he]
    exact confined_put hb (confined_put hb h)

theorem unit_preUpdate : (s.preUpdate n).unit n = s.unit n := by
  obtain he | ⟨v, he | he⟩ := preUpdate_cases (s := s) (n := n)
  · rw [he]
  · rw [he]
    rfl
  · rw [he]
    rfl

theorem get_preUpdate (hf : f.addr ≠ R.BRG_BSTAT n ∨ f.lo + f.width ≤ 13 ∨ 14 ≤ f.lo) :
    (s.preUpdate n).brg.get f = s.brg.get f := by
  have hput : ∀ (m : State) (v : Nat), (m.modBrg (·.put (F.BRG_BSTAT_PRE n) v)).brg.get f = m.brg.get f := fun m v =>
    hf.elim (fun ha => get_put_ne _ _ _ _ ha) fun hd => get_put_disjoint _ _ _ _ (by decide : 13 + 1 ≤ 32) hd
  obtain he | ⟨v, he | he⟩ := preUpdate_cases (s := s) (n := n)
  · rw [he]
  · rw [he, hput]
  · rw [he, hput, hput]

theorem confined_driveRank (ht : ∀ a, tally n a → hole a) (h : confined hole s t) : confined hole s (t.driveRank n r) :=
  confined_ite (confined_modUnit (confined_modBrg (confined_setDrive ht) h)) h

theorem confined_rankUpdate (ht : ∀ a, tally n a → hole a) (hb : hole (R.BRG_BSTAT n)) (h : confined hole s t) :
    confined hole s (t.rankUpdate n) :=
  confined_statusCheck (confined_driveRank ht (confined_put hb (confined_preUpdate hb h)))

/-- The gates of a rank leave what BSTAT shows. -/
theorem confined_showRank : confined (tally n) (s.showRank n) (s.rankUpdate n) :=
  confined_statusCheck (confined_driveRank (fun _ h => h) confined_refl)

theorem bstat_not_tally : ¬tally n (R.BRG_BSTAT n) := not_tally (by decide)

theorem drive_rankUpdate : (s.rankUpdate n).brg.get (F.BRG_BSTAT_DRIVE n) = (s.preUpdate n).rankOf n % 16 :=
  (confined_showRank.brg.get bstat_not_tally).trans (get_put_same _ _ _ (by decide : 0 + 4 ≤ 32))

theorem pre_rankUpdate : (s.rankUpdate n).brg.get (F.BRG_BSTAT_PRE n) = (s.preUpdate n).brg.get (F.BRG_BSTAT_PRE n) :=
  (confined_showRank.brg.get bstat_not_tally).trans
    (get_put_disjoint _ _ _ _ (by decide : 0 + 4 ≤ 32) (.inr (by decide : 0 + 4 ≤ 13)))

/-- A field of BSTAT beside DRIVE and PRE stays. -/
theorem bstat_rankUpdate (hf : f.addr = R.BRG_BSTAT n) (hd : 4 ≤ f.lo) (hp : f.lo + f.width ≤ 13 ∨ 14 ≤ f.lo) :
    (s.rankUpdate n).brg.get f = s.brg.get f :=
  (confined_showRank.brg.get (hf ▸ bstat_not_tally)).trans
    ((get_put_disjoint _ _ _ _ (by decide : 0 + 4 ≤ 32) (.inr (show 0 + 4 ≤ f.lo by omega))).trans
      (get_preUpdate (.inr hp)))

/-- A register that is neither BSTAT nor counts events stays. -/
theorem rd_rankUpdate {a : Nat} (ht : ¬tally n a) (hb : a ≠ R.BRG_BSTAT n) : (s.rankUpdate n).brg.rd a = s.brg.rd a :=
  (confined_rankUpdate (hole := fun a => tally n a ∨ a = R.BRG_BSTAT n) (fun _ => .inl) (.inr rfl) confined_refl).brg.regs a
    fun h => h.elim ht hb

theorem unit_modUnit_same {g : BridgeUnit → BridgeUnit} : (s.modUnit n g).unit n = g (s.unit n) :=
  BrgState.unit_modUnit_same

theorem unit_modBrg_put {v : Nat} : (s.modBrg (·.put f v)).unit n = s.unit n := rfl

theorem samePins_driveRank : (s.unit n).samePins ((s.driveRank n r).unit n) := by
  unfold driveRank
  split
  · rw [unit_modUnit_same]
    exact BrgState.samePins_setDrive
  · exact ⟨rfl, rfl⟩

theorem samePins_statusCheck : (s.unit n).samePins ((s.statusCheck n).unit n) :=
  ⟨unit_statusCheck BridgeUnit.benLow fun _ _ => rfl, unit_statusCheck BridgeUnit.code fun _ _ => rfl⟩

theorem samePins_rankUpdate : (s.unit n).samePins ((s.rankUpdate n).unit n) := by
  have hshow : (s.showRank n).unit n = s.unit n := unit_modBrg_put.trans unit_preUpdate
  rw [rankUpdate_eq, ← hshow]
  exact BridgeUnit.samePins_trans samePins_driveRank samePins_statusCheck

/-! What bounds a rank. -/

theorem rankOf_benOff (h : (s.unit n).benOff = true) : s.rankOf n = 1 := if_pos h

theorem rankOf_pllHold (h : s.brg.pllHold = true) : s.rankOf n ≤ 2 := by
  unfold rankOf
  dsimp only
  rw [h, Bool.or_true, Bool.true_or, if_pos rfl]
  split
  · decide
  · decide

theorem rankOf_desat (h : s.brg.get (F.BRG_FLTLAT_DESAT n) ≠ 0) : s.rankOf n ≤ 3 := by
  unfold rankOf
  dsimp only
  rw [if_pos h]
  split
  · decide
  · split
    · decide
    · decide

theorem rankOf_fault (h : s.brg.rd (R.BRG_FLTLAT n) ≠ 0) : s.rankOf n ≤ 5 := by
  unfold rankOf
  dsimp only
  rw [if_pos h]
  split
  · decide
  · split
    · decide
    · split
      · decide
      · split
        · decide
        · decide

theorem drive_benOff (h : (s.unit n).benOff = true) : (s.rankUpdate n).brg.get (F.BRG_BSTAT_DRIVE n) = 1 ∧
    (s.rankUpdate n).brg.get (F.BRG_BSTAT_PRE n) = 0 := by
  have hpre : s.preUpdate n = s.modBrg (·.put (F.BRG_BSTAT_PRE n) 0) := by
    unfold preUpdate
    dsimp only
    have hlow : s.rankOf n < 8 := by
      rw [rankOf_benOff h]
      decide
    have hnot9 : (s.modBrg (·.put (F.BRG_BSTAT_PRE n) 0)).rankOf n ≠ 9 := by
      rw [rankOf_benOff (s := s.modBrg (·.put (F.BRG_BSTAT_PRE n) 0)) h]
      decide
    rw [if_pos hlow, if_neg fun h9 => hnot9 h9.1]
  refine ⟨?_, ?_⟩
  · rw [drive_rankUpdate, rankOf_benOff (unit_preUpdate (s := s) ▸ h)]
  · rw [pre_rankUpdate, hpre]
    exact get_put_same _ _ _ (by decide : 13 + 1 ≤ 32)

theorem drive_pllHold (h : s.brg.pllHold = true) : (s.rankUpdate n).brg.get (F.BRG_BSTAT_DRIVE n) ≤ 2 := by
  rw [drive_rankUpdate]
  exact (Nat.mod_le _ _).trans (rankOf_pllHold
    ((confined_preUpdate (hole := fun _ => True) trivial confined_refl).brg.pllHold.trans h))

theorem drive_desat (h : s.brg.get (F.BRG_FLTLAT_DESAT n) ≠ 0) : (s.rankUpdate n).brg.get (F.BRG_BSTAT_DRIVE n) ≤ 3 := by
  rw [drive_rankUpdate]
  exact (Nat.mod_le _ _).trans (rankOf_desat
    ((get_preUpdate (.inl (brgReg_ne (by decide) : R.BRG_FLTLAT n ≠ R.BRG_BSTAT n))).trans_ne h))

theorem drive_fault (h : s.brg.rd (R.BRG_FLTLAT n) ≠ 0) : (s.rankUpdate n).brg.get (F.BRG_BSTAT_DRIVE n) ≤ 5 := by
  rw [drive_rankUpdate]
  exact (Nat.mod_le _ _).trans (rankOf_fault
    (((confined_preUpdate (hole := (· = R.BRG_BSTAT n)) rfl confined_refl).brg.regs _ (brgReg_ne (by decide))).trans_ne h))
end State
end Sys2Proof.Machine
end

section
/-! SUPPORT and SETTLED. Faults of a bridge (O28). -/
namespace Sys2Proof.Machine
open Sys2Proof

@[simp] theorem Tri.get_set_same {α : Type} (t : Tri α) (p : Nat) (x : α) : (t.set p x).get p = x := by
  unfold Tri.get Tri.set
  split
  · rfl
  · split
    · rfl
    · rfl

namespace BrgState
variable {b : BrgState} {n i m : Nat} {f : Fld}

/-- A bit that is or-ed into a field stands in its register. -/
theorem getLsbD_put_or (hw : f.lo + f.width ≤ 32) (hi : i < f.width) (hm : m.testBit i = true) :
    ((b.put f (b.get f ||| m)).rd f.addr).getLsbD (f.lo + i) = true := by
  have hrd : (b.put f (b.get f ||| m)).rd f.addr = setBits (b.rd f.addr) f.lo f.width (b.get f ||| m) := rd_wr_same _ _ _
  rw [hrd, setBits_getLsbD _ _ _ _ _ hw, if_pos ⟨Nat.le_add_right _ _, Nat.add_lt_add_left hi _⟩, Nat.add_sub_cancel_left,
    Nat.testBit_or, hm, Bool.or_true]

/-- A field of one bit into which 1 is or-ed. -/
theorem get_put_flag (hw : f.width = 1) (hlo : f.lo < 32) : (b.put f (b.get f ||| 1)).get f = 1 := by
  rw [get_put_same _ _ _ (by omega), hw]
  simp

theorem rd_put_ne {v a : Nat} (h : a ≠ f.addr) : (b.put f v).rd a = b.rd a := RegFile.rd_put_ne _ _ _ h

theorem uvRefreshed_values : (b.uvRefreshed n 1).get (F.BRG_REFCNT_UV n) = min (b.get (F.BRG_REFCNT_UV n) + 1) 0xFFFF ∧
    (b.uvRefreshed n 1).get (F.BRG_EVT_BUVREF n) = 1 := by
  have hk : confined (· = R.evtCnt (P.BRG n)) ((b.bump (F.BRG_REFCNT_UV n) 1).put (F.BRG_EVT_BUVREF n) 1)
      (b.uvRefreshed n 1) := confined_countK rfl confined_refl
  refine ⟨?_, ?_⟩
  · rw [hk.get (evtCnt_brg ▸ brgReg_ne (by decide)), get_put_ne _ _ _ _ (brgReg_ne (by decide))]
    exact get_bump_same _ _ _ (by decide : 16 + 16 ≤ 32)
  · rw [hk.get (evtCnt_brg ▸ brgReg_ne (by decide))]
    exact get_put_same _ _ _ (by decide : 2 + 1 ≤ 32)

theorem get_reshape : (b.reshape n).get f = b.get f := rfl
end BrgState

namespace State
open BrgState
variable {s t : State} {n i m : Nat} {lat cause f : Fld}

/-! ### A fault latches (R256, R257) -/

/-- What a bridge does in its own page stays there. -/
theorem confined_rankUpdate_page (h : confined (inPage (P.BRG n)) s t) : confined (inPage (P.BRG n)) s (t.rankUpdate n) :=
  confined_rankUpdate (fun _ => inPage_tally) (inPage_brg (by decide)) h

theorem confined_latchFault (hl : inPage (P.BRG n) lat.addr) (hc : inPage (P.BRG n) cause.addr)
    (h : confined (inPage (P.BRG n)) s t) : confined (inPage (P.BRG n)) s (t.latchFault n lat cause m) :=
  confined_rankUpdate_page (confined_modBrg (fun h => BrgState.confined_put hc (BrgState.confined_put hl h)) h)

/-- Of the latches and their causes, what a fault leaves is what its two fields hold. -/
theorem get_latchFault_page (hf : f.addr = R.BRG_FLTLAT n ∨ f.addr = R.BRG_FLTCAUSE n) :
    (s.latchFault n lat cause m).brg.get f =
      ((s.brg.put lat (s.brg.get lat ||| m)).put cause (s.brg.get cause ||| m)).get f := by
  have hrank : ¬tally n f.addr ∧ f.addr ≠ R.BRG_BSTAT n := by
    obtain h | h := hf
    · exact h ▸ ⟨not_tally (by decide), brgReg_ne (by decide)⟩
    · exact h ▸ ⟨not_tally (by decide), brgReg_ne (by decide)⟩
  exact congrArg (getBits · f.lo f.width) (rd_rankUpdate hrank.1 hrank.2)

theorem get_latchFault_beside (hw : lat.lo + lat.width ≤ 32) (hw' : cause.lo + cause.width ≤ 32)
    (hf : f.addr = R.BRG_FLTLAT n ∨ f.addr = R.BRG_FLTCAUSE n)
    (hdl : f.lo + f.width ≤ lat.lo ∨ lat.lo + lat.width ≤ f.lo)
    (hdc : f.lo + f.width ≤ cause.lo ∨ cause.lo + cause.width ≤ f.lo) :
    (s.latchFault n lat cause m).brg.get f = s.brg.get f :=
  (get_latchFault_page hf).trans ((get_put_disjoint _ _ _ _ hw' hdc).trans (get_put_disjoint _ _ _ _ hw hdl))

section
variable (hl : lat.addr = R.BRG_FLTLAT n) (hc : cause.addr = R.BRG_FLTCAUSE n)
include hl hc

theorem fault_addrs_ne : lat.addr ≠ cause.addr := hl ▸ hc ▸ brgReg_ne (by decide)

/-- The latched bit, and the rank that it gives (R243). -/
theorem latchFault_bit (hw : lat.lo + lat.width ≤ 32) (hi : i < lat.width) (hm : m.testBit i = true) :
    ((s.latchFault n lat cause m).brg.rd (R.BRG_FLTLAT n)).getLsbD (lat.lo + i) = true ∧
      (s.latchFault n lat cause m).brg.get (F.BRG_BSTAT_DRIVE n) ≤ 5 := by
  have hput : (((s.brg.put lat (s.brg.get lat ||| m)).put cause (s.brg.get cause ||| m)).rd (R.BRG_FLTLAT n)).getLsbD
      (lat.lo + i) = true := by
    rw [← hl, BrgState.rd_put_ne (fault_addrs_ne hl hc)]
    exact getLsbD_put_or hw hi hm
  have hrd : (s.latchFault n lat cause m).brg.rd (R.BRG_FLTLAT n) =
      ((s.brg.put lat (s.brg.get lat ||| m)).put cause (s.brg.get cause ||| m)).rd (R.BRG_FLTLAT n) :=
    rd_rankUpdate (not_tally (by decide)) (brgReg_ne (by decide))
  refine ⟨(congrArg (BitVec.getLsbD · _) hrd).trans hput, drive_fault fun h0 => ?_⟩
  have hzero : ((s.brg.put lat (s.brg.get lat ||| m)).put cause (s.brg.get cause ||| m)).rd (R.BRG_FLTLAT n) = 0 := h0
  rw [hzero] at hput
  exact Bool.noConfusion (BitVec.getLsbD_zero.symm.trans hput)

/-- A latch of one bit, with its cause. -/
theorem latchFault_flag (hlw : lat.width = 1) (hlo : lat.lo < 32) (hcw : cause.width = 1) (hco : cause.lo < 32) :
    (s.latchFault n lat cause 1).brg.get lat = 1 ∧ (s.latchFault n lat cause 1).brg.get cause = 1 ∧
      (s.latchFault n lat cause 1).brg.get (F.BRG_BSTAT_DRIVE n) ≤ 5 := by
  have hne := fault_addrs_ne hl hc
  refine ⟨?_, ?_, (latchFault_bit (i := 0) hl hc (by omega) (by omega) rfl).2⟩
  · rw [get_latchFault_page (.inl hl), get_put_ne _ _ _ _ hne]
    exact get_put_flag hlw hlo
  · rw [get_latchFault_page (.inr hc), ← get_put_ne s.brg lat cause (s.brg.get lat ||| 1) hne.symm]
    exact get_put_flag hcw hco

theorem get_latchFault_bstat (hf : f.addr = R.BRG_BSTAT n) (hd : 4 ≤ f.lo) (hp : f.lo + f.width ≤ 13 ∨ 14 ≤ f.lo) :
    (s.latchFault n lat cause m).brg.get f = s.brg.get f :=
  (bstat_rankUpdate hf hd hp).trans ((get_put_ne _ _ _ _ (hf ▸ hc ▸ brgReg_ne (by decide))).trans
    (get_put_ne _ _ _ _ (hf ▸ hl ▸ brgReg_ne (by decide))))
end

/-! ### The supply, the temperature and the bootstrap supplies (R249, R251, R256) -/

theorem confined_supplyMeasured {v : Nat} : confined (inPage (P.BRG n)) s (supplyMeasured n v s) := by
  unfold supplyMeasured
  extract_lets lo hi live uv ov s1 s2
  have h1 : confined (inPage (P.BRG n)) s s1 := confined_modBrg (fun h => BrgState.confined_put
    (inPage_brg (by decide)) (BrgState.confined_put (inPage_brg (by decide)) h)) confined_refl
  have h2 : confined (inPage (P.BRG n)) s s2 := confined_ite
    (confined_latchFault (inPage_brg (by decide)) (inPage_brg (by decide)) h1) h1
  exact confined_ite (confined_latchFault (inPage_brg (by decide)) (inPage_brg (by decide)) h2) h2

theorem supplyMeasured_under {v : Nat} (hrun : s.brg.get (F.run (P.BRG n)) = 1)
    (hv : v < 500 * s.brg.get (F.BRG_VBRCFG_UVTH n)) :
    (supplyMeasured n v s).brg.get (F.BRG_FLTLAT_VBRUV n) = 1 ∧
      (supplyMeasured n v s).brg.get (F.BRG_FLTCAUSE_VBRUV n) = 1 ∧
      (supplyMeasured n v s).brg.get (F.BRG_BSTAT_DRIVE n) ≤ 5 := by
  unfold supplyMeasured
  extract_lets lo hi live uv ov s1 s2
  have huv : uv = 1 := if_pos (decide_eq_true hv)
  have hrun1 : s1.brg.get (F.run (P.BRG n)) = 1 := by
    have hne : ∀ d, 0x60000100 ≤ d → (F.run (P.BRG n)).addr ≠ d + 0x1000 * n := fun d hd => by
      show P.BRG n + 0x008 ≠ _
      unfold P.BRG
      omega
    exact (get_put_ne _ _ _ _ (hne _ (by decide))).trans ((get_put_ne _ _ _ _ (hne _ (by decide))).trans hrun)
  obtain ⟨hlat, hcause, hdrive⟩ := latchFault_flag (s := s1) (n := n) (lat := F.BRG_FLTLAT_VBRUV n)
    (cause := F.BRG_FLTCAUSE_VBRUV n) rfl rfl rfl (by decide : 16 < 32) rfl (by decide : 16 < 32)
  have h2 : s2 = s1.latchFault n (F.BRG_FLTLAT_VBRUV n) (F.BRG_FLTCAUSE_VBRUV n) 1 := if_pos ⟨huv, hrun1⟩
  rw [← h2] at hlat hcause hdrive
  split
  · have hbeside : ∀ f : Fld, f.addr = R.BRG_FLTLAT n ∨ f.addr = R.BRG_FLTCAUSE n → f.lo + f.width ≤ 17 →
        (s2.latchFault n (F.BRG_FLTLAT_VBROV n) (F.BRG_FLTCAUSE_VBROV n) 1).brg.get f = s2.brg.get f := fun f hf hw =>
      get_latchFault_beside (by decide : 17 + 1 ≤ 32) (by decide : 17 + 1 ≤ 32) hf (.inl hw) (.inl hw)
    exact ⟨(hbeside _ (.inl rfl) (by decide : 16 + 1 ≤ 17)).trans hlat,
      (hbeside _ (.inr rfl) (by decide : 16 + 1 ≤ 17)).trans hcause,
      (latchFault_flag rfl rfl rfl (by decide : 17 < 32) rfl (by decide : 17 < 32)).2.2⟩
  · exact ⟨hlat, hcause, hdrive⟩

theorem supplyMeasured_over {v : Nat} (hv : 500 * s.brg.get (F.BRG_VBRCFG_OVTH n) < v) :
    (supplyMeasured n v s).brg.get (F.BRG_FLTLAT_VBROV n) = 1 ∧
      (supplyMeasured n v s).brg.get (F.BRG_FLTCAUSE_VBROV n) = 1 ∧
      (supplyMeasured n v s).brg.get (F.BRG_BSTAT_DRIVE n) ≤ 5 := by
  unfold supplyMeasured
  extract_lets lo hi live uv ov s1 s2
  have hov : ov = 1 := if_pos (decide_eq_true hv)
  rw [if_pos hov]
  exact latchFault_flag rfl rfl rfl (by decide : 17 < 32) rfl (by decide : 17 < 32)

/-- The state that shows the temperature and the warning. -/
def tempShown (s : State) (n k : Nat) : State :=
  let s := s.modBrg (·.put (F.BRG_BSTAT_TEMP n) k)
  if s.brg.get (F.BRG_TEMPCFG_TWARN n) + 64 < k then s.modBrg (·.put (F.BRG_EVT_TWARN n) 1) else s

theorem temperature_eq {k : Nat} : temperature n k s =
    if 234 < k then (s.tempShown n k).latchFault n (F.BRG_FLTLAT_OTEMP n) (F.BRG_FLTCAUSE_OTEMP n) 1
    else (if k < 224 then (s.tempShown n k).modBrg (·.put (F.BRG_FLTCAUSE_OTEMP n) 0)
      else s.tempShown n k).statusCheck n := rfl

theorem confined_tempShown {k : Nat} {hole : Nat → Prop} (hb : hole (R.BRG_BSTAT n)) (he : hole (R.BRG_EVT n)) :
    confined hole s (s.tempShown n k) := by
  have h1 : confined hole s (s.modBrg (·.put (F.BRG_BSTAT_TEMP n) k)) := confined_put hb confined_refl
  exact confined_ite (confined_put he h1) h1

theorem confined_temperature {k : Nat} : confined (inPage (P.BRG n)) s (temperature n k s) := by
  have h1 : confined (inPage (P.BRG n)) s (s.tempShown n k) :=
    confined_tempShown (inPage_brg (by decide)) (inPage_brg (by decide))
  rw [temperature_eq]
  exact confined_ite (confined_latchFault (inPage_brg (by decide)) (inPage_brg (by decide)) h1)
    (confined_statusCheck (confined_ite (confined_put (inPage_brg (by decide)) h1) h1))

theorem tempShown_temp {k : Nat} (hk : k < 256) : (s.tempShown n k).brg.get (F.BRG_BSTAT_TEMP n) = k := by
  have hput : (s.brg.put (F.BRG_BSTAT_TEMP n) k).get (F.BRG_BSTAT_TEMP n) = k :=
    (get_put_same _ _ _ (by decide : 24 + 8 ≤ 32)).trans (Nat.mod_eq_of_lt hk)
  unfold tempShown
  dsimp only
  split
  · exact (get_put_ne _ _ _ _ (brgReg_ne (by decide))).trans hput
  · exact hput

theorem tempShown_drive {k : Nat} : (s.tempShown n k).brg.get (F.BRG_BSTAT_DRIVE n) = s.brg.get (F.BRG_BSTAT_DRIVE n) := by
  have hput : (s.brg.put (F.BRG_BSTAT_TEMP n) k).get (F.BRG_BSTAT_DRIVE n) = s.brg.get (F.BRG_BSTAT_DRIVE n) :=
    get_put_disjoint _ _ _ _ (by decide : 24 + 8 ≤ 32) (.inl (by decide : 0 + 4 ≤ 24))
  unfold tempShown
  dsimp only
  split
  · exact (get_put_ne _ _ _ _ (brgReg_ne (by decide))).trans hput
  · exact hput

theorem tempShown_warns {k : Nat} (hk : s.brg.get (F.BRG_TEMPCFG_TWARN n) + 64 < k) :
    (s.tempShown n k).brg.get (F.BRG_EVT_TWARN n) = 1 := by
  have hcfg : (s.brg.put (F.BRG_BSTAT_TEMP n) k).get (F.BRG_TEMPCFG_TWARN n) = s.brg.get (F.BRG_TEMPCFG_TWARN n) :=
    get_put_ne _ _ _ _ (brgReg_ne (by decide))
  have hif : (s.modBrg (·.put (F.BRG_BSTAT_TEMP n) k)).brg.get (F.BRG_TEMPCFG_TWARN n) + 64 < k := hcfg ▸ hk
  rw [show s.tempShown n k = (s.modBrg (·.put (F.BRG_BSTAT_TEMP n) k)).modBrg (·.put (F.BRG_EVT_TWARN n) 1) from if_pos hif]
  exact get_put_same _ _ _ (by decide : 3 + 1 ≤ 32)

theorem temperature_over {k : Nat} (hk : 234 < k) (hk' : k < 256) :
    (temperature n k s).brg.get (F.BRG_FLTLAT_OTEMP n) = 1 ∧ (temperature n k s).brg.get (F.BRG_BSTAT_TEMP n) = k ∧
      (temperature n k s).brg.get (F.BRG_BSTAT_DRIVE n) ≤ 5 := by
  rw [temperature_eq, if_pos hk]
  obtain ⟨hlat, -, hdrive⟩ := latchFault_flag (s := s.tempShown n k) (n := n) (lat := F.BRG_FLTLAT_OTEMP n)
    (cause := F.BRG_FLTCAUSE_OTEMP n) rfl rfl rfl (by decide : 18 < 32) rfl (by decide : 18 < 32)
  exact ⟨hlat, (get_latchFault_bstat rfl rfl rfl (by decide : 4 ≤ 24) (.inr (by decide : 14 ≤ 24))).trans
    (tempShown_temp hk'), hdrive⟩

/-- Below the limit of OTEMP the cause is all that a temperature changes but for what it shows. -/
theorem confined_temperature_below {k : Nat} (hk : k ≤ 234) :
    confined (· = R.BRG_FLTCAUSE n) (s.tempShown n k) (temperature n k s) := by
  rw [temperature_eq, if_neg (by omega)]
  exact confined_statusCheck (confined_ite (confined_put rfl confined_refl) confined_refl)

/-- A UV refresh after which VBS is low again, as the monitor notes it (R249, R251). -/
def uvRefreshLow (s : State) (n p start : Nat) : State :=
  ((s.modBrg (·.put (F.BRG_FLTCAUSE_BOOTUV n) (s.brg.get (F.BRG_FLTCAUSE_BOOTUV n) ||| 2 ^ p))).modUnit n
    fun x => { x with vbsLow := x.vbsLow.set p true }).modUnit n fun x => { x with
      starved := x.starved.set p 0, uvSeen := x.uvSeen.set p true, evBuvref := true
      uvAt := x.uvAt.set p (x.uvAt.get p ++ [(start : Int)])
      uvRuns := x.uvRuns.set p (x.uvRuns.get p + 1) }

/-- The state in which the refresh is counted, the gates are formed anew and a STATUS frame is due. -/
def uvRefreshEnd (s : State) (n p start : Nat) : State :=
  ((s.uvRefreshLow n p start).modBrg fun b => (b.uvRefreshed n 1).reshape n).statusCheck n

theorem bootUndervoltage_low {p start v v' : Nat} (hhi : ((s.unit n).drive.get p).hiAny = true)
    (hin : (s.unit n).intlk.get p = false) (hv : v < 6000 + 500 * s.brg.get (F.BRG_BOOT_BSUV n))
    (hv' : v' < 6000 + 500 * s.brg.get (F.BRG_BOOT_BSUV n)) :
    bootUndervoltage n p start v v' s = s.uvRefreshEnd n p start := by
  have hmon : ∀ (m : Nat) (l : Bool), m < 6000 + 500 * s.brg.get (F.BRG_BOOT_BSUV n) → s.brg.vbsMonitor n m l = true :=
    fun _ _ h => if_pos h
  unfold bootUndervoltage
  dsimp only
  rw [hmon v _ hv, hmon v' _ hv', hhi, hin]
  rfl

theorem uvRefresh_outcome {p start : Nat} :
    (s.uvRefreshEnd n p start).brg.get (F.BRG_REFCNT_UV n) = min (s.brg.get (F.BRG_REFCNT_UV n) + 1) 0xFFFF ∧
      (s.uvRefreshEnd n p start).brg.get (F.BRG_EVT_BUVREF n) = 1 ∧
      (s.uvRefreshEnd n p start).brg.get (F.BRG_BSTAT_DRIVE n) = s.brg.get (F.BRG_BSTAT_DRIVE n) := by
  set u := s.uvRefreshLow n p start
  have hcheck : confined (fun _ => False) (u.modBrg fun b => (b.uvRefreshed n 1).reshape n) (s.uvRefreshEnd n p start) :=
    confined_statusCheck confined_refl
  have hreg : ∀ f : Fld, (s.uvRefreshEnd n p start).brg.get f = (u.brg.uvRefreshed n 1).get f := fun f => by
    rw [hcheck.brg.get id, brg_modBrg, get_reshape]
  obtain ⟨hcnt, hevt⟩ := uvRefreshed_values (b := u.brg) (n := n)
  have hput : ∀ f : Fld, f.addr ≠ R.BRG_FLTCAUSE n → u.brg.get f = s.brg.get f := fun f hf => get_put_ne _ _ _ _ hf
  have hdrive : (u.brg.uvRefreshed n 1).get (F.BRG_BSTAT_DRIVE n) = u.brg.get (F.BRG_BSTAT_DRIVE n) :=
    (BrgState.confined_uvRefreshed (hole := tally n) (fun _ h => h) BrgState.confined_refl).get bstat_not_tally
  refine ⟨?_, (hreg _).trans hevt, (hreg _).trans (hdrive.trans (hput _ (brgReg_ne (by decide))))⟩
  rw [hreg, hcnt, hput _ (brgReg_ne (by decide))]

theorem confined_uvRefresh {p start : Nat} : confined (inPage (P.BRG n)) s (s.uvRefreshEnd n p start) :=
  confined_statusCheck (confined_modBrg
    (fun h => BrgState.confined_modUnit (BrgState.confined_uvRefreshed (fun _ => inPage_tally) h))
    (confined_modUnit (confined_modUnit (confined_put (inPage_brg (by decide)) confined_refl))))

/-- The gates formed anew and a STATUS frame leave what the monitor noted. -/
theorem unit_uvRefresh {p start : Nat} {α : Type} (g : BridgeUnit → α) (hg : ∀ u w, g (u.reported w) = g u)
    (hg' : ∀ u w, g { u with gates := w } = g u) :
    g ((s.uvRefreshEnd n p start).unit n) = g ((s.uvRefreshLow n p start).unit n) := by
  have hreshape : ∀ b : BrgState, g ((b.reshape n).unit n) = g (b.unit n) := fun b =>
    (congrArg g BrgState.unit_modUnit_same).trans (hg' _ _)
  exact (unit_statusCheck g hg).trans ((hreshape _).trans (congrArg g (unit_of_units units_uvRefreshed)))

theorem unit_uvRefreshLow {p start : Nat} : ((s.uvRefreshLow n p start).unit n).uvRuns.get p = (s.unit n).uvRuns.get p + 1 ∧
    ((s.uvRefreshLow n p start).unit n).vbsLow.get p = true ∧
    ((s.uvRefreshLow n p start).unit n).uvAt.get p = (s.unit n).uvAt.get p ++ [(start : Int)] := by
  unfold uvRefreshLow
  rw [unit_modUnit_same, unit_modUnit_same]
  exact ⟨Tri.get_set_same _ _ _, Tri.get_set_same _ _ _, Tri.get_set_same _ _ _⟩
end State

/-- Settles O28: each fault latches and ranks its bridge within the bridge's page; a UV refresh is counted there. -/
theorem bridgeProtection : Obligations.BridgeProtection := by
  unfold Obligations.BridgeProtection
  intro s n p sw k st v af
  have hp3 : p.val < 3 := p.isLt
  refine ⟨fun hoc => ?overcurrent, fun hhi hin hv hv' => ?refresh, fun hn hlow hpre => ?bootuv, ?desat,
    fun hrun hv => ?undervoltage, fun hv => ?overvoltage, fun hk => ?hot, fun hw hk => ?warm⟩
  case overcurrent =>
    obtain ⟨hbit, hdrive⟩ := State.latchFault_bit (s := s) (n := n.val) (m := 2 ^ p.val) (lat := F.BRG_FLTLAT_OC n.val)
      (cause := F.BRG_FLTCAUSE_OC n.val) rfl rfl (by decide : 8 + 3 ≤ 32) hp3 Nat.testBit_two_pow_self
    exact ⟨_, congrArg done (if_pos hoc), hbit, hdrive, (State.confined_latchFault (inPage_brg (by decide))
      (inPage_brg (by decide)) State.confined_refl).frame⟩
  case refresh =>
    obtain ⟨hcnt, hevt, hdrive⟩ := State.uvRefresh_outcome (s := s) (n := n.val) (p := p.val) (start := st)
    obtain ⟨hruns, hvbs, hat⟩ := State.unit_uvRefreshLow (s := s) (n := n.val) (p := p.val) (start := st)
    exact ⟨_, congrArg done (State.bootUndervoltage_low hhi hin hv hv'), hcnt, hevt,
      (State.unit_uvRefresh (fun u => u.uvRuns.get p.val) (fun _ _ => rfl) fun _ _ => rfl).trans hruns,
      (State.unit_uvRefresh (fun u => u.vbsLow.get p.val) (fun _ _ => rfl) fun _ _ => rfl).trans hvbs,
      (State.unit_uvRefresh (fun u => u.uvAt.get p.val) (fun _ _ => rfl) fun _ _ => rfl).trans hat, hdrive,
      State.confined_uvRefresh.frame⟩
  case bootuv =>
    obtain ⟨hbit, hdrive⟩ := State.latchFault_bit (s := s) (n := n.val) (m := 2 ^ p.val) (lat := F.BRG_FLTLAT_BOOTUV n.val)
      (cause := F.BRG_FLTCAUSE_BOOTUV n.val) rfl rfl (by decide : 12 + 3 ≤ 32) hp3 Nat.testBit_two_pow_self
    exact ⟨_, congrArg done (if_pos ⟨hn, hlow, hpre⟩), hbit, hdrive, (State.confined_latchFault
      (inPage_brg (by decide)) (inPage_brg (by decide)) State.confined_refl).frame⟩
  case desat =>
    set u := s.modBrg fun b => b.put (F.BRG_FLTLAT_DESAT n.val) (b.get (F.BRG_FLTLAT_DESAT n.val) ||| 2 ^ sw.val)
    have hbit : (u.brg.rd (R.BRG_FLTLAT n.val)).getLsbD (0 + sw.val) = true :=
      BrgState.getLsbD_put_or (f := F.BRG_FLTLAT_DESAT n.val) (by decide : 0 + 6 ≤ 32) sw.isLt Nat.testBit_two_pow_self
    have hrd : (u.rankUpdate n.val).brg.rd (R.BRG_FLTLAT n.val) = u.brg.rd (R.BRG_FLTLAT n.val) :=
      State.rd_rankUpdate (not_tally (by decide)) (brgReg_ne (by decide))
    have hne : u.brg.get (F.BRG_FLTLAT_DESAT n.val) ≠ 0 := fun h0 => by
      have hfield : (getBits (u.brg.rd (R.BRG_FLTLAT n.val)) 0 6).testBit sw.val = true := by
        rw [getBits_testBit, hbit, decide_eq_true sw.isLt, Bool.and_true]
      rw [show getBits (u.brg.rd (R.BRG_FLTLAT n.val)) 0 6 = 0 from h0, Nat.zero_testBit] at hfield
      cases hfield
    exact ⟨u.rankUpdate n.val, rfl, (congrArg (BitVec.getLsbD · _) hrd).trans hbit, State.drive_desat hne,
      (State.confined_rankUpdate_page (State.confined_modBrg
        (BrgState.confined_put (inPage_brg (by decide))) State.confined_refl)).frame⟩
  case undervoltage =>
    obtain ⟨hlat, hcause, hdrive⟩ := State.supplyMeasured_under hrun hv
    exact ⟨_, rfl, hlat, hcause, hdrive, State.confined_supplyMeasured.frame⟩
  case overvoltage =>
    obtain ⟨hlat, hcause, hdrive⟩ := State.supplyMeasured_over hv
    exact ⟨_, rfl, hlat, hcause, hdrive, State.confined_supplyMeasured.frame⟩
  case hot =>
    obtain ⟨hlat, htemp, hdrive⟩ := State.temperature_over (s := s) (n := n.val) hk k.isLt
    exact ⟨_, rfl, hlat, htemp, hdrive, State.confined_temperature.frame⟩
  case warm =>
    have hbelow := State.confined_temperature_below (s := s) (n := n.val) hk
    have hlat : (s.tempShown n.val k.toNat).brg.rd (R.BRG_FLTLAT n.val) = s.brg.rd (R.BRG_FLTLAT n.val) :=
      (State.confined_tempShown (hole := fun a => a = R.BRG_BSTAT n.val ∨ a = R.BRG_EVT n.val) (.inl rfl)
        (.inr rfl)).brg.regs _ fun h => h.elim (brgReg_ne (by decide)) (brgReg_ne (by decide))
    exact ⟨_, rfl, (hbelow.brg.get (brgReg_ne (by decide))).trans (State.tempShown_warns hw),
      (hbelow.brg.get (brgReg_ne (by decide))).trans (State.tempShown_temp k.isLt),
      (hbelow.brg.regs _ (brgReg_ne (by decide))).trans hlat,
      (hbelow.brg.get (brgReg_ne (by decide))).trans State.tempShown_drive, State.confined_temperature.frame⟩
end Sys2Proof.Machine
end

section
/-! SUPPORT and SETTLED. Enable pins, commutation codes, interlocks, precharge, terminal requests and the PLL (O29). -/
namespace Sys2Proof.Machine
open Sys2Proof

/-- A field of a word that is masked by one in which the field is 0. -/
theorem getBits_and_zero {v w : Word} {lo width : Nat} (h : getBits w lo width = 0) : getBits (v &&& w) lo width = 0 := by
  refine Nat.eq_of_testBit_eq fun i => ?_
  have hw := getBits_testBit w lo width i
  rw [h, Nat.zero_testBit] at hw
  rw [getBits_testBit, BitVec.getLsbD_and, Nat.zero_testBit, Bool.and_left_comm, ← hw, Bool.and_false]

theorem BrgState.refusedGates_values {b : BrgState} {n : Nat} :
    (b.refusedGates n 1).get (F.BRG_INTLKCNT_INTLK n) = min (b.get (F.BRG_INTLKCNT_INTLK n) + 1) 0xFFFF ∧
      (b.refusedGates n 1).get (F.BRG_EVT_INTLK n) = 1 := by
  have hk : confined (· = R.evtCnt (P.BRG n)) ((b.bump (F.BRG_INTLKCNT_INTLK n) 1).put (F.BRG_EVT_INTLK n) 1)
      (b.refusedGates n 1) := confined_countK rfl confined_refl
  refine ⟨?_, ?_⟩
  · rw [hk.get (evtCnt_brg ▸ brgReg_ne (by decide)), get_put_ne _ _ _ _ (brgReg_ne (by decide))]
    exact get_bump_same _ _ _ (by decide : 0 + 16 ≤ 32)
  · rw [hk.get (evtCnt_brg ▸ brgReg_ne (by decide))]
    exact get_put_same _ _ _ (by decide : 0 + 1 ≤ 32)

namespace State
open BrgState
variable {s t : State} {n : Nat} {hole : Nat → Prop} {x : Lane}

/-! ### BEN (R258) -/

/-- The supplies and the temperature are good as BEN rises, and VBS of the phases that `ok` names. -/
def causesGone (s : State) (n : Nat) (ok : BitVec 3) : State :=
  let s := s.modUnit n fun x => { x with vbsLow :=
    ⟨x.vbsLow.u && !ok.getLsbD 0, x.vbsLow.v && !ok.getLsbD 1, x.vbsLow.w && !ok.getLsbD 2⟩ }
  s.modBrg fun b => (((b.put (F.BRG_FLTCAUSE_BOOTUV n) (b.get (F.BRG_FLTCAUSE_BOOTUV n) &&& (7 - ok.toNat))).put
    (F.BRG_FLTCAUSE_VBRUV n) 0).put (F.BRG_FLTCAUSE_VBROV n) 0).put (F.BRG_FLTCAUSE_OTEMP n) 0

/-- Latches whose cause is gone clear; the clear and the refusal are counted. -/
def clearLatches (s : State) (n : Nat) : State :=
  let lat := s.brg.rd (R.BRG_FLTLAT n)
  let stay := lat &&& s.brg.rd (R.BRG_FLTCAUSE n)
  let s := s.modBrg (·.wr (R.BRG_FLTLAT n) stay)
  let s := if lat ≠ stay then s.modBrg (·.bump (F.BRG_CLRCNT_ACC n) 1) else s
  if stay ≠ 0 then
    (s.modBrg fun b => (b.bump (F.BRG_CLRCNT_REF n) 1).put (F.BRG_EVT_CLRREF n) 1).modUnit n
      fun x => { x with evClrref := true }
  else s

/-- BEN is high again and its low time over. -/
def benHigh (s : State) (n : Nat) : State :=
  (s.modBrg (·.put (F.BRG_BSTAT_BEN n) 1)).modUnit n fun x => { x with benLow := false, benOff := false }

theorem benRise_eq {t0 : Nat} : benRise n t0 7 true true true s =
    (if t0 < 2000 then s.benHigh n else ((s.benHigh n).causesGone n 7).clearLatches n).rankUpdate n := rfl

theorem confined_benHigh (hb : hole (R.BRG_BSTAT n)) : confined hole s (s.benHigh n) :=
  confined_modUnit (confined_put hb confined_refl)

theorem benHigh_ben : (s.benHigh n).brg.get (F.BRG_BSTAT_BEN n) = 1 := get_put_same _ _ _ (by decide : 4 + 1 ≤ 32)

theorem benHigh_low : ((s.benHigh n).unit n).benLow = false := congrArg BridgeUnit.benLow unit_modUnit_same

theorem confined_causesGone {ok : BitVec 3} (hc : hole (R.BRG_FLTCAUSE n)) (h : confined hole s t) :
    confined hole s (t.causesGone n ok) := by
  have hput : ∀ {b : BrgState} {f : Fld} {v : Nat}, f.addr = R.BRG_FLTCAUSE n → BrgState.confined hole s.brg b →
      BrgState.confined hole s.brg (b.put f v) := fun hf => BrgState.confined_put (hf ▸ hc)
  unfold causesGone
  exact confined_modBrg (fun h => hput rfl (hput rfl (hput rfl (hput rfl h)))) (confined_modUnit h)

theorem causesGone_low {ok : BitVec 3} : ((s.causesGone n ok).unit n).benLow = (s.unit n).benLow := by
  have hput : ∀ (b : BrgState) (f : Fld) (v : Nat), (b.put f v).unit n = b.unit n := fun _ _ _ => rfl
  unfold causesGone
  rw [unit_modBrg, hput, hput, hput, hput]
  exact (congrArg BridgeUnit.benLow State.unit_modUnit_same).trans rfl

theorem causesGone_causes : (s.causesGone n 7).brg.get (F.BRG_FLTCAUSE_BOOTUV n) = 0 ∧
    (s.causesGone n 7).brg.get (F.BRG_FLTCAUSE_VBRUV n) = 0 ∧ (s.causesGone n 7).brg.get (F.BRG_FLTCAUSE_OTEMP n) = 0 := by
  refine ⟨?_, ?_, ?_⟩
  · refine (get_put_disjoint _ _ _ _ (by decide : 18 + 1 ≤ 32) (.inl (by decide : 12 + 3 ≤ 18))).trans
      ((get_put_disjoint _ _ _ _ (by decide : 17 + 1 ≤ 32) (.inl (by decide : 12 + 3 ≤ 17))).trans
        ((get_put_disjoint _ _ _ _ (by decide : 16 + 1 ≤ 32) (.inl (by decide : 12 + 3 ≤ 16))).trans
          ((get_put_same _ _ _ (by decide : 12 + 3 ≤ 32)).trans ?_)))
    rw [show 7 - (7 : BitVec 3).toNat = 0 from rfl, Nat.and_zero]
    rfl
  · exact (get_put_disjoint _ _ _ _ (by decide : 18 + 1 ≤ 32) (.inl (by decide : 16 + 1 ≤ 18))).trans
      ((get_put_disjoint _ _ _ _ (by decide : 17 + 1 ≤ 32) (.inl (by decide : 16 + 1 ≤ 17))).trans
        (get_put_same _ _ _ (by decide : 16 + 1 ≤ 32)))
  · exact get_put_same _ _ _ (by decide : 18 + 1 ≤ 32)

/-- Once the latches are written, their clear counts elsewhere. -/
theorem confined_clearLatches (hc : hole (R.BRG_CLRCNT n)) (he : hole (R.BRG_EVT n))
    (h : confined hole s (t.modBrg (·.wr (R.BRG_FLTLAT n) (t.brg.rd (R.BRG_FLTLAT n) &&& t.brg.rd (R.BRG_FLTCAUSE n))))) :
    confined hole s (t.clearLatches n) := by
  unfold clearLatches
  extract_lets lat stay s1 s2
  have h2 : confined hole s s2 := confined_ite (confined_modBrg (BrgState.confined_bump hc) h) h
  exact confined_ite (confined_modUnit (confined_modBrg
    (fun h => BrgState.confined_put he (BrgState.confined_bump hc h)) h2)) h2

theorem confined_clearLatches_counts : confined (fun a => a = R.BRG_CLRCNT n ∨ a = R.BRG_EVT n)
    (s.modBrg (·.wr (R.BRG_FLTLAT n) (s.brg.rd (R.BRG_FLTLAT n) &&& s.brg.rd (R.BRG_FLTCAUSE n)))) (s.clearLatches n) :=
  confined_clearLatches (.inl rfl) (.inr rfl) confined_refl

/-- A latch whose cause is gone clears. -/
theorem clearLatches_latch {lat cause : Fld} (hl : lat.addr = R.BRG_FLTLAT n) (hc : cause.addr = R.BRG_FLTCAUSE n)
    (hlo : cause.lo = lat.lo) (hw : cause.width = lat.width) (h : s.brg.get cause = 0) :
    (s.clearLatches n).brg.get lat = 0 := by
  have hrd : (s.clearLatches n).brg.rd (R.BRG_FLTLAT n) = s.brg.rd (R.BRG_FLTLAT n) &&& s.brg.rd (R.BRG_FLTCAUSE n) :=
    (confined_clearLatches_counts.brg.regs _ fun h => h.elim (brgReg_ne (by decide)) (brgReg_ne (by decide))).trans
      (rd_wr_same _ _ _)
  show getBits ((s.clearLatches n).brg.rd lat.addr) lat.lo lat.width = 0
  rw [hl, hrd]
  refine getBits_and_zero ?_
  rw [← hc, ← hlo, ← hw]
  exact h

theorem bstat_clearLatches {f : Fld} (hf : f.addr = R.BRG_BSTAT n) : (s.clearLatches n).brg.get f = s.brg.get f := by
  refine (confined_clearLatches_counts.brg.get fun h => ?_).trans (congrArg (getBits · f.lo f.width) (rd_wr_ne _ _ ?_))
  · rw [hf] at h
    exact h.elim (brgReg_ne (by decide)) (brgReg_ne (by decide))
  · rw [hf]
    exact brgReg_ne (by decide)

theorem samePins_clearLatches : (s.unit n).samePins ((s.clearLatches n).unit n) := by
  unfold clearLatches
  extract_lets lat stay s1 s2
  have h2 : s2.unit n = s.unit n := ite_keeps (Q := fun m => m.unit n = s.unit n) rfl rfl
  split
  · rw [unit_modUnit_same]
    exact ⟨(congrArg BridgeUnit.benLow h2 :), (congrArg BridgeUnit.code h2 :)⟩
  · rw [h2]
    exact ⟨rfl, rfl⟩

/-! ### Precharge (R252) and the interlock (R255) -/

theorem prechargeEnd_outcome (h : s.brg.get (F.BRG_BSTAT_PRE n) = 1) :
    (prechargeEnd n s).brg.get (F.BRG_BSTAT_PRE n) = 0 ∧ (prechargeEnd n s).brg.get (F.BRG_BSTAT_DRIVE n) = 9 ∧
      ((prechargeEnd n s).unit n).live = true ∧ confined (inPage (P.BRG n)) s (prechargeEnd n s) := by
  unfold prechargeEnd
  rw [if_pos h]
  extract_lets s1 s2
  have hend : ∀ {g : State} {hole : Nat → Prop}, (∀ a, tally n a → hole a) → confined hole g s1 →
      confined hole g ((s2.modUnit n fun x => { x with live := true, allLow := false }).statusCheck n) := fun ht h =>
    confined_statusCheck (confined_modUnit (confined_modBrg (confined_setDrive ht) h))
  have htally := hend (fun _ h => h) confined_refl
  refine ⟨(htally.brg.get bstat_not_tally).trans ?_, (htally.brg.get bstat_not_tally).trans ?_, ?_,
    hend (fun _ => inPage_tally) ?_⟩
  · exact (get_put_disjoint _ _ _ _ (by decide : 0 + 4 ≤ 32) (.inr (by decide : 0 + 4 ≤ 13))).trans
      (get_put_same _ _ _ (by decide : 13 + 1 ≤ 32))
  · exact get_put_same _ _ _ (by decide : 0 + 4 ≤ 32)
  · exact (unit_statusCheck BridgeUnit.live fun _ _ => rfl).trans (congrArg BridgeUnit.live unit_modUnit_same)
  · exact confined_modBrg (fun h => BrgState.confined_put (inPage_brg (by decide))
      (BrgState.confined_put (inPage_brg (by decide)) h)) confined_refl

theorem interlock_outcome {p : Nat} (h : (s.unit n).intlk.get p = false) :
    (interlock n p s).brg.get (F.BRG_INTLKCNT_INTLK n) = min (s.brg.get (F.BRG_INTLKCNT_INTLK n) + 1) 0xFFFF ∧
      (interlock n p s).brg.get (F.BRG_EVT_INTLK n) = 1 ∧ ((interlock n p s).unit n).intlk.get p = true ∧
      ((interlock n p s).unit n).gates.get p = [⟨0, false, false⟩] ∧
      confined (inPage (P.BRG n)) s (interlock n p s) := by
  unfold interlock
  rw [h, if_neg Bool.false_ne_true]
  extract_lets s1
  have hcheck : confined (fun _ => False) (s1.modBrg (·.refusedGates n 1)) ((s1.modBrg (·.refusedGates n 1)).statusCheck n) :=
    confined_statusCheck confined_refl
  obtain ⟨hcnt, hevt⟩ := refusedGates_values (b := s1.brg) (n := n)
  have hunit : (s1.modBrg (·.refusedGates n 1)).unit n = s1.unit n := unit_of_units units_refusedGates
  have hs1 : s1.unit n = _ := unit_modUnit_same
  refine ⟨(hcheck.brg.get id).trans hcnt, (hcheck.brg.get id).trans hevt, ?_, ?_,
    confined_statusCheck (confined_modBrg (confined_refusedGates fun _ => inPage_tally) (confined_modUnit confined_refl))⟩
  · refine (unit_statusCheck (fun u => u.intlk.get p) fun _ _ => rfl).trans ?_
    rw [hunit, hs1]
    exact Tri.get_set_same _ _ _
  · refine (unit_statusCheck (fun u => u.gates.get p) fun _ _ => rfl).trans ?_
    rw [hunit, hs1]
    exact Tri.get_set_same _ _ _

/-! ### The commutation pins (R253) -/

/-- The decoder's code of the pins `c`. -/
def codeOf (s : State) (n c : Nat) : Nat := if s.brg.get (F.BRG_COMCFG_PINV n) = 1 then 7 - c else c

theorem recode_outcome : confined (tally n) s (s.recode n) ∧ ((s.recode n).unit n).code = s.codeOf n (s.unit n).pins := by
  unfold recode
  extract_lets pins code
  split
  · next h => exact ⟨confined_refl, h⟩
  · next s1 pinsMode uses s2 r s3 _ =>
    have h1 : confined (tally n) s s1 :=
      confined_modBrg (BrgState.confined_count (.inl rfl)) (confined_modUnit confined_refl)
    have h2 : confined (tally n) s s2 := confined_ite (confined_modUnit (confined_modBrg (fun h =>
      BrgState.confined_put (.inr (.inl rfl)) (BrgState.confined_bump (.inr (.inr (.inl rfl))) h)) h1)) h1
    have h3 : confined (tally n) s s3 := confined_ite (confined_modBrg (confined_setDrive fun _ h => h) h2)
      (confined_ite (confined_modBrg (confined_setDrive fun _ h => h) h2) h2)
    have hc1 : (s1.unit n).code = code := congrArg BridgeUnit.code ((unit_of_units units_count).trans unit_modUnit_same)
    have hc2 : (s2.unit n).code = code :=
      ite_keeps (Q := fun m => (m.unit n).code = code) ((congrArg BridgeUnit.code unit_modUnit_same).trans hc1) hc1
    have hset : ∀ t : BrgState → Tri (PhaseDrive × Bool),
        ((s2.modBrg fun b => b.setDrive n false (t b)).unit n).code = code := fun _ =>
      BrgState.samePins_setDrive.2.trans hc2
    have hc3 : (s3.unit n).code = code := ite_keeps (Q := fun m => (m.unit n).code = code) (hset _)
      (ite_keeps (Q := fun m => (m.unit n).code = code) (hset _) hc2)
    exact ⟨confined_statusCheck h3, samePins_statusCheck.2.trans hc3⟩

/-! ### The terminal request (R259) -/

theorem brgAccepts_holder {d : Nat} (hdev : s.devState = Dev.drive) (hdom : s.domainOf n = some d)
    (hh : s.holderOf d = some x) : s.brgAccepts x (some n) = true := by
  unfold brgAccepts
  dsimp only
  rw [hdev, if_neg (by decide), if_pos rfl, hdom]
  exact decide_eq_true hh

/-! ### Every bridge's rank -/

theorem confined_mono {hole' : Nat → Prop} (hh : ∀ a, hole a → hole' a) (h : confined hole s t) : confined hole' s t :=
  ⟨h.bed, h.laneA, h.laneB, h.brg.mono hh⟩

theorem confined_rankAll (h : confined (· < P.BCOM) s t) : confined (· < P.BCOM) s t.rankAll := by
  refine List.foldlRecOn (motive := confined (· < P.BCOM) s) _ _ h fun u hu m hm => ?_
  have hpage : ∀ a, inPage (P.BRG m) a → a < P.BCOM := fun a ha => by
    have hm8 : m < 8 := List.mem_range.mp hm
    unfold inPage P.BRG at ha
    unfold P.BCOM
    omega
  exact confined_rankUpdate (fun a ha => hpage a (inPage_tally ha)) (hpage _ (inPage_brg (by decide))) hu

/-- A loss of lock that lasts holds every bridge (R243, R267). -/
theorem drive_rankAll (hn : n < 8) (h : s.brg.pllHold = true) : s.rankAll.brg.get (F.BRG_BSTAT_DRIVE n) ≤ 2 := by
  have hhold : ∀ (u : State) (m : Nat), u.brg.pllHold = true → (u.rankUpdate m).brg.pllHold = true := fun u m hu =>
    (confined_rankUpdate (s := u) (hole := fun _ => True) (fun _ _ => trivial) trivial confined_refl).brg.pllHold.trans hu
  obtain ⟨pre, post, hsplit⟩ := List.append_of_mem (List.mem_range.mpr hn)
  unfold rankAll
  rw [hsplit, List.foldl_append, List.foldl_cons]
  have hpre := foldl_keeps (fun u : State => u.brg.pllHold = true) hhold pre s h
  refine (foldl_keeps (fun u : State => u.brg.pllHold = true ∧ u.brg.get (F.BRG_BSTAT_DRIVE n) ≤ 2)
    (fun u m hu => ?_) post _ ⟨hhold _ _ hpre, drive_pllHold hpre⟩).2
  refine ⟨hhold _ _ hu.1, ?_⟩
  by_cases hm : m = n
  · exact hm ▸ drive_pllHold hu.1
  · have hout : (u.rankUpdate m).brg.get (F.BRG_BSTAT_DRIVE n) = u.brg.get (F.BRG_BSTAT_DRIVE n) :=
      (confined_rankUpdate_page (n := m) confined_refl).brg.get (not_inPage_of_ne (Ne.symm hm) (inPage_brg (by decide)))
    exact hout.le.trans hu.2

theorem get_rankAll_bcom {f : Fld} (hf : P.BCOM ≤ f.addr) : s.rankAll.brg.get f = s.brg.get f :=
  (confined_rankAll confined_refl).brg.get (Nat.not_lt.mpr hf)

/-- The loss of lock is one more event of both lanes (R267). -/
theorem events_bcomIrq_raise {k : Nat} :
    ((s.bcomIrq.modLanes (·.raise k)).lane x).events = (s.lane x).events ++ [⟨k, 0⟩] := by
  have hirq : ∀ l : LaneState, (l.irqCycle P.BCOM 3 s.brg.bcomRaw 0).events = l.events := fun l =>
    LaneState.events_irqLatch
  cases x
  · exact congrArg (· ++ _) (hirq s.a)
  · exact congrArg (· ++ _) (hirq s.b)
end State

/-- Settles O29: what an event does to its bridge stands in that bridge's page and mechanisms; the loss of lock ranks every
bridge. -/
theorem bridgePins : Obligations.BridgePins := by
  unfold Obligations.BridgePins
  intro s x n p c t0 m
  refine ⟨?benFall, fun hben => ?benLow, fun ht => ?longLow, fun ht => ?shortLow, fun hpre => ?precharge, ?code,
    fun hin => ?interlock, fun hdev hdom hh => ?request, fun hlock => ?loss, ?lock, fun hs hm => ?straps⟩
  case benFall =>
    have hcheck : State.confined (fun _ => False)
        ((s.modBrg (·.put (F.BRG_BSTAT_BEN n.val) 0)).modUnit n.val fun x => { x with benLow := true }) _ :=
      State.confined_statusCheck (m := n.val) State.confined_refl
    refine ⟨_, rfl, (hcheck.brg.get id).trans (BrgState.get_put_same _ _ _ (by decide : 4 + 1 ≤ 32)), ?_,
      (hcheck.brg.get id).trans (BrgState.get_put_disjoint _ _ _ _ (by decide : 4 + 1 ≤ 32) (.inl (by decide : 0 + 4 ≤ 4))),
      (State.confined_statusCheck (hole := (· = R.BRG_BSTAT n.val))
        (State.confined_modUnit (State.confined_put rfl State.confined_refl))).frame⟩
    exact (State.unit_statusCheck BridgeUnit.benLow fun _ _ => rfl).trans (congrArg BridgeUnit.benLow State.unit_modUnit_same)
  case benLow =>
    obtain ⟨hdrive, hpre⟩ := State.drive_benOff (s := s.modUnit n.val fun x => { x with benOff := true }) (n := n.val)
      (congrArg BridgeUnit.benOff State.unit_modUnit_same)
    exact ⟨_, congrArg done (if_pos hben), hdrive, hpre, State.rd_rankUpdate (not_tally (by decide)) (brgReg_ne (by decide)),
      (State.confined_rankUpdate_page (State.confined_modUnit State.confined_refl)).frame⟩
  case longLow =>
    set u := (s.benHigh n.val).causesGone n.val 7
    have heq : benRise n.val t0 7 true true true s = (u.clearLatches n.val).rankUpdate n.val := by
      rw [State.benRise_eq, if_neg (by omega)]
    have hgone : State.confined (· = R.BRG_FLTCAUSE n.val) (s.benHigh n.val) u :=
      State.confined_causesGone rfl State.confined_refl
    obtain ⟨hboot, huv, hot⟩ := State.causesGone_causes (s := s.benHigh n.val) (n := n.val)
    have hlat : ∀ f : Fld, f.addr = R.BRG_FLTLAT n.val → (u.clearLatches n.val).brg.get f = 0 →
        ((u.clearLatches n.val).rankUpdate n.val).brg.get f = 0 := fun f hf h0 =>
      (congrArg (getBits · f.lo f.width) (hf ▸ State.rd_rankUpdate (not_tally (by decide)) (brgReg_ne (by decide)))).trans h0
    refine ⟨_, congrArg done heq, ?_, ?_,
      hlat _ rfl (State.clearLatches_latch (cause := F.BRG_FLTCAUSE_VBRUV n.val) rfl rfl rfl rfl huv),
      hlat _ rfl (State.clearLatches_latch (cause := F.BRG_FLTCAUSE_OTEMP n.val) rfl rfl rfl rfl hot),
      hlat _ rfl (State.clearLatches_latch (cause := F.BRG_FLTCAUSE_BOOTUV n.val) rfl rfl rfl rfl hboot), ?_⟩
    · exact (State.bstat_rankUpdate rfl (by decide : 4 ≤ 4) (.inl (by decide : 4 + 1 ≤ 13))).trans
        ((State.bstat_clearLatches rfl).trans ((hgone.brg.get (brgReg_ne (by decide))).trans State.benHigh_ben))
    · exact State.samePins_rankUpdate.1.trans (State.samePins_clearLatches.1.trans
        (State.causesGone_low.trans State.benHigh_low))
    · exact (State.confined_rankUpdate_page (State.confined_clearLatches (inPage_brg (by decide)) (inPage_brg (by decide))
        (State.confined_modBrg (BrgState.confined_wr (inPage_brg (by decide))) (State.confined_causesGone
          (inPage_brg (by decide)) (State.confined_benHigh (inPage_brg (by decide))))))).frame
  case shortLow =>
    have heq : benRise n.val t0 7 true true true s = (s.benHigh n.val).rankUpdate n.val := by
      rw [State.benRise_eq, if_pos ht]
    have hhigh : State.confined (· = R.BRG_BSTAT n.val) s (s.benHigh n.val) := State.confined_benHigh rfl
    exact ⟨_, congrArg done heq,
      (State.bstat_rankUpdate rfl (by decide : 4 ≤ 4) (.inl (by decide : 4 + 1 ≤ 13))).trans State.benHigh_ben,
      (State.rd_rankUpdate (not_tally (by decide)) (brgReg_ne (by decide))).trans (hhigh.brg.regs _ (brgReg_ne (by decide))),
      (State.confined_rankUpdate_page (State.confined_benHigh (inPage_brg (by decide)))).frame⟩
  case precharge =>
    obtain ⟨hend, hdrive, hlive, hframe⟩ := State.prechargeEnd_outcome hpre
    exact ⟨_, rfl, hend, hdrive, hlive, hframe.frame⟩
  case code =>
    obtain ⟨hrec, hcode⟩ := State.recode_outcome (s := s.modUnit n.val fun x => { x with pins := c.val }) (n := n.val)
    have hpins : ((s.modUnit n.val fun x => { x with pins := c.val }).unit n.val).pins = c.val :=
      congrArg BridgeUnit.pins State.unit_modUnit_same
    refine ⟨_, rfl, hcode.trans ?_, hrec.brg.get State.bstat_not_tally,
      (State.confined_mono (fun _ => inPage_tally) hrec).frame⟩
    rw [hpins]
    rfl
  case interlock =>
    obtain ⟨hcnt, hevt, hlock, hgates, hframe⟩ := State.interlock_outcome hin
    exact ⟨_, rfl, hcnt, hevt, hlock, hgates, hframe.frame⟩
  case request =>
    have heq : terminalRequest x n.val 0x7E81 s = s.modUnit n.val fun u => { u with treq := true } := by
      unfold terminalRequest
      rw [State.brgAccepts_holder hdev hdom hh, if_neg (by decide), if_neg (by decide), if_pos hdev]
    exact ⟨_, congrArg done heq, congrArg BridgeUnit.treq State.unit_modUnit_same, rfl, rfl, rfl, rfl⟩
  case loss =>
    set u := (s.modBrg fun b => { b.put F.BCOM_TBSTAT_LOCK 0 with pllHold := true }).bcomIrq.modLanes (·.raise 210)
    have hall : State.confined (· < P.BCOM) u u.rankAll := State.confined_rankAll State.confined_refl
    refine ⟨u.rankAll, congrArg done (if_pos hlock), ?_, hall.brg.pllHold, State.drive_rankAll n.isLt rfl, ?_, hall.bed⟩
    · exact (State.get_rankAll_bcom (by decide)).trans (BrgState.get_put_same _ _ _ (by decide : 0 + 1 ≤ 32))
    · exact hall.lane.events.trans State.events_bcomIrq_raise
  case lock =>
    set u := (s.modBrg fun b => { b.put F.BCOM_TBSTAT_LOCK 1 with locked := true }).bcomIrq
    have hall : State.confined (· < P.BCOM) u u.rankAll := State.confined_rankAll State.confined_refl
    exact ⟨u.rankAll, rfl,
      (State.get_rankAll_bcom (by decide)).trans (BrgState.get_put_same _ _ _ (by decide : 0 + 1 ≤ 32)), hall.brg.locked,
      fun hhold => State.drive_rankAll n.isLt hhold, hall.bed⟩
  case straps =>
    set u := s.modBrg fun b => { b.put F.BCOM_STRAPS_ORPH (m.foldl (· &&& ·) 0xFF).toNat with strapped := true }
    have heq : strapSample m s = u.rankAll := by
      unfold strapSample
      rw [hs, if_neg Bool.false_ne_true, if_pos hm]
    have hall : State.confined (· < P.BCOM) u u.rankAll := State.confined_rankAll State.confined_refl
    refine ⟨u.rankAll, congrArg done heq, ?_, hall.brg.strapped, hall.bed, hall.laneA.regs, hall.laneB.regs⟩
    exact (State.get_rankAll_bcom (by decide)).trans ((BrgState.get_put_same _ _ _ (by decide : 0 + 8 ≤ 32)).trans
      (Nat.mod_eq_of_lt (m.foldl (· &&& ·) 0xFF).isLt))
end Sys2Proof.Machine
end

section
/-! SUPPORT and SETTLED. The master timebase and the conversion of the currents (O11). -/
namespace Sys2Proof.Machine
open Sys2Proof

/-! ### Numbers -/

/-- A 16-bit word as a signed number, within the range of a sample, and as a word again. -/
theorem ofSigned_sat16_toSigned (raw : Half) : ofSigned 16 (sat16 (toSigned 16 raw.toNat - toSigned 16 0)) = raw.toNat := by
  have hlt : raw.toNat < 65536 := raw.isLt
  have hzero : toSigned 16 0 = 0 := rfl
  unfold ofSigned sat16
  rw [hzero]
  unfold toSigned
  split
  · omega
  · omega

/-! ### The bridge die -/

namespace BrgState
variable {b : BrgState} {n i k cnt : Nat} {raw : Half} {f : Fld}

/-- One channel's conversion writes its sample and the live cause of its bridge. -/
theorem confined_sampleChannel : confined (fun a => a = R.BRG_FLTCAUSE (k / 3) ∨ a = R.BRG_CSLAST (k / 3) (k % 3)) b
    (sampleChannel b k cnt raw) := by
  unfold sampleChannel
  extract_lets n p v b1 th u oc m b2 run b3
  have h1 : confined (fun a => a = R.BRG_FLTCAUSE (k / 3) ∨ a = R.BRG_CSLAST (k / 3) (k % 3)) b b1 :=
    confined_put (.inr rfl) (confined_put (.inr rfl) confined_refl)
  exact confined_ite (confined_modUnit (confined_put (.inl rfl) h1))
    (confined_modUnit (confined_ite (confined_put (.inl rfl) h1) h1))

theorem cslast_ne_fltcause {m : Nat} (hi : i < 3) : R.BRG_CSLAST n i ≠ R.BRG_FLTCAUSE m := by
  unfold R.BRG_CSLAST R.BRG_FLTCAUSE
  omega

theorem cslast_ne {m j : Nat} (hi : i < 3) (hj : j < 3) (h : ¬(m = n ∧ j = i)) : R.BRG_CSLAST n i ≠ R.BRG_CSLAST m j := by
  unfold R.BRG_CSLAST
  omega

theorem cscfg_ne {m j : Nat} : R.BRG_CSCFG n i ≠ R.BRG_FLTCAUSE m ∧ R.BRG_CSCFG n i ≠ R.BRG_CSLAST m j := by
  unfold R.BRG_CSCFG R.BRG_FLTCAUSE R.BRG_CSLAST
  omega

theorem offs_sampleChannel :
    (sampleChannel b k cnt raw).get (F.BRG_CSCFG_OFFS n i) = b.get (F.BRG_CSCFG_OFFS n i) :=
  confined_sampleChannel.get fun h => h.elim (cscfg_ne (m := k / 3) (j := k % 3)).1 cscfg_ne.2

/-- Channel `i` of bridge `n` shows the sample `raw` and the sample counter `cnt`. -/
def shows (b : BrgState) (n i : Nat) (raw : Half) (cnt : Nat) : Prop :=
  b.get (F.BRG_CSLAST_SAMPLE n i) = raw.toNat ∧ b.get (F.BRG_CSLAST_CNT n i) = cnt % 512

theorem shows_put {v : Nat} (hv : v = raw.toNat) :
    ((b.put (F.BRG_CSLAST_SAMPLE n i) v).put (F.BRG_CSLAST_CNT n i) cnt).shows n i raw cnt := by
  refine ⟨(get_put_disjoint _ _ _ _ (by decide : 16 + 9 ≤ 32) (.inl (by decide : 0 + 16 ≤ 16))).trans
    ((get_put_same _ _ _ (by decide : 0 + 16 ≤ 32)).trans ?_), get_put_same _ _ _ (by decide : 16 + 9 ≤ 32)⟩
  rw [hv]
  exact Nat.mod_eq_of_lt raw.isLt

theorem shows_putCause {m v : Nat} (hi : i < 3) (h : b.shows n i raw cnt) :
    (b.put (F.BRG_FLTCAUSE_OC m) v).shows n i raw cnt :=
  ⟨(get_put_ne _ _ _ _ (cslast_ne_fltcause hi)).trans h.1, (get_put_ne _ _ _ _ (cslast_ne_fltcause hi)).trans h.2⟩

theorem shows_modUnit {m : Nat} {g : BridgeUnit → BridgeUnit} (h : b.shows n i raw cnt) :
    (b.modUnit m g).shows n i raw cnt := h

/-- Without an offset a channel shows the sample as it came (R261). -/
theorem shows_sampleChannel_same (h : b.get (F.BRG_CSCFG_OFFS (k / 3) (k % 3)) = 0) :
    (sampleChannel b k cnt raw).shows (k / 3) (k % 3) raw cnt := by
  have hi : k % 3 < 3 := Nat.mod_lt _ (by decide)
  unfold sampleChannel
  extract_lets n p v b1 th u oc m b2 run b3
  have hv : ofSigned 16 v = raw.toNat :=
    (congrArg (fun o => ofSigned 16 (sat16 (toSigned 16 raw.toNat - toSigned 16 o))) h).trans (ofSigned_sat16_toSigned raw)
  have h1 : b1.shows (k / 3) (k % 3) raw cnt := shows_put hv
  split
  · exact shows_modUnit (shows_putCause hi h1)
  · refine shows_modUnit ?_
    show (if 16 ≤ run then _ else b1).shows _ _ _ _
    split
    · exact shows_putCause hi h1
    · exact h1

theorem shows_sampleChannel_ne {raw' : Half} (hi : i < 3) (hne : ¬(k / 3 = n ∧ k % 3 = i)) (h : b.shows n i raw cnt) :
    (sampleChannel b k cnt raw').shows n i raw cnt := by
  have hout : ¬(R.BRG_CSLAST n i = R.BRG_FLTCAUSE (k / 3) ∨ R.BRG_CSLAST n i = R.BRG_CSLAST (k / 3) (k % 3)) := fun h =>
    h.elim (cslast_ne_fltcause hi) (cslast_ne hi (Nat.mod_lt _ (by decide)) hne)
  exact ⟨(confined_sampleChannel.get hout).trans h.1, (confined_sampleChannel.get hout).trans h.2⟩

/-- The conversion of all channels (R260). -/
def converted (b : BrgState) (samples : List Half) (cnt : Nat) : BrgState :=
  (List.range 24).foldl (fun b k => sampleChannel b k cnt (samples.getD k 0)) b

theorem sampleK_converted {samples : List Half} : (b.converted samples cnt).sampleK = b.sampleK :=
  foldl_keeps (fun c : BrgState => c.sampleK = b.sampleK) (fun _ _ h => confined_sampleChannel.sampleK.trans h) _ _ rfl

/-- Each channel is converted once, and what another one writes leaves its sample. -/
theorem shows_converted {samples : List Half} (hn : n < 8) (hi : i < 3) (h : b.get (F.BRG_CSCFG_OFFS n i) = 0) :
    (b.converted samples cnt).shows n i (samples.getD (3 * n + i) 0) cnt := by
  have hdiv : (3 * n + i) / 3 = n ∧ (3 * n + i) % 3 = i := by omega
  obtain ⟨pre, post, hsplit⟩ := List.append_of_mem (List.mem_range.mpr (by omega : 3 * n + i < 24))
  have hsame : ∀ c : BrgState, c.get (F.BRG_CSCFG_OFFS n i) = 0 → (sampleChannel c (3 * n + i) cnt
      (samples.getD (3 * n + i) 0)).shows n i (samples.getD (3 * n + i) 0) cnt := fun c hc => by
    have hs := shows_sampleChannel_same (b := c) (k := 3 * n + i) (cnt := cnt) (raw := samples.getD (3 * n + i) 0)
    rw [hdiv.1, hdiv.2] at hs
    exact hs hc
  unfold converted
  rw [hsplit, List.foldl_append, List.foldl_cons]
  have hpre := foldl_keeps (fun c : BrgState => c.get (F.BRG_CSCFG_OFFS n i) = 0)
    (f := fun b k => sampleChannel b k cnt (samples.getD k 0)) (fun _ _ hc => offs_sampleChannel.trans hc) pre b h
  refine (foldl_keeps (fun c : BrgState => c.get (F.BRG_CSCFG_OFFS n i) = 0 ∧
    c.shows n i (samples.getD (3 * n + i) 0) cnt) (fun c k hc => ⟨offs_sampleChannel.trans hc.1, ?_⟩) post _
    ⟨offs_sampleChannel.trans hpre, hsame _ hpre⟩).2
  by_cases hk : k / 3 = n ∧ k % 3 = i
  · obtain rfl : k = 3 * n + i := by omega
    exact hsame c hc.1
  · exact shows_sampleChannel_ne hi hk hc.2

/-- The sample counter goes forward (R262). -/
def nextSample (b : BrgState) : BrgState := { b with sampleK := b.sampleK + 1 }

theorem get_nextSample : b.nextSample.get f = b.get f := rfl

/-- The bridge die after a conversion. -/
def conversionEnd (b : BrgState) (samples : List Half) : BrgState := (b.converted samples (b.sampleK % 512)).nextSample

theorem sampleK_conversionEnd {samples : List Half} : (b.conversionEnd samples).sampleK = b.sampleK + 1 :=
  congrArg (· + 1) sampleK_converted

theorem count_eq_regs {p : Nat} : ∃ r, b.count p k = { b with regs := r } := by
  unfold count
  split
  · exact ⟨_, rfl⟩
  · exact ⟨b.regs, rfl⟩
/-- The bridge die once a master period has begun, before its count is shown (R245, R531). -/
def periodBegun (b : BrgState) (k : Nat) : BrgState := { b with
  pcnt := k, fresh := false, sampleK := 0, rxA := { b.rxA with due := true }, rxB := { b.rxB with due := true } }

/-- The bridge die once the period is counted. -/
def periodCounted (b : BrgState) (k : Nat) : BrgState :=
  ((b.periodBegun k).put F.BCOM_TBSTAT_PCNT (k % 2 ^ 24)).count P.BCOM 1

theorem periodCounted_outcome : (b.periodCounted k).pcnt = k ∧ (b.periodCounted k).sampleK = 0 ∧
    (b.periodCounted k).rxA.due = true ∧ (b.periodCounted k).rxB.due = true ∧ (b.periodCounted k).pllHold = b.pllHold := by
  obtain ⟨r, hr⟩ := count_eq_regs (b := (b.periodBegun k).put F.BCOM_TBSTAT_PCNT (k % 2 ^ 24)) (p := P.BCOM) (k := 1)
  rw [periodCounted, hr]
  exact ⟨rfl, rfl, rfl, rfl, rfl⟩

theorem pcnt_periodCounted : (b.periodCounted k).get F.BCOM_TBSTAT_PCNT = k % 2 ^ 24 :=
  (get_count (by decide)).trans ((get_put_same _ _ _ (by decide : 8 + 24 ≤ 32)).trans (Nat.mod_mod _ _))

end BrgState

/-! ### Frames to both lanes (R32) -/

namespace State
open BrgState
variable {s : State} {typ m arg : Nat} {pay : List Half} {hole : Nat → Prop}

theorem blUp_sendUpBoth : ∃ u v,
    (s.sendUpBoth typ m arg pay).a.links.blUp = s.a.links.blUp ++ [blHeader typ m arg :: pay ++ [u]] ∧
    (s.sendUpBoth typ m arg pay).b.links.blUp = s.b.links.blUp ++ [blHeader typ m arg :: pay ++ [v]] := ⟨_, _, rfl, rfl⟩

/-- Frames to the lanes leave the timebase and the receivers. -/
theorem timebase_sendUpBoth : (s.sendUpBoth typ m arg pay).brg.pcnt = s.brg.pcnt ∧
    (s.sendUpBoth typ m arg pay).brg.sampleK = s.brg.sampleK ∧ (s.sendUpBoth typ m arg pay).brg.rxA = s.brg.rxA ∧
    (s.sendUpBoth typ m arg pay).brg.rxB = s.brg.rxB := ⟨rfl, rfl, rfl, rfl⟩

/-- The CURRENT frame of each bridge (R262). -/
def sendCurrents (s : State) (cnt : Nat) (ns : List Nat) : State :=
  ns.foldl (fun (s : State) n =>
    s.sendUpBoth 8 n cnt ((List.range 3).map fun p => BitVec.ofNat 16 (s.brg.get (F.BRG_CSLAST_SAMPLE n p)))) s

theorem confined_sendCurrents {cnt : Nat} {ns : List Nat} : confined hole s (s.sendCurrents cnt ns) :=
  foldl_keeps (confined hole s) (fun _ _ => confined_sendUpBoth) ns s confined_refl

theorem length_blUp_sendCurrents {cnt : Nat} {ns : List Nat} :
    (s.sendCurrents cnt ns).a.links.blUp.length = s.a.links.blUp.length + ns.length ∧
      (s.sendCurrents cnt ns).b.links.blUp.length = s.b.links.blUp.length + ns.length := by
  induction ns generalizing s with
  | nil => exact ⟨rfl, rfl⟩
  | cons n ns ih =>
    obtain ⟨u, v, hA, hB⟩ := blUp_sendUpBoth (s := s) (typ := 8) (m := n) (arg := cnt)
      (pay := (List.range 3).map fun p => BitVec.ofNat 16 (s.brg.get (F.BRG_CSLAST_SAMPLE n p)))
    have hs : s.sendCurrents cnt (n :: ns) = (s.sendUpBoth 8 n cnt ((List.range 3).map fun p =>
      BitVec.ofNat 16 (s.brg.get (F.BRG_CSLAST_SAMPLE n p)))).sendCurrents cnt ns := rfl
    rw [hs, ih.1, ih.2, hA, hB, List.length_append, List.length_append, List.length_cons (as := ns)]
    exact ⟨Nat.add_right_comm _ _ _, Nat.add_right_comm _ _ _⟩

theorem currentConversion_eq {samples : List Half} (h : s.brg.get (F.running P.BCOM) = 1) :
    currentConversion samples s =
      (s.modBrg (·.conversionEnd samples)).sendCurrents (s.brg.sampleK % 512) (List.range 8) := by
  unfold currentConversion
  rw [if_neg (by omega)]
  rfl

/-- A master boundary of a running timebase that no loss of lock holds. -/
theorem masterBoundary_eq (hrun : s.brg.get (F.running P.BCOM) = 1) (hfresh : s.brg.fresh = false)
    (hhold : s.brg.pllHold = false) : masterBoundary s =
      (s.modBrg (·.periodCounted ((s.brg.pcnt + 1) % 2 ^ 25))).sendUpBoth 9 0 ((s.brg.pcnt + 1) % 2 ^ 25 % 512)
        [BitVec.ofNat 16 ((s.brg.pcnt + 1) % 2 ^ 25 / 512)] := by
  obtain ⟨-, -, -, -, hpll⟩ := periodCounted_outcome (b := s.brg) (k := (s.brg.pcnt + 1) % 2 ^ 25)
  have hheld : ((s.modBrg (·.periodCounted ((s.brg.pcnt + 1) % 2 ^ 25))).sendUpBoth 9 0
      ((s.brg.pcnt + 1) % 2 ^ 25 % 512) [BitVec.ofNat 16 ((s.brg.pcnt + 1) % 2 ^ 25 / 512)]).brg.pllHold = false :=
    ((confined_sendUpBoth (hole := fun _ => False) confined_refl).brg.pllHold.trans hpll).trans hhold
  unfold masterBoundary
  rw [if_neg (by omega), hfresh]
  dsimp only
  exact if_neg fun h => Bool.noConfusion (hheld.symm.trans h.1)
end State

/-- Settles O11: the frames leave the registers, and the channels' samples stand apart. -/
theorem masterTimebase : Obligations.MasterTimebase := by
  unfold Obligations.MasterTimebase
  intro s samples
  refine ⟨fun hrun hoff hlock => ?start, fun hrun hfresh hhold => ?boundary, fun hrun => ?conversion⟩
  case start =>
    refine ⟨_, congrArg done (if_pos ⟨hrun, hoff, hlock⟩), ?_, rfl, fun a ha => ?_, rfl, rfl, rfl⟩
    · exact BrgState.get_put_same _ _ _ (by decide : 0 + 1 ≤ 32)
    · exact BrgState.rd_put_ne ha
  case boundary =>
    set k := (s.brg.pcnt + 1) % 2 ^ 25
    set u := s.modBrg (·.periodCounted k)
    have hbrg : u.brg = s.brg.periodCounted k := State.brg_modBrg _ _
    have hsent : State.confined (fun _ => False) u (u.sendUpBoth 9 0 (k % 512) [BitVec.ofNat 16 (k / 512)]) :=
      State.confined_sendUpBoth State.confined_refl
    obtain ⟨hp, hK, hA, hB, -⟩ := BrgState.periodCounted_outcome (b := s.brg) (k := k)
    obtain ⟨hp', hK', hA', hB'⟩ := State.timebase_sendUpBoth (s := u) (typ := 9) (m := 0) (arg := k % 512)
      (pay := [BitVec.ofNat 16 (k / 512)])
    obtain ⟨v, w, hupA, hupB⟩ := State.blUp_sendUpBoth (s := u) (typ := 9) (m := 0) (arg := k % 512)
      (pay := [BitVec.ofNat 16 (k / 512)])
    rw [hbrg] at hp' hK' hA' hB'
    refine ⟨_, congrArg done (State.masterBoundary_eq hrun hfresh hhold), hp'.trans hp, ?_, hK'.trans hK,
      (congrArg LinkRx.due hA').trans hA, (congrArg LinkRx.due hB').trans hB, ?_, ?_, ?_, hsent.laneA.regs, hsent.laneB.regs,
      hsent.bed⟩
    · rw [hsent.brg.get id, hbrg, BrgState.pcnt_periodCounted]
      exact Nat.mod_mod_of_dvd _ (by decide)
    · rw [hupA, List.length_append]
      rfl
    · rw [hupB, List.length_append]
      rfl
    · rw [hupA, List.getLastD_concat, ← Nat.mod_mod_of_dvd (s.brg.pcnt + 1) (by decide : 512 ∣ 2 ^ 25)]
      rfl
  case conversion =>
    set u := s.modBrg (·.conversionEnd samples)
    have hbrg : u.brg = s.brg.conversionEnd samples := State.brg_modBrg _ _
    have hsent : State.confined (fun _ => False) u (u.sendCurrents (s.brg.sampleK % 512) (List.range 8)) :=
      State.confined_sendCurrents
    obtain ⟨hA, hB⟩ := State.length_blUp_sendCurrents (s := u) (cnt := s.brg.sampleK % 512) (ns := List.range 8)
    refine ⟨_, congrArg done (State.currentConversion_eq hrun), ?_, hA, hB, fun n i hn hi hoffs => ?_, hsent.laneA.regs,
      hsent.laneB.regs, hsent.bed⟩
    · rw [hsent.brg.sampleK, hbrg, BrgState.sampleK_conversionEnd]
    · obtain ⟨hsample, hcnt⟩ := BrgState.shows_converted (cnt := s.brg.sampleK % 512) (samples := samples) hn hi hoffs
      rw [hsent.brg.get id, hsent.brg.get id, hbrg, BrgState.conversionEnd, BrgState.get_nextSample, BrgState.get_nextSample]
      exact ⟨hsample, hcnt.trans (Nat.mod_mod _ _)⟩
end Sys2Proof.Machine
end
